-- ==== Sys2Proof/Word.lean ====
section
/-! DEFINITION. The words of the block: bytes, and the index ranges the spec numbers its parts by. -/

namespace Sys2Proof

/-- One byte of a command entry, of a message or of a buffer (R6: multi-byte values are little-endian). -/
abbrev Byte := BitVec 8

/-- Command ring n, 0–255 (R131). -/
abbrev Ring := Fin 256
/-- Sheaf s, 0–63 (R16). -/
abbrev Sheaf := Fin 64
/-- Engine site k, 0–63 (R40). -/
abbrev Site := Fin 64
/-- Lane l = 8s + i, 0–511 (the table of device names). -/
abbrev Lane := Fin 512
/-- Gallery g, 0–67 (R16). -/
abbrev Gallery := Fin 68
/-- Port p = 8s + i0, 0–511 (R287). -/
abbrev Port := Fin 512
/-- Hall h, 0–1 (R16). -/
abbrev Hall := Fin 2
/-- Corridor c, 0–23 (R21). -/
abbrev Corridor := Fin 24
/-- Domain D = KIND × 256 + INDEX (R425, R444). -/
abbrev Dom := Fin 1280

end Sys2Proof
end

