-- ==== Sys2Proof/Syntax.lean ====
section
/-! DEFINITION. The commands of the block: one constructor for each row of the opcode table, with the operands its rule
names. A host opcode's row names the ring whose next accepted command is dispatched; the command itself came with
SQ_DOORBELL, as the 64-byte entry of R134. Everything else is an event of a pin, a link, a timer or a bus, and carries
what the outside world supplies. -/

namespace Sys2Proof

/-- A command entry as the CL512 fetched it (R134), with its pointer buffer (R135). -/
structure Cmd where
  opcode  : Nat
  ptr     : Bool
  wake    : Bool
  stage   : Bool
  noirq   : Bool
  rsvd    : Nat
  tag     : Nat
  landing : Nat
  aux     : Nat
  seq     : Nat
  payload : List Byte
  gmac    : BitVec 128
  buf     : List Byte
  deriving DecidableEq, Repr, Inhabited

/-- The three sources of a host reset (R152). -/
inductive HostResetKind where
  | perst | flr | d3hotExit
  deriving DecidableEq, Repr

/-- The three ring geometry registers of BAR2 (R131). -/
inductive GeoReg where
  | sqBase | cqBase | size
  deriving DecidableEq, Repr

/-- How a boot that resumes at step 2 of R82 fares in its fuse read and its known-answer tests (R88, R115). -/
inductive BootTest where
  | pass | fuseFail | katFail
  deriving DecidableEq, Repr

/-- The configuration registers whose values R126 and R127 give, by what they hold. -/
inductive CfgReg where
  | ids | revClass | subsystem | bar0 | bar0Hi | bar2 | bar2Hi | bar4 | rom | devCap | devCtl | devCap3 | pmCap | pmCtl
  | msixCtl | msixTable | msixPba | aerCap | sriovCap
  deriving DecidableEq, Repr

/-- A PCIe configuration request. -/
inductive CfgReq where
  | read (r : CfgReg)
  | write (r : CfgReg) (v : BitVec 32)
  deriving DecidableEq, Repr

/-- A punt descriptor from the host, with the frame in its buffer (R150). -/
structure PuntDesc where
  len    : Nat
  mode   : Bool
  target : Nat
  frame  : List Byte
  deriving DecidableEq, Repr

/-- The data formats a lane may find (R246). -/
inductive Format where
  | standard | native | loaded | training
  deriving DecidableEq, Repr

/-- A training frame received, but for its message type and body, which come with the command (R249). -/
structure TrnHdr where
  marker  : BitVec 64
  version : Nat
  phase   : Nat
  probe   : Nat
  seq     : Nat
  ack     : Nat
  fill    : List Byte
  crc     : BitVec 32
  deriving DecidableEq, Repr

/-- Body of a HELLO (R251). -/
structure HelloBody where
  mode : Nat
  nativeCap : Bool
  loadedCap : Bool
  minTier : Nat
  version : Nat
  serialLo : Nat
  sheaf : Nat
  lane : Nat
  deriving DecidableEq, Repr

/-- What the outer decoder found in one codeword (R282). -/
structure CwResult where
  uncorr   : Bool
  symbols  : Nat
  bits     : Nat
  innerFlip : Nat
  deriving DecidableEq, Repr

/-- A frame at the MAC receiver (R290, R293). -/
structure RxFrame where
  len      : Nat
  /-- The frame's bytes, as the gallery sees them. -/
  data     : List Byte
  fcsOk    : Bool
  codeErr  : Bool
  mkpdu    : Bool
  tagged   : Bool
  sci      : Option Nat
  an       : Nat
  pn       : Nat
  icvOk    : Bool
  deriving DecidableEq, Repr

/-- A 64b/66b block of the MAC stream (R263): a data block, or a control block with its type in its first byte. -/
structure PcsBlock where
  data    : Bool
  payload : BitVec 64
  deriving DecidableEq, Repr

/-- A state of a parse graph (R325). `take`: bytes, by offset from the state's position, and the containers they go to;
`look`: offsets of the bytes that choose the next state; `next`: mask, value, bytes to advance, next state. -/
structure ParseState where
  take : List (Nat × Nat)
  look : List Nat
  next : List (Nat × Nat × Nat × Nat)
  deriving DecidableEq, Repr, Inhabited

/-- The operations of an action unit (R327). -/
inductive AluOp where
  | copy | set | add | sub | addc | satAdd | satSub | and | or | xor | not | shl | shr | min | max | eq | ne | lt | gt
  deriving DecidableEq, Repr

/-- A source of an action unit: a container, an immediate, or a byte of the action data (R327). -/
inductive AluSrc where
  | cont (c : Nat)
  | imm (v : Nat)
  | data (k : Nat)
  deriving DecidableEq, Repr

/-- What an operation is conditioned on: a predicate bit of an earlier one of the step, or a container bit (R327). -/
inductive AluCond where
  | always
  | pred (n : Nat) (v : Bool)
  | bit (c k : Nat) (v : Bool)
  deriving DecidableEq, Repr

/-- One operation of 1 to 8 chained action units, least significant byte first (R327, R328): the units' two sources and
destination, the shift distance, its condition, and the container bits that hand a carry, borrow or compare state on. -/
structure AluChain where
  op       : AluOp
  units    : List (AluSrc × AluSrc × Nat)
  sh       : Nat
  cond     : AluCond
  carryIn  : Option (Nat × Nat)
  carryOut : Option (Nat × Nat)
  deriving DecidableEq, Repr

/-- The functions of a hash unit (R329). -/
inductive HashKind where
  | crc32 | crc32c | crc16 | fold
  deriving DecidableEq, Repr

/-- A hash unit of a step (R329): its containers, its seed and the first of the four containers it writes. -/
structure HashUnit where
  kind : HashKind
  seed : Nat
  src  : List Nat
  dst  : Nat
  deriving DecidableEq, Repr

/-- A match unit of a step (R326, R329): the table, the key's containers, and for each hit bit and action index the action
program of its own that they select. -/
structure MatchUnit where
  table : Nat
  key   : List Nat
  sel   : List (Bool × Nat × Nat)
  progs : List (List AluChain)
  deriving DecidableEq, Repr

/-- A step of a flight (R326 to R329). -/
structure GalStep where
  mus    : List MatchUnit
  hashes : List HashUnit
  acts   : List AluChain
  deriving DecidableEq, Repr

/-- The program of one flight as the image's PARSER and INGRESS or EGRESS bodies state it, in decoded form: the manual does
not give how their bytes spell it. `insert`: containers put in front of the frame; `remove`: bytes taken from its front;
`reparse`: a recirculated packet is parsed anew (R338). -/
structure Flight where
  parser  : List ParseState
  steps   : List GalStep
  insert  : List Nat
  remove  : Nat
  reparse : Bool
  /-- A hardware drop reason that arose in the flight, 0 none (R337). -/
  hwDrop  : Nat
  /-- Poisoned blocks its lookups met: table and block (R363). -/
  poison  : List (Nat × Nat)
  /-- Uncorrectable errors its lookups met in a table SRAM replica: table, block, base and prefix length (R362). -/
  sramErr : List (Nat × Nat × Nat × Nat)
  /-- Tables in Granary whose lookups ended in SRAM: above the leaf, or in a pinned range (R347, R348). -/
  sram    : List Nat
  /-- The transfer of a punted frame to host memory succeeds (R150). -/
  puntOk  : Bool
  deriving DecidableEq, Repr

/-- What the ingress or egress flight wrote in its Result fields (R324), and whether a hardware drop reason holds. -/
structure FlightResult where
  hwDrop  : Nat
  drop    : Nat
  punt    : Bool
  copy    : Bool
  puntQ   : Fin 64
  reason  : Nat
  recirc  : Bool
  mirror  : Option (Fin 16)
  queue   : Nat
  tc      : Nat
  cls     : Nat
  /-- The frame as the flight left it, and its length. -/
  frame   : List Byte
  len     : Nat
  tsKind  : Nat
  /-- TS_OFFSET of c43–c44: byte offset of the IEEE 1588 common header in the frame (R324, R167). -/
  tsOff   : Nat
  hits    : List (Nat × Nat)
  /-- Tables of the lookups that resolved in table SRAM. -/
  sram    : List Nat
  poison  : List (Nat × Nat)
  sramErr : List (Nat × Nat × Nat × Nat)
  puntOk  : Bool
  deriving DecidableEq, Repr

/-- One entry of an MKA peer's view, as the security processor takes it from an MKPDU (R118, R296). -/
structure Mkpdu where
  /-- The bytes its ICV covers, and that ICV. -/
  body      : List Byte
  icv       : BitVec 128
  peerSci   : Nat
  peerPrio  : Nat
  liveHere  : Bool
  /-- Key number, AN and wrapped SAK of a Distributed SAK parameter set. -/
  newSak    : Option (Nat × Nat × List Byte)
  installed : Bool
  /-- The peer transmits under its newest SAK. -/
  usesNew   : Bool
  deriving DecidableEq, Repr

/-- What a test slice of gleaning found (R469). -/
inductive SliceEnd where
  | pass | fail | aborted
  deriving DecidableEq, Repr

/-- The target of a gleaning slice (R465): class, index, direction. -/
structure GleanTarget where
  cls : Nat
  idx : Nat
  dir : Nat
  deriving DecidableEq, Repr

/-- What a word or block that winnowing reads belongs to (R457, R460). -/
inductive WinnowPlace where
  /-- Nothing the rules single out. -/
  | plain
  /-- A block of table t: the base and prefix length of the range it covers (R363). -/
  | table (t : Fin 256) (base plen : Nat)
  /-- A block of counter pairs, the first of them at an index (R354). -/
  | counters (first : Nat)
  /-- Step memory of gallery g (R340). -/
  | stepMemory (g : Gallery)
  deriving DecidableEq, Repr

/-- What a read of winnowing finds (R460). -/
inductive WinnowFound where
  | clean | corrected | uncorrectable
  deriving DecidableEq, Repr

/-- One command of the block. -/
inductive Instr where
  -- From power to service
  /-- R85, R65. -/ | porRelease (strap : BitVec 4)
  /-- R82 steps 1–3, R46, R88. -/ | resetNRise (strap : BitVec 4) (fuseOk katOk : Bool)
  /-- R93. -/ | warmReset
  /-- R152. -/ | hostReset (kind : HostResetKind)
  /-- R152. -/ | d3hotEntry
  /-- R82 step 6. -/ | perstRelease
  /-- R91; p counts from bit 16 of GLB_PIN_STAT. -/ | pgFall (p : Fin 10)
  /-- R88, R90; the levels of the PG inputs after the wait. -/ | pgWaitTimeout (pg : BitVec 10)
  /-- R50. -/ | refclkLineLoss (j : Fin 8)
  /-- R50. -/ | refclkCoreLoss
  /-- R50. -/ | pcieRefclkLoss
  /-- R81. -/ | fwSlotReadDone (slot : Fin 2) (readOk : Bool)
  /-- R400; which sealed copies open. -/ | ceilStoreOpen (okA okB : Bool)
  /-- R82 step 7; PG inputs and line references found. -/ | corePllLock (pg : BitVec 10) (refs : BitVec 8)
  /-- R88. -/ | corePllTimeout
  /-- R82 step 9. -/ | sramFillDone
  /-- R82 step 10, R88; bit n = stack n trained. -/ | dramTrainDone (ok : BitVec 10)
  /-- R82 step 11. -/ | dramFillDone
  /-- R87. -/ | siBootLoadDone (readOk : Bool)
  -- Plain MMIO
  /-- R130, R131; a plain write of a width. -/ | mmioWriteDrop (bar2 : Bool) (offset : BitVec 28) (width : Nat) (v : BitVec 64)
  /-- R129, R131; a plain read of a width; whether its storage read met an uncorrectable error. -/
  | mmioAllOnesRead (bar2 : Bool) (offset : BitVec 28) (width : Nat) (uncorr : Bool)
  /-- R14. -/ | counterHalfRead (offset : BitVec 28)
  /-- R156. -/ | timNowRead
  -- Vestibule
  /-- R110; the request window. -/ | vstOpen (msg : List Byte)
  /-- R110. -/ | vstProve (msg : List Byte)
  /-- R107. -/ | vstEnrol (msg : List Byte)
  /-- R109. -/ | vstAbandon
  /-- R110. -/ | vstTimeout
  /-- R111; 0 = Operator, 1 = Installer, 2 = Maker. -/ | lockoutExpire (role : Fin 3)
  /-- R114. -/ | sessionIdleTimeout (h : Fin 64)
  /-- R108. -/ | returnWindowExpire
  /-- R124. -/ | cryptoSelftestFail
  -- Rings and queues
  /-- R133, R113; the doorbell value and the entries the device fetches. -/
  | sqDoorbell (r : Ring) (idx : BitVec 32) (es : List Cmd)
  /-- R500. -/ | cqDoorbell (r : Ring) (idx : BitVec 32)
  /-- R132. -/ | ringGeometryWrite (r : Ring) (reg : GeoReg) (v : BitVec 64)
  /-- R149. -/ | evqHeadDoorbell (q : Fin 16) (idx : BitVec 32)
  /-- R150. -/ | puntRxDoorbell (p : Fin 64) (idx : BitVec 32)
  /-- R150. -/ | puntTxDoorbell (p : Fin 64) (idx : BitVec 32)
  /-- R150; the descriptor fetched and whether its transfer succeeded. -/
  | puntFromHost (p : Fin 64) (d : PuntDesc) (ok : Bool)
  /-- R147. -/ | ringIrqTimeout (r : Ring)
  /-- R149. -/ | evqIrqTimeout (q : Fin 16)
  /-- R151; fromHost selects the ring. -/ | puntIrqTimeout (p : Fin 64) (fromHost : Bool)
  /-- R146; the TAG of the entry whose fetch failed. -/ | ringFetchError (r : Ring) (tag : BitVec 16)
  /-- R146. -/ | ringCqWriteError (r : Ring)
  /-- R113. -/ | opcodeUnassigned (r : Ring)
  /-- R145. -/ | nop (r : Ring)
  /-- R142. -/ | regWrite (r : Ring)
  /-- R143; whether the storage read met an uncorrectable error. -/ | regRead (r : Ring) (uncorr : Bool)
  /-- R140. -/ | fence (r : Ring)
  /-- R140. -/ | fenceRelease (r : Ring)
  /-- R141. -/ | barrier (r : Ring)
  /-- R141; the barrier ID and the handle of its session. -/ | barrierTimeout (id : BitVec 16) (h : Fin 64)
  /-- R149. -/ | evqSetup (r : Ring)
  /-- R149. -/ | evqClose (r : Ring)
  /-- R151. -/ | puntSetup (r : Ring)
  -- Sessions, lifecycle, audit, firmware
  /-- R104. -/ | sessionInfo (r : Ring)
  /-- R104. -/ | sessionClose (r : Ring)
  /-- R104. -/ | ringBind (r : Ring)
  /-- R105. -/ | opkeySet (r : Ring)
  /-- R104. -/ | opkeyRevoke (r : Ring)
  /-- R105. -/ | instcredSet (r : Ring)
  /-- R104. -/ | instcredRevoke (r : Ring)
  /-- R106; how the boot after a zeroisation fares. -/ | lcTransition (r : Ring) (b : BootTest)
  /-- R108. -/ | returnApprove (r : Ring)
  /-- R115; how the boot after it fares. -/ | zeroize (r : Ring) (b : BootTest)
  /-- R59; how the boot after it fares. -/ | zeroizePin (b : BootTest)
  /-- R120. -/ | auditExport (r : Ring)
  /-- R121. -/ | attest (r : Ring)
  /-- R117. -/ | fwWrite (r : Ring)
  /-- R117. -/ | fwRestart (r : Ring)
  /-- R117. -/ | fwRestartTimeout
  /-- R117. -/ | fwCommit (r : Ring)
  -- Network time
  /-- R158. -/ | timeRate (r : Ring)
  /-- R157. -/ | timeStep (r : Ring)
  /-- R159. -/ | timeRearm (r : Ring)
  /-- R171. -/ | tevArm (r : Ring)
  /-- R171. -/ | tevStop (r : Ring)
  /-- R169. -/ | tevFire (n : Fin 64)
  /-- R161. -/ | timeWatchdogExpire
  /-- R163. -/ | ppsInEdge
  /-- R163. -/ | ppsInTimeout
  /-- R164. -/ | ppsOutPulseEnd
  /-- R165. -/ | rclkSourceLost (out : Fin 2)
  -- Landings
  /-- R184. -/ | landingOpen (r : Ring)
  /-- R189. -/ | landingSubmit (r : Ring)
  /-- R195. -/ | landingCancel (r : Ring)
  /-- R183. -/ | landingQuery (r : Ring)
  /-- R190; items whose staged data meets an uncorrectable error are skipped (R188). -/ | landingFire (bad : List (Nat × Nat))
  /-- R178; as for landingFire, of the landings the drain held back. -/ | generationDrained (bad : List (Nat × Nat))
  /-- R180; likewise. -/ | drainExpired (bad : List (Nat × Nat))
  -- Sheaf receive path
  /-- R199; clipped samples of the window. -/ | clipWindowEnd (l : Lane) (count : Nat)
  /-- R203. -/ | sliceFail (l : Lane) (j : Fin 136)
  /-- R201. -/ | sliceSwap (l : Lane)
  /-- R204, R217; codewords in progress, die temperature in 0.125 K, whether the lane had been LIVE for 1 ms. -/
  | cdrLockLoss (l : Lane) (abandoned : Nat) (temp : Nat) (live1ms : Bool)
  /-- R212. -/ | qualUpdate (l : Lane) (snr : BitVec 12) (pmLow : Nat) (minSc : BitVec 8) (minScSnr : BitVec 8)
  /-- R213. -/ | rxCaptureStart (l : Lane)
  /-- R213; the 256 counts or entries measured. -/ | rxCaptureDone (l : Lane) (bins : List Nat)
  /-- R214. -/ | lossOfSignal (l : Lane)
  /-- R216; the 40 bits of the frame, first bit most significant. -/ | wakeFrameRx (l : Lane) (bits : BitVec 40)
  /-- R216. -/ | sheafWakeActivity (l : Lane)
  /-- R217; the power step in dB. -/
  | holdTrigger (l : Lane) (stepDb : Nat) (abandoned : Nat) (temp : Nat) (live1ms : Bool)
  /-- R219; the SNR found. -/ | holdFastReturn (l : Lane) (snr : BitVec 12)
  /-- R220. -/ | holdFastTimeout (l : Lane)
  /-- R220. -/ | holdFullReturn (l : Lane)
  /-- R244. -/ | holdFail (l : Lane) (training : Bool)
  /-- R218; die temperature at the snapshot. -/ | rxBankStore (l : Lane) (temp : Nat)
  /-- R218. -/ | rxBankDiscard (l : Lane)
  -- Sheaf transmit path
  /-- R224. -/ | synthCalDone (s : Sheaf)
  /-- R224. -/ | synthLocked (s : Sheaf) (lockUs : BitVec 16)
  /-- R224. -/ | synthAttemptTimeout (s : Sheaf)
  /-- R224; whether the reference is present. -/ | synthLockLost (s : Sheaf) (refPresent : Bool)
  /-- R224. -/ | synthRefReturn (s : Sheaf)
  /-- R227. -/ | txEnable (r : Ring)
  /-- R227; the waiting command. -/ | txEnableTimeout (r : Ring) (tag : BitVec 16)
  /-- R238. -/ | wakeSend (r : Ring)
  /-- R238. -/ | wakeSendDurationEnd (l : Lane) (frames : Nat)
  /-- R238. -/ | wakeSendPartner (l : Lane) (frames : Nat)
  /-- R235. -/ | txTrainingTimeout (l : Lane)
  /-- R232. -/ | txShapeApply (l : Lane)
  /-- R232, R264 to R269; the blocks the lane has to send from this boundary to the next. -/
  | txBoundaryUpdate (l : Lane) (blks : List PcsBlock)
  -- Lane acquisition and training
  /-- R243. -/ | laneMode (r : Ring)
  /-- R243. -/ | laneRestart (r : Ring)
  /-- R247. -/ | formatFound (l : Lane) (f : Format)
  /-- R247; whether the envelope stood above threshold for 1 µs. -/ | acqTimeout (l : Lane) (envelope : Bool)
  /-- R258. -/ | backoffExpire (l : Lane)
  /-- R244. -/ | listenActivity (l : Lane)
  /-- R253. -/ | hello (l : Lane) (h : TrnHdr) (b : HelloBody)
  /-- R254. -/ | report (l : Lane) (h : TrnHdr) (snr : Nat) (nativeOk : Bool) (maxTier : Nat)
  /-- R255. -/ | shapeReq (l : Lane) (h : TrnHdr) (iter : Nat) (taps : List Int) (lut : List Int)
  /-- R255. -/ | shapeAck (l : Lane) (h : TrnHdr) (iter : Nat) (accept : Bool)
  /-- R255. -/ | shapeDone (l : Lane) (h : TrnHdr) (snr : Nat)
  /-- R256. -/ | bits (l : Lane) (h : TrnHdr) (seg : Fin 2) (tier : Nat) (b : List Nat)
  /-- R257. -/ | switch (l : Lane) (h : TrnHdr) (last : Nat) (format : Nat) (tier : Nat)
  /-- R251. -/ | abort (l : Lane) (h : TrnHdr) (reason : Nat)
  /-- R250. -/ | idle (l : Lane) (h : TrnHdr)
  /-- R254; the native SNR and highest loaded tier measured. -/ | probeComplete (l : Lane) (snr : Nat) (maxTier : Nat)
  /-- R255. -/ | shapeMeasureDone (l : Lane) (snr : Nat)
  /-- R256; the bit table the receiver built. -/ | loadMeasureDone (l : Lane) (b : List Nat)
  /-- R252. -/ | trainPhaseTimeout (l : Lane)
  /-- R252. -/ | trainTotalTimeout (l : Lane)
  /-- R257; the window's codewords, corrected symbols and uncorrectable codewords, and the training's duration. -/
  | confirmWindowEnd (l : Lane) (cws symErrs uncorrs : Nat) (trainUs : Nat)
  -- Line coding
  /-- R272; the marker's 32 bytes, whether its codeword was uncorrectable, and the skew in 0.1 ns. -/
  | alignmentMarkerRx (l : Lane) (m : List Byte) (uncorr : Bool) (skew : Nat)
  /-- R274; by two marker periods, or by held lock (R275). -/ | fecLock (l : Lane) (held : Bool)
  /-- R276. -/ | fecLockLoss (l : Lane) (abandoned : Nat) (temp : Nat) (live1ms : Bool)
  /-- R282. -/ | codewordDecoded (l : Lane) (c : CwResult)
  /-- R283. -/ | fecWindowEnd (l : Lane)
  /-- R282. -/ | fecCounterClear (l : Lane)
  -- Ports, MAC and MACsec
  /-- R290, R293. -/ | macRxFrame (p : Port) (f : RxFrame)
  /-- R290, R294, R167. -/ | macTxFrame (p : Port) (pkt : Nat)
  /-- R290; quanta for each class the frame enables. -/ | pfcFrameRx (p : Port) (quanta : List (Fin 8 × BitVec 16))
  /-- R290. -/ | pfcPauseExpire (p : Port) (cls : Fin 8)
  /-- R381. -/ | pfcRefresh (p : Port) (cls : Fin 8)
  /-- R289. -/ | remoteFaultRx (p : Port) (on : Bool)
  /-- R293, R118. -/ | mkpduRx (p : Port) (m : Mkpdu)
  /-- R296. -/ | mkaHelloTimer (p : Port)
  /-- R296. -/ | mkaLifeExpire (p : Port) (peerSci : Nat)
  /-- R289. -/ | portAdmin (r : Ring)
  /-- R298. -/ | portClr (r : Ring)
  /-- R298. -/ | mscChanSet (r : Ring)
  /-- R298. -/ | mscChanDel (r : Ring)
  /-- R297. -/ | mscTxAn (r : Ring)
  /-- R298. -/ | mscRxRetire (r : Ring)
  /-- R296. -/ | mkaSet (r : Ring)
  /-- R298. -/ | mkaDel (r : Ring)
  /-- R299. -/ | cakInstall (r : Ring)
  /-- R298. -/ | cakDelete (r : Ring)
  -- Structure images
  /-- R309. -/ | siOpen (r : Ring)
  /-- R309. -/ | siFlashReadDone (readOk : Bool)
  /-- R309. -/ | siPut (r : Ring)
  /-- R309. -/ | siClose (r : Ring)
  /-- R309. -/ | siAbort (r : Ring)
  /-- R316. -/ | galAssign (r : Ring)
  /-- R315. -/ | siSlotWrite (r : Ring)
  /-- R315. -/ | siSlotActive (r : Ring) (readOk : Bool)
  /-- R307. -/ | siKeySet (r : Ring)
  /-- R306. -/ | siSvnCommit (r : Ring)
  /-- R317; the old gallery that sent the marker, the sheaf and the hall. -/ | switchMarkerRx (h : Hall) (s : Sheaf)
  /-- R317. -/ | switchHoldTimeout (h : Hall) (s : Sheaf)
  -- Galleries
  /-- R334; a frame waiting at the gallery is taken in; the table of its first Granary lookup, if it issues one. -/
  | galleryEntry (g : Gallery) (pkt : Nat) (look : Option (Fin 256))
  /-- R331; the round trip in ns; uncorr = the block read met an uncorrectable error: its index and range, base and
  prefix length; again = the table of the next Granary lookup. -/
  | granaryResponse (g : Gallery) (pkt : Nat) (ns : Nat) (uncorr : Option (Nat × Nat × Nat)) (again : Option (Fin 256))
  /-- R333. -/ | lookupTimeout (g : Gallery) (pkt : Nat)
  /-- R336. -/ | ingressFlightEnd (g : Gallery) (pkt : Nat) (f : Flight)
  /-- R336. -/ | egressFlightEnd (g : Gallery) (pkt : Nat) (f : Flight)
  /-- R332. -/ | reorderRelease (g : Gallery) (pkt : Nat)
  /-- R340. -/ | galleryFail (g : Gallery)
  -- Tables
  /-- R357. -/ | tblInsert (r : Ring)
  /-- R357. -/ | tblModify (r : Ring)
  /-- R357. -/ | tblDelete (r : Ring)
  /-- R359. -/ | tblBulk (r : Ring)
  /-- R355. -/ | tblDefault (r : Ring)
  /-- R360. -/ | tblRead (r : Ring)
  /-- R354. -/ | tblCntRead (r : Ring)
  /-- R355. -/ | tblCntClear (r : Ring)
  /-- R355. -/ | tblClear (r : Ring)
  /-- R363. -/ | tblRepair (r : Ring)
  /-- R354. -/ | counterWriteback (d : Fin 4) (index : Nat) (uncorr : Bool)
  -- Traffic manager
  /-- R374. -/ | hallAdmit (h : Hall) (pkt : Nat) (siloBusy : Bool)
  /-- R378; whether its read met an uncorrectable error, and the table of the packet's first Granary lookup in the egress
  flight. -/
  | hallDequeue (h : Hall) (q : Fin 1048576) (uncorr : Bool) (look : Option (Fin 256))
  /-- R382. -/ | gateEntryAdvance (p : Port)
  /-- R385. -/ | tmInternalError (h : Hall)
  /-- R386. -/ | tmgQSet (r : Ring)
  /-- R377. -/ | tmgNodeSet (r : Ring)
  /-- R373. -/ | tmgProfileSet (r : Ring)
  /-- R382. -/ | tmgGateSet (r : Ring)
  /-- R371. -/ | tmgReplSet (r : Ring)
  /-- R387. -/ | tmgRead (r : Ring)
  /-- R386. -/ | tmgQFlush (r : Ring)
  -- Engine drive
  /-- R54. -/ | engineArrive (k : Site)
  /-- R54. -/ | engineLeave (k : Site)
  /-- R55; the voltage in mV. -/ | idMeasure (k : Site) (mv : BitVec 12)
  /-- R57. -/ | dacClrAssert
  /-- R57. -/ | dacClrRelease
  /-- R58. -/ | dacLoadPin
  /-- R391. -/ | deglitchHoldEnd (k : Site) (c : Fin 16)
  /-- R396. -/ | pwmPeriodStart (k : Site)
  /-- R403. -/ | alsPersistExpire (l : Lane)
  /-- R403. -/ | alsPeriodExpire (l : Lane)
  /-- R403. -/ | alsPulseExpire (l : Lane)
  /-- R403. -/ | alsRecover (l : Lane)
  /-- R395. -/ | siteRelease (r : Ring)
  /-- R394. -/ | siteHold (r : Ring)
  /-- R406. -/ | dacSet (r : Ring)
  /-- R392. -/ | dacLoad (r : Ring)
  /-- R406. -/ | pwmSet (r : Ring)
  /-- R401; whether flash programming and read-back succeeded. -/ | ceilWrite (r : Ring) (flashOk : Bool)
  /-- R403. -/ | alsRestart (r : Ring)
  -- Engine monitoring
  /-- R410. -/ | monPwmTrigger (k : Site)
  /-- R413; the code converted. -/ | monConversionDone (k : Site) (code : BitVec 12)
  /-- R419. -/ | monSiteSet (r : Ring)
  /-- R419. -/ | monSet (r : Ring)
  /-- R410. -/ | monConvert (r : Ring)
  /-- R418. -/ | monOwcheck (r : Ring)
  /-- R420. -/ | monClear (r : Ring)
  -- Power and thermal
  /-- R425. -/ | pwrState (r : Ring)
  /-- R427. -/ | domainStateDone (d : Dom)
  /-- R429. -/ | powerGateTimeout (d : Dom)
  /-- R430. -/ | padRelease (r : Ring)
  /-- R95. -/ | domainReset (r : Ring)
  /-- R424. -/ | plSet (r : Ring)
  /-- R441. -/ | pwrPolicy (r : Ring)
  /-- R431. -/ | idlePolicy (r : Ring)
  /-- R432. -/ | standby (r : Ring)
  /-- R431. -/ | idleTimeout (d : Dom)
  /-- R434. -/ | powerSample (w : BitVec 11)
  /-- R438; the 212 readings, 0.125 °C units. -/ | thermalSample (t : List (BitVec 16))
  /-- R435; whether this is the 50 ms restore tick. -/ | effLimitStep (restore : Bool)
  /-- R436; the modelled increase of raising the last-lowered die. -/ | throttleStep (raiseW : Nat)
  /-- R69; the read-back in mV, none = no acknowledge. -/ | vrmStepVerify (n : Fin 6) (vout : Option (BitVec 10))
  /-- R70; per regulator: 0 none, 1 warning, 2 fault. -/ | pmAlert (st : List (Fin 3))
  /-- R71. -/ | vrmSteerEnable (n : Fin 6)
  /-- R439; the ten stack readings. -/ | dramTempSample (t : List (BitVec 16))
  -- Faults and memory protection
  /-- R449. -/ | fltPolicy (r : Ring)
  /-- R449. -/ | escalationWindowExpire (rule : Fin 64)
  /-- R452. -/ | faultStickyClear (id : BitVec 12)
  /-- R459. -/ | memRetire (r : Ring)
  /-- R459. -/ | retireRowCopyDone (n : Fin 2) (row : Nat)
  /-- R456. -/ | memLogClear (r : Ring)
  /-- R455. -/ | mergeBufferExpire (n : Fin 10) (block : Nat)
  /-- R460; what the read of the next block or word found: unit 0-9 a stack, 10-23 the SRAM of die unit - 10; again = a free
  Silo page fails once more after it was written; progress = how far the pass is after it, 0.1 %, 1000 = it has ended. -/
  | winnowRead (found : WinnowFound) (unit : Fin 24) (block : Nat) (place : WinnowPlace) (again : Bool) (progress : Fin 1001)
  -- Gleaning, calibration and ageing
  /-- R467. -/ | gleanSliceStart (t : GleanTarget)
  /-- R469. -/ | gleanSliceEnd (t : GleanTarget) (res : SliceEnd)
  /-- R466. -/ | gleanSliceWatchdog (t : GleanTarget)
  /-- R470. -/ | glnRun (r : Ring)
  /-- R470. -/ | glnRetest (r : Ring)
  /-- R471. -/ | calRun (r : Ring)
  /-- R471; converter comparators chosen, trims in range, die temperature, supply. -/
  | calStepDone (kind : Fin 3) (t : Fin 64) (comp : BitVec 4) (inRange : Bool) (temp mv : BitVec 16)
  /-- R472. -/ | calStepTimeout (kind : Fin 3) (t : Fin 64)
  /-- R473; the die temperature now. -/ | calAutoStart (kind : Fin 3) (t : Fin 64) (temp : BitVec 16)
  /-- R474. -/ | calAbort (r : Ring)
  /-- R477. -/ | ageReport (r : Ring)
  /-- R475; the monitors' delay shifts, the V_need of each die, the hottest reading. -/
  | wearAccountWrite (shifts : List (BitVec 16)) (needs : List (List Nat)) (tj : BitVec 16)
  -- Performance counters
  /-- R483. -/ | pmuSet (r : Ring)
  /-- R484. -/ | pmuRun (r : Ring)
  /-- R484. -/ | pmuRunSwitch (group : Fin 16)
  /-- R482. -/ | pmuCounterWrite (n : Fin 512) (count : Option (BitVec 48)) (ovf : Option (BitVec 8)) (transit : Nat)
  /-- R485. -/ | pmuTagSet (r : Ring)
  /-- R486. -/ | traceCtrl (r : Ring)
  /-- R487. -/ | bwSet (r : Ring)
  /-- R487. -/ | bwClear (r : Ring)
  /-- R487. -/ | bwWindowEnd (p : Port)
  -- Corridors
  /-- R492. -/ | corridorStart (c : Corridor) (dir : Fin 2) (failed : List (Fin 1056)) (skew : BitVec 9) (peak : BitVec 5)
  /-- R492. -/ | corridorStartTimeout (c : Corridor)
  /-- R494. -/ | corridorMarkerRx (c : Corridor) (dir : Fin 2) (x : Fin 1056) (seen crcOk : Bool)
  /-- R495. -/ | corridorPacketRx (c : Corridor) (pkt : Nat) (crcOk : Bool)
  /-- R495. -/ | ctrlMsgRetry (c : Corridor) (dir : Fin 2) (last : Bool)
  /-- R496. -/ | corridorLaneReplace (c : Corridor) (dir : Fin 2) (x : Fin 1056)
  /-- R496. -/ | corridorLaneSwitch (c : Corridor) (dir : Fin 2)
  -- Rows the table adds at its end
  /-- R343. -/ | galleryPeakClear (g : Gallery)
  /-- R83, R126. -/ | pcieConfigRequest (q : CfgReq)
  /-- R117. -/ | fwRestartDone
  /-- R418; the pull-up and pull-down codes of the named inputs. -/
  | monOwcheckDone (k : Site) (codes : List (BitVec 12 × BitVec 12))
  /-- R403. -/ | signalDetectRestored (l : Lane)
  /-- R131. -/ | hifRgIrqWrite (r : Ring) (v : BitVec 32)
  deriving DecidableEq, Repr

end Sys2Proof
end

