-- ==== Sys2Proof/Config.lean ====
section
/-! DEFINITION. What the spec leaves to the part or to a named standard, as constants without a body: keys and serial
number, the results of the approved algorithms (R123), random draws and free values, and the meaning of region bodies,
which only Twitil's guide gives. Nothing can be proved about their values (log entries 3, 9 and 11). -/

namespace Sys2Proof.Config

/-- The device serial (SEC_SERIAL, R125). -/
opaque serial : BitVec 128
/-- The Maker key provisioned in FACTORY (R101). -/
opaque makerKey : BitVec 384
/-- The 16 bytes of the one-time enrolment code printed on the part (R107). -/
opaque enrolCode : BitVec 128
/-- The per-device attestation private key (R121). -/
opaque attestKey : BitVec 384
/-- The device certificate (R121). -/
opaque certificate : List Byte
/-- A draw of the DRBG (R123): a fresh number each time. -/
opaque random : Nat → BitVec 256
/-- A value the spec leaves open: a fresh number each time. -/
opaque freeValue : Nat → Nat

/-- AES-256-GMAC of a message under a key and IV (R112). -/
opaque gmac : BitVec 256 → List Byte → List Byte → BitVec 128
/-- AES-256-GCM decryption: key, IV, additional data, ciphertext, tag (R105, R110, R305). -/
opaque gcmOpen : BitVec 256 → List Byte → List Byte → List Byte → List Byte → Option (List Byte)
/-- SHA-384 (R119, R186, R304). -/
opaque sha384 : List Byte → BitVec 384
/-- HMAC-SHA-384 (R110). -/
opaque hmac384 : BitVec 384 → List Byte → BitVec 384
/-- HKDF-SHA-384 (R107, R110): input key, salt, info, length in bytes. -/
opaque hkdf384 : List Byte → List Byte → List Byte → Nat → List Byte
/-- The MKA key derivation (R118, R123): key, label, context. -/
opaque mkaKdf : BitVec 256 → List Byte → List Byte → BitVec 256
/-- AES Key Wrap of a SAK under a KEK (R118). -/
opaque keyWrap : BitVec 256 → BitVec 256 → List Byte
/-- AES Key Unwrap; none = the integrity check fails. -/
opaque keyUnwrap : BitVec 256 → List Byte → Option (BitVec 256)
/-- A frame protected by GCM-AES-XPN-256 (R292): SAK, SCI, packet number, AN, confidentiality offset in bytes, whether the
SCI stands in the SecTAG; the frame with its SecTAG and ICV. -/
opaque macsecSeal : BitVec 256 → Nat → Nat → Nat → Nat → Bool → List Byte → List Byte
/-- ICV of an MKPDU under an ICK (R118). -/
opaque mkaIcv : BitVec 256 → List Byte → BitVec 128
/-- ECDSA P-384 verification of an image header and region table under a public key (R304). -/
opaque ecdsaVerify : List Byte → List Byte → List Byte → Bool
/-- ECDSA P-384 signature under the attestation key (R120, R121); the last argument makes each draw its own. -/
opaque ecdsaSign : BitVec 384 → List Byte → Nat → List Byte
/-- 1 = the point lies on the P-384 curve (R307). -/
opaque onCurve : List Byte → Bool
/-- Firmware signature under the Biltos firmware key held in fuses (R80). -/
opaque fwSignOk : List Byte → Bool
/-- Firmware body decrypts and its GCM tag matches (R80). -/
opaque fwDecryptOk : List Byte → Bool

/-- The body of a region is well formed for its type (R311, check 8). -/
opaque bodyFormed : Nat → List Byte → Bool
/-- A PORT_MAP body: sheaf, first lane, width, format (1 native, 2 loaded, 3 standard) of each port (R286). -/
opaque portMap : List Byte → List (Nat × Nat × Nat × Nat)
/-- A QUEUE_MAP body: queue number, whether it is a replication handle, egress port or group (R369). -/
opaque queueMap : List Byte → List (Nat × Bool × Nat)
/-- A GALLERY_MAP body: sheaf, profile, gallery (R302). -/
opaque galleryMap : List Byte → List (Nat × Nat × Nat)
/-- A TABLES body: table ID, kind, key bytes, placement, capacity, slot or action-data size, pinned capacity, pinned
ranges (R346, R348). -/
opaque tableMap : List Byte → List (Nat × Nat × Nat × Nat × Nat × Nat × Nat × List Nat)
/-- The counter space N a TABLES body declares (R353). -/
opaque counterSpace : List Byte → Nat
/-- What the PARSER, INGRESS and EGRESS bodies of a profile use: ingress steps, egress steps, match units, action units,
containers, ingress window, egress window (R330, R331, R343). -/
opaque profileUse : List Byte → List Byte → List Byte → List Nat
/-- The profile keeps within the gallery's other limits of R330. -/
opaque profileFits : List Byte → List Byte → List Byte → Bool

/-- LANE and COUNT of an alignment marker of standard mode, if its bytes are one, by whether its codeword was uncorrectable; the
markers are IEEE 802.3dj's (R280). -/
opaque stdMarker : List Byte → Bool → Option (Nat × Nat)

/-- The skew limit of standard mode, in the unit of SHF_FEC_STAT.SKEW: IEEE 802.3dj's (R280). -/
opaque stdSkew : Nat

/-- The DAC code, before look-up and limits, of a pre-distorter output in 2^-8 of a level step: the scale between the two is
not stated (R228, R230, R231). -/
opaque dacCode : Int → Int

/-- The four neighbour indices of thermal sensor site i, 0xFF none: which sites they are is not stated (R437, R444). -/
opaque thermNeigh : Nat → BitVec 32

/-- YEARS of a line die in the ageing report, of which no rule says what its four fields hold (R477): die D, field, powered
hours, slack now. -/
opaque ageYears : Nat → Nat → Nat → Nat → Nat

/-- The fused initial need v0 of a level of a gallery die or hall, in mV (R477). -/
opaque ageInitial : Nat → Nat → Nat

/-- The exponent fitted to the account history of a die, in thousandths, by powered hours and need (R477). -/
opaque ageExponent : Nat → Nat → Nat → Nat

/-- The bucket of an EXACT table that holds a key (R350). -/
opaque bucketOf : Nat → List Byte → Nat

end Sys2Proof.Config
end

