-- ==== Sys2Proof/Machine/Bits.lean ====
section
/-! DEFINITION. Bits, bytes and byte order (R6), two's complement values, and the 80-bit time format (R7). -/

namespace Sys2Proof.Machine

/-- Bit k of a number. -/
def bitOf (v k : Nat) : Bool := v / 2 ^ k % 2 == 1

/-- Bits [lo+w-1:lo] of a number. -/
def bitsOf (v lo w : Nat) : Nat := v / 2 ^ lo % 2 ^ w

/-- A number with bit k set. -/
def setBit (v k : Nat) : Nat := if bitOf v k then v else v + 2 ^ k

/-- A number with bit k cleared. -/
def clrBit (v k : Nat) : Nat := if bitOf v k then v - 2 ^ k else v

/-- 1 for true. -/
def b2n (b : Bool) : Nat := if b then 1 else 0

/-- How many of bits 0 to n-1 are set. -/
def popCount (v : Nat) : Nat → Nat
  | 0 => 0
  | n + 1 => popCount v n + b2n (bitOf v n)

/-- The bits of a bitmap that are set, in rising order. -/
def bitList (v n : Nat) : List Nat := (List.range n).filter (bitOf v)

/-- A bitmap from the numbers of its set bits. -/
def bitmapOf (l : List Nat) : Nat := l.foldl setBit 0

/-- The signed value of a w-bit two's complement number. -/
def sext (w v : Nat) : Int := if v < 2 ^ (w - 1) then (v : Int) else (v : Int) - 2 ^ w

/-- A signed value as a w-bit two's complement number. -/
def wrapI (w : Nat) (x : Int) : Nat := (x % (2 ^ w : Int)).toNat

/-- A value held between two limits. -/
def clampN (lo hi v : Nat) : Nat := if v < lo then lo else if hi < v then hi else v

/-- n bytes of a number, least significant first (R6). -/
def leBytes : Nat → Nat → List Byte
  | 0, _ => []
  | n + 1, v => BitVec.ofNat 8 v :: leBytes n (v / 256)

/-- The number that bytes spell, least significant first (R6). -/
def leVal : List Byte → Nat
  | [] => 0
  | b :: t => b.toNat + 256 * leVal t

/-- n bytes of a number, most significant first. -/
def beBytes (n v : Nat) : List Byte := (leBytes n v).reverse

/-- n bytes of a list from an offset. -/
def sliceOf (l : List Byte) (off n : Nat) : List Byte := (l.drop off).take n

/-- The number at an offset of a byte list. -/
def leAt (l : List Byte) (off n : Nat) : Nat := leVal (sliceOf l off n)

/-- Every byte is zero. -/
def allZero (l : List Byte) : Bool := l.all (fun b => b.toNat == 0)

/-- Bytes 0-9 of an 80-bit time given in 2^-16 ns: nanoseconds, then seconds (R7). -/
def timeBytes (t : Nat) : List Byte :=
  let ns := t / 65536
  leBytes 4 (ns % 1000000000) ++ leBytes 6 (ns / 1000000000)

/-- An 80-bit time as a register bit range: nanoseconds in the low 32 bits, seconds above (R7). -/
def timeField (t : Nat) : Nat :=
  let ns := t / 65536
  ns % 1000000000 + 2 ^ 32 * (ns / 1000000000)

/-- The time an 80-bit field names, in 2^-16 ns. -/
def timeOfField (v : Nat) : Nat := (v % 2 ^ 32 + 1000000000 * (v / 2 ^ 32)) * 65536

/-- A time in 2^-16 ns laid out as TIM_NOW: fraction, nanoseconds, seconds (R173). -/
def timeNowField (t : Nat) : Nat := t % 65536 + 65536 * timeField t

/-- The time a field laid out as TIM_NOW names, 2^-16 ns (R173). -/
def timeOfNow (v : Nat) : Nat := v % 2 ^ 48 + v / 2 ^ 48 * 1000000000 * 65536

/-- The first element of a list that satisfies a test, with its position. -/
def findPos {α : Type} (p : α → Bool) : List α → Nat → Option (Nat × α)
  | [], _ => none
  | a :: t, n => if p a then some (n, a) else findPos p t (n + 1)

/-- Entry n of a list replaced. -/
def listSet {α : Type} : List α → Nat → α → List α
  | [], _, _ => []
  | _ :: t, 0, v => v :: t
  | a :: t, n + 1, v => a :: listSet t n v

/-- The first element that satisfies a test taken out. -/
def dropFirst {α : Type} (p : α → Bool) : List α → List α
  | [] => []
  | a :: t => if p a then t else a :: dropFirst p t

end Sys2Proof.Machine
end

