-- ==== Sys2Proof/Machine/Store.lean ====
section
/-! DEFINITION. Tables in canonical form (a list of keys and values, keys strictly rising), and the plain data that
describes a register field (R9 to R12). -/

namespace Sys2Proof.Machine

/-- The key of a table entry. -/
abbrev Key := Nat × Nat

/-- A table: at most one value for each key, keys strictly rising. -/
abbrev Tab (α : Type) := List (Key × α)

/-- The order of keys. -/
def keyLt (a b : Key) : Bool := Nat.blt a.1 b.1 || (Nat.beq a.1 b.1 && Nat.blt a.2 b.2)

/-- Equality of keys. -/
def keyEq (a b : Key) : Bool := Nat.beq a.1 b.1 && Nat.beq a.2 b.2

/-- The value at a key. -/
def tabGet {α : Type} : Tab α → Key → Option α
  | [], _ => none
  | e :: t, k => if keyEq e.1 k then some e.2 else tabGet t k

/-- The value at a key replaced, or put in its place in the order. -/
def tabPut {α : Type} : Tab α → Key → α → Tab α
  | [], k, v => [(k, v)]
  | e :: t, k, v =>
    if keyEq e.1 k then (k, v) :: t
    else if keyLt k e.1 then (k, v) :: e :: t
    else e :: tabPut t k v

/-- The value at a key taken out. -/
def tabDel {α : Type} : Tab α → Key → Tab α
  | [], _ => []
  | e :: t, k => if keyEq e.1 k then tabDel t k else e :: tabDel t k

/-- Set or take out. -/
def tabSet {α : Type} (t : Tab α) (k : Key) : Option α → Tab α
  | none => tabDel t k
  | some v => tabPut t k v

/-- Keys strictly rise. -/
def tabWf {α : Type} : Tab α → Bool
  | [] => true
  | [_] => true
  | a :: b :: t => keyLt a.1 b.1 && tabWf (b :: t)

/-- The values of a table, in key order. -/
def tabVals {α : Type} (t : Tab α) : List α := t.map (·.2)

/-- The register field types of R9. -/
inductive FldType where
  | RO | RW | RWS | W1C | WO | ROS | RWL
  deriving DecidableEq, Repr

/-- Where a field's reset value comes from: the Reset column (R10), or a rule that gives it by instance. -/
inductive RstKind where
  /-- The same value in every instance. -/
  | const (v : Nat)
  /-- SHF_RX_SLICE.STATE: slices 0-127 ACTIVE, 128-135 SPARE (R201, R222). -/
  | sliceState
  /-- SHF_RX_SLICE.POS: slice j serves position j while ACTIVE (R222). -/
  | slicePos
  /-- DDL_LANE.STATE: physical lanes 0-1023 DATA, 1024-1055 SPARE (R491, R499). -/
  | ddlState
  /-- DDL_LANE.POS: physical lane x carries logical lane x while DATA (R491, R499). -/
  | ddlPos
  /-- GLN_AGE_MON.DIE: the die of each ageing monitor (R475). -/
  | monDie
  /-- SHF_TX_TAP.COEF: identity shaping, main tap 256, others 0 (R230, R240). -/
  | txTap
  deriving DecidableEq, Repr

/-- A register field: its number in the store, its lowest bit and width in its register, its type, the least role
that may write it (0 none, 1 Operator, 2 Installer, 3 Maker) and its reset value. -/
structure Fld where
  id    : Nat
  lo    : Nat
  w     : Nat
  ty    : FldType
  role  : Nat
  reset : RstKind
  deriving DecidableEq, Repr

/-- A register of BAR0: offset of its first instance, strides and counts of its instances, length in bytes, fields. -/
structure RegSpec where
  base  : Nat
  dims  : List (Nat × Nat)
  bytes : Nat
  flds  : List Fld
  deriving DecidableEq, Repr

end Sys2Proof.Machine
end

