-- ==== Sys2Proof/Machine/Hidden.lean ====
section
/-! DEFINITION. The scalars the spec gives the machine outside the register map: pin and reference levels, fuses and
monotonic counters, and the sub-states its rules name. They live in the same store as the registers; no BAR0 offset
reaches them. Where the spec gives no reset value the value is 0 or the one named here (DESIGN CHOICE, log entry 5). -/

namespace Sys2Proof.Machine

/-- 1 = the internal power-on reset is released (R65, R85). -/
def HID.POR_DONE : Fld := ⟨2000, 0, 1, .RO, 0, .const 0⟩
/-- Level of RESET_N (R44, R93). -/
def HID.RESET_HIGH : Fld := ⟨2001, 0, 1, .RO, 0, .const 0⟩
/-- Level of PERST_N (R44, R152). -/
def HID.PERST_HIGH : Fld := ⟨2002, 0, 1, .RO, 0, .const 0⟩
/-- Level driven on PPS_OUT (R164). -/
def HID.PPS_OUT : Fld := ⟨2003, 0, 1, .RO, 0, .const 0⟩
/-- Bit j = REFCLK_LINE[j] is lost (R50). -/
def HID.REF_LINE_LOST : Fld := ⟨2004, 0, 8, .RO, 0, .const 0⟩
/-- REFCLK_CORE is lost (R50). -/
def HID.REF_CORE_LOST : Fld := ⟨2005, 0, 1, .RO, 0, .const 0⟩
/-- Last bring-up step of R82 completed. -/
def HID.BOOT_STEP : Fld := ⟨2006, 0, 4, .RO, 0, .const 0⟩
/-- Core PLL lock attempts failed (R88). -/
def HID.PLL_TRIES : Fld := ⟨2007, 0, 2, .RO, 0, .const 0⟩
/-- Bit n = firmware slot n tried at this boot (R81). -/
def HID.FW_TRIED : Fld := ⟨2008, 0, 2, .RO, 0, .const 0⟩
/-- Ticks of 781.25 MHz since the power-on reset was released (R31). -/
def HID.TICKS : Fld := ⟨2009, 0, 64, .RO, 0, .const 0⟩
/-- Residue of local time below the fraction, 2^-40 ns (R154). -/
def HID.TIM_RESID : Fld := ⟨2010, 0, 24, .RO, 0, .const 0⟩
/-- Upper 8 bytes of TIM_NOW latched by a read of the lower ones (R156). -/
def HID.TIM_LATCH : Fld := ⟨2011, 0, 64, .RO, 0, .const 0⟩
/-- The latch of R156 holds a value not yet read. -/
def HID.TIM_LATCHED : Fld := ⟨2012, 0, 1, .RO, 0, .const 0⟩
/-- The servo watchdog runs (R161). -/
def HID.WDOG_ON : Fld := ⟨2013, 0, 1, .RO, 0, .const 0⟩
/-- High half at offset x latched by a 32-bit read of its low half (R14). -/
def HID.CNT_LATCH : Fld := ⟨2014, 0, 32, .RO, 0, .const 0⟩
/-- The latch of offset x holds a value not yet read (R14). -/
def HID.CNT_LATCHED : Fld := ⟨2015, 0, 1, .RO, 0, .const 0⟩
/-- Fuse minimum firmware SVN (R81, R117). -/
def HID.MIN_FW_SVN : Fld := ⟨2016, 0, 32, .RO, 0, .const 0⟩
/-- SVN of the running firmware (R96 shows its low 8 bits). -/
def HID.FW_SVN_FULL : Fld := ⟨2017, 0, 32, .RO, 0, .const 0⟩
/-- The device certificate is provisioned (R106). -/
def HID.CERT_OK : Fld := ⟨2018, 0, 1, .RO, 0, .const 1⟩
/-- Installer locks; all ones after zeroisation (R115). -/
def HID.INST_LOCKS : Fld := ⟨2019, 0, 8, .RO, 0, .const 0⟩
/-- The device seal key is not destroyed (R115). -/
def HID.SEAL_OK : Fld := ⟨2020, 0, 1, .RO, 0, .const 1⟩
/-- Structure-image slot marked active in the key store (R315). -/
def HID.SI_ACTIVE_SLOT : Fld := ⟨2021, 0, 1, .RO, 0, .const 0⟩
/-- Minimum image SVN in the key store (R306). -/
def HID.SI_MIN_SVN : Fld := ⟨2022, 0, 32, .RO, 0, .const 0⟩
/-- Top level that ageing allows die n of PL_SET, kept in fuses (R476). -/
def HID.AGE_FUSE : Fld := ⟨2023, 0, 2, .RO, 0, .const 3⟩
/-- FW_RESTART is in progress (R117). -/
def HID.RESTARTING : Fld := ⟨2024, 0, 1, .RO, 0, .const 0⟩
/-- The vestibule processes a request (R109). -/
def HID.VST_BUSY : Fld := ⟨2025, 0, 1, .RO, 0, .const 0⟩
/-- Tick count plus 1 of source id's last class C record (R450); 0 = none. -/
def HID.FLT_REC_AT : Fld := ⟨2026, 0, 64, .RO, 0, .const 0⟩
/-- Lane squelched by the training-transmit timeout (R234, R235). -/
def HID.TTX : Fld := ⟨2027, 0, 1, .RO, 0, .const 0⟩
/-- Sheaf squelched under SAFE by a power-good fall, zeroisation or warm reset (R234). -/
def HID.SQ_SAFE : Fld := ⟨2028, 0, 1, .RO, 0, .const 0⟩
/-- The lane waits out a back-off (R258). -/
def HID.BACKOFF : Fld := ⟨2029, 0, 1, .RO, 0, .const 0⟩
/-- Iteration that the SHAPE_ACK owed answers (R255). -/
def HID.TRN_ACK_IT : Fld := ⟨2030, 0, 8, .RO, 0, .const 0⟩
/-- This attempt found: bit 0 a format MODE allows, bit 1 one it does not (R247). -/
def HID.SAW_FORMAT : Fld := ⟨2031, 0, 2, .RO, 0, .const 0⟩
/-- The lane was not DARK when its sheaf left S0 (R244). -/
def HID.WAS_AWAKE : Fld := ⟨2032, 0, 1, .RO, 0, .const 0⟩
/-- The lane is in its confirmation window or T4 (R248, R257). -/
def HID.LANE_CONFIRM : Fld := ⟨2033, 0, 1, .RO, 0, .const 0⟩
/-- HOLD is in its fast attempt (R219). -/
def HID.HOLD_FAST : Fld := ⟨2034, 0, 1, .RO, 0, .const 0⟩
/-- The bank HOLD returns to (R219, R220). -/
def HID.HOLD_BANK : Fld := ⟨2035, 0, 1, .RO, 0, .const 0⟩
/-- That bank was VALID at the trigger (R220). -/
def HID.HOLD_VALID : Fld := ⟨2036, 0, 1, .RO, 0, .const 0⟩
/-- Interleave position + 1 that FAILED slice 136 l + j leaves to its successor at the next swap boundary (R203); 0 = none. -/
def HID.SLICE_POS : Fld := ⟨2037, 0, 8, .RO, 0, .const 0⟩
/-- Slice of the lane that waits to be swapped out for calibration (R202); 0xFF = none. -/
def HID.CAL_SLICE : Fld := ⟨2038, 0, 8, .RO, 0, .const 255⟩
/-- The lane has lost its signal and not found it again (R214, R403). -/
def HID.LOS_NOW : Fld := ⟨2039, 0, 1, .RO, 0, .const 0⟩
/-- An APPLY of the fixed set awaits its transmit boundary (R232). -/
def HID.TX_APPLY : Fld := ⟨2040, 0, 1, .RO, 0, .const 0⟩
/-- Remote fault received on port p (R289). -/
def HID.PRT_REMOTE : Fld := ⟨2041, 0, 1, .RO, 0, .const 0⟩
/-- Port holds of R448 on port p: bit n of sources 0x500 + 64 n + s. -/
def HID.PRT_HOLD : Fld := ⟨2042, 0, 4, .RO, 0, .const 0⟩
/-- Deskew holds on port p (R273). -/
def HID.PRT_DESKEW : Fld := ⟨2043, 0, 1, .RO, 0, .const 1⟩
/-- Pause quanta left for class n of port p, part 8p + n (R290). -/
def HID.PRT_PAUSE : Fld := ⟨2044, 0, 16, .RO, 0, .const 0⟩
/-- SEQ of this side's newest message (R250). -/
def HID.TRN_SEQ : Fld := ⟨2045, 0, 16, .RO, 0, .const 0⟩
/-- Newest own SEQ the partner acknowledged (R250). -/
def HID.TRN_ACKED : Fld := ⟨2046, 0, 16, .RO, 0, .const 0⟩
/-- Newest valid SEQ seen from the partner (R250). -/
def HID.TRN_RX : Fld := ⟨2047, 0, 16, .RO, 0, .const 0⟩
/-- A valid training frame of the partner was heard in this attempt (R244). -/
def HID.TRN_HEARD : Fld := ⟨2048, 0, 1, .RO, 0, .const 0⟩
/-- Message type of this side's newest message (R251). -/
def HID.TRN_MSG : Fld := ⟨2049, 0, 4, .RO, 0, .const 0⟩
/-- What this training has done: bits named in Training.lean. -/
def HID.TRN_FLAGS : Fld := ⟨2050, 0, 16, .RO, 0, .const 0⟩
/-- Format agreed: 1 native, 2 loaded, 3 decided in T1 (R253). -/
def HID.TRN_FORMAT : Fld := ⟨2051, 0, 2, .RO, 0, .const 0⟩
/-- Tier agreed (R254). -/
def HID.TRN_TIER : Fld := ⟨2052, 0, 3, .RO, 0, .const 0⟩
/-- Partner's HELLO: MODE, capabilities, MIN_TIER: [1:0], [2], [3], [6:4]. -/
def HID.TRN_PMODE : Fld := ⟨2053, 0, 8, .RO, 0, .const 0⟩
/-- Own REPORT: [11:0] SNR, [12] NATIVE_OK. -/
def HID.TRN_OWN : Fld := ⟨2054, 0, 16, .RO, 0, .const 0⟩
/-- Own REPORT tier, 0xFF none (R251). -/
def HID.TRN_OWN_TIER : Fld := ⟨2055, 0, 8, .RO, 0, .const 0⟩
/-- Partner's REPORT: NATIVE_OK (R254). -/
def HID.TRN_P_OK : Fld := ⟨2056, 0, 1, .RO, 0, .const 0⟩
/-- Partner's REPORT tier (R254). -/
def HID.TRN_P_TIER : Fld := ⟨2057, 0, 8, .RO, 0, .const 0⟩
/-- Shaping iterations accepted (R255). -/
def HID.TRN_ITER : Fld := ⟨2058, 0, 5, .RO, 0, .const 0⟩
/-- SNR after the last accepted iteration (R255). -/
def HID.TRN_SNR : Fld := ⟨2059, 0, 12, .RO, 0, .const 0⟩
/-- Successive iterations that gained less than 0.1 dB (R255). -/
def HID.TRN_SMALL : Fld := ⟨2060, 0, 2, .RO, 0, .const 0⟩
/-- SEQ named in the partner's SWITCH (R257). -/
def HID.TRN_LAST : Fld := ⟨2061, 0, 16, .RO, 0, .const 0⟩
/-- BITS segments received (R256). -/
def HID.TRN_BITS : Fld := ⟨2062, 0, 2, .RO, 0, .const 0⟩
/-- Active bank of the lane's bit tables (R210, R228). -/
def HID.BIT_BANK : Fld := ⟨2063, 0, 1, .RO, 0, .const 0⟩
/-- Code at the pad of channel 16k + c: OUT_CODE but during a deglitch hold (R391). -/
def HID.EMG_PAD : Fld := ⟨2064, 0, 12, .RO, 0, .const 0⟩
/-- Output duty of heater 8k + h, in force from the next period start (R398). -/
def HID.PWM_NEXT : Fld := ⟨2065, 0, 16, .RO, 0, .const 0⟩
/-- Remainder of heater 8k + h carried to the next period, offset by half a tick (R396). -/
def HID.PWM_REM : Fld := ⟨2066, 0, 17, .RO, 0, .const 32768⟩
/-- Ticks heater 8k + h is high in the period in progress (R396). -/
def HID.PWM_HIGH : Fld := ⟨2067, 0, 14, .RO, 0, .const 0⟩
/-- PWM period of site k from the next period start (R397). -/
def HID.PWM_PERIOD_NEXT : Fld := ⟨2068, 0, 14, .RO, 0, .const 3125⟩
/-- Counter value carried by sealed copy A of the ceiling store (R400). -/
def HID.CEIL_CNT_A : Fld := ⟨2069, 0, 13, .RO, 0, .const 0⟩
/-- Counter value carried by sealed copy B (R400). -/
def HID.CEIL_CNT_B : Fld := ⟨2070, 0, 13, .RO, 0, .const 0⟩
/-- Gallery + 1 that a fault swap of sheaf s waits to wake (R341); 0 = none. -/
def HID.SWAP_PEND : Fld := ⟨2071, 0, 7, .RO, 0, .const 0⟩
/-- State + 1 a domain is moving to (R427); 0 = no change in progress. -/
def HID.DOM_TGT : Fld := ⟨2072, 0, 3, .RO, 0, .const 0⟩
/-- State + 1 a domain enters after passing through S0 (R427); 0 = none. -/
def HID.DOM_NEXT : Fld := ⟨2073, 0, 3, .RO, 0, .const 0⟩
/-- A DOMAIN_RESET of the domain is in progress (R95). -/
def HID.DOM_RST : Fld := ⟨2074, 0, 1, .RO, 0, .const 0⟩
/-- The target's test was ended once by the watchdog (R466). -/
def HID.GLN_WD : Fld := ⟨2075, 0, 1, .RO, 0, .const 0⟩
/-- The target is not tested again in this cycle (R467). -/
def HID.GLN_SKIP : Fld := ⟨2076, 0, 1, .RO, 0, .const 0⟩
/-- Spare SRAM bank x is FAILED (R469). -/
def HID.GLN_SRAM_FAIL : Fld := ⟨2077, 0, 1, .RO, 0, .const 0⟩
/-- State + 1 a gallery woken for gleaning returns to (R467); 0 = none. -/
def HID.GLN_FORMER : Fld := ⟨2078, 0, 3, .RO, 0, .const 0⟩
/-- Inputs of site k's running scan not converted yet (R410). -/
def HID.MON_LEFT : Fld := ⟨2079, 0, 16, .RO, 0, .const 0⟩
/-- Group of site k's running scan: 1 PWM, 2 TEV, 3 CMD; 0 = none (R411). -/
def HID.MON_GROUP : Fld := ⟨2080, 0, 2, .RO, 0, .const 0⟩
/-- Tick at which the domain entered its state (R433). -/
def HID.DOM_SINCE : Fld := ⟨2081, 0, 64, .RO, 0, .const 0⟩
/-- Ticks domain D spent in state t before the present one, part 4D + t (R433). -/
def HID.RES_TICKS : Fld := ⟨2082, 0, 64, .RO, 0, .const 0⟩
/-- Power-gate misses of the wake in progress (R429). -/
def HID.PG_TRIES : Fld := ⟨2083, 0, 2, .RO, 0, .const 0⟩
/-- Start attempts missed by corridor c (R492). -/
def HID.DDL_TRIES : Fld := ⟨2084, 0, 4, .RO, 0, .const 0⟩
/-- DDL lane (2c + d) x 1056 + x awaits replacement (R496, R498). -/
def HID.DDL_WANT : Fld := ⟨2085, 0, 1, .RO, 0, .const 0⟩
/-- Physical lane + 1 that direction 2c + d is replacing; 0 = none (R496). -/
def HID.DDL_FROM : Fld := ⟨2086, 0, 12, .RO, 0, .const 0⟩
/-- Spare + 1 it is being replaced by (R496). -/
def HID.DDL_TO : Fld := ⟨2087, 0, 12, .RO, 0, .const 0⟩
/-- Bit n = group n of direction 2c + d is out of use (R497). -/
def HID.DDL_GROUPS : Fld := ⟨2088, 0, 16, .RO, 0, .const 0⟩
/-- Consecutive markers missed on the lane (R494). -/
def HID.DDL_MISS : Fld := ⟨2089, 0, 2, .RO, 0, .const 0⟩
/-- Retries of the control message in hand, direction 2c + d (R495). -/
def HID.DDL_RETRY : Fld := ⟨2090, 0, 5, .RO, 0, .const 0⟩
/-- Retire entry 512n + x is being copied to its spare row (R459). -/
def HID.COPY : Fld := ⟨2091, 0, 1, .RO, 0, .const 0⟩
/-- The power-up known-answer tests have passed (R123, R124). -/
def HID.KAT_OK : Fld := ⟨2092, 0, 1, .RO, 0, .const 0⟩
/-- The time event STBY_TEV ends STANDBY (R432). -/
def HID.STBY_TEV_EN : Fld := ⟨2093, 0, 1, .RO, 0, .const 0⟩
/-- Event named at entry to STANDBY (R432). -/
def HID.STBY_TEV : Fld := ⟨2094, 0, 6, .RO, 0, .const 0⟩
/-- Bring-up waits 100 ms for a power-good input (R88). -/
def HID.PG_WAITING : Fld := ⟨2095, 0, 1, .RO, 0, .const 0⟩
/-- Tick at which the lockout of role r ends (R111). -/
def HID.LOCK_END : Fld := ⟨2096, 0, 64, .RO, 0, .const 0⟩
/-- Tick of the CHALLENGE in force (R110). -/
def HID.VST_AT : Fld := ⟨2097, 0, 64, .RO, 0, .const 0⟩
/-- Tick at which the return window was armed (R108). -/
def HID.RETURN_AT : Fld := ⟨2098, 0, 64, .RO, 0, .const 0⟩
/-- Powered hours of the wear account (R475). -/
def HID.WEAR_HOURS : Fld := ⟨2099, 0, 32, .RO, 0, .const 0⟩
/-- Hours above 85 C (R475). -/
def HID.WEAR_H85 : Fld := ⟨2100, 0, 32, .RO, 0, .const 0⟩
/-- Hours above 100 C (R475). -/
def HID.WEAR_H100 : Fld := ⟨2101, 0, 32, .RO, 0, .const 0⟩
/-- Sum of the hourly hottest readings, 0.125 C units, offset by 2^15 each (R475). -/
def HID.WEAR_TJ : Fld := ⟨2102, 0, 64, .RO, 0, .const 0⟩
/-- A firmware image is being written (R104). -/
def HID.FW_WR_ON : Fld := ⟨2103, 0, 1, .RO, 0, .const 0⟩
/-- Offset its next piece must start at (R104). -/
def HID.FW_WR_END : Fld := ⟨2104, 0, 32, .RO, 0, .const 0⟩
/-- The function is in D3hot: no fetching, no bus mastering (R152). -/
def HID.D3HOT : Fld := ⟨2105, 0, 1, .RO, 0, .const 0⟩
/-- Period of time event n in 2^-16 ns (R169). -/
def HID.TEV_PERIOD : Fld := ⟨2106, 0, 48, .RO, 0, .const 0⟩
/-- Each firing of time event n writes an event record (R169). -/
def HID.TEV_IRQ : Fld := ⟨2107, 0, 1, .RO, 0, .const 0⟩
/-- An edge of PPS_IN was captured and the next one is awaited (R163). -/
def HID.PPS_WAIT : Fld := ⟨2108, 0, 1, .RO, 0, .const 0⟩
/-- The wake of sheaf s still waits for its synthesiser's first lock (R427, R429). -/
def HID.WAKE_SYN : Fld := ⟨2109, 0, 1, .RO, 0, .const 0⟩
/-- The lane's wake frames end when its envelope stands 10 us (R238). -/
def HID.STOP_ON_RX : Fld := ⟨2110, 0, 1, .RO, 0, .const 0⟩
/-- Codewords of the lane's window in progress (R283). -/
def HID.FEC_WIN_CW : Fld := ⟨2111, 0, 32, .RO, 0, .const 0⟩
/-- Corrected symbols of the window in progress, 16 for an uncorrectable codeword (R283). -/
def HID.FEC_WIN_SYM : Fld := ⟨2112, 0, 48, .RO, 0, .const 0⟩
/-- Highest bin counted in the window in progress (R283). -/
def HID.FEC_WIN_TAIL : Fld := ⟨2113, 0, 4, .RO, 0, .const 0⟩
/-- The window in progress held an uncorrectable codeword (R283). -/
def HID.FEC_WIN_UNC : Fld := ⟨2114, 0, 1, .RO, 0, .const 0⟩
/-- Next number given to a packet and to its place in its order class (R332). -/
def HID.PKT_NEXT : Fld := ⟨2115, 0, 64, .RO, 0, .const 0⟩
/-- Old gallery + 1 whose switch marker hall h awaits for sheaf s, part 64h + s (R317); 0 = none. -/
def HID.SW_HOLD : Fld := ⟨2116, 0, 7, .RO, 0, .const 0⟩
/-- Packets gallery g still admits before it tags one (R485). -/
def HID.TAG_LEFT : Fld := ⟨2117, 0, 26, .RO, 0, .const 0⟩
/-- Bytes received in port p's bandwidth window in progress (R487). -/
def HID.BW_RX : Fld := ⟨2118, 0, 64, .RO, 0, .const 0⟩
/-- Bytes sent in port p's bandwidth window in progress (R487). -/
def HID.BW_TX : Fld := ⟨2119, 0, 64, .RO, 0, .const 0⟩
/-- SEQ of port p's bandwidth windows (R487). -/
def HID.BW_SEQ : Fld := ⟨2120, 0, 16, .RO, 0, .const 0⟩
/-- An MKA participant is set on port p (R296). -/
def HID.MKA_ON : Fld := ⟨2121, 0, 1, .RO, 0, .const 0⟩
/-- Its CAK slot. -/
def HID.MKA_CAK : Fld := ⟨2122, 0, 10, .RO, 0, .const 0⟩
/-- Its key-server priority. -/
def HID.MKA_PRIO : Fld := ⟨2123, 0, 8, .RO, 0, .const 0⟩
/-- Its confidentiality offset code. -/
def HID.MKA_COFF : Fld := ⟨2124, 0, 2, .RO, 0, .const 0⟩
/-- Transmit channel c puts its SCI in the SecTAG (R298). -/
def HID.MSC_INC_SCI : Fld := ⟨2125, 0, 1, .RO, 0, .const 0⟩
/-- Order in which entry n of TBL_POISON_LOG was written (R365). -/
def HID.PLOG_SEQ : Fld := ⟨2126, 0, 64, .RO, 0, .const 0⟩
/-- The queues of hall h are isolated by an internal error of its traffic manager (R385). -/
def HID.HALL_ISO : Fld := ⟨2127, 0, 1, .RO, 0, .const 0⟩
/-- Cause of the state a domain enters next (R428, R442). -/
def HID.DOM_NCAUSE : Fld := ⟨2128, 0, 3, .RO, 0, .const 0⟩
/-- Level that throttling allows die n of PL_SET (R424, R436). -/
def HID.PL_THR : Fld := ⟨2129, 0, 2, .RO, 0, .const 3⟩
/-- Voltage of steered rail n as last set, mV (R68, R69). -/
def HID.RAIL_MV : Fld := ⟨2130, 0, 10, .RO, 0, .const 780⟩
/-- Voltage of rail n commanded and not yet verified (R69); 0 = none. -/
def HID.VRM_CMD : Fld := ⟨2131, 0, 10, .RO, 0, .const 0⟩
/-- Voltage at which the change of rail n ends (R69). -/
def HID.VRM_GOAL : Fld := ⟨2132, 0, 10, .RO, 0, .const 0⟩
/-- The die of rail n goes up one level when its voltage is there (R69). -/
def HID.VRM_RAISE : Fld := ⟨2133, 0, 1, .RO, 0, .const 0⟩
/-- Failed tries of the step in hand on rail n (R69). -/
def HID.VRM_TRIES : Fld := ⟨2134, 0, 2, .RO, 0, .const 0⟩
/-- The last thermal sample was above the threshold (R435). -/
def HID.TH_HOT : Fld := ⟨2135, 0, 1, .RO, 0, .const 0⟩
/-- A DRAM stack was above DRAM_THR at its last read (R439). -/
def HID.TH_DRAM : Fld := ⟨2136, 0, 1, .RO, 0, .const 0⟩
/-- Bit D = two neighbours of one site of die D are SUSPECT (R438). -/
def HID.TH_TWO : Fld := ⟨2137, 0, 14, .RO, 0, .const 0⟩
/-- Consecutive samples in which site i departed by more than 12 K (R438). -/
def HID.TH_BAD : Fld := ⟨2138, 0, 2, .RO, 0, .const 0⟩
/-- Consecutive samples in which SUSPECT site i stayed within 6 K (R438). -/
def HID.TH_GOOD : Fld := ⟨2139, 0, 10, .RO, 0, .const 0⟩
/-- Order in which entry 32n + e of MEM_CE_LOG was taken (R456). -/
def HID.CE_SEQ : Fld := ⟨2140, 0, 64, .RO, 0, .const 0⟩
/-- Slice + 1 that lane l has OUT for calibration (R202, R471); 0 = none. -/
def HID.CAL_NOW : Fld := ⟨2141, 0, 8, .RO, 0, .const 0⟩
/-- Slice 136l + j has had its step in the pass that runs (R471). -/
def HID.CAL_SEEN : Fld := ⟨2142, 0, 1, .RO, 0, .const 0⟩
/-- Comparators chosen for slice 136l + j + 16, in force when it next becomes ACTIVE (R471); 0 = none. -/
def HID.CAL_COMP : Fld := ⟨2143, 0, 5, .RO, 0, .const 0⟩
/-- Lanes that the ADC pass of target x has not finished (R471). -/
def HID.CAL_LANES : Fld := ⟨2144, 0, 8, .RO, 0, .const 0⟩
/-- Lanes that the pass of target x could not finish (R472). -/
def HID.CAL_SKIP : Fld := ⟨2145, 0, 8, .RO, 0, .const 0⟩
/-- A step of the pass of target x timed out (R472). -/
def HID.CAL_MISS : Fld := ⟨2146, 0, 1, .RO, 0, .const 0⟩
/-- Time event of the calibration window of target x (R474). -/
def HID.CAL_TEV : Fld := ⟨2147, 0, 6, .RO, 0, .const 0⟩
/-- Lanes of the calibration window of target x (R474). -/
def HID.CAL_MASK : Fld := ⟨2148, 0, 8, .RO, 0, .const 0⟩
/-- Slices of the gleaning cycle passed or given up (R467). -/
def HID.GLN_ACC : Fld := ⟨2149, 0, 17, .RO, 0, .const 0⟩
/-- Slices of IDLE target n passed in the cycle (R465). -/
def HID.GLN_PART : Fld := ⟨2150, 0, 5, .RO, 0, .const 0⟩
/-- Die D: bit 0 = low slack reported, bit 1 = no margin left reported (R476). -/
def HID.AGE_OUT : Fld := ⟨2151, 0, 2, .RO, 0, .const 0⟩
/-- Tick of the last fetch, host DMA, flash access or PMBus transaction (R468). -/
def HID.IDLE_AT : Fld := ⟨2152, 0, 64, .RO, 0, .const 0⟩
/-- The session that owns landing slot n has closed (R114, R194). -/
def HID.LND_ORPHAN : Fld := ⟨2153, 0, 1, .RO, 0, .const 0⟩
/-- The TAG last taken (R485). -/
def HID.TAG_LAST : Fld := ⟨2154, 0, 32, .RO, 0, .const 0⟩
/-- Tick at which the entry in force of port p's gate list began (R382, R383). -/
def HID.GATE_AT : Fld := ⟨2155, 0, 64, .RO, 0, .const 0⟩
/-- Level at FL_CLK outside a flash access (R44). -/
def HID.FL_CLK : Fld := ⟨2156, 0, 1, .RO, 0, .const 0⟩
/-- Level at FL_CS_N outside a flash access (R44). -/
def HID.FL_CS_N : Fld := ⟨2157, 0, 1, .RO, 0, .const 1⟩
/-- FL_IO stands at high impedance outside a flash access (R44). -/
def HID.FL_IO_Z : Fld := ⟨2158, 0, 1, .RO, 0, .const 1⟩
/-- PM_SCL and PM_SDA are released outside a PMBus transaction (R44). -/
def HID.PM_REL : Fld := ⟨2159, 0, 1, .RO, 0, .const 1⟩
/-- TDO stands at high impedance (R44, R45). -/
def HID.TDO_Z : Fld := ⟨2160, 0, 1, .RO, 0, .const 1⟩
/-- Counter part `cntPart f i` stands at, or has stood at, its maximum (R13). -/
def HID.SAT : Fld := ⟨2161, 0, 1, .RO, 0, .const 0⟩
/-- Statistics counter part `cntPart f i` has wrapped (R13). -/
def HID.WRAP : Fld := ⟨2162, 0, 1, .RO, 0, .const 0⟩
/-- Address of MSI-X table entry v (R131). -/
def HID.MSIX_ADDR : Fld := ⟨2163, 0, 64, .RO, 0, .const 0⟩
/-- Data of MSI-X table entry v (R131). -/
def HID.MSIX_DATA : Fld := ⟨2164, 0, 32, .RO, 0, .const 0⟩
/-- Mask bit of MSI-X table entry v (R131). -/
def HID.MSIX_MASK : Fld := ⟨2165, 0, 1, .RO, 0, .const 1⟩
/-- Pending bit of vector v (R131). -/
def HID.MSIX_PEND : Fld := ⟨2166, 0, 1, .RO, 0, .const 0⟩
/-- MSI-X is enabled (R126, R131). -/
def HID.MSIX_EN : Fld := ⟨2167, 0, 1, .RO, 0, .const 0⟩
/-- The function's MSI-X mask (R126, R131). -/
def HID.MSIX_FMASK : Fld := ⟨2168, 0, 1, .RO, 0, .const 0⟩
/-- Address written to BAR0 (R127). -/
def HID.BAR0_ADDR : Fld := ⟨2169, 0, 64, .RO, 0, .const 0⟩
/-- Address written to BAR2 (R127). -/
def HID.BAR2_ADDR : Fld := ⟨2170, 0, 64, .RO, 0, .const 0⟩
/-- Max payload size host software set, 128 x 2^n bytes (R126). -/
def HID.DEV_MPS : Fld := ⟨2171, 0, 3, .RO, 0, .const 0⟩
/-- Max read request size host software set, 128 x 2^n bytes (R126). -/
def HID.DEV_MRRS : Fld := ⟨2172, 0, 3, .RO, 0, .const 2⟩
/-- Tick plus 1 of the last load strobe of site k (R58). -/
def HID.STROBE_AT : Fld := ⟨2173, 0, 64, .RO, 0, .const 0⟩
/-- VOUT_MODE read from regulator n as steering was enabled (R68). -/
def HID.VOUT_MODE : Fld := ⟨2174, 0, 8, .RO, 0, .const 0⟩
/-- The boot load of the structure image has ended (R87). -/
def HID.BOOT_LOADED : Fld := ⟨2175, 0, 1, .RO, 0, .const 0⟩
/-- RCLK_OUT r: 0 off, 1 running, 2 holding its last frequency (R44, R165). -/
def HID.RCLK_RUN : Fld := ⟨2176, 0, 2, .RO, 0, .const 0⟩
/-- KIND of the capture that lane l runs, latched at its START (R213). -/
def HID.CAP_KIND : Fld := ⟨2177, 0, 3, .RO, 0, .const 0⟩
/-- Tick at which lane l entered HOLD (R222). -/
def HID.HOLD_AT : Fld := ⟨2178, 0, 64, .RO, 0, .const 0⟩
/-- The output of lane l is squelched (R234). -/
def HID.SQ_OUT : Fld := ⟨2179, 0, 1, .RO, 0, .const 1⟩
/-- WORD of the wake frames lane l sends (R238). -/
def HID.WAKE_WORD : Fld := ⟨2180, 0, 16, .RO, 0, .const 0⟩
/-- Lane l has wake frames to send (R238). -/
def HID.WAKE_JOB : Fld := ⟨2181, 0, 1, .RO, 0, .const 0⟩
/-- Frames sent in T1 are odd in number (R254). -/
def HID.TRN_FRAMES : Fld := ⟨2182, 0, 1, .RO, 0, .const 0⟩
/-- The partner has accepted the shape request last sent (R255). -/
def HID.TRN_ACCEPTED : Fld := ⟨2183, 0, 1, .RO, 0, .const 0⟩
/-- Inner encoder of lane l: bit 0 u(k-1), bit 1 u(k-2), bit 2 u(k-3) (R268). -/
def HID.ENC_REG : Fld := ⟨2184, 0, 3, .RO, 0, .const 0⟩
/-- Puncture phase of lane l (R268). -/
def HID.ENC_PUNC : Fld := ⟨2185, 0, 4, .RO, 0, .const 0⟩
/-- Scrambler of lane l's stream (R264). -/
def HID.SCRAM : Fld := ⟨2186, 0, 58, .RO, 0, .const 0⟩
/-- Codeword pair of the marker period lane l sends next, 0 to 383 (R270, R272). -/
def HID.AM_PAIR : Fld := ⟨2187, 0, 9, .RO, 0, .const 0⟩
/-- COUNT of the next alignment marker lane l sends (R272). -/
def HID.AM_SENT : Fld := ⟨2188, 0, 16, .RO, 0, .const 0⟩
/-- Transform symbol of the superframe lane l sends next (R279). -/
def HID.SUPER_PH : Fld := ⟨2189, 0, 2, .RO, 0, .const 0⟩
/-- Time + 1 of the PPS_OUT edge that COMP_NS puts after its firing, 2^-16 ns; 0 = none (R164). -/
def HID.PPS_DUE : Fld := ⟨2190, 0, 97, .RO, 0, .const 0⟩
/-- NEXT + 1 of the firing whose PPS_OUT edge COMP_NS has put before it; 0 = none (R164). -/
def HID.PPS_DONE : Fld := ⟨2191, 0, 97, .RO, 0, .const 0⟩
/-- Frequency RCLK_OUT r runs at or holds, as TIM_RCLK.FREQ (R165). -/
def HID.RCLK_HZ : Fld := ⟨2192, 0, 2, .RO, 0, .const 0⟩
/-- Times the synthesiser of sheaf s has itself raised its fault (R224, R227). -/
def HID.SYN_RAISED : Fld := ⟨2193, 0, 32, .RO, 0, .const 0⟩
/-- Tick plus 1 at which the wake of domain d in progress began (R428). -/
def HID.WAKE_AT : Fld := ⟨2194, 0, 64, .RO, 0, .const 0⟩
/-- Last 14 PAM4 symbols lane l has put into its pre-distorter, 2 bits each, the newest lowest (R228, R230). -/
def HID.TX_TAIL : Fld := ⟨2195, 0, 28, .RO, 0, .const 0⟩
/-- The last reset of the device was a cold one (R203). -/
def HID.POWER_UP : Fld := ⟨2196, 0, 1, .RO, 0, .const 0⟩
/-- Tick at which port p's bandwidth window in progress began (R487). -/
def HID.BW_AT : Fld := ⟨2197, 0, 64, .RO, 0, .const 0⟩
/-- Tick plus 1 at which the test of a gleaning target was last aborted; 0 = it was not (R468). -/
def HID.GLN_ABORT_AT : Fld := ⟨2198, 0, 64, .RO, 0, .const 0⟩

end Sys2Proof.Machine
end

