-- ==== Sys2Proof/Machine/Regs.lean ====
section
/-! DEFINITION. Every register of BAR0, field by field, as the register tables of the spec give them: the bits, the type
(R9), the Role column (R11) and the reset column (R10). The map `registers` gives each register's offset, its instances
and its length; a register's length is the one its table names, otherwise its listed bits rounded up to 4 bytes
(DESIGN CHOICE, log entry 10). -/

namespace Sys2Proof.Machine

/-! GLB_STRAP, 0x0000_0100 (R47, 02_package_and_lands.md). -/
/-- [3:0] ROS. STRAP[3:0] as last sampled under R46. -/
def GLB_STRAP.STRAP : Fld := ⟨0, 0, 4, .ROS, 0, .const 0⟩

/-- GLB_STRAP: offset, instances, length and fields. -/
def reg_GLB_STRAP : RegSpec := ⟨256, [], 4,
  [GLB_STRAP.STRAP]⟩

/-! EMG_SITE_PRES, 0x009F_0000 + k x 0x0000_0010 (R56, 02_package_and_lands.md). -/
/-- [0] RO. 1 = filtered PRES_N is low. -/
def EMG_SITE_PRES.PRESENT : Fld := ⟨1, 0, 1, .RO, 0, .const 0⟩
/-- [1] W1C. Set on each filtered change of PRES_N. -/
def EMG_SITE_PRES.PRES_CHG : Fld := ⟨2, 1, 1, .W1C, 1, .const 0⟩
/-- [7:4] RO. Engine class from the last ID measurement. -/
def EMG_SITE_PRES.ID_CODE : Fld := ⟨3, 4, 4, .RO, 0, .const 15⟩
/-- [9:8] RO. 0 = NOT_MEASURED, 1 = VALID, 2 = NONE (class 15), 3 = FAULT. -/
def EMG_SITE_PRES.ID_STAT : Fld := ⟨4, 8, 2, .RO, 0, .const 0⟩
/-- [27:16] RO. Last measured ID voltage, in mV. -/
def EMG_SITE_PRES.ID_MV : Fld := ⟨5, 16, 12, .RO, 0, .const 0⟩

/-- EMG_SITE_PRES: offset, instances, length and fields. -/
def reg_EMG_SITE_PRES : RegSpec := ⟨10420224, [(16, 64)], 4,
  [EMG_SITE_PRES.PRESENT, EMG_SITE_PRES.PRES_CHG, EMG_SITE_PRES.ID_CODE, EMG_SITE_PRES.ID_STAT, EMG_SITE_PRES.ID_MV]⟩

/-! GLB_PIN_STAT, 0x0000_0104 (R62, 02_package_and_lands.md). -/
/-- [0] RO. 1 = DAC_CLR_N is low. -/
def GLB_PIN_STAT.DAC_CLR : Fld := ⟨6, 0, 1, .RO, 0, .const 1⟩
/-- [1] RO. 1 = DAC_LOAD_N is low. -/
def GLB_PIN_STAT.DAC_LOAD : Fld := ⟨7, 1, 1, .RO, 0, .const 0⟩
/-- [2] RO. 1 = ZEROIZE_N is low after its filter. -/
def GLB_PIN_STAT.ZEROIZE : Fld := ⟨8, 2, 1, .RO, 0, .const 0⟩
/-- [3] RO. 1 = the CL512 drives FAULT_N low. -/
def GLB_PIN_STAT.FAULT : Fld := ⟨9, 3, 1, .RO, 0, .const 0⟩
/-- [4] RO. 1 = the CL512 drives THERMTRIP_N low. -/
def GLB_PIN_STAT.THERMTRIP : Fld := ⟨10, 4, 1, .RO, 0, .const 0⟩
/-- [5] RO. Level of PPS_IN. -/
def GLB_PIN_STAT.PPS_IN : Fld := ⟨11, 5, 1, .RO, 0, .const 0⟩
/-- [6] RO. 1 = PM_ALERT_N is low. -/
def GLB_PIN_STAT.PM_ALERT : Fld := ⟨12, 6, 1, .RO, 0, .const 0⟩
/-- [8] W1C. Set when DAC_CLR_N goes low. Survives warm reset. -/
def GLB_PIN_STAT.DAC_CLR_SEEN : Fld := ⟨13, 8, 1, .W1C, 1, .const 0⟩
/-- [9] ROS. Set when ZEROIZE_N starts zeroisation. Cleared by cold reset. -/
def GLB_PIN_STAT.ZEROIZE_SEEN : Fld := ⟨14, 9, 1, .ROS, 0, .const 0⟩
/-- [25:16] RO. PG_LINE, PG_GAL[3:0], PG_HALL[1:0], PG_AUX, PG_DRAM, PG_EMG, from bit 16 upward; 1 = good. -/
def GLB_PIN_STAT.PG : Fld := ⟨15, 16, 10, .RO, 0, .const 0⟩

/-- GLB_PIN_STAT: offset, instances, length and fields. -/
def reg_GLB_PIN_STAT : RegSpec := ⟨260, [], 4,
  [GLB_PIN_STAT.DAC_CLR, GLB_PIN_STAT.DAC_LOAD, GLB_PIN_STAT.ZEROIZE, GLB_PIN_STAT.FAULT, GLB_PIN_STAT.THERMTRIP, GLB_PIN_STAT.PPS_IN, GLB_PIN_STAT.PM_ALERT, GLB_PIN_STAT.DAC_CLR_SEEN, GLB_PIN_STAT.ZEROIZE_SEEN, GLB_PIN_STAT.PG]⟩

/-! PWR_VRM_CFG, 0x0050_0100 + n x 0x0000_0010 (R71, 03_ratings_and_supplies.md). -/
/-- [6:0] RWL. 7-bit PMBus address of the regulator. -/
def PWR_VRM_CFG.ADDR : Fld := ⟨16, 0, 7, .RWL, 2, .const 0⟩
/-- [11:8] RWL. PMBus PAGE of the rail within the regulator. -/
def PWR_VRM_CFG.PAGE : Fld := ⟨17, 8, 4, .RWL, 2, .const 0⟩
/-- [15] RWL. 1 = ADDR, PAGE and LOCK frozen until cold reset. -/
def PWR_VRM_CFG.LOCK : Fld := ⟨18, 15, 1, .RWL, 2, .const 0⟩
/-- [16] RW. 1 = the CL512 steers this rail. 0 = the rail stays at its last voltage and only the die's frequency changes. Writing 1 clears STAT and restarts steering. -/
def PWR_VRM_CFG.EN : Fld := ⟨19, 16, 1, .RW, 2, .const 0⟩
/-- [27:18] RO. Last confirmed READ_VOUT, in mV. -/
def PWR_VRM_CFG.VOUT_MV : Fld := ⟨20, 18, 10, .RO, 0, .const 0⟩
/-- [31:30] RO. 0 = IDLE, 1 = OK, 2 = NACK, 3 = MISMATCH. -/
def PWR_VRM_CFG.STAT : Fld := ⟨21, 30, 2, .RO, 0, .const 0⟩

/-- PWR_VRM_CFG: offset, instances, length and fields. -/
def reg_PWR_VRM_CFG : RegSpec := ⟨5243136, [(16, 6)], 4,
  [PWR_VRM_CFG.ADDR, PWR_VRM_CFG.PAGE, PWR_VRM_CFG.LOCK, PWR_VRM_CFG.EN, PWR_VRM_CFG.VOUT_MV, PWR_VRM_CFG.STAT]⟩

/-! GLB_BOOT_STAT, 0x0000_0110 (R96, 04_power_to_service.md). -/
/-- [3:0] RO. 0 = ROM, 1 = FW_START, 2 = FILL, 3 = READY, 4 = SERVICE, 8 = RECOVERY, 9 = HALTED. -/
def GLB_BOOT_STAT.STAGE : Fld := ⟨22, 0, 4, .RO, 0, .const 0⟩
/-- [5:4] RO. Firmware slot running: 0 = A, 1 = B, 3 = NONE. -/
def GLB_BOOT_STAT.FW_SLOT : Fld := ⟨23, 4, 2, .RO, 0, .const 3⟩
/-- [7:6] RO. Structure image in force: 0 = slot A, 1 = slot B, 2 = HOST (loaded by command), 3 = NONE. -/
def GLB_BOOT_STAT.SI_SLOT : Fld := ⟨24, 6, 2, .RO, 0, .const 3⟩
/-- [8] RO. Firmware slot A abandoned at the last boot. -/
def GLB_BOOT_STAT.SLOTA_BAD : Fld := ⟨25, 8, 1, .RO, 0, .const 0⟩
/-- [9] RO. Firmware slot B abandoned at the last boot. -/
def GLB_BOOT_STAT.SLOTB_BAD : Fld := ⟨26, 9, 1, .RO, 0, .const 0⟩
/-- [10] RO. Structure-image slot A failed at boot. -/
def GLB_BOOT_STAT.SIA_BAD : Fld := ⟨27, 10, 1, .RO, 0, .const 0⟩
/-- [11] RO. Structure-image slot B failed at boot. -/
def GLB_BOOT_STAT.SIB_BAD : Fld := ⟨28, 11, 1, .RO, 0, .const 0⟩
/-- [12] RO. The ceiling store failed verification. -/
def GLB_BOOT_STAT.CEIL_BAD : Fld := ⟨29, 12, 1, .RO, 0, .const 0⟩
/-- [13] RO. Zero-fill of all powered memories is complete. -/
def GLB_BOOT_STAT.FILL_DONE : Fld := ⟨30, 13, 1, .RO, 0, .const 0⟩
/-- [14] RO. At least one domain is held in S3 under R88. -/
def GLB_BOOT_STAT.PG_MISSING : Fld := ⟨31, 14, 1, .RO, 0, .const 0⟩
/-- [23:16] RO. Low 8 bits of the running firmware's SVN. -/
def GLB_BOOT_STAT.FW_SVN : Fld := ⟨32, 16, 8, .RO, 0, .const 0⟩

/-- GLB_BOOT_STAT: offset, instances, length and fields. -/
def reg_GLB_BOOT_STAT : RegSpec := ⟨272, [], 4,
  [GLB_BOOT_STAT.STAGE, GLB_BOOT_STAT.FW_SLOT, GLB_BOOT_STAT.SI_SLOT, GLB_BOOT_STAT.SLOTA_BAD, GLB_BOOT_STAT.SLOTB_BAD, GLB_BOOT_STAT.SIA_BAD, GLB_BOOT_STAT.SIB_BAD, GLB_BOOT_STAT.CEIL_BAD, GLB_BOOT_STAT.FILL_DONE, GLB_BOOT_STAT.PG_MISSING, GLB_BOOT_STAT.FW_SVN]⟩

/-! GLB_BOOT_FAIL, 0x0000_0114 (R97, 04_power_to_service.md). -/
/-- [7:0] RO. Reason for firmware slot A. -/
def GLB_BOOT_FAIL.FW_A : Fld := ⟨33, 0, 8, .RO, 0, .const 0⟩
/-- [15:8] RO. Reason for firmware slot B. -/
def GLB_BOOT_FAIL.FW_B : Fld := ⟨34, 8, 8, .RO, 0, .const 0⟩
/-- [23:16] RO. Reason for structure-image slot A. -/
def GLB_BOOT_FAIL.SI_A : Fld := ⟨35, 16, 8, .RO, 0, .const 0⟩
/-- [31:24] RO. Reason for structure-image slot B. -/
def GLB_BOOT_FAIL.SI_B : Fld := ⟨36, 24, 8, .RO, 0, .const 0⟩

/-- GLB_BOOT_FAIL: offset, instances, length and fields. -/
def reg_GLB_BOOT_FAIL : RegSpec := ⟨276, [], 4,
  [GLB_BOOT_FAIL.FW_A, GLB_BOOT_FAIL.FW_B, GLB_BOOT_FAIL.SI_A, GLB_BOOT_FAIL.SI_B]⟩

/-! GLB_RESET_CAUSE, 0x0000_0118 (R98, 04_power_to_service.md). -/
/-- [2:0] ROS. 0 = COLD, 1 = WARM, 2 = PERST, 3 = FLR. -/
def GLB_RESET_CAUSE.LAST : Fld := ⟨37, 0, 3, .ROS, 0, .const 0⟩
/-- [4] ROS. GLB_WARM_CNT has saturated. -/
def GLB_RESET_CAUSE.WARM_SAT : Fld := ⟨38, 4, 1, .ROS, 0, .const 0⟩
/-- [5] ROS. GLB_HOST_CNT has saturated. -/
def GLB_RESET_CAUSE.HOST_SAT : Fld := ⟨39, 5, 1, .ROS, 0, .const 0⟩

/-- GLB_RESET_CAUSE: offset, instances, length and fields. -/
def reg_GLB_RESET_CAUSE : RegSpec := ⟨280, [], 4,
  [GLB_RESET_CAUSE.LAST, GLB_RESET_CAUSE.WARM_SAT, GLB_RESET_CAUSE.HOST_SAT]⟩

/-! GLB_WARM_CNT, 0x0000_011C (R98, 04_power_to_service.md). -/
/-- [31:0] ROS. Warm resets since cold reset. -/
def GLB_WARM_CNT.COUNT : Fld := ⟨40, 0, 32, .ROS, 0, .const 0⟩

/-- GLB_WARM_CNT: offset, instances, length and fields. -/
def reg_GLB_WARM_CNT : RegSpec := ⟨284, [], 4,
  [GLB_WARM_CNT.COUNT]⟩

/-! GLB_HOST_CNT, 0x0000_0120 (R98, 04_power_to_service.md). -/
/-- [31:0] ROS. Host resets since cold reset. -/
def GLB_HOST_CNT.COUNT : Fld := ⟨41, 0, 32, .ROS, 0, .const 0⟩

/-- GLB_HOST_CNT: offset, instances, length and fields. -/
def reg_GLB_HOST_CNT : RegSpec := ⟨288, [], 4,
  [GLB_HOST_CNT.COUNT]⟩

/-! SEC_VST_CTRL, 0x0010_0F00 (R109, 05_roles_sessions_and_trust.md). -/
/-- [0] WO. 1 = process the message in SEC_VST_REQ. -/
def SEC_VST_CTRL.GO : Fld := ⟨42, 0, 1, .WO, 0, .const 0⟩
/-- [1] WO. 1 = end the exchange in progress. No response is written, and STATE returns to IDLE. This does not count as a failure. -/
def SEC_VST_CTRL.ABANDON : Fld := ⟨43, 1, 1, .WO, 0, .const 0⟩

/-- SEC_VST_CTRL: offset, instances, length and fields. -/
def reg_SEC_VST_CTRL : RegSpec := ⟨1052416, [], 4,
  [SEC_VST_CTRL.GO, SEC_VST_CTRL.ABANDON]⟩

/-! SEC_VST_STAT, 0x0010_0F04 (R109, 05_roles_sessions_and_trust.md). -/
/-- [2:0] RO. 0 = IDLE, 1 = BUSY (processing a request). 2 = CHALLENGED: a CHALLENGE with STATUS = OK is valid in SEC_VST_RSP and the exchange awaits PROVE. 3 = DONE: a response that ends the exchange is valid in SEC_VST_RSP. -/
def SEC_VST_STAT.STATE : Fld := ⟨44, 0, 3, .RO, 0, .const 0⟩
/-- [15:8] RO. Status byte of the last response. -/
def SEC_VST_STAT.RESULT : Fld := ⟨45, 8, 8, .RO, 0, .const 0⟩
/-- [31:16] RO. Milliseconds until the 10 s timeout, in CHALLENGED. -/
def SEC_VST_STAT.LEFT_MS : Fld := ⟨46, 16, 16, .RO, 0, .const 0⟩

/-- SEC_VST_STAT: offset, instances, length and fields. -/
def reg_SEC_VST_STAT : RegSpec := ⟨1052420, [], 4,
  [SEC_VST_STAT.STATE, SEC_VST_STAT.RESULT, SEC_VST_STAT.LEFT_MS]⟩

/-! SEC_STATUS, 0x0010_1000 (R125, 05_roles_sessions_and_trust.md). -/
/-- [1:0] RO. 0 = FACTORY, 1 = SEALED, 2 = INSTALLED, 3 = RETIRED. -/
def SEC_STATUS.LIFECYCLE : Fld := ⟨47, 0, 2, .RO, 0, .const 1⟩
/-- [4] RO. Approved-mode indicator, under R123. -/
def SEC_STATUS.APPROVED : Fld := ⟨48, 4, 1, .RO, 0, .const 0⟩
/-- [5] RO. 1 = cryptographic error state. -/
def SEC_STATUS.CRYPTO_ERR : Fld := ⟨49, 5, 1, .RO, 0, .const 0⟩
/-- [6] RO. 1 = a return window is open. -/
def SEC_STATUS.RETURN_ARMED : Fld := ⟨50, 6, 1, .RO, 0, .const 0⟩
/-- [14:8] RO. Open sessions, 0–64. -/
def SEC_STATUS.SESSIONS : Fld := ⟨51, 8, 7, .RO, 0, .const 0⟩
/-- [27:16] RO. Key-store counter steps remaining, 0–4 095. -/
def SEC_STATUS.KS_LEFT : Fld := ⟨52, 16, 12, .RO, 0, .const 4095⟩

/-- SEC_STATUS: offset, instances, length and fields. -/
def reg_SEC_STATUS : RegSpec := ⟨1052672, [], 4,
  [SEC_STATUS.LIFECYCLE, SEC_STATUS.APPROVED, SEC_STATUS.CRYPTO_ERR, SEC_STATUS.RETURN_ARMED, SEC_STATUS.SESSIONS, SEC_STATUS.KS_LEFT]⟩

/-! SEC_SLOTS, 0x0010_1004 (R125, 05_roles_sessions_and_trust.md). -/
/-- [15:0] RO. Bit n = Operator slot n filled. -/
def SEC_SLOTS.OP : Fld := ⟨53, 0, 16, .RO, 0, .const 0⟩
/-- [19:16] RO. Bit n = Installer slot n filled. -/
def SEC_SLOTS.INST : Fld := ⟨54, 16, 4, .RO, 0, .const 0⟩
/-- [23:20] RO. Bit n = Installer slot n holds a password-derived key. -/
def SEC_SLOTS.INST_PW : Fld := ⟨55, 20, 4, .RO, 0, .const 0⟩
/-- [24] RO. Maker key present. -/
def SEC_SLOTS.MAKER : Fld := ⟨56, 24, 1, .RO, 0, .const 1⟩

/-- SEC_SLOTS: offset, instances, length and fields. -/
def reg_SEC_SLOTS : RegSpec := ⟨1052676, [], 4,
  [SEC_SLOTS.OP, SEC_SLOTS.INST, SEC_SLOTS.INST_PW, SEC_SLOTS.MAKER]⟩

/-! SEC_LOCKOUT, 0x0010_1010 + r x 0x0000_0004, r = 0 Operator, 1 Installer, 2 Maker (R125, 05_roles_sessions_and_trust.md). -/
/-- [1:0] RO. Failures in the current series, 0–2. -/
def SEC_LOCKOUT.FAILS : Fld := ⟨57, 0, 2, .RO, 0, .const 0⟩
/-- [4:2] RO. k of R111, 0–6. -/
def SEC_LOCKOUT.SERIES : Fld := ⟨58, 2, 3, .RO, 0, .const 0⟩
/-- [27:16] RO. Seconds of lockout remaining. -/
def SEC_LOCKOUT.REMAIN_S : Fld := ⟨59, 16, 12, .RO, 0, .const 0⟩

/-- SEC_LOCKOUT: offset, instances, length and fields. -/
def reg_SEC_LOCKOUT : RegSpec := ⟨1052688, [(4, 3)], 4,
  [SEC_LOCKOUT.FAILS, SEC_LOCKOUT.SERIES, SEC_LOCKOUT.REMAIN_S]⟩

/-! SEC_POLICY, 0x0010_1020 (R125, 05_roles_sessions_and_trust.md). -/
/-- [16:0] RW. Session idle timeout, 60–86 400 s. Values outside that range are held at the nearer limit. -/
def SEC_POLICY.IDLE_S : Fld := ⟨60, 0, 17, .RW, 2, .const 900⟩

/-- SEC_POLICY: offset, instances, length and fields. -/
def reg_SEC_POLICY : RegSpec := ⟨1052704, [], 4,
  [SEC_POLICY.IDLE_S]⟩

/-! SEC_SERIAL, 0x0010_1030, 16 bytes (R125, 05_roles_sessions_and_trust.md). -/
/-- [127:0] RO. Device serial. -/
def SEC_SERIAL.SERIAL : Fld := ⟨61, 0, 128, .RO, 0, .const 0⟩

/-- SEC_SERIAL: offset, instances, length and fields. -/
def reg_SEC_SERIAL : RegSpec := ⟨1052720, [], 16,
  [SEC_SERIAL.SERIAL]⟩

/-! SEC_AUDIT_STAT, 0x0010_1040 (R125, 05_roles_sessions_and_trust.md). -/
/-- [63:0] RO. SEQ of the newest entry. -/
def SEC_AUDIT_STAT.HEAD_SEQ : Fld := ⟨62, 0, 64, .RO, 0, .const 0⟩
/-- [127:64] RO. Last SEQ exported. -/
def SEC_AUDIT_STAT.EXPORT_SEQ : Fld := ⟨63, 64, 64, .RO, 0, .const 0⟩
/-- [159:128] RO. Entries overwritten before export; an error and event counter under R13. -/
def SEC_AUDIT_STAT.LOST : Fld := ⟨64, 128, 32, .RO, 0, .const 0⟩

/-- SEC_AUDIT_STAT: offset, instances, length and fields. -/
def reg_SEC_AUDIT_STAT : RegSpec := ⟨1052736, [], 20,
  [SEC_AUDIT_STAT.HEAD_SEQ, SEC_AUDIT_STAT.EXPORT_SEQ, SEC_AUDIT_STAT.LOST]⟩

/-! SEC_SESSION, 0x0010_1100 + h x 0x0000_0010, h = 0–63 (R125, 05_roles_sessions_and_trust.md). -/
/-- [0] RO. 1 = handle h is open. -/
def SEC_SESSION.OPEN : Fld := ⟨65, 0, 1, .RO, 0, .const 0⟩
/-- [2:1] RO. 1 = O, 2 = I, 3 = M. -/
def SEC_SESSION.ROLE : Fld := ⟨66, 1, 2, .RO, 0, .const 0⟩
/-- [7:4] RO. Credential slot. -/
def SEC_SESSION.CRED : Fld := ⟨67, 4, 4, .RO, 0, .const 0⟩
/-- [16:8] RO. Number of rings bound, 0–256. -/
def SEC_SESSION.RINGS : Fld := ⟨68, 8, 9, .RO, 0, .const 0⟩
/-- [63:32] RO. Milliseconds since the last accepted command. -/
def SEC_SESSION.IDLE_MS : Fld := ⟨69, 32, 32, .RO, 0, .const 0⟩

/-- SEC_SESSION: offset, instances, length and fields. -/
def reg_SEC_SESSION : RegSpec := ⟨1052928, [(16, 64)], 8,
  [SEC_SESSION.OPEN, SEC_SESSION.ROLE, SEC_SESSION.CRED, SEC_SESSION.RINGS, SEC_SESSION.IDLE_MS]⟩

/-! HIF_STATUS, 0x0020_0000 (R153, 06_host_interface_and_commands.md). -/
/-- [0] RO. 1 = PCIe link is up. -/
def HIF_STATUS.LINK_UP : Fld := ⟨70, 0, 1, .RO, 0, .const 0⟩
/-- [1] W1C. An MMIO read returned all-ones for an unpowered domain. -/
def HIF_STATUS.ONES_READ : Fld := ⟨71, 1, 1, .W1C, 1, .const 0⟩
/-- [2] W1C. An MMIO read returned all-ones for an uncorrectable error. -/
def HIF_STATUS.UNCORR_READ : Fld := ⟨72, 2, 1, .W1C, 1, .const 0⟩
/-- [3] W1C. A plain write was dropped under R130. -/
def HIF_STATUS.MMIO_DROP : Fld := ⟨73, 3, 1, .W1C, 1, .const 0⟩
/-- [12:4] RO. Rings bound, 0–256. -/
def HIF_STATUS.RINGS_BOUND : Fld := ⟨74, 4, 9, .RO, 0, .const 0⟩

/-- HIF_STATUS: offset, instances, length and fields. -/
def reg_HIF_STATUS : RegSpec := ⟨2097152, [], 4,
  [HIF_STATUS.LINK_UP, HIF_STATUS.ONES_READ, HIF_STATUS.UNCORR_READ, HIF_STATUS.MMIO_DROP, HIF_STATUS.RINGS_BOUND]⟩

/-! HIF_MMIO_DROP, 0x0020_0008 (R153, 06_host_interface_and_commands.md). -/
/-- [31:0] RO. Dropped plain writes; an error and event counter under R13. Kept across host reset. -/
def HIF_MMIO_DROP.COUNT : Fld := ⟨75, 0, 32, .RO, 0, .const 0⟩
/-- [32] RO. BAR of the last dropped write: 0 = BAR0, 1 = BAR2. -/
def HIF_MMIO_DROP.BAR : Fld := ⟨76, 32, 1, .RO, 0, .const 0⟩
/-- [63:36] RO. Offset of the last dropped write. -/
def HIF_MMIO_DROP.OFFSET : Fld := ⟨77, 36, 28, .RO, 0, .const 0⟩

/-- HIF_MMIO_DROP: offset, instances, length and fields. -/
def reg_HIF_MMIO_DROP : RegSpec := ⟨2097160, [], 8,
  [HIF_MMIO_DROP.COUNT, HIF_MMIO_DROP.BAR, HIF_MMIO_DROP.OFFSET]⟩

/-! HIF_ONES_ADDR, 0x0020_0010 (R153, 06_host_interface_and_commands.md). -/
/-- [27:0] RO. BAR0 offset of the last all-ones read. -/
def HIF_ONES_ADDR.OFFSET : Fld := ⟨78, 0, 28, .RO, 0, .const 0⟩
/-- [31] RO. 0 = unpowered, 1 = uncorrectable. -/
def HIF_ONES_ADDR.KIND : Fld := ⟨79, 31, 1, .RO, 0, .const 0⟩

/-- HIF_ONES_ADDR: offset, instances, length and fields. -/
def reg_HIF_ONES_ADDR : RegSpec := ⟨2097168, [], 4,
  [HIF_ONES_ADDR.OFFSET, HIF_ONES_ADDR.KIND]⟩

/-! HIF_CFG, 0x0020_0020 (R153, 06_host_interface_and_commands.md). -/
/-- [15:0] RW. Barrier timeout, 1–60 000 ms; other values are held at the nearer limit. -/
def HIF_CFG.BARRIER_MS : Fld := ⟨80, 0, 16, .RW, 1, .const 1000⟩

/-- HIF_CFG: offset, instances, length and fields. -/
def reg_HIF_CFG : RegSpec := ⟨2097184, [], 4,
  [HIF_CFG.BARRIER_MS]⟩

/-! HIF_RING_STAT, 0x0020_1000 + n x 0x0000_0010 (R153, 06_host_interface_and_commands.md). -/
/-- [0] RO. 1 = ring n is bound. -/
def HIF_RING_STAT.BOUND : Fld := ⟨81, 0, 1, .RO, 0, .const 0⟩
/-- [6:1] RO. Session handle when bound. -/
def HIF_RING_STAT.HANDLE : Fld := ⟨82, 1, 6, .RO, 0, .const 0⟩
/-- [10:8] RO. 0 = UNBOUND, 1 = RUN, 2 = FENCE, 3 = BARRIER, 4 = CQ_FULL, 5 = DRAINING, 6 = ERROR. -/
def HIF_RING_STAT.STATE : Fld := ⟨83, 8, 3, .RO, 0, .const 0⟩
/-- [28:16] RO. Outstanding commands, 0–4 096. -/
def HIF_RING_STAT.OUTSTANDING : Fld := ⟨84, 16, 13, .RO, 0, .const 0⟩
/-- [127:64] RO. Sequence number the ring expects next. -/
def HIF_RING_STAT.NEXT_SEQ : Fld := ⟨85, 64, 64, .RO, 0, .const 0⟩

/-- HIF_RING_STAT: offset, instances, length and fields. -/
def reg_HIF_RING_STAT : RegSpec := ⟨2101248, [(16, 256)], 16,
  [HIF_RING_STAT.BOUND, HIF_RING_STAT.HANDLE, HIF_RING_STAT.STATE, HIF_RING_STAT.OUTSTANDING, HIF_RING_STAT.NEXT_SEQ]⟩

/-! HIF_HRST_LAST, 0x0020_2000 + n x 0x0000_0008 (R153, 06_host_interface_and_commands.md). -/
/-- [63:0] RO. SEQ of ring n's last accepted command at the last host reset; 0 = none. Cleared by warm reset and cold reset. -/
def HIF_HRST_LAST.LAST_SEQ : Fld := ⟨86, 0, 64, .RO, 0, .const 0⟩

/-- HIF_HRST_LAST: offset, instances, length and fields. -/
def reg_HIF_HRST_LAST : RegSpec := ⟨2105344, [(8, 256)], 8,
  [HIF_HRST_LAST.LAST_SEQ]⟩

/-! HIF_PUNT_STAT, 0x0020_3000 + p x 0x0000_0020 (R153, 06_host_interface_and_commands.md). -/
/-- [63:0] RO. Frames delivered to host; statistics counter. -/
def HIF_PUNT_STAT.TO_HOST : Fld := ⟨87, 0, 64, .RO, 0, .const 0⟩
/-- [127:64] RO. Frames taken from host; statistics counter. -/
def HIF_PUNT_STAT.FROM_HOST : Fld := ⟨88, 64, 64, .RO, 0, .const 0⟩
/-- [159:128] RO. Frames dropped for a full queue or host reset; error and event counter. -/
def HIF_PUNT_STAT.DROP : Fld := ⟨89, 128, 32, .RO, 0, .const 0⟩

/-- HIF_PUNT_STAT: offset, instances, length and fields. -/
def reg_HIF_PUNT_STAT : RegSpec := ⟨2109440, [(32, 64)], 20,
  [HIF_PUNT_STAT.TO_HOST, HIF_PUNT_STAT.FROM_HOST, HIF_PUNT_STAT.DROP]⟩

/-! HIF_EVQ_STAT, 0x0020_4000 + q x 0x0000_0010 (R153, 06_host_interface_and_commands.md). -/
/-- [0] RO. 1 = event queue q is set up. -/
def HIF_EVQ_STAT.ACTIVE : Fld := ⟨90, 0, 1, .RO, 0, .const 0⟩
/-- [63:32] RO. Records dropped on a full queue; error and event counter. -/
def HIF_EVQ_STAT.LOST : Fld := ⟨91, 32, 32, .RO, 0, .const 0⟩

/-- HIF_EVQ_STAT: offset, instances, length and fields. -/
def reg_HIF_EVQ_STAT : RegSpec := ⟨2113536, [(16, 16)], 8,
  [HIF_EVQ_STAT.ACTIVE, HIF_EVQ_STAT.LOST]⟩

/-! TIM_NOW, 0x0030_0000, 16 bytes (R173, 07_network_time.md). -/
/-- [15:0] RO. Fraction, 2^-16 ns. -/
def TIM_NOW.FRAC : Fld := ⟨92, 0, 16, .RO, 0, .const 0⟩
/-- [47:16] RO. Nanoseconds. -/
def TIM_NOW.NS : Fld := ⟨93, 16, 32, .RO, 0, .const 0⟩
/-- [95:48] RO. Seconds. -/
def TIM_NOW.SEC : Fld := ⟨94, 48, 48, .RO, 0, .const 0⟩

/-- TIM_NOW: offset, instances, length and fields. -/
def reg_TIM_NOW : RegSpec := ⟨3145728, [], 16,
  [TIM_NOW.FRAC, TIM_NOW.NS, TIM_NOW.SEC]⟩

/-! TIM_STATUS, 0x0030_0010 (R173, 07_network_time.md). -/
/-- [1:0] RO. 0 = FREE, 1 = LOCKED, 2 = HOLDOVER. -/
def TIM_STATUS.LOCK : Fld := ⟨95, 0, 2, .RO, 0, .const 0⟩
/-- [2] RO. 1 = a step is armed. -/
def TIM_STATUS.STEP_ARMED : Fld := ⟨96, 2, 1, .RO, 0, .const 1⟩
/-- [3] W1C. A TIME_RATE value was held at the limit. -/
def TIM_STATUS.RATE_CLAMP : Fld := ⟨97, 3, 1, .W1C, 1, .const 0⟩
/-- [4] W1C. R163. -/
def TIM_STATUS.PPS_LOST : Fld := ⟨98, 4, 1, .W1C, 1, .const 0⟩
/-- [47:16] RO. Steps applied since cold reset; an error and event counter. -/
def TIM_STATUS.STEPS : Fld := ⟨99, 16, 32, .RO, 0, .const 0⟩

/-- TIM_STATUS: offset, instances, length and fields. -/
def reg_TIM_STATUS : RegSpec := ⟨3145744, [], 8,
  [TIM_STATUS.LOCK, TIM_STATUS.STEP_ARMED, TIM_STATUS.RATE_CLAMP, TIM_STATUS.PPS_LOST, TIM_STATUS.STEPS]⟩

/-! TIM_INCR, 0x0030_0018, 16 bytes (R173, 07_network_time.md). -/
/-- [47:0] RO. Base increment, 2^-40 ns. -/
def TIM_INCR.BASE : Fld := ⟨100, 0, 48, .RO, 0, .const 1407374883553⟩
/-- [127:64] RO. Signed adjustment in force, 2^-40 ns. -/
def TIM_INCR.DELTA : Fld := ⟨101, 64, 64, .RO, 0, .const 0⟩

/-- TIM_INCR: offset, instances, length and fields. -/
def reg_TIM_INCR : RegSpec := ⟨3145752, [], 16,
  [TIM_INCR.BASE, TIM_INCR.DELTA]⟩

/-! TIM_CFG, 0x0030_0028 (R173, 07_network_time.md). -/
/-- [15:0] RW. Servo watchdog, 10–60 000 ms. Other values are held at the nearer limit. -/
def TIM_CFG.WDOG_MS : Fld := ⟨102, 0, 16, .RW, 1, .const 2000⟩
/-- [16] RW. 1 = capture PPS_IN. -/
def TIM_CFG.PPS_IN_EN : Fld := ⟨103, 16, 1, .RW, 1, .const 0⟩

/-- TIM_CFG: offset, instances, length and fields. -/
def reg_TIM_CFG : RegSpec := ⟨3145768, [], 4,
  [TIM_CFG.WDOG_MS, TIM_CFG.PPS_IN_EN]⟩

/-! TIM_PPS_IN, 0x0030_0030, 16 bytes (R173, 07_network_time.md). -/
/-- [95:0] RO. Last capture, laid out as TIM_NOW. -/
def TIM_PPS_IN.TIME : Fld := ⟨104, 0, 96, .RO, 0, .const 0⟩
/-- [127:96] RO. Edges captured; an error and event counter. -/
def TIM_PPS_IN.COUNT : Fld := ⟨105, 96, 32, .RO, 0, .const 0⟩

/-- TIM_PPS_IN: offset, instances, length and fields. -/
def reg_TIM_PPS_IN : RegSpec := ⟨3145776, [], 16,
  [TIM_PPS_IN.TIME, TIM_PPS_IN.COUNT]⟩

/-! TIM_PPS_OUT, 0x0030_0040 (R173, 07_network_time.md). -/
/-- [0] RW. 1 = drive PPS_OUT. -/
def TIM_PPS_OUT.EN : Fld := ⟨106, 0, 1, .RW, 2, .const 0⟩
/-- [6:1] RW. Event index minus 32, so 31 = TEV63. -/
def TIM_PPS_OUT.TEV : Fld := ⟨107, 1, 6, .RW, 2, .const 31⟩
/-- [31:12] RW. Pulse width, 1–500 000 µs. Other values are held at the nearer limit. -/
def TIM_PPS_OUT.WIDTH_US : Fld := ⟨108, 12, 20, .RW, 2, .const 100000⟩
/-- [47:32] RW. Signed output compensation. -/
def TIM_PPS_OUT.COMP_NS : Fld := ⟨109, 32, 16, .RW, 2, .const 0⟩

/-- TIM_PPS_OUT: offset, instances, length and fields. -/
def reg_TIM_PPS_OUT : RegSpec := ⟨3145792, [], 8,
  [TIM_PPS_OUT.EN, TIM_PPS_OUT.TEV, TIM_PPS_OUT.WIDTH_US, TIM_PPS_OUT.COMP_NS]⟩

/-! TIM_RCLK, 0x0030_0050 + r x 0x0000_0010 (R173, 07_network_time.md). -/
/-- [0] RW. 1 = output enabled. -/
def TIM_RCLK.EN : Fld := ⟨110, 0, 1, .RW, 1, .const 0⟩
/-- [11:2] RW. 0–511 = lane, 512 = core reference, 513 = time unit. -/
def TIM_RCLK.SRC : Fld := ⟨111, 2, 10, .RW, 1, .const 0⟩
/-- [13:12] RW. 0 = 10 MHz, 1 = 25 MHz, 2 = 125 MHz, 3 = 156.25 MHz. -/
def TIM_RCLK.FREQ : Fld := ⟨112, 12, 2, .RW, 1, .const 0⟩
/-- [14] RW. 0 = disable, 1 = hold over. -/
def TIM_RCLK.ON_LOSS : Fld := ⟨113, 14, 1, .RW, 1, .const 0⟩
/-- [15] RO. 1 = source lost now. -/
def TIM_RCLK.LOST : Fld := ⟨114, 15, 1, .RO, 0, .const 0⟩

/-- TIM_RCLK: offset, instances, length and fields. -/
def reg_TIM_RCLK : RegSpec := ⟨3145808, [(16, 2)], 4,
  [TIM_RCLK.EN, TIM_RCLK.SRC, TIM_RCLK.FREQ, TIM_RCLK.ON_LOSS, TIM_RCLK.LOST]⟩

/-! TIM_TEV_STAT, 0x0030_1000 + n x 0x0000_0020, n = 0–63 (R173, 07_network_time.md). -/
/-- [0] RO. 1 = armed. -/
def TIM_TEV_STAT.ARMED : Fld := ⟨115, 0, 1, .RO, 0, .const 0⟩
/-- [1] RO. Mode in force. -/
def TIM_TEV_STAT.PERIODIC : Fld := ⟨116, 1, 1, .RO, 0, .const 0⟩
/-- [159:64] RO. Next due time, laid out as TIM_NOW. -/
def TIM_TEV_STAT.NEXT : Fld := ⟨117, 64, 96, .RO, 0, .const 0⟩
/-- [223:192] RO. Periods skipped under R162; an error and event counter. -/
def TIM_TEV_STAT.SKIP : Fld := ⟨118, 192, 32, .RO, 0, .const 0⟩

/-- TIM_TEV_STAT: offset, instances, length and fields. -/
def reg_TIM_TEV_STAT : RegSpec := ⟨3149824, [(32, 64)], 28,
  [TIM_TEV_STAT.ARMED, TIM_TEV_STAT.PERIODIC, TIM_TEV_STAT.NEXT, TIM_TEV_STAT.SKIP]⟩

/-! TIM_PORT_DLY, 0x0034_0000 + p x 0x0000_0010, p = 0–511 (R173, 07_network_time.md). -/
/-- [31:0] RW. Signed receive offset, 2^-16 ns. -/
def TIM_PORT_DLY.RX_NS : Fld := ⟨119, 0, 32, .RW, 2, .const 0⟩
/-- [63:32] RW. Signed transmit offset, 2^-16 ns. -/
def TIM_PORT_DLY.TX_NS : Fld := ⟨120, 32, 32, .RW, 2, .const 0⟩
/-- [95:64] RO. Marked frames left unchanged under R168; an error and event counter. -/
def TIM_PORT_DLY.TS_SKIP : Fld := ⟨121, 64, 32, .RO, 0, .const 0⟩

/-- TIM_PORT_DLY: offset, instances, length and fields. -/
def reg_TIM_PORT_DLY : RegSpec := ⟨3407872, [(16, 512)], 12,
  [TIM_PORT_DLY.RX_NS, TIM_PORT_DLY.TX_NS, TIM_PORT_DLY.TS_SKIP]⟩

/-! LND_STATUS, 0x0038_0000 (R196, 08_landings.md). -/
/-- [0] RO. Current generation C. -/
def LND_STATUS.CUR_GEN : Fld := ⟨122, 0, 1, .RO, 0, .const 0⟩
/-- [1] RO. 1 = an old generation is undrained. -/
def LND_STATUS.OLD_LIVE : Fld := ⟨123, 1, 1, .RO, 0, .const 0⟩
/-- [2] RO. 1 = at least one landing is WAITING. -/
def LND_STATUS.WAITING : Fld := ⟨124, 2, 1, .RO, 0, .const 0⟩
/-- [14:8] RO. Slots that are not FREE, 0–64. -/
def LND_STATUS.SLOTS : Fld := ⟨125, 8, 7, .RO, 0, .const 0⟩

/-- LND_STATUS: offset, instances, length and fields. -/
def reg_LND_STATUS : RegSpec := ⟨3670016, [], 4,
  [LND_STATUS.CUR_GEN, LND_STATUS.OLD_LIVE, LND_STATUS.WAITING, LND_STATUS.SLOTS]⟩

/-! LND_CFG, 0x0038_0008 (R196, 08_landings.md). -/
/-- [15:0] RW. Drain limit, 1–10 000 ms. Other values are held at the nearer limit. -/
def LND_CFG.DRAIN_MAX_MS : Fld := ⟨126, 0, 16, .RW, 2, .const 100⟩

/-- LND_CFG: offset, instances, length and fields. -/
def reg_LND_CFG : RegSpec := ⟨3670024, [], 4,
  [LND_CFG.DRAIN_MAX_MS]⟩

/-! LND_OLD_COUNT, 0x0038_0010 (R196, 08_landings.md). -/
/-- [31:0] RO. Old-generation packets still in the device. -/
def LND_OLD_COUNT.COUNT : Fld := ⟨127, 0, 32, .RO, 0, .const 0⟩

/-- LND_OLD_COUNT: offset, instances, length and fields. -/
def reg_LND_OLD_COUNT : RegSpec := ⟨3670032, [], 4,
  [LND_OLD_COUNT.COUNT]⟩

/-! LND_STAT, 0x0038_0020, 16 bytes (R196, 08_landings.md). -/
/-- [31:0] RO. Landings fired. -/
def LND_STAT.FIRED : Fld := ⟨128, 0, 32, .RO, 0, .const 0⟩
/-- [63:32] RO. SUBMITs completed LATE. -/
def LND_STAT.LATE : Fld := ⟨129, 32, 32, .RO, 0, .const 0⟩
/-- [95:64] RO. Landings fired late under R192. -/
def LND_STAT.LATE_DRAIN : Fld := ⟨130, 64, 32, .RO, 0, .const 0⟩
/-- [127:96] RO. Drains ended under R180. -/
def LND_STAT.EXPIRED : Fld := ⟨131, 96, 32, .RO, 0, .const 0⟩

/-- LND_STAT: offset, instances, length and fields. -/
def reg_LND_STAT : RegSpec := ⟨3670048, [], 16,
  [LND_STAT.FIRED, LND_STAT.LATE, LND_STAT.LATE_DRAIN, LND_STAT.EXPIRED]⟩

/-! LND_SLOT, 0x0038_1000 + n x 0x0000_0040, n = 0–63 (R196, 08_landings.md). -/
/-- [15:0] RO. Landing ID. -/
def LND_SLOT.ID : Fld := ⟨132, 0, 16, .RO, 0, .const 0⟩
/-- [18:16] RO. 0 = FREE, 1 = OPEN, 2 = PENDING, 3 = WAITING, 4 = DRAINING. -/
def LND_SLOT.STATE : Fld := ⟨133, 16, 3, .RO, 0, .const 0⟩
/-- [20:19] RO. Role of the owner: 1 = O, 2 = I, 3 = M. -/
def LND_SLOT.OWNER : Fld := ⟨134, 19, 2, .RO, 0, .const 0⟩
/-- [21] RO. ASAP flag as submitted. -/
def LND_SLOT.ASAP : Fld := ⟨135, 21, 1, .RO, 0, .const 0⟩
/-- [22] RO. 1 = generational. -/
def LND_SLOT.GENL : Fld := ⟨136, 22, 1, .RO, 0, .const 0⟩
/-- [29:24] RO. Owner session handle. -/
def LND_SLOT.HANDLE : Fld := ⟨137, 24, 6, .RO, 0, .const 0⟩
/-- [63:32] RO. Items staged. -/
def LND_SLOT.ITEMS : Fld := ⟨138, 32, 32, .RO, 0, .const 0⟩
/-- [143:64] RO. Landing time, 80-bit format. -/
def LND_SLOT.TIME : Fld := ⟨139, 64, 80, .RO, 0, .const 0⟩
/-- [511:256] RO. Leftmost 32 bytes of the cargo digest, valid from PENDING. -/
def LND_SLOT.DIGEST : Fld := ⟨140, 256, 256, .RO, 0, .const 0⟩

/-- LND_SLOT: offset, instances, length and fields. -/
def reg_LND_SLOT : RegSpec := ⟨3674112, [(64, 64)], 64,
  [LND_SLOT.ID, LND_SLOT.STATE, LND_SLOT.OWNER, LND_SLOT.ASAP, LND_SLOT.GENL, LND_SLOT.HANDLE, LND_SLOT.ITEMS, LND_SLOT.TIME, LND_SLOT.DIGEST]⟩

/-! SHF_RX_AFE, lane base + 0x0000 (R222, 09_sheaf_receive_path.md). -/
/-- [4:0] RW. Fixed peaking, 0.5 dB units, 0–24. Larger values are held at 24. -/
def SHF_RX_AFE.PEAK : Fld := ⟨141, 0, 5, .RW, 2, .const 0⟩
/-- [7] RW. 1 = peaking chosen under R198. -/
def SHF_RX_AFE.PEAK_AUTO : Fld := ⟨142, 7, 1, .RW, 2, .const 1⟩
/-- [12:8] RO. Peaking in force. -/
def SHF_RX_AFE.PEAK_NOW : Fld := ⟨143, 8, 5, .RO, 0, .const 0⟩
/-- [22:16] RO. Gain in force, 0.25 dB units, 0–72. -/
def SHF_RX_AFE.VGA_NOW : Fld := ⟨144, 16, 7, .RO, 0, .const 0⟩
/-- [31:24] RO. Clipped samples in the last window, under R199. -/
def SHF_RX_AFE.CLIP : Fld := ⟨145, 24, 8, .RO, 0, .const 0⟩

/-- SHF_RX_AFE: offset, instances, length and fields. -/
def reg_SHF_RX_AFE : RegSpec := ⟨16777216, [(262144, 64), (8192, 8)], 4,
  [SHF_RX_AFE.PEAK, SHF_RX_AFE.PEAK_AUTO, SHF_RX_AFE.PEAK_NOW, SHF_RX_AFE.VGA_NOW, SHF_RX_AFE.CLIP]⟩

/-! SHF_RX_ADC, lane base + 0x0008 (R222, 09_sheaf_receive_path.md). -/
/-- [3:0] RO. SPARE slices not held by gleaning. -/
def SHF_RX_ADC.SPARE_FREE : Fld := ⟨146, 0, 4, .RO, 0, .const 8⟩
/-- [7:4] ROS. FAILED slices, 0–8. -/
def SHF_RX_ADC.FAILED : Fld := ⟨147, 4, 4, .ROS, 0, .const 0⟩
/-- [8] RO. 1 = a slice is OUT for calibration. -/
def SHF_RX_ADC.ROT_BUSY : Fld := ⟨148, 8, 1, .RO, 0, .const 0⟩
/-- [47:16] RO. Swaps made; an error and event counter. -/
def SHF_RX_ADC.SWAPS : Fld := ⟨149, 16, 32, .RO, 0, .const 0⟩

/-- SHF_RX_ADC: offset, instances, length and fields. -/
def reg_SHF_RX_ADC : RegSpec := ⟨16777224, [(262144, 64), (8192, 8)], 8,
  [SHF_RX_ADC.SPARE_FREE, SHF_RX_ADC.FAILED, SHF_RX_ADC.ROT_BUSY, SHF_RX_ADC.SWAPS]⟩

/-! SHF_RX_SLICE, lane base + 0x0400 + j x 0x0000_0004, j = 0–135 (R222, 09_sheaf_receive_path.md). -/
/-- [1:0] RO. 0 = ACTIVE, 1 = SPARE, 2 = OUT, 3 = FAILED. After cold reset, slices 0–127 are ACTIVE and 128–135 SPARE, unless R203 applies. -/
def SHF_RX_SLICE.STATE : Fld := ⟨150, 0, 2, .RO, 0, .sliceState⟩
/-- [2] ROS. 1 = the slice has failed under R203. -/
def SHF_RX_SLICE.FAIL : Fld := ⟨151, 2, 1, .ROS, 0, .const 0⟩
/-- [15:8] RO. Interleave position served, 0–127; 0xFF when not ACTIVE. -/
def SHF_RX_SLICE.POS : Fld := ⟨152, 8, 8, .RO, 0, .slicePos⟩
/-- [19:16] RO. Bit n = redundant comparator n in use. -/
def SHF_RX_SLICE.COMP : Fld := ⟨153, 16, 4, .RO, 0, .const 0⟩

/-- SHF_RX_SLICE: offset, instances, length and fields. -/
def reg_SHF_RX_SLICE : RegSpec := ⟨16778240, [(262144, 64), (8192, 8), (4, 136)], 4,
  [SHF_RX_SLICE.STATE, SHF_RX_SLICE.FAIL, SHF_RX_SLICE.POS, SHF_RX_SLICE.COMP]⟩

/-! SHF_RX_CDR, lane base + 0x0010 (R222, 09_sheaf_receive_path.md). -/
/-- [1:0] RW. 0 = 2 MHz, 1 = 4 MHz, 2 = 8 MHz; 3 is held at 8 MHz. -/
def SHF_RX_CDR.BW : Fld := ⟨154, 0, 2, .RW, 2, .const 1⟩
/-- [4] RO. 1 = locked under R204. -/
def SHF_RX_CDR.LOCK : Fld := ⟨155, 4, 1, .RO, 0, .const 0⟩
/-- [31:16] RO. Signed offset, 0.01 ppm units. -/
def SHF_RX_CDR.FREQ : Fld := ⟨156, 16, 16, .RO, 0, .const 0⟩

/-- SHF_RX_CDR: offset, instances, length and fields. -/
def reg_SHF_RX_CDR : RegSpec := ⟨16777232, [(262144, 64), (8192, 8)], 4,
  [SHF_RX_CDR.BW, SHF_RX_CDR.LOCK, SHF_RX_CDR.FREQ]⟩

/-! SHF_RX_FFE, lane base + 0x0018 (R222, 09_sheaf_receive_path.md). -/
/-- [0] RW. 1 = adaptation stopped, except in HOLD. -/
def SHF_RX_FFE.FREEZE : Fld := ⟨157, 0, 1, .RW, 1, .const 0⟩
/-- [3:1] RW. Step 2^-(MU + 10). -/
def SHF_RX_FFE.MU : Fld := ⟨158, 1, 3, .RW, 2, .const 3⟩
/-- [4] RO. 1 = loaded mode. -/
def SHF_RX_FFE.BYPASSED : Fld := ⟨159, 4, 1, .RO, 0, .const 0⟩
/-- [31:16] RO. h1 in units of 2^-16. -/
def SHF_RX_FFE.H1 : Fld := ⟨160, 16, 16, .RO, 0, .const 0⟩

/-- SHF_RX_FFE: offset, instances, length and fields. -/
def reg_SHF_RX_FFE : RegSpec := ⟨16777240, [(262144, 64), (8192, 8)], 4,
  [SHF_RX_FFE.FREEZE, SHF_RX_FFE.MU, SHF_RX_FFE.BYPASSED, SHF_RX_FFE.H1]⟩

/-! SHF_RX_FFE_TAP, lane base + 0x0200 + k x 0x0000_0004, k = 0–40 (R222, 09_sheaf_receive_path.md). -/
/-- [15:0] RO. Signed tap k, 2^-14 units; tap 8 is the main tap. -/
def SHF_RX_FFE_TAP.COEF : Fld := ⟨161, 0, 16, .RO, 0, .const 0⟩

/-- SHF_RX_FFE_TAP: offset, instances, length and fields. -/
def reg_SHF_RX_FFE_TAP : RegSpec := ⟨16777728, [(262144, 64), (8192, 8), (4, 41)], 4,
  [SHF_RX_FFE_TAP.COEF]⟩

/-! SHF_RX_QUAL, lane base + 0x0020 (R222, 09_sheaf_receive_path.md). -/
/-- [11:0] RO. 0.01 dB units, under R212. -/
def SHF_RX_QUAL.SNR : Fld := ⟨162, 0, 12, .RO, 0, .const 0⟩
/-- [31:16] RO. Low-margin decisions per 2^24. -/
def SHF_RX_QUAL.PM_LOW : Fld := ⟨163, 16, 16, .RO, 0, .const 0⟩
/-- [39:32] RW. Margin threshold, path-metric units. -/
def SHF_RX_QUAL.PM_THR : Fld := ⟨164, 32, 8, .RW, 1, .const 16⟩
/-- [47:40] RO. Loaded mode only: lowest subcarrier SNR, 0.25 dB units. -/
def SHF_RX_QUAL.MIN_SC_SNR : Fld := ⟨165, 40, 8, .RO, 0, .const 0⟩
/-- [55:48] RO. Loaded mode only: index of that subcarrier. -/
def SHF_RX_QUAL.MIN_SC : Fld := ⟨166, 48, 8, .RO, 0, .const 0⟩

/-- SHF_RX_QUAL: offset, instances, length and fields. -/
def reg_SHF_RX_QUAL : RegSpec := ⟨16777248, [(262144, 64), (8192, 8)], 8,
  [SHF_RX_QUAL.SNR, SHF_RX_QUAL.PM_LOW, SHF_RX_QUAL.PM_THR, SHF_RX_QUAL.MIN_SC_SNR, SHF_RX_QUAL.MIN_SC]⟩

/-! SHF_RX_CAPTURE, lane base + 0x0028 (R222, 09_sheaf_receive_path.md). -/
/-- [0] WO. 1 = start a capture, under R213. -/
def SHF_RX_CAPTURE.START : Fld := ⟨167, 0, 1, .WO, 1, .const 0⟩
/-- [3:1] RW. 0 = LEVEL, 1 = PATH_METRIC, 2 = SC_SNR, 3 = SC_BITS. -/
def SHF_RX_CAPTURE.KIND : Fld := ⟨168, 1, 3, .RW, 1, .const 0⟩
/-- [9:4] RW. Length, 16–32. Other values are held at the nearer limit. -/
def SHF_RX_CAPTURE.LOG2_N : Fld := ⟨169, 4, 6, .RW, 1, .const 20⟩
/-- [17:16] RO. 0 = IDLE, 1 = RUNNING, 2 = DONE, 3 = ABORTED. -/
def SHF_RX_CAPTURE.STAT : Fld := ⟨170, 16, 2, .RO, 0, .const 0⟩

/-- SHF_RX_CAPTURE: offset, instances, length and fields. -/
def reg_SHF_RX_CAPTURE : RegSpec := ⟨16777256, [(262144, 64), (8192, 8)], 4,
  [SHF_RX_CAPTURE.START, SHF_RX_CAPTURE.KIND, SHF_RX_CAPTURE.LOG2_N, SHF_RX_CAPTURE.STAT]⟩

/-! SHF_RX_HISTBUF, lane base + 0x1000 + b x 0x0000_0004, b = 0–255 (R222, 09_sheaf_receive_path.md). -/
/-- [31:0] RO. Bin count, or for SC_SNR and SC_BITS entry b in bits [7:0]. -/
def SHF_RX_HISTBUF.VALUE : Fld := ⟨171, 0, 32, .RO, 0, .const 0⟩

/-- SHF_RX_HISTBUF: offset, instances, length and fields. -/
def reg_SHF_RX_HISTBUF : RegSpec := ⟨16781312, [(262144, 64), (8192, 8), (4, 256)], 4,
  [SHF_RX_HISTBUF.VALUE]⟩

/-! SHF_RX_HOLD_CFG, lane base + 0x0030 (R222, 09_sheaf_receive_path.md). -/
/-- [3:0] RW. Power-step trigger, 1–12 dB; 0 = off. Values above 12 are held at 12. -/
def SHF_RX_HOLD_CFG.STEP_DB : Fld := ⟨172, 0, 4, .RW, 1, .const 3⟩
/-- [4] RW. 1 = fast attempt allowed. -/
def SHF_RX_HOLD_CFG.FAST_EN : Fld := ⟨173, 4, 1, .RW, 1, .const 1⟩
/-- [5] RW. 1 = snapshot at each trigger. -/
def SHF_RX_HOLD_CFG.AUTOSTORE : Fld := ⟨174, 5, 1, .RW, 1, .const 1⟩
/-- [19:8] RW. Fast-attempt SNR floor, 0.01 dB units. -/
def SHF_RX_HOLD_CFG.SNR_MIN : Fld := ⟨175, 8, 12, .RW, 1, .const 1450⟩

/-- SHF_RX_HOLD_CFG: offset, instances, length and fields. -/
def reg_SHF_RX_HOLD_CFG : RegSpec := ⟨16777264, [(262144, 64), (8192, 8)], 4,
  [SHF_RX_HOLD_CFG.STEP_DB, SHF_RX_HOLD_CFG.FAST_EN, SHF_RX_HOLD_CFG.AUTOSTORE, SHF_RX_HOLD_CFG.SNR_MIN]⟩

/-! SHF_RX_BANK, lane base + 0x0038 (R222, 09_sheaf_receive_path.md). -/
/-- [1:0] RO. Bit b = bank b holds a valid snapshot. -/
def SHF_RX_BANK.VALID : Fld := ⟨176, 0, 2, .RO, 0, .const 0⟩
/-- [2] RO. Bank of the path in use. -/
def SHF_RX_BANK.CUR : Fld := ⟨177, 2, 1, .RO, 0, .const 0⟩
/-- [3] WO. 1 = snapshot into bank CUR. -/
def SHF_RX_BANK.STORE : Fld := ⟨178, 3, 1, .WO, 1, .const 0⟩
/-- [4] WO. 1 = clear VALID of bank 1 − CUR. -/
def SHF_RX_BANK.DISCARD : Fld := ⟨179, 4, 1, .WO, 1, .const 0⟩
/-- [5] W1C. A STORE found the lane not LIVE. -/
def SHF_RX_BANK.STORE_FAIL : Fld := ⟨180, 5, 1, .W1C, 1, .const 0⟩

/-- SHF_RX_BANK: offset, instances, length and fields. -/
def reg_SHF_RX_BANK : RegSpec := ⟨16777272, [(262144, 64), (8192, 8)], 4,
  [SHF_RX_BANK.VALID, SHF_RX_BANK.CUR, SHF_RX_BANK.STORE, SHF_RX_BANK.DISCARD, SHF_RX_BANK.STORE_FAIL]⟩

/-! SHF_RX_HOLD_STAT, lane base + 0x0040, 24 bytes (R222, 09_sheaf_receive_path.md). -/
/-- [31:0] RO. Triggers. -/
def SHF_RX_HOLD_STAT.HOLDS : Fld := ⟨181, 0, 32, .RO, 0, .const 0⟩
/-- [63:32] RO. Fast returns. -/
def SHF_RX_HOLD_STAT.FAST : Fld := ⟨182, 32, 32, .RO, 0, .const 0⟩
/-- [95:64] RO. Full reacquisitions that succeeded. -/
def SHF_RX_HOLD_STAT.FULL : Fld := ⟨183, 64, 32, .RO, 0, .const 0⟩
/-- [127:96] RO. Codewords abandoned. -/
def SHF_RX_HOLD_STAT.CW_ABANDONED : Fld := ⟨184, 96, 32, .RO, 0, .const 0⟩
/-- [159:128] RO. Time spent in HOLD, µs. -/
def SHF_RX_HOLD_STAT.HOLD_US : Fld := ⟨185, 128, 32, .RO, 0, .const 0⟩

/-- SHF_RX_HOLD_STAT: offset, instances, length and fields. -/
def reg_SHF_RX_HOLD_STAT : RegSpec := ⟨16777280, [(262144, 64), (8192, 8)], 24,
  [SHF_RX_HOLD_STAT.HOLDS, SHF_RX_HOLD_STAT.FAST, SHF_RX_HOLD_STAT.FULL, SHF_RX_HOLD_STAT.CW_ABANDONED, SHF_RX_HOLD_STAT.HOLD_US]⟩

/-! SHF_RX_EVT, lane base + 0x0060 (R222, 09_sheaf_receive_path.md). -/
/-- [0] W1C. Loss of signal, under R214. -/
def SHF_RX_EVT.LOS : Fld := ⟨186, 0, 1, .W1C, 1, .const 0⟩
/-- [1] W1C. Clock recovery lost lock. -/
def SHF_RX_EVT.LOL : Fld := ⟨187, 1, 1, .W1C, 1, .const 0⟩
/-- [2] W1C. HOLD trigger seen. -/
def SHF_RX_EVT.CHANGE : Fld := ⟨188, 2, 1, .W1C, 1, .const 0⟩
/-- [3] W1C. R199. -/
def SHF_RX_EVT.CLIP : Fld := ⟨189, 3, 1, .W1C, 1, .const 0⟩
/-- [4] W1C. A slice failed under R203. -/
def SHF_RX_EVT.SLICE_FAIL : Fld := ⟨190, 4, 1, .W1C, 1, .const 0⟩

/-- SHF_RX_EVT: offset, instances, length and fields. -/
def reg_SHF_RX_EVT : RegSpec := ⟨16777312, [(262144, 64), (8192, 8)], 4,
  [SHF_RX_EVT.LOS, SHF_RX_EVT.LOL, SHF_RX_EVT.CHANGE, SHF_RX_EVT.CLIP, SHF_RX_EVT.SLICE_FAIL]⟩

/-! SHF_WAKE, 0x0103_0000 + s x 0x0004_0000 (R222, 09_sheaf_receive_path.md). -/
/-- [15:0] RW. Wake word; 0x0000 disables matching. -/
def SHF_WAKE.WORD : Fld := ⟨191, 0, 16, .RW, 2, .const 0⟩
/-- [17:16] RW. 0 = ACTIVITY, 1 = PATTERN, 2 = EITHER; 3 is treated as 2. -/
def SHF_WAKE.SRC : Fld := ⟨192, 16, 2, .RW, 2, .const 2⟩
/-- [29:20] RW. Activity time, 1–1 000 µs. Other values are held at the nearer limit. -/
def SHF_WAKE.ACT_US : Fld := ⟨193, 20, 10, .RW, 2, .const 10⟩
/-- [39:32] RW. Bit i = lane i may wake the sheaf. -/
def SHF_WAKE.LANES : Fld := ⟨194, 32, 8, .RW, 2, .const 255⟩

/-- SHF_WAKE: offset, instances, length and fields. -/
def reg_SHF_WAKE : RegSpec := ⟨16973824, [(262144, 64)], 8,
  [SHF_WAKE.WORD, SHF_WAKE.SRC, SHF_WAKE.ACT_US, SHF_WAKE.LANES]⟩

/-! SHF_WAKE_STAT, 0x0103_0008 + s x 0x0004_0000, 16 bytes (R222, 09_sheaf_receive_path.md). -/
/-- [2:0] RO. Lane of the last wake. -/
def SHF_WAKE_STAT.LAST_LANE : Fld := ⟨195, 0, 3, .RO, 0, .const 0⟩
/-- [4:3] RO. 0 = NONE, 1 = ACTIVITY, 2 = PATTERN. -/
def SHF_WAKE_STAT.CAUSE : Fld := ⟨196, 3, 2, .RO, 0, .const 0⟩
/-- [31:16] RO. Last word with a correct check. -/
def SHF_WAKE_STAT.LAST_WORD : Fld := ⟨197, 16, 16, .RO, 0, .const 0⟩
/-- [63:32] RO. Matching frames. -/
def SHF_WAKE_STAT.MATCH : Fld := ⟨198, 32, 32, .RO, 0, .const 0⟩
/-- [95:64] RO. Frames with a wrong check. -/
def SHF_WAKE_STAT.BAD_CRC : Fld := ⟨199, 64, 32, .RO, 0, .const 0⟩
/-- [127:96] RO. Correct frames with another word. -/
def SHF_WAKE_STAT.OTHER_WORD : Fld := ⟨200, 96, 32, .RO, 0, .const 0⟩

/-- SHF_WAKE_STAT: offset, instances, length and fields. -/
def reg_SHF_WAKE_STAT : RegSpec := ⟨16973832, [(262144, 64)], 16,
  [SHF_WAKE_STAT.LAST_LANE, SHF_WAKE_STAT.CAUSE, SHF_WAKE_STAT.LAST_WORD, SHF_WAKE_STAT.MATCH, SHF_WAKE_STAT.BAD_CRC, SHF_WAKE_STAT.OTHER_WORD]⟩

/-! SHF_SYN_STAT, 0x0103_1000 + s x 0x0004_0000, 16 bytes (R240, 10_sheaf_transmit_path.md). -/
/-- [2:0] RO. 0 = OFF, 1 = NOREF, 2 = CAL, 3 = SETTLE, 4 = LOCKED, 5 = FAILED. -/
def SHF_SYN_STAT.STATE : Fld := ⟨201, 0, 3, .RO, 0, .const 0⟩
/-- [3] RO. 0 = native, 1 = standard. -/
def SHF_SYN_STAT.FAMILY : Fld := ⟨202, 3, 1, .RO, 0, .const 0⟩
/-- [5:4] RO. Attempt in progress, 1–3. -/
def SHF_SYN_STAT.ATTEMPT : Fld := ⟨203, 4, 2, .RO, 0, .const 0⟩
/-- [31:16] RO. Duration of the last successful lock, µs. -/
def SHF_SYN_STAT.LOCK_US : Fld := ⟨204, 16, 16, .RO, 0, .const 0⟩
/-- [63:32] RO. Losses of lock; an error and event counter. -/
def SHF_SYN_STAT.LOSSES : Fld := ⟨205, 32, 32, .RO, 0, .const 0⟩
/-- [95:64] RO. TX_ENABLE TIMEOUT completions; an error and event counter. -/
def SHF_SYN_STAT.TIMEOUTS : Fld := ⟨206, 64, 32, .RO, 0, .const 0⟩

/-- SHF_SYN_STAT: offset, instances, length and fields. -/
def reg_SHF_SYN_STAT : RegSpec := ⟨16977920, [(262144, 64)], 16,
  [SHF_SYN_STAT.STATE, SHF_SYN_STAT.FAMILY, SHF_SYN_STAT.ATTEMPT, SHF_SYN_STAT.LOCK_US, SHF_SYN_STAT.LOSSES, SHF_SYN_STAT.TIMEOUTS]⟩

/-! SHF_TX_CTRL, lane base + 0x1800 (R240, 10_sheaf_transmit_path.md). -/
/-- [0] RO. Transmit enabled, under R226 and R227. -/
def SHF_TX_CTRL.EN : Fld := ⟨207, 0, 1, .RO, 0, .const 0⟩
/-- [1] RW. 1 = squelch the lane. -/
def SHF_TX_CTRL.FORCE_SQ : Fld := ⟨208, 1, 1, .RW, 1, .const 0⟩
/-- [2] RW. 0 = TRAINING, 1 = FIXED. -/
def SHF_TX_CTRL.SHAPE_SRC : Fld := ⟨209, 2, 1, .RW, 2, .const 0⟩
/-- [13:8] RW. Swing code, under R233. -/
def SHF_TX_CTRL.SWING : Fld := ⟨210, 8, 6, .RW, 2, .const 38⟩
/-- [21:16] RO. Swing code in force. -/
def SHF_TX_CTRL.SWING_NOW : Fld := ⟨211, 16, 6, .RO, 0, .const 38⟩

/-- SHF_TX_CTRL: offset, instances, length and fields. -/
def reg_SHF_TX_CTRL : RegSpec := ⟨16783360, [(262144, 64), (8192, 8)], 4,
  [SHF_TX_CTRL.EN, SHF_TX_CTRL.FORCE_SQ, SHF_TX_CTRL.SHAPE_SRC, SHF_TX_CTRL.SWING, SHF_TX_CTRL.SWING_NOW]⟩

/-! SHF_TX_STAT, lane base + 0x1808, 16 bytes (R240, 10_sheaf_transmit_path.md). -/
/-- [7:0] RO. Squelch causes, under R234. -/
def SHF_TX_STAT.SQ_CAUSE : Fld := ⟨212, 0, 8, .RO, 0, .const 163⟩
/-- [9:8] RO. 0 = RUNNING, 1 = SHUT, 2 = PULSE. -/
def SHF_TX_STAT.ALS : Fld := ⟨213, 8, 2, .RO, 0, .const 0⟩
/-- [10] RO. 1 = sending wake frames. -/
def SHF_TX_STAT.WAKE_TX : Fld := ⟨214, 10, 1, .RO, 0, .const 0⟩
/-- [63:32] RO. Training-transmit timeouts; an error and event counter. -/
def SHF_TX_STAT.TTX_CNT : Fld := ⟨215, 32, 32, .RO, 0, .const 0⟩
/-- [95:64] RO. Samples held under R231; an error and event counter. -/
def SHF_TX_STAT.CLIP : Fld := ⟨216, 64, 32, .RO, 0, .const 0⟩
/-- [127:96] RO. Wake frames sent; an error and event counter. -/
def SHF_TX_STAT.WAKE_FRAMES : Fld := ⟨217, 96, 32, .RO, 0, .const 0⟩

/-- SHF_TX_STAT: offset, instances, length and fields. -/
def reg_SHF_TX_STAT : RegSpec := ⟨16783368, [(262144, 64), (8192, 8)], 16,
  [SHF_TX_STAT.SQ_CAUSE, SHF_TX_STAT.ALS, SHF_TX_STAT.WAKE_TX, SHF_TX_STAT.TTX_CNT, SHF_TX_STAT.CLIP, SHF_TX_STAT.WAKE_FRAMES]⟩

/-! SHF_TX_SHAPE, lane base + 0x1818 (R240, 10_sheaf_transmit_path.md). -/
/-- [0] WO. 1 = put the fixed set in force at the next transmit boundary. -/
def SHF_TX_SHAPE.APPLY : Fld := ⟨218, 0, 1, .WO, 2, .const 0⟩
/-- [1] RO. 1 = an APPLY or SWING change awaits its boundary. -/
def SHF_TX_SHAPE.PEND : Fld := ⟨219, 1, 1, .RO, 0, .const 0⟩
/-- [2] W1C. The fixed set broke R230 and was not applied. -/
def SHF_TX_SHAPE.SHAPE_ERR : Fld := ⟨220, 2, 1, .W1C, 2, .const 0⟩
/-- [3] RO. Source in force: 0 = training or identity, 1 = fixed. -/
def SHF_TX_SHAPE.SRC_NOW : Fld := ⟨221, 3, 1, .RO, 0, .const 0⟩

/-- SHF_TX_SHAPE: offset, instances, length and fields. -/
def reg_SHF_TX_SHAPE : RegSpec := ⟨16783384, [(262144, 64), (8192, 8)], 4,
  [SHF_TX_SHAPE.APPLY, SHF_TX_SHAPE.PEND, SHF_TX_SHAPE.SHAPE_ERR, SHF_TX_SHAPE.SRC_NOW]⟩

/-! SHF_TX_TAP, lane base + 0x1900 + k x 0x0000_0004, k = 0–14 (R240, 10_sheaf_transmit_path.md). -/
/-- [9:0] RO. Signed tap k in force, 2^-8 units. Tap 3 resets to 256. -/
def SHF_TX_TAP.COEF : Fld := ⟨222, 0, 10, .RO, 0, .txTap⟩

/-- SHF_TX_TAP: offset, instances, length and fields. -/
def reg_SHF_TX_TAP : RegSpec := ⟨16783616, [(262144, 64), (8192, 8), (4, 15)], 4,
  [SHF_TX_TAP.COEF]⟩

/-! SHF_TX_FIX_TAP, lane base + 0x1940 + k x 0x0000_0004, k = 0–14 (R240, 10_sheaf_transmit_path.md). -/
/-- [9:0] RW. Signed fixed tap k. Tap 3 resets to 256. -/
def SHF_TX_FIX_TAP.COEF : Fld := ⟨223, 0, 10, .RW, 2, .txTap⟩

/-- SHF_TX_FIX_TAP: offset, instances, length and fields. -/
def reg_SHF_TX_FIX_TAP : RegSpec := ⟨16783680, [(262144, 64), (8192, 8), (4, 15)], 4,
  [SHF_TX_FIX_TAP.COEF]⟩

/-! SHF_TX_LUT, lane base + 0x1A00 + e x 0x0000_0004, e = 0–63 (R240, 10_sheaf_transmit_path.md). -/
/-- [7:0] RO. Signed look-up entry e in force, in DAC LSBs. -/
def SHF_TX_LUT.OFS : Fld := ⟨224, 0, 8, .RO, 0, .const 0⟩

/-- SHF_TX_LUT: offset, instances, length and fields. -/
def reg_SHF_TX_LUT : RegSpec := ⟨16783872, [(262144, 64), (8192, 8), (4, 64)], 4,
  [SHF_TX_LUT.OFS]⟩

/-! SHF_TX_FIX_LUT, lane base + 0x1B00 + e x 0x0000_0004, e = 0–63 (R240, 10_sheaf_transmit_path.md). -/
/-- [7:0] RW. Signed fixed look-up entry e. -/
def SHF_TX_FIX_LUT.OFS : Fld := ⟨225, 0, 8, .RW, 2, .const 0⟩

/-- SHF_TX_FIX_LUT: offset, instances, length and fields. -/
def reg_SHF_TX_FIX_LUT : RegSpec := ⟨16784128, [(262144, 64), (8192, 8), (4, 64)], 4,
  [SHF_TX_FIX_LUT.OFS]⟩

/-! SHF_LANE_STAT, lane base + 0x0080, 16 bytes (R262, 11_lane_acquisition_and_training.md). -/
/-- [2:0] RO. Lane state, codes of R241. -/
def SHF_LANE_STAT.STATE : Fld := ⟨226, 0, 3, .RO, 0, .const 0⟩
/-- [5:3] RO. 0–4 = T0–T4; 7 = not in TRAIN. -/
def SHF_LANE_STAT.PHASE : Fld := ⟨227, 3, 3, .RO, 0, .const 7⟩
/-- [8:6] RO. MODE of the last LANE_MODE. -/
def SHF_LANE_STAT.MODE : Fld := ⟨228, 6, 3, .RO, 0, .const 0⟩
/-- [10:9] RO. Format in force: 0 = none, 1 = native, 2 = loaded, 3 = standard. -/
def SHF_LANE_STAT.FORMAT : Fld := ⟨229, 9, 2, .RO, 0, .const 0⟩
/-- [13:11] RO. Loaded tier, 0–4, when FORMAT = 2. -/
def SHF_LANE_STAT.TIER : Fld := ⟨230, 11, 3, .RO, 0, .const 0⟩
/-- [16:14] RO. Last format found: 0 = none, 1 = standard, 2 = native, 3 = loaded, 4 = training. -/
def SHF_LANE_STAT.FOUND : Fld := ⟨231, 14, 3, .RO, 0, .const 0⟩
/-- [20:17] RO. Attempt in the series, 0–9. -/
def SHF_LANE_STAT.ATTEMPT : Fld := ⟨232, 17, 4, .RO, 0, .const 0⟩
/-- [21] RO. R259. -/
def SHF_LANE_STAT.EXHAUSTED : Fld := ⟨233, 21, 1, .RO, 0, .const 0⟩
/-- [22] RO. R245. -/
def SHF_LANE_STAT.WAIT_SYNTH : Fld := ⟨234, 22, 1, .RO, 0, .const 0⟩
/-- [31:24] RO. Last failure: 0 = NONE, 1 = NO_SIGNAL, 2 = NO_FORMAT, 3 = WRONG_FORMAT, 4 = T0_TIMEOUT, 5 = T1_TIMEOUT, 6 = T2_TIMEOUT, 7 = T3_TIMEOUT, 8 = CONFIRM, 9 = MISMATCH, 10 = TIER, 11 = TOTAL, 12 = PARTNER_ABORT, 13 = HOLD_FAIL, 14 = VERSION. -/
def SHF_LANE_STAT.REASON : Fld := ⟨235, 24, 8, .RO, 0, .const 0⟩
/-- [63:32] RO. Duration of the last training that reached LIVE, µs. -/
def SHF_LANE_STAT.TRAIN_US : Fld := ⟨236, 32, 32, .RO, 0, .const 0⟩

/-- SHF_LANE_STAT: offset, instances, length and fields. -/
def reg_SHF_LANE_STAT : RegSpec := ⟨16777344, [(262144, 64), (8192, 8)], 16,
  [SHF_LANE_STAT.STATE, SHF_LANE_STAT.PHASE, SHF_LANE_STAT.MODE, SHF_LANE_STAT.FORMAT, SHF_LANE_STAT.TIER, SHF_LANE_STAT.FOUND, SHF_LANE_STAT.ATTEMPT, SHF_LANE_STAT.EXHAUSTED, SHF_LANE_STAT.WAIT_SYNTH, SHF_LANE_STAT.REASON, SHF_LANE_STAT.TRAIN_US]⟩

/-! SHF_LANE_CNT, lane base + 0x0090, 24 bytes (R262, 11_lane_acquisition_and_training.md). -/
/-- [31:0] RO. Attempts started. -/
def SHF_LANE_CNT.ATTEMPTS : Fld := ⟨237, 0, 32, .RO, 0, .const 0⟩
/-- [63:32] RO. Attempts failed, and HOLD exits to ACQUIRE. -/
def SHF_LANE_CNT.FAILS : Fld := ⟨238, 32, 32, .RO, 0, .const 0⟩
/-- [95:64] RO. Series exhausted. -/
def SHF_LANE_CNT.EXHAUST : Fld := ⟨239, 64, 32, .RO, 0, .const 0⟩
/-- [127:96] RO. Disallowed finds (R247) and T0 mismatches. -/
def SHF_LANE_CNT.MISMATCH : Fld := ⟨240, 96, 32, .RO, 0, .const 0⟩
/-- [159:128] RO. Entries to LIVE from TRAIN or ACQUIRE. -/
def SHF_LANE_CNT.LIVE_ENTRIES : Fld := ⟨241, 128, 32, .RO, 0, .const 0⟩
/-- [191:160] RO. SHAPE_REQ refused by this side. -/
def SHF_LANE_CNT.SHAPE_REFUSED : Fld := ⟨242, 160, 32, .RO, 0, .const 0⟩

/-- SHF_LANE_CNT: offset, instances, length and fields. -/
def reg_SHF_LANE_CNT : RegSpec := ⟨16777360, [(262144, 64), (8192, 8)], 24,
  [SHF_LANE_CNT.ATTEMPTS, SHF_LANE_CNT.FAILS, SHF_LANE_CNT.EXHAUST, SHF_LANE_CNT.MISMATCH, SHF_LANE_CNT.LIVE_ENTRIES, SHF_LANE_CNT.SHAPE_REFUSED]⟩

/-! SHF_TRN_PARTNER, lane base + 0x00B0 (R262, 11_lane_acquisition_and_training.md). -/
/-- [31:0] RO. From the last HELLO. -/
def SHF_TRN_PARTNER.SERIAL_LO : Fld := ⟨243, 0, 32, .RO, 0, .const 0⟩
/-- [37:32] RO. Partner sheaf. -/
def SHF_TRN_PARTNER.SHEAF : Fld := ⟨244, 32, 6, .RO, 0, .const 0⟩
/-- [42:40] RO. Partner lane. -/
def SHF_TRN_PARTNER.LANE : Fld := ⟨245, 40, 3, .RO, 0, .const 0⟩
/-- [45:44] RO. Partner MODE, 1–3. -/
def SHF_TRN_PARTNER.MODE : Fld := ⟨246, 44, 2, .RO, 0, .const 0⟩
/-- [55:48] RO. Partner's highest VERSION. -/
def SHF_TRN_PARTNER.VERSION : Fld := ⟨247, 48, 8, .RO, 0, .const 0⟩

/-- SHF_TRN_PARTNER: offset, instances, length and fields. -/
def reg_SHF_TRN_PARTNER : RegSpec := ⟨16777392, [(262144, 64), (8192, 8)], 8,
  [SHF_TRN_PARTNER.SERIAL_LO, SHF_TRN_PARTNER.SHEAF, SHF_TRN_PARTNER.LANE, SHF_TRN_PARTNER.MODE, SHF_TRN_PARTNER.VERSION]⟩

/-! SHF_TRN_CFG, 0x0103_2000 + s x 0x0004_0000 (R262, 11_lane_acquisition_and_training.md). -/
/-- [15:0] RW. Acquisition time per attempt, 1–10 000 ms. -/
def SHF_TRN_CFG.ACQ_MS : Fld := ⟨248, 0, 16, .RW, 2, .const 100⟩
/-- [23:16] RW. First back-off, 1–255 ms. -/
def SHF_TRN_CFG.BACKOFF_MS : Fld := ⟨249, 16, 8, .RW, 2, .const 10⟩
/-- [27:24] RW. Retries per series, 0–8. -/
def SHF_TRN_CFG.RETRIES : Fld := ⟨250, 24, 4, .RW, 2, .const 8⟩
/-- [43:32] RW. Native threshold for NATIVE_OK, 0.01 dB units. -/
def SHF_TRN_CFG.AUTO_SNR : Fld := ⟨251, 32, 12, .RW, 2, .const 1700⟩
/-- [46:44] RW. 0 = 200, 1 = 250, 2 = 300, 3 = 350, 4 = 400 Gbit/s. -/
def SHF_TRN_CFG.MIN_TIER : Fld := ⟨252, 44, 3, .RW, 2, .const 0⟩
/-- [52:48] RW. Confirmation threshold 2^-CONFIRM_LOG, 8–20. -/
def SHF_TRN_CFG.CONFIRM_LOG : Fld := ⟨253, 48, 5, .RW, 2, .const 12⟩

/-- SHF_TRN_CFG: offset, instances, length and fields. -/
def reg_SHF_TRN_CFG : RegSpec := ⟨16982016, [(262144, 64)], 8,
  [SHF_TRN_CFG.ACQ_MS, SHF_TRN_CFG.BACKOFF_MS, SHF_TRN_CFG.RETRIES, SHF_TRN_CFG.AUTO_SNR, SHF_TRN_CFG.MIN_TIER, SHF_TRN_CFG.CONFIRM_LOG]⟩

/-! SHF_TRN_TMO, 0x0103_2008 + s x 0x0004_0000, 16 bytes (R262, 11_lane_acquisition_and_training.md). -/
/-- [15:0] RW. T0 timeout, 1–2 000 ms. -/
def SHF_TRN_TMO.T0_MS : Fld := ⟨254, 0, 16, .RW, 2, .const 50⟩
/-- [31:16] RW. T1 timeout, 20–2 000 ms. -/
def SHF_TRN_TMO.T1_MS : Fld := ⟨255, 16, 16, .RW, 2, .const 200⟩
/-- [47:32] RW. T2 timeout, 30–2 000 ms. -/
def SHF_TRN_TMO.T2_MS : Fld := ⟨256, 32, 16, .RW, 2, .const 800⟩
/-- [63:48] RW. T3 timeout, 5–2 000 ms. -/
def SHF_TRN_TMO.T3_MS : Fld := ⟨257, 48, 16, .RW, 2, .const 300⟩
/-- [79:64] RW. T4 timeout, 12–2 000 ms. -/
def SHF_TRN_TMO.T4_MS : Fld := ⟨258, 64, 16, .RW, 2, .const 50⟩
/-- [95:80] RW. Whole-training timeout, 50–2 000 ms. -/
def SHF_TRN_TMO.TOTAL_MS : Fld := ⟨259, 80, 16, .RW, 2, .const 2000⟩

/-- SHF_TRN_TMO: offset, instances, length and fields. -/
def reg_SHF_TRN_TMO : RegSpec := ⟨16982024, [(262144, 64)], 16,
  [SHF_TRN_TMO.T0_MS, SHF_TRN_TMO.T1_MS, SHF_TRN_TMO.T2_MS, SHF_TRN_TMO.T3_MS, SHF_TRN_TMO.T4_MS, SHF_TRN_TMO.TOTAL_MS]⟩

/-! SHF_FEC_STAT, lane base + 0x0100 (R285, 12_line_coding_and_fec.md). -/
/-- [0] RO. 1 = FEC lock. -/
def SHF_FEC_STAT.LOCK : Fld := ⟨260, 0, 1, .RO, 0, .const 0⟩
/-- [1] RO. 1 = held lock under R275, marker not yet confirmed. -/
def SHF_FEC_STAT.HELD : Fld := ⟨261, 1, 1, .RO, 0, .const 0⟩
/-- [4:2] RO. LANE from the last recognised marker. -/
def SHF_FEC_STAT.AM_LANE : Fld := ⟨262, 2, 3, .RO, 0, .const 0⟩
/-- [27:16] RO. Skew against the earliest lane of the port, 0.1 ns units. -/
def SHF_FEC_STAT.SKEW : Fld := ⟨263, 16, 12, .RO, 0, .const 0⟩
/-- [47:32] RO. COUNT from the last recognised marker. -/
def SHF_FEC_STAT.AM_COUNT : Fld := ⟨264, 32, 16, .RO, 0, .const 0⟩

/-- SHF_FEC_STAT: offset, instances, length and fields. -/
def reg_SHF_FEC_STAT : RegSpec := ⟨16777472, [(262144, 64), (8192, 8)], 8,
  [SHF_FEC_STAT.LOCK, SHF_FEC_STAT.HELD, SHF_FEC_STAT.AM_LANE, SHF_FEC_STAT.SKEW, SHF_FEC_STAT.AM_COUNT]⟩

/-! SHF_FEC_CFG, lane base + 0x0108 (R285, 12_line_coding_and_fec.md). -/
/-- [31:0] RW. Degrade threshold, 1–1 000 000 000 ppb. -/
def SHF_FEC_CFG.DEG_PPB : Fld := ⟨265, 0, 32, .RW, 1, .const 500000⟩
/-- [36:32] RW. Window length, 16–30. -/
def SHF_FEC_CFG.WIN_LOG2 : Fld := ⟨266, 32, 5, .RW, 1, .const 26⟩

/-- SHF_FEC_CFG: offset, instances, length and fields. -/
def reg_SHF_FEC_CFG : RegSpec := ⟨16777480, [(262144, 64), (8192, 8)], 8,
  [SHF_FEC_CFG.DEG_PPB, SHF_FEC_CFG.WIN_LOG2]⟩

/-! SHF_FEC_CNT, lane base + 0x0110, 48 bytes (R285, 12_line_coding_and_fec.md). -/
/-- [63:0] RO. Codewords decoded. -/
def SHF_FEC_CNT.CW_TOTAL : Fld := ⟨267, 0, 64, .RO, 0, .const 0⟩
/-- [127:64] RO. Codewords corrected. -/
def SHF_FEC_CNT.CW_CORR : Fld := ⟨268, 64, 64, .RO, 0, .const 0⟩
/-- [191:128] RO. Symbols corrected. -/
def SHF_FEC_CNT.SYM_CORR : Fld := ⟨269, 128, 64, .RO, 0, .const 0⟩
/-- [255:192] RO. Bits corrected. -/
def SHF_FEC_CNT.BIT_CORR : Fld := ⟨270, 192, 64, .RO, 0, .const 0⟩
/-- [319:256] RO. R271; in standard mode, R280. -/
def SHF_FEC_CNT.INNER_FLIP : Fld := ⟨271, 256, 64, .RO, 0, .const 0⟩
/-- [351:320] RO. Uncorrectable codewords. -/
def SHF_FEC_CNT.CW_UNCORR : Fld := ⟨272, 320, 32, .RO, 0, .const 0⟩
/-- [383:352] RO. Losses of FEC lock. -/
def SHF_FEC_CNT.LOCK_LOSS : Fld := ⟨273, 352, 32, .RO, 0, .const 0⟩

/-- SHF_FEC_CNT: offset, instances, length and fields. -/
def reg_SHF_FEC_CNT : RegSpec := ⟨16777488, [(262144, 64), (8192, 8)], 48,
  [SHF_FEC_CNT.CW_TOTAL, SHF_FEC_CNT.CW_CORR, SHF_FEC_CNT.SYM_CORR, SHF_FEC_CNT.BIT_CORR, SHF_FEC_CNT.INNER_FLIP, SHF_FEC_CNT.CW_UNCORR, SHF_FEC_CNT.LOCK_LOSS]⟩

/-! SHF_FEC_WIN, lane base + 0x0140 (R285, 12_line_coding_and_fec.md). -/
/-- [31:0] RO. SER of the last window, under R283. -/
def SHF_FEC_WIN.SER_PPB : Fld := ⟨274, 0, 32, .RO, 0, .const 0⟩
/-- [35:32] RO. Highest nonzero bin in the last window. -/
def SHF_FEC_WIN.TAIL : Fld := ⟨275, 32, 4, .RO, 0, .const 0⟩
/-- [36] RO. 1 = the last window held an uncorrectable codeword. -/
def SHF_FEC_WIN.UNCORR_SEEN : Fld := ⟨276, 36, 1, .RO, 0, .const 0⟩
/-- [37] RO. Degrade state, under R283. -/
def SHF_FEC_WIN.DEG : Fld := ⟨277, 37, 1, .RO, 0, .const 0⟩

/-- SHF_FEC_WIN: offset, instances, length and fields. -/
def reg_SHF_FEC_WIN : RegSpec := ⟨16777536, [(262144, 64), (8192, 8)], 8,
  [SHF_FEC_WIN.SER_PPB, SHF_FEC_WIN.TAIL, SHF_FEC_WIN.UNCORR_SEEN, SHF_FEC_WIN.DEG]⟩

/-! SHF_FEC_CLR, lane base + 0x0148 (R285, 12_line_coding_and_fec.md). -/
/-- [0] WO. 1 = clear all counters of the lane, under R282. -/
def SHF_FEC_CLR.CLR : Fld := ⟨278, 0, 1, .WO, 1, .const 0⟩

/-- SHF_FEC_CLR: offset, instances, length and fields. -/
def reg_SHF_FEC_CLR : RegSpec := ⟨16777544, [(262144, 64), (8192, 8)], 4,
  [SHF_FEC_CLR.CLR]⟩

/-! SHF_FEC_EVT, lane base + 0x0150 (R285, 12_line_coding_and_fec.md). -/
/-- [0] W1C. R276. -/
def SHF_FEC_EVT.LOCK_LOST : Fld := ⟨279, 0, 1, .W1C, 1, .const 0⟩
/-- [1] W1C. R281. -/
def SHF_FEC_EVT.UNCORR : Fld := ⟨280, 1, 1, .W1C, 1, .const 0⟩
/-- [2] W1C. R283. -/
def SHF_FEC_EVT.DEG : Fld := ⟨281, 2, 1, .W1C, 1, .const 0⟩
/-- [3] W1C. R273. -/
def SHF_FEC_EVT.SKEW_ERR : Fld := ⟨282, 3, 1, .W1C, 1, .const 0⟩

/-- SHF_FEC_EVT: offset, instances, length and fields. -/
def reg_SHF_FEC_EVT : RegSpec := ⟨16777552, [(262144, 64), (8192, 8)], 4,
  [SHF_FEC_EVT.LOCK_LOST, SHF_FEC_EVT.UNCORR, SHF_FEC_EVT.DEG, SHF_FEC_EVT.SKEW_ERR]⟩

/-! SHF_FEC_HIST, lane base + 0x0180 + k x 0x0000_0008, k = 0–15 (R285, 12_line_coding_and_fec.md). -/
/-- [63:0] RO. Codewords with exactly k corrected symbols. -/
def SHF_FEC_HIST.COUNT : Fld := ⟨283, 0, 64, .RO, 0, .const 0⟩

/-- SHF_FEC_HIST: offset, instances, length and fields. -/
def reg_SHF_FEC_HIST : RegSpec := ⟨16777600, [(262144, 64), (8192, 8), (8, 16)], 8,
  [SHF_FEC_HIST.COUNT]⟩

/-! PRT_CFG, port base + 0x0000 (R301, 13_ports_mac_and_macsec.md). -/
/-- [0] RWS. 1 = up. An immediate write is made by PORT_ADMIN. -/
def PRT_CFG.ADMIN : Fld := ⟨284, 0, 1, .RWS, 1, .const 0⟩
/-- [29:16] RW. Maximum frame, 64–16 383 bytes. -/
def PRT_CFG.MAX_LEN : Fld := ⟨285, 16, 14, .RW, 1, .const 9216⟩
/-- [39:32] RW. Bit n = honour priority flow control for class n. -/
def PRT_CFG.PFC_RX : Fld := ⟨286, 32, 8, .RW, 1, .const 0⟩

/-- PRT_CFG: offset, instances, length and fields. -/
def reg_PRT_CFG : RegSpec := ⟨33554432, [(4096, 512)], 8,
  [PRT_CFG.ADMIN, PRT_CFG.MAX_LEN, PRT_CFG.PFC_RX]⟩

/-! PRT_STAT, port base + 0x0008 (R301, 13_ports_mac_and_macsec.md). -/
/-- [2:0] RO. 0 = ABSENT, 1 = ADMIN_DOWN, 2 = LOCAL_FAULT, 3 = REMOTE_FAULT, 4 = UP. -/
def PRT_STAT.STATE : Fld := ⟨287, 0, 3, .RO, 0, .const 0⟩
/-- [4:3] RO. 0 = 1, 1 = 2, 2 = 4, 3 = 8 lanes. -/
def PRT_STAT.WIDTH : Fld := ⟨288, 3, 2, .RO, 0, .const 0⟩
/-- [6:5] RO. 1 = native, 2 = loaded, 3 = standard. -/
def PRT_STAT.FORMAT : Fld := ⟨289, 5, 2, .RO, 0, .const 0⟩
/-- [7] RO. R289. -/
def PRT_STAT.MODE_ERR : Fld := ⟨290, 7, 1, .RO, 0, .const 0⟩
/-- [27:16] RO. Payload rate, Gbit/s, from format and width under R288. A loaded port reads 0 until every lane of the port is LIVE in loaded format with one common TIER. It then reads width × the tier payload. An ABSENT port reads 0. -/
def PRT_STAT.RATE : Fld := ⟨291, 16, 12, .RO, 0, .const 0⟩
/-- [63:32] RO. Exits from UP; an error and event counter. -/
def PRT_STAT.FLAPS : Fld := ⟨292, 32, 32, .RO, 0, .const 0⟩

/-- PRT_STAT: offset, instances, length and fields. -/
def reg_PRT_STAT : RegSpec := ⟨33554440, [(4096, 512)], 8,
  [PRT_STAT.STATE, PRT_STAT.WIDTH, PRT_STAT.FORMAT, PRT_STAT.MODE_ERR, PRT_STAT.RATE, PRT_STAT.FLAPS]⟩

/-! PRT_MAC_CNT, port base + 0x0100, 32 bytes (R301, 13_ports_mac_and_macsec.md). -/
/-- [63:0] RO. Frames received and delivered. -/
def PRT_MAC_CNT.RX_FRAMES : Fld := ⟨293, 0, 64, .RO, 0, .const 0⟩
/-- [127:64] RO. Their bytes, as R34 measures them. -/
def PRT_MAC_CNT.RX_BYTES : Fld := ⟨294, 64, 64, .RO, 0, .const 0⟩
/-- [191:128] RO. Frames sent. -/
def PRT_MAC_CNT.TX_FRAMES : Fld := ⟨295, 128, 64, .RO, 0, .const 0⟩
/-- [255:192] RO. Their bytes. -/
def PRT_MAC_CNT.TX_BYTES : Fld := ⟨296, 192, 64, .RO, 0, .const 0⟩

/-- PRT_MAC_CNT: offset, instances, length and fields. -/
def reg_PRT_MAC_CNT : RegSpec := ⟨33554688, [(4096, 512)], 32,
  [PRT_MAC_CNT.RX_FRAMES, PRT_MAC_CNT.RX_BYTES, PRT_MAC_CNT.TX_FRAMES, PRT_MAC_CNT.TX_BYTES]⟩

/-! PRT_MAC_ERR, port base + 0x0140, 32 bytes (R301, 13_ports_mac_and_macsec.md). -/
/-- [31:0] RO. Bad frame check sequence. -/
def PRT_MAC_ERR.FCS : Fld := ⟨297, 0, 32, .RO, 0, .const 0⟩
/-- [63:32] RO. Shorter than 64 bytes. -/
def PRT_MAC_ERR.RUNT : Fld := ⟨298, 32, 32, .RO, 0, .const 0⟩
/-- [95:64] RO. Longer than MAX_LEN, in either direction. -/
def PRT_MAC_ERR.OVERSIZE : Fld := ⟨299, 64, 32, .RO, 0, .const 0⟩
/-- [127:96] RO. Touched by an errored block. -/
def PRT_MAC_ERR.CODE : Fld := ⟨300, 96, 32, .RO, 0, .const 0⟩
/-- [159:128] RO. R291. -/
def PRT_MAC_ERR.REGROUP : Fld := ⟨301, 128, 32, .RO, 0, .const 0⟩
/-- [191:160] RO. Flow-control frames received. -/
def PRT_MAC_ERR.PFC_RX : Fld := ⟨302, 160, 32, .RO, 0, .const 0⟩
/-- [223:192] RO. Flow-control frames sent. -/
def PRT_MAC_ERR.PFC_TX : Fld := ⟨303, 192, 32, .RO, 0, .const 0⟩

/-- PRT_MAC_ERR: offset, instances, length and fields. -/
def reg_PRT_MAC_ERR : RegSpec := ⟨33554752, [(4096, 512)], 32,
  [PRT_MAC_ERR.FCS, PRT_MAC_ERR.RUNT, PRT_MAC_ERR.OVERSIZE, PRT_MAC_ERR.CODE, PRT_MAC_ERR.REGROUP, PRT_MAC_ERR.PFC_RX, PRT_MAC_ERR.PFC_TX]⟩

/-! MSC_CHAN, 0x00D0_0000 + c x 0x0000_0040, c = 0–8 191 (R301, 13_ports_mac_and_macsec.md). -/
/-- [1:0] RO. 0 = FREE, 1 = BOUND, 2 = DETACHED. -/
def MSC_CHAN.STATE : Fld := ⟨304, 0, 2, .RO, 0, .const 0⟩
/-- [2] RO. 0 = transmit, 1 = receive. -/
def MSC_CHAN.DIR : Fld := ⟨305, 2, 1, .RO, 0, .const 0⟩
/-- [4:3] RO. 0, 30 or 50 bytes, as codes 0–2. -/
def MSC_CHAN.COFF : Fld := ⟨306, 3, 2, .RO, 0, .const 0⟩
/-- [6:5] RO. 0 = Disabled, 1 = Check, 2 = Strict. -/
def MSC_CHAN.VALIDATE : Fld := ⟨307, 5, 2, .RO, 0, .const 0⟩
/-- [7] RO. R297. -/
def MSC_CHAN.ROLL : Fld := ⟨308, 7, 1, .RO, 0, .const 0⟩
/-- [24:16] RO. p. -/
def MSC_CHAN.PORT : Fld := ⟨309, 16, 9, .RO, 0, .const 0⟩
/-- [63:32] RO. Replay window. -/
def MSC_CHAN.WINDOW : Fld := ⟨310, 32, 32, .RO, 0, .const 0⟩
/-- [127:64] RO. Secure channel identifier. -/
def MSC_CHAN.SCI : Fld := ⟨311, 64, 64, .RO, 0, .const 0⟩
/-- [129:128] RO. 0 = DISABLED, 1 = PENDING, 2 = SECURED, 3 = FAILED. -/
def MSC_CHAN.MKA_STATE : Fld := ⟨312, 128, 2, .RO, 0, .const 0⟩
/-- [130] RO. 1 = this CL512 is key server. -/
def MSC_CHAN.KEY_SERVER : Fld := ⟨313, 130, 1, .RO, 0, .const 0⟩
/-- [131] RO. Transmit association in force for the current generation. -/
def MSC_CHAN.TX_AN_SEL : Fld := ⟨314, 131, 1, .RO, 0, .const 0⟩

/-- MSC_CHAN: offset, instances, length and fields. -/
def reg_MSC_CHAN : RegSpec := ⟨13631488, [(64, 8192)], 20,
  [MSC_CHAN.STATE, MSC_CHAN.DIR, MSC_CHAN.COFF, MSC_CHAN.VALIDATE, MSC_CHAN.ROLL, MSC_CHAN.PORT, MSC_CHAN.WINDOW, MSC_CHAN.SCI, MSC_CHAN.MKA_STATE, MSC_CHAN.KEY_SERVER, MSC_CHAN.TX_AN_SEL]⟩

/-! MSC_SA, 0x00D0_0020 + c x 0x0000_0040 + a x 0x0000_0010, a = 0–1 (R301, 13_ports_mac_and_macsec.md). -/
/-- [0] RO. Key installed. -/
def MSC_SA.VALID : Fld := ⟨315, 0, 1, .RO, 0, .const 0⟩
/-- [2:1] RO. Association number. -/
def MSC_SA.AN : Fld := ⟨316, 1, 2, .RO, 0, .const 0⟩
/-- [63:32] RO. MKA key number. -/
def MSC_SA.KN : Fld := ⟨317, 32, 32, .RO, 0, .const 0⟩
/-- [127:64] RO. Transmit: next PN. Receive: lowest acceptable PN. -/
def MSC_SA.PN : Fld := ⟨318, 64, 64, .RO, 0, .const 0⟩

/-- MSC_SA: offset, instances, length and fields. -/
def reg_MSC_SA : RegSpec := ⟨13631520, [(64, 8192), (16, 2)], 16,
  [MSC_SA.VALID, MSC_SA.AN, MSC_SA.KN, MSC_SA.PN]⟩

/-! MSC_CNT, 0x00D8_0000 + c x 0x0000_0040 (R301, 13_ports_mac_and_macsec.md). -/
/-- [63:0] RO. Frames protected or validated; statistics counter. -/
def MSC_CNT.PKTS : Fld := ⟨319, 0, 64, .RO, 0, .const 0⟩
/-- [127:64] RO. Their bytes; statistics counter. -/
def MSC_CNT.OCTETS : Fld := ⟨320, 64, 64, .RO, 0, .const 0⟩
/-- [159:128] RO. R293. -/
def MSC_CNT.LATE : Fld := ⟨321, 128, 32, .RO, 0, .const 0⟩
/-- [191:160] RO. R293. -/
def MSC_CNT.NOT_VALID : Fld := ⟨322, 160, 32, .RO, 0, .const 0⟩
/-- [223:192] RO. R293, R294, R295. -/
def MSC_CNT.NO_SA : Fld := ⟨323, 192, 32, .RO, 0, .const 0⟩
/-- [255:224] RO. R293. -/
def MSC_CNT.UNTAGGED : Fld := ⟨324, 224, 32, .RO, 0, .const 0⟩

/-- MSC_CNT: offset, instances, length and fields. -/
def reg_MSC_CNT : RegSpec := ⟨14155776, [(64, 8192)], 32,
  [MSC_CNT.PKTS, MSC_CNT.OCTETS, MSC_CNT.LATE, MSC_CNT.NOT_VALID, MSC_CNT.NO_SA, MSC_CNT.UNTAGGED]⟩

/-! GLB_SI_STAT, 0x0000_0200 (R321, 14_structure_images.md). -/
/-- [1:0] RO. 0 = IDLE, 1 = RECEIVING, 2 = VERIFYING, 3 = STAGED. -/
def GLB_SI_STAT.CTX : Fld := ⟨325, 0, 2, .RO, 0, .const 0⟩
/-- [3:2] RO. 0 = host, 1 = slot A, 2 = slot B. -/
def GLB_SI_STAT.SOURCE : Fld := ⟨326, 2, 2, .RO, 0, .const 0⟩
/-- [4] RO. Slot marked active: 0 = A, 1 = B. -/
def GLB_SI_STAT.ACTIVE : Fld := ⟨327, 4, 1, .RO, 0, .const 0⟩
/-- [15:8] RO. Last failure code, under R311. -/
def GLB_SI_STAT.REASON : Fld := ⟨328, 8, 8, .RO, 0, .const 0⟩
/-- [23:16] RO. Table index of the failing region; 0xFF = none. -/
def GLB_SI_STAT.REGION : Fld := ⟨329, 16, 8, .RO, 0, .const 255⟩
/-- [39:24] RO. Landing ID the context is bound to. -/
def GLB_SI_STAT.LANDING : Fld := ⟨330, 24, 16, .RO, 0, .const 0⟩

/-- GLB_SI_STAT: offset, instances, length and fields. -/
def reg_GLB_SI_STAT : RegSpec := ⟨512, [], 8,
  [GLB_SI_STAT.CTX, GLB_SI_STAT.SOURCE, GLB_SI_STAT.ACTIVE, GLB_SI_STAT.REASON, GLB_SI_STAT.REGION, GLB_SI_STAT.LANDING]⟩

/-! GLB_SI_INFO, 0x0000_0210, 32 bytes (R321, 14_structure_images.md). -/
/-- [63:0] RO. Image in force. -/
def GLB_SI_INFO.IMAGE_ID : Fld := ⟨331, 0, 64, .RO, 0, .const 0⟩
/-- [95:64] RO. SVN in force. -/
def GLB_SI_INFO.SVN : Fld := ⟨332, 64, 32, .RO, 0, .const 0⟩
/-- [127:96] RO. Minimum image SVN. -/
def GLB_SI_INFO.MIN_SVN : Fld := ⟨333, 96, 32, .RO, 0, .const 0⟩
/-- [135:128] RO. Regions in force. -/
def GLB_SI_INFO.REGIONS : Fld := ⟨334, 128, 8, .RO, 0, .const 0⟩
/-- [255:192] RO. MIN_FRAME of the image in force, as in the header. -/
def GLB_SI_INFO.MIN_FRAME : Fld := ⟨335, 192, 64, .RO, 0, .const 0⟩

/-- GLB_SI_INFO: offset, instances, length and fields. -/
def reg_GLB_SI_INFO : RegSpec := ⟨528, [], 32,
  [GLB_SI_INFO.IMAGE_ID, GLB_SI_INFO.SVN, GLB_SI_INFO.MIN_SVN, GLB_SI_INFO.REGIONS, GLB_SI_INFO.MIN_FRAME]⟩

/-! GLB_SI_KEYS, 0x0000_0230 (R321, 14_structure_images.md). -/
/-- [3:0] RO. Bit n = verification slot n filled. -/
def GLB_SI_KEYS.VERIFY : Fld := ⟨336, 0, 4, .RO, 0, .const 0⟩
/-- [7:4] RO. Bit n = decryption slot n filled. -/
def GLB_SI_KEYS.DECRYPT : Fld := ⟨337, 4, 4, .RO, 0, .const 0⟩

/-- GLB_SI_KEYS: offset, instances, length and fields. -/
def reg_GLB_SI_KEYS : RegSpec := ⟨560, [], 4,
  [GLB_SI_KEYS.VERIFY, GLB_SI_KEYS.DECRYPT]⟩

/-! GLB_SI_ROT, 0x0000_0240 (R321, 14_structure_images.md). -/
/-- [31:0] RO. GAL_ASSIGN items applied. -/
def GLB_SI_ROT.MOVES : Fld := ⟨338, 0, 32, .RO, 0, .const 0⟩
/-- [63:32] RO. Holds released under R317. -/
def GLB_SI_ROT.HOLD_TMO : Fld := ⟨339, 32, 32, .RO, 0, .const 0⟩

/-- GLB_SI_ROT: offset, instances, length and fields. -/
def reg_GLB_SI_ROT : RegSpec := ⟨576, [], 8,
  [GLB_SI_ROT.MOVES, GLB_SI_ROT.HOLD_TMO]⟩

/-! GLB_SI_ASSIGN, 0x0000_0300 + s x 0x0000_0004, s = 0–63 (R321, 14_structure_images.md). -/
/-- [6:0] RO. Gallery serving sheaf s; 0x7F = none. -/
def GLB_SI_ASSIGN.GAL : Fld := ⟨340, 0, 7, .RO, 0, .const 127⟩
/-- [14:8] RO. Gallery still serving old-generation packets of s; 0x7F = none. -/
def GLB_SI_ASSIGN.OLD_GAL : Fld := ⟨341, 8, 7, .RO, 0, .const 127⟩
/-- [18:16] RO. Profile of sheaf s. -/
def GLB_SI_ASSIGN.PROFILE : Fld := ⟨342, 16, 3, .RO, 0, .const 0⟩

/-- GLB_SI_ASSIGN: offset, instances, length and fields. -/
def reg_GLB_SI_ASSIGN : RegSpec := ⟨768, [(4, 64)], 4,
  [GLB_SI_ASSIGN.GAL, GLB_SI_ASSIGN.OLD_GAL, GLB_SI_ASSIGN.PROFILE]⟩

/-! GLB_SI_REGION, 0x0000_0400 + n x 0x0000_0040, n = 0–63 (R321, 14_structure_images.md). -/
/-- [15:0] RO. Region ID in force; 0 = entry unused. -/
def GLB_SI_REGION.ID : Fld := ⟨343, 0, 16, .RO, 0, .const 0⟩
/-- [63:32] RO. REVISION in force. -/
def GLB_SI_REGION.REVISION : Fld := ⟨344, 32, 32, .RO, 0, .const 0⟩
/-- [319:64] RO. Leftmost 32 bytes of the region's DIGEST. -/
def GLB_SI_REGION.DIGEST : Fld := ⟨345, 64, 256, .RO, 0, .const 0⟩

/-- GLB_SI_REGION: offset, instances, length and fields. -/
def reg_GLB_SI_REGION : RegSpec := ⟨1024, [(64, 64)], 40,
  [GLB_SI_REGION.ID, GLB_SI_REGION.REVISION, GLB_SI_REGION.DIGEST]⟩

/-! GAL_STAT, gallery base + 0x0000 (R343, 15_galleries.md). -/
/-- [2:0] RO. 0 = HALTED, 1 = IDLE, 2 = SERVING, 3 = OLD_ONLY, 4 = GLEANING, 5 = FAILED. -/
def GAL_STAT.STATE : Fld := ⟨346, 0, 3, .RO, 0, .const 0⟩
/-- [13:8] RO. Sheaf served, or whose old generation is served. -/
def GAL_STAT.SHEAF : Fld := ⟨347, 8, 6, .RO, 0, .const 0⟩
/-- [14] RO. 1 = SHEAF is meaningful. -/
def GAL_STAT.SHEAF_VALID : Fld := ⟨348, 14, 1, .RO, 0, .const 0⟩
/-- [18:16] RO. Profile in force for SHEAF. -/
def GAL_STAT.PROFILE : Fld := ⟨349, 16, 3, .RO, 0, .const 0⟩
/-- [21:20] RO. Performance level of the die, 0–3. -/
def GAL_STAT.PL : Fld := ⟨350, 20, 2, .RO, 0, .const 0⟩

/-- GAL_STAT: offset, instances, length and fields. -/
def reg_GAL_STAT : RegSpec := ⟨67108864, [(1048576, 68)], 4,
  [GAL_STAT.STATE, GAL_STAT.SHEAF, GAL_STAT.SHEAF_VALID, GAL_STAT.PROFILE, GAL_STAT.PL]⟩

/-! GAL_CFG, gallery base + 0x0008 (R343, 15_galleries.md). -/
/-- [15:0] RW. Granary lookup timeout, 1 000–60 000 ns. Other values are held at the nearer limit. -/
def GAL_CFG.LKP_TMO_NS : Fld := ⟨351, 0, 16, .RW, 2, .const 4000⟩
/-- [16] RW. 1 = fault swap under R341. -/
def GAL_CFG.AUTO_SPARE : Fld := ⟨352, 16, 1, .RW, 2, .const 1⟩

/-- GAL_CFG: offset, instances, length and fields. -/
def reg_GAL_CFG : RegSpec := ⟨67108872, [(1048576, 68)], 4,
  [GAL_CFG.LKP_TMO_NS, GAL_CFG.AUTO_SPARE]⟩

/-! GAL_WIN, gallery base + 0x0010, 16 bytes (R343, 15_galleries.md). -/
/-- [9:0] RO. Window entries of the ingress flight. -/
def GAL_WIN.ING_WINDOW : Fld := ⟨353, 0, 10, .RO, 0, .const 0⟩
/-- [25:16] RO. Window entries of the egress flight. -/
def GAL_WIN.EGR_WINDOW : Fld := ⟨354, 16, 10, .RO, 0, .const 0⟩
/-- [41:32] RO. Entries in use now. -/
def GAL_WIN.IN_FLIGHT : Fld := ⟨355, 32, 10, .RO, 0, .const 0⟩
/-- [57:48] RO. Most entries in use since the last PEAK_CLR. -/
def GAL_WIN.PEAK : Fld := ⟨356, 48, 10, .RO, 0, .const 0⟩
/-- [63] WO. 1 = set PEAK to IN_FLIGHT. -/
def GAL_WIN.PEAK_CLR : Fld := ⟨357, 63, 1, .WO, 1, .const 0⟩
/-- [75:64] RO. Ingress reorder occupancy, 0–2 048. -/
def GAL_WIN.REORDER : Fld := ⟨358, 64, 12, .RO, 0, .const 0⟩
/-- [88:80] RO. Entry buffer occupancy, 0–256 KiB. -/
def GAL_WIN.ENTRY_KIB : Fld := ⟨359, 80, 9, .RO, 0, .const 0⟩

/-- GAL_WIN: offset, instances, length and fields. -/
def reg_GAL_WIN : RegSpec := ⟨67108880, [(1048576, 68)], 16,
  [GAL_WIN.ING_WINDOW, GAL_WIN.EGR_WINDOW, GAL_WIN.IN_FLIGHT, GAL_WIN.PEAK, GAL_WIN.PEAK_CLR, GAL_WIN.REORDER, GAL_WIN.ENTRY_KIB]⟩

/-! GAL_RES, gallery base + 0x0020 (R343, 15_galleries.md). -/
/-- [4:0] RO. Ingress steps used by the profile in force. -/
def GAL_RES.ING_STEPS : Fld := ⟨360, 0, 5, .RO, 0, .const 0⟩
/-- [12:8] RO. Egress steps used. -/
def GAL_RES.EGR_STEPS : Fld := ⟨361, 8, 5, .RO, 0, .const 0⟩
/-- [23:16] RO. Match units used, 0–160. -/
def GAL_RES.MATCH : Fld := ⟨362, 16, 8, .RO, 0, .const 0⟩
/-- [44:32] RO. Action units used, 0–5 120. -/
def GAL_RES.ACTION : Fld := ⟨363, 32, 13, .RO, 0, .const 0⟩
/-- [58:48] RO. Containers used, 0–1 024. -/
def GAL_RES.PHV : Fld := ⟨364, 48, 11, .RO, 0, .const 0⟩

/-- GAL_RES: offset, instances, length and fields. -/
def reg_GAL_RES : RegSpec := ⟨67108896, [(1048576, 68)], 8,
  [GAL_RES.ING_STEPS, GAL_RES.EGR_STEPS, GAL_RES.MATCH, GAL_RES.ACTION, GAL_RES.PHV]⟩

/-! GAL_CNT, gallery base + 0x0100, 48 bytes (R343, 15_galleries.md). -/
/-- [63:0] RO. Packets admitted to the ingress flight. -/
def GAL_CNT.ING_PKTS : Fld := ⟨365, 0, 64, .RO, 0, .const 0⟩
/-- [127:64] RO. Packets admitted to the egress flight. -/
def GAL_CNT.EGR_PKTS : Fld := ⟨366, 64, 64, .RO, 0, .const 0⟩
/-- [191:128] RO. Recirculated passes. -/
def GAL_CNT.RECIRC : Fld := ⟨367, 128, 64, .RO, 0, .const 0⟩
/-- [255:192] RO. Frames punted, copies included. -/
def GAL_CNT.PUNTED : Fld := ⟨368, 192, 64, .RO, 0, .const 0⟩
/-- [319:256] RO. Host-originated frames admitted. -/
def GAL_CNT.HOST_IN : Fld := ⟨369, 256, 64, .RO, 0, .const 0⟩
/-- [383:320] RO. Granary lookups issued. -/
def GAL_CNT.GRANARY : Fld := ⟨370, 320, 64, .RO, 0, .const 0⟩

/-- GAL_CNT: offset, instances, length and fields. -/
def reg_GAL_CNT : RegSpec := ⟨67109120, [(1048576, 68)], 48,
  [GAL_CNT.ING_PKTS, GAL_CNT.EGR_PKTS, GAL_CNT.RECIRC, GAL_CNT.PUNTED, GAL_CNT.HOST_IN, GAL_CNT.GRANARY]⟩

/-! GAL_ERR, gallery base + 0x0140 (R343, 15_galleries.md). -/
/-- [31:0] RO. Responses discarded under R333. -/
def GAL_ERR.LATE_RESP : Fld := ⟨371, 0, 32, .RO, 0, .const 0⟩
/-- [63:32] RO. Fault swaps into this gallery. -/
def GAL_ERR.SWAPS_IN : Fld := ⟨372, 32, 32, .RO, 0, .const 0⟩

/-- GAL_ERR: offset, instances, length and fields. -/
def reg_GAL_ERR : RegSpec := ⟨67109184, [(1048576, 68)], 8,
  [GAL_ERR.LATE_RESP, GAL_ERR.SWAPS_IN]⟩

/-! GAL_DROP_CNT, gallery base + 0x1000 + r x 0x0000_0004, r = 0–255 (R343, 15_galleries.md). -/
/-- [31:0] RO. Drops with code r, under R337; an error and event counter. Codes that R337 does not assign read zero. -/
def GAL_DROP_CNT.COUNT : Fld := ⟨373, 0, 32, .RO, 0, .const 0⟩

/-- GAL_DROP_CNT: offset, instances, length and fields. -/
def reg_GAL_DROP_CNT : RegSpec := ⟨67112960, [(1048576, 68), (4, 256)], 4,
  [GAL_DROP_CNT.COUNT]⟩

/-! TBL_STATUS, 0x00B0_0000 (R365, 16_tables_and_staircase_lookup.md). -/
/-- [0] RO. Table memories zero-filled. -/
def TBL_STATUS.FILL : Fld := ⟨374, 0, 1, .RO, 0, .const 0⟩
/-- [15:8] RO. Tables in force. -/
def TBL_STATUS.TABLES : Fld := ⟨375, 8, 8, .RO, 0, .const 0⟩
/-- [39:32] RO. Granary blocks poisoned and not repaired, saturating at 255. -/
def TBL_STATUS.POISONED : Fld := ⟨376, 32, 8, .RO, 0, .const 0⟩

/-- TBL_STATUS: offset, instances, length and fields. -/
def reg_TBL_STATUS : RegSpec := ⟨11534336, [], 8,
  [TBL_STATUS.FILL, TBL_STATUS.TABLES, TBL_STATUS.POISONED]⟩

/-! TBL_UPD, 0x00B0_0010, 16 bytes (R365, 16_tables_and_staircase_lookup.md). -/
/-- [63:0] RO. Records applied, immediate or at firing; a statistics counter. -/
def TBL_UPD.APPLIED : Fld := ⟨377, 0, 64, .RO, 0, .const 0⟩
/-- [95:64] RO. Records refused; an error and event counter. -/
def TBL_UPD.FAILED : Fld := ⟨378, 64, 32, .RO, 0, .const 0⟩

/-- TBL_UPD: offset, instances, length and fields. -/
def reg_TBL_UPD : RegSpec := ⟨11534352, [], 16,
  [TBL_UPD.APPLIED, TBL_UPD.FAILED]⟩

/-! TBL_POISON_LOG, 0x00B0_0100 + n x 0x0000_0010, n = 0–31 (R365, 16_tables_and_staircase_lookup.md). -/
/-- [7:0] RO. t. -/
def TBL_POISON_LOG.TABLE : Fld := ⟨379, 0, 8, .RO, 0, .const 0⟩
/-- [8] RO. Entry in use; the oldest REPAIRED entry is reused first, then the oldest. -/
def TBL_POISON_LOG.VALID : Fld := ⟨380, 8, 1, .RO, 0, .const 0⟩
/-- [9] RO. R362 or TBL_REPAIR done. -/
def TBL_POISON_LOG.REPAIRED : Fld := ⟨381, 9, 1, .RO, 0, .const 0⟩
/-- [10] RO. 1 = replica error, R362. -/
def TBL_POISON_LOG.SRAM : Fld := ⟨382, 10, 1, .RO, 0, .const 0⟩
/-- [63:32] RO. Block index within the table. -/
def TBL_POISON_LOG.BLOCK : Fld := ⟨383, 32, 32, .RO, 0, .const 0⟩
/-- [95:64] RO. Staircase: IPv4 address or upper 32 IPv6 bits of the range. EXACT: bucket. -/
def TBL_POISON_LOG.BASE : Fld := ⟨384, 64, 32, .RO, 0, .const 0⟩
/-- [103:96] RO. Prefix length of the range. -/
def TBL_POISON_LOG.PLEN : Fld := ⟨385, 96, 8, .RO, 0, .const 0⟩

/-- TBL_POISON_LOG: offset, instances, length and fields. -/
def reg_TBL_POISON_LOG : RegSpec := ⟨11534592, [(16, 32)], 16,
  [TBL_POISON_LOG.TABLE, TBL_POISON_LOG.VALID, TBL_POISON_LOG.REPAIRED, TBL_POISON_LOG.SRAM, TBL_POISON_LOG.BLOCK, TBL_POISON_LOG.BASE, TBL_POISON_LOG.PLEN]⟩

/-! TBL_CNT_WRAP, 0x00B0_0400, 64 bytes (R365, 16_tables_and_staircase_lookup.md). -/
/-- [511:0] W1C. Bit b = a counter of bank b wrapped. -/
def TBL_CNT_WRAP.WRAP : Fld := ⟨386, 0, 512, .W1C, 1, .const 0⟩

/-- TBL_CNT_WRAP: offset, instances, length and fields. -/
def reg_TBL_CNT_WRAP : RegSpec := ⟨11535360, [], 64,
  [TBL_CNT_WRAP.WRAP]⟩

/-! TBL_INFO, table base + 0x0000, 20 bytes (R365, 16_tables_and_staircase_lookup.md). -/
/-- [2:0] RO. 0 = NONE, 1 = STAIRCASE, 2 = EXACT, 3 = TERNARY, 4 = INDEX. -/
def TBL_INFO.KIND : Fld := ⟨387, 0, 3, .RO, 0, .const 0⟩
/-- [3] RO. 0 = SRAM, 1 = GRANARY. -/
def TBL_INFO.PLACE : Fld := ⟨388, 3, 1, .RO, 0, .const 0⟩
/-- [63:32] RO. C. -/
def TBL_INFO.CAPACITY : Fld := ⟨389, 32, 32, .RO, 0, .const 0⟩
/-- [95:64] RO. Live entries of the current generation. -/
def TBL_INFO.COUNT : Fld := ⟨390, 64, 32, .RO, 0, .const 0⟩
/-- [127:96] RO. Staged records and undrained old copies. -/
def TBL_INFO.STAGED : Fld := ⟨391, 96, 32, .RO, 0, .const 0⟩
/-- [159:128] RO. P. -/
def TBL_INFO.PINNED : Fld := ⟨392, 128, 32, .RO, 0, .const 0⟩

/-- TBL_INFO: offset, instances, length and fields. -/
def reg_TBL_INFO : RegSpec := ⟨11538432, [(64, 255)], 20,
  [TBL_INFO.KIND, TBL_INFO.PLACE, TBL_INFO.CAPACITY, TBL_INFO.COUNT, TBL_INFO.STAGED, TBL_INFO.PINNED]⟩

/-! TBL_CFG, table base + 0x0018 (R365, 16_tables_and_staircase_lookup.md). -/
/-- [0] RW. R363. -/
def TBL_CFG.POISON_MISS : Fld := ⟨393, 0, 1, .RW, 2, .const 0⟩

/-- TBL_CFG: offset, instances, length and fields. -/
def reg_TBL_CFG : RegSpec := ⟨11538456, [(64, 255)], 4,
  [TBL_CFG.POISON_MISS]⟩

/-! TBL_ERR, table base + 0x0020, 12 bytes (R365, 16_tables_and_staircase_lookup.md). -/
/-- [31:0] RO. Lookups that took the poison action. -/
def TBL_ERR.POISON_HITS : Fld := ⟨394, 0, 32, .RO, 0, .const 0⟩
/-- [63:32] RO. Inserts refused under R350. -/
def TBL_ERR.COLLIDE : Fld := ⟨395, 32, 32, .RO, 0, .const 0⟩
/-- [95:64] RO. Entries now in the stash. -/
def TBL_ERR.STASH : Fld := ⟨396, 64, 32, .RO, 0, .const 0⟩

/-- TBL_ERR: offset, instances, length and fields. -/
def reg_TBL_ERR : RegSpec := ⟨11538464, [(64, 255)], 12,
  [TBL_ERR.POISON_HITS, TBL_ERR.COLLIDE, TBL_ERR.STASH]⟩

/-! TMG_PROFILE, 0x00C0_1000 + n x 0x0000_0020, n = 0–255 (R389, 17_buffers_queues_and_gates.md). -/
/-- [31:0] RO. R373. -/
def TMG_PROFILE.MAX_KIB : Fld := ⟨397, 0, 32, .RO, 0, .const 65536⟩
/-- [63:32] RO. R373. -/
def TMG_PROFILE.SPILL_KIB : Fld := ⟨398, 32, 32, .RO, 0, .const 2048⟩
/-- [67:64] RO. R373. -/
def TMG_PROFILE.ALPHA : Fld := ⟨399, 64, 4, .RO, 0, .const 6⟩
/-- [68] RO. R373. -/
def TMG_PROFILE.RED_EN : Fld := ⟨400, 68, 1, .RO, 0, .const 0⟩
/-- [79:72] RO. R373. -/
def TMG_PROFILE.RED_PMAX : Fld := ⟨401, 72, 8, .RO, 0, .const 0⟩
/-- [83:80] RO. R373. -/
def TMG_PROFILE.RED_W : Fld := ⟨402, 80, 4, .RO, 0, .const 0⟩
/-- [127:96] RO. R373. -/
def TMG_PROFILE.RED_MIN_KIB : Fld := ⟨403, 96, 32, .RO, 0, .const 0⟩
/-- [159:128] RO. R373. -/
def TMG_PROFILE.RED_MAX_KIB : Fld := ⟨404, 128, 32, .RO, 0, .const 0⟩
/-- [175:160] RO. R373. -/
def TMG_PROFILE.AGE_MS : Fld := ⟨405, 160, 16, .RO, 0, .const 0⟩

/-- TMG_PROFILE: offset, instances, length and fields. -/
def reg_TMG_PROFILE : RegSpec := ⟨12587008, [(32, 256)], 24,
  [TMG_PROFILE.MAX_KIB, TMG_PROFILE.SPILL_KIB, TMG_PROFILE.ALPHA, TMG_PROFILE.RED_EN, TMG_PROFILE.RED_PMAX, TMG_PROFILE.RED_W, TMG_PROFILE.RED_MIN_KIB, TMG_PROFILE.RED_MAX_KIB, TMG_PROFILE.AGE_MS]⟩

/-! TMG_MIRROR, 0x00C0_4000 + m x 0x0000_0010, m = 0–15 (R389, 17_buffers_queues_and_gates.md). -/
/-- [19:0] RW. Destination queue. A number that is not a queue drops copies as NO_QUEUE. -/
def TMG_MIRROR.QUEUE : Fld := ⟨406, 0, 20, .RW, 1, .const 0⟩
/-- [31] RW. 1 = session makes copies. -/
def TMG_MIRROR.EN : Fld := ⟨407, 31, 1, .RW, 1, .const 0⟩
/-- [45:32] RW. 0 = whole frame; otherwise 64–16 383 bytes. Other values are held at the nearer limit. -/
def TMG_MIRROR.TRUNC : Fld := ⟨408, 32, 14, .RW, 1, .const 0⟩

/-- TMG_MIRROR: offset, instances, length and fields. -/
def reg_TMG_MIRROR : RegSpec := ⟨12599296, [(16, 16)], 8,
  [TMG_MIRROR.QUEUE, TMG_MIRROR.EN, TMG_MIRROR.TRUNC]⟩

/-! TMG_PORT, 0x00C1_0000 + p x 0x0000_0040, p = 0–511 (R389, 17_buffers_queues_and_gates.md). -/
/-- [6:0] RW. Signed shaper adjustment, −64 to +63 bytes. -/
def TMG_PORT.ADJ : Fld := ⟨409, 0, 7, .RW, 1, .const 20⟩
/-- [13:8] RO. Time event of the gate cycle. -/
def TMG_PORT.TEV : Fld := ⟨410, 8, 6, .RO, 0, .const 0⟩
/-- [14] RO. 1 = gates follow ACTIVE. -/
def TMG_PORT.GATE_EN : Fld := ⟨411, 14, 1, .RO, 0, .const 0⟩
/-- [15] RO. 1 = PENDING awaits a cycle start. -/
def TMG_PORT.SWAP_PEND : Fld := ⟨412, 15, 1, .RO, 0, .const 0⟩
/-- [25:16] RO. Entry of ACTIVE in force. -/
def TMG_PORT.ENTRY : Fld := ⟨413, 16, 10, .RO, 0, .const 0⟩
/-- [39:32] RO. Gate states in force. -/
def TMG_PORT.GATES : Fld := ⟨414, 32, 8, .RO, 0, .const 255⟩
/-- [47:40] RO. Bit n = class n paused by received flow control. -/
def TMG_PORT.PAUSED : Fld := ⟨415, 40, 8, .RO, 0, .const 0⟩
/-- [55:48] RO. Bit n = class n in XOFF under R381. -/
def TMG_PORT.XOFF : Fld := ⟨416, 48, 8, .RO, 0, .const 0⟩
/-- [95:64] RO. Cycles started; an error and event counter. -/
def TMG_PORT.CYCLES : Fld := ⟨417, 64, 32, .RO, 0, .const 0⟩

/-- TMG_PORT: offset, instances, length and fields. -/
def reg_TMG_PORT : RegSpec := ⟨12648448, [(64, 512)], 12,
  [TMG_PORT.ADJ, TMG_PORT.TEV, TMG_PORT.GATE_EN, TMG_PORT.SWAP_PEND, TMG_PORT.ENTRY, TMG_PORT.GATES, TMG_PORT.PAUSED, TMG_PORT.XOFF, TMG_PORT.CYCLES]⟩

/-! TMG_PFC, 0x00C2_0000 + p x 0x0000_0020 (R389, 17_buffers_queues_and_gates.md). -/
/-- [7:0] RW. Bit n = R381 applies to class n. -/
def TMG_PFC.EN : Fld := ⟨418, 0, 8, .RW, 1, .const 0⟩
/-- [63:32] RW. R381. -/
def TMG_PFC.XOFF_KIB : Fld := ⟨419, 32, 32, .RW, 1, .const 1024⟩
/-- [95:64] RW. R381. -/
def TMG_PFC.XON_KIB : Fld := ⟨420, 64, 32, .RW, 1, .const 512⟩

/-- TMG_PFC: offset, instances, length and fields. -/
def reg_TMG_PFC : RegSpec := ⟨12713984, [(32, 512)], 12,
  [TMG_PFC.EN, TMG_PFC.XOFF_KIB, TMG_PFC.XON_KIB]⟩

/-! TMG_HALL_STAT, 0x00C4_0000 + h x 0x0000_1000, 16 bytes (R389, 17_buffers_queues_and_gates.md). -/
/-- [15:0] RO. Free Hopper pool. -/
def TMG_HALL_STAT.POOL_FREE_KIB : Fld := ⟨421, 0, 16, .RO, 0, .const 61440⟩
/-- [49:32] RO. Free Silo, in units of 10^6 bytes. -/
def TMG_HALL_STAT.SILO_FREE_MB : Fld := ⟨422, 32, 18, .RO, 0, .const 0⟩
/-- [55:52] RO. Bit n = stack 4h + n in service. -/
def TMG_HALL_STAT.SILO_STACKS : Fld := ⟨423, 52, 4, .RO, 0, .const 0⟩
/-- [95:64] RO. Queues holding packets. -/
def TMG_HALL_STAT.BACKLOGGED : Fld := ⟨424, 64, 32, .RO, 0, .const 0⟩
/-- [127:96] RO. Queues in SPILLED. -/
def TMG_HALL_STAT.SPILLED : Fld := ⟨425, 96, 32, .RO, 0, .const 0⟩

/-- TMG_HALL_STAT: offset, instances, length and fields. -/
def reg_TMG_HALL_STAT : RegSpec := ⟨12845056, [(4096, 2)], 16,
  [TMG_HALL_STAT.POOL_FREE_KIB, TMG_HALL_STAT.SILO_FREE_MB, TMG_HALL_STAT.SILO_STACKS, TMG_HALL_STAT.BACKLOGGED, TMG_HALL_STAT.SPILLED]⟩

/-! TMG_DROP_CNT, 0x00C4_0100 + h x 0x0000_1000 + (r − 0x10) x 0x0000_0010, r = 0x10–0x1F (R389, 17_buffers_queues_and_gates.md). -/
/-- [63:0] RO. Drops with code r; a statistics counter. Unassigned codes read zero. -/
def TMG_DROP_CNT.PKTS : Fld := ⟨426, 0, 64, .RO, 0, .const 0⟩
/-- [127:64] RO. Their bytes as R34 measures them; a statistics counter. -/
def TMG_DROP_CNT.BYTES : Fld := ⟨427, 64, 64, .RO, 0, .const 0⟩

/-- TMG_DROP_CNT: offset, instances, length and fields. -/
def reg_TMG_DROP_CNT : RegSpec := ⟨12845312, [(4096, 2), (16, 16)], 16,
  [TMG_DROP_CNT.PKTS, TMG_DROP_CNT.BYTES]⟩

/-! EMG_GLB_CFG, 0x0090_0000 (R408, 18_engine_drive.md). -/
/-- [4:0] RW. Global strobe event, TEV32 + TEV. -/
def EMG_GLB_CFG.TEV : Fld := ⟨428, 0, 5, .RW, 2, .const 0⟩
/-- [5] RW. 1 = global event strobes. -/
def EMG_GLB_CFG.TEV_EN : Fld := ⟨429, 5, 1, .RW, 2, .const 0⟩
/-- [27:16] RO. Ceiling-store counter steps remaining, 0–4 095. -/
def EMG_GLB_CFG.CEIL_LEFT : Fld := ⟨430, 16, 12, .RO, 0, .const 4095⟩

/-- EMG_GLB_CFG: offset, instances, length and fields. -/
def reg_EMG_GLB_CFG : RegSpec := ⟨9437184, [], 4,
  [EMG_GLB_CFG.TEV, EMG_GLB_CFG.TEV_EN, EMG_GLB_CFG.CEIL_LEFT]⟩

/-! EMG_SITE_CTRL, site base + 0x0000 (R408, 18_engine_drive.md). -/
/-- [1:0] RO. 0 = ABSENT, 1 = HELD, 2 = RELEASED, 3 = LATCHED. -/
def EMG_SITE_CTRL.STATE : Fld := ⟨431, 0, 2, .RO, 0, .const 0⟩
/-- [2] RW. 1 = DAC_LOAD_N strobes this site. -/
def EMG_SITE_CTRL.PIN_EN : Fld := ⟨432, 2, 1, .RW, 2, .const 0⟩
/-- [3] RW. 1 = global strobes reach this site. -/
def EMG_SITE_CTRL.GLB_EN : Fld := ⟨433, 3, 1, .RW, 2, .const 1⟩
/-- [4] RW. 1 = site event strobes. -/
def EMG_SITE_CTRL.TEV_EN : Fld := ⟨434, 4, 1, .RW, 2, .const 0⟩
/-- [9:5] RW. Site event, TEV32 + TEV. -/
def EMG_SITE_CTRL.TEV : Fld := ⟨435, 5, 5, .RW, 2, .const 0⟩
/-- [29:16] RO. PWM period in force, 977–15 625. -/
def EMG_SITE_CTRL.PERIOD_TICKS : Fld := ⟨436, 16, 14, .RO, 0, .const 3125⟩

/-- EMG_SITE_CTRL: offset, instances, length and fields. -/
def reg_EMG_SITE_CTRL : RegSpec := ⟨9441280, [(1024, 64)], 4,
  [EMG_SITE_CTRL.STATE, EMG_SITE_CTRL.PIN_EN, EMG_SITE_CTRL.GLB_EN, EMG_SITE_CTRL.TEV_EN, EMG_SITE_CTRL.TEV, EMG_SITE_CTRL.PERIOD_TICKS]⟩

/-! EMG_DAC, site base + 0x0040 + c x 0x0000_0004, c = 0–15 (R408, 18_engine_drive.md). -/
/-- [11:0] RO. Input register. -/
def EMG_DAC.IN_CODE : Fld := ⟨437, 0, 12, .RO, 0, .const 0⟩
/-- [27:16] RO. Output register. -/
def EMG_DAC.OUT_CODE : Fld := ⟨438, 16, 12, .RO, 0, .const 0⟩
/-- [28] RO. 1 = pad held at the clear code. -/
def EMG_DAC.CLEARED : Fld := ⟨439, 28, 1, .RO, 0, .const 1⟩
/-- [29] RO. 1 = deglitch hold in progress. -/
def EMG_DAC.HOLDING : Fld := ⟨440, 29, 1, .RO, 0, .const 0⟩

/-- EMG_DAC: offset, instances, length and fields. -/
def reg_EMG_DAC : RegSpec := ⟨9441344, [(1024, 64), (4, 16)], 4,
  [EMG_DAC.IN_CODE, EMG_DAC.OUT_CODE, EMG_DAC.CLEARED, EMG_DAC.HOLDING]⟩

/-! EMG_CEIL, site base + 0x0080 + c x 0x0000_0004 (R408, 18_engine_drive.md). -/
/-- [15:0] RO. Ceiling in force, 50 µV units. -/
def EMG_CEIL.CEIL : Fld := ⟨441, 0, 16, .RO, 0, .const 0⟩
/-- [27:16] RO. Clear code in force. -/
def EMG_CEIL.CLEAR : Fld := ⟨442, 16, 12, .RO, 0, .const 0⟩
/-- [28] RO. 1 = gain ×2. -/
def EMG_CEIL.GAIN2 : Fld := ⟨443, 28, 1, .RO, 0, .const 0⟩
/-- [29] RO. Site reference, as in the record. -/
def EMG_CEIL.REF_EXT : Fld := ⟨444, 29, 1, .RO, 0, .const 0⟩

/-- EMG_CEIL: offset, instances, length and fields. -/
def reg_EMG_CEIL : RegSpec := ⟨9441408, [(1024, 64), (4, 16)], 4,
  [EMG_CEIL.CEIL, EMG_CEIL.CLEAR, EMG_CEIL.GAIN2, EMG_CEIL.REF_EXT]⟩

/-! EMG_PWM, site base + 0x0100 + h x 0x0000_0008, h = 0–7 (R408, 18_engine_drive.md). -/
/-- [15:0] RO. Input duty. -/
def EMG_PWM.IN_DUTY : Fld := ⟨445, 0, 16, .RO, 0, .const 0⟩
/-- [31:16] RO. Duty in force. -/
def EMG_PWM.OUT_DUTY : Fld := ⟨446, 16, 16, .RO, 0, .const 0⟩
/-- [47:32] RO. Ceiling in force. -/
def EMG_PWM.DUTY_CEIL : Fld := ⟨447, 32, 16, .RO, 0, .const 0⟩

/-- EMG_PWM: offset, instances, length and fields. -/
def reg_EMG_PWM : RegSpec := ⟨9441536, [(1024, 64), (8, 8)], 8,
  [EMG_PWM.IN_DUTY, EMG_PWM.OUT_DUTY, EMG_PWM.DUTY_CEIL]⟩

/-! EMG_ALS_CFG, site base + 0x0180 (R408, 18_engine_drive.md). -/
/-- [7:0] RW. Bit i = shutdown enabled on lane i. -/
def EMG_ALS_CFG.EN : Fld := ⟨448, 0, 8, .RW, 2, .const 255⟩
/-- [20:8] RW. 50–5 000 ms. -/
def EMG_ALS_CFG.PERSIST_MS : Fld := ⟨449, 8, 13, .RW, 2, .const 500⟩
/-- [34:21] RW. 100–10 000 ms. -/
def EMG_ALS_CFG.PULSE_MS : Fld := ⟨450, 21, 14, .RW, 2, .const 2000⟩
/-- [44:35] RW. 10–1 000 s. -/
def EMG_ALS_CFG.PERIOD_S : Fld := ⟨451, 35, 10, .RW, 2, .const 100⟩
/-- [54:45] RW. 10–1 000 ms, and below PULSE_MS. -/
def EMG_ALS_CFG.RECOVER_MS : Fld := ⟨452, 45, 10, .RW, 2, .const 100⟩

/-- EMG_ALS_CFG: offset, instances, length and fields. -/
def reg_EMG_ALS_CFG : RegSpec := ⟨9441664, [(1024, 64)], 8,
  [EMG_ALS_CFG.EN, EMG_ALS_CFG.PERSIST_MS, EMG_ALS_CFG.PULSE_MS, EMG_ALS_CFG.PERIOD_S, EMG_ALS_CFG.RECOVER_MS]⟩

/-! EMG_ALS_LANE, site base + 0x01C0 + i x 0x0000_0008, i = 0–7 (R408, 18_engine_drive.md). -/
/-- [3:0] RW. First laser channel. -/
def EMG_ALS_LANE.LASER_A : Fld := ⟨453, 0, 4, .RW, 2, .const 0⟩
/-- [4] RW. 1 = LASER_A named. -/
def EMG_ALS_LANE.A_EN : Fld := ⟨454, 4, 1, .RW, 2, .const 0⟩
/-- [11:8] RW. Second laser channel. -/
def EMG_ALS_LANE.LASER_B : Fld := ⟨455, 8, 4, .RW, 2, .const 0⟩
/-- [12] RW. 1 = LASER_B named. -/
def EMG_ALS_LANE.B_EN : Fld := ⟨456, 12, 1, .RW, 2, .const 0⟩
/-- [63:32] RO. Entries to SHUT; an error and event counter. -/
def EMG_ALS_LANE.SHUTS : Fld := ⟨457, 32, 32, .RO, 0, .const 0⟩

/-- EMG_ALS_LANE: offset, instances, length and fields. -/
def reg_EMG_ALS_LANE : RegSpec := ⟨9441728, [(1024, 64), (8, 8)], 8,
  [EMG_ALS_LANE.LASER_A, EMG_ALS_LANE.A_EN, EMG_ALS_LANE.LASER_B, EMG_ALS_LANE.B_EN, EMG_ALS_LANE.SHUTS]⟩

/-! EMG_SITE_STAT, site base + 0x0200 (R408, 18_engine_drive.md). -/
/-- [31:0] RO. Loads made; an error and event counter. -/
def EMG_SITE_STAT.STROBES : Fld := ⟨458, 0, 32, .RO, 0, .const 0⟩
/-- [63:32] RO. R399; an error and event counter. -/
def EMG_SITE_STAT.CLAMPS : Fld := ⟨459, 32, 32, .RO, 0, .const 0⟩
/-- [64] W1C. A clamp occurred. -/
def EMG_SITE_STAT.CLAMP_EVT : Fld := ⟨460, 64, 1, .W1C, 2, .const 0⟩

/-- EMG_SITE_STAT: offset, instances, length and fields. -/
def reg_EMG_SITE_STAT : RegSpec := ⟨9441792, [(1024, 64)], 12,
  [EMG_SITE_STAT.STROBES, EMG_SITE_STAT.CLAMPS, EMG_SITE_STAT.CLAMP_EVT]⟩

/-! EMG_MON_SITE, monitor base + 0x000 (R423, 19_engine_monitoring.md). -/
/-- [0] RO. R409. -/
def EMG_MON_SITE.LOWPWR : Fld := ⟨461, 0, 1, .RO, 0, .const 0⟩
/-- [1] RO. R410. -/
def EMG_MON_SITE.TEV_EN : Fld := ⟨462, 1, 1, .RO, 0, .const 0⟩
/-- [6:2] RO. Event TEV32 + TEV. -/
def EMG_MON_SITE.TEV : Fld := ⟨463, 2, 5, .RO, 0, .const 0⟩
/-- [7] RO. R410. -/
def EMG_MON_SITE.PWM_EN : Fld := ⟨464, 7, 1, .RO, 0, .const 0⟩
/-- [10:8] RO. Heater output. -/
def EMG_MON_SITE.PWM_H : Fld := ⟨465, 8, 3, .RO, 0, .const 0⟩
/-- [11] RO. 0 = rising, 1 = falling. -/
def EMG_MON_SITE.PWM_EDGE : Fld := ⟨466, 11, 1, .RO, 0, .const 0⟩
/-- [31:16] RO. 0–65 535 ns. -/
def EMG_MON_SITE.DELAY_NS : Fld := ⟨467, 16, 16, .RO, 0, .const 0⟩
/-- [47:32] RO. Inputs of the TEV group. -/
def EMG_MON_SITE.TEV_MASK : Fld := ⟨468, 32, 16, .RO, 0, .const 0⟩
/-- [63:48] RO. Inputs of the PWM group. -/
def EMG_MON_SITE.PWM_MASK : Fld := ⟨469, 48, 16, .RO, 0, .const 0⟩
/-- [79:64] RO. Inputs of the CMD group. -/
def EMG_MON_SITE.CMD_MASK : Fld := ⟨470, 64, 16, .RO, 0, .const 0⟩

/-- EMG_MON_SITE: offset, instances, length and fields. -/
def reg_EMG_MON_SITE : RegSpec := ⟨9699328, [(4096, 64)], 12,
  [EMG_MON_SITE.LOWPWR, EMG_MON_SITE.TEV_EN, EMG_MON_SITE.TEV, EMG_MON_SITE.PWM_EN, EMG_MON_SITE.PWM_H, EMG_MON_SITE.PWM_EDGE, EMG_MON_SITE.DELAY_NS, EMG_MON_SITE.TEV_MASK, EMG_MON_SITE.PWM_MASK, EMG_MON_SITE.CMD_MASK]⟩

/-! EMG_MON_STAT, monitor base + 0x010 (R423, 19_engine_monitoring.md). -/
/-- [0] RO. 1 = scan or check in progress. -/
def EMG_MON_STAT.RUNNING : Fld := ⟨471, 0, 1, .RO, 0, .const 0⟩
/-- [3:1] RO. Pending scans: bit 1 PWM, bit 2 TEV, bit 3 CMD. -/
def EMG_MON_STAT.PEND : Fld := ⟨472, 1, 3, .RO, 0, .const 0⟩
/-- [4] RO. 1 = open-wire check in progress. -/
def EMG_MON_STAT.OWCHECK : Fld := ⟨473, 4, 1, .RO, 0, .const 0⟩

/-- EMG_MON_STAT: offset, instances, length and fields. -/
def reg_EMG_MON_STAT : RegSpec := ⟨9699344, [(4096, 64)], 4,
  [EMG_MON_STAT.RUNNING, EMG_MON_STAT.PEND, EMG_MON_STAT.OWCHECK]⟩

/-! EMG_MON_CNT, monitor base + 0x018, 16 bytes (R423, 19_engine_monitoring.md). -/
/-- [31:0] RO. Conversions made. -/
def EMG_MON_CNT.CONV : Fld := ⟨474, 0, 32, .RO, 0, .const 0⟩
/-- [63:32] RO. PWM triggers dropped under R411. -/
def EMG_MON_CNT.OVR_PWM : Fld := ⟨475, 32, 32, .RO, 0, .const 0⟩
/-- [95:64] RO. TEV triggers dropped. -/
def EMG_MON_CNT.OVR_TEV : Fld := ⟨476, 64, 32, .RO, 0, .const 0⟩
/-- [127:96] RO. CMD triggers dropped. -/
def EMG_MON_CNT.OVR_CMD : Fld := ⟨477, 96, 32, .RO, 0, .const 0⟩

/-- EMG_MON_CNT: offset, instances, length and fields. -/
def reg_EMG_MON_CNT : RegSpec := ⟨9699352, [(4096, 64)], 16,
  [EMG_MON_CNT.CONV, EMG_MON_CNT.OVR_PWM, EMG_MON_CNT.OVR_TEV, EMG_MON_CNT.OVR_CMD]⟩

/-! EMG_MON_IN, monitor base + 0x100 + n x 0x0000_0020, n = 0–15 (R423, 19_engine_monitoring.md). -/
/-- [7:0] RO. Phase delay, samples. -/
def EMG_MON_IN.DELAY : Fld := ⟨478, 0, 8, .RO, 0, .const 0⟩
/-- [8] RO. 0 = MOVING_AVERAGE, 1 = HALF_BAND. -/
def EMG_MON_IN.MODE : Fld := ⟨479, 8, 1, .RO, 0, .const 0⟩
/-- [9] RO. R413. -/
def EMG_MON_IN.DECIM : Fld := ⟨480, 9, 1, .RO, 0, .const 0⟩
/-- [17:10] RO. N − 1. -/
def EMG_MON_IN.MA_LEN : Fld := ⟨481, 10, 8, .RO, 0, .const 0⟩
/-- [20:18] RO. 0–6. -/
def EMG_MON_IN.STAGES : Fld := ⟨482, 18, 3, .RO, 0, .const 0⟩
/-- [23:21] RO. Shifts, 3 bits each, SH1 lowest. -/
def EMG_MON_IN.SH1 : Fld := ⟨483, 21, 3, .RO, 0, .const 0⟩
/-- [26:24] RO. Shifts, 3 bits each, SH1 lowest. -/
def EMG_MON_IN.SH2 : Fld := ⟨484, 24, 3, .RO, 0, .const 0⟩
/-- [29:27] RO. Shifts, 3 bits each, SH1 lowest. -/
def EMG_MON_IN.SH3 : Fld := ⟨485, 27, 3, .RO, 0, .const 0⟩
/-- [32:30] RO. Shifts, 3 bits each, SH1 lowest. -/
def EMG_MON_IN.SH4 : Fld := ⟨486, 30, 3, .RO, 0, .const 0⟩
/-- [35:33] RO. Shifts, 3 bits each, SH1 lowest. -/
def EMG_MON_IN.SH5 : Fld := ⟨487, 33, 3, .RO, 0, .const 0⟩
/-- [38:36] RO. Shifts, 3 bits each, SH1 lowest. -/
def EMG_MON_IN.SH6 : Fld := ⟨488, 36, 3, .RO, 0, .const 0⟩
/-- [40:39] RO. 0 = off, 1 = 1 µA, 2 = 10 µA, 3 = 50 µA. -/
def EMG_MON_IN.OW_CUR : Fld := ⟨489, 39, 2, .RO, 0, .const 0⟩
/-- [59:48] RO. R418, codes. -/
def EMG_MON_IN.OW_DIFF : Fld := ⟨490, 48, 12, .RO, 0, .const 1024⟩
/-- [79:64] RO. R416. -/
def EMG_MON_IN.CMP0_LEVEL : Fld := ⟨491, 64, 16, .RO, 0, .const 0⟩
/-- [95:80] RO. R416. -/
def EMG_MON_IN.CMP0_HYST : Fld := ⟨492, 80, 16, .RO, 0, .const 0⟩
/-- [96] RO. As its register table states. -/
def EMG_MON_IN.CMP0_EN : Fld := ⟨493, 96, 1, .RO, 0, .const 0⟩
/-- [97] RO. 0 = ABOVE, 1 = BELOW. -/
def EMG_MON_IN.CMP0_DIR : Fld := ⟨494, 97, 1, .RO, 0, .const 0⟩
/-- [98] RO. 0 = fine, 1 = coarse. -/
def EMG_MON_IN.CMP0_SRC : Fld := ⟨495, 98, 1, .RO, 0, .const 0⟩
/-- [99] RO. 1 = record on release. -/
def EMG_MON_IN.CMP0_REL_EVT : Fld := ⟨496, 99, 1, .RO, 0, .const 0⟩
/-- [143:128] RO. As bits [99:64], for CMP1. -/
def EMG_MON_IN.CMP1_LEVEL : Fld := ⟨497, 128, 16, .RO, 0, .const 0⟩
/-- [159:144] RO. As bits [99:64], for CMP1. -/
def EMG_MON_IN.CMP1_HYST : Fld := ⟨498, 144, 16, .RO, 0, .const 0⟩
/-- [160] RO. As bits [99:64], for CMP1. -/
def EMG_MON_IN.CMP1_EN : Fld := ⟨499, 160, 1, .RO, 0, .const 0⟩
/-- [161] RO. As bits [99:64], for CMP1. -/
def EMG_MON_IN.CMP1_DIR : Fld := ⟨500, 161, 1, .RO, 0, .const 0⟩
/-- [162] RO. As bits [99:64], for CMP1. -/
def EMG_MON_IN.CMP1_SRC : Fld := ⟨501, 162, 1, .RO, 0, .const 0⟩
/-- [163] RO. As bits [99:64], for CMP1. -/
def EMG_MON_IN.CMP1_REL_EVT : Fld := ⟨502, 163, 1, .RO, 0, .const 0⟩
/-- [195:192] RO. R417. -/
def EMG_MON_IN.PK_DECAY : Fld := ⟨503, 192, 4, .RO, 0, .const 0⟩
/-- [199:196] RO. R417. -/
def EMG_MON_IN.RMS_W : Fld := ⟨504, 196, 4, .RO, 0, .const 1⟩
/-- [203:200] RO. R417. -/
def EMG_MON_IN.ENV_DECAY : Fld := ⟨505, 200, 4, .RO, 0, .const 0⟩

/-- EMG_MON_IN: offset, instances, length and fields. -/
def reg_EMG_MON_IN : RegSpec := ⟨9699584, [(4096, 64), (32, 16)], 28,
  [EMG_MON_IN.DELAY, EMG_MON_IN.MODE, EMG_MON_IN.DECIM, EMG_MON_IN.MA_LEN, EMG_MON_IN.STAGES, EMG_MON_IN.SH1, EMG_MON_IN.SH2, EMG_MON_IN.SH3, EMG_MON_IN.SH4, EMG_MON_IN.SH5, EMG_MON_IN.SH6, EMG_MON_IN.OW_CUR, EMG_MON_IN.OW_DIFF, EMG_MON_IN.CMP0_LEVEL, EMG_MON_IN.CMP0_HYST, EMG_MON_IN.CMP0_EN, EMG_MON_IN.CMP0_DIR, EMG_MON_IN.CMP0_SRC, EMG_MON_IN.CMP0_REL_EVT, EMG_MON_IN.CMP1_LEVEL, EMG_MON_IN.CMP1_HYST, EMG_MON_IN.CMP1_EN, EMG_MON_IN.CMP1_DIR, EMG_MON_IN.CMP1_SRC, EMG_MON_IN.CMP1_REL_EVT, EMG_MON_IN.PK_DECAY, EMG_MON_IN.RMS_W, EMG_MON_IN.ENV_DECAY]⟩

/-! EMG_MON_RES, monitor base + 0x400 + n x 0x0000_0020, n = 0–15 (R423, 19_engine_monitoring.md). -/
/-- [15:0] RO. Last fine output. -/
def EMG_MON_RES.FINE : Fld := ⟨506, 0, 16, .RO, 0, .const 0⟩
/-- [31:16] RO. Last coarse output. -/
def EMG_MON_RES.COARSE : Fld := ⟨507, 16, 16, .RO, 0, .const 0⟩
/-- [32] RO. R415. -/
def EMG_MON_RES.VALID : Fld := ⟨508, 32, 1, .RO, 0, .const 0⟩
/-- [33] RO. 1 = asserted. -/
def EMG_MON_RES.CMP0 : Fld := ⟨509, 33, 1, .RO, 0, .const 0⟩
/-- [34] RO. 1 = asserted. -/
def EMG_MON_RES.CMP1 : Fld := ⟨510, 34, 1, .RO, 0, .const 0⟩
/-- [35] RO. Last check found the input open. -/
def EMG_MON_RES.OPEN : Fld := ⟨511, 35, 1, .RO, 0, .const 0⟩
/-- [40] W1C. CMP0 asserted. -/
def EMG_MON_RES.CMP0_EVT : Fld := ⟨512, 40, 1, .W1C, 2, .const 0⟩
/-- [41] W1C. CMP1 asserted. -/
def EMG_MON_RES.CMP1_EVT : Fld := ⟨513, 41, 1, .W1C, 2, .const 0⟩
/-- [42] W1C. R418. -/
def EMG_MON_RES.OPEN_EVT : Fld := ⟨514, 42, 1, .W1C, 2, .const 0⟩
/-- [43] W1C. R413. -/
def EMG_MON_RES.SAT_EVT : Fld := ⟨515, 43, 1, .W1C, 2, .const 0⟩
/-- [79:64] RO. R417. -/
def EMG_MON_RES.PEAK : Fld := ⟨516, 64, 16, .RO, 0, .const 0⟩
/-- [95:80] RO. R417. -/
def EMG_MON_RES.RMS : Fld := ⟨517, 80, 16, .RO, 0, .const 0⟩
/-- [111:96] RO. R417. -/
def EMG_MON_RES.ENV : Fld := ⟨518, 96, 16, .RO, 0, .const 0⟩
/-- [223:128] RO. Time of the sample that completed the last fine output, laid out as TIM_NOW. -/
def EMG_MON_RES.TIME : Fld := ⟨519, 128, 96, .RO, 0, .const 0⟩

/-- EMG_MON_RES: offset, instances, length and fields. -/
def reg_EMG_MON_RES : RegSpec := ⟨9700352, [(4096, 64), (32, 16)], 28,
  [EMG_MON_RES.FINE, EMG_MON_RES.COARSE, EMG_MON_RES.VALID, EMG_MON_RES.CMP0, EMG_MON_RES.CMP1, EMG_MON_RES.OPEN, EMG_MON_RES.CMP0_EVT, EMG_MON_RES.CMP1_EVT, EMG_MON_RES.OPEN_EVT, EMG_MON_RES.SAT_EVT, EMG_MON_RES.PEAK, EMG_MON_RES.RMS, EMG_MON_RES.ENV, EMG_MON_RES.TIME]⟩

/-! PWR_STATUS, 0x0050_0000 (R444, 20_power_states_and_thermal.md). -/
/-- [0] RO. 0 = ACTIVE, 1 = STANDBY. -/
def PWR_STATUS.DEV_STATE : Fld := ⟨520, 0, 1, .RO, 0, .const 0⟩
/-- [1] RO. R435. -/
def PWR_STATUS.THROTTLE : Fld := ⟨521, 1, 1, .RO, 0, .const 0⟩
/-- [2] RO. R436. -/
def PWR_STATUS.LIMIT_UNMET : Fld := ⟨522, 2, 1, .RO, 0, .const 0⟩
/-- [26:16] RO. Effective limit, W. -/
def PWR_STATUS.EFF_W : Fld := ⟨523, 16, 11, .RO, 0, .const 1600⟩
/-- [42:32] RO. Estimated power, W. -/
def PWR_STATUS.EST_W : Fld := ⟨524, 32, 11, .RO, 0, .const 0⟩
/-- [63:48] RO. Hottest valid reading, signed, 0.125 °C units. -/
def PWR_STATUS.HOTTEST : Fld := ⟨525, 48, 16, .RO, 0, .const 0⟩

/-- PWR_STATUS: offset, instances, length and fields. -/
def reg_PWR_STATUS : RegSpec := ⟨5242880, [], 8,
  [PWR_STATUS.DEV_STATE, PWR_STATUS.THROTTLE, PWR_STATUS.LIMIT_UNMET, PWR_STATUS.EFF_W, PWR_STATUS.EST_W, PWR_STATUS.HOTTEST]⟩

/-! PWR_POLICY, 0x0050_0010, 16 bytes (R444, 20_power_states_and_thermal.md). -/
/-- [10:0] RO. 700–1 800 W. -/
def PWR_POLICY.LIMIT_W : Fld := ⟨526, 0, 11, .RO, 0, .const 1600⟩
/-- [22:16] RO. 80–105 °C. -/
def PWR_POLICY.THR_C : Fld := ⟨527, 16, 7, .RO, 0, .const 100⟩
/-- [27:24] RO. 1–10 % of 1 600 W. -/
def PWR_POLICY.STEP_PCT : Fld := ⟨528, 24, 4, .RO, 0, .const 2⟩
/-- [39:32] RO. Four 2-bit gallery die numbers, first rung in bits [33:32]. -/
def PWR_POLICY.ORDER : Fld := ⟨529, 32, 8, .RO, 0, .const 228⟩
/-- [47:40] RO. Bits [41+2d:40+2d] = floor level of gallery die d. -/
def PWR_POLICY.FLOOR : Fld := ⟨530, 40, 8, .RO, 0, .const 0⟩
/-- [49:48] RO. Floor level of the halls. -/
def PWR_POLICY.HALL_FLOOR : Fld := ⟨531, 48, 2, .RO, 0, .const 0⟩
/-- [62:56] RO. 70–100 °C, under R439. -/
def PWR_POLICY.DRAM_THR : Fld := ⟨532, 56, 7, .RO, 0, .const 95⟩

/-- PWR_POLICY: offset, instances, length and fields. -/
def reg_PWR_POLICY : RegSpec := ⟨5242896, [], 16,
  [PWR_POLICY.LIMIT_W, PWR_POLICY.THR_C, PWR_POLICY.STEP_PCT, PWR_POLICY.ORDER, PWR_POLICY.FLOOR, PWR_POLICY.HALL_FLOOR, PWR_POLICY.DRAM_THR]⟩

/-! PWR_PL, 0x0050_0040 + n x 0x0000_0008, n = 0–5 (R444, 20_power_states_and_thermal.md). -/
/-- [1:0] RO. PL_SET ceiling. -/
def PWR_PL.CEIL : Fld := ⟨533, 0, 2, .RO, 0, .const 3⟩
/-- [3:2] RO. Top level that ageing allows. -/
def PWR_PL.AGE_MAX : Fld := ⟨534, 2, 2, .RO, 0, .const 3⟩
/-- [5:4] RO. Level in force. -/
def PWR_PL.NOW : Fld := ⟨535, 4, 2, .RO, 0, .const 3⟩
/-- [6] RO. 1 = a level change is in progress. -/
def PWR_PL.CHANGING : Fld := ⟨536, 6, 1, .RO, 0, .const 0⟩

/-- PWR_PL: offset, instances, length and fields. -/
def reg_PWR_PL : RegSpec := ⟨5242944, [(8, 6)], 4,
  [PWR_PL.CEIL, PWR_PL.AGE_MAX, PWR_PL.NOW, PWR_PL.CHANGING]⟩

/-! PWR_IDLE, 0x0050_0080 + KIND x 0x0000_0010 (R444, 20_power_states_and_thermal.md). -/
/-- [31:0] RO. 0 = off. -/
def PWR_IDLE.IDLE_MS : Fld := ⟨537, 0, 32, .RO, 0, .const 0⟩
/-- [33:32] RO. Target state. -/
def PWR_IDLE.TARGET : Fld := ⟨538, 32, 2, .RO, 0, .const 0⟩
/-- [95:64] RO. Banks only. -/
def PWR_IDLE.FREE_KIB : Fld := ⟨539, 64, 32, .RO, 0, .const 8192⟩

/-- PWR_IDLE: offset, instances, length and fields. -/
def reg_PWR_IDLE : RegSpec := ⟨5243008, [(16, 5)], 12,
  [PWR_IDLE.IDLE_MS, PWR_IDLE.TARGET, PWR_IDLE.FREE_KIB]⟩

/-! PWR_DOM, 0x0050_1000 + D x 0x0000_0010 (R444, 20_power_states_and_thermal.md). -/
/-- [1:0] RO. S0–S3. -/
def PWR_DOM.STATE : Fld := ⟨540, 0, 2, .RO, 0, .const 0⟩
/-- [3:2] RO. 0 = NONE, 1 = PG (R90), 2 = WAKE_FAIL. -/
def PWR_DOM.HELD : Fld := ⟨541, 2, 2, .RO, 0, .const 0⟩
/-- [4] RO. Wake at a time event armed. -/
def PWR_DOM.TEV_EN : Fld := ⟨542, 4, 1, .RO, 0, .const 0⟩
/-- [10:5] RO. Its event. -/
def PWR_DOM.TEV : Fld := ⟨543, 5, 6, .RO, 0, .const 0⟩
/-- [14:12] RO. Last cause, codes of R442. -/
def PWR_DOM.CAUSE : Fld := ⟨544, 12, 3, .RO, 0, .const 0⟩
/-- [17:16] RO. Attempt of the wake in progress, 1–3. -/
def PWR_DOM.ATTEMPT : Fld := ⟨545, 16, 2, .RO, 0, .const 0⟩

/-- PWR_DOM: offset, instances, length and fields. -/
def reg_PWR_DOM : RegSpec := ⟨5246976, [(16, 1280)], 4,
  [PWR_DOM.STATE, PWR_DOM.HELD, PWR_DOM.TEV_EN, PWR_DOM.TEV, PWR_DOM.CAUSE, PWR_DOM.ATTEMPT]⟩

/-! PWR_RES, 0x0051_0000 + D x 0x0000_0040 (R444, 20_power_states_and_thermal.md). -/
/-- [63:0] RO. Four 64-bit residencies in µs, S0 lowest. -/
def PWR_RES.RES_S0 : Fld := ⟨546, 0, 64, .RO, 0, .const 0⟩
/-- [127:64] RO. Four 64-bit residencies in µs, S0 lowest. -/
def PWR_RES.RES_S1 : Fld := ⟨547, 64, 64, .RO, 0, .const 0⟩
/-- [191:128] RO. Four 64-bit residencies in µs, S0 lowest. -/
def PWR_RES.RES_S2 : Fld := ⟨548, 128, 64, .RO, 0, .const 0⟩
/-- [255:192] RO. Four 64-bit residencies in µs, S0 lowest. -/
def PWR_RES.RES_S3 : Fld := ⟨549, 192, 64, .RO, 0, .const 0⟩
/-- [383:256] RO. Four 32-bit entry counts, S0 lowest. -/
def PWR_RES.ENTRIES : Fld := ⟨550, 256, 128, .RO, 0, .const 0⟩
/-- [415:384] RO. Wakes failed under R429. -/
def PWR_RES.WAKE_FAILS : Fld := ⟨551, 384, 32, .RO, 0, .const 0⟩

/-- PWR_RES: offset, instances, length and fields. -/
def reg_PWR_RES : RegSpec := ⟨5308416, [(64, 1280)], 52,
  [PWR_RES.RES_S0, PWR_RES.RES_S1, PWR_RES.RES_S2, PWR_RES.RES_S3, PWR_RES.ENTRIES, PWR_RES.WAKE_FAILS]⟩

/-! PWR_THERM, 0x0053_0000 + i x 0x0000_0008, i = 0–211 (R444, 20_power_states_and_thermal.md). -/
/-- [15:0] RO. Signed, 0.125 °C units. -/
def PWR_THERM.TEMP : Fld := ⟨552, 0, 16, .RO, 0, .const 0⟩
/-- [16] RO. R438. -/
def PWR_THERM.SUSPECT : Fld := ⟨553, 16, 1, .RO, 0, .const 0⟩
/-- [31:24] RO. Times marked SUSPECT; saturates at 255. -/
def PWR_THERM.SUSPECTS : Fld := ⟨554, 24, 8, .RO, 0, .const 0⟩
/-- [63:32] RO. Four neighbour indices of 8 bits; 0xFF = none. -/
def PWR_THERM.NEIGH : Fld := ⟨555, 32, 32, .RO, 0, .const 0⟩

/-- PWR_THERM: offset, instances, length and fields. -/
def reg_PWR_THERM : RegSpec := ⟨5439488, [(8, 212)], 8,
  [PWR_THERM.TEMP, PWR_THERM.SUSPECT, PWR_THERM.SUSPECTS, PWR_THERM.NEIGH]⟩

/-! PWR_HBM, 0x0053_1000 + n x 0x0000_0008, n = 0–9 (R444, 20_power_states_and_thermal.md). -/
/-- [15:0] RO. Stack reading, signed, 0.125 °C units; n = 0–7 Silo, 8–9 Granary. -/
def PWR_HBM.TEMP : Fld := ⟨556, 0, 16, .RO, 0, .const 0⟩

/-- PWR_HBM: offset, instances, length and fields. -/
def reg_PWR_HBM : RegSpec := ⟨5443584, [(8, 10)], 4,
  [PWR_HBM.TEMP]⟩

/-! FLT_SUMMARY, 0x0040_0000 (R463, 21_faults_and_memory_protection.md). -/
/-- [1:0] RO. 0 = NONE, 1 = C, 2 = K, 3 = F, over sources with STICKY = 1. -/
def FLT_SUMMARY.HIGHEST : Fld := ⟨557, 0, 2, .RO, 0, .const 0⟩
/-- [2] ROS. Fatal latch. Cleared only at power-up. -/
def FLT_SUMMARY.FATAL : Fld := ⟨558, 2, 1, .ROS, 0, .const 0⟩
/-- [3] ROS. Thermal-shutdown latch (R440). -/
def FLT_SUMMARY.THERMAL : Fld := ⟨559, 3, 1, .ROS, 0, .const 0⟩
/-- [27:16] RO. Sources with STICKY = 1 and CLASS = K. -/
def FLT_SUMMARY.K_SET : Fld := ⟨560, 16, 12, .RO, 0, .const 0⟩
/-- [43:32] RO. Sources with STICKY = 1 and CLASS = C. -/
def FLT_SUMMARY.C_SET : Fld := ⟨561, 32, 12, .RO, 0, .const 0⟩

/-- FLT_SUMMARY: offset, instances, length and fields. -/
def reg_FLT_SUMMARY : RegSpec := ⟨4194304, [], 8,
  [FLT_SUMMARY.HIGHEST, FLT_SUMMARY.FATAL, FLT_SUMMARY.THERMAL, FLT_SUMMARY.K_SET, FLT_SUMMARY.C_SET]⟩

/-! FLT_CFG, 0x0040_0008 (R463, 21_faults_and_memory_protection.md). -/
/-- [15:0] RW. Bit c = class C sources of subsystem c write records. -/
def FLT_CFG.C_REC : Fld := ⟨562, 0, 16, .RW, 2, .const 65535⟩
/-- [31:16] RW. Bit c = class K sources of subsystem c assert FAULT_N (R451). -/
def FLT_CFG.FN_MASK : Fld := ⟨563, 16, 16, .RW, 2, .const 0⟩

/-- FLT_CFG: offset, instances, length and fields. -/
def reg_FLT_CFG : RegSpec := ⟨4194312, [], 4,
  [FLT_CFG.C_REC, FLT_CFG.FN_MASK]⟩

/-! FLT_STICKY, 0x0040_0100 + w x 0x0000_0008, w = 0–63 (R463, 21_faults_and_memory_protection.md). -/
/-- [63:0] RO. Bit b = STICKY of source 64w + b. -/
def FLT_STICKY.STICKY : Fld := ⟨564, 0, 64, .RO, 0, .const 0⟩

/-- FLT_STICKY: offset, instances, length and fields. -/
def reg_FLT_STICKY : RegSpec := ⟨4194560, [(8, 64)], 8,
  [FLT_STICKY.STICKY]⟩

/-! FLT_ESC, 0x0040_0400 + r x 0x0000_0010, r = 0–63 (R463, 21_faults_and_memory_protection.md). -/
/-- [11:0] RO. R449. -/
def FLT_ESC.SRC : Fld := ⟨565, 0, 12, .RO, 0, .const 0⟩
/-- [27:16] RO. R449. -/
def FLT_ESC.MASK : Fld := ⟨566, 16, 12, .RO, 0, .const 0⟩
/-- [29:28] RO. 1 = C, 2 = K. -/
def FLT_ESC.FROM : Fld := ⟨567, 28, 2, .RO, 0, .const 0⟩
/-- [31] RO. 1 = rule enabled. -/
def FLT_ESC.EN : Fld := ⟨568, 31, 1, .RO, 0, .const 0⟩
/-- [39:32] RO. Events to promote. -/
def FLT_ESC.N : Fld := ⟨569, 32, 8, .RO, 0, .const 0⟩
/-- [63:40] RO. Window. -/
def FLT_ESC.WINDOW_MS : Fld := ⟨570, 40, 24, .RO, 0, .const 0⟩
/-- [71:64] RO. Events in the open window. -/
def FLT_ESC.COUNT : Fld := ⟨571, 64, 8, .RO, 0, .const 0⟩
/-- [127:96] RO. Promotions made; an error and event counter. -/
def FLT_ESC.HITS : Fld := ⟨572, 96, 32, .RO, 0, .const 0⟩

/-- FLT_ESC: offset, instances, length and fields. -/
def reg_FLT_ESC : RegSpec := ⟨4195328, [(16, 64)], 16,
  [FLT_ESC.SRC, FLT_ESC.MASK, FLT_ESC.FROM, FLT_ESC.EN, FLT_ESC.N, FLT_ESC.WINDOW_MS, FLT_ESC.COUNT, FLT_ESC.HITS]⟩

/-! FLT_SRC, 0x0040_1000 + id x 0x0000_0008, id = 0x000–0xFFF (R463, 21_faults_and_memory_protection.md). -/
/-- [0] W1C. Sticky bit. Survives warm reset. A write is ignored while CLASS = 3. Clearing it also sets CLASS to 0. -/
def FLT_SRC.STICKY : Fld := ⟨573, 0, 1, .W1C, 1, .const 0⟩
/-- [2:1] RO. 0 = NONE, 1 = C, 2 = K, 3 = F, the highest since clear. Survives warm reset. -/
def FLT_SRC.CLASS : Fld := ⟨574, 1, 2, .RO, 0, .const 0⟩
/-- [3] RO. 1 = the last event was promoted. -/
def FLT_SRC.ESC : Fld := ⟨575, 3, 1, .RO, 0, .const 0⟩
/-- [63:32] ROS. Events of the source; an error and event counter. -/
def FLT_SRC.COUNT : Fld := ⟨576, 32, 32, .ROS, 0, .const 0⟩

/-- FLT_SRC: offset, instances, length and fields. -/
def reg_FLT_SRC : RegSpec := ⟨4198400, [(8, 4096)], 8,
  [FLT_SRC.STICKY, FLT_SRC.CLASS, FLT_SRC.ESC, FLT_SRC.COUNT]⟩

/-! MEM_CTRL_STAT, controller base + 0x0000, 32 bytes (R463, 21_faults_and_memory_protection.md). -/
/-- [1:0] RO. 0 = INIT, 1 = SERVICE, 2 = HELD. -/
def MEM_CTRL_STAT.STATE : Fld := ⟨577, 0, 2, .RO, 0, .const 0⟩
/-- [63:32] RO. Corrected errors. -/
def MEM_CTRL_STAT.CORR : Fld := ⟨578, 32, 32, .RO, 0, .const 0⟩
/-- [95:64] RO. Uncorrectable errors. -/
def MEM_CTRL_STAT.UNCORR : Fld := ⟨579, 64, 32, .RO, 0, .const 0⟩
/-- [127:96] RO. Reads of poisoned blocks. -/
def MEM_CTRL_STAT.POISON_READ : Fld := ⟨580, 96, 32, .RO, 0, .const 0⟩
/-- [159:128] RO. Read-modify-writes (R455). -/
def MEM_CTRL_STAT.RMW : Fld := ⟨581, 128, 32, .RO, 0, .const 0⟩
/-- [191:160] RO. Log replacements (R456). -/
def MEM_CTRL_STAT.LOG_OVF : Fld := ⟨582, 160, 32, .RO, 0, .const 0⟩
/-- [201:192] RO. Retire entries in use, 0–512. -/
def MEM_CTRL_STAT.RETIRED : Fld := ⟨583, 192, 10, .RO, 0, .const 0⟩
/-- [223:208] RO. Silo pages withheld under R460. -/
def MEM_CTRL_STAT.WITHHELD : Fld := ⟨584, 208, 16, .RO, 0, .const 0⟩

/-- MEM_CTRL_STAT: offset, instances, length and fields. -/
def reg_MEM_CTRL_STAT : RegSpec := ⟨8388608, [(4096, 10)], 32,
  [MEM_CTRL_STAT.STATE, MEM_CTRL_STAT.CORR, MEM_CTRL_STAT.UNCORR, MEM_CTRL_STAT.POISON_READ, MEM_CTRL_STAT.RMW, MEM_CTRL_STAT.LOG_OVF, MEM_CTRL_STAT.RETIRED, MEM_CTRL_STAT.WITHHELD]⟩

/-! MEM_CE_LOG, controller base + 0x0100 + e x 0x0000_0010, e = 0–31 (R463, 21_faults_and_memory_protection.md). -/
/-- [0] RO. Entry in use. -/
def MEM_CE_LOG.VALID : Fld := ⟨585, 0, 1, .RO, 0, .const 0⟩
/-- [1] RO. Last error found by winnowing. -/
def MEM_CE_LOG.WINNOW : Fld := ⟨586, 1, 1, .RO, 0, .const 0⟩
/-- [2] RO. COUNT has reached LOG_THR. -/
def MEM_CE_LOG.THR : Fld := ⟨587, 2, 1, .RO, 0, .const 0⟩
/-- [61:32] RO. Block address within the stack, in units of 64 bytes. -/
def MEM_CE_LOG.BLOCK : Fld := ⟨588, 32, 30, .RO, 0, .const 0⟩
/-- [95:64] RO. Corrected errors at the address; saturating. -/
def MEM_CE_LOG.COUNT : Fld := ⟨589, 64, 32, .RO, 0, .const 0⟩

/-- MEM_CE_LOG: offset, instances, length and fields. -/
def reg_MEM_CE_LOG : RegSpec := ⟨8388864, [(4096, 10), (16, 32)], 12,
  [MEM_CE_LOG.VALID, MEM_CE_LOG.WINNOW, MEM_CE_LOG.THR, MEM_CE_LOG.BLOCK, MEM_CE_LOG.COUNT]⟩

/-! MEM_RETIRE_LIST, 0x0081_0000 + n x 0x0000_1000 + x x 0x0000_0008, x = 0–511 (R463, 21_faults_and_memory_protection.md). -/
/-- [0] RO. Entry in use. -/
def MEM_RETIRE_LIST.VALID : Fld := ⟨590, 0, 1, .RO, 0, .const 0⟩
/-- [1] RO. 0 = Silo page, 1 = Granary row. -/
def MEM_RETIRE_LIST.KIND : Fld := ⟨591, 1, 1, .RO, 0, .const 0⟩
/-- [2] RO. Silo page awaiting release. -/
def MEM_RETIRE_LIST.PENDING : Fld := ⟨592, 2, 1, .RO, 0, .const 0⟩
/-- [3] RO. Retired under R448. -/
def MEM_RETIRE_LIST.AUTO : Fld := ⟨593, 3, 1, .RO, 0, .const 0⟩
/-- [57:32] RO. Page or row address. -/
def MEM_RETIRE_LIST.ADDR : Fld := ⟨594, 32, 26, .RO, 0, .const 0⟩

/-- MEM_RETIRE_LIST: offset, instances, length and fields. -/
def reg_MEM_RETIRE_LIST : RegSpec := ⟨8454144, [(4096, 10), (8, 512)], 8,
  [MEM_RETIRE_LIST.VALID, MEM_RETIRE_LIST.KIND, MEM_RETIRE_LIST.PENDING, MEM_RETIRE_LIST.AUTO, MEM_RETIRE_LIST.ADDR]⟩

/-! MEM_WINNOW, 0x0080_A000, 16 bytes (R463, 21_faults_and_memory_protection.md). -/
/-- [0] RW. 1 = winnowing runs. -/
def MEM_WINNOW.EN : Fld := ⟨595, 0, 1, .RW, 2, .const 1⟩
/-- [15:8] RW. Pass time, 1–168 h. Other values are held at the nearer limit. -/
def MEM_WINNOW.PASS_H : Fld := ⟨596, 8, 8, .RW, 2, .const 24⟩
/-- [25:16] RO. Pass progress, 0.1 % units. -/
def MEM_WINNOW.PROGRESS : Fld := ⟨597, 16, 10, .RO, 0, .const 0⟩
/-- [63:32] RO. Passes completed. -/
def MEM_WINNOW.PASSES : Fld := ⟨598, 32, 32, .RO, 0, .const 0⟩
/-- [95:64] RO. Corrected errors found. -/
def MEM_WINNOW.FOUND_CORR : Fld := ⟨599, 64, 32, .RO, 0, .const 0⟩
/-- [127:96] RO. Uncorrectable errors found. -/
def MEM_WINNOW.FOUND_UNCORR : Fld := ⟨600, 96, 32, .RO, 0, .const 0⟩

/-- MEM_WINNOW: offset, instances, length and fields. -/
def reg_MEM_WINNOW : RegSpec := ⟨8429568, [], 16,
  [MEM_WINNOW.EN, MEM_WINNOW.PASS_H, MEM_WINNOW.PROGRESS, MEM_WINNOW.PASSES, MEM_WINNOW.FOUND_CORR, MEM_WINNOW.FOUND_UNCORR]⟩

/-! MEM_SRAM_STAT, 0x0080_B000 + D x 0x0000_0010, D = 0–13 (R463, 21_faults_and_memory_protection.md). -/
/-- [31:0] RO. Corrected SRAM errors on die D. -/
def MEM_SRAM_STAT.CORR : Fld := ⟨601, 0, 32, .RO, 0, .const 0⟩
/-- [63:32] RO. Uncorrectable SRAM errors on die D. -/
def MEM_SRAM_STAT.UNCORR : Fld := ⟨602, 32, 32, .RO, 0, .const 0⟩

/-- MEM_SRAM_STAT: offset, instances, length and fields. -/
def reg_MEM_SRAM_STAT : RegSpec := ⟨8433664, [(16, 14)], 8,
  [MEM_SRAM_STAT.CORR, MEM_SRAM_STAT.UNCORR]⟩

/-! MEM_CFG, 0x0080_C000 (R463, 21_faults_and_memory_protection.md). -/
/-- [7:0] RW. Threshold of R456, 1–255; 0 is held at 1. -/
def MEM_CFG.LOG_THR : Fld := ⟨603, 0, 8, .RW, 1, .const 16⟩

/-- MEM_CFG: offset, instances, length and fields. -/
def reg_MEM_CFG : RegSpec := ⟨8437760, [], 4,
  [MEM_CFG.LOG_THR]⟩

/-! GLN_CFG, 0x0070_0000 (R480, 22_gleaning_calibration_and_ageing.md). -/
/-- [4:0] RW. Bit n = class n of R465 enabled. -/
def GLN_CFG.EN : Fld := ⟨604, 0, 5, .RW, 2, .const 31⟩
/-- [15:8] RW. Cycle time, 1–168 h. Other values are held at the nearer limit. -/
def GLN_CFG.CYCLE_H : Fld := ⟨605, 8, 8, .RW, 2, .const 24⟩
/-- [17:16] RW. 1–2; 0 and 3 are held at the nearer limit. -/
def GLN_CFG.MAX_PAR : Fld := ⟨606, 16, 2, .RW, 2, .const 2⟩
/-- [18] RW. R467. -/
def GLN_CFG.WAKE : Fld := ⟨607, 18, 1, .RW, 2, .const 1⟩
/-- [19] RW. R473. -/
def GLN_CFG.AUTO_RECAL : Fld := ⟨608, 19, 1, .RW, 2, .const 1⟩

/-- GLN_CFG: offset, instances, length and fields. -/
def reg_GLN_CFG : RegSpec := ⟨7340032, [], 4,
  [GLN_CFG.EN, GLN_CFG.CYCLE_H, GLN_CFG.MAX_PAR, GLN_CFG.WAKE, GLN_CFG.AUTO_RECAL]⟩

/-! GLN_STAT, 0x0070_0008 (R480, 22_gleaning_calibration_and_ageing.md). -/
/-- [1:0] RO. Slices running, 0–2. -/
def GLN_STAT.RUNNING : Fld := ⟨609, 0, 2, .RO, 0, .const 0⟩
/-- [2] RO. 1 = starts stopped by throttling. -/
def GLN_STAT.PAUSED : Fld := ⟨610, 2, 1, .RO, 0, .const 0⟩
/-- [15:4] RO. Cycle progress, 0.1 % units. -/
def GLN_STAT.PROGRESS : Fld := ⟨611, 4, 12, .RO, 0, .const 0⟩
/-- [31:16] RO. Gleaning power now, 0.1 W units. -/
def GLN_STAT.SLICE_MW : Fld := ⟨612, 16, 16, .RO, 0, .const 0⟩
/-- [63:32] RO. Cycles completed; an error and event counter. -/
def GLN_STAT.CYCLES : Fld := ⟨613, 32, 32, .RO, 0, .const 0⟩

/-- GLN_STAT: offset, instances, length and fields. -/
def reg_GLN_STAT : RegSpec := ⟨7340040, [], 8,
  [GLN_STAT.RUNNING, GLN_STAT.PAUSED, GLN_STAT.PROGRESS, GLN_STAT.SLICE_MW, GLN_STAT.CYCLES]⟩

/-! GLN_CNT, 0x0070_0010, 16 bytes (R480, 22_gleaning_calibration_and_ageing.md). -/
/-- [31:0] RO. Slices run. -/
def GLN_CNT.SLICES : Fld := ⟨614, 0, 32, .RO, 0, .const 0⟩
/-- [63:32] RO. Slices failed. -/
def GLN_CNT.FAILS : Fld := ⟨615, 32, 32, .RO, 0, .const 0⟩
/-- [95:64] RO. Slices aborted, R468. -/
def GLN_CNT.ABORTS : Fld := ⟨616, 64, 32, .RO, 0, .const 0⟩
/-- [127:96] RO. Targets skipped, R467. -/
def GLN_CNT.MISSED : Fld := ⟨617, 96, 32, .RO, 0, .const 0⟩

/-- GLN_CNT: offset, instances, length and fields. -/
def reg_GLN_CNT : RegSpec := ⟨7340048, [], 16,
  [GLN_CNT.SLICES, GLN_CNT.FAILS, GLN_CNT.ABORTS, GLN_CNT.MISSED]⟩

/-! GLN_GAL, 0x0070_1000 + g x 0x0000_0010, g = 0–67 (R480, 22_gleaning_calibration_and_ageing.md). -/
/-- [47:0] RO. Seconds of local time at the last full pass; 0 = never. -/
def GLN_GAL.LAST_PASS : Fld := ⟨618, 0, 48, .RO, 0, .const 0⟩
/-- [55:48] RO. Slices passed in the current cycle, 0–200. -/
def GLN_GAL.DONE : Fld := ⟨619, 48, 8, .RO, 0, .const 0⟩
/-- [57:56] RO. 0 = NONE, 1 = PASS, 2 = FAIL, 3 = ABORTED. -/
def GLN_GAL.RESULT : Fld := ⟨620, 56, 2, .RO, 0, .const 0⟩

/-- GLN_GAL: offset, instances, length and fields. -/
def reg_GLN_GAL : RegSpec := ⟨7344128, [(16, 68)], 8,
  [GLN_GAL.LAST_PASS, GLN_GAL.DONE, GLN_GAL.RESULT]⟩

/-! GLN_CAL, 0x0070_2000 + x x 0x0000_0010, x = 0–191 (R480, 22_gleaning_calibration_and_ageing.md). -/
/-- [1:0] RO. 0 = NONE, 1 = RUNNING, 2 = DONE, 3 = TIMEOUT. -/
def GLN_CAL.STATE : Fld := ⟨621, 0, 2, .RO, 0, .const 0⟩
/-- [2] RO. R473. -/
def GLN_CAL.STALE : Fld := ⟨622, 2, 1, .RO, 0, .const 0⟩
/-- [3] RO. 1 = a calibration window is armed. -/
def GLN_CAL.WINDOW : Fld := ⟨623, 3, 1, .RO, 0, .const 0⟩
/-- [31:16] RO. Die temperature at the result, signed, 0.125 °C units. -/
def GLN_CAL.TEMP : Fld := ⟨624, 16, 16, .RO, 0, .const 0⟩
/-- [47:32] RO. Supply at the result, mV. -/
def GLN_CAL.SUPPLY_MV : Fld := ⟨625, 32, 16, .RO, 0, .const 0⟩
/-- [79:64] RO. Steps timed out; saturating. -/
def GLN_CAL.TIMEOUTS : Fld := ⟨626, 64, 16, .RO, 0, .const 0⟩
/-- [95:80] RO. R474; saturating. -/
def GLN_CAL.OVERRUN : Fld := ⟨627, 80, 16, .RO, 0, .const 0⟩

/-- GLN_CAL: offset, instances, length and fields. -/
def reg_GLN_CAL : RegSpec := ⟨7348224, [(16, 192)], 12,
  [GLN_CAL.STATE, GLN_CAL.STALE, GLN_CAL.WINDOW, GLN_CAL.TEMP, GLN_CAL.SUPPLY_MV, GLN_CAL.TIMEOUTS, GLN_CAL.OVERRUN]⟩

/-! GLN_AGE_MON, 0x0070_4000 + m x 0x0000_0008, m = 0–67 (R480, 22_gleaning_calibration_and_ageing.md). -/
/-- [15:0] RO. Delay shift, 0.01 % units. -/
def GLN_AGE_MON.SHIFT : Fld := ⟨628, 0, 16, .RO, 0, .const 0⟩
/-- [19:16] RO. D. -/
def GLN_AGE_MON.DIE : Fld := ⟨629, 16, 4, .RO, 0, .monDie⟩

/-- GLN_AGE_MON: offset, instances, length and fields. -/
def reg_GLN_AGE_MON : RegSpec := ⟨7356416, [(8, 68)], 4,
  [GLN_AGE_MON.SHIFT, GLN_AGE_MON.DIE]⟩

/-! GLN_AGE_DIE, 0x0070_5000 + D x 0x0000_0010, D = 0–13 (R480, 22_gleaning_calibration_and_ageing.md). -/
/-- [63:0] RO. As the report, PL0 lowest, 16 bits each. -/
def GLN_AGE_DIE.NEED : Fld := ⟨630, 0, 64, .RO, 0, .const 0⟩
/-- [65:64] RO. Mirror of PWR_PL.AGE_MAX; 3 for line dies. -/
def GLN_AGE_DIE.AGE_MAX : Fld := ⟨631, 64, 2, .RO, 0, .const 3⟩

/-- GLN_AGE_DIE: offset, instances, length and fields. -/
def reg_GLN_AGE_DIE : RegSpec := ⟨7360512, [(16, 14)], 12,
  [GLN_AGE_DIE.NEED, GLN_AGE_DIE.AGE_MAX]⟩

/-! PMU_STATUS, 0x0060_0000 (R490, 23_performance_counters.md). -/
/-- [15:0] RO. Bit q = group q is counting. -/
def PMU_STATUS.RUNNING : Fld := ⟨632, 0, 16, .RO, 0, .const 0⟩
/-- [31:16] RO. Bit q = a PMU_RUN waits for its tick. -/
def PMU_STATUS.PENDING : Fld := ⟨633, 16, 16, .RO, 0, .const 0⟩

/-- PMU_STATUS: offset, instances, length and fields. -/
def reg_PMU_STATUS : RegSpec := ⟨6291456, [], 4,
  [PMU_STATUS.RUNNING, PMU_STATUS.PENDING]⟩

/-! PMU_OVF, 0x0060_0100, 64 bytes (R490, 23_performance_counters.md). -/
/-- [511:0] W1C. Bit n = counter n wrapped. -/
def PMU_OVF.OVF : Fld := ⟨634, 0, 512, .W1C, 1, .const 0⟩

/-- PMU_OVF: offset, instances, length and fields. -/
def reg_PMU_OVF : RegSpec := ⟨6291712, [], 64,
  [PMU_OVF.OVF]⟩

/-! PMU_TAG, 0x0060_0200, 24 bytes (R490, 23_performance_counters.md). -/
/-- [0] RO. Tagging on. -/
def PMU_TAG.EN : Fld := ⟨635, 0, 1, .RO, 0, .const 0⟩
/-- [1] RO. R485. -/
def PMU_TAG.JITTER : Fld := ⟨636, 1, 1, .RO, 0, .const 0⟩
/-- [2] RO. Port filter on. -/
def PMU_TAG.PORT_EN : Fld := ⟨637, 2, 1, .RO, 0, .const 0⟩
/-- [12:8] RO. 8–24. -/
def PMU_TAG.K : Fld := ⟨638, 8, 5, .RO, 0, .const 16⟩
/-- [24:16] RO. Ingress port filter. -/
def PMU_TAG.PORT : Fld := ⟨639, 16, 9, .RO, 0, .const 0⟩
/-- [63:32] RO. Packets tagged; an error and event counter. -/
def PMU_TAG.TAGS : Fld := ⟨640, 32, 32, .RO, 0, .const 0⟩
/-- [195:128] RO. Bit g = tagging in gallery g. -/
def PMU_TAG.GALLERIES : Fld := ⟨641, 128, 68, .RO, 0, .const 0⟩

/-- PMU_TAG: offset, instances, length and fields. -/
def reg_PMU_TAG : RegSpec := ⟨6291968, [], 24,
  [PMU_TAG.EN, PMU_TAG.JITTER, PMU_TAG.PORT_EN, PMU_TAG.K, PMU_TAG.PORT, PMU_TAG.TAGS, PMU_TAG.GALLERIES]⟩

/-! PMU_TRACE_STAT, 0x0060_0300 (R490, 23_performance_counters.md). -/
/-- [12:0] RO. Records held, 0–4 096. -/
def PMU_TRACE_STAT.FILL : Fld := ⟨642, 0, 13, .RO, 0, .const 0⟩
/-- [13] RO. 0 = STOP, 1 = RING. -/
def PMU_TRACE_STAT.MODE : Fld := ⟨643, 13, 1, .RO, 0, .const 0⟩
/-- [14] RO. Tracing on. -/
def PMU_TRACE_STAT.EN : Fld := ⟨644, 14, 1, .RO, 0, .const 0⟩
/-- [27:16] RO. Index of the next record to be written. -/
def PMU_TRACE_STAT.HEAD : Fld := ⟨645, 16, 12, .RO, 0, .const 0⟩
/-- [63:32] RO. Records lost; an error and event counter. -/
def PMU_TRACE_STAT.LOST : Fld := ⟨646, 32, 32, .RO, 0, .const 0⟩

/-- PMU_TRACE_STAT: offset, instances, length and fields. -/
def reg_PMU_TRACE_STAT : RegSpec := ⟨6292224, [], 8,
  [PMU_TRACE_STAT.FILL, PMU_TRACE_STAT.MODE, PMU_TRACE_STAT.EN, PMU_TRACE_STAT.HEAD, PMU_TRACE_STAT.LOST]⟩

/-! PMU_CTR, 0x0060_1000 + n x 0x0000_0008, n = 0–511 (R490, 23_performance_counters.md). -/
/-- [47:0] RW. Count, under R481. -/
def PMU_CTR.COUNT : Fld := ⟨647, 0, 48, .RW, 1, .const 0⟩
/-- [55:48] RW. Overflow count, saturating at 255. -/
def PMU_CTR.OVF : Fld := ⟨648, 48, 8, .RW, 1, .const 0⟩

/-- PMU_CTR: offset, instances, length and fields. -/
def reg_PMU_CTR : RegSpec := ⟨6295552, [(8, 512)], 8,
  [PMU_CTR.COUNT, PMU_CTR.OVF]⟩

/-! PMU_CFG, 0x0060_3000 + n x 0x0000_0010 (R490, 23_performance_counters.md). -/
/-- [7:0] RO. Event code; 0 = none. -/
def PMU_CFG.EVENT : Fld := ⟨649, 0, 8, .RO, 0, .const 0⟩
/-- [15:8] RO. Qualifier. -/
def PMU_CFG.QUAL : Fld := ⟨650, 8, 8, .RO, 0, .const 255⟩
/-- [19:16] RO. Bits O, I, M, H from bit 16. -/
def PMU_CFG.ROLE : Fld := ⟨651, 16, 4, .RO, 0, .const 15⟩
/-- [22:20] RO. 0 = none, 1 = ring, 2 = gallery, 3 = port, 4 = corridor. -/
def PMU_CFG.MKIND : Fld := ⟨652, 20, 3, .RO, 0, .const 0⟩
/-- [31:23] RO. Master index. -/
def PMU_CFG.MINDEX : Fld := ⟨653, 23, 9, .RO, 0, .const 0⟩
/-- [40:32] RO. Master mask. -/
def PMU_CFG.MMASK : Fld := ⟨654, 32, 9, .RO, 0, .const 0⟩
/-- [42:41] RO. 0 = none, 1 = TC mask, 2 = packet class. -/
def PMU_CFG.CKIND : Fld := ⟨655, 41, 2, .RO, 0, .const 0⟩
/-- [50:43] RO. TC mask or class. -/
def PMU_CFG.CVAL : Fld := ⟨656, 43, 8, .RO, 0, .const 0⟩
/-- [51] RO. Address filter on. -/
def PMU_CFG.AEN : Fld := ⟨657, 51, 1, .RO, 0, .const 0⟩
/-- [55:52] RO. Group, 0–15. -/
def PMU_CFG.GROUP : Fld := ⟨658, 52, 4, .RO, 0, .const 0⟩
/-- [56] RO. R482. -/
def PMU_CFG.OVF_IRQ : Fld := ⟨659, 56, 1, .RO, 0, .const 0⟩
/-- [95:64] RO. Lowest address. -/
def PMU_CFG.ADDR_LO : Fld := ⟨660, 64, 32, .RO, 0, .const 0⟩
/-- [127:96] RO. Highest address. -/
def PMU_CFG.ADDR_HI : Fld := ⟨661, 96, 32, .RO, 0, .const 0⟩

/-- PMU_CFG: offset, instances, length and fields. -/
def reg_PMU_CFG : RegSpec := ⟨6303744, [(16, 512)], 16,
  [PMU_CFG.EVENT, PMU_CFG.QUAL, PMU_CFG.ROLE, PMU_CFG.MKIND, PMU_CFG.MINDEX, PMU_CFG.MMASK, PMU_CFG.CKIND, PMU_CFG.CVAL, PMU_CFG.AEN, PMU_CFG.GROUP, PMU_CFG.OVF_IRQ, PMU_CFG.ADDR_LO, PMU_CFG.ADDR_HI]⟩

/-! PMU_BW, 0x0064_0000 + p x 0x0000_0040, p = 0–511 (R490, 23_performance_counters.md). -/
/-- [19:0] RO. Window length, µs; 0 = off. -/
def PMU_BW.W_US : Fld := ⟨662, 0, 20, .RO, 0, .const 0⟩
/-- [103:64] RO. Bytes received in the last window. -/
def PMU_BW.RX_LAST : Fld := ⟨663, 64, 40, .RO, 0, .const 0⟩
/-- [127:112] RO. SEQ of that window. -/
def PMU_BW.RX_LAST_SEQ : Fld := ⟨664, 112, 16, .RO, 0, .const 0⟩
/-- [167:128] RO. As RX_LAST. -/
def PMU_BW.RX_MIN : Fld := ⟨665, 128, 40, .RO, 0, .const 1099511627775⟩
/-- [191:176] RO. As RX_LAST. -/
def PMU_BW.RX_MIN_SEQ : Fld := ⟨666, 176, 16, .RO, 0, .const 0⟩
/-- [231:192] RO. As RX_LAST. -/
def PMU_BW.RX_MAX : Fld := ⟨667, 192, 40, .RO, 0, .const 0⟩
/-- [255:240] RO. As RX_LAST. -/
def PMU_BW.RX_MAX_SEQ : Fld := ⟨668, 240, 16, .RO, 0, .const 0⟩
/-- [295:256] RO. Bytes sent. -/
def PMU_BW.TX_LAST : Fld := ⟨669, 256, 40, .RO, 0, .const 0⟩
/-- [319:304] RO. Bytes sent. -/
def PMU_BW.TX_LAST_SEQ : Fld := ⟨670, 304, 16, .RO, 0, .const 0⟩
/-- [359:320] RO. As TX_LAST. -/
def PMU_BW.TX_MIN : Fld := ⟨671, 320, 40, .RO, 0, .const 1099511627775⟩
/-- [383:368] RO. As TX_LAST. -/
def PMU_BW.TX_MIN_SEQ : Fld := ⟨672, 368, 16, .RO, 0, .const 0⟩
/-- [423:384] RO. As TX_LAST. -/
def PMU_BW.TX_MAX : Fld := ⟨673, 384, 40, .RO, 0, .const 0⟩
/-- [447:432] RO. As TX_LAST. -/
def PMU_BW.TX_MAX_SEQ : Fld := ⟨674, 432, 16, .RO, 0, .const 0⟩

/-- PMU_BW: offset, instances, length and fields. -/
def reg_PMU_BW : RegSpec := ⟨6553600, [(64, 512)], 56,
  [PMU_BW.W_US, PMU_BW.RX_LAST, PMU_BW.RX_LAST_SEQ, PMU_BW.RX_MIN, PMU_BW.RX_MIN_SEQ, PMU_BW.RX_MAX, PMU_BW.RX_MAX_SEQ, PMU_BW.TX_LAST, PMU_BW.TX_LAST_SEQ, PMU_BW.TX_MIN, PMU_BW.TX_MIN_SEQ, PMU_BW.TX_MAX, PMU_BW.TX_MAX_SEQ]⟩

/-! PMU_TRACE, 0x0068_0000 + r x 0x0000_0040, r = 0–4 095 (R490, 23_performance_counters.md). -/
/-- [511:0] RO. Trace record r, laid out as in the trace record table. -/
def PMU_TRACE.RECORD : Fld := ⟨675, 0, 512, .RO, 0, .const 0⟩

/-- PMU_TRACE: offset, instances, length and fields. -/
def reg_PMU_TRACE : RegSpec := ⟨6815744, [(64, 4096)], 64,
  [PMU_TRACE.RECORD]⟩

/-! DDL_CFG, 0x00A0_0000 (R499, 24_corridors.md). -/
/-- [7:0] RW. Errored intervals that trigger replacement, 1–255; 0 is held at 1. -/
def DDL_CFG.REPL_THR : Fld := ⟨676, 0, 8, .RW, 2, .const 8⟩
/-- [31:16] RW. Window, 1–65 535 µs; 0 is held at 1. -/
def DDL_CFG.REPL_WIN_US : Fld := ⟨677, 16, 16, .RW, 2, .const 1000⟩

/-- DDL_CFG: offset, instances, length and fields. -/
def reg_DDL_CFG : RegSpec := ⟨10485760, [], 4,
  [DDL_CFG.REPL_THR, DDL_CFG.REPL_WIN_US]⟩

/-! DDL_STAT, direction base + 0x00 (R499, 24_corridors.md). -/
/-- [2:0] RO. 0 = OFF, 1 = START, 2 = DESKEW, 3 = UP, 4 = DEGRADED, 5 = FAILED. -/
def DDL_STAT.STATE : Fld := ⟨678, 0, 3, .RO, 0, .const 0⟩
/-- [4:3] RO. Start attempt, 1–3. -/
def DDL_STAT.ATTEMPT : Fld := ⟨679, 3, 2, .RO, 0, .const 0⟩
/-- [8:5] RO. Groups out of use, under R497. -/
def DDL_STAT.GROUPS_OUT : Fld := ⟨680, 5, 4, .RO, 0, .const 0⟩
/-- [21:16] RO. Free spares not held by gleaning. -/
def DDL_STAT.SPARES_FREE : Fld := ⟨681, 16, 6, .RO, 0, .const 32⟩
/-- [40:32] RO. Largest skew between lanes, UI. -/
def DDL_STAT.SKEW_UI : Fld := ⟨682, 32, 9, .RO, 0, .const 0⟩

/-- DDL_STAT: offset, instances, length and fields. -/
def reg_DDL_STAT : RegSpec := ⟨10489856, [(256, 24), (128, 2)], 8,
  [DDL_STAT.STATE, DDL_STAT.ATTEMPT, DDL_STAT.GROUPS_OUT, DDL_STAT.SPARES_FREE, DDL_STAT.SKEW_UI]⟩

/-! DDL_RX_CFG, direction base + 0x08 (R499, 24_corridors.md). -/
/-- [4:0] RW. Peaking, 0.5 dB units, 0–16; larger values are held at 16. -/
def DDL_RX_CFG.PEAK : Fld := ⟨683, 0, 5, .RW, 2, .const 8⟩
/-- [7] RW. R493. -/
def DDL_RX_CFG.PEAK_AUTO : Fld := ⟨684, 7, 1, .RW, 2, .const 1⟩
/-- [12:8] RO. Peaking in force. -/
def DDL_RX_CFG.PEAK_NOW : Fld := ⟨685, 8, 5, .RO, 0, .const 0⟩

/-- DDL_RX_CFG: offset, instances, length and fields. -/
def reg_DDL_RX_CFG : RegSpec := ⟨10489864, [(256, 24), (128, 2)], 4,
  [DDL_RX_CFG.PEAK, DDL_RX_CFG.PEAK_AUTO, DDL_RX_CFG.PEAK_NOW]⟩

/-! DDL_CNT, direction base + 0x10, 16 bytes (R499, 24_corridors.md). -/
/-- [31:0] RO. R495. -/
def DDL_CNT.CRC_DROP : Fld := ⟨686, 0, 32, .RO, 0, .const 0⟩
/-- [63:32] RO. R495. -/
def DDL_CNT.CTRL_RETRY : Fld := ⟨687, 32, 32, .RO, 0, .const 0⟩
/-- [95:64] RO. R496. -/
def DDL_CNT.REPLACED : Fld := ⟨688, 64, 32, .RO, 0, .const 0⟩
/-- [127:96] RO. Lane losses of marker lock. -/
def DDL_CNT.LOCK_LOSS : Fld := ⟨689, 96, 32, .RO, 0, .const 0⟩

/-- DDL_CNT: offset, instances, length and fields. -/
def reg_DDL_CNT : RegSpec := ⟨10489872, [(256, 24), (128, 2)], 16,
  [DDL_CNT.CRC_DROP, DDL_CNT.CTRL_RETRY, DDL_CNT.REPLACED, DDL_CNT.LOCK_LOSS]⟩

/-! DDL_LANE, lane register (R499, 24_corridors.md). -/
/-- [1:0] RO. 0 = DATA, 1 = SPARE, 2 = GLEANING, 3 = FAILED. -/
def DDL_LANE.STATE : Fld := ⟨690, 0, 2, .RO, 0, .ddlState⟩
/-- [12:2] RO. Logical lane carried, 0–1 023; 0x7FF = none. -/
def DDL_LANE.POS : Fld := ⟨691, 2, 11, .RO, 0, .ddlPos⟩
/-- [15] WO. 1 = replace this DATA lane under R496. -/
def DDL_LANE.REPLACE : Fld := ⟨692, 15, 1, .WO, 2, .const 0⟩
/-- [31:16] RO. Errored intervals; saturates at 0xFFFF. -/
def DDL_LANE.ERR : Fld := ⟨693, 16, 16, .RO, 0, .const 0⟩

/-- DDL_LANE: offset, instances, length and fields. -/
def reg_DDL_LANE : RegSpec := ⟨10747904, [(8192, 48), (4, 1056)], 4,
  [DDL_LANE.STATE, DDL_LANE.POS, DDL_LANE.REPLACE, DDL_LANE.ERR]⟩

/-- The registers of block GLB (R128). -/
def regsGLB : List RegSpec :=
  [reg_GLB_STRAP,
   reg_GLB_PIN_STAT,
   reg_GLB_BOOT_STAT,
   reg_GLB_BOOT_FAIL,
   reg_GLB_RESET_CAUSE,
   reg_GLB_WARM_CNT,
   reg_GLB_HOST_CNT,
   reg_GLB_SI_STAT,
   reg_GLB_SI_INFO,
   reg_GLB_SI_KEYS,
   reg_GLB_SI_ROT,
   reg_GLB_SI_ASSIGN,
   reg_GLB_SI_REGION]

/-- The registers of block EMG (R128). -/
def regsEMG : List RegSpec :=
  [reg_EMG_SITE_PRES,
   reg_EMG_GLB_CFG,
   reg_EMG_SITE_CTRL,
   reg_EMG_DAC,
   reg_EMG_CEIL,
   reg_EMG_PWM,
   reg_EMG_ALS_CFG,
   reg_EMG_ALS_LANE,
   reg_EMG_SITE_STAT,
   reg_EMG_MON_SITE,
   reg_EMG_MON_STAT,
   reg_EMG_MON_CNT,
   reg_EMG_MON_IN,
   reg_EMG_MON_RES]

/-- The registers of block PWR (R128). -/
def regsPWR : List RegSpec :=
  [reg_PWR_VRM_CFG,
   reg_PWR_STATUS,
   reg_PWR_POLICY,
   reg_PWR_PL,
   reg_PWR_IDLE,
   reg_PWR_DOM,
   reg_PWR_RES,
   reg_PWR_THERM,
   reg_PWR_HBM]

/-- The registers of block SEC (R128). -/
def regsSEC : List RegSpec :=
  [reg_SEC_VST_CTRL,
   reg_SEC_VST_STAT,
   reg_SEC_STATUS,
   reg_SEC_SLOTS,
   reg_SEC_LOCKOUT,
   reg_SEC_POLICY,
   reg_SEC_SERIAL,
   reg_SEC_AUDIT_STAT,
   reg_SEC_SESSION]

/-- The registers of block HIF (R128). -/
def regsHIF : List RegSpec :=
  [reg_HIF_STATUS,
   reg_HIF_MMIO_DROP,
   reg_HIF_ONES_ADDR,
   reg_HIF_CFG,
   reg_HIF_RING_STAT,
   reg_HIF_HRST_LAST,
   reg_HIF_PUNT_STAT,
   reg_HIF_EVQ_STAT]

/-- The registers of block TIM (R128). -/
def regsTIM : List RegSpec :=
  [reg_TIM_NOW,
   reg_TIM_STATUS,
   reg_TIM_INCR,
   reg_TIM_CFG,
   reg_TIM_PPS_IN,
   reg_TIM_PPS_OUT,
   reg_TIM_RCLK,
   reg_TIM_TEV_STAT,
   reg_TIM_PORT_DLY]

/-- The registers of block LND (R128). -/
def regsLND : List RegSpec :=
  [reg_LND_STATUS,
   reg_LND_CFG,
   reg_LND_OLD_COUNT,
   reg_LND_STAT,
   reg_LND_SLOT]

/-- The registers of block SHF (R128). -/
def regsSHF : List RegSpec :=
  [reg_SHF_RX_AFE,
   reg_SHF_RX_ADC,
   reg_SHF_RX_SLICE,
   reg_SHF_RX_CDR,
   reg_SHF_RX_FFE,
   reg_SHF_RX_FFE_TAP,
   reg_SHF_RX_QUAL,
   reg_SHF_RX_CAPTURE,
   reg_SHF_RX_HISTBUF,
   reg_SHF_RX_HOLD_CFG,
   reg_SHF_RX_BANK,
   reg_SHF_RX_HOLD_STAT,
   reg_SHF_RX_EVT,
   reg_SHF_WAKE,
   reg_SHF_WAKE_STAT,
   reg_SHF_SYN_STAT,
   reg_SHF_TX_CTRL,
   reg_SHF_TX_STAT,
   reg_SHF_TX_SHAPE,
   reg_SHF_TX_TAP,
   reg_SHF_TX_FIX_TAP,
   reg_SHF_TX_LUT,
   reg_SHF_TX_FIX_LUT,
   reg_SHF_LANE_STAT,
   reg_SHF_LANE_CNT,
   reg_SHF_TRN_PARTNER,
   reg_SHF_TRN_CFG,
   reg_SHF_TRN_TMO,
   reg_SHF_FEC_STAT,
   reg_SHF_FEC_CFG,
   reg_SHF_FEC_CNT,
   reg_SHF_FEC_WIN,
   reg_SHF_FEC_CLR,
   reg_SHF_FEC_EVT,
   reg_SHF_FEC_HIST]

/-- The registers of block PRT (R128). -/
def regsPRT : List RegSpec :=
  [reg_PRT_CFG,
   reg_PRT_STAT,
   reg_PRT_MAC_CNT,
   reg_PRT_MAC_ERR]

/-- The registers of block MSC (R128). -/
def regsMSC : List RegSpec :=
  [reg_MSC_CHAN,
   reg_MSC_SA,
   reg_MSC_CNT]

/-- The registers of block GAL (R128). -/
def regsGAL : List RegSpec :=
  [reg_GAL_STAT,
   reg_GAL_CFG,
   reg_GAL_WIN,
   reg_GAL_RES,
   reg_GAL_CNT,
   reg_GAL_ERR,
   reg_GAL_DROP_CNT]

/-- The registers of block TBL (R128). -/
def regsTBL : List RegSpec :=
  [reg_TBL_STATUS,
   reg_TBL_UPD,
   reg_TBL_POISON_LOG,
   reg_TBL_CNT_WRAP,
   reg_TBL_INFO,
   reg_TBL_CFG,
   reg_TBL_ERR]

/-- The registers of block TMG (R128). -/
def regsTMG : List RegSpec :=
  [reg_TMG_PROFILE,
   reg_TMG_MIRROR,
   reg_TMG_PORT,
   reg_TMG_PFC,
   reg_TMG_HALL_STAT,
   reg_TMG_DROP_CNT]

/-- The registers of block FLT (R128). -/
def regsFLT : List RegSpec :=
  [reg_FLT_SUMMARY,
   reg_FLT_CFG,
   reg_FLT_STICKY,
   reg_FLT_ESC,
   reg_FLT_SRC]

/-- The registers of block MEM (R128). -/
def regsMEM : List RegSpec :=
  [reg_MEM_CTRL_STAT,
   reg_MEM_CE_LOG,
   reg_MEM_RETIRE_LIST,
   reg_MEM_WINNOW,
   reg_MEM_SRAM_STAT,
   reg_MEM_CFG]

/-- The registers of block GLN (R128). -/
def regsGLN : List RegSpec :=
  [reg_GLN_CFG,
   reg_GLN_STAT,
   reg_GLN_CNT,
   reg_GLN_GAL,
   reg_GLN_CAL,
   reg_GLN_AGE_MON,
   reg_GLN_AGE_DIE]

/-- The registers of block PMU (R128). -/
def regsPMU : List RegSpec :=
  [reg_PMU_STATUS,
   reg_PMU_OVF,
   reg_PMU_TAG,
   reg_PMU_TRACE_STAT,
   reg_PMU_CTR,
   reg_PMU_CFG,
   reg_PMU_BW,
   reg_PMU_TRACE]

/-- The registers of block DDL (R128). -/
def regsDDL : List RegSpec :=
  [reg_DDL_CFG,
   reg_DDL_STAT,
   reg_DDL_RX_CFG,
   reg_DDL_CNT,
   reg_DDL_LANE]

/-- Every register of BAR0. -/
def registers : List RegSpec :=
  regsGLB ++
  regsEMG ++
  regsPWR ++
  regsSEC ++
  regsHIF ++
  regsTIM ++
  regsLND ++
  regsSHF ++
  regsPRT ++
  regsMSC ++
  regsGAL ++
  regsTBL ++
  regsTMG ++
  regsFLT ++
  regsMEM ++
  regsGLN ++
  regsPMU ++
  regsDDL

end Sys2Proof.Machine
end

