-- ==== Sys2Proof/Machine/State.lean ====
section
/-! DEFINITION. The state of the CL512 as plain data: one store for every scalar (register fields, pins and the
machine's unregistered scalars), and lists and tables for what has structure. -/

namespace Sys2Proof.Machine

/-- Why a step could stop. No command of this model raises it: every command of the spec has an effect, and an access
outside the map completes as R129, R131 and R142 say. Kept so that an outcome of the kind can be named. Safe: a stop
proves nothing about the hardware. -/
inductive Fault where
  /-- An access to a place the spec says does not exist. Raised by no command. Safe. -/
  | noSuchPlace
  deriving DecidableEq, Repr

/-- Why a command is refused. -/
inductive Refusal where
  /-- The command has no meaning yet in this model. Raised by the arms of `exec` that name it. Safe: it claims
  nothing about the command. -/
  | notModelled (mnemonic : String)
  deriving DecidableEq, Repr

/-- Completion status codes (R137). -/
inductive Status where
  | ok | denied | badMac | late | lateDrain | busy | noPower | uncorr | timeout | invalid | aborted
  deriving DecidableEq, Repr

/-- A command that passed the four checks of R113, with the session it came from and that session's k_xport (R112),
which the command keeps when the session closes before it runs (R114). -/
structure Acc where
  cmd    : Cmd
  handle : Nat
  role   : Nat
  cred   : Nat
  kX     : BitVec 256
  woken  : Bool
  deriving DecidableEq, Repr, Inhabited

/-- A completion entry (R136). -/
structure Cpl where
  tag       : Nat
  status    : Status
  phase     : Bool
  dataValid : Bool
  woken     : Bool
  tlock     : Bool
  ring      : Nat
  detail    : Nat
  data      : Nat
  /-- The command carried NOIRQ (R134); not part of the entry. -/
  noirq     : Bool
  deriving DecidableEq, Repr

/-- One command ring (R131 to R133): the host's geometry, the indices, what is accepted and not yet dispatched, and the
completions written and not consumed, or waiting for a slot. -/
structure RingS where
  bound    : Option Nat
  draining : Bool
  error    : Bool
  discard  : Bool
  sqBase   : Nat
  cqBase   : Nat
  size     : Nat
  irq      : Nat
  sqHead   : Nat
  sqTail   : Nat
  cqTail   : Nat
  cqHead   : Nat
  phase    : Bool
  seq      : Nat
  badMac   : Nat
  nonOk    : Nat
  batch    : Nat
  /-- Entries up to the tail last written that are not fetched yet (R133). -/
  unread   : List Cmd
  accepted : List Acc
  /-- Dispatched commands whose WAKE has ended and which have not run yet, in the order they were dispatched (R144). -/
  resumed  : List Acc
  cq       : List Cpl
  cqWait   : List Cpl
  deriving DecidableEq, Repr

/-- A ring nothing has set up (R131: geometry 0, unbound). -/
def RingS.init : RingS :=
  { bound := none, draining := false, error := false, discard := false, sqBase := 0, cqBase := 0, size := 0, irq := 0,
    sqHead := 0, sqTail := 0, cqTail := 0, cqHead := 0, phase := true, seq := 0, badMac := 0, nonOk := 0, batch := 0,
    unread := [], accepted := [], resumed := [], cq := [], cqWait := [] }

/-- What a dispatched command whose completion is not written yet waits for. -/
inductive RunPhase where
  /-- The WAKE flag's domains, the first one waking now (R144, R33). -/
  | waking (doms : List Nat)
  /-- The opcode's own wait; what the numbers mean is the opcode's. -/
  | waiting (data : List Nat)
  deriving DecidableEq, Repr

/-- A dispatched command that has not completed. -/
structure Run where
  ring  : Nat
  acc   : Acc
  phase : RunPhase
  deriving DecidableEq, Repr

/-- An open session (R110, R112, R125). -/
structure Sess where
  role     : Nat
  cred     : Nat
  kCmd     : BitVec 256
  kXport   : BitVec 256
  lastTick : Nat
  deriving DecidableEq, Repr

/-- The vestibule's exchange held in CHALLENGED (R110). -/
structure VstX where
  handle : Nat
  role   : Nat
  cred   : Nat
  method : Nat
  nonceH : List Byte
  nonceD : BitVec 256
  rings  : Nat
  deriving DecidableEq, Repr

/-- An Installer credential (R105): a key, or a password-derived key with its salt and iteration count. -/
structure InstCred where
  pw   : Bool
  iter : Nat
  salt : BitVec 256
  key  : BitVec 384
  deriving DecidableEq, Repr

/-- A pre-shared CAK with its CKN (R118, R299). -/
structure Cak where
  cak : BitVec 256
  ckn : List Byte
  deriving DecidableEq, Repr

/-- An audit entry (R119). -/
structure AuditEntry where
  seq    : Nat
  time   : Nat
  type   : Nat
  role   : Nat
  cred   : Nat
  handle : Nat
  opcode : Nat
  status : Nat
  detail : List Byte
  chain  : BitVec 384
  /-- An AUDIT_EXPORT has written the entry; no byte of it. -/
  exported : Bool
  deriving DecidableEq, Repr

/-- An event record (R148). -/
structure EvRec where
  type   : Nat
  source : Nat
  cls    : Nat
  phase  : Bool
  time   : Nat
  data   : List Byte
  deriving DecidableEq, Repr

/-- An event queue that is set up (R148, R149). -/
structure EvQ where
  base   : Nat
  log2   : Nat
  vector : Nat
  irqEn  : Bool
  usec   : Nat
  types  : Nat
  head   : Nat
  tail   : Nat
  phase  : Bool
  lost   : Nat
  held   : Bool
  owed   : Bool
  recs   : List EvRec
  deriving DecidableEq, Repr

/-- One ring of a punt queue (R150, R151). -/
structure PuntRing where
  en      : Bool
  log2    : Nat
  vector  : Nat
  bufSize : Nat
  base    : Nat
  count   : Nat
  usec    : Nat
  head    : Nat
  tail    : Nat
  batch   : Nat
  deriving DecidableEq, Repr

/-- What the device sends out: interrupts, writes to host memory, frames, pulses. -/
inductive Out where
  /-- An interrupt on an MSI-X vector (R147): the vector, and the address and data of its table entry (R131). -/
  | irq (vector addr data : Nat)
  /-- Bytes written to host memory at an address: completions, records, buffers. -/
  | dma (addr : Nat) (bytes : List Byte)
  /-- A frame handed to host memory through punt queue p: length, reason, TARGET word, truncated, bytes (R150, R339). -/
  | puntFrame (p len reason target : Nat) (trunc : Bool) (data : List Byte)
  /-- A frame sent on a port: length, the one-step insertion made, 0 none, 1 origin, 2 residence, and the frame's bytes with
  the insertion (R290, R167, R168). -/
  | txFrame (port len kind : Nat) (data : List Byte)
  /-- A priority flow control frame sent: port, class, quanta (R381). -/
  | pfc (port cls quanta : Nat)
  /-- A training frame sent on a lane: its 192 bytes; the burst that follows stands in its PROBE field (R249). -/
  | trn (lane : Nat) (bytes : List Byte)
  /-- Wake frames sent on a lane: the 80 chips of one, on or off, and how many went out (R237). -/
  | wake (lane : Nat) (chips : List Bool) (frames : Nat)
  /-- PAM4 symbols sent on a lane in native mode from one transmit boundary to the next, as levels -3 to +3 (R269), and the
  codes the DAC converts meanwhile (R228). -/
  | symbols (lane : Nat) (levels : List Int) (codes : List Nat)
  /-- A transform symbol of data sent on a lane in loaded mode: the constellation label of subcarriers 1 to 255 (R277). -/
  | subcarriers (lane : Nat) (labels : List Nat)
  /-- An MKPDU sent on a channel, with the number of the key it distributes and its wrapped SAK, if any (R118, R296). -/
  | mkpdu (chan : Nat) (newKey : Option (Nat × List Byte))
  /-- A switch of one PMBus rail to a voltage in mV (R69). -/
  | vout (rail mv : Nat)
  /-- A configuration request answered (R83): Request Retry Status, or a completion with its data, 0 for a write (R126). -/
  | cfg (retry : Bool) (data : Nat)
  /-- A plain read answered (R129, R131): BAR, offset, width and data. -/
  | mmio (bar2 : Bool) (offset width data : Nat)
  /-- A plain access answered with Unsupported Request (R129). -/
  | unsupported (bar2 : Bool) (offset : Nat)
  /-- A control message over a corridor, resent (R495). -/
  | ctrlResend (corridor dir : Nat)
  deriving DecidableEq, Repr

/-- A region of a structure image (R302, R304). -/
structure Region where
  revision : Nat
  depends  : List Nat
  digest   : BitVec 384
  body     : List Byte
  deriving DecidableEq, Repr

/-- A table the TABLES region declares (R346, R348). -/
structure TableDef where
  kind     : Nat
  keyBytes : Nat
  place    : Nat
  capacity : Nat
  slot     : Nat
  pinned   : Nat
  pins     : List Nat
  deriving DecidableEq, Repr, Inhabited

/-- One entry of a table (R356). -/
structure Entry where
  table   : Nat
  key     : List Byte
  mask    : List Byte
  plen    : Nat
  prio    : Nat
  action  : Nat
  data    : List Byte
  counter : Option Nat
  /-- An EXACT entry that lies in the stash (R350). -/
  stash   : Bool
  deriving DecidableEq, Repr

/-- A table's default result (R355). -/
structure DefRes where
  action  : Nat
  data    : List Byte
  counter : Option Nat
  deriving DecidableEq, Repr

/-- A port of the port map (R286): its width in lanes and its format, 1 native, 2 loaded, 3 standard. Port p's first
lane is lane p (R287). -/
structure PortDef where
  width : Nat
  format : Nat
  deriving DecidableEq, Repr, Inhabited

/-- What the queue map gives a queue number: an egress port, or a replication group (R369). -/
inductive QTarget where
  | port (p : Nat)
  | repl (g : Nat)
  deriving DecidableEq, Repr

/-- One copy of all generational state (R174, R177). -/
structure GenCopy where
  regions  : Tab Region
  tables   : Tab TableDef
  entries  : List Entry
  defaults : Tab DefRes
  cntN     : Nat
  ports    : Tab PortDef
  queues   : Tab QTarget
  assign   : Tab Nat
  profiles : Tab Nat
  repl     : Tab (List Nat)
  txAn     : Tab Nat
  deriving DecidableEq, Repr

/-- A copy with no image. -/
def GenCopy.empty : GenCopy :=
  { regions := [], tables := [], entries := [], defaults := [], cntN := 0, ports := [], queues := [], assign := [],
    profiles := [], repl := [], txAn := [] }

/-- A copy as a cold reset leaves it: no image, and gallery g serves sheaf g (R18). -/
def GenCopy.cold : GenCopy := { GenCopy.empty with assign := (List.range 64).map (fun g => ((g, 0), g)) }

/-- One row of an image's region table (R304). -/
structure ImgRow where
  id       : Nat
  present  : Bool
  offset   : Nat
  length   : Nat
  revision : Nat
  depends  : List Nat
  digest   : BitVec 384
  deriving DecidableEq, Repr

/-- An image as the load context holds it once its signature block has passed: header values and region table (R304). -/
structure ImgHead where
  partialImg : Bool
  svn      : Nat
  length   : Nat
  imageId  : Nat
  baseId   : Nat
  sigKey   : Nat
  encKey   : Nat
  ivBase   : List Byte
  minFrame : Nat
  rows     : List ImgRow
  deriving DecidableEq, Repr

/-- The load context (R309). -/
structure SiCtx where
  handle  : Nat
  landing : Option Nat
  source  : Nat
  force   : Bool
  ring    : Nat
  bytes   : List Byte
  head    : Option ImgHead
  bodies  : Tab Region
  result  : Option (Tab Region)
  deriving DecidableEq, Repr

/-- Where a packet is. -/
inductive Loc where
  /-- Delivered by the MAC of port p, on the way to the gallery that serves its sheaf. -/
  | fromMac (p : Nat)
  /-- In the entry buffer of gallery g (R334). -/
  | entry (g : Nat)
  /-- In the ingress flight of gallery g. -/
  | ingress (g : Nat)
  /-- Parked in the ingress flight on a Granary lookup (R331). -/
  | ingressPark (g : Nat)
  /-- In the ingress reorder stage of gallery g (R332). -/
  | ingressReorder (g : Nat)
  /-- On the way to hall h (R336). -/
  | toHall (h : Nat)
  /-- In queue q (R368). -/
  | queue (q : Nat)
  /-- In the egress flight of gallery g. -/
  | egress (g : Nat)
  /-- Parked in the egress flight on a Granary lookup. -/
  | egressPark (g : Nat)
  /-- In the egress reorder stage of gallery g. -/
  | egressReorder (g : Nat)
  /-- On the way to the MAC of port p. -/
  | toMac (p : Nat)
  deriving DecidableEq, Repr

/-- A packet or copy in the device. -/
structure Pkt where
  id      : Nat
  /-- The frame's bytes, as the last stage left them; a byte past them reads 0. -/
  data    : List Byte
  /-- Containers of the packet header vector a recirculated packet keeps (R338); a container not listed is 0. -/
  vec     : Tab Nat
  gen     : Nat
  loc     : Loc
  inPort  : Nat
  outPort : Nat
  queue   : Nat
  len     : Nat
  tc      : Nat
  cls     : Nat
  host    : Bool
  pass    : Nat
  order   : Nat
  seq     : Nat
  silo    : Bool
  hold    : Bool
  hwDrop  : Nat
  /-- Tick at which the packet was enqueued. -/
  enqAt   : Nat
  tag     : Nat
  /-- Receive time-stamp, 2^-16 ns (R166, RX_TS of R324). -/
  rxTs    : Nat
  /-- SEC of R324: [12:0] channel, [14:13] AN, [15] secured and validated. -/
  sec     : Nat
  /-- SEC_FAIL of R324. -/
  secFail : Bool
  /-- RESIDENCE and DEPTH_KIB of R324. -/
  resNs   : Nat
  depth   : Nat
  /-- Table of the Granary lookup the packet waits for. -/
  look    : Nat
  res     : Option FlightResult
  deriving DecidableEq, Repr

/-- Settings, counters, average and peak bucket of one queue (R369, R379, R387). The bucket counts 1/3125 byte and is that
of tick `tokAt`. -/
structure QueueS where
  profile : Nat
  parent  : Nat
  setByCmd : Bool
  attach  : Option Nat
  tc      : Nat
  prio    : Nat
  weight  : Nat
  pir     : Nat
  pbs     : Nat
  spilled : Bool
  enqP    : Nat
  enqB    : Nat
  deqP    : Nat
  deqB    : Nat
  dropP   : Nat
  dropB   : Nat
  maxRes  : Nat
  /-- One of the queue's statistics counters has wrapped: the sticky WRAP of the bank (R13). -/
  wrap    : Bool
  avg     : Nat
  /-- Bytes the round robin still allows it (R378). -/
  deficit : Nat
  pTok    : Int
  tokAt   : Nat
  deriving DecidableEq, Repr

/-- Settings, counters and buckets of one scheduler node (R377, R379, R386, R387). Buckets count 1/3125 byte and are those of
tick `tokAt`. -/
structure NodeS where
  parent : Option Nat
  prio   : Nat
  weight : Nat
  cir    : Nat
  pir    : Nat
  cbs    : Nat
  pbs    : Nat
  deqP   : Nat
  deqB   : Nat
  /-- One of the node's statistics counters has wrapped (R13). -/
  wrap   : Bool
  deficit : Nat
  cTok   : Int
  pTok   : Int
  tokAt  : Nat
  deriving DecidableEq, Repr

/-- The gate control lists of one port (R382, R384). -/
structure Gates where
  active  : List (Nat × Nat)
  pending : Option (List (Nat × Nat))
  deriving DecidableEq, Repr

/-- A sealed ceiling record of one site (R400, R401): per channel ceiling, clear code, gain 2, and per site the duty
ceilings and the reference choice. -/
structure CeilRec where
  ceil  : List Nat
  clear : List Nat
  gain2 : List Bool
  duty  : List Nat
  ext   : Bool
  deriving DecidableEq, Repr

/-- One input's filter-chain memory (R413 to R417): samples taken since its clear, the delay line and the filter's window,
newest first, samples in the block of a decimating average, each half-band stage's inputs with whether an odd number came,
and the mean square. -/
structure Chain where
  taken  : Nat
  line   : List Nat
  win    : List Nat
  blk    : Nat
  stages : List (Bool × List Nat)
  rms    : Nat
  deriving DecidableEq, Repr, Inhabited

/-- A protection bank of a lane (R218): the snapshot's die temperature, filter peaking and gain, the 41 taps and h1, the
255 subcarrier equalisers, and the clock-recovery frequency estimate. -/
structure Bank where
  temp : Nat
  peak : Nat
  vga  : Nat
  taps : List Nat
  h1   : Nat
  eqs  : List Nat
  freq : Nat
  deriving DecidableEq, Repr, Inhabited

/-- A counter pair (R353): packets and bytes. -/
abbrev Pair := Nat × Nat

/-- A pending PMU_RUN (R484): which counters, start or stop, clear, snapshot, and its landing tick if timed. -/
structure PmuRun where
  mask  : Nat
  start : Bool
  clear : Bool
  time  : Nat
  deriving DecidableEq, Repr

/-- The TABLE_SUMMARY window of one session and table (R119). -/
structure TblSum where
  start   : Nat
  cmds    : Nat
  entries : Nat
  bytes   : List Byte
  deriving DecidableEq, Repr

/-- The whole state. -/
structure State where
  /-- Every scalar: register fields by field and instance, and the unregistered scalars. Unlisted = its reset value. -/
  regs     : Tab Nat
  /-- Command rings; unlisted = `RingS.init`. -/
  rings    : Tab RingS
  /-- Dispatched commands that have not completed, in the order they were dispatched. -/
  running  : List Run
  /-- Open sessions by handle. -/
  sessions : Tab Sess
  /-- The vestibule exchange held in CHALLENGED. -/
  vst      : Option VstX
  /-- The vestibule request and response windows (R109). -/
  vstReq   : List Byte
  vstRsp   : List Byte
  /-- The rewritable key store: Operator keys, Installer credentials, CAKs, image keys (R115). -/
  opKeys   : Tab (BitVec 384)
  instCreds : Tab InstCred
  caks     : Tab Cak
  siVerify : Tab (List Byte)
  siDecrypt : Tab (BitVec 256)
  /-- The Maker key in fuses; none after zeroisation (R115). -/
  makerKey : Option (BitVec 384)
  /-- The enrolment key K_E in fuses; none once burned (R106, R107). -/
  enrolKey : Option (BitVec 384)
  /-- The attestation private key in fuses; none after zeroisation (R115). -/
  attestKey : Option (BitVec 384)
  /-- The audit record, oldest first (R119). -/
  audit    : List AuditEntry
  /-- Open TABLE_SUMMARY windows, key (session, table) (R119). -/
  tblSums  : Tab TblSum
  /-- Event queues set up (R148). -/
  evqs     : Tab EvQ
  /-- Punt rings by (queue, direction) (R151). -/
  punts    : Tab PuntRing
  /-- What left the device, newest first. -/
  out      : List Out
  /-- Flash content: 0 and 1 the firmware slots, 4 and 5 the image slots (R79). -/
  flash    : Tab (List Byte)
  /-- The ceiling store in its two sealed copies (R400); the records in force stand in EMG_CEIL and EMG_PWM. -/
  ceilA    : Tab CeilRec
  ceilB    : Tab CeilRec
  /-- Cargo of each landing slot, in the order accepted (R186). -/
  cargo    : Tab (List Acc)
  /-- The two copies of generational state, for generation 0 and generation 1 (R174). -/
  gen0     : GenCopy
  gen1     : GenCopy
  /-- The image load context (R309). -/
  siCtx    : Option SiCtx
  /-- Stored counter pairs, and the increments cached on each gallery die, key (die, index) (R354). -/
  pairs    : Tab Pair
  cache    : Tab Pair
  /-- Poisoned Granary blocks, key (table, block): base and prefix length of the range (R363). -/
  poison   : Tab (Nat × Nat)
  /-- Packets in the device, oldest first. -/
  pkts     : List Pkt
  /-- Queue and node settings; unlisted = as the queue map starts them (R369, R377). -/
  queues   : Tab QueueS
  nodes    : Tab NodeS
  /-- Gate control lists (R382). -/
  gates    : Tab Gates
  /-- SAKs of the associations, key (channel, slot) (R298). -/
  saks     : Tab (BitVec 256)
  /-- MKA peers heard, key (channel, peer number): SCI, key-server priority, still listing this participant. -/
  peers    : Tab (Nat × Nat × Bool)
  /-- Bit tables of a lane, key (lane, bank): 255 entries (R256). -/
  bits     : Tab (List Nat)
  /-- Protection banks of a lane, key (lane, bank) (R218). -/
  banks    : Tab Bank
  /-- The one-tap complex equalisers of a lane's 255 subcarriers, each coefficient as one number (R209); key (lane, 0). -/
  eqs      : Tab (List Nat)
  /-- Shaping a lane has accepted from its partner, not yet in force: taps and look-up entries (R232, R255). -/
  shapes   : Tab (List Int × List Int)
  /-- A lane's newest training message, repeated until it is acknowledged: type and body (R250). -/
  trnMsgs  : Tab (Nat × List Byte)
  /-- Coded bits of a loaded lane that wait for the next transform symbol (R277). -/
  txBits   : Tab (List Bool)
  /-- Filter-chain memory, key (site, input) (R413). -/
  chains   : Tab Chain
  /-- MON_SITE_SET by site that waits for the end of a scan: payload bytes 0x11 to 0x1B (R419). -/
  monSite  : Tab Nat
  /-- MON_SET by (site, input) that waits for a fine-output boundary (R419). -/
  monIn    : Tab Nat
  /-- Merge-buffer entries, key (controller, block): bytes covered (R455). -/
  merge    : Tab Nat
  /-- Silo pages withheld by winnowing, key (stack, page) (R460). -/
  withheld : Tab Nat
  /-- Pending PMU_RUN by group (R484). -/
  pmuRuns  : Tab PmuRun
  /-- Gleaning slices running, key (class, index x 2 + dir): 1 = a full retest of a FAILED spare (R465, R470). -/
  slices   : Tab Nat
  /-- Ticks of the errored intervals of a corridor lane that lie in its window, newest first; key (2c + d, x) (R496). -/
  errTicks : Tab (List Nat)
  /-- How many free values have been taken: the model's own (log entry 9). -/
  freeCnt  : Nat
  /-- Commands waiting, first in, first out. -/
  pending  : List Instr
  deriving DecidableEq, Repr

/-- The device serial's bytes. -/
def serialBytes : List Byte := leBytes 16 Config.serial.toNat

/-- "CL512-ENROL" (R107). -/
def txtEnrol : List Byte := [67, 76, 53, 49, 50, 45, 69, 78, 82, 79, 76]

/-- The enrolment key K_E: 48 bytes of HKDF-SHA-384 over the code, salted with the serial (R107). -/
def enrolKeyOf : BitVec 384 :=
  BitVec.ofNat 384 (leVal (Config.hkdf384 (leBytes 16 Config.enrolCode.toNat) serialBytes txtEnrol 48))

/-- The machine before the internal power-on reset is released: every field at its reset value (R10), nothing in any
list, the fuses as the part ships. What the spec gives no reset value has the value its `Fld` names (log entry 5). -/
def State.reset : State :=
  { regs := []
    rings := []
    running := []
    sessions := []
    vst := none
    vstReq := []
    vstRsp := []
    opKeys := []
    instCreds := []
    caks := []
    siVerify := []
    siDecrypt := []
    makerKey := some Config.makerKey
    enrolKey := some enrolKeyOf
    attestKey := some Config.attestKey
    audit := []
    tblSums := []
    evqs := []
    punts := []
    out := []
    flash := []
    ceilA := []
    ceilB := []
    cargo := []
    gen0 := GenCopy.cold
    gen1 := GenCopy.cold
    siCtx := none
    pairs := []
    cache := []
    poison := []
    pkts := []
    queues := []
    nodes := []
    gates := []
    saks := []
    peers := []
    bits := []
    banks := []
    eqs := []
    shapes := []
    trnMsgs := []
    txBits := []
    chains := []
    monSite := []
    monIn := []
    merge := []
    withheld := []
    pmuRuns := []
    slices := []
    errTicks := []
    freeCnt := 0
    pending := [] }

end Sys2Proof.Machine
end

