-- ==== Sys2Proof/Machine/Ops.lean ====
section
/-! DEFINITION. The named operations over the state: reading and writing one field, counters (R13), local time (R154),
event records (R148), completions (R133, R136, R147), fault recording (R445 to R451) and the audit record (R119). -/

namespace Sys2Proof.Machine

/-! ## Fields -/

/-- The value a field reads when nothing has written it: its Reset column (R10), or the rule that gives it. -/
def resetOf (f : Fld) (i : Nat) : Nat :=
  match f.reset with
  | .const v => v
  | .sliceState => if i % 136 < 128 then 0 else 1
  | .slicePos => if i % 136 < 128 then i % 136 else 0xFF
  | .ddlState => if i % 1056 < 1024 then 0 else 1
  | .ddlPos => if i % 1056 < 1024 then i % 1056 else 0x7FF
  | .monDie => if i < 32 then i / 4 else if i < 56 then 8 + (i - 32) / 6 else 12 + (i - 56) / 6
  | .txTap => if i % 15 = 3 then 256 else 0

/-- The value of field f of its part i. -/
def rd (s : State) (f : Fld) (i : Nat) : Nat :=
  match tabGet s.regs (f.id, i) with
  | some v => v
  | none => resetOf f i

/-- A field read as a truth value. -/
def flag (s : State) (f : Fld) (i : Nat) : Bool := rd s f i != 0

/-- Field f of part i set; a field keeps its width's low bits. A value equal to the reset value is not listed. -/
def wr (s : State) (f : Fld) (i : Nat) (v : Nat) : State :=
  { s with regs :=
      if v % 2 ^ f.w = resetOf f i then tabDel s.regs (f.id, i) else tabPut s.regs (f.id, i) (v % 2 ^ f.w) }

/-- Several fields set, in order. -/
def wrs (s : State) : List (Fld × Nat × Nat) → State
  | [] => s
  | e :: t => wrs (wr s e.1 e.2.1 e.2.2) t

/-- The fields of a register part set from a value laid out as the register. -/
def putFields (s : State) (fs : List Fld) (i v : Nat) : State := fs.foldl (fun t f => wr t f i (bitsOf v f.lo f.w)) s

/-- Field f of parts 0 to n-1 set to one value. -/
def wrN (s : State) (f : Fld) (v : Nat) : Nat → State
  | 0 => s
  | n + 1 => wr (wrN s f v n) f n v

/-- Field f of parts b to b+n-1 set to one value. -/
def wrFrom (s : State) (f : Fld) (b v : Nat) : Nat → State
  | 0 => s
  | n + 1 => wr (wrFrom s f b v n) f (b + n) v

/-- Field f of part i back at its reset value. -/
def unwr (s : State) (f : Fld) (i : Nat) : State := { s with regs := tabDel s.regs (f.id, i) }

/-- An operation done for each number of a list, in order. -/
def forEach (l : List Nat) (s : State) (g : Nat → State → State) : State :=
  match l with
  | [] => s
  | a :: t => forEach t (g a s) g

/-- The part of HID.SAT and HID.WRAP that belongs to part i of counter f. -/
def cntPart (f : Fld) (i : Nat) : Nat := f.id * 2 ^ 24 + i

/-- An error and event counter counts n: it stays at its maximum, and its SAT bit is set there (R13, log entry 46). -/
def bumpBy (s : State) (f : Fld) (i n : Nat) : State :=
  let v := min (rd s f i + n) (2 ^ f.w - 1)
  if v == 2 ^ f.w - 1 then wr (wr s f i v) HID.SAT (cntPart f i) 1 else wr s f i v

/-- An error and event counter counts one (R13). -/
def bump (s : State) (f : Fld) (i : Nat) : State := bumpBy s f i 1

/-- A statistics counter counts n: it wraps, and sets the sticky WRAP bit of its bank as it does (R13). What a bank is
the spec does not say: each counter is one (DESIGN CHOICE, log entry 46). -/
def stat (s : State) (f : Fld) (i n : Nat) : State :=
  let v := rd s f i + n
  if 2 ^ f.w ≤ v then wr (wr s f i v) HID.WRAP (cntPart f i) 1 else wr s f i v

/-! ## Free values -/

/-- The next free value, and the state that has taken it (log entry 9). -/
def freeNat (s : State) : Nat := Config.freeValue s.freeCnt

/-- The next draw of the DRBG (R123). -/
def freeRandom (s : State) : BitVec 256 := Config.random s.freeCnt

/-- A free value or draw is taken. -/
def took (s : State) : State := { s with freeCnt := s.freeCnt + 1 }

/-! ## Time -/

/-- Local time in 2^-40 ns (R154). -/
def fineTime (s : State) : Nat :=
  ((rd s TIM_NOW.SEC 0 * 1000000000 + rd s TIM_NOW.NS 0) * 65536 + rd s TIM_NOW.FRAC 0) * 16777216
    + rd s HID.TIM_RESID 0

/-- Local time in 2^-16 ns, as TIM_NOW shows it (R173). -/
def localTime (s : State) : Nat :=
  (rd s TIM_NOW.SEC 0 * 1000000000 + rd s TIM_NOW.NS 0) * 65536 + rd s TIM_NOW.FRAC 0

/-- Local time set, in 2^-40 ns. -/
def setFineTime (s : State) (t : Nat) : State :=
  wrs s [(HID.TIM_RESID, 0, t % 16777216), (TIM_NOW.FRAC, 0, t / 16777216 % 65536),
    (TIM_NOW.NS, 0, t / 1099511627776 % 1000000000), (TIM_NOW.SEC, 0, t / 1099511627776 / 1000000000)]

/-- Milliseconds since a tick, from the 781.25 MHz counter (R31). -/
def msSince (s : State) (tick : Nat) : Nat := (rd s HID.TICKS 0 - tick) / 781250

/-! ## Outputs -/

/-- Something leaves the device. -/
def emit (s : State) (o : Out) : State := { s with out := o :: s.out }

/-- An interrupt on a vector, by its MSI-X table entry (R131, R147): sent when neither the function nor the vector is
masked; a masked vector's pending bit is set instead. Nothing is sent while MSI-X is not enabled, or in D3hot. -/
def sendIrq (s : State) (v : Nat) : State :=
  if !flag s HID.MSIX_EN 0 || flag s HID.D3HOT 0 then s
  else if flag s HID.MSIX_FMASK 0 || flag s HID.MSIX_MASK v then wr s HID.MSIX_PEND v 1
  else emit s (.irq v (rd s HID.MSIX_ADDR v) (rd s HID.MSIX_DATA v))

/-! ## Event queues (R148, R149) -/

/-- The 32 bytes of an event record (R148). -/
def evBytes (r : EvRec) : List Byte :=
  leBytes 2 r.type ++ leBytes 2 (r.source % 4096) ++ leBytes 1 (r.cls % 4) ++ leBytes 1 (b2n r.phase) ++ leBytes 2 0
    ++ timeBytes r.time ++ (r.data ++ leBytes 14 0).take 14

/-- A queue of 2^log2 slots whose tail is one slot behind its head is full (R500). -/
def ringFull (head tail log2 : Nat) : Bool := (tail + 1) % 2 ^ log2 == head

/-- A record written at the tail of a queue that has room. -/
def evqWrite (q : EvQ) (r : EvRec) : EvQ :=
  { q with
    recs := q.recs ++ [{ r with phase := q.phase }]
    tail := (q.tail + 1) % 2 ^ q.log2
    phase := if (q.tail + 1) % 2 ^ q.log2 == 0 then !q.phase else q.phase
    owed := q.irqEn && q.held
    held := q.irqEn && (q.held || q.usec != 0) }

/-- An event goes to queue q if its mask takes the type: written to host memory, or counted lost. In D3hot no queue takes
a type, since nothing masters the bus (R152; DESIGN CHOICE, log entry 84). -/
def evqPush (s : State) (q : Nat) (r : EvRec) : State :=
  match tabGet s.evqs (q, 0) with
  | none => s
  | some e =>
    if !bitOf e.types r.type || flag s HID.D3HOT 0 then s
    else if ringFull e.head e.tail e.log2 then
      bump { s with evqs := tabPut s.evqs (q, 0) { e with lost := e.lost + 1 } } HIF_EVQ_STAT.LOST q
    else
      let s1 := emit { s with evqs := tabPut s.evqs (q, 0) (evqWrite e r) }
        (.dma (e.base + 32 * e.tail) (evBytes { r with phase := e.phase }))
      if e.irqEn && !e.held then sendIrq s1 e.vector else s1

/-! ## The performance monitor (R481 to R483) -/

/-- An occurrence of the event catalogue: its code, qualifier and amount; the role bits it is given for (0 = no role
filter applies), its master's kind and index, its traffic class, packet class and address. -/
structure PerfEv where
  code   : Nat
  qual   : Nat
  amount : Nat
  role   : Nat
  kind   : Nat
  index  : Nat
  tc     : Nat
  cls    : Nat
  addr   : Nat
  deriving DecidableEq, Repr

/-- An occurrence without a qualifier or filters. -/
def perfE (code amount : Nat) : PerfEv := ⟨code, 0, amount, 0, 0, 0, 0, 0, 0⟩

/-- The codes the catalogue gives a qualifier. -/
def perfHasQual (code : Nat) : Bool :=
  [0x02, 0x08, 0x12, 0x25, 0x34, 0x37, 0x38, 0x52, 0x53, 0x59, 0x60, 0x62, 0x77, 0x80, 0x81, 0x82, 0x83, 0x84, 0x85, 0x90,
    0x91, 0x92, 0x93, 0xA0, 0xB0].contains code

/-- Counter n counts the occurrence: its group runs, and the occurrence has its code and passes its filters (R483). -/
def perfCounts (s : State) (e : PerfEv) (n : Nat) : Bool :=
  let ck := rd s PMU_CFG.CKIND n
  let cv := rd s PMU_CFG.CVAL n
  rd s PMU_CFG.EVENT n == e.code && bitOf (rd s PMU_STATUS.RUNNING 0) (rd s PMU_CFG.GROUP n)
    && (!perfHasQual e.code || rd s PMU_CFG.QUAL n == 0xFF || rd s PMU_CFG.QUAL n == e.qual)
    && (e.role == 0 || Nat.land (rd s PMU_CFG.ROLE n) e.role != 0)
    && (rd s PMU_CFG.MKIND n == 0 || (rd s PMU_CFG.MKIND n == e.kind
      && Nat.land e.index (rd s PMU_CFG.MMASK n) == Nat.land (rd s PMU_CFG.MINDEX n) (rd s PMU_CFG.MMASK n)))
    && (ck == 0 || (ck == 1 && bitOf cv e.tc) || (ck == 2 && cv == e.cls))
    && (!flag s PMU_CFG.AEN n || (decide (rd s PMU_CFG.ADDR_LO n ≤ e.addr) && decide (e.addr ≤ rd s PMU_CFG.ADDR_HI n)))

/-- A counter would wrap by an amount. -/
def perfWraps (s : State) (n amount : Nat) : Bool := decide (2 ^ 48 ≤ rd s PMU_CTR.COUNT n + amount)

/-- Counter n counts an amount; a wrap raises OVF, saturating, and sets the counter's bit (R482). -/
def perfAdd (amount : Nat) (s : State) (n : Nat) : State :=
  let v := rd s PMU_CTR.COUNT n + amount
  let s1 := wr s PMU_CTR.COUNT n v
  if v < 2 ^ 48 then s1
  else wrs s1 [(PMU_CTR.OVF, n, min 255 (rd s PMU_CTR.OVF n + v / 2 ^ 48)), (PMU_OVF.OVF, 0, setBit (rd s PMU_OVF.OVF 0) n)]

/-- The counters that count an occurrence. -/
def perfHits (s : State) (e : PerfEv) : List Nat :=
  if rd s PMU_STATUS.RUNNING 0 == 0 then [] else (List.range 512).filter (perfCounts s e)

/-- A record sent to every event queue that takes its type. -/
def evqAll (s : State) (type source cls : Nat) (data : List Byte) : State :=
  forEach (List.range 16) s (fun q t =>
    evqPush t q ⟨type, source, cls, true, localTime s, data⟩)

/-- The COUNTER record of a wrap (R482). -/
def counterRecord (s : State) (n : Nat) : State :=
  if flag s PMU_CFG.OVF_IRQ n then evqAll s 5 0 0 (leBytes 2 n ++ leBytes 1 (rd s PMU_CTR.OVF n)) else s

/-- An occurrence reaches the counters that count it (R481, R482). -/
def perf (s : State) (e : PerfEv) : State :=
  let hits := perfHits s e
  let wraps := hits.filter (fun n => perfWraps s n e.amount)
  wraps.foldl counterRecord (hits.foldl (perfAdd e.amount) s)

/-- The host interface moves bytes: the idle window of gleaning begins anew (R468). -/
def hostDma (s : State) : State := wr s HID.IDLE_AT 0 (rd s HID.TICKS 0)

/-- Records of a type that the event queues take now. -/
def evqTakers (s : State) (type : Nat) : Nat :=
  if flag s HID.D3HOT 0 then 0
  else (s.evqs.filter (fun e => bitOf e.2.types type && !ringFull e.2.head e.2.tail e.2.log2)).length

/-- An event record goes to every queue that takes its type (R148). -/
def event (s : State) (type source cls : Nat) (data : List Byte) : State :=
  perf (perf (hostDma (evqAll s type source cls data)) { perfE 0x08 (evqTakers s type) with qual := type })
    (perfE 0x05 (32 * evqTakers s type))

/-- Bytes written to host memory (R481: DMA_BYTES); none in D3hot (R152). -/
def toHost (s : State) (addr : Nat) (bytes : List Byte) : State :=
  if flag s HID.D3HOT 0 then s else perf (hostDma (emit s (.dma addr bytes))) (perfE 0x05 bytes.length)

/-- One byte. -/
def byteOf (n : Nat) : Byte := BitVec.ofNat 8 n

/-- Bytes from numbers. -/
def bytesOf (l : List Nat) : List Byte := l.map byteOf

/-! ## Fault recording (R445 to R451) -/

/-- Rule r of the escalation rules matches a source and class (R449). -/
def escMatches (s : State) (r src cls : Nat) : Bool :=
  flag s FLT_ESC.EN r && rd s FLT_ESC.FROM r == cls
    && Nat.land src (rd s FLT_ESC.MASK r) == Nat.land (rd s FLT_ESC.SRC r) (rd s FLT_ESC.MASK r)

/-- The lowest-numbered enabled rule that matches (R449). -/
def escRule (s : State) (src cls : Nat) : Option Nat := (List.range 64).find? (fun r => escMatches s r src cls)

/-- The event brings the rule's count to N (R449). -/
def escPromotes (s : State) (rule : Option Nat) : Bool :=
  match rule with
  | none => false
  | some r => rd s FLT_ESC.N r ≤ rd s FLT_ESC.COUNT r + 1

/-- The rule counts the event: the Nth closes the window and makes the promotion (R449). -/
def escCount (s : State) (rule : Option Nat) : State :=
  match rule with
  | none => s
  | some r =>
    if escPromotes s rule then bump (wr s FLT_ESC.COUNT r 0) FLT_ESC.HITS r
    else wr s FLT_ESC.COUNT r (rd s FLT_ESC.COUNT r + 1)

/-- FAULT_N is asserted: a fatal latch, or a contained source whose subsystem FN_MASK names (R451). -/
def faultPin (s : State) : Bool :=
  flag s FLT_SUMMARY.FATAL 0 || flag s FLT_SUMMARY.THERMAL 0 ||
    s.regs.any (fun e => Nat.beq e.1.1 FLT_SRC.CLASS.id && Nat.beq e.2 2
      && flag s FLT_SRC.STICKY e.1.2 && bitOf (rd s FLT_CFG.FN_MASK 0) (e.1.2 / 256))

/-- FAULT_N follows its conditions (R451). -/
def updFaultPin (s : State) : State := wr s GLB_PIN_STAT.FAULT 0 (b2n (faultPin s))

/-- A class C record may be written: C_REC allows it, and the source wrote none in the last millisecond (R450). -/
def cRecAllowed (s : State) (src : Nat) : Bool :=
  bitOf (rd s FLT_CFG.C_REC 0) (src / 256) &&
    (rd s HID.FLT_REC_AT src == 0 || rd s HID.FLT_REC_AT src + 781250 ≤ rd s HID.TICKS 0 + 1)

/-- The class a fault event takes: 1 C, 2 K, 3 F, one higher when its rule promotes it (R449). -/
def faultClass (s : State) (src cls : Nat) : Nat :=
  cls + b2n (escPromotes s (escRule s src cls))

/-- Sticky bit, class, count and ESC of a source (R450). -/
def faultLatch (s : State) (src cls : Nat) (esc : Bool) : State :=
  bump (wrs s [(FLT_SRC.STICKY, src, 1), (FLT_SRC.CLASS, src, max (rd s FLT_SRC.CLASS src) cls),
    (FLT_SRC.ESC, src, b2n esc)]) FLT_SRC.COUNT src

/-- The FAULT record of an event, when its class and R450 call for one. -/
def faultRecord (s : State) (src cls : Nat) (esc new : Bool) (rule : Option Nat) (detail : List Byte) : State :=
  if cls == 1 && !cRecAllowed s src then s
  else
    let s1 := if cls == 1 then wr s HID.FLT_REC_AT src (rd s HID.TICKS 0 + 1) else s
    event s1 1 src (cls - 1) (bytesOf [b2n esc + 2 * b2n new, rule.getD 0xFF] ++ detail)

/-- A fault event counted, latched and recorded, with its escalation; the reaction is `raiseFault`'s. -/
def recordFault (s : State) (src cls : Nat) (detail : List Byte) : State :=
  let rule := escRule s src cls
  let esc := escPromotes s rule
  let new := !flag s FLT_SRC.STICKY src
  let c := faultClass s src cls
  let s1 := perf (escCount s rule) { perfE 0xB0 1 with qual := c }
  updFaultPin (faultRecord (faultLatch s1 src c esc) src c esc new rule detail)

/-! ## Audit record (R119) -/

/-- Bytes 0x00-0x4F of an audit entry. -/
def auditBytes (e : AuditEntry) : List Byte :=
  leBytes 8 e.seq ++ timeBytes e.time ++ leBytes 2 e.type ++
    bytesOf [e.role, e.cred, e.handle, e.opcode, e.status] ++ leBytes 7 0 ++
    (e.detail ++ leBytes 48 0).take 48

/-- The chain value before a new entry: the newest entry's, 48 zero bytes for the first. -/
def lastChain (s : State) : List Byte :=
  match s.audit.getLast? with
  | none => leBytes 48 0
  | some e => leBytes 48 e.chain.toNat

/-- An audit entry appended; a full ring loses its oldest entry, counted when it was never exported. -/
def auditAppend (raise : State → State) (s : State) (type role cred handle opcode status : Nat) (detail : List Byte) :
    State :=
  let seq := if s.audit.isEmpty then 0 else rd s SEC_AUDIT_STAT.HEAD_SEQ 0 + 1
  let e : AuditEntry := ⟨seq, localTime s, type, role, cred, handle, opcode, status, detail, 0, false⟩
  let e := { e with chain := Config.sha384 (lastChain s ++ auditBytes e) }
  let s1 := wr s SEC_AUDIT_STAT.HEAD_SEQ 0 seq
  match s.audit with
  | old :: rest =>
    if s.audit.length < 8192 then { s1 with audit := s1.audit ++ [e] }
    else
      let s2 := { s1 with audit := rest ++ [e] }
      if old.exported then s2
      else raise (bump s2 SEC_AUDIT_STAT.LOST 0)
  | [] => { s1 with audit := [e] }

/-- The first entry after cold reset is BOOT, with a random epoch and the running SVN (R119). It is written when firmware
starts, or before an earlier entry, with an SVN of 0 while no firmware runs (log entry 22). The order and widths of its
DETAIL, the 32-byte epoch and then a 4-byte SVN, are the model's (DESIGN CHOICE, log entry 85). -/
def bootFirst (raise : State → State) (s : State) : State :=
  if s.audit.isEmpty then
    auditAppend raise (took s) 1 0 0 0xFF 0 0 (leBytes 32 (freeRandom s).toNat ++ leBytes 4 (rd s HID.FW_SVN_FULL 0))
  else s

/-- An audit entry written, after the BOOT entry (R119). -/
def auditWith (raise : State → State) (s : State) (type role cred handle opcode status : Nat) (detail : List Byte) :
    State :=
  auditAppend raise (bootFirst raise s) type role cred handle opcode status detail

/-! ## Rings and completions (R131 to R137) -/

/-- Ring r. -/
def ringOf (s : State) (r : Nat) : RingS :=
  match tabGet s.rings (r, 0) with
  | some q => q
  | none => RingS.init

/-- Ring r replaced; a ring in its first state is not listed. -/
def setRing (s : State) (r : Nat) (q : RingS) : State :=
  { s with rings := if q = RingS.init then tabDel s.rings (r, 0) else tabPut s.rings (r, 0) q }

/-- log2 sizes, vector and interrupt enable of HIF_RG_SIZE (R131). -/
def RingS.sqLog2 (q : RingS) : Nat := bitsOf q.size 0 5
def RingS.cqLog2 (q : RingS) : Nat := bitsOf q.size 8 5
def RingS.vector (q : RingS) : Nat := bitsOf q.size 16 11
def RingS.irqEn (q : RingS) : Bool := bitOf q.size 31
/-- HIF_RG_IRQ.COUNT; 0 counts as 1 (DESIGN CHOICE, log entry 12). -/
def RingS.irqCount (q : RingS) : Nat := max 1 (bitsOf q.irq 0 8)

/-- Commands outstanding on a ring: fetched, completion not written (R133). -/
def outstanding (s : State) (r : Nat) : Nat :=
  (ringOf s r).accepted.length + (ringOf s r).resumed.length + (s.running.filter (fun x => x.ring == r)).length
    + (ringOf s r).cqWait.length

/-- A completion written at CQ tail; the phase inverts when the tail wraps (R133). -/
def cqWrite (q : RingS) (c : Cpl) : RingS :=
  { q with
    cq := q.cq ++ [{ c with phase := q.phase }]
    cqTail := (q.cqTail + 1) % 2 ^ q.cqLog2
    phase := if (q.cqTail + 1) % 2 ^ q.cqLog2 == 0 then !q.phase else q.phase
    batch := if c.noirq then q.batch else if q.irqEn && q.irqCount ≤ q.batch + 1 then 0 else q.batch + 1 }

/-- The completion brings the batch to COUNT: the ring interrupts (R147). -/
def cqIrq (q : RingS) (c : Cpl) : Bool := q.irqEn && !c.noirq && q.irqCount ≤ q.batch + 1

/-- Status codes of R137. -/
def Status.code : Status → Nat
  | .ok => 0
  | .denied => 1
  | .badMac => 2
  | .late => 3
  | .lateDrain => 4
  | .busy => 5
  | .noPower => 6
  | .uncorr => 7
  | .timeout => 8
  | .invalid => 9
  | .aborted => 10

/-- The 16 bytes of a completion entry (R136). -/
def cplBytes (c : Cpl) : List Byte :=
  leBytes 2 c.tag ++ leBytes 1 c.status.code
    ++ leBytes 1 (b2n c.phase + 2 * b2n c.dataValid + 4 * b2n c.woken + 8 * b2n c.tlock)
    ++ leBytes 2 c.ring ++ leBytes 2 c.detail ++ leBytes 8 c.data

/-- A completion written in host memory at CQ tail of ring r, whose state is q, with its interrupt (R133, R147). -/
def cqPut (s : State) (r : Nat) (q : RingS) (c : Cpl) : State :=
  let s1 := emit (setRing s r (cqWrite q c)) (.dma (q.cqBase + 16 * q.cqTail) (cplBytes { c with phase := q.phase }))
  let s2 := perf (hostDma s1) { perfE 0x05 16 with kind := 1, index := r }
  if cqIrq q c then sendIrq s2 q.vector else s2

/-- A completion posted: discarded after a host reset (R152), written, or held while no slot is free (R133) or the device
may not master the bus (R152). -/
def post (s : State) (r : Nat) (c : Cpl) : State :=
  let q := ringOf s r
  if q.discard then s
  else if !q.cqWait.isEmpty || ringFull q.cqHead q.cqTail q.cqLog2 || flag s HID.D3HOT 0 then
    setRing s r { q with cqWait := q.cqWait ++ [c] }
  else cqPut s r q c

/-- Held completions written while slots are free, at most n of them. -/
def drainCq (s : State) (r : Nat) : Nat → State
  | 0 => s
  | n + 1 =>
    let q := ringOf s r
    match q.cqWait with
    | [] => s
    | c :: t =>
      if ringFull q.cqHead q.cqTail q.cqLog2 || flag s HID.D3HOT 0 then s
      else drainCq (cqPut s r { q with cqWait := t } c) r n

/-- What a command answers: status, detail, result, TLOCK. -/
structure Reply where
  status : Status
  detail : Nat
  data   : Option Nat
  tlock  : Bool
  deriving DecidableEq, Repr

/-- OK with no result. -/
def rOk : Reply := ⟨.ok, 0, none, false⟩
/-- OK with a result in DATA. -/
def rData (v : Nat) : Reply := ⟨.ok, 0, some v, false⟩
/-- A status with detail 0. -/
def rStat (st : Status) : Reply := ⟨st, 0, none, false⟩
/-- INVALID with a detail. -/
def rInv (d : Nat) : Reply := ⟨.invalid, d, none, false⟩

/-- The completion entry of a reply. -/
def cplOf (r : Nat) (a : Acc) (p : Reply) : Cpl :=
  ⟨a.cmd.tag, p.status, true, p.data.isSome, a.woken, p.tlock, r, p.detail, p.data.getD 0, a.cmd.noirq⟩

/-- A ring that is DRAINING returns to UNBOUND once its last completion is written (R114). Its geometry stays, but after a
host reset (R152); an ERROR stays until the ring is bound again (R146). -/
def settleRing (s : State) (r : Nat) : State :=
  let q := ringOf s r
  if q.draining && q.accepted.isEmpty && q.resumed.isEmpty && q.cqWait.isEmpty && s.running.all (fun x => x.ring != r) then
    if q.discard then setRing s r RingS.init
    else setRing s r { q with bound := none, draining := false }
  else s

/-- A non-OK completion is counted for the next FENCE (R140), and consecutive BADMAC completions of the ring (R113). -/
def countNonOk (s : State) (r : Nat) (p : Reply) : State :=
  let q := ringOf s r
  setRing s r { q with
    nonOk := if p.status = .ok then q.nonOk else min 0xFFFF (q.nonOk + 1)
    badMac := if p.status = .badMac then q.badMac + 1 else 0 }

/-- A command completes: counted, posted, audited when an Installer's or the Maker's (R119), its ring settled. -/
def finishWith (raise : State → State) (s : State) (r : Nat) (a : Acc) (p : Reply) : State :=
  let s0 := if p.status = .ok then countNonOk s r p
    else perf (countNonOk s r p)
      { perfE 0x02 1 with qual := p.status.code, role := 2 ^ a.role / 2, kind := 1, index := r }
  let s1 := post s0 r (cplOf r a p)
  let s2 := if 2 ≤ a.role then auditWith raise s1 6 a.role a.cred a.handle a.cmd.opcode p.status.code [] else s1
  settleRing s2 r

/-- A waiting command leaves the list of running ones. -/
def dropRun (s : State) (r : Nat) (tag : Nat) : State :=
  { s with running := dropFirst (fun x => x.ring == r && x.acc.cmd.tag == tag) s.running }

/-- The front command of a ring leaves its queue: of those whose wake has ended, else of those not dispatched yet. -/
def popFront (s : State) (r : Nat) : State :=
  let q := ringOf s r
  if q.resumed.isEmpty then setRing s r { q with accepted := q.accepted.drop 1 }
  else setRing s r { q with resumed := q.resumed.drop 1 }

end Sys2Proof.Machine
end

