-- ==== Sys2Proof/Machine/Frames.lean ====
section
/-! DEFINITION. Frames and checks spelled as bits and bytes: the CRCs the rules name, the wake frame (R215, R237) and the
training frame with its message bodies (R249, R251). -/

namespace Sys2Proof.Machine

/-! ## Checks -/

/-- CRC-8 x^8 + x^2 + x + 1 over the low n bits of a word, most significant first (R215). -/
def crc8 (w : Nat) : Nat → Nat → Nat
  | 0, c => c
  | n + 1, c =>
    let b := (bitOf c 7) != (bitOf w n)
    crc8 w n (if b then Nat.xor (c * 2 % 256) 7 else c * 2 % 256)

/-- One bit into a reflected CRC register. -/
def crcBit (poly c : Nat) (b : Bool) : Nat := if (c % 2 == 1) != b then Nat.xor (c / 2) poly else c / 2

/-- One byte into a reflected CRC register, least significant bit first. -/
def crcByte (poly c : Nat) (b : Byte) : Nat := (List.range 8).foldl (fun r i => crcBit poly r (bitOf b.toNat i)) c

/-- A 32-bit reflected CRC of bytes from a register value, complemented. -/
def crcRefl (poly seed : Nat) (l : List Byte) : Nat := Nat.xor (l.foldl (crcByte poly) seed) 0xFFFFFFFF

/-- CRC-32 of IEEE 802.3. -/
def crc32 (l : List Byte) : Nat := crcRefl 0xEDB88320 0xFFFFFFFF l

/-- One bit into the CRC-16-CCITT register, x^16 + x^12 + x^5 + 1. -/
def crc16Bit (c : Nat) (b : Bool) : Nat := if bitOf c 15 != b then Nat.xor (c * 2 % 65536) 0x1021 else c * 2 % 65536

/-- CRC-16-CCITT of bytes from a register value, most significant bit first. -/
def crc16 (seed : Nat) (l : List Byte) : Nat :=
  l.foldl (fun c b => (List.range 8).foldl (fun r i => crc16Bit r (bitOf b.toNat (7 - i))) c) (seed % 65536)

/-- A list cut or filled with zeros to n bytes. -/
def padTo (n : Nat) (l : List Byte) : List Byte := (l ++ leBytes n 0).take n

/-! ## The wake frame -/

/-- The 40 bits of a wake frame, first bit most significant (R215). -/
def wakeFrame (word : Nat) : Nat := 0xAA * 2 ^ 32 + 0xE5 * 2 ^ 24 + word % 65536 * 2 ^ 8 + crc8 (word % 65536) 16 0

/-- The 80 chips of a wake frame, true = on: each bit is on then off for 1, off then on for 0 (R215, R237). -/
def wakeChips (word : Nat) : List Bool :=
  (List.range 40).flatMap (fun i => if bitOf (wakeFrame word) (39 - i) then [true, false] else [false, true])

/-- n bits of PRBS7 from a register value. The polynomial x^7 + x^6 + 1 is the published one (PRESUMED, log entry 86). -/
def prbs7 : Nat → Nat → List Bool
  | 0, _ => []
  | n + 1, r => (bitOf r 6 != bitOf r 5) :: prbs7 n (r * 2 % 128 + b2n (bitOf r 6 != bitOf r 5))

/-- The levels a lane sends for n training-format symbols of a chip: PRBS7 at -3 and +3 while on, nothing while off
(R237). -/
def chipLevels (on : Bool) (n r : Nat) : List Int := if on then (prbs7 n r).map (fun b => if b then 3 else -3) else []

/-! ## The training frame -/

/-- MARKER of a training frame (R249). -/
def trnMarker : Nat := 0x7E3CA9150F6BD248

/-- Bytes 0x08 to 0xBB of a training frame (R249). -/
def trnCore (version phase probe seq ack msg : Nat) (body fill : List Byte) : List Byte :=
  leBytes 1 version ++ leBytes 1 (phase % 8 + 8 * (probe % 4)) ++ leBytes 2 seq ++ leBytes 2 ack ++ leBytes 1 msg
    ++ leBytes 1 body.length ++ padTo 128 body ++ padTo 44 fill

/-- The 192 bytes of a training frame around its core (R249). -/
def trnFrame (core : List Byte) : List Byte := leBytes 8 trnMarker ++ core ++ leBytes 4 (crc32 core)

/-- A received frame is valid: its marker matches and its CRC checks (R249). -/
def trnValid (h : TrnHdr) (msg : Nat) (body : List Byte) : Bool :=
  h.marker.toNat == trnMarker
    && crc32 (trnCore h.version h.phase h.probe h.seq h.ack msg body h.fill) == h.crc.toNat

/-- Values of w bits packed, the first in the lowest bits (R251). -/
def packBits (w : Nat) : List Nat → Nat
  | [] => 0
  | v :: t => v % 2 ^ w + 2 ^ w * packBits w t

/-- Body of a HELLO (R251). -/
def helloBytes (b : HelloBody) : List Byte :=
  bytesOf [b.mode, b2n b.nativeCap + 2 * b2n b.loadedCap, b.minTier, b.version] ++ leBytes 4 b.serialLo
    ++ bytesOf [b.sheaf, b.lane]

/-- Body of a REPORT (R251). -/
def reportBytes (snr : Nat) (ok : Bool) (tier : Nat) : List Byte := leBytes 2 snr ++ bytesOf [b2n ok, tier]

/-- Body of a SHAPE_REQ (R251): iteration, 15 taps of 10 bits packed, 64 look-up entries. -/
def shapeReqBytes (iter : Nat) (taps lut : List Int) : List Byte :=
  bytesOf [iter, 0] ++ leBytes 22 (packBits 10 ((List.range 15).map (fun k => wrapI 10 (taps.getD k 0))))
    ++ (List.range 64).map (fun e => byteOf (wrapI 8 (lut.getD e 0)))

/-- Body of a SHAPE_ACK (R251). -/
def shapeAckBytes (iter : Nat) (accept : Bool) : List Byte := bytesOf [iter, b2n (!accept)]

/-- Body of a SHAPE_DONE (R251). -/
def shapeDoneBytes (snr : Nat) : List Byte := leBytes 2 snr

/-- Body of a BITS segment (R251): 4 bits a subcarrier, the lowest in the low nibble. -/
def bitsBytes (seg tier : Nat) (b : List Nat) : List Byte := bytesOf [seg, tier] ++ leBytes 64 (packBits 4 b)

/-- Body of a SWITCH (R251). -/
def switchBytes (last format tier : Nat) : List Byte := leBytes 2 last ++ bytesOf [format, tier]

end Sys2Proof.Machine
end

