-- ==== Sys2Proof/Machine/Wait.lean ====
section
/-! DEFINITION. Commands that wait and how they end (R137, R141), and the names of lanes and domains. -/

namespace Sys2Proof.Machine

/-- Raising a fault: source, class (1 C, 2 K, 3 F), the detail bytes of its record. -/
abbrev Raise := Nat → Nat → List Byte → State → State

/-! ## Completing waiting commands -/

/-- What a waiting BARRIER holds: handle, ID and bitmap of its set (R141). -/
def barrierSet (x : Run) : Option (Nat × Nat × Nat) :=
  match x.acc.cmd.opcode, x.phase with
  | 4, .waiting [h, id, m] => some (h, id, m)
  | _, _ => none

/-- Every ring of the set waits at its BARRIER, with nothing earlier still to complete (R141). -/
def barrierMet (s : State) (k : Nat × Nat × Nat) : Bool :=
  (bitList k.2.2 256).all (fun r =>
    (ringOf s r).resumed.isEmpty && (s.running.filter (fun x => x.ring == r)).map barrierSet == [some k])

/-- The set of barriers that is complete, if any. -/
def barrierDue (s : State) : Option (Nat × Nat × Nat) :=
  s.running.findSome? (fun x =>
    match barrierSet x with
    | some k => if barrierMet s k then some k else none
    | none => none)

/-- A set of barriers that is complete completes OK at once (R141). One completion completes one set at most. -/
def settleBarriers (raise : State → State) (s : State) : State :=
  match barrierDue s with
  | none => s
  | some k =>
    (s.running.filter (fun x => barrierSet x == some k)).foldl (fun t x =>
      finishWith raise (dropRun t x.ring x.acc.cmd.tag) x.ring x.acc rOk) s

/-- A command completes, its audit loss raised through R; a set of barriers that waited for it completes. -/
def fin (R : Raise) (s : State) (r : Nat) (a : Acc) (p : Reply) : State :=
  settleBarriers (fun t => R 0x103 1 [] t) (finishWith (fun t => R 0x103 1 [] t) s r a p)

/-- Every waiting command a test picks completes with one reply, in the order they were dispatched. -/
def completeWhere (R : Raise) (p : Run → Bool) (reply : Reply) (s : State) : State :=
  (s.running.filter p).foldl (fun t x => fin R (dropRun t x.ring x.acc.cmd.tag) x.ring x.acc reply) s

/-- A running command waits with the given opcode and data head. -/
def waitsOn (op : Nat) (head : List Nat) (x : Run) : Bool :=
  x.acc.cmd.opcode == op &&
    match x.phase with
    | .waiting ds => ds.take head.length == head
    | .waking _ => false

/-! ## Lanes -/

/-- Lane states (R241). -/
def laneDARK : Nat := 0
def laneLISTEN : Nat := 1
def laneACQUIRE : Nat := 2
def laneTRAIN : Nat := 3
def laneLIVE : Nat := 4
def laneHOLD : Nat := 5
def laneFAILED : Nat := 6

/-- The lane's state. -/
def laneSt (s : State) (l : Nat) : Nat := rd s SHF_LANE_STAT.STATE l

/-- A domain number: KIND and INDEX (R425). -/
def domId (kind index : Nat) : Nat := kind * 256 + index

/-- The power state of a domain (R444). -/
def domSt (s : State) (d : Nat) : Nat := rd s PWR_DOM.STATE d

/-- The safe state of the fatal class holds (R446, R447). -/
def isSafe (s : State) : Bool := flag s FLT_SUMMARY.FATAL 0 || flag s FLT_SUMMARY.THERMAL 0

/-- The lanes of a sheaf. -/
def sheafLanes (sh : Nat) : List Nat := (List.range 8).map (fun i => 8 * sh + i)

/-- The lanes a mask names, bit i for lane i (R242). -/
def maskLanes (sh mask : Nat) : List Nat := (bitList mask 8).map (fun i => 8 * sh + i)

end Sys2Proof.Machine
end

