-- ==== Sys2Proof/Machine/Site.lean ====
section
/-! DEFINITION. The pads of an engine site: clear codes, ceilings, load strobes, heater duties, the site states of R394
and the loss of a monitor scan (R390 to R404, R412). Channel c of site k is part 16k + c, heater h is part 8k + h. -/

namespace Sys2Proof.Machine

/-- Site states (R394). -/
def siteABSENT : Nat := 0
def siteHELD : Nat := 1
def siteRELEASED : Nat := 2
def siteLATCHED : Nat := 3

/-- The state of site k. -/
def siteSt (s : State) (k : Nat) : Nat := rd s EMG_SITE_CTRL.STATE k

/-- The largest code whose output does not exceed CEIL: code x 1.250 V x gain / 4096 against 50 uV units (R399). -/
def ceilCode (ceil : Nat) (gain2 : Bool) : Nat :=
  min 4095 (ceil * 204800 / (if gain2 then 2500000 else 1250000))

/-- The ceiling code in force on channel i. -/
def chanCeil (s : State) (i : Nat) : Nat := ceilCode (rd s EMG_CEIL.CEIL i) (flag s EMG_CEIL.GAIN2 i)

/-- Lane l names channel c as a laser channel (R404). -/
def namesLaser (s : State) (l c : Nat) : Bool :=
  (flag s EMG_ALS_LANE.A_EN l && rd s EMG_ALS_LANE.LASER_A l == c)
    || (flag s EMG_ALS_LANE.B_EN l && rd s EMG_ALS_LANE.LASER_B l == c)

/-- Channel c of site k is shut: some lane names it, and every lane that names it is in SHUT (R404). -/
def alsShut (s : State) (k c : Nat) : Bool :=
  let ls := (sheafLanes k).filter (fun l => namesLaser s l c)
  !ls.isEmpty && ls.all (fun l => rd s SHF_TX_STAT.ALS l == 1)

/-- A cause of R393 other than laser shutdown holds site k at its clear codes. -/
def siteClearCause (s : State) (k : Nat) : Bool :=
  flag s GLB_PIN_STAT.DAC_CLR 0 || isSafe s || siteSt s k == siteABSENT || siteSt s k == siteHELD

/-- Channel i forced to its clear code, without a hold (R393). -/
def toClear (s : State) (i : Nat) : State :=
  wrs s [(EMG_DAC.OUT_CODE, i, rd s EMG_CEIL.CLEAR i), (HID.EMG_PAD, i, rd s EMG_CEIL.CLEAR i),
    (EMG_DAC.CLEARED, i, 1), (EMG_DAC.HOLDING, i, 0)]

/-- The 16 channels of site k. -/
def siteChans (k : Nat) : List Nat := (List.range 16).map (fun c => 16 * k + c)

/-- Every channel of site k at its clear code. -/
def siteClear (s : State) (k : Nat) : State := forEach (siteChans k) s (fun i t => toClear t i)

/-- Every heater of site k low, its duties zero (R398). -/
def htrLow (s : State) (k : Nat) : State :=
  forEach ((List.range 8).map (fun h => 8 * k + h)) s (fun i t =>
    wrs t [(EMG_PWM.OUT_DUTY, i, 0), (HID.PWM_NEXT, i, 0), (HID.PWM_HIGH, i, 0)])

/-- A value loaded in place of a higher one is counted (R399). -/
def countClamp (R : Raise) (s : State) (k : Nat) : State :=
  R (0xC40 + k) 1 []
    (perf (wr (bump s EMG_SITE_STAT.CLAMPS k) EMG_SITE_STAT.CLAMP_EVT k 1) { perfE 0x93 1 with qual := k })

/-- OUT_CODE of channel i takes a code; a change of bits [11:8], or a hold in progress, holds the pad (R391). -/
def moveOut (s : State) (i code : Nat) : State :=
  let hold := code / 256 != rd s EMG_DAC.OUT_CODE i / 256 || flag s EMG_DAC.HOLDING i
  let s1 := wrs s [(EMG_DAC.OUT_CODE, i, code), (EMG_DAC.CLEARED, i, 0), (EMG_DAC.HOLDING, i, b2n hold)]
  if hold then s1 else wr s1 HID.EMG_PAD i code

/-- The code a load puts out on channel i: IN_CODE, or the ceiling in its place. -/
def loadCode (s : State) (i : Nat) : Nat := min (rd s EMG_DAC.IN_CODE i) (chanCeil s i)

/-- One channel at a load strobe; `again`: the tick's first load has counted its clamps. Under a clear cause the output
stays; a landing still updates OUT_CODE of a channel that laser shutdown alone holds, and the pad stays (R407). -/
def strobeChan (R : Raise) (landing again : Bool) (s : State) (k c : Nat) : State :=
  let i := 16 * k + c
  if siteClearCause s k then s
  else if alsShut s k c then (if landing then wr s EMG_DAC.OUT_CODE i (loadCode s i) else s)
  else
    let s1 := moveOut s i (loadCode s i)
    if chanCeil s i < rd s EMG_DAC.IN_CODE i && !again then countClamp R s1 k else s1

/-- One heater at a load strobe: the duty takes effect at the next period start (R398). -/
def strobeHeater (R : Raise) (again : Bool) (s : State) (k h : Nat) : State :=
  let i := 8 * k + h
  if isSafe s then s
  else
    let s1 := wr s HID.PWM_NEXT i (min (rd s EMG_PWM.IN_DUTY i) (rd s EMG_PWM.DUTY_CEIL i))
    if rd s EMG_PWM.DUTY_CEIL i < rd s EMG_PWM.IN_DUTY i && !again then countClamp R s1 k else s1

/-- Site k has been strobed on this tick. -/
def strobed (s : State) (k : Nat) : Bool := rd s HID.STROBE_AT k == rd s HID.TICKS 0 + 1

/-- A load strobe of site k (R392): nothing unless the site is RELEASED. Strobes of one tick are one load, of the input
registers as they stand last on it, counted once (R58, R193). -/
def strobe (R : Raise) (landing : Bool) (s : State) (k : Nat) : State :=
  if siteSt s k != siteRELEASED then s
  else
    let again := strobed s k
    let s0 := wr s HID.STROBE_AT k (rd s HID.TICKS 0 + 1)
    let s1 := if again then s0 else perf (bump s0 EMG_SITE_STAT.STROBES k) { perfE 0x90 1 with qual := k }
    let s2 := forEach (List.range 16) s1 (fun c t => strobeChan R landing again t k c)
    forEach (List.range 8) s2 (fun h t => strobeHeater R again t k h)

/-- A MON_SITE_SET's payload bytes 0x11 to 0x1B put in force (R419, R420). -/
def monSitePut (s : State) (k v : Nat) : State :=
  wrs s [(EMG_MON_SITE.LOWPWR, k, bitsOf v 0 1), (EMG_MON_SITE.TEV_EN, k, bitsOf v 1 1), (EMG_MON_SITE.PWM_EN, k, bitsOf v 2 1),
    (EMG_MON_SITE.PWM_EDGE, k, bitsOf v 3 1), (EMG_MON_SITE.TEV, k, bitsOf v 8 5), (EMG_MON_SITE.PWM_H, k, bitsOf v 16 3),
    (EMG_MON_SITE.DELAY_NS, k, bitsOf v 24 16), (EMG_MON_SITE.TEV_MASK, k, bitsOf v 40 16),
    (EMG_MON_SITE.PWM_MASK, k, bitsOf v 56 16), (EMG_MON_SITE.CMD_MASK, k, bitsOf v 72 16)]

/-- A MON_SITE_SET that waited for the end of the scan takes effect (R419). -/
def monSiteTake (s : State) (k : Nat) : State :=
  match tabGet s.monSite (k, 0) with
  | none => s
  | some v => monSitePut { s with monSite := tabDel s.monSite (k, 0) } k v

/-- A scan or check of site k is abandoned, and a waiting open-wire check completes ABORTED (R412, R422). -/
def monStop (R : Raise) (s : State) (k : Nat) : State :=
  completeWhere R (waitsOn 0x8B [k]) (rStat .aborted)
    (monSiteTake (wrs s [(EMG_MON_STAT.RUNNING, k, 0), (EMG_MON_STAT.PEND, k, 0), (EMG_MON_STAT.OWCHECK, k, 0),
      (HID.MON_LEFT, k, 0), (HID.MON_GROUP, k, 0)]) k)

/-- The output of a lane squelches (R234): at once for every cause but DISABLED. -/
def sqNow (s : State) (l : Nat) : State := wr s HID.SQ_OUT l 1

/-- The outputs of a sheaf's lanes squelch. -/
def sqSheaf (s : State) (k : Nat) : State := forEach (sheafLanes k) s (fun l t => sqNow t l)

/-- Site k goes to a state in which its pads are those of R53. -/
def siteToPads (R : Raise) (s : State) (k st : Nat) : State :=
  htrLow (siteClear (sqSheaf (wr (monStop R s k) EMG_SITE_CTRL.STATE k st) k) k) k

/-- Site k goes to HELD if it was RELEASED or LATCHED (R394). -/
def siteHold (R : Raise) (s : State) (k : Nat) : State :=
  if siteSt s k == siteRELEASED || siteSt s k == siteLATCHED then siteToPads R s k siteHELD else s

/-- A laser channel restored: OUT_CODE takes IN_CODE at once, clamped, unless another cause holds it (R405). -/
def laserRestore (R : Raise) (s : State) (k c : Nat) : State :=
  let i := 16 * k + c
  if siteClearCause s k || siteSt s k != siteRELEASED || alsShut s k c then s
  else
    let s1 := wr (moveOut s i (loadCode s i)) EMG_DAC.HOLDING i 1
    if chanCeil s i < rd s EMG_DAC.IN_CODE i then countClamp R s1 k else s1

/-- The laser channels lane l names, in ascending order. -/
def laserChans (s : State) (l : Nat) : List Nat := (List.range 16).filter (fun c => namesLaser s l c)

/-- Lane l changes its laser-shutdown state (R403): record, count, and its channels shut or restored (R404). -/
def setAls (R : Raise) (s : State) (l st : Nat) : State :=
  let k := l / 8
  let old := rd s SHF_TX_STAT.ALS l
  if old == st then s
  else
    let s1 := event (wr s SHF_TX_STAT.ALS l st) 3 (0x400 + k) 0 (bytesOf [0x30 + st, l % 8, k])
    if st == 1 then
      forEach (laserChans s1 l) (bump (sqNow s1 l) EMG_ALS_LANE.SHUTS l) (fun c t =>
        if alsShut t k c then toClear t (16 * k + c) else t)
    else if old == 1 then forEach (laserChans s1 l) s1 (fun c t => laserRestore R t k c)
    else s1

end Sys2Proof.Machine
end

