-- ==== Sys2Proof/Machine/Lane.lean ====
section
/-! DEFINITION. What lanes and ports share: the lane states of R241 and R244, squelch causes (R234), transmit shaping
(R230, R232), attempts (R258, R259) and the port states of R289. A fault is raised through the function passed in. -/

namespace Sys2Proof.Machine

/-- The lane sends wake frames now: it has some to send, its synthesiser is LOCKED and its laser is not shut (R238). -/
def wakeOn (s : State) (l : Nat) : Bool :=
  flag s HID.WAKE_JOB l && rd s SHF_SYN_STAT.STATE (l / 8) == 4 && rd s SHF_TX_STAT.ALS l != 1

/-- Squelch causes of a lane (R234). -/
def sqCause (s : State) (l : Nat) : Nat :=
  b2n (rd s SHF_TX_CTRL.EN l == 0) + 2 * b2n (rd s SHF_SYN_STAT.STATE (l / 8) != 4)
    + 4 * b2n (flag s SHF_TX_CTRL.FORCE_SQ l) + 8 * b2n (rd s SHF_TX_STAT.ALS l == 1)
    + 16 * b2n (flag s HID.TTX l) + 32 * b2n (rd s EMG_SITE_CTRL.STATE (l / 8) != 2)
    + 64 * b2n (isSafe s || flag s HID.SQ_SAFE (l / 8))
    + 128 * b2n ((laneSt s l == laneDARK || laneSt s l == laneLISTEN) && !wakeOn s l)

/-- The copy of generational state of generation g (R174). -/
def genOf (s : State) (g : Nat) : GenCopy := if g == 0 then s.gen0 else s.gen1

/-- The copy of the current generation (R176). -/
def curGen (s : State) : GenCopy := genOf s (rd s LND_STATUS.CUR_GEN 0)

/-- The copy of generation g replaced. -/
def setGen (s : State) (g : Nat) (c : GenCopy) : State := if g == 0 then { s with gen0 := c } else { s with gen1 := c }

/-- The port of the map that owns a lane (R286). -/
def portOfLane (c : GenCopy) (l : Nat) : Option Nat :=
  (c.ports.find? (fun e => e.1.1 ≤ l && l < e.1.1 + e.2.width)).map (·.1.1)

/-- The port map in force names port p. -/
def portDef (s : State) (p : Nat) : Option PortDef := tabGet (curGen s).ports (p, 0)

/-- The lanes of a port (R286). -/
def portLanes (p : Nat) (d : PortDef) : List Nat := (List.range d.width).map (fun i => p + i)

/-- A port's lanes do not agree with its format, or not with each other in tier (R289). -/
def portModeErr (s : State) (p : Nat) (d : PortDef) : Bool :=
  let live := (portLanes p d).filter (fun l => laneSt s l == laneLIVE)
  live.any (fun l => rd s SHF_LANE_STAT.FORMAT l != d.format) ||
    (d.format == 2 && live.any (fun l => rd s SHF_LANE_STAT.TIER l != rd s SHF_LANE_STAT.TIER (live.headD 0)))

/-- Every condition of R289 but the remote fault and ADMIN. -/
def portReady (s : State) (p : Nat) (d : PortDef) : Bool :=
  (portLanes p d).all (fun l => laneSt s l == laneLIVE) && !portModeErr s p d
    && flag s HID.PRT_DESKEW p && !flag s HID.PRT_HOLD p

/-- Payload of a loaded tier in Gbit/s (R262, R279). -/
def tierRate (t : Nat) : Nat := 200 + 50 * t

/-- PRT_STAT.RATE (R288, R301). -/
def portRate (s : State) (p : Nat) : Nat :=
  match portDef s p with
  | none => 0
  | some d =>
    if d.format == 1 then 400 * d.width
    else if d.format == 3 then 200 * d.width
    else if (portLanes p d).all (fun l => laneSt s l == laneLIVE && rd s SHF_LANE_STAT.FORMAT l == 2)
        && !portModeErr s p d then d.width * tierRate (rd s SHF_LANE_STAT.TIER p)
    else 0

/-- The state R289 gives port p: 0 ABSENT, 1 ADMIN_DOWN, 2 LOCAL_FAULT, 3 REMOTE_FAULT, 4 UP. -/
def portTarget (s : State) (p : Nat) : Nat :=
  match portDef s p with
  | none => 0
  | some d =>
    if !flag s PRT_CFG.ADMIN p then 1
    else if portReady s p d then (if flag s HID.PRT_REMOTE p then 3 else 4)
    else 2

/-- Counters of a port at zero (R289, R291, R298). -/
def portZero (s : State) (p : Nat) : State :=
  wrs s [(PRT_MAC_CNT.RX_FRAMES, p, 0), (PRT_MAC_CNT.RX_BYTES, p, 0), (PRT_MAC_CNT.TX_FRAMES, p, 0),
    (PRT_MAC_CNT.TX_BYTES, p, 0), (PRT_MAC_ERR.FCS, p, 0), (PRT_MAC_ERR.RUNT, p, 0), (PRT_MAC_ERR.OVERSIZE, p, 0),
    (PRT_MAC_ERR.CODE, p, 0), (PRT_MAC_ERR.REGROUP, p, 0), (PRT_MAC_ERR.PFC_RX, p, 0), (PRT_MAC_ERR.PFC_TX, p, 0)]

/-- Frames on their way to the MAC of a port are discarded (R289). -/
def portCut (s : State) (p : Nat) : State := { s with pkts := s.pkts.filter (fun k => k.loc != .toMac p) }

/-- An occurrence on a lane, its master the lane's port (R481). -/
def perfLane (s : State) (l code qual amount : Nat) : State :=
  perf s (match portOfLane (curGen s) l with
    | some p => { perfE code amount with qual := qual, kind := 3, index := p }
    | none => { perfE code amount with qual := qual })

/-- A port takes the state R289 gives it, with the action of its transition; `held` = the port hold begins now. -/
def portEval (R : Raise) (held : Bool) (s : State) (p : Nat) : State :=
  let old := rd s PRT_STAT.STATE p
  let new := portTarget s p
  if old == new then s
  else
    let s1 := event (wr s PRT_STAT.STATE p new) 3 (0x500 + p / 8) 0 (bytesOf [0x40 + new, p % 256, p / 256])
    if old == 0 then portZero s1 p
    else if old == 4 && new == 2 then
      let s2 := portCut (bump s1 PRT_STAT.FLAPS p) p
      if held then s2 else R (0x500 + p / 8) 1 [] s2
    else if old == 4 && new == 3 then bump s1 PRT_STAT.FLAPS p
    else s1

/-- The port of a lane takes its state anew. -/
def portOfLaneEval (R : Raise) (s : State) (l : Nat) : State :=
  match portOfLane (curGen s) l with
  | none => s
  | some p => portEval R false s p

/-- Every port of a sheaf takes its state anew. -/
def sheafPortsEval (R : Raise) (held : Bool) (s : State) (sh : Nat) : State :=
  forEach ((List.range 8).map (fun i => 8 * sh + i)) s (fun p t => portEval R held t p)

/-- What recovered-clock output r does: it runs at FREQ; while its source is lost ON_LOSS disables it, or has it hold its
last frequency (R165). -/
def rclkShow (s : State) (r : Nat) : State :=
  let run := if !flag s TIM_RCLK.EN r then 0 else if !flag s TIM_RCLK.LOST r then 1 else if flag s TIM_RCLK.ON_LOSS r then 2 else 0
  let s1 := wr s HID.RCLK_RUN r run
  if run == 1 then wr s1 HID.RCLK_HZ r (rd s TIM_RCLK.FREQ r) else s1

/-- A recovered-clock output whose lane is LIVE again has its source back (R165). -/
def rclkBack (s : State) (l : Nat) : State :=
  forEach [0, 1] s (fun r t => if rd t TIM_RCLK.SRC r == l then rclkShow (wr t TIM_RCLK.LOST r 0) r else t)

/-- The capture buffer of a lane is undefined: free values (R213, log entry 9). -/
def freeBuf (s : State) (l : Nat) : State :=
  took (forEach (List.range 256) s (fun b t => wr t SHF_RX_HISTBUF.VALUE (l * 256 + b) (freeNat s / 2 ^ (32 * b))))

/-- A running capture of a lane ends ABORTED (R213). -/
def captureAbort (s : State) (l : Nat) : State :=
  if rd s SHF_RX_CAPTURE.STAT l == 1 then freeBuf (wr s SHF_RX_CAPTURE.STAT l 3) l else s

/-- A WAKE_SEND's lanes still sending, its frames so far and its last reason, after lane bit i stops (R238). -/
def wakeRest (i reason frames : Nat) (x : Run) : RunPhase :=
  match x.phase with
  | .waiting [sh, mask, sum, _] => .waiting [sh, clrBit mask i, sum + frames, reason]
  | p => p

/-- A WAKE_SEND waits for lane l. -/
def wakeWaits (l : Nat) (x : Run) : Bool :=
  x.acc.cmd.opcode == 0x55 &&
    match x.phase with
    | .waiting [sh, mask, _, _] => sh == l / 8 && bitOf mask (l % 8)
    | _ => false

/-- The reply of a WAKE_SEND none of whose lanes sends any more (R238). -/
def wakeReply (x : Run) : Option Reply :=
  match x.phase with
  | .waiting [_, 0, sum, reason] => if x.acc.cmd.opcode == 0x55 then some ⟨.ok, reason, some sum, false⟩ else none
  | _ => none

/-- Wake sending on a lane ends for a reason (R238): 0 DURATION, 1 PARTNER, 2 STOPPED, 3 STATE. The frames sent come with
the event; where none tells them they are a free value (log entry 9). -/
def stopWake (R : Raise) (l reason : Nat) (count : Option Nat) (s : State) : State :=
  if !flag s HID.WAKE_JOB l then s
  else
    let frames := count.getD (freeNat s % 2 ^ 32)
    let s0 := emit (wr s HID.WAKE_JOB l 0) (.wake l (wakeChips (rd s HID.WAKE_WORD l)) frames)
    let s1 := bumpBy s0 SHF_TX_STAT.WAKE_FRAMES l frames
    let s2 := if count.isSome then s1 else took s1
    let s3 := { s2 with running := s2.running.map (fun x =>
      if wakeWaits l x then { x with phase := wakeRest (l % 8) reason frames x } else x) }
    match s3.running.findSome? (fun x => (wakeReply x).map (fun p => (x, p))) with
    | some (x, p) => fin R (dropRun s3 x.ring x.acc.cmd.tag) x.ring x.acc p
    | none => s3

/-- Wake sending ends on every lane of a list. -/
def stopWakes (R : Raise) (ls : List Nat) (reason : Nat) (s : State) : State :=
  forEach ls s (fun l t => stopWake R l reason none t)

/-- The window in progress is discarded, and the next one starts (R283). -/
def windowReset (s : State) (l : Nat) : State :=
  wrs s [(HID.FEC_WIN_CW, l, 0), (HID.FEC_WIN_SYM, l, 0), (HID.FEC_WIN_TAIL, l, 0), (HID.FEC_WIN_UNC, l, 0)]

/-- Clock recovery and FEC lock end with the reception of data, and the window in progress with them (R204, R283). -/
def rxUnlock (s : State) (l : Nat) : State :=
  windowReset (wrs s [(SHF_RX_CDR.LOCK, l, 0), (SHF_FEC_STAT.LOCK, l, 0), (SHF_FEC_STAT.HELD, l, 0)]) l

/-- The time a lane spends in HOLD: measured from its entry, counted in whole microseconds on every exit (R222). -/
def holdTime (s : State) (l st : Nat) : State :=
  if st == laneHOLD then wr s HID.HOLD_AT l (rd s HID.TICKS 0)
  else if laneSt s l == laneHOLD then
    bumpBy s SHF_RX_HOLD_STAT.HOLD_US l ((rd s HID.TICKS 0 - rd s HID.HOLD_AT l) * 4 / 3125)
  else s

/-- A lane changes state (R241): event record, phase, and what it means to its output (R234), its port, its capture, its
wake frames, its time in HOLD and its laser shutdown (R403). -/
def setLane (R : Raise) (s : State) (l st reason : Nat) : State :=
  if laneSt s l == st then s
  else
    let sq := if st ≤ 1 then sqNow (holdTime s l st) l else holdTime s l st
    let s0 := perfLane (wr sq SHF_LANE_STAT.STATE l st) l 0x25 st 1
    let s1 := if st == laneLIVE then rclkBack s0 l else if 3 ≤ st && st ≤ 5 then s0 else rxUnlock s0 l
    let s2 := if st == laneTRAIN then s1 else wr s1 SHF_LANE_STAT.PHASE l 7
    let s3 := captureAbort (if st == laneDARK || st == laneLISTEN then s2 else stopWake R l 3 none s2) l
    let s4 := event s3 3 (0x400 + l / 8) 0 (bytesOf [st, reason])
    portOfLaneEval R (if st == laneDARK || st == laneFAILED then setAls R s4 l 0 else s4) l

/-- Sum of the magnitudes of 15 signed taps (R230). -/
def tapSum (taps : List Int) : Nat := (taps.map Int.natAbs).foldl (· + ·) 0

/-- A tap set that may be put in force: 15 taps, magnitudes sum to 256 at most, main tap 128 at least (R230). -/
def tapsOk (taps : List Int) : Bool :=
  taps.length == 15 && tapSum taps ≤ 256 && decide (128 ≤ (taps.getD 3 0))

/-- The taps of the fixed set (R232). -/
def fixTaps (s : State) (l : Nat) : List Int :=
  (List.range 15).map (fun k => sext 10 (rd s SHF_TX_FIX_TAP.COEF (l * 15 + k)))

/-- The look-up entries of the fixed set. -/
def fixLut (s : State) (l : Nat) : List Int :=
  (List.range 64).map (fun e => sext 8 (rd s SHF_TX_FIX_LUT.OFS (l * 64 + e)))

/-- Taps and look-up entries put in force on a lane. -/
def putShape (s : State) (l : Nat) (taps lut : List Int) : State :=
  let s1 := forEach (List.range 15) s (fun k t => wr t SHF_TX_TAP.COEF (l * 15 + k) (wrapI 10 (taps.getD k 0)))
  forEach (List.range 64) s1 (fun e t => wr t SHF_TX_LUT.OFS (l * 64 + e) (wrapI 8 (lut.getD e 0)))

/-- The identity (R230, R231). -/
def identityTaps : List Int := [0, 0, 0, 256, 0, 0, 0, 0, 0, 0, 0, 0, 0, 0, 0]

/-- The fixed set put in force, or SHAPE_ERR when it breaks R230. -/
def applyFixed (s : State) (l : Nat) : State :=
  if tapsOk (fixTaps s l) then wr (putShape s l (fixTaps s l) (fixLut s l)) SHF_TX_SHAPE.SRC_NOW l 1
  else wr s SHF_TX_SHAPE.SHAPE_ERR l 1

/-- Shaping reloaded by a lane-mode change or a return to ACQUIRE (R232). -/
def reloadShape (s : State) (l : Nat) : State :=
  if flag s SHF_TX_CTRL.SHAPE_SRC l || rd s SHF_LANE_STAT.MODE l == 4 then applyFixed s l
  else wr (putShape s l identityTaps []) SHF_TX_SHAPE.SRC_NOW l 0

/-- Training state of a lane cleared: each attempt numbers its messages from 1 (R250). -/
def clearTraining (s : State) (l : Nat) : State :=
  wrs { s with shapes := tabDel s.shapes (l, 0), trnMsgs := tabDel s.trnMsgs (l, 0) } [(HID.TRN_SEQ, l, 0), (HID.TRN_ACKED, l, 0), (HID.TRN_RX, l, 0), (HID.TRN_HEARD, l, 0), (HID.TRN_MSG, l, 0),
    (HID.TRN_FLAGS, l, 0), (HID.TRN_FORMAT, l, 0), (HID.TRN_TIER, l, 0), (HID.TRN_ITER, l, 0), (HID.TRN_SNR, l, 0),
    (HID.TRN_SMALL, l, 0), (HID.TRN_BITS, l, 0), (HID.TRN_ACK_IT, l, 0), (HID.LANE_CONFIRM, l, 0),
    (HID.TRN_FRAMES, l, 0), (HID.TRN_ACCEPTED, l, 0)]

/-! ## The transmit boundary and training frames -/

/-- The fixed set is the source of shaping: SHAPE_SRC = FIXED, or standard mode (R232). -/
def fixedShape (s : State) (l : Nat) : Bool := flag s SHF_TX_CTRL.SHAPE_SRC l || rd s SHF_LANE_STAT.MODE l == 4

/-- What waits for a transmit boundary takes effect at it: a pending swing, and with APPLY the whole fixed set, together; or
the shaping accepted from the partner (R232, R233, R239). The output squelches or leaves squelch as its causes stand
(R226, R234). -/
def txBoundary (s : State) (l : Nat) : State :=
  let s1 :=
    if !flag s SHF_TX_SHAPE.PEND l then s
    else
      let t := wrs s [(SHF_TX_CTRL.SWING_NOW, l, rd s SHF_TX_CTRL.SWING l), (SHF_TX_SHAPE.PEND, l, 0), (HID.TX_APPLY, l, 0)]
      if flag s HID.TX_APPLY l && fixedShape s l then applyFixed t l else t
  let s2 := match tabGet s1.shapes (l, 0) with
    | some (taps, lut) =>
      if fixedShape s1 l then { s1 with shapes := tabDel s1.shapes (l, 0) }
      else wr (putShape { s1 with shapes := tabDel s1.shapes (l, 0) } l taps lut) SHF_TX_SHAPE.SRC_NOW l 0
    | none => s1
  wr s2 HID.SQ_OUT l (b2n (sqCause s2 l != 0))

/-- The burst that follows a training frame of this lane (R249, R254): 0 none, 1 PAM4, 2 TRANSFORM. While the format is
still to be decided, even frames carry PAM4 and odd ones TRANSFORM. -/
def probeKind (s : State) (l : Nat) : Nat :=
  let p := rd s SHF_LANE_STAT.PHASE l
  if p == 0 || 4 ≤ p then 0
  else
    match rd s HID.TRN_FORMAT l with
    | 1 => 1
    | 2 => 2
    | _ => 1 + rd s HID.TRN_FRAMES l

/-- A training frame leaves the lane at its transmit boundary, unless it is squelched (R234, R241, R249). FILL, which
receivers ignore, is a free value. -/
def trnEmit (s : State) (l type seq : Nat) (body : List Byte) : State :=
  let s1 := txBoundary s l
  if flag s1 HID.SQ_OUT l then s1
  else
    let phase := if rd s1 SHF_LANE_STAT.PHASE l == 7 then 0 else rd s1 SHF_LANE_STAT.PHASE l
    let core := trnCore 1 phase (probeKind s1 l) seq (rd s1 HID.TRN_RX l) type body (leBytes 44 (freeNat s1))
    emit (wr (took s1) HID.TRN_FRAMES l (1 - rd s1 HID.TRN_FRAMES l)) (.trn l (trnFrame core))

/-- A lane that searches for a partner of the native family sends training frames with nothing to say: SEQ and ACK are 0
(R241, R250). -/
def trnAcquire (s : State) (l : Nat) : State :=
  let m := rd s SHF_LANE_STAT.MODE l
  if laneSt s l == laneACQUIRE && 1 ≤ m && m ≤ 3 && !flag s SHF_LANE_STAT.WAIT_SYNTH l then trnEmit s l 0 0 [] else s

/-- A lane starts attempt n in ACQUIRE (R244, R245, R235, R218), with the failure reason of its event record. -/
def startFor (R : Raise) (s : State) (l n reason : Nat) : State :=
  let s1 := wrs (clearTraining s l) [(SHF_LANE_STAT.ATTEMPT, l, n), (SHF_LANE_STAT.EXHAUSTED, l, 0),
    (SHF_LANE_STAT.WAIT_SYNTH, l, b2n (rd s SHF_SYN_STAT.STATE (l / 8) != 4)), (SHF_LANE_STAT.FORMAT, l, 0),
    (SHF_RX_BANK.VALID, l, 0), (HID.TTX, l, 0), (HID.BACKOFF, l, 0), (HID.SAW_FORMAT, l, 0),
    (HID.HOLD_FAST, l, 0)]
  let s2 := reloadShape (rxUnlock (bump s1 SHF_LANE_CNT.ATTEMPTS l) l) l
  trnAcquire (setLane R s2 l laneACQUIRE reason) l

/-- A lane starts attempt n in ACQUIRE. -/
def startAttempt (R : Raise) (s : State) (l n : Nat) : State := startFor R s l n 0

/-- A failed attempt: back-off in LISTEN, or the series is exhausted (R258, R259). -/
def failAttempt (R : Raise) (s : State) (l reason : Nat) : State :=
  let sh := l / 8
  let s1 := bump (wr s SHF_LANE_STAT.REASON l reason) SHF_LANE_CNT.FAILS l
  let s2 := wrs (clearTraining s1 l) [(SHF_LANE_STAT.FORMAT, l, 0), (SHF_LANE_STAT.WAIT_SYNTH, l, 0)]
  if rd s SHF_LANE_STAT.ATTEMPT l ≤ rd s SHF_TRN_CFG.RETRIES sh then
    setLane R (wr s2 HID.BACKOFF l 1) l laneLISTEN reason
  else
    let s3 := bump (wrs s2 [(SHF_LANE_STAT.EXHAUSTED, l, 1), (HID.BACKOFF, l, 0)]) SHF_LANE_CNT.EXHAUST l
    R (0x4C0 + sh) 1 [] (setLane R s3 l laneLISTEN reason)

/-! ## What the receive chain adapts -/

/-- The receive chain of a lane runs: ACQUIRE, TRAIN, LIVE or HOLD. -/
def receiving (s : State) (l : Nat) : Bool := decide (2 ≤ laneSt s l) && decide (laneSt s l ≤ 5)

/-- n free values of w bits, from one. -/
def freeList (s : State) (n w : Nat) : List Nat := (List.range n).map (fun i => freeNat s / 2 ^ (w * i) % 2 ^ w)

/-- Peaking in force (R198): the fixed setting, or the one last chosen. -/
def peakNow (s : State) (l : Nat) : Nat :=
  if flag s SHF_RX_AFE.PEAK_AUTO l then rd s SHF_RX_AFE.PEAK_NOW l else min 24 (rd s SHF_RX_AFE.PEAK l)

/-- Peaking is being chosen: acquisition, training, or full reacquisition in HOLD (R198, R220). -/
def choosesPeak (s : State) (l : Nat) : Bool :=
  flag s SHF_RX_AFE.PEAK_AUTO l
    && (laneSt s l == 2 || laneSt s l == 3 || (laneSt s l == laneHOLD && !flag s HID.HOLD_FAST l))

/-- Gain, and peaking while it is chosen, stand at new values (R198); which ones no rule states (log entry 9). -/
def adaptAfe (s : State) (l : Nat) : State :=
  if !receiving s l then s
  else
    let s1 := took (wr s SHF_RX_AFE.VGA_NOW l (freeNat s % 73))
    if choosesPeak s l then took (wr s1 SHF_RX_AFE.PEAK_NOW l (freeNat s1 % 25)) else s1

/-- The 41-tap equaliser adapts: not in loaded mode, where it holds its state, and with FREEZE only in HOLD (R197, R206). -/
def ffeAdapts (s : State) (l : Nat) : Bool :=
  receiving s l && rd s SHF_LANE_STAT.FORMAT l != 2 && (!flag s SHF_RX_FFE.FREEZE l || laneSt s l == laneHOLD)

/-- The 41 taps and h1 put in the chain. -/
def putTaps (s : State) (l : Nat) (taps : List Nat) (h1 : Nat) : State :=
  wr (forEach (List.range 41) s (fun k t => wr t SHF_RX_FFE_TAP.COEF (41 * l + k) (taps.getD k 0))) SHF_RX_FFE.H1 l h1

/-- Taps, and h1 within 0 to 0.75, stand at new values (R206). -/
def adaptFfe (s : State) (l : Nat) : State :=
  if ffeAdapts s l then putTaps (took (took s)) l (freeList s 41 16) (freeNat (took s) % 0xC001) else s

/-- The subcarrier equalisers of loaded mode stand at new values (R209): 255 complex coefficients, each one number. -/
def adaptEqs (s : State) (l : Nat) : State :=
  if receiving s l && rd s SHF_LANE_STAT.FORMAT l == 2 then
    took { s with eqs := tabPut s.eqs (l, 0) (freeList s 255 32) }
  else s

/-- The frequency estimate of a locked clock recovery stands at a new value within 300 ppm (R204, R205). -/
def adaptCdr (s : State) (l : Nat) : State :=
  if flag s SHF_RX_CDR.LOCK l then took (wr s SHF_RX_CDR.FREQ l (wrapI 16 ((freeNat s % 60001 : Nat) - 30000))) else s

/-- Samples held at the DAC's limits since the last look are counted while the lane sends (R231). In native mode they are
counted symbol by symbol; how many there are of a transform symbol or in standard mode no rule lets one say. -/
def clipTx (s : State) (l : Nat) : State :=
  if flag s HID.SQ_OUT l || rd s SHF_LANE_STAT.FORMAT l ≤ 1 then s else took (bumpBy s SHF_TX_STAT.CLIP l (freeNat s))

/-- All that a bank holds has adapted up to now (R218). -/
def adaptAll (s : State) (l : Nat) : State := adaptCdr (adaptEqs (adaptFfe (adaptAfe s l) l) l) l

/-- What a snapshot of the lane takes (R218). -/
def bankNow (s : State) (l temp : Nat) : Bank :=
  { temp := temp, peak := peakNow s l, vga := rd s SHF_RX_AFE.VGA_NOW l,
    taps := (List.range 41).map (fun k => rd s SHF_RX_FFE_TAP.COEF (41 * l + k)), h1 := rd s SHF_RX_FFE.H1 l,
    eqs := (tabGet s.eqs (l, 0)).getD [], freq := rd s SHF_RX_CDR.FREQ l }

/-- A bank loaded into the chain: taps and h1 in native and standard mode, the subcarrier equalisers in loaded mode (R218,
R219). -/
def bankLoad (s : State) (l : Nat) (b : Bank) : State :=
  let s1 := wrs s [(SHF_RX_AFE.PEAK_NOW, l, b.peak), (SHF_RX_AFE.VGA_NOW, l, b.vga), (SHF_RX_CDR.FREQ, l, b.freq)]
  if rd s SHF_LANE_STAT.FORMAT l == 2 then { s1 with eqs := tabPut s1.eqs (l, 0) b.eqs } else putTaps s1 l b.taps b.h1

/-- The die temperature of a lane's line die, 0.125 K: its hottest valid sensor reading (R437; DEDUCED, log entry 87). -/
def laneTemp (s : State) (l : Nat) : Nat :=
  let sites := ((List.range 12).map (fun i => 12 * (l / 64) + i)).filter (fun i => !flag s PWR_THERM.SUSPECT i)
  ((sites.map (fun i => sext 16 (rd s PWR_THERM.TEMP i))).foldl max (-2185) + 2185).toNat

/-- A lane becomes FAILED: EN forced to 0, contained fault (R241, R244). -/
def failLane (R : Raise) (s : State) (l : Nat) : State :=
  let s1 := wrs (clearTraining s l) [(SHF_TX_CTRL.EN, l, 0), (SHF_LANE_STAT.FORMAT, l, 0), (HID.BACKOFF, l, 0),
    (SHF_LANE_STAT.WAIT_SYNTH, l, 0)]
  R (0x440 + l / 8) 2 [] (setLane R s1 l laneFAILED 0)

end Sys2Proof.Machine
end

