-- ==== Sys2Proof/Machine/Dom.lean ====
section
/-! DEFINITION. The power-state domains of R32 and R425: what a domain does on leaving S0 and on returning to it (R402,
R426, R427), the wake of a domain (R428, R429), residency (R433) and the holds of R88 to R90. -/

namespace Sys2Proof.Machine

def domKind (d : Nat) : Nat := d / 256
def domIdx (d : Nat) : Nat := d % 256

/-- How many domains each kind has (R425). -/
def kindCount (kind : Nat) : Nat :=
  match kind with
  | 0 => 64
  | 1 => 68
  | 2 => 32
  | 3 => 24
  | 4 => 64
  | _ => 0

/-- A domain number names a domain (R425). -/
def domValid (d : Nat) : Bool := domIdx d < kindCount (domKind d)

/-- Every domain, by number. -/
def allDoms : List Nat := (List.range 1280).filter domValid

def sheafDom (s : Nat) : Nat := domId 0 s
def galDom (g : Nat) : Nat := domId 1 g
def bankDom (b : Nat) : Nat := domId 2 b
def corDom (c : Nat) : Nat := domId 3 c
def siteDom (k : Nat) : Nat := domId 4 k

/-- The gallery die of gallery g (R16). -/
def galDie (g : Nat) : Nat := if g < 64 then g / 16 else g - 64

/-- A domain in S2 or S3, or held, gives NOPOWER (R143, R429). -/
def domAsleep (s : State) (d : Nat) : Bool := decide (2 ≤ domSt s d) || rd s PWR_DOM.HELD d != 0

/-- A change of the domain's state is in progress (R425). -/
def domChanging (s : State) (d : Nat) : Bool := rd s HID.DOM_TGT d != 0

/-! ## Cold-reset values of one domain -/

/-- How many parts of a register belong to one step of its first dimension. -/
def innerCount (r : RegSpec) : Nat := (r.dims.drop 1).foldl (fun a b => a * b.2) 1

/-- The counter a SAT or WRAP bit belongs to; every other value stands for itself (R13). -/
def ownKey (k : Key) : Key :=
  if Nat.beq k.1 HID.SAT.id || Nat.beq k.1 HID.WRAP.id then (k.2 / 2 ^ 24, k.2 % 2 ^ 24) else k

/-- A field of the list holds the value, or the counter it marks. -/
def keyOf (l : List Fld) (k : Key) : Bool := l.any (fun f => Nat.beq f.id (ownKey k).1)

/-- A stored value belongs to unit u of a register of the list and is not kept. -/
def inUnit (rs : List RegSpec) (keep : List Fld) (per u : Nat) (k : Key) : Bool :=
  rs.any (fun r => keyOf r.flds k && Nat.beq ((ownKey k).2 / innerCount r / per) u) && !keyOf keep k

/-- The registers of a block that belong to unit u go back to their reset values. -/
def resetUnit (s : State) (rs : List RegSpec) (keep : List Fld) (per u : Nat) : State :=
  { s with regs := s.regs.filter (fun e => !inUnit rs keep per u e.1) }

/-- The unregistered scalars of a lane. -/
def laneHidden : List Fld :=
  [HID.TTX, HID.BACKOFF, HID.TRN_ACK_IT, HID.SAW_FORMAT, HID.LANE_CONFIRM, HID.HOLD_FAST, HID.HOLD_BANK, HID.HOLD_VALID,
   HID.CAL_SLICE, HID.LOS_NOW, HID.TX_APPLY, HID.TRN_SEQ, HID.TRN_ACKED, HID.TRN_RX, HID.TRN_HEARD,
   HID.TRN_MSG, HID.TRN_FLAGS, HID.TRN_FORMAT, HID.TRN_TIER, HID.TRN_PMODE, HID.TRN_OWN, HID.TRN_OWN_TIER, HID.TRN_P_OK,
   HID.TRN_P_TIER, HID.TRN_ITER, HID.TRN_SNR, HID.TRN_SMALL, HID.TRN_LAST, HID.TRN_BITS, HID.BIT_BANK,
   HID.FEC_WIN_CW, HID.FEC_WIN_SYM, HID.FEC_WIN_TAIL, HID.FEC_WIN_UNC, HID.CAP_KIND, HID.HOLD_AT, HID.WAKE_WORD,
   HID.TRN_FRAMES, HID.TRN_ACCEPTED, HID.ENC_REG, HID.ENC_PUNC, HID.SCRAM, HID.AM_PAIR, HID.AM_SENT, HID.TX_TAIL,
   HID.SUPER_PH]

/-- The unregistered scalars of the lanes of a sheaf at their reset values. -/
def resetLaneHidden (s : State) (sh : Nat) : State :=
  { s with regs := s.regs.filter (fun e =>
      !(Nat.beq (e.1.2 / 8) sh && laneHidden.any (fun f => Nat.beq f.id e.1.1))) }

/-- The tables of a sheaf's lanes emptied. -/
def resetLaneTabs (s : State) (sh : Nat) : State :=
  { s with
    bits := s.bits.filter (fun e => !Nat.beq (e.1.1 / 8) sh)
    banks := s.banks.filter (fun e => !Nat.beq (e.1.1 / 8) sh)
    eqs := s.eqs.filter (fun e => !Nat.beq (e.1.1 / 8) sh)
    shapes := s.shapes.filter (fun e => !Nat.beq (e.1.1 / 8) sh)
    trnMsgs := s.trnMsgs.filter (fun e => !Nat.beq (e.1.1 / 8) sh)
    txBits := s.txBits.filter (fun e => !Nat.beq (e.1.1 / 8) sh) }

/-- The registers of sheaf sh at their cold-reset values. Lane states are the state machine's (R244), and a slice that
R203 failed stays failed until a cold reset. Wake frames that its lanes still had to send end (reason STATE, log entry
88). -/
def resetSheaf (R : Raise) (s0 : State) (sh : Nat) (keep : List Fld) : State :=
  let s := stopWakes R (sheafLanes sh) 3 s0
  let s1 := resetUnit s regsSHF (keep ++ [SHF_LANE_STAT.STATE, SHF_RX_SLICE.STATE, SHF_RX_SLICE.FAIL, SHF_RX_SLICE.POS, SHF_RX_ADC.FAILED,
    SHF_TX_STAT.ALS]) 1 sh
  let s2 := resetUnit s1 regsPRT [PRT_STAT.STATE] 8 sh
  resetLaneTabs (resetLaneHidden s2 sh) sh

/-- The registers of gallery g at their cold-reset values; its state is R340's. -/
def resetGallery (s : State) (g : Nat) : State :=
  resetUnit s regsGAL [GAL_STAT.STATE, GAL_STAT.SHEAF, GAL_STAT.SHEAF_VALID, GAL_STAT.PROFILE, GAL_STAT.PL] 1 g

/-- The registers of both directions of corridor c at their cold-reset values. -/
def resetCorridor (s : State) (c : Nat) : State :=
  let s1 := resetUnit s [reg_DDL_STAT, reg_DDL_RX_CFG, reg_DDL_CNT] [] 1 c
  let s2 := resetUnit s1 [reg_DDL_LANE] [] 2 c
  let lanes := [HID.DDL_WANT, HID.DDL_MISS]
  let dirs := [HID.DDL_FROM, HID.DDL_TO, HID.DDL_GROUPS, HID.DDL_RETRY]
  { s2 with errTicks := s2.errTicks.filter (fun e => !Nat.beq (e.1.1 / 2) c), regs := s2.regs.filter (fun e =>
      !((Nat.beq (e.1.2 / 2112) c && lanes.any (fun f => Nat.beq f.id e.1.1))
        || (Nat.beq (e.1.2 / 2) c && dirs.any (fun f => Nat.beq f.id e.1.1))) ) }

/-- The registers of the drive group of site k at their cold-reset values, but what R402 restores: the state, the codes
and the records of the ceiling store. -/
def resetDrive (s : State) (k : Nat) : State :=
  let s1 := resetUnit s (regsEMG.drop 2)
    [EMG_SITE_CTRL.STATE, EMG_DAC.IN_CODE, EMG_DAC.OUT_CODE, EMG_DAC.CLEARED, EMG_CEIL.CEIL, EMG_CEIL.CLEAR,
     EMG_CEIL.GAIN2, EMG_CEIL.REF_EXT, EMG_PWM.DUTY_CEIL] 1 k
  let s2 := forEach (List.range 8) (htrLow (wr s1 HID.PWM_PERIOD_NEXT k 3125) k) (fun h t => unwr t HID.PWM_REM (8 * k + h))
  { s2 with
    chains := s2.chains.filter (fun e => !Nat.beq e.1.1 k)
    monSite := s2.monSite.filter (fun e => !Nat.beq e.1.1 k)
    monIn := s2.monIn.filter (fun e => !Nat.beq e.1.1 k) }

/-! ## State changes -/

/-- Residency up to now is added to the state the domain leaves (R433). -/
def domAccum (s : State) (d : Nat) : State :=
  let i := 4 * d + domSt s d
  wrs s [(HID.RES_TICKS, i, rd s HID.RES_TICKS i + (rd s HID.TICKS 0 - rd s HID.DOM_SINCE d)),
    (HID.DOM_SINCE, d, rd s HID.TICKS 0)]

/-- One of the four 32-bit entry counts of a domain counts an entry; it saturates (R433). -/
def bumpEntry (s : State) (d st : Nat) : State :=
  let v := rd s PWR_RES.ENTRIES d
  if bitsOf v (32 * st) 32 == 2 ^ 32 - 1 then s else wr s PWR_RES.ENTRIES d (v + 2 ^ (32 * st))

/-- A POWER_STATE event record of domain d (R442). Its SOURCE is 0xB40 + KIND (log entry 14). -/
def domEvent (s : State) (d old new cause : Nat) : State :=
  event s 7 (0xB40 + domKind d) 0 (leBytes 2 d ++ bytesOf [old, new, cause])

/-- Domain d stands in state st. -/
def setDomSt (s : State) (d st : Nat) : State :=
  let old := domSt s d
  let s1 := bumpEntry (wr (domAccum s d) PWR_DOM.STATE d st) d st
  domEvent s1 d old st (rd s PWR_DOM.CAUSE d)

/-- A sheaf leaves S0: lanes that are not DARK enter LISTEN with their series suspended; its synthesiser is off in S2
and S3 (R224, R244, R426). -/
def sheafSleep (R : Raise) (s : State) (sh st : Nat) : State :=
  let s1 := forEach (sheafLanes sh) s (fun l t =>
    let t1 := wr t HID.WAS_AWAKE l (b2n (laneSt t l != laneDARK))
    if laneSt t l == laneDARK then t1
    else setLane R (wrs (clearTraining t1 l) [(HID.BACKOFF, l, 0), (SHF_LANE_STAT.FORMAT, l, 0),
      (SHF_LANE_STAT.WAIT_SYNTH, l, 0), (HID.HOLD_FAST, l, 0)]) l laneLISTEN 0)
  if 2 ≤ st then wr s1 SHF_SYN_STAT.STATE sh 0 else s1

/-- A synthesiser starts attempt 1 in CAL, or waits for its reference (R224). -/
def synthStart (s : State) (sh : Nat) : State :=
  if bitOf (rd s HID.REF_LINE_LOST 0) (sh / 8) then wr s SHF_SYN_STAT.STATE sh 1
  else wrs s [(SHF_SYN_STAT.STATE, sh, 2), (SHF_SYN_STAT.ATTEMPT, sh, 1)]

/-- The rate family a sheaf's lane modes call for: 1 = standard (R17, R223). -/
def famOf (s : State) (sh : Nat) : Nat := b2n ((sheafLanes sh).any (fun l => rd s SHF_LANE_STAT.MODE l == 4))

/-- A sheaf returns to S0: from S3 with cold-reset values, its lanes' modes and the family they call for apart; from S2 or
S3 with a new lock; lanes that were awake start attempt 1 of a new series (R223, R244, R426). -/
def sheafWake (R : Raise) (s : State) (sh old : Nat) : State :=
  let s1 := if old == 3 then wr (resetSheaf R s sh [SHF_LANE_STAT.MODE]) SHF_SYN_STAT.FAMILY sh (famOf s sh) else s
  let s2 := if 2 ≤ old then synthStart s1 sh else s1
  forEach (sheafLanes sh) s2 (fun l t =>
    if flag s HID.WAS_AWAKE l && laneSt t l == laneLISTEN then startAttempt R (wr t HID.WAS_AWAKE l 0) l 1 else t)

/-- The MACsec associations of line die j are erased (R295): channels 1024j to 1024j + 1023. -/
def eraseSaks (s : State) (j : Nat) : State :=
  { s with
    saks := s.saks.filter (fun e => !Nat.beq (e.1.1 / 1024) j)
    regs := s.regs.filter (fun e => !(Nat.beq e.1.1 MSC_SA.VALID.id && Nat.beq (e.1.2 / 2048) j)) }

/-- What a domain does on entering S1, S2 or S3 (R426). -/
def domSleep (R : Raise) (s : State) (d st : Nat) : State :=
  let i := domIdx d
  match domKind d with
  | 0 => sheafSleep R s i st
  | 3 =>
    if 2 ≤ st then
      let s1 := wrs s [(DDL_STAT.STATE, 2 * i, 0), (DDL_STAT.STATE, 2 * i + 1, 0)]
      if st == 3 && i < 8 then eraseSaks s1 i else s1
    else s
  | 4 =>
    if st < 2 then monStop R s i
    else
      let s0 := monStop R (if siteSt s i == siteRELEASED then wr (sqSheaf s i) EMG_SITE_CTRL.STATE i siteLATCHED else s) i
      let s1 := forEach (siteChans i) (forEach (List.range 8) s0 (fun h t => wr t HID.PWM_HIGH (8 * i + h) 0)) (fun c t =>
        wr t EMG_DAC.HOLDING c 0)
      if st == 3 then
        let s2 := resetUnit s1 [reg_EMG_MON_RES] [] 1 i
        { s2 with chains := s2.chains.filter (fun e => !Nat.beq e.1.1 i) }
      else s1
  | _ => s

/-- What a domain does on returning to S0 from state `old` (R402, R426). -/
def domWake (R : Raise) (s : State) (d old : Nat) : State :=
  let i := domIdx d
  match domKind d with
  | 0 => sheafWake R s i old
  | 1 => if old == 3 then resetGallery s i else s
  | 4 =>
    if old == 3 then
      forEach (siteChans i) (resetDrive s i) (fun c t =>
        let v := if siteSt t i == siteLATCHED then rd t HID.EMG_PAD c else rd t EMG_DAC.OUT_CODE c
        wrs t [(EMG_DAC.OUT_CODE, c, v), (EMG_DAC.IN_CODE, c, v)])
    else s
  | _ => s

/-- A corridor that returns to S0 starts blind in both directions (R492). -/
def corStart (s : State) (c : Nat) : State :=
  wrs (wr s HID.DDL_TRIES c 0) [(DDL_STAT.STATE, 2 * c, 1), (DDL_STAT.STATE, 2 * c + 1, 1),
    (DDL_STAT.ATTEMPT, 2 * c, 1), (DDL_STAT.ATTEMPT, 2 * c + 1, 1)]

/-- Place of a wake's cause in the list of R428: command, time event, pattern, activity, hall. -/
def causeRank (c : Nat) : Nat := [0, 5, 1, 3, 2, 4].getD c 5

/-- A further wake source of a domain that wakes already: it wakes once, and of the sources of one tick the first of R428's
list is its cause. -/
def wakeAgain (s : State) (d cause : Nat) : State :=
  if rd s HID.WAKE_AT d == rd s HID.TICKS 0 + 1 && decide (causeRank cause < causeRank (rd s PWR_DOM.CAUSE d)) then
    wr s PWR_DOM.CAUSE d cause
  else s

/-- A domain begins to move to a state. A domain already in a change is moved on from where that change ends (R443); one
that wakes already wakes once (R428). A move between sleep states that R427 takes through S0 is two moves. A held domain
does not move (R90, R429). -/
def domMove (s : State) (d st cause : Nat) : State :=
  let cur := domSt s d
  let s1 := wrs s [(PWR_DOM.CAUSE, d, cause), (HID.PG_TRIES, d, 0)]
  if rd s PWR_DOM.HELD d != 0 then s
  else if domChanging s d then
    if st == 0 && rd s HID.DOM_TGT d == 1 then wakeAgain s d cause else wrs s [(HID.DOM_NEXT, d, st + 1), (HID.DOM_NCAUSE, d, cause)]
  else if cur == st then s
  else if st < cur then
    let s2 := wrs s1 [(HID.DOM_TGT, d, 1), (PWR_DOM.ATTEMPT, d, 1), (HID.DOM_NEXT, d, if st == 0 then 0 else st + 1),
      (HID.DOM_NCAUSE, d, cause), (HID.WAKE_AT, d, rd s HID.TICKS 0 + 1)]
    if domKind d == 3 && 2 ≤ cur then
      corStart (if cur == 3 then resetCorridor s2 (domIdx d) else s2) (domIdx d)
    else s2
  else wr s1 HID.DOM_TGT d (st + 1)

/-- A domain is held in S3 (R88, R90, R429): 1 for a power-good, 2 for a failed wake. -/
def holdDom (R : Raise) (s : State) (d held : Nat) : State :=
  let s1 := wrs s [(HID.DOM_TGT, d, 0), (HID.DOM_NEXT, d, 0), (HID.DOM_RST, d, 0), (PWR_DOM.ATTEMPT, d, 0)]
  let s2 := if domSt s d == 3 then s1 else domSleep R s1 d 3
  wr (if domSt s2 d == 3 then s2 else setDomSt s2 d 3) PWR_DOM.HELD d held

/-- The domains of a line die: its sheaves and drive groups. -/
def lineDoms (j : Nat) : List Nat :=
  ((List.range 8).map (fun i => sheafDom (8 * j + i))) ++ (List.range 8).map (fun i => siteDom (8 * j + i))

/-- A corridor between gallery die d and hall h is not held (R21). -/
def hallPair (s : State) (d h : Nat) : Bool :=
  (List.range 2).any (fun n => rd s PWR_DOM.HELD (corDom (8 + 4 * d + 2 * h + n)) == 0)

/-- Hall 1 reaches hall 0, by way of a gallery die that has a corridor to each (R22). -/
def hall1Route (s : State) : Bool := (List.range 4).any (fun d => hallPair s d 0 && hallPair s d 1)

/-- The domains that are cut off now that corridor c is held (R21, R22, R88). -/
def behindCorridor (s : State) (c : Nat) : List Nat :=
  if c < 8 then lineDoms c
  else
    let d := (c - 8) / 4
    (if hallPair s d 0 || hallPair s d 1 then []
      else (List.range 16).map (fun i => galDom (16 * d + i)) ++ [galDom (64 + d), corDom (2 * d), corDom (2 * d + 1)]
        ++ lineDoms (2 * d) ++ lineDoms (2 * d + 1))
      ++ (if hall1Route s then [] else (List.range 16).map (fun i => bankDom (16 + i)))

/-- Hall 1 is cut off: its DRAM stacks, Silo 4 to 7 and Granary 9, are held with the die (R88, R90). -/
def cutStacks (s : State) : State :=
  if hall1Route s then s else wr (wrFrom s MEM_CTRL_STAT.STATE 4 2 4) MEM_CTRL_STAT.STATE 9 2

/-- Corridor c is held after its start failed, with the dies reachable only through it (R88, R497). -/
def holdCorridor (R : Raise) (s : State) (c : Nat) : State :=
  let s1 := wrs (holdDom R s (corDom c) 2) [(DDL_STAT.STATE, 2 * c, 5), (DDL_STAT.STATE, 2 * c + 1, 5)]
  let s2 := forEach ((behindCorridor s1 c).filter (fun d => rd s1 PWR_DOM.HELD d != 2)) s1 (fun d t => holdDom R t d 2)
  R (0xA00 + c) 2 [] (cutStacks s2)

/-- The corridor in front of a domain of a line die (R33). -/
def frontCorridor (d : Nat) : Option Nat :=
  if domKind d == 0 || domKind d == 4 then some (corDom (domIdx d / 8)) else none

end Sys2Proof.Machine
end

