-- ==== Sys2Proof/Machine/Spare.lean ====
section
/-! DEFINITION. Resources that give way to others: a gallery that fails and the fault swap (R340, R341), the abort of a
gleaning slice (R468), the replacement of a corridor lane (R496, R497), the retirement of memory (R459). -/

namespace Sys2Proof.Machine

/-! ## Gleaning slices -/

/-- Power of one slice of a class, in 0.1 W (R465). -/
def slicePower (cls : Nat) : Nat :=
  match cls with
  | 0 => 120
  | 1 => 4
  | 2 => 6
  | 3 => 15
  | _ => 5

/-- Part of DDL_LANE that target index idx of direction dir names: idx = 1056c + x (log entry 15). -/
def ddlPart (idx dir : Nat) : Nat := (2 * (idx / 1056) + dir) * 1056 + idx % 1056

/-- A slice leaves the list of running ones, with its power (R466). -/
def sliceOff (s : State) (cls k2 : Nat) : State :=
  let s1 := { s with slices := tabDel s.slices (cls, k2) }
  wrs s1 [(GLN_STAT.RUNNING, 0, rd s1 GLN_STAT.RUNNING 0 - 1),
    (GLN_STAT.SLICE_MW, 0, rd s1 GLN_STAT.SLICE_MW 0 - slicePower cls)]

/-- The resource of an aborted slice goes back to its state before the slice (R468). -/
def sliceRestore (s : State) (cls k2 : Nat) : State :=
  let idx := k2 / 2
  match cls with
  | 0 => wrs s [(GAL_STAT.STATE, idx, 1), (GLN_GAL.RESULT, idx, 3), (HID.GLN_ACC, 0, rd s HID.GLN_ACC 0 - rd s GLN_GAL.DONE idx),
    (GLN_GAL.DONE, idx, 0)]
  | 1 => if rd s SHF_RX_SLICE.STATE idx == 2 then wr s SHF_RX_SLICE.STATE idx 1 else s
  | 2 =>
    let i := ddlPart idx (k2 % 2)
    if rd s DDL_LANE.STATE i == 2 then
      wr (wr s DDL_LANE.STATE i 1) DDL_STAT.SPARES_FREE (i / 1056) (rd s DDL_STAT.SPARES_FREE (i / 1056) + 1)
    else s
  | 4 => wrs s [(HID.GLN_ACC, 0, rd s HID.GLN_ACC 0 - rd s HID.GLN_PART idx), (HID.GLN_PART, idx, 0)]
  | _ => s

/-- Where the marks of a gleaning target stand. -/
def glnMark (cls k2 : Nat) : Nat := cls * 262144 + k2

/-- A running slice aborts on a service request (R468): counted, its command completes with DATA = 2. -/
def abortSlice (R : Raise) (s : State) (cls k2 : Nat) : State :=
  match tabGet s.slices (cls, k2) with
  | none => s
  | some _ =>
    let s1 := bump (sliceRestore (sliceOff s cls k2) cls k2) GLN_CNT.ABORTS 0
    let s2 := wr s1 HID.GLN_ABORT_AT (glnMark cls k2) (rd s1 HID.TICKS 0 + 1)
    completeWhere R (fun x => waitsOn 0xA6 [cls, k2] x || waitsOn 0xA7 [cls, k2] x) (rData 2) s2

/-! ## Galleries -/

/-- A packet is in gallery g. -/
def inGallery (g : Nat) (p : Pkt) : Bool :=
  match p.loc with
  | .entry h => h == g
  | .ingress h => h == g
  | .ingressPark h => h == g
  | .ingressReorder h => h == g
  | .egress h => h == g
  | .egressPark h => h == g
  | .egressReorder h => h == g
  | _ => false

/-- A drop counted at gallery g under a code of R337. -/
def countDrop (s : State) (g code n : Nat) : State := bumpBy s GAL_DROP_CNT.COUNT (g * 256 + code) n

/-- Every packet in gallery g dropped, counted under a code; code 0 counts nowhere. -/
def dropInGallery (s : State) (g code : Nat) : State :=
  let n := (s.pkts.filter (inGallery g)).length
  let s1 := { s with pkts := s.pkts.filter (fun p => !inGallery g p) }
  if code == 0 then s1 else countDrop s1 g code n

/-- Sheaf sh is served by gallery g in both copies (R341). -/
def assignBoth (s : State) (sh : Nat) (g : Option Nat) : State :=
  { s with
    gen0 := { s.gen0 with assign := tabSet s.gen0.assign (sh, 0) g }
    gen1 := { s.gen1 with assign := tabSet s.gen1.assign (sh, 0) g } }

/-- Gallery g begins to serve sheaf sh by a fault swap (R341). -/
def galTake (R : Raise) (s : State) (sh g : Nat) : State :=
  let s1 := if rd s GAL_STAT.STATE g == 4 then abortSlice R s 0 (2 * g) else s
  let s2 := wrs s1 [(GAL_STAT.STATE, g, 2), (GAL_STAT.SHEAF, g, sh), (GAL_STAT.SHEAF_VALID, g, 1),
    (GAL_STAT.PROFILE, g, (tabGet (curGen s1).profiles (sh, 0)).getD 0), (HID.SWAP_PEND, sh, 0)]
  assignBoth (bump s2 GAL_ERR.SWAPS_IN g) sh (some g)

/-- Galleries a fault swap on die d may choose, in order: the spare if IDLE or GLEANING, then IDLE ones (R341). -/
def swapOrder (s : State) (d : Nat) : List Nat :=
  let free := fun g => rd s PWR_DOM.HELD (galDom g) == 0
  (if (rd s GAL_STAT.STATE (64 + d) == 1 || rd s GAL_STAT.STATE (64 + d) == 4) && free (64 + d) then [64 + d] else [])
    ++ ((List.range 16).map (fun i => 16 * d + i)).filter (fun g => rd s GAL_STAT.STATE g == 1 && free g)

/-- Fault swap of sheaf sh on die d: the first gallery of the order serves it, after its wake if it sleeps (R341). -/
def galSwap (R : Raise) (s : State) (sh d : Nat) : State :=
  match (swapOrder s d).filter (fun g => (List.range 64).all (fun t => rd s HID.SWAP_PEND t != g + 1)) with
  | [] => wr s HID.SWAP_PEND sh 0
  | g :: _ =>
    if domSt s (galDom g) == 0 && !domChanging s (galDom g) then galTake R s sh g
    else domMove (wr s HID.SWAP_PEND sh (g + 1)) (galDom g) 0 0

/-- A gallery fails (R340): its packets are dropped, contained fault, and its sheaf is moved if it was SERVING. -/
def galFail (R : Raise) (s : State) (g : Nat) : State :=
  let st := rd s GAL_STAT.STATE g
  if st == 0 || st == 5 then s
  else
    let sh := rd s GAL_STAT.SHEAF g
    let s0 := if st == 4 then sliceOff s 0 (2 * g) else s
    let s1 := wrs (dropInGallery s0 g 0x08) [(GAL_STAT.STATE, g, 5), (GAL_STAT.SHEAF_VALID, g, 0)]
    let s2 := if st == 2 then assignBoth s1 sh none else s1
    let s3 := R (0x600 + g) 2 [] s2
    if st == 2 && flag s GAL_CFG.AUTO_SPARE g && !isSafe s3 then galSwap R s3 sh (galDie g) else s3

/-! ## Corridor lanes -/

/-- The whole group of a lane that fails with no spare free leaves use (R497). -/
def ddlDegrade (R : Raise) (s : State) (dd x : Nat) : State :=
  let i := dd * 1056 + x
  let gs := setBit (rd s HID.DDL_GROUPS dd) (rd s DDL_LANE.POS i / 64 % 16)
  let s1 := wrs s [(DDL_LANE.STATE, i, 3), (DDL_LANE.POS, i, 0x7FF), (HID.DDL_WANT, i, 0), (HID.DDL_GROUPS, dd, gs),
    (DDL_STAT.GROUPS_OUT, dd, min 15 (popCount gs 16)), (DDL_STAT.STATE, dd, 4)]
  let s2 := R (0xA80 + dd / 2) 2 [] s1
  if popCount gs 16 == 16 then holdCorridor R s2 (dd / 2) else s2

/-- The free spare of lowest number in direction dd: a SPARE lane, else one that gleaning holds (R496, R498). -/
def ddlSpare (s : State) (dd : Nat) : Option Nat :=
  let find := fun st => (List.range 32).find? (fun n => rd s DDL_LANE.STATE (dd * 1056 + 1024 + n) == st)
  match find 1 with
  | some n => some (1024 + n)
  | none => (find 2).map (fun n => 1024 + n)

/-- The lane that waits longest to be replaced on direction dd: the lowest (R498). -/
def ddlWanted (s : State) (dd : Nat) : Option Nat :=
  (s.regs.find? (fun e => Nat.beq e.1.1 HID.DDL_WANT.id && Nat.beq (e.1.2 / 1056) dd)).map (fun e => e.1.2 % 1056)

/-- The next replacement of direction dd starts, if none runs (R496). -/
def ddlNext (R : Raise) (s : State) (dd : Nat) : State :=
  if rd s HID.DDL_FROM dd != 0 then s
  else
    match ddlWanted s dd with
    | none => s
    | some x =>
      match ddlSpare s dd with
      | none => ddlDegrade R s dd x
      | some y =>
        let s1 := if rd s DDL_LANE.STATE (dd * 1056 + y) == 2
          then abortSlice R s 2 ((dd / 2 * 1056 + y) * 2 + dd % 2) else s
        wrs s1 [(HID.DDL_WANT, dd * 1056 + x, 0), (HID.DDL_FROM, dd, x + 1), (HID.DDL_TO, dd, y + 1)]

/-- Replacement of DATA lane x of direction dd is asked for (R496). -/
def ddlReplace (R : Raise) (s : State) (dd x : Nat) : State :=
  if rd s DDL_LANE.STATE (dd * 1056 + x) != 0 || rd s HID.DDL_FROM dd == x + 1 then s
  else ddlNext R (wr s HID.DDL_WANT (dd * 1056 + x) 1) dd

/-- The DATA lane of direction dd with the most errored intervals, the lowest among equals (R448). -/
def ddlWorst (s : State) (dd : Nat) : Nat × Nat :=
  s.regs.foldl (fun best e =>
    if Nat.beq e.1.1 DDL_LANE.ERR.id && Nat.beq (e.1.2 / 1056) dd && rd s DDL_LANE.STATE e.1.2 == 0
      && best.2 < e.2 then (e.1.2 % 1056, e.2) else best) (0, 0)

/-- The corridor lane with the most errors is replaced by a spare; with no spare free nothing (R448). -/
def ddlIsolate (R : Raise) (s : State) (c : Nat) : State :=
  let a := ddlWorst s (2 * c)
  let b := ddlWorst s (2 * c + 1)
  let (dd, x) := if a.2 < b.2 then (2 * c + 1, b.1) else (2 * c, a.1)
  if c < 24 && (ddlSpare s dd).isSome then ddlReplace R s dd x else s

/-! ## Retirement -/

/-- Retire entries of stack n that are in use or being copied. -/
def retireUsed (s : State) (n x : Nat) : Bool :=
  flag s MEM_RETIRE_LIST.VALID (n * 512 + x) || flag s HID.COPY (n * 512 + x)

/-- The address is retired already, or is being copied (R459, R462). -/
def retiredAt (s : State) (n addr : Nat) : Bool :=
  (List.range 512).any (fun x => retireUsed s n x && rd s MEM_RETIRE_LIST.ADDR (n * 512 + x) == addr)

/-- A free retire entry of stack n. -/
def retireFree (s : State) (n : Nat) : Option Nat := (List.range 512).find? (fun x => !retireUsed s n x)

/-- Packets of hall h lie in Silo. -/
def siloHolds (s : State) (h : Nat) : Bool :=
  s.pkts.any (fun p => p.silo && (match p.loc with | .queue _ => p.outPort / 256 == h | _ => false))

/-- A place is put in retire entry x: a Silo page at once, or pending while it holds packet data, which no rule tells
of a page while its hall has packets in Silo (a free value); a Granary row once its copy is done (R459). -/
def retirePut (s : State) (n x kind addr : Nat) (auto : Bool) : State :=
  let i := n * 512 + x
  let s1 := wrs s [(MEM_RETIRE_LIST.KIND, i, kind), (MEM_RETIRE_LIST.ADDR, i, addr), (MEM_RETIRE_LIST.AUTO, i, b2n auto)]
  if kind == 1 then wr s1 HID.COPY i 1
  else
    let held := siloHolds s (n / 4) && freeNat s % 2 == 1
    let s2 := if siloHolds s (n / 4) then took s1 else s1
    let s3 := wrs s2 [(MEM_RETIRE_LIST.VALID, i, 1), (MEM_RETIRE_LIST.PENDING, i, b2n held),
      (MEM_CTRL_STAT.RETIRED, n, rd s2 MEM_CTRL_STAT.RETIRED n + 1)]
    if (tabGet s3.withheld (n, addr)).isSome then
      wr { s3 with withheld := tabDel s3.withheld (n, addr) } MEM_CTRL_STAT.WITHHELD n
        (rd s3 MEM_CTRL_STAT.WITHHELD n - 1)
    else s3

/-- The Silo page or Granary row of block b of stack n is retired under R448, when an entry is free. -/
def autoRetire (s : State) (n b : Nat) : State :=
  let addr := if n < 8 then b / 32 else b / 16
  if retiredAt s n addr then s
  else
    match retireFree s n with
    | none => s
    | some x => retirePut s n x (if n < 8 then 0 else 1) addr true

end Sys2Proof.Machine
end

