-- ==== Sys2Proof/Machine/Fault.lean ====
section
/-! DEFINITION. Raising a fault: recording, the isolation of promoted faults (R448) and the safe state of the fatal class
(R446, R447); completing a command and writing an audit entry with their own faults raised. -/

namespace Sys2Proof.Machine

/-- The load context is discarded: back to IDLE (R309). -/
def ctxDrop (s : State) : State :=
  wrs { s with siCtx := none } [(GLB_SI_STAT.CTX, 0, 0), (GLB_SI_STAT.LANDING, 0, 0)]

/-- The load context is bound to landing id. -/
def ctxBound (s : State) (id : Nat) : Bool :=
  match s.siCtx with
  | some x => x.landing == some id
  | none => false

/-- Landing slot n is freed with its cargo, and a load context bound to it with the slot (R309, R318). -/
def freeSlot (s : State) (n : Nat) : State :=
  let s0 := if ctxBound s (rd s LND_SLOT.ID n) then ctxDrop s else s
  let s1 := { s0 with cargo := tabDel s0.cargo (n, 0) }
  wrs s1 [(LND_SLOT.ID, n, 0), (LND_SLOT.STATE, n, 0), (LND_SLOT.OWNER, n, 0), (LND_SLOT.ASAP, n, 0),
    (LND_SLOT.GENL, n, 0), (LND_SLOT.HANDLE, n, 0), (LND_SLOT.ITEMS, n, 0), (LND_SLOT.TIME, n, 0),
    (LND_SLOT.DIGEST, n, 0), (HID.LND_ORPHAN, n, 0)]

/-- Slots that are not FREE, ascending (R184). -/
def slotsUsed (s : State) : List Nat := (List.range 64).filter (fun n => rd s LND_SLOT.STATE n != 0)

/-- Every landing that is not FREE is discarded; the load context with one bound to a landing (R318, R447). -/
def discardLandings (s : State) : State :=
  forEach (slotsUsed s) s (fun n t => freeSlot t n)

/-- The safe state of the fatal class (R446, R447): bias channels at their clear codes, heaters low, galleries halted,
landings discarded and their waiting SUBMITs ABORTED. Squelch, Silo and delivery follow the latch. -/
def enterSafe (R : Raise) (s : State) : State :=
  let s1 := updFaultPin (wr s FLT_SUMMARY.FATAL 0 1)
  let s2 := forEach (List.range 64) s1 (fun k t => htrLow (siteClear t k) k)
  let s3 := wrN (wrN s2 HID.SQ_OUT 1 512) GAL_STAT.STATE 0 68
  let s4 := stopWakes R (List.range 512) 3 s3
  completeWhere R (fun x => waitsOn 0x21 [] x || waitsOn 0x40 [1] x) (rStat .aborted) (discardLandings s4)

/-- The isolation of a promoted contained fault (R448). -/
def isolate (R : Raise) (src : Nat) (detail : List Byte) (s : State) : State :=
  let i := src % 256
  match src / 256 with
  | 0x4 => forEach (sheafLanes (i % 64)) s (fun l t => if laneSt t l == laneFAILED then t else failLane R t l)
  | 0x5 =>
    let s1 := forEach (sheafLanes (i % 64)) s (fun p t => wr t HID.PRT_HOLD p (setBit (rd t HID.PRT_HOLD p) (i / 64)))
    sheafPortsEval R true s1 (i % 64)
  | 0x6 => if i < 68 then galFail R s i else if 0x80 ≤ i && i < 0xC4 then galFail R s (i - 0x80) else s
  | 0x9 => if 0x10 ≤ i && i < 0x40 && i % 16 < 10 then autoRetire s (i % 16) (leAt detail 0 4) else s
  | 0xA => ddlIsolate R s (i % 32)
  | 0xC => siteHold R s (i % 64)
  | _ => s

/-- A fault event: recorded (R445 to R451), and the reaction of the class it takes. A contained event's own isolation is
its raiser's; a promoted one's is `isolate`. The first argument bounds how deep reactions raise further faults: no
reaction reaches the bound `raise` gives (log entry 13). -/
def raiseN : Nat → Raise
  | 0 => fun src cls detail s => recordFault s src cls detail
  | n + 1 => fun src cls detail s =>
    let c := faultClass s src cls
    let s1 := recordFault s src cls detail
    if c == 3 then (if isSafe s then updFaultPin (wr s1 FLT_SUMMARY.FATAL 0 1) else enterSafe (raiseN n) s1)
    else if c == 2 && cls == 1 then isolate (raiseN n) src detail s1
    else s1

/-- A fault event with its reaction (R446). -/
def raise : Raise := raiseN 4

/-- A corrected, contained or fatal fault without detail. -/
def faultC (src : Nat) (s : State) : State := raise src 1 [] s
def faultK (src : Nat) (s : State) : State := raise src 2 [] s
def faultF (src : Nat) (s : State) : State := raise src 3 [] s

/-- A fetch, flash access or PMBus transaction: the slices of the IDLE class abort, and the idle window begins anew
(R468). -/
def idleUse (s : State) : State :=
  hostDma ((s.slices.filter (fun e => Nat.beq e.1.1 4)).foldl (fun t e => abortSlice raise t 4 e.1.2) s)

/-- A command completes. -/
def finish (s : State) (r : Nat) (a : Acc) (p : Reply) : State := fin raise s r a p

/-- An audit entry (R119). -/
def audit (s : State) (type role cred handle opcode status : Nat) (detail : List Byte) : State :=
  auditWith (faultC 0x103) s type role cred handle opcode status detail

/-- Waiting commands a test picks complete with one reply. -/
def complete (p : Run → Bool) (reply : Reply) (s : State) : State := completeWhere raise p reply s

end Sys2Proof.Machine
end

