-- ==== Sys2Proof/Machine/Operands.lean ====
section
/-! DEFINITION. The operand forms of a command entry: fields of the payload at command-entry offsets (R134), with and
without a pointer buffer (R135), masks and bitmaps, and the place a register offset names (R142). -/

namespace Sys2Proof.Machine

/-- n bytes at a command-entry offset from 0x10 to 0x2F, least significant first (R6, R134). -/
def opd (a : Acc) (off n : Nat) : Nat := leAt a.cmd.payload (off - 0x10) n

/-- One byte at a command-entry offset. -/
def opdB (a : Acc) (off : Nat) : Nat := opd a off 1

/-- Bit k of the byte at a command-entry offset. -/
def opdBit (a : Acc) (off k : Nat) : Bool := bitOf (opdB a off) k

/-- n bytes at an offset of the pointer buffer. -/
def opdBuf (a : Acc) (off n : Nat) : Nat := leAt a.cmd.buf off n

/-- The payload bytes from one command-entry offset up to another are zero. -/
def zeroFrom (a : Acc) (lo hi : Nat) : Bool := allZero (sliceOf a.cmd.payload (lo - 0x10) (hi - lo))

/-- A table record (R356). `short` = its bytes run past the end of what carries them. -/
structure TRec where
  op     : Nat
  upsert : Bool
  cntClr : Bool
  table  : Nat
  keyLen : Nat
  action : Nat
  plen   : Nat
  prio   : Nat
  counter : Nat
  key    : List Byte
  mask   : List Byte
  data   : List Byte
  short  : Bool
  deriving DecidableEq, Repr, Inhabited

/-- Bytes of a record, padded to a multiple of 8 (R356); tern = its table is TERNARY and the record carries a mask. -/
def recSize (tern : Bool) (b : List Byte) : Nat :=
  (16 + leAt b 2 1 % 128 * (if tern then 2 else 1) + leAt b 3 1 % 128 + 7) / 8 * 8

/-- The record at the front of a byte list. -/
def recParse (tern : Bool) (b : List Byte) : TRec :=
  let k := leAt b 2 1 % 128
  let m := if tern then k else 0
  { op := leAt b 0 1 % 4, upsert := bitOf (leAt b 0 1) 2, cntClr := bitOf (leAt b 0 1) 3, table := leAt b 1 1, keyLen := k,
    action := leAt b 4 1 % 64, plen := leAt b 5 1 % 128, prio := leAt b 6 2, counter := leAt b 8 4, key := sliceOf b 16 k,
    mask := sliceOf b (16 + k) m, data := sliceOf b (16 + k + m) (leAt b 3 1 % 128), short := b.length < recSize tern b }

/-- Records one behind the other, at most n of them. -/
def recParseAll (tern : Nat → Bool) : Nat → List Byte → List TRec
  | 0, _ => []
  | n + 1, b =>
    if b.isEmpty then []
    else
      let t := tern (leAt b 1 1)
      recParse t b :: recParseAll tern n (b.drop (recSize t b))

/-- The records of a table command (R355): none for TBL_DEFAULT; an inline record is 32 bytes at most. -/
def recsOf (tern : Nat → Bool) (a : Acc) : List TRec :=
  let b := if a.cmd.ptr then a.cmd.buf else a.cmd.payload
  if a.cmd.opcode == 0x34 then []
  else if a.cmd.opcode == 0x33 then recParseAll tern (b.length / 16 + 1) b
  else [recParse (tern (leAt b 1 1)) b]

/-- The 16-byte header of a command entry as fetched (R134). -/
def headerBytes (c : Cmd) : List Byte :=
  bytesOf [c.opcode, b2n c.ptr + 2 * b2n c.wake + 4 * b2n c.stage + 8 * b2n c.noirq + 16 * c.rsvd]
    ++ leBytes 2 c.tag ++ leBytes 2 c.landing ++ leBytes 2 c.aux ++ leBytes 8 c.seq

/-- The 12-byte IV of a ring's command: HANDLE, ring, two zero bytes, sequence number (R112). -/
def cmdIv (handle ring seq : Nat) : List Byte := bytesOf [handle, ring, 0, 0] ++ leBytes 8 seq

/-- Part and byte an offset from a register's base names, from its strides and counts. -/
def locate : List (Nat × Nat) → Nat → Option (Nat × Nat)
  | [], r => some (0, r)
  | (st, n) :: t, r =>
    if r / st < n then
      match locate t (r % st) with
      | some (j, q) => some (r / st * t.foldl (fun a b => a * b.2) 1 + j, q)
      | none => none
    else none

/-- The register part, and the byte within it, at a BAR0 offset. -/
def placeIn (r : RegSpec) (off : Nat) : Option (Nat × Nat) :=
  if off < r.base then none
  else
    match locate r.dims (off - r.base) with
    | some (i, q) => if q < r.bytes then some (i, q) else none
    | none => none

/-- The register at a BAR0 offset: its description, part and byte within it; none = unmapped (R128). -/
def findReg (off : Nat) : Option (RegSpec × Nat × Nat) :=
  registers.findSome? (fun r => (placeIn r off).map (fun x => (r, x.1, x.2)))

/-- An access of a width lies within one register, at an aligned offset outside the mailbox (R142). -/
def regAccess (off width : Nat) : Option (RegSpec × Nat × Nat) :=
  if (width == 4 || width == 8) && off % width == 0 && !(0x100000 ≤ off && off < 0x101000) then
    match findReg off with
    | some (r, i, q) => if q + width ≤ r.bytes then some (r, i, q) else none
    | none => none
  else none

/-- The block of a BAR0 offset is powered by VDD_AUX: GLB, SEC, HIF, TIM, LND, FLT, PWR (R128). -/
def auxBlock (off : Nat) : Bool := off < 0x600000

/-- The power domain a BAR0 offset belongs to, if any (R128): a sheaf, a gallery, a corridor or a drive group; for the
MACsec registers of a line die, the corridor in front of it. -/
def regDom (r : RegSpec) (i : Nat) : Option Nat :=
  let u := i / ((r.dims.drop 1).foldl (fun a b => a * b.2) 1)
  if 0x1000000 ≤ r.base && r.base < 0x2000000 then some u
  else if 0x2000000 ≤ r.base && r.base < 0x2200000 then some (u / 8)
  else if 0x4000000 ≤ r.base then some (256 + u)
  else if 0x900000 < r.base && r.base < 0x9F0000 then some (1024 + u)
  else if 0xA00000 < r.base && r.base < 0xA40000 then some (768 + u)
  else if 0xA40000 ≤ r.base && r.base < 0xB00000 then some (768 + u / 2)
  else if 0xD00000 ≤ r.base && r.base < 0xE00000 then some (768 + u / 1024)
  else none

/-- The register part belongs to hall 1: its traffic-manager registers, those of its ports, and those of its DRAM stacks
(R19, R128). -/
def hall1Reg (r : RegSpec) (i : Nat) : Bool :=
  let u := i / ((r.dims.drop 1).foldl (fun a b => a * b.2) 1)
  let n := (r.dims.headD (0, 0)).2
  if 0xC00000 ≤ r.base && r.base < 0xD00000 then (n == 2 && u == 1) || (n == 512 && 256 ≤ u)
  else 0x800000 ≤ r.base && r.base < 0x900000 && n == 10 && ((4 ≤ u && u < 8) || u == 9)

/-! ## Register commands (R142) -/

/-- The offset of a REG_READ or REG_WRITE. -/
def regOff (a : Acc) : Nat := opd a 0x10 4

/-- WIDTH, MASK and VALUE of a REG_WRITE. -/
def rwWidth (a : Acc) : Nat := opdB a 0x14
def rwMask (a : Acc) : Nat := opd a 0x18 8 % 2 ^ (8 * rwWidth a)
def rwValue (a : Acc) : Nat := opd a 0x20 8

/-- The register, part and byte a register command names; none = the access checks of R142 fail. -/
def rwPlace (a : Acc) : Option (RegSpec × Nat × Nat) := regAccess (regOff a) (rwWidth a)

/-- The bits of field f that the MASK touches, at byte q of the register. -/
def fldMask (a : Acc) (q : Nat) (f : Fld) : Nat := bitsOf (rwMask a * 2 ^ (8 * q)) f.lo f.w

/-- The VALUE for field f. -/
def fldValue (a : Acc) (q : Nat) (f : Fld) : Nat := bitsOf (rwValue a * 2 ^ (8 * q)) f.lo f.w

/-- The fields of the register that the MASK touches, lowest first. -/
def touched (a : Acc) (r : RegSpec) (q : Nat) : List Fld := r.flds.filter (fun f => fldMask a q f != 0)

/-- Field f is read-only. -/
def roField (f : Fld) : Bool := f.ty = .RO || f.ty = .ROS

/-- Check 1 of R142: a role above the session's, or Role "—" on a field that is not read-only. -/
def roleFails (a : Acc) (f : Fld) : Bool := decide (a.role < f.role) || (f.role == 0 && !roField f)

/-- Status and lowest bit of the lowest field that fails one check. -/
def failBit (fs : List Fld) (bad : Fld → Bool) (st : Status) : Option Reply := (fs.find? bad).map (fun f => ⟨st, f.lo, none, false⟩)

/-- Check 4 of R113 for the target of a REG_WRITE: the field that the role lacks, if any. -/
def roleDenied (a : Acc) : Option Reply :=
  match (if a.cmd.opcode == 1 then rwPlace a else none) with
  | some (r, _, q) => failBit (touched a r q) (roleFails a) .denied
  | none => none

end Sys2Proof.Machine
end

