-- ==== Sys2Proof/Machine/Engine.lean ====
section
/-! DEFINITION. The command engine: the checks of R138, the WAKE flag (R144), staging (R185), what runs before READY
(R84), in recovery (R89) and in the safe state (R447); and the close of a session (R114). One row of the table
dispatches the front command of a ring with the row's opcode. -/

namespace Sys2Proof.Machine

/-- How a command's own rules end: completed, completed with a consequence that follows the completion, or waiting. -/
inductive Ans where
  | done (s : State) (p : Reply)
  | doneThen (s : State) (p : Reply) (k : State → State)
  | wait (s : State) (data : List Nat)

/-- What an opcode's owning chapter gives the engine. `ptr`: 0 = takes no buffer, 1 = needs one, 2 = either.
`bad`: DETAIL of a malformed payload. `targets`: the domains the command acts on. `own`: its own list of checks
replaces checks 2 to 4 of R138. `check`: its own checks, or that list. -/
structure OpSpec where
  op      : Nat
  ptr     : Nat
  stage   : Bool
  own     : Bool
  bad     : State → Acc → Option Nat
  targets : State → Acc → List Nat
  check   : State → Acc → Option Reply
  run     : Nat → Acc → State → Ans

/-- No payload is malformed. -/
def noBad : State → Acc → Option Nat := fun _ _ => none
/-- No domain is acted on. -/
def noTargets : State → Acc → List Nat := fun _ _ => []
/-- No check of its own. -/
def noCheck : State → Acc → Option Reply := fun _ _ => none

/-- A condition that makes a payload malformed, DETAIL 0. -/
def badIf (b : Bool) : Option Nat := if b then some 0 else none

/-- A condition that completes a command with INVALID. -/
def invIf (b : Bool) : Option Reply := if b then some (rInv 0) else none

/-- The first of several checks that applies. -/
def firstOf : List (Option Reply) → Option Reply
  | [] => none
  | some p :: _ => some p
  | none :: t => firstOf t

/-! ## What may run -/

/-- Every block but those of VDD_AUX is powered: bring-up has reached READY, outside STANDBY (R84, R432). -/
def powered (s : State) : Bool :=
  3 ≤ rd s GLB_BOOT_STAT.STAGE 0 && rd s GLB_BOOT_STAT.STAGE 0 < 8 && rd s PWR_STATUS.DEV_STATE 0 == 0

/-- Opcodes that complete normally in the safe state (R447). -/
def safeOp (op : Nat) : Bool :=
  [0x00, 0x02, 0x03, 0x04, 0x10, 0x11, 0x12, 0x1A, 0x1B, 0x1C, 0x36, 0x66].contains op

/-- Opcodes whose target VDD_AUX powers: those of R84's list, and commands to the HIF, FLT and PWR blocks and to the key
store. REG_READ and REG_WRITE are judged by their offset. -/
def auxOp (op : Nat) : Bool :=
  op ≤ 0x06 || (0x10 ≤ op && op ≤ 0x1F) || (0x20 ≤ op && op ≤ 0x23) || (0xC0 ≤ op && op ≤ 0xC4)
    || [0x47, 0x48, 0x5F, 0x7E, 0x7F, 0x93, 0x94, 0x95, 0x96, 0xA0, 0xAA].contains op

/-- The command's target needs a block that VDD_AUX does not power. -/
def needsPower (a : Acc) : Bool :=
  if a.cmd.opcode == 1 || a.cmd.opcode == 2 then !auxBlock (regOff a) else !auxOp a.cmd.opcode

/-! ## Check 1 of R138 -/

/-- The command's TAG equals that of an outstanding command of the ring (R138). Of commands in the ring's queue, only
those ahead of it count: it is the front one. -/
def dupTag (s : State) (r : Nat) (a : Acc) : Bool :=
  s.running.any (fun x => x.ring == r && x.acc.cmd.tag == a.cmd.tag)
    || (ringOf s r).resumed.any (fun x => x.cmd.tag == a.cmd.tag)
    || (ringOf s r).cqWait.any (fun c => c.tag == a.cmd.tag)

/-- Bytes 0x10 to 0x1B of a command with a pointer buffer (R135): an 8-byte aligned address, and a length of 8 bytes to
16 MiB, which is that of the buffer the device fetched. -/
def ptrOk (c : Cmd) : Bool :=
  leAt c.payload 0 8 % 8 == 0 && 8 ≤ leAt c.payload 8 4 && leAt c.payload 8 4 ≤ 2 ^ 24
    && c.buf.length == leAt c.payload 8 4

/-- Check 1 of R138. -/
def check1 (o : OpSpec) (s : State) (r : Nat) (a : Acc) : Option Reply :=
  let c := a.cmd
  if c.rsvd != 0 || (!c.stage && c.landing != 0) || (c.ptr && o.ptr == 0) || (!c.ptr && o.ptr == 1)
      || (c.ptr && !ptrOk c) then some (rInv 0)
  else if dupTag s r a then some (rInv 0xFFFF)
  else (o.bad s a).map rInv

/-! ## Check 2 of R138 and the WAKE flag -/

/-- The domains a command needs in S0 or S1: each target and the corridor in front of it (R33, R144). -/
def pathOf (ds : List Nat) : List Nat :=
  ds.flatMap (fun d => match frontCorridor d with
    | some c => [c, d]
    | none => [d])

/-- Opcodes that answer BUSY by their own rules while bring-up goes on: table commands that are not staged, SI_OPEN,
MEM_RETIRE (R84, R309, R345, R459). -/
def bringUpBusy (s : State) (a : Acc) : Bool :=
  rd s PWR_STATUS.DEV_STATE 0 == 0
    && ((0x30 ≤ a.cmd.opcode && a.cmd.opcode ≤ 0x39 && !a.cmd.stage) || a.cmd.opcode == 0x40 || a.cmd.opcode == 0xA1)

/-- A register command to hall 1, while hall 1 is held with the corridors that join it (R22, R88). -/
def hallOff (s : State) (off : Nat) : Bool :=
  match findReg off with
  | some (r, i, _) => hall1Reg r i && !hall1Route s
  | none => false

/-- The command needs a block that is not yet powered: NOPOWER, and WAKE has no effect before READY (R84); from STANDBY
WAKE brings the device back (R432). -/
def unpowered (s : State) (a : Acc) : Bool :=
  ((a.cmd.opcode == 1 || a.cmd.opcode == 2) && hallOff s (regOff a)) ||
    (needsPower a && !powered s && !bringUpBusy s a && !(rd s PWR_STATUS.DEV_STATE 0 == 1 && a.cmd.wake))

/-- Check 2 of R138: a target, or a corridor in front of it, in S2 or S3 without WAKE; a domain held under the
wake-failure rule always (R429); a block that is not yet powered (R84). -/
def check2 (o : OpSpec) (s : State) (a : Acc) : Option Reply :=
  let path := pathOf (o.targets s a)
  if unpowered s a then some (rStat .noPower)
  else if path.any (fun d => rd s PWR_DOM.HELD d == 2) then some (rStat .noPower)
  else if !a.cmd.wake && path.any (fun d => domAsleep s d) then some (rStat .noPower)
  else none

/-- What the WAKE flag must bring to S0: the device out of STANDBY (named 0xFFFF), then the sleeping domains (R144,
R432). -/
def wakeList (o : OpSpec) (s : State) (a : Acc) : List Nat :=
  if !a.cmd.wake then []
  else
    (if rd s PWR_STATUS.DEV_STATE 0 == 1 then [0xFFFF] else [])
      ++ (pathOf (o.targets s a)).filter (fun d => domSt s d != 0 || rd s PWR_DOM.HELD d == 1)

/-- The blocks come back from STANDBY with their cold-reset values: every domain that no failed wake holds in S0, every
lane DARK (R86, R432). -/
def standbyBack (s : State) : State :=
  let s1 := forEach (List.range 512) s (fun l t => setLane raise (wr t HID.WAS_AWAKE l 0) l laneDARK 0)
  let s2 := forEach (List.range 64) s1 (fun k t => siteClear (resetDrive (resetSheaf raise t k []) k) k)
  let s3 := forEach (List.range 68) s2 (fun g t => resetGallery t g)
  let s4 := forEach (List.range 24) s3 (fun c t => resetCorridor t c)
  forEach (allDoms.filter (fun d => rd s PWR_DOM.HELD d != 2)) s4 (fun d t =>
    setDomSt (wrs t [(PWR_DOM.HELD, d, 0), (PWR_DOM.CAUSE, d, 0), (PWR_DOM.TEV_EN, d, 0)]) d 0)

/-- The device leaves STANDBY: bring-up goes on at step 7 of R82 (R432). -/
def leaveStandby (s0 : State) (cause : Nat) : State :=
  if rd s0 PWR_STATUS.DEV_STATE 0 == 1 then
    let s := standbyBack s0
    event (wrs s [(PWR_STATUS.DEV_STATE, 0, 0), (GLB_BOOT_STAT.STAGE, 0, 1), (GLB_BOOT_STAT.FILL_DONE, 0, 0),
      (HID.BOOT_STEP, 0, 6), (HID.PLL_TRIES, 0, 0), (HID.STBY_TEV_EN, 0, 0), (HID.BOOT_LOADED, 0, 0)]) 7 0xB00 0 (bytesOf [0xFF, 0xFF, 1, 0, cause])
  else s0

/-- The wake of the first domain of a list begins. -/
def wakeFirst (s : State) (ds : List Nat) : State :=
  match ds with
  | [] => s
  | d :: _ =>
    if d == 0xFFFF then leaveStandby s 0
    else if rd s PWR_DOM.HELD d == 1 then s
    else domMove s d 0 0

/-! ## Staging (R185 to R187) -/

/-- The slot, not FREE, that holds a landing ID. -/
def slotOf (s : State) (id : Nat) : Option Nat :=
  (List.range 64).find? (fun n => rd s LND_SLOT.STATE n != 0 && rd s LND_SLOT.ID n == id)

/-- Cargo of slot n. -/
def cargoOf (s : State) (n : Nat) : List Acc := (tabGet s.cargo (n, 0)).getD []

/-- A table item of a cargo. -/
def tableItem (a : Acc) : Bool := 0x30 ≤ a.cmd.opcode && a.cmd.opcode ≤ 0x3F

/-- Table t is TERNARY in the current copy. -/
def isTern (s : State) (t : Nat) : Bool := (tabGet (curGen s).tables (t, 0)).any (fun d => d.kind == 3)

/-- Records a table item has for one table. -/
def itemEntries (s : State) (t : Nat) (a : Acc) : Nat := ((recsOf (isTern s) a).filter (fun r => r.table == t)).length

/-- A table item names table t. -/
def itemNames (s : State) (t : Nat) (a : Acc) : Bool :=
  tableItem a && (if a.cmd.opcode == 0x34 then opdB a 0x10 == t else (recsOf (isTern s) a).any (fun r => r.table == t))

/-- The entry a record's key names: by prefix, by key, by key and mask. -/
def sameKey (d : TableDef) (r : TRec) (e : Entry) : Bool :=
  e.table == r.table && e.key == r.key && (d.kind != 1 || e.plen == r.plen) && (d.kind != 3 || e.mask == r.mask)

/-- Table records of the landings that drain. -/
def drainRecs (s : State) : List TRec :=
  (((List.range 64).filter (fun n => rd s LND_SLOT.STATE n == 4)).flatMap (cargoOf s)).flatMap (fun a =>
    if tableItem a then recsOf (isTern s) a else [])

/-- Old copies of table t that the records of a draining landing left in the old generation (R187, R360). -/
def oldCopies (s : State) (t : Nat) : Nat :=
  match tabGet (curGen s).tables (t, 0) with
  | none => 0
  | some d =>
    ((genOf s (1 - rd s LND_STATUS.CUR_GEN 0)).entries.filter (fun e => e.table == t && (drainRecs s).any (sameKey d · e))).length

/-- Staged entries of one table over all landings until each reports DRAINED, with the old copies a drain still holds
(R187). -/
def stagedEntries (s : State) (t : Nat) : Nat :=
  (s.cargo.flatMap (fun e => e.2)).foldl (fun n a => if tableItem a then n + itemEntries s t a else n) 0 + oldCopies s t

/-- Live entries of a table in a copy. -/
def liveEntries (c : GenCopy) (t : Nat) : Nat := (c.entries.filter (fun e => e.table == t)).length

/-- Staging an item would pass the limits of R360 for table t. -/
def tableFull (s : State) (a : Acc) (e : Key × TableDef) : Bool :=
  let n := itemEntries s e.1.1 a
  let staged := stagedEntries s e.1.1 + n
  n != 0 && (e.2.capacity < 4 * staged || e.2.capacity < liveEntries (curGen s) e.1.1 + staged)

/-- The cargo limits of R187 and R360 would be passed by one more item of slot n. -/
def cargoFull (s : State) (n : Nat) (a : Acc) : Bool :=
  if tableItem a then (curGen s).tables.any (tableFull s a)
  else
    65536 ≤ ((cargoOf s n).filter (fun x => !tableItem x)).length
      || 262144 ≤ ((s.cargo.flatMap (fun e => e.2)).filter (fun x => !tableItem x)).length

/-- The checks of R185 before the opcode's own. -/
def stageCheck (o : OpSpec) (s : State) (a : Acc) : Option Reply :=
  match slotOf s a.cmd.landing with
  | none => some (rInv 0)
  | some n =>
    if rd s LND_SLOT.STATE n != 1 then some (rInv 0)
    else if rd s LND_SLOT.HANDLE n != a.handle then some (rStat .denied)
    else if !o.stage then some (rInv 0)
    else if cargoFull s n a then some (rStat .busy)
    else none

/-- The TABLE_SUMMARY entry of a window (R119): table, command count, entry count, digest of the payloads. The widths and
places of the four in DETAIL (2, 4 and 4 bytes, 6 zero bytes, 32 bytes), and that each command's payload is hashed
followed by its buffer, are the model's (DESIGN CHOICE, log entry 85). -/
def writeSummary (s : State) (h t : Nat) (w : TblSum) : State :=
  let (role, cred) := match tabGet s.sessions (h, 0) with
    | some x => (x.role, x.cred)
    | none => (1, 0)
  audit { s with tblSums := tabDel s.tblSums (h, t) } 0xD role cred h 0 0
    (leBytes 2 t ++ leBytes 4 w.cmds ++ leBytes 4 w.entries ++ leBytes 6 0
      ++ (leBytes 48 (Config.sha384 w.bytes).toNat).take 32)

/-- A TABLE_SUMMARY window is over after 1 s (R119). -/
def sumOver (s : State) (w : TblSum) : Bool := decide (w.start + 781250000 ≤ rd s HID.TICKS 0)

/-- The windows that are over are written (R119). -/
def flushOver (s : State) : State :=
  (s.tblSums.filter (fun e => sumOver s e.2)).foldl (fun t e => writeSummary t e.1.1 e.1.2 e.2) s

/-- An Operator's table command has changed, or staged a change of, table t: it joins the window of its session and table,
a new one when the last is over (R119). -/
def sumNote (s : State) (a : Acc) (t n : Nat) : State :=
  if a.role != 1 then s
  else
    let s1 := flushOver s
    let w := (tabGet s1.tblSums (a.handle, t)).getD ⟨rd s1 HID.TICKS 0, 0, 0, []⟩
    let v : TblSum := ⟨w.start, w.cmds + 1, w.entries + n, w.bytes ++ a.cmd.payload ++ a.cmd.buf⟩
    { s1 with tblSums := tabPut s1.tblSums (a.handle, t) v }

/-- The tables a table command names, each once. -/
def itemTables (s : State) (a : Acc) : List Nat :=
  if a.cmd.opcode == 0x34 || a.cmd.opcode == 0x38 then [opdB a 0x10] else ((recsOf (isTern s) a).map (·.table)).dedup

/-- A table command is noted for each table it names. -/
def sumNoteAll (s : State) (a : Acc) : State :=
  (itemTables s a).foldl (fun t x => sumNote t a x (itemEntries s x a)) s

/-- What an item adds to the cargo digest (R186). -/
def digestItem (a : Acc) : List Byte :=
  let c := a.cmd
  bytesOf [c.opcode, b2n c.ptr] ++ leBytes 2 c.landing ++ leBytes 2 c.aux ++
    (if c.ptr then c.payload.drop 8 ++ c.buf else c.payload)

/-- An item is generational: tables, image regions, gallery assignment, replication groups and MACsec transmit
associations (R174). -/
def genItem (a : Acc) : Bool := tableItem a || [0x40, 0x41, 0x42, 0x44, 0x64, 0x72].contains a.cmd.opcode

/-- A command, as it was issued, is added to the cargo of slot n (R185, R186). -/
def stageAt (s : State) (n : Nat) (a : Acc) : State :=
  let s0 := perf (if tableItem a then sumNoteAll s a else s) { perfE 0x11 1 with role := 2 ^ a.role / 2 }
  let s1 := { s0 with cargo := tabPut s0.cargo (n, 0) (cargoOf s n ++ [a]) }
  wrs s1 [(LND_SLOT.ITEMS, n, rd s LND_SLOT.ITEMS n + 1),
    (LND_SLOT.GENL, n, b2n (flag s LND_SLOT.GENL n || genItem a))]

/-- A staged command is added to the cargo of its landing (R185). -/
def stageItem (s : State) (a : Acc) : State :=
  match slotOf s a.cmd.landing with
  | none => s
  | some n => stageAt s n a

/-! ## Dispatch -/

/-- The ring's dispatch is held by a FENCE or BARRIER of its own that has not completed (R140, R141). -/
def ringHeld (s : State) (r : Nat) : Bool :=
  s.running.any (fun x => x.ring == r && (x.acc.cmd.opcode == 3 || x.acc.cmd.opcode == 4))

/-- The front command of ring r, if it has the opcode and may be dispatched (R139). A dispatched command whose wake has
ended goes first, and nothing holds it (R144, R146). A ring in ERROR dispatches nothing else until its release lets it
drain (R146). -/
def ready (s : State) (r op : Nat) : Option Acc :=
  let q := ringOf s r
  match q.resumed, q.accepted with
  | a :: _, _ => if a.cmd.opcode == op then some a else none
  | [], a :: _ => if a.cmd.opcode == op && !ringHeld s r && !(q.error && !q.draining) then some a else none
  | [], [] => none

/-- Landing time of slot n, 2^-16 ns. -/
def slotTime (s : State) (n : Nat) : Nat := timeOfField (rd s LND_SLOT.TIME n)

/-- Slot n is PENDING and due (R190). -/
def lndDue (s : State) (n : Nat) : Bool := rd s LND_SLOT.STATE n == 2 && decide (slotTime s n ≤ localTime s)

/-- A landing is due on this tick and its firing has not come yet (R193). -/
def landingDue (s : State) : Bool := (slotsUsed s).any (lndDue s)

/-- What holds a ring's front command back: an earlier command of the ring still waits for the wake of a domain that this
command acts on too, since the two take effect in ring order (R139); or it is an immediate write of something a landing may
write and a landing is due on this tick, which applies first (R193). -/
def blockHeld (o : OpSpec) (s : State) (r : Nat) (a : Acc) : Bool :=
  (!a.woken && s.running.any (fun x => x.ring == r &&
    match x.phase with
    | .waking ds => ds.any (o.targets s a).contains
    | .waiting _ => false))
    || (o.stage && !a.cmd.stage && landingDue s)

/-- The status a command completes with before its own rules run, if any: safe state, recovery, the checks of R138 and
those of staging. -/
def refusal (o : OpSpec) (s : State) (r : Nat) (a : Acc) : Option Reply :=
  if isSafe s && !safeOp o.op then some (rInv 0xFFFD)
  else if rd s GLB_BOOT_STAT.STAGE 0 == 8 && !(r == 0 && (0x10 ≤ o.op && o.op ≤ 0x12 || o.op == 0x1D)) then
    some (rInv 0)
  else
    firstOf [check1 o s r a, if o.own then (if unpowered s a then some (rStat .noPower) else none) else check2 o s a]

/-- A command starts to run: every check, then its wake, since a command that fails a check has no effect (R26, R138);
after the wake the checks again, then its effect, or its place in a cargo. A staged SI_OPEN does both itself (R313), as
does a REG_WRITE, which answers with DATA (R142). -/
def execOp (o : OpSpec) (r : Nat) (a : Acc) (s : State) : State :=
  match refusal o s r a with
  | some p => finish s r a p
  | none =>
    match (if a.cmd.stage then stageCheck o s a else none) with
    | some p => finish s r a p
    | none =>
      let ws := if a.woken then [] else wakeList o s a
      match o.check s a with
      | some p => finish s r a p
      | none =>
        if !ws.isEmpty then wakeFirst { s with running := s.running ++ [⟨r, a, .waking ws⟩] } ws
        else
          if a.cmd.stage && o.op != 0x40 && o.op != 0x01 then finish (stageItem s a) r a rOk
          else
            match o.run r a s with
            | .done t p => finish t r a p
            | .doneThen t p k => k (finish t r a p)
            | .wait t ds => { t with running := t.running ++ [⟨r, a, .waiting ds⟩] }

/-- The row of an opcode: the front command of ring r is dispatched if it carries the opcode. -/
def dispatch (o : OpSpec) (r : Nat) (s : State) : State :=
  match ready s r o.op with
  | none => s
  | some a => if blockHeld o s r a then s else execOp o r a (popFront s r)

/-- A command's wake is done: it goes to the end of its ring's commands that have been dispatched and run next, in the order
of dispatch (R139, R144). -/
def requeue (s : State) (x : Run) : State :=
  let s1 := dropRun s x.ring x.acc.cmd.tag
  let q := ringOf s1 x.ring
  setRing s1 x.ring { q with resumed := q.resumed ++ [{ x.acc with woken := true }] }

/-- The wake of domain d, first in a command's list, has succeeded: the next one begins, or the command is ready to run
(R144). -/
def wakeNext (d : Nat) (s : State) (x : Run) : State :=
  match x.phase with
  | .waking (e :: t) =>
    if e == d then
      match t with
      | [] => requeue s x
      | _ =>
        wakeFirst { s with running := s.running.map (fun y => if y.ring == x.ring && y.acc.cmd.tag == x.acc.cmd.tag
          then { y with phase := .waking t } else y) } t
    else s
  | _ => s

/-- Domain d (or the device, 0xFFFF) has reached S0: every command waiting for it goes on. -/
def wakeDone (s : State) (d : Nat) : State := s.running.foldl (wakeNext d) s

/-- A command's wake list starts with domain d. -/
def wakesFirst (d : Nat) (x : Run) : Bool :=
  match x.phase with
  | .waking (e :: _) => e == d
  | _ => false

/-! ## Sessions -/

/-- Rings bound to session h; one that drains after a session's close is bound to no session (R114, R125). -/
def ringsOf (s : State) (h : Nat) : List Nat :=
  (s.rings.filter (fun e => e.2.bound == some h && !e.2.draining)).map (·.1.1)

/-- The TABLE_SUMMARY windows of session h are written (R119). -/
def flushSummaries (s : State) (h : Nat) : State :=
  (s.tblSums.filter (fun e => Nat.beq e.1.1 h)).foldl (fun t e => writeSummary t h e.1.2 e.2) s

/-- Ring r stops fetching and drains (R114). -/
def drainRing (s : State) (r : Nat) : State :=
  settleRing (setRing s r { ringOf s r with draining := true, unread := [] }) r

/-- A load context of session h that is not STAGED is discarded, with an SI_OPEN that still reads its slot (R309). -/
def ctxClose (s : State) (h : Nat) : State :=
  match s.siCtx with
  | some x =>
    if x.handle == h && rd s GLB_SI_STAT.CTX 0 != 3 then complete (waitsOn 0x40 []) (rStat .aborted) (ctxDrop s) else s
  | none => s

/-- The OPEN landings a session owns are discarded (R194); the others go on without an owner, whoever opens the handle
next. -/
def dropOpen (s : State) (h : Nat) : State :=
  forEach ((slotsUsed s).filter (fun n => rd s LND_SLOT.HANDLE n == h)) s
    (fun n t => if rd t LND_SLOT.STATE n == 1 then freeSlot t n else wr t HID.LND_ORPHAN n 1)

/-- The COMMAND entry of a waiting SUBMIT whose completion a close discards (R114, R119). Its status in the entry, OK, is
the model's (DESIGN CHOICE, log entry 85). -/
def auditDropped (s : State) (y : Run) : State :=
  if 2 ≤ y.acc.role then audit s 6 y.acc.role y.acc.cred y.acc.handle y.acc.cmd.opcode 0 [] else s

/-- A waiting SUBMIT of session h. -/
def submitOf (h : Nat) (y : Run) : Bool := y.acc.handle == h && waitsOn 0x21 [] y

/-- A session closes (R114): its waiting SUBMITs are discarded, its barriers end ABORTED (R141), its OPEN landings are
discarded (R194), its rings drain, and an audit entry is written (R119). -/
def closeSession (s : State) (h : Nat) : State :=
  match tabGet s.sessions (h, 0) with
  | none => s
  | some x =>
    let s0 := (s.running.filter (submitOf h)).foldl auditDropped s
    let s1 := { s0 with running := s0.running.filter (fun y => !submitOf h y) }
    let s2 := complete (fun y => y.acc.handle == h && waitsOn 4 [] y) (rStat .aborted) s1
    let s3 := flushSummaries (dropOpen (ctxClose s2 h) h) h
    let s4 := audit { s3 with sessions := tabDel s3.sessions (h, 0) } 3 x.role x.cred h 0 0 []
    forEach (ringsOf s4 h) s4 (fun r t => drainRing t r)

/-- Every session closes. -/
def closeAll (s : State) : State := forEach (List.range 64) s (fun h t => closeSession t h)

/-- Every session opened with a credential slot closes (R103). -/
def closeCred (s : State) (role cred : Nat) : State :=
  ((s.sessions.filter (fun e => e.2.role == role && e.2.cred == cred)).map (·.1.1)).foldl closeSession s

/-- One key-store step is used (R116). -/
def keyStep (s : State) : State := wr s SEC_STATUS.KS_LEFT 0 (rd s SEC_STATUS.KS_LEFT 0 - 1)

/-- The key-store counter is exhausted (R116). -/
def noKeySteps (s : State) : Bool := rd s SEC_STATUS.KS_LEFT 0 == 0

end Sys2Proof.Machine
end

