-- ==== Sys2Proof/Machine/Levels.lean ====
section
/-! DEFINITION. Performance levels of the steered dies: what a level may be (R71, R424) and how a die moves from one to
the next (R69, R442). -/

namespace Sys2Proof.Machine

/-- Nominal voltage of a level, mV (R424). -/
def levelMv (l : Nat) : Nat :=
  match l with
  | 0 => 600
  | 1 => 650
  | 2 => 710
  | _ => 780

/-- Rail n is steered (R69, R71). -/
def steered (s : State) (n : Nat) : Bool := flag s PWR_VRM_CFG.EN n && rd s PWR_VRM_CFG.STAT n < 2

/-- The highest level the voltage of rail n allows when it is not steered (R71). R71 does not say which value is "the
rail's voltage": the model takes the voltage last commanded and verified, not the READ_VOUT that VOUT_MV shows, which may
lie 10 mV from it (DESIGN CHOICE, log entry 92). -/
def railCap (s : State) (n : Nat) : Nat :=
  if steered s n then 3
  else ((List.range 4).filter (fun l => decide (levelMv l ≤ rd s HID.RAIL_MV n))).foldl max 0

/-- The level die n goes to: the lowest of its ceiling, what ageing allows, what throttling sets and what its rail allows
(R424). -/
def levelGoal (s : State) (n : Nat) : Nat :=
  min (min (rd s PWR_PL.CEIL n) (rd s PWR_PL.AGE_MAX n)) (min (rd s HID.PL_THR n) (railCap s n))

/-- A THERMAL event record (R442). Its SOURCE is 0xB00 (log entry 14). -/
def thermEvent (s : State) (kind n level : Nat) : State :=
  event s 6 0xB00 0 (bytesOf [kind, n] ++ leBytes 2 (rd s PWR_STATUS.EFF_W 0) ++ bytesOf [level])

/-- Die n runs at a new level: record and event count (R424, R442). -/
def levelNow (s : State) (n l : Nat) : State :=
  let kind := if l < rd s PWR_PL.NOW n then 3 else 4
  thermEvent (perf (wr s PWR_PL.NOW n l) { perfE 0xA0 1 with qual := n }) kind n l

/-- The voltage one step of 5 mV nearer to a goal (R69). -/
def stepToward (cur goal : Nat) : Nat := if cur < goal then min goal (cur + 5) else max goal (cur - 5)

/-- The next step of rail n toward its goal is commanded (R69). -/
def vrmStep (s : State) (n : Nat) : State :=
  let v := stepToward (rd s HID.RAIL_MV n) (rd s HID.VRM_GOAL n)
  emit (wrs s [(HID.VRM_CMD, n, v), (PWR_PL.CHANGING, n, 1)]) (.vout n v)

/-- Rail n moves to a voltage, and its die goes up one level when it is there if `up` (R69). -/
def vrmGo (s : State) (n mv up : Nat) : State :=
  let s1 := wrs s [(HID.VRM_GOAL, n, mv), (HID.VRM_RAISE, n, up), (HID.VRM_TRIES, n, 0)]
  if rd s HID.RAIL_MV n == mv then (if up == 1 then levelNow s1 n (rd s PWR_PL.NOW n + 1) else s1) else vrmStep s1 n

/-- One change of level of die n starts, if it is due and none is in progress: going up the voltage first, going down the
frequency first (R69, R424). -/
def levelStep (s : State) (n : Nat) : State :=
  let now := rd s PWR_PL.NOW n
  let goal := levelGoal s n
  if flag s PWR_PL.CHANGING n || goal == now then s
  else if now < goal then (if steered s n then vrmGo s n (levelMv (now + 1)) 1 else levelNow s n (now + 1))
  else
    let s1 := levelNow s n (now - 1)
    if steered s n then vrmGo s1 n (levelMv (now - 1)) 0 else s1

/-- Changes of several levels run as a series (R424). -/
def levelEval (s : State) (n : Nat) : State := levelStep (levelStep (levelStep s n) n) n

end Sys2Proof.Machine
end

