-- ==== Sys2Proof/Machine/Boot.lean ====
section
/-! DEFINITION. From power to service: the power-on reset, bring-up, its failures, supplies, references and warm reset
(R44 to R62, R82 to R98). Zeroisation and host reset stand with their owners. -/

namespace Sys2Proof.Machine

/-! ## Resets -/

/-- Fields in fuses, and in the flash regions of R79: what a cold reset keeps (R93). -/
def fuseFields : List Fld :=
  [SEC_STATUS.LIFECYCLE, SEC_STATUS.KS_LEFT, EMG_GLB_CFG.CEIL_LEFT, GLN_AGE_DIE.NEED, GLN_AGE_DIE.AGE_MAX,
   HID.MIN_FW_SVN, HID.CERT_OK, HID.INST_LOCKS, HID.SEAL_OK, HID.CEIL_CNT_A, HID.CEIL_CNT_B, HID.SI_ACTIVE_SLOT,
   HID.SI_MIN_SVN, HID.AGE_FUSE, HID.WEAR_HOURS, HID.WEAR_H85, HID.WEAR_H100, HID.WEAR_TJ]

/-- What a warm reset keeps beside ROS fields and fuses (R93, R85, R98, R111, R119, R433, R450, R452): time, sticky
faults, pin levels and history, presence, lockout, audit, residency, codes at the pads, converter slices. -/
def warmFields : List Fld :=
  [TIM_NOW.FRAC, TIM_NOW.NS, TIM_NOW.SEC, TIM_INCR.BASE, TIM_STATUS.STEPS, FLT_SRC.STICKY, FLT_SRC.CLASS,
   GLB_PIN_STAT.DAC_CLR, GLB_PIN_STAT.DAC_LOAD, GLB_PIN_STAT.ZEROIZE, GLB_PIN_STAT.FAULT, GLB_PIN_STAT.THERMTRIP,
   GLB_PIN_STAT.PPS_IN, GLB_PIN_STAT.PM_ALERT, GLB_PIN_STAT.DAC_CLR_SEEN, GLB_PIN_STAT.PG, EMG_SITE_PRES.PRESENT,
   SEC_LOCKOUT.FAILS, SEC_LOCKOUT.SERIES, SEC_LOCKOUT.REMAIN_S, SEC_AUDIT_STAT.HEAD_SEQ, SEC_AUDIT_STAT.EXPORT_SEQ,
   SEC_AUDIT_STAT.LOST, PWR_RES.ENTRIES, PWR_RES.WAKE_FAILS, EMG_DAC.OUT_CODE, EMG_CEIL.CEIL, EMG_CEIL.CLEAR,
   EMG_CEIL.GAIN2, EMG_CEIL.REF_EXT, EMG_PWM.DUTY_CEIL, SHF_RX_SLICE.STATE, SHF_RX_SLICE.POS, SHF_RX_ADC.SPARE_FREE,
   SHF_RX_ADC.FAILED,
   HID.POR_DONE, HID.RESET_HIGH, HID.PERST_HIGH, HID.REF_LINE_LOST, HID.REF_CORE_LOST, HID.TICKS, HID.TIM_RESID,
   HID.RAIL_MV, HID.LOCK_END, HID.EMG_PAD, HID.DOM_SINCE, HID.RES_TICKS, HID.FLT_REC_AT,
   HID.SLICE_POS]

/-- A stored value is a ROS field's. -/
def isRos (id : Nat) : Bool := registers.any (fun r => r.flds.any (fun f => Nat.beq f.id id && f.ty == .ROS))

/-- A field number is in a list. -/
def idIn (l : List Fld) (id : Nat) : Bool := l.any (fun f => Nat.beq f.id id)

/-- A voltage configuration with LOCK = 1 is frozen until cold reset (R71). -/
def vrmFrozen (s : State) (k : Key) : Bool :=
  idIn [PWR_VRM_CFG.ADDR, PWR_VRM_CFG.PAGE, PWR_VRM_CFG.LOCK] k.1 && flag s PWR_VRM_CFG.LOCK k.2

/-- The scalars a warm reset leaves; the SAT and WRAP bits of a counter stay with it. -/
def warmRegs (s : State) : Tab Nat :=
  s.regs.filter (fun e => idIn fuseFields (ownKey e.1).1 || idIn warmFields (ownKey e.1).1 || isRos (ownKey e.1).1
    || vrmFrozen s e.1)

/-- Converter slices that calibration or gleaning held OUT are spares again: both end with the reset (R200, R203). -/
def slicesBack (s : State) : State :=
  (s.regs.filter (fun e => Nat.beq e.1.1 SHF_RX_SLICE.STATE.id && Nat.beq e.2 2)).foldl
    (fun t e => wr t SHF_RX_SLICE.STATE e.1.2 1) s

/-- The scalars a cold reset leaves: fuses. -/
def coldRegs (s : State) : Tab Nat := s.regs.filter (fun e => idIn fuseFields e.1.1)

/-- Everything but scalars at its reset value; fuses, key store, flash, audit record and what already left the device
stay, and so do the command queue and the model's own counter. -/
def resetLists (s : State) (regs : Tab Nat) : State :=
  { State.reset with
    regs := regs, opKeys := s.opKeys, instCreds := s.instCreds, caks := s.caks, siVerify := s.siVerify,
    siDecrypt := s.siDecrypt, makerKey := s.makerKey, enrolKey := s.enrolKey, attestKey := s.attestKey,
    audit := s.audit, out := s.out, flash := s.flash, ceilA := s.ceilA, ceilB := s.ceilB, freeCnt := s.freeCnt,
    pending := s.pending }

/-- Sites stand ABSENT or HELD as their engines are present (R394). -/
def siteStates (s : State) : State :=
  forEach (List.range 64) s (fun k t => wr t EMG_SITE_CTRL.STATE k (rd t EMG_SITE_PRES.PRESENT k))

/-- The device in warm reset (R93): channels at their clear codes, heaters low, sessions closed, then everything reset
but what is kept; every sheaf squelched under SAFE until the new bring-up (R234). FAULT_N keeps its level (R78). A rail
that steering left below a level's voltage holds its die under that level, since EN is 0 now (R71). -/
def warmCore (s : State) : State :=
  let s1 := forEach (List.range 64) (closeAll s) (fun k t => siteClear t k)
  let s2 := slicesBack (resetLists s1 (warmRegs s1))
  forEach (List.range 6) (wrN (siteStates s2) HID.SQ_SAFE 1 64) (fun n t => levelEval t n)

/-- A reset is recorded (R98). -/
def countWarm (s : State) : State :=
  let s1 := bump (wr s GLB_RESET_CAUSE.LAST 0 1) GLB_WARM_CNT.COUNT 0
  if rd s1 GLB_WARM_CNT.COUNT 0 == 2 ^ 32 - 1 then wr s1 GLB_RESET_CAUSE.WARM_SAT 0 1 else s1

/-- WARM_RESET (R93): RESET_N low for 1 us or longer. -/
def execWarmReset (s : State) : Host.Outcome State Fault Refusal :=
  .next (if flag s HID.POR_DONE 0 then wr (countWarm (warmCore s)) HID.RESET_HIGH 0 0 else s)

/-- TIM_INCR.BASE by STRAP[3] (R49, R155). -/
def baseIncr (strap : Nat) : Nat := if bitOf strap 3 then 1409136303933 else 1407374883553

/-- POR_RELEASE (R85, R93): a cold reset ends. Everything but fuses and flash is at its reset value, straps are sampled
(R46), the counter starts at zero with the increment of the strap (R155), PG_AUX is high (R88), and the audit record is
empty. -/
def execPorRelease (strap : BitVec 4) (s : State) : Host.Outcome State Fault Refusal :=
  let s1 := { resetLists s (coldRegs s) with audit := [] }
  .next (wrs s1 [(HID.POR_DONE, 0, 1), (HID.POWER_UP, 0, 1), (GLB_STRAP.STRAP, 0, strap.toNat), (TIM_INCR.BASE, 0, baseIncr strap.toNat),
    (GLB_PIN_STAT.PG, 0, 0x80)])

/-! ## Bring-up -/

/-- Bring-up stops (R88, R94): STAGE = HALTED, and PCIe comes up for readout. -/
def halt (s : State) : State := wrs s [(GLB_BOOT_STAT.STAGE, 0, 9), (HIF_STATUS.LINK_UP, 0, rd s HID.PERST_HIGH 0)]

/-- Bring-up goes on: neither in recovery nor HALTED. -/
def booting (s : State) : Bool := rd s GLB_BOOT_STAT.STAGE 0 < 8

/-- The top level ageing allows, from fuses (R476). -/
def loadAgeMax (s : State) : State :=
  forEach (List.range 6) s (fun n t => wr t PWR_PL.AGE_MAX n (min (rd t HID.AGE_FUSE n) (rd t GLN_AGE_DIE.AGE_MAX (8 + n))))

/-- Firmware slot content (R79). -/
def fwSlot (s : State) (n : Nat) : List Byte := (tabGet s.flash (n, 0)).getD []

/-- SVN in a firmware header (R80). -/
def fwSvn (img : List Byte) : Nat := leAt img 8 4

/-- Why a slot fails, 0 = it verifies and decrypts (R80, R81, R97). -/
def fwFail (s : State) (img : List Byte) (readOk : Bool) : Nat :=
  let len := leAt img 0xC 4
  if !readOk then 6
  else if leAt img 0 4 != 0x57464C43 then 1
  else if leAt img 4 2 != 1 || leAt img 6 2 != 0 || !allZero (sliceOf img 0x2C 20) || len < 0x100 || 0x400000 < len then 2
  else if fwSvn img < rd s HID.MIN_FW_SVN 0 then 3
  else if !Config.fwSignOk (img.take len) then 4
  else if !Config.fwDecryptOk (img.take len) then 5
  else 0

/-- The slot the boot ROM tries next: of those not tried, the higher SVN, slot A on equal ones (R81). -/
def fwNext (s : State) : Option Nat :=
  let t := rd s HID.FW_TRIED 0
  let svn := fun n => fwSvn (fwSlot s n)
  if t == 0 then some (if svn 0 < svn 1 then 1 else 0)
  else if t == 1 then some 1
  else if t == 2 then some 0
  else none

/-- A slot is abandoned (R81); with both abandoned the boot ROM enters recovery (R88, R89). -/
def fwAbandon (s : State) (n code : Nat) : State :=
  let s1 := if n == 0 then wrs s [(GLB_BOOT_STAT.SLOTA_BAD, 0, 1), (GLB_BOOT_FAIL.FW_A, 0, code)]
    else wrs s [(GLB_BOOT_STAT.SLOTB_BAD, 0, 1), (GLB_BOOT_FAIL.FW_B, 0, code)]
  let s2 := faultC (0x1F0 + n) (wr s1 HID.FW_TRIED 0 (setBit (rd s HID.FW_TRIED 0) n))
  if rd s2 HID.FW_TRIED 0 == 3 then
    faultK 0x1F2 (wrs s2 [(GLB_BOOT_STAT.STAGE, 0, 8), (HIF_STATUS.LINK_UP, 0, rd s2 HID.PERST_HIGH 0)])
  else s2

/-- Both firmware headers are read: a slot whose SVN is below the fuse-held minimum is rejected at once (R81). -/
def readHeaders (s : State) : State :=
  forEach (List.range 2) s (fun n t =>
    let img := fwSlot t n
    if fwSvn img < rd t HID.MIN_FW_SVN 0 then fwAbandon t n (fwFail t img true) else t)

/-- RESET_N_RISE (R82 steps 1 to 3): straps sampled; halted after step 2 while a latch of R94 holds, or with a fatal
fault when the fuses cannot be read or a known-answer test fails (R88). FAULT_N takes the level its conditions give once
the warm reset is over (R78). -/
def execResetNRise (strap : BitVec 4) (fuseOk katOk : Bool) (s : State) : Host.Outcome State Fault Refusal :=
  .next (
    if !flag s HID.POR_DONE 0 || flag s HID.RESET_HIGH 0 then s
    else
      let s1 := wrs (updFaultPin s) [(HID.RESET_HIGH, 0, 1), (GLB_STRAP.STRAP, 0, strap.toNat), (GLB_BOOT_STAT.STAGE, 0, 0),
        (HID.BOOT_STEP, 0, 1)]
      if !fuseOk then halt (faultF 0x1F4 s1)
      else if isSafe s then halt s1
      else if !katOk then halt (faultF 0x1F3 s1)
      else readHeaders (loadAgeMax (wrs s1 [(HID.KAT_OK, 0, 1), (HID.BOOT_STEP, 0, 3)])))

/-- Firmware runs from slot n. -/
def fwRun (s : State) (n : Nat) : State :=
  let svn := fwSvn (fwSlot s n)
  wrs s [(GLB_BOOT_STAT.FW_SLOT, 0, n), (GLB_BOOT_STAT.FW_SVN, 0, svn), (HID.FW_SVN_FULL, 0, svn)]

/-- FW_SLOT_READ_DONE (R81, R82 step 4, R119): the slot in turn runs or is abandoned. -/
def execFwSlotReadDone (slot : Fin 2) (readOk : Bool) (s : State) : Host.Outcome State Fault Refusal :=
  .next (
    if rd s HID.BOOT_STEP 0 != 3 || rd s GLB_BOOT_STAT.STAGE 0 != 0 || fwNext s != some slot.val then s
    else
      let code := fwFail s (fwSlot s slot.val) readOk
      if code == 0 then bootFirst (faultC 0x103) (wrs (fwRun s slot.val) [(GLB_BOOT_STAT.STAGE, 0, 1), (HID.BOOT_STEP, 0, 4)])
      else fwAbandon s slot.val code)

/-- The records of a sealed copy put in force (R399, R400). -/
def loadCeil (s : State) (t : Tab CeilRec) : State :=
  t.foldl (fun u e =>
    let k := e.1.1
    let u1 := forEach (List.range 16) u (fun c v => wrs v
      [(EMG_CEIL.CEIL, 16 * k + c, e.2.ceil.getD c 0), (EMG_CEIL.CLEAR, 16 * k + c, e.2.clear.getD c 0),
       (EMG_CEIL.GAIN2, 16 * k + c, b2n (e.2.gain2.getD c false)), (EMG_CEIL.REF_EXT, 16 * k + c, b2n e.2.ext)])
    forEach (List.range 8) u1 (fun h v => wr v EMG_PWM.DUTY_CEIL (8 * k + h) (e.2.duty.getD h 0))) s

/-- Ceiling-store counter steps used (R400). -/
def ceilUsed (s : State) : Nat := 4095 - rd s EMG_GLB_CFG.CEIL_LEFT 0

/-- A sealed copy opens and carries the fuse value, or the fuse value plus 1 (R400). -/
def ceilQual (s : State) (ok : Bool) (t : Tab CeilRec) (cnt : Nat) : Bool :=
  ok && flag s HID.SEAL_OK 0 && !t.isEmpty && (cnt == ceilUsed s || cnt == ceilUsed s + 1)

/-- The copy in force: the higher counter among those that qualify. -/
def ceilPick (s : State) (okA okB : Bool) : Option (Tab CeilRec × Nat) :=
  let a := rd s HID.CEIL_CNT_A 0
  let b := rd s HID.CEIL_CNT_B 0
  match ceilQual s okA s.ceilA a, ceilQual s okB s.ceilB b with
  | true, true => if a < b then some (s.ceilB, b) else some (s.ceilA, a)
  | true, false => some (s.ceilA, a)
  | false, true => some (s.ceilB, b)
  | false, false => none

/-- CEIL_STORE_OPEN (R400, R82 steps 5 and 6): the store in force, pads at the clear codes; or CEIL_BAD (R88). The host
interface is then enabled, and the link is up once PERST_N is high. -/
def execCeilStoreOpen (okA okB : Bool) (s : State) : Host.Outcome State Fault Refusal :=
  .next (
    if rd s HID.BOOT_STEP 0 != 4 || !booting s then s
    else
      let s1 := match ceilPick s okA okB with
        | some (t, cnt) =>
          let u := loadCeil (wr s GLB_BOOT_STAT.CEIL_BAD 0 0) t
          let v := if cnt == ceilUsed s + 1 then wr u EMG_GLB_CFG.CEIL_LEFT 0 (rd u EMG_GLB_CFG.CEIL_LEFT 0 - 1) else u
          forEach (List.range 64) v (fun k w => siteClear w k)
        | none => faultK 0xCFF (wr s GLB_BOOT_STAT.CEIL_BAD 0 1)
      wrs s1 [(HID.BOOT_STEP, 0, 6), (HIF_STATUS.LINK_UP, 0, rd s HID.PERST_HIGH 0)])

/-- PERST_RELEASE (R82 step 6, R92): PERST_N rises; the link trains once the host interface is enabled. -/
def execPerstRelease (s : State) : Host.Outcome State Fault Refusal :=
  let s1 := wr s HID.PERST_HIGH 0 1
  .next (if 6 ≤ rd s HID.BOOT_STEP 0 || rd s GLB_BOOT_STAT.STAGE 0 == 8 || rd s GLB_BOOT_STAT.STAGE 0 == 9
    then wr s1 HIF_STATUS.LINK_UP 0 1 else s1)

/-- The domains a PG_ input feeds, by its position in GLB_PIN_STAT.PG (R62, R90). -/
def pgFeeds (p : Nat) : List Nat :=
  if p == 0 then (List.range 64).map sheafDom ++ (List.range 64).map siteDom ++ (List.range 8).map corDom
  else if 1 ≤ p && p ≤ 4 then
    (List.range 16).map (fun i => galDom (16 * (p - 1) + i))
      ++ [galDom (64 + (p - 1)), corDom (2 * (p - 1)), corDom (2 * (p - 1) + 1)]
      ++ (List.range 4).map (fun n => corDom (8 + 4 * (p - 1) + n))
  else if p == 5 || p == 6 then
    (List.range 16).map (fun i => bankDom (16 * (p - 5) + i))
      ++ (List.range 8).map (fun i => corDom (8 + 4 * (i / 2) + 2 * (p - 5) + i % 2))
  else if p == 9 then (List.range 64).map siteDom
  else []

/-- Every PG_ input of domain d is good. -/
def pgGood (s : State) (d : Nat) : Bool :=
  (List.range 10).all (fun p => bitOf (rd s GLB_PIN_STAT.PG 0) p || !(pgFeeds p).contains d)

/-- The DRAM stacks are held: Silo and Granary are absent (R90). -/
def holdStacks (s : State) : State := wrN s MEM_CTRL_STAT.STATE 2 10

/-- Step 8 of R82: the corridors start blind and zero-fill begins. -/
def bringUpFill (s : State) : State :=
  let s1 := wrs s [(GLB_BOOT_STAT.STAGE, 0, 2), (HID.BOOT_STEP, 0, 8), (HID.PG_WAITING, 0, 0)]
  forEach (List.range 24) s1 (fun c t => if rd t PWR_DOM.HELD (corDom c) == 0 then corStart t c else t)

/-- The PG_ inputs other than PG_AUX that are low. -/
def pgLow (s : State) : List Nat := (List.range 10).filter (fun p => p != 7 && !bitOf (rd s GLB_PIN_STAT.PG 0) p)

/-- The domains of a missing input are held in S3 with a contained fault (R88). -/
def pgHold (s : State) (p : Nat) : State :=
  let s1 := forEach (pgFeeds p) s (fun d t => if rd t PWR_DOM.HELD d == 0 then holdDom raise t d 1 else t)
  let s2 := if p == 8 then holdStacks s1 else s1
  faultK (0xB00 + p) (wr s2 GLB_BOOT_STAT.PG_MISSING 0 1)

/-- CORE_PLL_LOCK (R82 step 7): the inputs and references are as found; a line reference missing raises its
synthesisers' faults (R50); bring-up goes on at once or waits for an input (R88). -/
def execCorePllLock (pg : BitVec 10) (refs : BitVec 8) (s : State) : Host.Outcome State Fault Refusal :=
  .next (
    if rd s HID.BOOT_STEP 0 != 6 || 8 ≤ rd s GLB_BOOT_STAT.STAGE 0 || flag s HID.REF_CORE_LOST 0 then s
    else
      let s1 := wrs s [(GLB_PIN_STAT.PG, 0, pg.toNat), (HID.REF_LINE_LOST, 0, 255 - refs.toNat), (HID.BOOT_STEP, 0, 7)]
      let s2 := forEach (List.range 64) s1 (fun sh t =>
        if bitOf (rd t HID.REF_LINE_LOST 0) (sh / 8) then faultK (0x480 + sh) (wr t SHF_SYN_STAT.STATE sh 1)
        else synthStart t sh)
      if (pgLow s2).isEmpty then bringUpFill s2 else wr s2 HID.PG_WAITING 0 1)

/-- CORE_PLL_TIMEOUT (R88): a lock attempt missed 1 ms; the third is fatal and halts bring-up. -/
def execCorePllTimeout (s : State) : Host.Outcome State Fault Refusal :=
  .next (
    if rd s HID.BOOT_STEP 0 != 6 || 8 ≤ rd s GLB_BOOT_STAT.STAGE 0 then s
    else
      let s1 := wr s HID.PLL_TRIES 0 (rd s HID.PLL_TRIES 0 + 1)
      if 3 ≤ rd s1 HID.PLL_TRIES 0 then halt (faultF 0x0F0 s1) else s1)

/-- A command that waits for the power-good of its first domain: woken if the input is good, NOPOWER otherwise (R90). -/
def pgRecheck (s : State) (x : Run) : State :=
  match x.phase with
  | .waking (d :: _) =>
    if d != 0xFFFF && rd s PWR_DOM.HELD d == 1 then
      if pgGood s d then domMove (wr s PWR_DOM.HELD d 0) d 0 0
      else finish (dropRun s x.ring x.acc.cmd.tag) x.ring x.acc (rStat .noPower)
    else s
  | _ => s

/-- PG_WAIT_TIMEOUT (R88, R90): after the wait, bring-up holds the domains of the inputs still low and goes on; commands
that wait for an input run or complete NOPOWER. -/
def execPgWaitTimeout (pg : BitVec 10) (s : State) : Host.Outcome State Fault Refusal :=
  let s1 := wr s GLB_PIN_STAT.PG 0 pg.toNat
  let s2 := if flag s HID.PG_WAITING 0 && booting s then bringUpFill ((pgLow s1).foldl pgHold s1) else s1
  .next (s2.running.foldl pgRecheck s2)

/-- SRAM_FILL_DONE (R82 step 9, R345). -/
def execSramFillDone (s : State) : Host.Outcome State Fault Refusal :=
  .next (if rd s HID.BOOT_STEP 0 == 8 && booting s then wr s HID.BOOT_STEP 0 9 else s)

/-- DRAM_TRAIN_DONE (R82 step 10, R88): a stack that fails three attempts is held, with its contained fault. -/
def execDramTrainDone (ok : BitVec 10) (s : State) : Host.Outcome State Fault Refusal :=
  .next (
    if rd s HID.BOOT_STEP 0 != 9 || !booting s then s
    else
      forEach (List.range 10) (wr s HID.BOOT_STEP 0 10) (fun n t =>
        if bitOf ok.toNat n || rd t MEM_CTRL_STAT.STATE n == 2 then t
        else faultK (0x900 + n) (wr t MEM_CTRL_STAT.STATE n 2)))

/-- DRAM_FILL_DONE (R82 step 11, R345): FILL_DONE, READY; stacks in service; the squelch of the last reset ends; a command
that ended STANDBY goes on (R432). -/
def execDramFillDone (s : State) : Host.Outcome State Fault Refusal :=
  .next (
    if rd s HID.BOOT_STEP 0 != 10 || !booting s then s
    else
      let s1 := wrs s [(HID.BOOT_STEP, 0, 11), (GLB_BOOT_STAT.FILL_DONE, 0, 1), (GLB_BOOT_STAT.STAGE, 0, 3),
        (TBL_STATUS.FILL, 0, 1)]
      let s2 := forEach (List.range 10) s1 (fun n t =>
        if rd t MEM_CTRL_STAT.STATE n == 0 then wr t MEM_CTRL_STAT.STATE n 1 else t)
      complete (waitsOn 0x96 []) rOk (wakeDone (wrN s2 HID.SQ_SAFE 0 64) 0xFFFF))

/-! ## Supplies and references in service -/

/-- PG_FALL (R91): outputs the input feeds are squelched, channels go to their clear codes, the domains in S0 are held in
S3, contained fault. PG_AUX holds the internal power-on reset instead (R88). -/
def execPgFall (p : Fin 10) (s : State) : Host.Outcome State Fault Refusal :=
  .next (
    if (p.val == 7 && !flag s HID.POR_DONE 0) || (p.val != 7 && !bitOf (rd s GLB_PIN_STAT.PG 0) p.val) then s
    else
      let s1 := wr s GLB_PIN_STAT.PG 0 (clrBit (rd s GLB_PIN_STAT.PG 0) p.val)
      if p.val == 7 then wrs s1 [(HID.POR_DONE, 0, 0), (HID.RESET_HIGH, 0, 0), (HIF_STATUS.LINK_UP, 0, 0)]
      else
        let s2 := if p.val == 0 then
            let u := wrN (wrN (stopWakes raise (List.range 512) 3 s1) HID.SQ_SAFE 1 64) HID.SQ_OUT 1 512
            forEach (List.range 64) u (fun k t => siteClear t k)
          else if p.val == 9 then forEach (List.range 64) s1 (fun k t => siteHold raise (siteClear t k) k)
          else s1
        let s3 := forEach (pgFeeds p.val) s2 (fun d t => if domSt t d == 0 then holdDom raise t d 1 else t)
        let s4 := if p.val == 8 then holdStacks s3 else s3
        faultK (0xB00 + p.val) s4)

/-- REFCLK_CORE_LOSS (R50, R60): a fatal fault; during bring-up it halts it (R88). -/
def execRefclkCoreLoss (s : State) : Host.Outcome State Fault Refusal :=
  let s1 := faultF 0x0F0 (wr s HID.REF_CORE_LOST 0 1)
  .next (if flag s HID.RESET_HIGH 0 && rd s GLB_BOOT_STAT.STAGE 0 < 2 then halt s1 else s1)

end Sys2Proof.Machine
end

