-- ==== Sys2Proof/Machine/Trust.lean ====
section
/-! DEFINITION. Roles, sessions and trust: the vestibule (R107, R109 to R111), session commands (R103 to R108), the key
store and zeroisation (R115, R116), firmware update (R117), audit export and attestation (R119 to R122), self-tests
(R124). -/

namespace Sys2Proof.Machine

/-! ## The vestibule -/

/-- The vestibule accepts messages: the host interface is enabled, or recovery runs (R82 step 6, R89). -/
def vstUp (s : State) : Bool :=
  (6 ≤ rd s HID.BOOT_STEP 0 && rd s GLB_BOOT_STAT.STAGE 0 < 8) || rd s GLB_BOOT_STAT.STAGE 0 == 8

/-- A response is put in the window; STATE reads CHALLENGED while an exchange is held, DONE otherwise (R109, R110). -/
def vstRespond (s : State) (bytes : List Byte) (status : Nat) : State :=
  wrs { s with vstRsp := bytes } [(SEC_VST_STAT.STATE, 0, if s.vst.isSome then 2 else 3), (SEC_VST_STAT.RESULT, 0, status)]

/-- A CHALLENGE response (R109). -/
def challenge (s : State) (status handle iter : Nat) (nonce salt : List Byte) (lock : Nat) : State :=
  vstRespond s (bytesOf [0x81, status, handle, 0] ++ leBytes 4 iter ++ (nonce ++ leBytes 32 0).take 32
    ++ (salt ++ leBytes 32 0).take 32 ++ serialBytes ++ leBytes 4 lock) status

/-- An ACCEPT response (R109). -/
def accept (s : State) (status handle : Nat) (proof : List Byte) : State :=
  vstRespond s (bytesOf [0x82, status, handle] ++ leBytes 5 0 ++ (proof ++ leBytes 48 0).take 48) status

/-- Rings a 32-byte bitmap names. -/
def ringBits (m : Nat) : List Nat := bitList m 256

/-- Ring r cannot be bound: geometry 0, or bound to a session (R132). A draining ring is busy instead. -/
def ringUnfit (s : State) (r : Nat) : Bool :=
  (ringOf s r).size == 0 || ((ringOf s r).bound.isSome && !(ringOf s r).draining)

/-- The ring is bound to session h (R132). -/
def bindRing (h : Nat) (s : State) (r : Nat) : State :=
  let q := ringOf s r
  setRing s r { RingS.init with bound := some h, sqBase := q.sqBase, cqBase := q.cqBase, size := q.size, irq := q.irq }

/-- Sessions open with a role. -/
def roleSessions (s : State) (role : Nat) : Nat := (s.sessions.filter (fun e => e.2.role == role)).length

/-- A ring that still drains carries the handle of its closed session. -/
def handleDrains (s : State) (h : Nat) : Bool := s.rings.any (fun e => e.2.bound == some h)

/-- The lowest free handle: no session has it, and no ring of an earlier session still drains, whose commands would else
act on the new session (DESIGN CHOICE, log entry 91). -/
def freeHandle (s : State) : Option Nat :=
  (List.range 64).find? (fun h => (tabGet s.sessions (h, 0)).isNone && !handleDrains s h)

/-- The lifecycle state admits a role, or enrolment (R106). -/
def roleAdmitted (s : State) (role method : Nat) : Bool :=
  let lc := rd s SEC_STATUS.LIFECYCLE 0
  if method == 2 then lc == 1 else role == 3 || lc == 2

/-- Key, salt and iteration count of a credential that suits a method (R110); none = empty or unsuited. -/
def credOf (s : State) (role cred method : Nat) : Option (BitVec 384 × List Byte × Nat) :=
  if method == 2 then s.enrolKey.map (fun k => (k, [], 0))
  else if role == 1 then (tabGet s.opKeys (cred, 0)).map (fun k => (k, [], 0))
  else if role == 3 then s.makerKey.map (fun k => (k, [], 0))
  else
    match tabGet s.instCreds (cred, 0) with
    | some c =>
      if c.pw && method == 1 then some (c.key, leBytes 32 c.salt.toNat, c.iter)
      else if !c.pw && method == 0 then some (c.key, [], 0)
      else none
    | none => none

/-- Credential slots of a role. -/
def credSlots (role : Nat) : Nat :=
  match role with
  | 1 => 16
  | 2 => 4
  | 3 => 1
  | _ => 0

/-- An OPEN request is malformed (R109). -/
def openBad (m : List Byte) : Bool :=
  let role := leAt m 1 1
  let cred := leAt m 2 1
  let method := leAt m 3 1
  m.length < 0x48 || leAt m 0 1 != 1 || credSlots role ≤ cred || 2 < method || leAt m 4 4 != 0
    || (method == 1 && role != 2) || (method == 2 && (role != 2 || cred != 0))

/-- The lockout of a role holds (R111). -/
def locked (s : State) (role : Nat) : Bool := rd s SEC_LOCKOUT.REMAIN_S (role - 1) != 0

/-- Whole seconds of lockout left, rounded up (R110, R125). -/
def lockLeft (s : State) (i : Nat) : Nat :=
  if rd s SEC_LOCKOUT.REMAIN_S i == 0 then 0
  else (rd s HID.LOCK_END i - rd s HID.TICKS 0 + 781249999) / 781250000

/-- The first status of R110 that an OPEN meets, 0 = OK. -/
def openStatus (s : State) (m : List Byte) : Nat :=
  let role := leAt m 1 1
  let cred := leAt m 2 1
  let method := leAt m 3 1
  let rs := ringBits (leAt m 0x28 32)
  if flag s SEC_STATUS.CRYPTO_ERR 0 then 2
  else if openBad m || rs.any (ringUnfit s) then 4
  else if s.vst.isSome || (freeHandle s).isNone || (role == 3 && 2 ≤ roleSessions s 3)
      || rs.any (fun r => (ringOf s r).draining) then 1
  else if !roleAdmitted s role method || (credOf s role cred method).isNone then 2
  else if locked s role then 3
  else 0

/-- VST_OPEN (R110): GO with an OPEN request. On OK the exchange is held in CHALLENGED. -/
def execVstOpen (msg : List Byte) (s : State) : Host.Outcome State Fault Refusal :=
  .next (
    if !vstUp s then s
    else
      let s1 := { s with vstReq := msg }
      let st := openStatus s msg
      let role := leAt msg 1 1
      let cred := leAt msg 2 1
      let method := leAt msg 3 1
      if st != 0 then challenge s1 st 0 0 [] [] (if st == 3 then lockLeft s (role - 1) else 0)
      else
        let h := (freeHandle s).getD 0
        let x : VstX := ⟨h, role, cred, method, sliceOf msg 8 32, freeRandom s, leAt msg 0x28 32⟩
        let (salt, iter) := match credOf s role cred method with
          | some (_, sa, it) => (sa, it)
          | none => ([], 0)
        challenge (wrs (took { s1 with vst := some x }) [(HID.VST_AT, 0, rd s HID.TICKS 0)])
          0 h iter (leBytes 32 (freeRandom s).toNat) salt 0)

/-- "CL512-VST" and "CL512-SESSION" (R110). -/
def txtVst : List Byte := bytesOf [67, 76, 53, 49, 50, 45, 86, 83, 84]
def txtSession : List Byte := bytesOf [67, 76, 53, 49, 50, 45, 83, 69, 83, 83, 73, 79, 78]

/-- t of R110. -/
def vstT (x : VstX) : List Byte :=
  txtVst ++ bytesOf [x.role, x.cred, x.method] ++ x.nonceH ++ leBytes 32 x.nonceD.toNat ++ serialBytes
    ++ leBytes 32 x.rings ++ bytesOf [x.handle]

/-- The proof of one side: 72 = "H", 68 = "D" (R110). -/
def vstProof (k : BitVec 384) (side : Nat) (x : VstX) : List Byte :=
  leBytes 48 (Config.hmac384 k (bytesOf [side] ++ vstT x)).toNat

/-- okm of an exchange (R110). -/
def vstOkm (k : BitVec 384) (x : VstX) : List Byte :=
  Config.hkdf384 (leBytes 48 k.toNat) (x.nonceH ++ leBytes 32 x.nonceD.toNat)
    (txtSession ++ bytesOf [x.handle, x.role, x.cred]) 64

/-- k_cmd and k_xport of an exchange (R110). -/
def vstKeys (k : BitVec 384) (x : VstX) : BitVec 256 × BitVec 256 :=
  (BitVec.ofNat 256 (leVal ((vstOkm k x).take 32)), BitVec.ofNat 256 (leVal ((vstOkm k x).drop 32)))

/-- A BADPROOF on a credential slot is counted; the third of a series locks the role out (R111, R119). -/
def badProof (s : State) (role cred : Nat) : State :=
  let i := role - 1
  let s1 := audit (faultC 0x100 s) 4 role cred 0xFF 0 0 []
  if rd s1 SEC_LOCKOUT.FAILS i + 1 < 3 then wr s1 SEC_LOCKOUT.FAILS i (rd s1 SEC_LOCKOUT.FAILS i + 1)
  else
    let dur := min 3840 (60 * 2 ^ rd s1 SEC_LOCKOUT.SERIES i)
    let s2 := wrs s1 [(SEC_LOCKOUT.FAILS, i, 0), (SEC_LOCKOUT.SERIES, i, min 6 (rd s1 SEC_LOCKOUT.SERIES i + 1)),
      (SEC_LOCKOUT.REMAIN_S, i, dur), (HID.LOCK_END, i, rd s1 HID.TICKS 0 + dur * 781250000)]
    audit (faultC 0x101 s2) 5 role cred 0xFF 0 0 []

/-- The exchange ends without a session. -/
def endExchange (s : State) : State := { s with vst := none }

/-- An exchange held ends without a response, and STATE returns to IDLE; with none held nothing changes (R109, R110). -/
def dropExchange (s : State) : State := if s.vst.isSome then wr (endExchange s) SEC_VST_STAT.STATE 0 0 else s

/-- The session of a proved exchange opens and its rings are bound (R110). -/
def openSession (s : State) (x : VstX) (k : BitVec 384) : State :=
  let ks := vstKeys k x
  let s1 := { endExchange s with
    sessions := tabPut s.sessions (x.handle, 0) ⟨x.role, x.cred, ks.1, ks.2, rd s HID.TICKS 0⟩ }
  let s2 := (ringBits x.rings).foldl (bindRing x.handle) s1
  let s3 := wrs s2 [(SEC_LOCKOUT.FAILS, x.role - 1, 0), (SEC_LOCKOUT.SERIES, x.role - 1, 0)]
  accept (audit s3 2 x.role x.cred x.handle 0 0 []) 0 x.handle (vstProof k 68 x)

/-- A PROVE of the wrong shape for the exchange held, or that names another. R110 gives the answer, INVALID with the
exchange kept, for a PROVE that names no exchange held; that a malformed one of the exchange held is answered alike is the
model's (DESIGN CHOICE, log entry 95). -/
def proveBad (m : List Byte) (x : VstX) : Bool :=
  leAt m 0 1 != (if x.method == 2 then 4 else 2) || m.length < (if x.method == 2 then 0xA0 else 0x38)
    || leAt m 1 1 != x.handle || leAt m 2 6 != 0
    || (x.method == 2 && (1 < leAt m 0x38 1
        || (leAt m 0x38 1 == 1 && (leAt m 0x3C 4 < 100000 || 10000000 < leAt m 0x3C 4))))

/-- The rings of the exchange may still be bound. -/
def ringsFit (s : State) (x : VstX) : Bool :=
  (ringBits x.rings).all (fun r => !ringUnfit s r && !(ringOf s r).draining)

/-- VST_PROVE (R110, R111): a correct proof opens the session; a wrong one ends the exchange with BADPROOF; one that names
no exchange held receives INVALID and changes nothing else. Enrolment's is VST_ENROL. R110 states no answer when the
credential has gone, or a ring of the bitmap can no longer be bound, since the CHALLENGE: the model answers INVALID and
ends the exchange (DESIGN CHOICE, log entry 95). -/
def execVstProve (msg : List Byte) (s : State) : Host.Outcome State Fault Refusal :=
  .next (
    if !vstUp s then s
    else
      let s1 := { s with vstReq := msg }
      match s.vst with
      | none => accept s1 4 (leAt msg 1 1) []
      | some x =>
        if x.method == 2 || proveBad msg x then accept s1 4 (leAt msg 1 1) []
        else
          match credOf s x.role x.cred x.method with
          | none => accept (endExchange s1) 4 x.handle []
          | some (k, _, _) =>
            if sliceOf msg 8 48 != vstProof k 72 x then accept (badProof (endExchange s1) x.role x.cred) 5 x.handle []
            else if !ringsFit s x then accept (endExchange s1) 4 x.handle []
            else openSession s1 x k)

/-- VST_ENROL (R107, R106): a correct enrolment proof moves SEALED to INSTALLED, writes Installer slot 0, burns the
enrolment key and opens the session. -/
def execVstEnrol (msg : List Byte) (s : State) : Host.Outcome State Fault Refusal :=
  .next (
    if !vstUp s then s
    else
      let s1 := { s with vstReq := msg }
      match s.vst, s.enrolKey with
      | some x, some k =>
        if x.method != 2 || proveBad msg x then accept s1 4 (leAt msg 1 1) []
        else
          let new := Config.gcmOpen (vstKeys k x).2 ((leBytes 32 x.nonceD.toNat).take 12) [] (sliceOf msg 0x60 48)
            (sliceOf msg 0x90 16)
          match (if sliceOf msg 8 48 == vstProof k 72 x then new else none) with
          | none => accept (badProof (endExchange s1) 2 x.cred) 5 x.handle []
          | some key =>
            if !ringsFit s x then accept (endExchange s1) 4 x.handle []
            else
              let pw := leAt msg 0x38 1 == 1
              let cred : InstCred := ⟨pw, if pw then leAt msg 0x3C 4 else 0,
                if pw then BitVec.ofNat 256 (leAt msg 0x40 32) else 0, BitVec.ofNat 384 (leVal key)⟩
              let s2 := closeAll s1
              let s3 := keyStep (wr { s2 with instCreds := tabPut s2.instCreds (0, 0) cred, enrolKey := none }
                SEC_STATUS.LIFECYCLE 0 2)
              openSession (audit s3 8 2 0 x.handle 0 0 (bytesOf [1, 2])) x k
      | _, _ => accept s1 4 (leAt msg 1 1) [])

/-- VST_ABANDON (R109, R110): the exchange ends without a response. -/
def execVstAbandon (s : State) : Host.Outcome State Fault Refusal :=
  .next (if vstUp s then dropExchange s else s)

/-- VST_TIMEOUT (R110): after 10 s the device ends the exchange with TIMEOUT. -/
def execVstTimeout (s : State) : Host.Outcome State Fault Refusal :=
  .next (match s.vst with
    | some x => accept (endExchange s) 6 x.handle []
    | none => s)

/-- LOCKOUT_EXPIRE (R111): the role may try again with a new series of three. -/
def execLockoutExpire (role : Fin 3) (s : State) : Host.Outcome State Fault Refusal :=
  .next (if rd s SEC_LOCKOUT.REMAIN_S role.val == 0 then s
    else wrs s [(SEC_LOCKOUT.REMAIN_S, role.val, 0), (SEC_LOCKOUT.FAILS, role.val, 0)])

/-- SESSION_IDLE_TIMEOUT (R114): SEC_POLICY.IDLE_S seconds without an accepted command close the session. -/
def execSessionIdleTimeout (h : Fin 64) (s : State) : Host.Outcome State Fault Refusal :=
  .next (match tabGet s.sessions (h.val, 0) with
    | some x => if rd s SEC_POLICY.IDLE_S 0 * 1000 ≤ msSince s x.lastTick then closeSession s h.val else s
    | none => s)

/-- RETURN_WINDOW_EXPIRE (R108). -/
def execReturnWindowExpire (s : State) : Host.Outcome State Fault Refusal :=
  .next (wr s SEC_STATUS.RETURN_ARMED 0 0)

/-- CRYPTO_SELFTEST_FAIL (R124): the cryptographic error state; every session closes; contained fault. That an exchange
held then ends without a response, and that a command which passed the checks of R113 before runs to completion under R114
rather than ending DENIED, are the model's (DESIGN CHOICE, log entry 94). -/
def execCryptoSelftestFail (s : State) : Host.Outcome State Fault Refusal :=
  .next (faultK 0x1F5 (closeAll (dropExchange (audit (wr s SEC_STATUS.CRYPTO_ERR 0 1) 0xF 0 0 0xFF 0 0 []))))

/-! ## Zeroisation -/

/-- The device's keys are overwritten and its key fuses burned (R115). A Maker key burned to all ones counts as an empty
slot here: no one can prove it, so no Maker session opens in RETIRED, which R106 admits the Maker to (DESIGN CHOICE, log
entry 96). -/
def wipeKeys (s : State) : State :=
  wrs { s with
    opKeys := [], instCreds := [], caks := [], siVerify := [], siDecrypt := [], saks := [], makerKey := none,
    enrolKey := none, attestKey := none }
    [(HID.SEAL_OK, 0, 0), (HID.INST_LOCKS, 0, 255), (HID.SI_MIN_SVN, 0, 0), (HID.SI_ACTIVE_SLOT, 0, 0)]

/-- Boot resumes at step 2 of R82 (R115): the fuses are read and the known-answer tests run again (R88); halted there while
a latch of R94 holds. -/
def resumeBoot (b : BootTest) (s : State) : State :=
  if !flag s HID.RESET_HIGH 0 then s
  else if b = .fuseFail then halt (faultF 0x1F4 s)
  else if isSafe s then halt s
  else if b = .katFail then halt (faultF 0x1F3 s)
  else readHeaders (loadAgeMax (wrs s [(HID.KAT_OK, 0, 1), (HID.BOOT_STEP, 0, 3)]))

/-- Zeroisation (R115, R106): outputs safe, everything but the records a warm reset keeps is gone, keys are destroyed,
the lifecycle is RETIRED but in FACTORY, and the audit record's last entry is ZEROISE. The cryptographic error state is
left by a reset only (R124). The DETAIL of the LIFECYCLE entry, old state and new state, is the model's (DESIGN CHOICE, log
entry 85). -/
def zeroise (b : BootTest) (role cred handle : Nat) (s : State) : State :=
  let lc := rd s SEC_STATUS.LIFECYCLE 0
  let s1 := wr (wipeKeys (warmCore s)) SEC_STATUS.CRYPTO_ERR 0 (rd s SEC_STATUS.CRYPTO_ERR 0)
  let s2 := if lc == 0 || lc == 3 then s1
    else audit (wr s1 SEC_STATUS.LIFECYCLE 0 3) 8 role cred handle 0 0 (bytesOf [lc, 3])
  resumeBoot b (audit s2 0xC role cred handle 0 0 [])

/-- ZEROIZE_PIN (R59): ZEROIZE_N low for 1 ms, in any state. -/
def execZeroizePin (b : BootTest) (s : State) : Host.Outcome State Fault Refusal :=
  .next (zeroise b 0 0 0xFF (wrs s [(GLB_PIN_STAT.ZEROIZE, 0, 1), (GLB_PIN_STAT.ZEROIZE_SEEN, 0, 1)]))

/-! ## Session commands -/

/-- SESSION_INFO's DATA: handle, role, credential, rings bound, idle time (R104). -/
def infoData (s : State) (a : Acc) : Nat :=
  let idle := match tabGet s.sessions (a.handle, 0) with
    | some x => msSince s x.lastTick
    | none => 0
  a.handle + 2 ^ 6 * a.role + 2 ^ 8 * a.cred + 2 ^ 12 * (ringsOf s a.handle).length + 2 ^ 32 * (idle % 2 ^ 32)

/-- SESSION_INFO (R104). -/
def opSessionInfo : OpSpec :=
  ⟨0x10, 2, false, false, fun _ a => badIf (a.cmd.ptr && a.cmd.buf.length != 32), noTargets, noCheck,
    fun _ a s =>
      let s1 := if a.cmd.ptr then toHost s (opd a 0x10 8) (leBytes 32 (bitmapOf (ringsOf s a.handle))) else s
      .done s1 (rData (infoData s a))⟩

/-- SESSION_CLOSE (R104): the issuing session once this completion is written; an Installer may name another. -/
def opSessionClose : OpSpec :=
  ⟨0x11, 0, false, false, fun _ a => badIf (opdBit a 0x10 0 && 63 < opdB a 0x11), noTargets,
    fun s a =>
      if !opdBit a 0x10 0 then none
      else if a.role != 2 then some (rStat .denied)
      else invIf (tabGet s.sessions (opdB a 0x11, 0)).isNone,
    fun _ a s => .doneThen s rOk (fun t => closeSession t (if opdBit a 0x10 0 then opdB a 0x11 else a.handle))⟩

/-- RING_BIND (R104, R132). -/
def opRingBind : OpSpec :=
  ⟨0x12, 0, false, false, fun _ a => badIf (1 < a.cmd.aux), noTargets,
    fun s a =>
      let rs := ringBits (leVal a.cmd.payload)
      if a.cmd.aux == 1 then invIf (rs.any (fun r => (ringOf s r).bound != some a.handle || (ringOf s r).draining))
      else if rs.any (ringUnfit s) || (tabGet s.sessions (a.handle, 0)).isNone then some (rInv 0)
      else if rs.any (fun r => (ringOf s r).draining) then some (rStat .busy)
      else none,
    fun r a s =>
      let rs := ringBits (leVal a.cmd.payload)
      if a.cmd.aux == 0 then .done (rs.foldl (bindRing a.handle) s) rOk
      else
        .doneThen ((rs.filter (· != r)).foldl drainRing s) rOk (fun t => if rs.contains r then drainRing t r else t)⟩

/-- A secret of a command, opened under k_xport (R105, R112). -/
def openSecret (r : Nat) (a : Acc) (ct tag : List Byte) : Option (List Byte) :=
  Config.gcmOpen a.kX (cmdIv a.handle r a.cmd.seq) (headerBytes a.cmd) ct tag

/-- OPKEY_SET (R104, R105). DETAIL of the KEY_CHANGE entry, here and in the commands below the slot number in its first
byte, is the model's (DESIGN CHOICE, log entry 85). -/
def opOpkeySet : OpSpec :=
  ⟨0x14, 1, false, false, fun _ a => badIf (15 < opdB a 0x1C || a.cmd.buf.length != 64), noTargets,
    fun s _ => invIf (noKeySteps s),
    fun r a s =>
      match openSecret r a (sliceOf a.cmd.buf 0 48) (sliceOf a.cmd.buf 48 16) with
      | none => .done s (rInv 0xFFFF)
      | some key =>
        let n := opdB a 0x1C
        let s1 := keyStep { s with opKeys := tabPut s.opKeys (n, 0) (BitVec.ofNat 384 (leVal key)) }
        .doneThen (audit s1 7 a.role a.cred a.handle 0x14 0 (bytesOf [n])) rOk (fun t => closeCred t 1 n)⟩

/-- OPKEY_REVOKE (R104). -/
def opOpkeyRevoke : OpSpec :=
  ⟨0x15, 0, false, false, fun _ a => badIf (15 < opdB a 0x10), noTargets,
    fun s a => invIf ((tabGet s.opKeys (opdB a 0x10, 0)).isSome && noKeySteps s),
    fun _ a s =>
      let n := opdB a 0x10
      if (tabGet s.opKeys (n, 0)).isNone then .done s rOk
      else
        let s1 := keyStep { s with opKeys := tabDel s.opKeys (n, 0) }
        .doneThen (audit s1 7 a.role a.cred a.handle 0x15 0 (bytesOf [n])) rOk (fun t => closeCred t 1 n)⟩

/-- An INSTCRED_SET buffer out of its ranges (R105). -/
def instBad (b : List Byte) : Bool :=
  b.length != 112 || 1 < leAt b 0 1 || leAt b 1 3 != 0 || leAt b 0x68 8 != 0
    || (leAt b 0 1 == 0 && (leAt b 4 4 != 0 || leAt b 8 32 != 0))
    || (leAt b 0 1 == 1 && (leAt b 4 4 < 100000 || 10000000 < leAt b 4 4))

/-- INSTCRED_SET (R104, R105). -/
def opInstcredSet : OpSpec :=
  ⟨0x16, 1, false, false, fun _ a => badIf (3 < opdB a 0x1C || instBad a.cmd.buf), noTargets,
    fun s _ => invIf (noKeySteps s),
    fun r a s =>
      match openSecret r a (sliceOf a.cmd.buf 0x28 48) (sliceOf a.cmd.buf 0x58 16) with
      | none => .done s (rInv 0xFFFF)
      | some key =>
        let n := opdB a 0x1C
        let c : InstCred := ⟨opdBuf a 0 1 == 1, opdBuf a 4 4, BitVec.ofNat 256 (opdBuf a 8 32), BitVec.ofNat 384 (leVal key)⟩
        let s1 := keyStep { s with instCreds := tabPut s.instCreds (n, 0) c }
        .doneThen (audit s1 7 a.role a.cred a.handle 0x16 0 (bytesOf [n])) rOk (fun t => closeCred t 2 n)⟩

/-- INSTCRED_REVOKE (R103, R104): never the last filled slot or the issuing session's own. -/
def opInstcredRevoke : OpSpec :=
  ⟨0x17, 0, false, false, fun _ a => badIf (3 < opdB a 0x10), noTargets,
    fun s a =>
      if (tabGet s.instCreds (opdB a 0x10, 0)).isNone then none
      else invIf (s.instCreds.length ≤ 1 || (a.role == 2 && a.cred == opdB a 0x10) || noKeySteps s),
    fun _ a s =>
      let n := opdB a 0x10
      if (tabGet s.instCreds (n, 0)).isNone then .done s rOk
      else
        let s1 := keyStep { s with instCreds := tabDel s.instCreds (n, 0) }
        .doneThen (audit s1 7 a.role a.cred a.handle 0x17 0 (bytesOf [n])) rOk (fun t => closeCred t 2 n)⟩

/-- LC_TRANSITION (R104, R106, R108). A wrong TARGET outside an armed window meets INVALID before DENIED, an order the rules
do not state (DESIGN CHOICE, log entry 97). -/
def opLcTransition (b : BootTest) : OpSpec :=
  ⟨0x18, 0, false, false, noBad, noTargets,
    fun s a =>
      let lc := rd s SEC_STATUS.LIFECYCLE 0
      if opdB a 0x10 != lc + 1 || lc == 3 then some (rInv 0)
      else if lc == 0 then
        invIf (s.makerKey.isNone || s.attestKey.isNone || !flag s HID.CERT_OK 0 || s.enrolKey.isNone)
      else if !flag s SEC_STATUS.RETURN_ARMED 0 || lc == 1 then some (rStat .denied)
      else none,
    fun _ a s =>
      if rd s SEC_STATUS.LIFECYCLE 0 == 0 then
        .doneThen s rOk (fun t => audit (closeAll (wr t SEC_STATUS.LIFECYCLE 0 1)) 8 a.role a.cred a.handle 0x18 0 (bytesOf [0, 1]))
      else .doneThen s rOk (zeroise b a.role a.cred a.handle)⟩

/-- RETURN_APPROVE (R108). -/
def opReturnApprove : OpSpec :=
  ⟨0x19, 0, false, false, noBad, noTargets, noCheck,
    fun _ _ s => .done (wrs s [(SEC_STATUS.RETURN_ARMED, 0, 1), (HID.RETURN_AT, 0, rd s HID.TICKS 0)]) rOk⟩

/-- ZEROIZE (R104, R115): the completion is written first. -/
def opZeroize (b : BootTest) : OpSpec :=
  ⟨0x1A, 0, false, false, noBad, noTargets, fun _ a => invIf (opd a 0x10 4 != 0x4F52455A),
    fun _ a s => .doneThen s rOk (zeroise b a.role a.cred a.handle)⟩

/-! ## Audit export and attestation -/

/-- The 128 bytes of an audit entry. -/
def auditEntryBytes (e : AuditEntry) : List Byte := auditBytes e ++ leBytes 48 e.chain.toNat

/-- A signature under the attestation key, zero once it is destroyed (R120, R122). -/
def signWith (s : State) (msg : List Byte) : List Byte :=
  match s.attestKey with
  | some k => (Config.ecdsaSign k msg s.freeCnt ++ leBytes 96 0).take 96
  | none => leBytes 96 0

/-- The entries AUDIT_EXPORT writes (R120). -/
def exportEntries (s : State) (a : Acc) : List AuditEntry :=
  (s.audit.filter (fun e => opd a 0x20 8 ≤ e.seq)).take ((a.cmd.buf.length - 192) / 128)

/-- The entries an export has written are marked: their loss later does not count (R119). -/
def markExported (s : State) (seqs : List Nat) : State :=
  { s with audit := s.audit.map (fun e => if seqs.contains e.seq then { e with exported := true } else e) }

/-- AUDIT_EXPORT (R120). -/
def opAuditExport : OpSpec :=
  ⟨0x1B, 1, false, false, fun _ a => badIf (a.cmd.buf.length < 320), noTargets,
    fun s a => invIf (!s.audit.any (fun e => e.seq == opd a 0x20 8)),
    fun _ a s =>
      let es := exportEntries s a
      let last := es.getLast?
      let lastSeq := (last.map (·.seq)).getD 0
      let head := serialBytes ++ leBytes 8 (opd a 0x20 8) ++ leBytes 8 lastSeq ++ leBytes 4 (rd s SEC_AUDIT_STAT.LOST 0)
        ++ leBytes 12 0 ++ leBytes 48 ((last.map (·.chain.toNat)).getD 0)
      let s1 := toHost (took s) (opd a 0x10 8) (es.flatMap auditEntryBytes ++ head ++ signWith s head)
      .done (wr (markExported s1 (es.map (·.seq))) SEC_AUDIT_STAT.EXPORT_SEQ 0 lastSeq) (rData es.length)⟩

/-- APPROVED (R123). -/
def approved (s : State) : Bool :=
  (rd s SEC_STATUS.LIFECYCLE 0 == 1 || rd s SEC_STATUS.LIFECYCLE 0 == 2) && flag s HID.KAT_OK 0
    && !flag s SEC_STATUS.CRYPTO_ERR 0

/-- The report up to its signature (R122). -/
def attestBody (s : State) (nonce : List Byte) : List Byte :=
  let regions := (curGen s).regions
  let last := s.audit.getLast?
  let fw := fwSlot s (rd s GLB_BOOT_STAT.FW_SLOT 0)
  (nonce ++ leBytes 32 0).take 32 ++ serialBytes
    ++ bytesOf [rd s SEC_STATUS.LIFECYCLE 0, b2n (approved s) + 2 * b2n s.attestKey.isSome + 4 * rd s TIM_STATUS.LOCK 0,
      rd s GLB_BOOT_STAT.FW_SLOT 0, regions.length]
    ++ leBytes 4 (rd s HID.FW_SVN_FULL 0) ++ leBytes 4 (rd s HID.MIN_FW_SVN 0)
    ++ leBytes 2 (4095 - rd s SEC_STATUS.KS_LEFT 0) ++ leBytes 2 (ceilUsed s)
    ++ timeBytes (localTime s) ++ leBytes 6 0
    ++ leBytes 8 ((last.map (·.seq)).getD 0) ++ leBytes 48 ((last.map (·.chain.toNat)).getD 0)
    ++ leBytes 48 (Config.sha384 (fw.take (leAt fw 0xC 4))).toNat ++ leBytes 8 (rd s GLB_SI_INFO.IMAGE_ID 0)
    ++ regions.flatMap (fun e => leBytes 2 e.1.1 ++ leBytes 6 0 ++ leBytes 48 e.2.digest.toNat)

/-- The whole report: body, signature, certificate (R121, R122). -/
def attestReport (s : State) (nonce : List Byte) : List Byte :=
  let body := attestBody s nonce
  let cert := if s.attestKey.isSome then Config.certificate.take 4096 else []
  body ++ signWith s body ++ leBytes 4 cert.length ++ cert

/-- ATTEST (R121, R122). -/
def opAttest : OpSpec :=
  ⟨0x1C, 1, false, false, fun _ a => badIf (a.cmd.buf.length < 8192), noTargets, noCheck,
    fun _ a s =>
      let rep := attestReport s (a.cmd.buf.take 32)
      .done (toHost (took s) (opd a 0x10 8) rep) (rData rep.length)⟩

/-! ## Firmware -/

/-- The slot FW_WRITE writes: the one not running; slot A while none runs (log entry 18). -/
def fwTarget (s : State) : Nat := if rd s GLB_BOOT_STAT.FW_SLOT 0 == 0 then 1 else 0

/-- A piece of a firmware image that breaks the order of R104. -/
def pieceBad (s : State) (a : Acc) : Bool :=
  let off := opd a 0x20 4
  let n := a.cmd.buf.length
  off % 4096 != 0 || 0x400000 < off + n || (!opdBit a 0x1C 0 && n % 4096 != 0)
    || (off != 0 && (!flag s HID.FW_WR_ON 0 || rd s HID.FW_WR_END 0 != off))

/-- The slot's content with a piece added; offset 0 erases it first (R104). -/
def putPiece (s : State) (slot : Nat) (off : Nat) (b : List Byte) : State :=
  { s with flash := tabPut s.flash (slot, 0) ((if off == 0 then [] else fwSlot s slot) ++ b) }

/-- FW_WRITE (R104, R117): pieces in order; the last one verifies the slot. In recovery a slot that verifies restarts the
boot ROM at step 3 of R82 (R89). -/
def opFwWrite : OpSpec :=
  ⟨0x1D, 1, false, false, noBad, noTargets, fun s a => invIf (pieceBad s a),
    fun _ a s =>
      let n := fwTarget s
      let off := opd a 0x20 4
      let s1 := wrs (putPiece s n off a.cmd.buf) [(HID.FW_WR_ON, 0, b2n (!opdBit a 0x1C 0)),
        (HID.FW_WR_END, 0, off + a.cmd.buf.length)]
      if !opdBit a 0x1C 0 then .done s1 rOk
      else
        let code := fwFail s1 (fwSlot s1 n) true
        if code != 0 then
          .done (if n == 0 then wr s1 GLB_BOOT_FAIL.FW_A 0 code else wr s1 GLB_BOOT_FAIL.FW_B 0 code) (rInv 0)
        else if rd s GLB_BOOT_STAT.STAGE 0 == 8 then
          .doneThen s1 rOk (fun t => readHeaders (wrs t [(GLB_BOOT_STAT.STAGE, 0, 0), (HID.BOOT_STEP, 0, 3), (HID.FW_TRIED, 0, 0)]))
        else .done s1 rOk⟩

/-- FW_RESTART (R117): commands are no longer accepted; the completion comes with the new firmware, or the old. -/
def opFwRestart : OpSpec :=
  ⟨0x1E, 0, false, false, noBad, noTargets, noCheck, fun _ _ s => .wait (wr s HID.RESTARTING 0 1) []⟩

/-- Every accepted command but the restart itself, and SUBMITs of landings that go on, has completed (R114, R117). -/
def restartReady (s : State) : Bool :=
  flag s HID.RESTARTING 0 && s.rings.all (fun e => e.2.accepted.isEmpty && e.2.resumed.isEmpty)
    && s.running.all (fun x => waitsOn 0x1E [] x || waitsOn 0x21 [] x)

/-- The restart ends: sessions closed, the completion posted under R114. -/
def restartEnd (s : State) (p : Reply) : State :=
  complete (waitsOn 0x1E []) p (closeAll (wr s HID.RESTARTING 0 0))

/-- FW_RESTART_DONE (R117): the other slot runs; the data half has kept running. -/
def execFwRestartDone (s : State) : Host.Outcome State Fault Refusal :=
  let n := fwTarget s
  .next (if restartReady s && fwFail s (fwSlot s n) true == 0 then restartEnd (fwRun s n) rOk else s)

/-- FW_RESTART_TIMEOUT (R117): the new firmware did not start within 2 s; the old slot is restarted. -/
def execFwRestartTimeout (s : State) : Host.Outcome State Fault Refusal :=
  .next (if restartReady s then restartEnd s (rStat .timeout) else s)

/-- FW_COMMIT (R117): the fuse minimum rises to the running SVN. -/
def opFwCommit : OpSpec :=
  ⟨0x1F, 0, false, false, noBad, noTargets, noCheck,
    fun _ _ s => .done (wr s HID.MIN_FW_SVN 0 (max (rd s HID.MIN_FW_SVN 0) (rd s HID.FW_SVN_FULL 0))) rOk⟩

def execSessionInfo (r : Ring) (s : State) : Host.Outcome State Fault Refusal := .next (dispatch opSessionInfo r.val s)
def execSessionClose (r : Ring) (s : State) : Host.Outcome State Fault Refusal := .next (dispatch opSessionClose r.val s)
def execRingBind (r : Ring) (s : State) : Host.Outcome State Fault Refusal := .next (dispatch opRingBind r.val s)
def execOpkeySet (r : Ring) (s : State) : Host.Outcome State Fault Refusal := .next (dispatch opOpkeySet r.val s)
def execOpkeyRevoke (r : Ring) (s : State) : Host.Outcome State Fault Refusal := .next (dispatch opOpkeyRevoke r.val s)
def execInstcredSet (r : Ring) (s : State) : Host.Outcome State Fault Refusal := .next (dispatch opInstcredSet r.val s)
def execInstcredRevoke (r : Ring) (s : State) : Host.Outcome State Fault Refusal :=
  .next (dispatch opInstcredRevoke r.val s)
def execLcTransition (r : Ring) (b : BootTest) (s : State) : Host.Outcome State Fault Refusal :=
  .next (dispatch (opLcTransition b) r.val s)
def execReturnApprove (r : Ring) (s : State) : Host.Outcome State Fault Refusal := .next (dispatch opReturnApprove r.val s)
def execZeroize (r : Ring) (b : BootTest) (s : State) : Host.Outcome State Fault Refusal :=
  .next (dispatch (opZeroize b) r.val s)
def execAuditExport (r : Ring) (s : State) : Host.Outcome State Fault Refusal := .next (dispatch opAuditExport r.val s)
def execAttest (r : Ring) (s : State) : Host.Outcome State Fault Refusal := .next (dispatch opAttest r.val s)
def execFwWrite (r : Ring) (s : State) : Host.Outcome State Fault Refusal := .next (dispatch opFwWrite r.val s)
def execFwRestart (r : Ring) (s : State) : Host.Outcome State Fault Refusal := .next (dispatch opFwRestart r.val s)
def execFwCommit (r : Ring) (s : State) : Host.Outcome State Fault Refusal := .next (dispatch opFwCommit r.val s)

/-- The JTAG port responds: in FACTORY and RETIRED only. In SEALED and INSTALLED TDO stays at high impedance (R45). What the
port does where it responds is the manufacturing test engine's, of which no rule tells (log entry 57). -/
def jtagResponds (s : State) : Bool := rd s SEC_STATUS.LIFECYCLE 0 == 0 || rd s SEC_STATUS.LIFECYCLE 0 == 3

end Sys2Proof.Machine
end

