-- ==== Sys2Proof/Machine/Rings.lean ====
section
/-! DEFINITION. Rings, queues and plain MMIO: fetching and the checks of R113, doorbells (R133, R500), geometry (R131,
R132), ring faults (R146), interrupts (R147), ring-control opcodes (R139 to R145), event queues (R148, R149), punt rings
(R151) and host reset (R152). Register commands stand in Regio.lean. -/

namespace Sys2Proof.Machine

/-! ## Plain writes -/

/-- A plain write is dropped (R130). -/
def dropWrite (bar off : Nat) (s : State) : State :=
  faultC 0x300 (wrs (bump (perf s { perfE 0x04 1 with addr := off }) HIF_MMIO_DROP.COUNT 0)
    [(HIF_MMIO_DROP.BAR, 0, bar), (HIF_MMIO_DROP.OFFSET, 0, off), (HIF_STATUS.MMIO_DROP, 0, 1)])

/-- A BAR0 read meets an unpowered block, a domain in S2 or S3, or hall 1 held (R84, R88, R129); in recovery, any block but
GLB and SEC (R89). -/
def readAsleep (s : State) (off : Nat) : Bool :=
  if rd s GLB_BOOT_STAT.STAGE 0 == 8 && 0x200000 ≤ off then true
  else
    match findReg off with
    | none => false
    | some (r, i, _) =>
      !auxBlock off && (!powered s || hallOff s off || (match regDom r i with
        | some d => decide (2 ≤ domSt s d)
        | none => false))

/-- The die of a BAR0 offset's storage, as MEM_SRAM_STAT numbers dies: line dies 0-7, gallery dies 8-11, halls 12-13
(R453). Blocks on no line or gallery die stand in hall 0 (DEDUCED). -/
def storeDie (off : Nat) : Nat :=
  match findReg off with
  | none => 12
  | some (r, i, _) =>
    match regDom r i with
    | none => 12
    | some d =>
      let k := domIdx d
      match domKind d with
      | 0 => k / 8
      | 1 => 8 + galDie k
      | 4 => k / 8
      | 3 => if 0xD00000 ≤ r.base then k else 12
      | _ => 12

/-- A command's or a plain read meets an uncorrectable error in the storage of a register: counted, contained fault
(R457). -/
def storeErr (s : State) (off : Nat) : State :=
  faultK (0x950 + storeDie off) (bump s MEM_SRAM_STAT.UNCORR (storeDie off))

/-- An all-ones read leaves its mark (R129). -/
def onesRead (s : State) (off : Nat) (f : Fld) (kind : Nat) : State :=
  wrs (perf s { perfE 0x03 1 with addr := off }) [(f, 0, 1), (HIF_ONES_ADDR.OFFSET, 0, off), (HIF_ONES_ADDR.KIND, 0, kind)]

/-! ## Rights (R101) -/

/-- Opcodes an Operator may issue. -/
def operatorOps : List Nat :=
  [0x00, 0x01, 0x02, 0x03, 0x04, 0x05, 0x06, 0x10, 0x11, 0x12, 0x1B, 0x1C, 0x20, 0x21, 0x22, 0x23, 0x30, 0x31, 0x32, 0x33,
   0x34, 0x35, 0x36, 0x37, 0x38, 0x39, 0x50, 0x51, 0x52, 0x53, 0x54, 0x55, 0x5F, 0x60, 0x61, 0x62, 0x63, 0x64, 0x65, 0x66,
   0x70, 0x71, 0x72, 0x73, 0x74, 0x75, 0x90, 0x91, 0x96, 0xA2, 0xAA, 0xB0, 0xB1, 0xB2, 0xB3, 0xB4, 0xB5, 0xC0, 0xC1, 0xC3,
   0xC4]

/-- Opcodes that need the Installer, or the Maker in FACTORY or RETIRED. -/
def installerOps : List Nat :=
  [0x1A, 0x1D, 0x1E, 0x1F, 0x40, 0x41, 0x42, 0x43, 0x44, 0x45, 0x46, 0x47, 0x48, 0x80, 0x81, 0x82, 0x83, 0x84, 0x85, 0x86,
   0x88, 0x89, 0x8A, 0x8B, 0x8C, 0x92, 0x93, 0x94, 0x95, 0xA0, 0xA1, 0xA6, 0xA7, 0xA8, 0xA9, 0xC2]

/-- Opcodes of the Installer alone: keys, credentials, return approval, CAKs. -/
def ownerOps : List Nat := [0x14, 0x15, 0x16, 0x17, 0x19, 0x7E, 0x7F]

/-- Opcodes a Maker may issue in SEALED and INSTALLED. -/
def makerOps : List Nat :=
  [0x00, 0x02, 0x03, 0x04, 0x05, 0x06, 0x10, 0x11, 0x12, 0x18, 0x1B, 0x1C, 0x36, 0xAA]

/-- An opcode the manual assigns. Those of 0xF0-0xFF it does not describe. -/
def assigned (op : Nat) : Bool :=
  operatorOps.contains op || installerOps.contains op || ownerOps.contains op || op == 0x18

/-- Maker-only opcodes, 0xF0 to 0xFF, of a Maker in FACTORY or RETIRED (R101). -/
def makerOnly (s : State) (role op : Nat) : Bool :=
  0xF0 ≤ op && op ≤ 0xFF && role == 3 && (rd s SEC_STATUS.LIFECYCLE 0 == 0 || rd s SEC_STATUS.LIFECYCLE 0 == 3)

/-- The role, in the lifecycle state, admits a command (R101, check 4 of R113). An unassigned opcode admits no role; the
command engine completes it (R138). -/
def admits (s : State) (role : Nat) (c : Cmd) : Bool :=
  let op := c.opcode
  let lc := rd s SEC_STATUS.LIFECYCLE 0
  if !assigned op then true
  else if role == 1 then
    operatorOps.contains op && !((op == 0xC3 || op == 0xC4) && 32 ≤ leAt c.payload 0 1)
  else if role == 2 then op != 0x18
  else if lc == 1 || lc == 2 then makerOps.contains op
  else !ownerOps.contains op

/-! ## Fetching and checking (R113, R133) -/

/-- What a command's tag covers: header, payload and buffer (R112). -/
def macMessage (c : Cmd) : List Byte :=
  headerBytes c ++ c.payload ++ (if c.ptr then c.buf else [])

/-- The tag of a command verifies under its session's key (R112). -/
def tagOk (x : Sess) (h r : Nat) (c : Cmd) : Bool :=
  Config.gmac x.kCmd (cmdIv h r c.seq) (macMessage c) == c.gmac

/-- A command that failed a check before it was accepted. -/
def unaccepted (c : Cmd) (handle role cred : Nat) : Acc := ⟨c, handle, role, cred, 0, false⟩

/-- The eighth consecutive BADMAC of a ring closes its session (R113). -/
def badMacClose (s : State) (r h : Nat) : State :=
  if 8 ≤ (ringOf s r).badMac then
    closeSession (faultC 0x102 (audit s 0xE 0 0 h 0 2 [])) h
  else s

/-- The device takes no commands while firmware restarts (R117) or after a failed self-test (R124). -/
def acceptStatus (s : State) : Option Status :=
  if flag s SEC_STATUS.CRYPTO_ERR 0 then some .denied
  else if flag s HID.RESTARTING 0 then some .busy
  else none

/-- One fetched entry: the checks of R113 in order; a command that passes joins the ring's queue. -/
def fetchOne (r : Nat) (s : State) (c : Cmd) : State :=
  let q0 := ringOf s r
  let s0 := perf s { perfE 0x05 (64 + c.buf.length) with kind := 1, index := r }
  let s1 := setRing s0 r { q0 with sqHead := (q0.sqHead + 1) % 2 ^ q0.sqLog2 }
  match q0.bound with
  | none => finish s1 r (unaccepted c 0xFF 0 0) (rStat .denied)
  | some h =>
    match tabGet s1.sessions (h, 0) with
    | none => finish s1 r (unaccepted c 0xFF 0 0) (rStat .denied)
    | some x =>
      match acceptStatus s1 with
      | some st => finish s1 r (unaccepted c h 0 0) (rStat st)
      | none =>
        if 2 ^ 40 ≤ q0.seq then finish s1 r (unaccepted c h 0 0) (rStat .denied)
        else if c.seq != q0.seq + 1 || !tagOk x h r c then
          badMacClose (finish s1 r (unaccepted c h 0 0) (rStat .badMac)) r h
        else
          let s2 := { s1 with sessions := tabPut s1.sessions (h, 0) { x with lastTick := rd s1 HID.TICKS 0 } }
          let s3 := perf (setRing s2 r { ringOf s2 r with seq := c.seq })
            { perfE 0x01 1 with role := 2 ^ x.role / 2, kind := 1, index := r }
          let a : Acc := ⟨c, h, x.role, x.cred, x.kXport, false⟩
          if !admits s x.role c then finish s3 r (unaccepted c h x.role x.cred) (rStat .denied)
          else
            match roleDenied a with
            | some p => finish s3 r a p
            | none => setRing s3 r { ringOf s3 r with accepted := (ringOf s3 r).accepted ++ [a] }

/-- The ring fetches: neither draining nor stopped by an error; the device is not halted, in recovery only ring 0 runs
(R88, R89), and no bus mastering in D3hot (R152). -/
def fetches (s : State) (r : Nat) : Bool :=
  let q := ringOf s r
  q.size != 0 && !q.draining && !q.error && flag s HIF_STATUS.LINK_UP 0 && !flag s HID.D3HOT 0
    && rd s GLB_BOOT_STAT.STAGE 0 != 9 && (rd s GLB_BOOT_STAT.STAGE 0 != 8 || r == 0)

/-- At most n of the ring's entries that lie ahead of the tail are fetched, one by one, while the ring may fetch and has
fewer than 4 096 commands outstanding; the others are fetched once it has room again (R133). -/
def fetchAll (r : Nat) : Nat → State → State
  | 0, s => s
  | n + 1, s =>
    match (ringOf s r).unread with
    | [] => s
    | c :: t =>
      if fetches s r && outstanding s r < 4096 then
        let u := idleUse s
        fetchAll r n (fetchOne r (setRing u r { ringOf u r with unread := t }) c)
      else s

/-- Ring r goes on fetching what lies ahead of its tail (R133). -/
def fetchMore (s : State) (r : Nat) : State := fetchAll r (ringOf s r).unread.length s

/-- Every ring that has entries ahead goes on fetching (R133). -/
def fetchEvery (s : State) : State :=
  ((s.rings.filter (fun e => !e.2.unread.isEmpty)).map (·.1.1)).foldl fetchMore s

/-- An index at or above its queue's size, or of a queue that is not set up (R500). -/
def badIndex (idx log2 : Nat) (up : Bool) : Bool := !up || 2 ^ log2 ≤ idx

/-- SQ_DOORBELL (R133, R113, R500): the tail moves, and the entries from SQ head up to it, which the command brings, are
fetched. -/
def execSqDoorbell (r : Ring) (idx : BitVec 32) (es : List Cmd) (s : State) : Host.Outcome State Fault Refusal :=
  let q := ringOf s r.val
  .next (
    if badIndex idx.toNat q.sqLog2 (q.size != 0) then dropWrite 1 (r.val * 0x10000) s
    else
      let n := (idx.toNat + 2 ^ q.sqLog2 - q.sqHead) % 2 ^ q.sqLog2
      fetchMore (setRing s r.val { q with sqTail := idx.toNat, unread := es.take n }) r.val)

/-- CQ_DOORBELL (R133, R500): completions up to the index are consumed, and held ones are written. -/
def execCqDoorbell (r : Ring) (idx : BitVec 32) (s : State) : Host.Outcome State Fault Refusal :=
  let q := ringOf s r.val
  .next (
    if badIndex idx.toNat q.cqLog2 (q.size != 0) then dropWrite 1 (r.val * 0x10000 + 8) s
    else
      let n := (idx.toNat + 2 ^ q.cqLog2 - q.cqHead) % 2 ^ q.cqLog2
      let s1 := setRing s r.val { q with cqHead := idx.toNat, cq := q.cq.drop n }
      fetchMore (settleRing (drainCq s1 r.val q.cqWait.length) r.val) r.val)

/-- A nonzero HIF_RG_SIZE with a log2 size outside 6 to 16 (R131). -/
def sizeBad (v : Nat) : Bool :=
  v != 0 && (bitsOf v 0 5 < 6 || 16 < bitsOf v 0 5 || bitsOf v 8 5 < 6 || 16 < bitsOf v 8 5)

/-- The defined bits of HIF_RG_SIZE. -/
def sizeBits (v : Nat) : Nat :=
  bitsOf v 0 5 + 2 ^ 8 * bitsOf v 8 5 + 2 ^ 16 * bitsOf v 16 11 + 2 ^ 31 * bitsOf v 31 1

/-- RING_GEOMETRY_WRITE (R131, R132): dropped while the ring is bound. -/
def execRingGeometryWrite (r : Ring) (reg : GeoReg) (v : BitVec 64) (s : State) : Host.Outcome State Fault Refusal :=
  let q := ringOf s r.val
  let page := r.val * 0x10000
  .next (match reg with
    | .sqBase => if q.bound.isSome then dropWrite 1 (page + 0x100) s
        else setRing s r.val { q with sqBase := v.toNat / 4096 * 4096 }
    | .cqBase => if q.bound.isSome then dropWrite 1 (page + 0x108) s
        else setRing s r.val { q with cqBase := v.toNat / 4096 * 4096 }
    | .size => if q.bound.isSome || sizeBad (v.toNat % 2 ^ 32) then dropWrite 1 (page + 0x110) s
        else setRing s r.val { q with size := sizeBits v.toNat })

/-- HIF_RG_IRQ_WRITE (R131): COUNT and USEC. -/
def execHifRgIrqWrite (r : Ring) (v : BitVec 32) (s : State) : Host.Outcome State Fault Refusal :=
  .next (setRing s r.val { ringOf s r.val with irq := v.toNat % 2 ^ 24 })

/-- RING_IRQ_TIMEOUT (R147): USEC microseconds after the first completion without an interrupt. -/
def execRingIrqTimeout (r : Ring) (s : State) : Host.Outcome State Fault Refusal :=
  let q := ringOf s r.val
  .next (if q.irqEn && q.batch != 0 then sendIrq (setRing s r.val { q with batch := 0 }) q.vector else s)

/-- RING_FETCH_ERROR (R146): the ring stops, the command completes ABORTED, its sequence number is not consumed. -/
def execRingFetchError (r : Ring) (tag : BitVec 16) (s : State) : Host.Outcome State Fault Refusal :=
  let q := ringOf s r.val
  .next (
    if q.bound.isNone || q.error || q.draining then s
    else
      let s1 := setRing s r.val { q with error := true, unread := [] }
      faultC 0x301 (finish s1 r.val (unaccepted { (default : Cmd) with tag := tag.toNat } (q.bound.getD 0xFF) 0 0)
        (rStat .aborted)))

/-- RING_CQ_WRITE_ERROR (R146). -/
def execRingCqWriteError (r : Ring) (s : State) : Host.Outcome State Fault Refusal :=
  let q := ringOf s r.val
  .next (if q.bound.isNone || q.error then s else faultC 0x302 (setRing s r.val { q with error := true }))

/-! ## Ring-control opcodes -/

/-- The statuses a Maker-only command may complete with: which, the manual does not say. -/
def freeStatus (n : Nat) : Status :=
  [Status.ok, .denied, .badMac, .late, .lateDrain, .busy, .noPower, .uncorr, .timeout, .invalid, .aborted].getD (n % 11) .ok

/-- OPCODE_UNASSIGNED (R113, R138): the front command of the ring, its opcode unassigned, completes with DENIED. A
Maker-only command of a Maker in FACTORY or RETIRED is admitted (R101), and what it does is not described: it completes
with a free status and result (log entry 57). -/
def execOpcodeUnassigned (r : Ring) (s : State) : Host.Outcome State Fault Refusal :=
  .next (match (ringOf s r.val).resumed, (ringOf s r.val).accepted with
    | [], a :: _ =>
      if assigned a.cmd.opcode || ringHeld s r.val || ((ringOf s r.val).error && !(ringOf s r.val).draining) then s
      else if makerOnly s a.role a.cmd.opcode then
        finish (took (took (popFront s r.val))) r.val a
          ⟨freeStatus (freeNat s), Config.freeValue (s.freeCnt + 1) % 65536, some (freeNat s % 2 ^ 64), false⟩
      else finish (popFront s r.val) r.val a (rStat .denied)
    | _, _ => s)

/-- NOP (R145). -/
def opNop : OpSpec := ⟨0x00, 0, false, false, noBad, noTargets, noCheck, fun _ _ s => .done s rOk⟩

/-- The FENCE's completion: DETAIL counts the non-OK completions since the last one (R140). -/
def fenceReply (s : State) (r : Nat) : Reply := ⟨.ok, (ringOf s r).nonOk, none, false⟩

/-- FENCE (R140): completes at once when nothing earlier runs, otherwise waits. -/
def opFence : OpSpec :=
  ⟨0x03, 0, false, false, noBad, noTargets, noCheck,
    fun r _ s =>
      if s.running.any (fun x => x.ring == r) then .wait s []
      else .doneThen s (fenceReply s r) (fun t => setRing t r { ringOf t r with nonOk := 0 })⟩

/-- FENCE_RELEASE (R140): every earlier command of the ring has completed. -/
def execFenceRelease (r : Ring) (s : State) : Host.Outcome State Fault Refusal :=
  .next (match s.running.filter (fun x => x.ring == r.val) with
    | [x] =>
      if waitsOn 3 [] x && (ringOf s r.val).resumed.isEmpty then
        let s1 := finish (dropRun s r.val x.acc.cmd.tag) r.val x.acc (fenceReply s r.val)
        setRing s1 r.val { ringOf s1 r.val with nonOk := 0 }
      else s
    | _ => s)

/-- Barrier sets open, by session and ID. -/
def barriersOpen (s : State) : List (Nat × Nat × Nat) := (s.running.filterMap barrierSet).dedup

/-- BARRIER (R141). BUSY stands before the opcode's own refusals (R138). -/
def opBarrier : OpSpec :=
  ⟨0x04, 0, false, false, noBad, noTargets,
    fun s a =>
      let m := leVal a.cmd.payload
      let mine := (barriersOpen s).find? (fun k => k.1 == a.handle && k.2.1 == a.cmd.aux)
      if mine.isNone && 64 ≤ (barriersOpen s).length then some (rStat .busy)
      else invIf ((ringBits m).any (fun r => (ringOf s r).bound.isSome && (ringOf s r).bound != some a.handle)
        || (match mine with
            | some k => k.2.2 != m
            | none => false)),
    fun r a s =>
      let m := leVal a.cmd.payload
      if bitOf m r then .wait s [a.handle, a.cmd.aux, m] else .done s (rInv 0)⟩

/-- BARRIER_TIMEOUT (R141): every waiting BARRIER of the set completes with TIMEOUT. -/
def execBarrierTimeout (id : BitVec 16) (h : Fin 64) (s : State) : Host.Outcome State Fault Refusal :=
  .next (complete (waitsOn 4 [h.val, id.toNat]) (rStat .timeout) s)

def execNop (r : Ring) (s : State) : Host.Outcome State Fault Refusal := .next (dispatch opNop r.val s)
def execFence (r : Ring) (s : State) : Host.Outcome State Fault Refusal := .next (dispatch opFence r.val s)
def execBarrier (r : Ring) (s : State) : Host.Outcome State Fault Refusal :=
  .next (settleBarriers (faultC 0x103) (dispatch opBarrier r.val s))

/-! ## Event queues (R148, R149) -/

/-- Event queue q replaced. -/
def putEvq (s : State) (q : Nat) (e : EvQ) : State := { s with evqs := tabPut s.evqs (q, 0) e }

/-- A punt ring replaced. -/
def putPunt (s : State) (k : Key) (p : PuntRing) : State := { s with punts := tabPut s.punts k p }

/-- An EVQ_SETUP payload out of its ranges. -/
def evqBad (a : Acc) : Bool :=
  15 < opdB a 0x10 || opdB a 0x11 < 6 || 16 < opdB a 0x11 || 2047 < opd a 0x12 2 || opd a 0x18 8 % 4096 != 0
    || opd a 0x20 2 % 2 != 0 || 512 ≤ opd a 0x20 2

/-- The queue an EVQ_SETUP sets up. -/
def evqOf (a : Acc) : EvQ :=
  { base := opd a 0x18 8, log2 := opdB a 0x11, vector := opd a 0x12 2, irqEn := opdBit a 0x14 0, usec := opd a 0x16 2,
    types := opd a 0x20 2, head := 0, tail := 0, phase := true, lost := 0, held := false, owed := false, recs := [] }

/-- EVQ_SETUP (R149). -/
def opEvqSetup : OpSpec :=
  ⟨0x05, 0, false, false, fun _ a => badIf (evqBad a), noTargets,
    fun s a => invIf (tabGet s.evqs (opdB a 0x10, 0)).isSome,
    fun _ a s => .done (wr (putEvq s (opdB a 0x10) (evqOf a)) HIF_EVQ_STAT.ACTIVE (opdB a 0x10) 1) rOk⟩

/-- EVQ_CLOSE (R149). -/
def opEvqClose : OpSpec :=
  ⟨0x06, 0, false, false, fun _ a => badIf (15 < opdB a 0x10), noTargets, noCheck,
    fun _ a s => .done (wr { s with evqs := tabDel s.evqs (opdB a 0x10, 0) } HIF_EVQ_STAT.ACTIVE (opdB a 0x10) 0) rOk⟩

def execEvqSetup (r : Ring) (s : State) : Host.Outcome State Fault Refusal := .next (dispatch opEvqSetup r.val s)
def execEvqClose (r : Ring) (s : State) : Host.Outcome State Fault Refusal := .next (dispatch opEvqClose r.val s)

/-- The EVQ_LOST record of a queue that lost records and has a free slot (R148). -/
def evqLost (s : State) (q : Nat) : State :=
  match tabGet s.evqs (q, 0) with
  | none => s
  | some e =>
    if e.lost == 0 || ringFull e.head e.tail e.log2 || flag s HID.D3HOT 0 then s
    else
      let s1 := putEvq s q (evqWrite { e with lost := 0 } ⟨8, 0, 0, true, localTime s, leBytes 4 e.lost⟩)
      let s2 := toHost s1 (e.base + 32 * e.tail) (evBytes ⟨8, 0, 0, e.phase, localTime s, leBytes 4 e.lost⟩)
      if e.irqEn && !e.held then sendIrq s2 e.vector else s2

/-- EVQ_HEAD_DOORBELL (R149, R500). -/
def execEvqHeadDoorbell (q : Fin 16) (idx : BitVec 32) (s : State) : Host.Outcome State Fault Refusal :=
  .next (match tabGet s.evqs (q.val, 0) with
    | none => dropWrite 1 (0x1000 + 8 * q.val) s
    | some e =>
      if badIndex idx.toNat e.log2 true then dropWrite 1 (0x1000 + 8 * q.val) s
      else
        let n := (idx.toNat + 2 ^ e.log2 - e.head) % 2 ^ e.log2
        evqLost (putEvq s q.val { e with head := idx.toNat, recs := e.recs.drop n }) q.val)

/-- EVQ_IRQ_TIMEOUT (R149): the spacing ends; records written inside it interrupt now and start another. -/
def execEvqIrqTimeout (q : Fin 16) (s : State) : Host.Outcome State Fault Refusal :=
  .next (match tabGet s.evqs (q.val, 0) with
    | none => s
    | some e =>
      let s1 := putEvq s q.val { e with held := e.owed, owed := false }
      if e.owed then sendIrq s1 e.vector else s1)

/-! ## Punt rings (R150, R151) -/

/-- Key of a punt ring: queue, and 0 to host, 1 from host. -/
def puntKey (p : Nat) (fromHost : Bool) : Key := (p, b2n fromHost)

/-- A PUNT_SETUP payload out of its ranges; BUF_SIZE belongs to a to-host ring. -/
def puntBad (a : Acc) : Bool :=
  let buf := opd a 0x16 2
  63 < opdB a 0x10 || opdB a 0x12 < 6 || 14 < opdB a 0x12 || opdB a 0x13 != 0 || 2047 < opd a 0x14 2
    || opd a 0x18 8 % 4096 != 0 || opdB a 0x20 == 0
    || (if opdBit a 0x11 0 then buf != 0 else buf < 256 || 16384 < buf || buf % 64 != 0)

/-- PUNT_SETUP (R151). Stopping needs no more than the queue and the direction. -/
def opPuntSetup : OpSpec :=
  ⟨0x5F, 0, false, false, fun _ a => badIf (63 < opdB a 0x10 || (opdBit a 0x11 1 && puntBad a)), noTargets,
    fun s a =>
      match tabGet s.punts (puntKey (opdB a 0x10) (opdBit a 0x11 0)) with
      | some p => invIf (p.en && opdBit a 0x11 1)
      | none => none,
    fun _ a s =>
      let k := puntKey (opdB a 0x10) (opdBit a 0x11 0)
      if opdBit a 0x11 1 then
        .done (putPunt s k ⟨true, opdB a 0x12, opd a 0x14 2, opd a 0x16 2, opd a 0x18 8, opdB a 0x20, opd a 0x22 2, 0, 0, 0⟩) rOk
      else
        .done (match tabGet s.punts k with
          | some p => putPunt s k { p with en := false }
          | none => s) rOk⟩

def execPuntSetup (r : Ring) (s : State) : Host.Outcome State Fault Refusal := .next (dispatch opPuntSetup r.val s)

/-- A punt doorbell moves a ring's tail to the index one past the last descriptor the host has posted. -/
def puntDoorbell (s : State) (p : Nat) (fromHost : Bool) (off idx add : Nat) : State :=
  match tabGet s.punts (puntKey p fromHost) with
  | none => dropWrite 1 off s
  | some q =>
    if badIndex idx q.log2 true then dropWrite 1 off s
    else putPunt s (puntKey p fromHost) { q with tail := (idx + add) % 2 ^ q.log2 }

/-- PUNT_RX_DOORBELL (R150, R131): index of the last free descriptor posted. -/
def execPuntRxDoorbell (p : Fin 64) (idx : BitVec 32) (s : State) : Host.Outcome State Fault Refusal :=
  .next (puntDoorbell s p.val false (0x2000 + 16 * p.val) idx.toNat 1)

/-- PUNT_TX_DOORBELL (R150, R131): tail index. -/
def execPuntTxDoorbell (p : Fin 64) (idx : BitVec 32) (s : State) : Host.Outcome State Fault Refusal :=
  .next (puntDoorbell s p.val true (0x2008 + 16 * p.val) idx.toNat 0)

/-- A descriptor of a punt ring is done: what the device writes of it, from a byte offset, goes to host memory, the head
moves, and the ring interrupts after COUNT (R150, R151). -/
def puntAdvance (s : State) (k : Key) (q : PuntRing) (off : Nat) (wb : List Byte) : State :=
  let irq := q.count ≤ q.batch + 1
  let s0 := toHost s (q.base + 16 * q.head + off) wb
  let s1 := putPunt s0 k { q with head := (q.head + 1) % 2 ^ q.log2, batch := if irq then 0 else q.batch + 1 }
  if irq then sendIrq s1 q.vector else s1

/-- PUNT_IRQ_TIMEOUT (R151). -/
def execPuntIrqTimeout (p : Fin 64) (fromHost : Bool) (s : State) : Host.Outcome State Fault Refusal :=
  .next (match tabGet s.punts (puntKey p.val fromHost) with
    | some q =>
      if q.batch == 0 then s
      else sendIrq (putPunt s (puntKey p.val fromHost) { q with batch := 0 }) q.vector
    | none => s)

/-! ## Host reset (R152) -/

/-- A session ends by host reset: its context and OPEN landings go, and its end is recorded (R309, R194, R119). -/
def hostClose (s : State) (h : Nat) : State :=
  match tabGet s.sessions (h, 0) with
  | none => s
  | some x =>
    let s1 := flushSummaries (dropOpen (ctxClose s h) h) h
    audit { s1 with sessions := tabDel s1.sessions (h, 0) } 3 x.role x.cred h 0 0 []

/-- A ring at host reset: the SEQ of its last accepted command is latched; it drains if accepted commands still run, and
is unbound with its geometry otherwise. -/
def hostRing (s : State) (r : Nat) : State :=
  let q := ringOf s r
  let s1 := wr s HIF_HRST_LAST.LAST_SEQ r q.seq
  if q.bound.isNone then setRing s1 r RingS.init
  else settleRing (setRing s1 r { q with draining := true, discard := true, cqWait := [], cq := [], unread := [] }) r

/-- The MSI-X state: table, masks, pending bits, enable (R131). -/
def msixFields : List Fld :=
  [HID.MSIX_ADDR, HID.MSIX_DATA, HID.MSIX_MASK, HID.MSIX_PEND, HID.MSIX_EN, HID.MSIX_FMASK]

/-- Fields back at their reset values, in every part. -/
def unwrAll (s : State) (l : List Fld) : State := { s with regs := s.regs.filter (fun e => !idIn l e.1.1) }

/-- Host reset (R152). Waiting BARRIERs end, completions are discarded, queues, MSI-X and the vestibule exchange are
reset. -/
def hostReset (s : State) : State :=
  let s1 := forEach (List.range 64) s (fun h t => hostClose t h)
  let s2 := { s1 with
    running := s1.running.filter (fun x => !waitsOn 4 [] x)
    evqs := [], punts := [], vst := none, vstReq := [], vstRsp := [] }
  let s3 := forEach (List.range 256) s2 (fun r t => hostRing t r)
  wrs (unwrAll (wrN s3 HIF_EVQ_STAT.ACTIVE 0 16) msixFields)
    [(SEC_VST_STAT.STATE, 0, 0), (SEC_VST_STAT.RESULT, 0, 0), (HID.D3HOT, 0, 0)]

/-- A host reset is counted, and recorded as the last reset (R98). R98 gives a move from D3hot no code: a free value. -/
def countHost (s : State) (kind : HostResetKind) : State :=
  let s1 := bump s GLB_HOST_CNT.COUNT 0
  let s2 := if rd s1 GLB_HOST_CNT.COUNT 0 == 2 ^ 32 - 1 then wr s1 GLB_RESET_CAUSE.HOST_SAT 0 1 else s1
  match kind with
  | .perst => wr s2 GLB_RESET_CAUSE.LAST 0 2
  | .flr => wr s2 GLB_RESET_CAUSE.LAST 0 3
  | .d3hotExit => took (wr s2 GLB_RESET_CAUSE.LAST 0 (freeNat s2))

/-- HOST_RESET (R152, R98): PERST_N low, a function-level reset, or the move from D3hot to D0. R92 gives PERST_N in steps 1
to 5 no effect on boot and does not say whether it counts as a host reset: the model counts it (DESIGN CHOICE, log entry
99). -/
def execHostReset (kind : HostResetKind) (s : State) : Host.Outcome State Fault Refusal :=
  .next (match kind with
    | .perst => wrs (countHost (hostReset s) .perst) [(HID.PERST_HIGH, 0, 0), (HIF_STATUS.LINK_UP, 0, 0)]
    | .flr => countHost (hostReset s) .flr
    | .d3hotExit => if flag s HID.D3HOT 0 then countHost (hostReset s) .d3hotExit else s)

/-- PCIE_REFCLK_LOSS (R50): the PCIe link goes down; traffic keeps flowing. R152 does not name this loss among the host
resets, so nothing is reset (DEDUCED). -/
def execPcieRefclkLoss (s : State) : Host.Outcome State Fault Refusal := .next (wr s HIF_STATUS.LINK_UP 0 0)

/-- D3HOT_ENTRY (R152): fetching and bus mastering stop; the device otherwise goes on. -/
def execD3hotEntry (s : State) : Host.Outcome State Fault Refusal := .next (wr s HID.D3HOT 0 1)

end Sys2Proof.Machine
end

