-- ==== Sys2Proof/Machine/Packets.lean ====
section
/-! DEFINITION. Packets wherever they are: finding and changing one, tags and trace records (R485, R486), drops (R337,
R385), punts (R150, R339), which gallery serves a sheaf (R16, R181), what a queue number names (R369). -/

namespace Sys2Proof.Machine

/-! ## One packet -/

/-- The packet of a number. -/
def pktOf (s : State) (id : Nat) : Option Pkt := s.pkts.find? (fun k => k.id == id)

/-- A packet changed in its place. -/
def setPkt (s : State) (k : Pkt) : State := { s with pkts := s.pkts.map (fun x => if x.id == k.id then k else x) }

/-- A packet changed, and put behind every other. -/
def sendPkt (s : State) (k : Pkt) : State := { s with pkts := s.pkts.filter (fun x => x.id != k.id) ++ [k] }

/-- A packet leaves the device. -/
def losePkt (s : State) (k : Pkt) : State := { s with pkts := s.pkts.filter (fun x => x.id != k.id) }

/-- The next number for a packet or for its place in an order class. -/
def nextNum (s : State) : Nat := rd s HID.PKT_NEXT 0 + 1

/-- That number is taken. -/
def tookNum (s : State) : State := wr s HID.PKT_NEXT 0 (nextNum s)

/-- A packet enters the device, behind every other. -/
def newPkt (s : State) (k : Pkt) : State :=
  let s1 := tookNum s
  { s1 with pkts := s1.pkts ++ [{ k with id := nextNum s }] }

/-- The current generation (R176). -/
def genNow (s : State) : Nat := rd s LND_STATUS.CUR_GEN 0

/-- A time, 2^-16 ns, moved by a signed port delay; RX_NS and TX_NS are themselves in 2^-16 ns (R166, R173). -/
def delayed (t : Nat) (d : Int) : Nat := ((t : Int) + d).toNat

/-- The receive time-stamp of a frame of port p: local time, corrected for the fixed internal latency, and RX_NS (R166). -/
def rxStamp (s : State) (p : Nat) : Nat := delayed (localTime s) (sext 32 (rd s TIM_PORT_DLY.RX_NS p))

/-- A frame received on a port, or from the host for a port (R150, R290). -/
def framePkt (s : State) (loc : Loc) (p len : Nat) (data : List Byte) (host : Bool) : Pkt :=
  { id := 0, data := data, vec := [], gen := genNow s, loc := loc, inPort := p, outPort := 0, queue := 0, len := len, tc := 0,
    cls := 0, host := host, pass := 0, order := if host then 512 + p else p, seq := 0, silo := false, hold := false,
    hwDrop := 0, enqAt := 0, tag := 0, rxTs := rxStamp s p, sec := 0, secFail := false, resNs := 0,
    depth := 0, look := 0, res := none }

/-! ## What serves a packet -/

/-- A structure image is in force (R310). -/
def imageOn (s : State) : Bool := !(curGen s).regions.isEmpty

/-- The gallery that serves a sheaf for packets of a generation (R181). -/
def servedBy (s : State) (g sh : Nat) : Option Nat := tabGet (genOf s g).assign (sh, 0)

/-- The hall of a queue (R369). -/
def hallOf (q : Nat) : Nat := q / 524288

/-- What the queue map of a generation names (R369). -/
def queueTarget (s : State) (g q : Nat) : Option QTarget := tabGet (genOf s g).queues (q, 0)

/-- Region body of a copy. -/
def bodyOf (c : GenCopy) (id : Nat) : List Byte :=
  match tabGet c.regions (id, 0) with
  | some r => r.body
  | none => []

/-- What the profile in force on gallery g uses (R343). -/
def galUse (s : State) (g : Nat) : List Nat :=
  if flag s GAL_STAT.SHEAF_VALID g then
    let c := curGen s
    let n := rd s GAL_STAT.PROFILE g
    Config.profileUse (bodyOf c (0x100 + n)) (bodyOf c (0x200 + n)) (bodyOf c (0x300 + n))
  else []

/-- Lookup-window entries of the two flights (R331). -/
def ingWindow (s : State) (g : Nat) : Nat := (galUse s g).getD 5 0
def egrWindow (s : State) (g : Nat) : Nat := (galUse s g).getD 6 0

/-- Packets that stand at a place. -/
def countAt (s : State) (l : Loc) : Nat := (s.pkts.filter (fun k => k.loc == l)).length

/-- Window entries of gallery g in use (R331). -/
def inFlight (s : State) (g : Nat) : Nat := countAt s (.ingressPark g) + countAt s (.egressPark g)

/-- PEAK follows the entries in use (R343). -/
def peakUp (s : State) (g : Nat) : State := wr s GAL_WIN.PEAK g (max (rd s GAL_WIN.PEAK g) (inFlight s g))

/-! ## Tags and trace (R485, R486) -/

/-- A trace record (R486). -/
def traceBytes (s : State) (k : Pkt) (point unit port detail depth : Nat) : Nat :=
  let q := if point == 5 || point == 6 then k.queue else 0
  k.tag + 2 ^ 32 * point + 2 ^ 40 * (k.gen % 2 + 2 * b2n k.host + 4 * k.pass) + 2 ^ 48 * unit
    + 2 ^ 64 * timeField (localTime s) + 2 ^ 144 * port + 2 ^ 160 * q + 2 ^ 184 * k.tc + 2 ^ 192 * k.cls
    + 2 ^ 200 * detail + 2 ^ 208 * k.len + 2 ^ 224 * depth

/-- A record goes into the trace buffer, or is lost when it is full in STOP mode (R486). -/
def traceWrite (s : State) (v : Nat) : State :=
  let n := rd s PMU_TRACE_STAT.FILL 0
  let h := rd s PMU_TRACE_STAT.HEAD 0
  if n == 4096 && !flag s PMU_TRACE_STAT.MODE 0 then bump s PMU_TRACE_STAT.LOST 0
  else wrs s [(PMU_TRACE.RECORD, h, v), (PMU_TRACE_STAT.HEAD, 0, (h + 1) % 4096), (PMU_TRACE_STAT.FILL, 0, min 4096 (n + 1))]

/-- A tagged packet passes a trace point (R486). -/
def trace (s : State) (k : Pkt) (point unit port detail depth : Nat) : State :=
  if k.tag == 0 || !flag s PMU_TRACE_STAT.EN 0 then s
  else traceWrite s (traceBytes s k point unit port detail depth)

/-- The interval to the next tagged packet (R485). The draw of the gallery's LFSR is a free value (log entry 9). -/
def tagInterval (s : State) : Nat :=
  let n := 2 ^ rd s PMU_TAG.K 0
  if flag s PMU_TAG.JITTER 0 then n * (32768 + freeNat s % 65536) / 65536 else n

/-- Gallery g tags the packet it admits, when its interval has run out (R485). -/
def tagPkt (s : State) (g : Nat) (k : Pkt) : State × Pkt :=
  if !flag s PMU_TAG.EN 0 || !bitOf (rd s PMU_TAG.GALLERIES 0) g || k.tag != 0
      || (flag s PMU_TAG.PORT_EN 0 && k.inPort != rd s PMU_TAG.PORT 0) then (s, k)
  else if 1 < rd s HID.TAG_LEFT g then (wr s HID.TAG_LEFT g (rd s HID.TAG_LEFT g - 1), k)
  else
    let s1 := took (wr s HID.TAG_LEFT g (tagInterval s))
    let tag := max 1 ((rd s HID.TAG_LAST 0 + 1) % 2 ^ 32)
    (bump (wr s1 HID.TAG_LAST 0 tag) PMU_TAG.TAGS 0, { k with tag := tag })

/-! ## Drops -/

/-- A packet is dropped in gallery g under a code of R337. -/
def galDrop (s : State) (g code : Nat) (k : Pkt) : State :=
  let s1 := perf (trace s k 10 g k.inPort code 0)
    { perfE 0x59 1 with qual := code, kind := 2, index := g, tc := k.tc, cls := k.cls }
  countDrop (losePkt s1 k) g code 1

/-- Settings of queue q as the queue map starts them (R369), its parent the level-1 node of port p. -/
def QueueS.init (q p : Nat) : QueueS :=
  { profile := 0, parent := 2 ^ 20 + p, setByCmd := false, attach := none, tc := q % 8, prio := 7 - q % 8, weight := 1,
    pir := 0, pbs := 16, spilled := false, enqP := 0, enqB := 0, deqP := 0, deqB := 0, dropP := 0, dropB := 0, maxRes := 0,
    wrap := false, avg := 0, deficit := 0, pTok := 16 * 1024 * 3125, tokAt := 0 }

/-- The port the queue map in force gives queue q. -/
def mapPort (s : State) (q : Nat) : Option Nat :=
  match queueTarget s (genNow s) q with
  | some (.port p) => some p
  | _ => none

/-- Queue q. -/
def queueOf (s : State) (q : Nat) : QueueS :=
  match tabGet s.queues (q, 0) with
  | some x => x
  | none => QueueS.init q ((mapPort s q).getD 0)

/-- A 64-bit statistics counter wraps as it counts n (R13). -/
def wraps (v n : Nat) : Bool := decide (2 ^ 64 ≤ v + n)

/-- Queue q replaced. -/
def setQueue (s : State) (q : Nat) (x : QueueS) : State := { s with queues := tabPut s.queues (q, 0) x }

/-- The port queue q is attached to (R370). -/
def queuePort (s : State) (q : Nat) : Nat :=
  match (queueOf s q).attach with
  | some p => p
  | none => (mapPort s q).getD 0

/-- A Silo page of hall h that awaits release is retired when it is freed (R459): every one once the hall holds no packet
in Silo, else which ones is a free value, for no rule tells which pages a packet lies in (log entry 9). -/
def siloFreed (s : State) (h : Nat) : State :=
  let due := (s.regs.filter (fun e => Nat.beq e.1.1 MEM_RETIRE_LIST.PENDING.id && Nat.beq (e.1.2 / 2048) h)).map (·.1.2)
  if due.isEmpty then s
  else if siloHolds s h then
    forEach due s (fun x t => took (if freeNat t % 2 == 0 then wr t MEM_RETIRE_LIST.PENDING x 0 else t))
  else forEach due s (fun x t => wr t MEM_RETIRE_LIST.PENDING x 0)

/-- A drop in hall h under a code of R385: counted at the hall and, where a queue held or would hold it, at the queue. -/
def hallDrop (s : State) (h code : Nat) (q : Option Nat) (k : Pkt) : State :=
  let i := h * 16 + (code - 0x10)
  let s1 := perf (trace s k 10 (0x100 + h) k.outPort code 0)
    { perfE 0x77 1 with qual := code, kind := 3, index := k.outPort, tc := k.tc, cls := k.cls }
  let s1' := if k.silo then siloFreed (losePkt s1 k) h else losePkt s1 k
  let s2 := stat (stat s1' TMG_DROP_CNT.PKTS i 1) TMG_DROP_CNT.BYTES i k.len
  match q with
  | none => s2
  | some n => setQueue s2 n { queueOf s2 n with
      dropP := ((queueOf s2 n).dropP + 1) % 2 ^ 64, dropB := ((queueOf s2 n).dropB + k.len) % 2 ^ 64
      wrap := (queueOf s2 n).wrap || wraps (queueOf s2 n).dropP 1 || wraps (queueOf s2 n).dropB k.len }

/-- The hall a packet is counted at when a whole generation or image is discarded: the one that queues or holds it, hall 0
in the galleries and corridors (R317, R385). -/
def dropHall (k : Pkt) : Nat :=
  match k.loc with
  | .queue q => hallOf q
  | .toHall h => if k.hold then h else 0
  | _ => 0

/-- The queue a packet lies in. -/
def inQueue (k : Pkt) : Option Nat :=
  match k.loc with
  | .queue q => some q
  | _ => none

/-- The drain of the packet's generation ran out: it is dropped at its next step (R180). -/
def Pkt.expired (k : Pkt) : Bool := k.hwDrop == 0x17

/-- Every packet of a list dropped in the halls under a code (R310, R180). -/
def dropAll (s : State) (code : Nat) (ks : List Pkt) : State :=
  ks.foldl (fun t k => hallDrop t (dropHall k) code (inQueue k) k) s

/-- A packet's next step after its generation's drain ran out: GEN_EXPIRED (R180). -/
def expire (s : State) (k : Pkt) : State := dropAll s 0x17 [k]

/-! ## DRAM traffic (R455, R481) -/

/-- Blocks read or written in one of n stacks from a first: which stack and which block no rule tells, so both are free
values (log entry 9). -/
def perfDram (s : State) (code first n amount role : Nat) : State :=
  perf (took s) { perfE code amount with qual := first + freeNat s % n, role := role, addr := freeNat s / n % 750000000 }

/-- A write narrower than a block enters the entry for its block; a full buffer takes no new one (R455). -/
def mergeIn (s : State) (n block bytes : Nat) : State :=
  match tabGet s.merge (n, block) with
  | some c => { s with merge := tabPut s.merge (n, block) (min 64 (c + bytes)) }
  | none =>
    if 64 ≤ (s.merge.filter (fun e => Nat.beq e.1.1 n)).length then s
    else { s with merge := tabPut s.merge (n, block) (min 64 bytes) }

/-- A write of Granary: a whole block at once, a narrower one through the merge buffer (R455). Stack and block are free
values (R20, log entry 9). -/
def granaryWrite (s : State) (bytes role : Nat) : State :=
  if 64 ≤ bytes then perfDram s 0x81 8 2 1 role
  else mergeIn (took s) (8 + freeNat s % 2) (freeNat s / 2 % 750000000) bytes

/-! ## Punts to the host (R150, R339) -/

/-- Bytes 0x08 to 0x0F of a to-host descriptor as the device writes them: LEN, DONE with TRUNC and ERR, REASON, TARGET
(R150). -/
def puntDone (len reason target : Nat) (trunc err : Bool) : List Byte :=
  leBytes 2 len ++ bytesOf [1 + 4 * b2n trunc + 8 * b2n err, reason] ++ leBytes 4 target

/-- A frame is handed to punt queue p, or dropped and counted where no descriptor is free, or the device may not master the
bus (R152, log entry 84). A transfer that fails leaves ERR in its descriptor and raises 0x303. -/
def puntToHost (s : State) (p reason target len : Nat) (data : List Byte) (ok : Bool) : State :=
  match tabGet s.punts (puntKey p false) with
  | none => bump s HIF_PUNT_STAT.DROP p
  | some q =>
    if !q.en || q.head == q.tail || flag s HID.D3HOT 0 then bump s HIF_PUNT_STAT.DROP p
    else
      let n := min len q.bufSize
      let cut := decide (q.bufSize < len)
      let wb := puntDone n reason target cut (!ok)
      if ok then
        let s1 := emit (stat s HIF_PUNT_STAT.TO_HOST p 1) (.puntFrame p n reason target cut (data.take n))
        puntAdvance (perf (perf s1 (perfE 0x06 1)) (perfE 0x05 n)) (puntKey p false) q 8 wb
      else faultC 0x303 (puntAdvance s (puntKey p false) q 8 wb)

/-- A gallery punts a frame as its flight left it: TARGET carries its ingress port and the gallery (R339). -/
def galPunt (s : State) (g : Nat) (r : FlightResult) (k : Pkt) : State :=
  let s1 := perf (stat s GAL_CNT.PUNTED g 1) { perfE 0x58 1 with kind := 2, index := g, tc := k.tc, cls := k.cls }
  puntToHost s1 r.puntQ.val r.reason (k.inPort % 512 + 512 * g) r.len r.frame r.puntOk

/-! ## What a hall holds -/

/-- Cells of 256 bytes a packet takes in Hopper. -/
def cellsOf (k : Pkt) : Nat := (k.len + 255) / 256

/-- The packets of queue q, in the order they were admitted. -/
def queuePkts (s : State) (q : Nat) : List Pkt := s.pkts.filter (fun k => k.loc == .queue q)

/-- Cells and Silo bytes of a list of packets. -/
def hopperCells (l : List Pkt) : Nat := (l.filter (fun k => !k.silo)).foldl (fun n k => n + cellsOf k) 0
def siloBytes (l : List Pkt) : Nat := (l.filter (fun k => k.silo)).foldl (fun n k => n + k.len) 0

/-- The packets a hall holds. -/
def hallPkts (s : State) (h : Nat) : List Pkt :=
  s.pkts.filter (fun k => match k.loc with
    | .queue q => hallOf q == h
    | _ => false)

/-- Hopper banks of hall h that are in S0: the others take no new cells (R426). -/
def banksOn (s : State) (h : Nat) : Nat := ((List.range 16).filter (fun i => domSt s (bankDom (16 * h + i)) == 0)).length

/-- Free cells of the shared pool: 60 MiB, less 4 MiB for each bank outside S0 (R366, R426). -/
def poolFree (s : State) (h : Nat) : Nat := 245760 - (16 - banksOn s h) * 16384 - hopperCells (hallPkts s h)

end Sys2Proof.Machine
end

