-- ==== Sys2Proof/Machine/Landing.lean ====
section
/-! DEFINITION. Landings: opening, submitting, cancelling and querying (R183 to R189, R195), the objects of R192 and which
landings must wait. Firing reaches every family and stands in Fire.lean. -/

namespace Sys2Proof.Machine

/-- The ID a landing opcode names. -/
def lndId (a : Acc) : Nat := opd a 0x10 2

/-- A slot that is FREE. -/
def lndFree (s : State) : Option Nat := (List.range 64).find? (fun n => rd s LND_SLOT.STATE n == 0)

/-- LANDING_OPEN (R184): an empty cargo in a free slot, the owner recorded. -/
def opLandingOpen : OpSpec :=
  ⟨0x20, 0, false, false, noBad, noTargets,
    fun s a =>
      if (lndFree s).isNone then some (rStat .busy) else invIf (slotOf s (lndId a)).isSome,
    fun _ a s =>
      match lndFree s with
      | none => .done s (rStat .busy)
      | some n =>
        .done (wrs (freeSlot s n) [(LND_SLOT.ID, n, lndId a), (LND_SLOT.STATE, n, 1), (LND_SLOT.OWNER, n, a.role),
          (LND_SLOT.HANDLE, n, a.handle)]) rOk⟩

/-- The SI_PUT items, and the SI_CLOSE, that a flash SI_OPEN's digest is followed by (R313); as in entries of their own,
LANDING is zero (R134). -/
def flashPieces (off : Nat) (b : List Byte) : Nat → List Byte
  | 0 => []
  | n + 1 =>
    if b.isEmpty then bytesOf [0x42, 0] ++ leBytes 36 0
    else
      let p := b.take 16777216
      bytesOf [0x41, 1] ++ leBytes 4 0 ++ leBytes 4 p.length ++ leBytes 4 off ++ leBytes 16 0 ++ p
        ++ flashPieces (off + p.length) (b.drop 16777216) n

/-- What one item adds to the digest, with the slot image of a flash SI_OPEN (R186, R313). -/
def digestOf (s : State) (a : Acc) : List Byte :=
  digestItem a ++
    (if a.cmd.opcode == 0x40 && opdB a 0x10 != 0 then
      match s.siCtx with
      | some x => flashPieces 0 x.bytes 8
      | none => []
    else [])

/-- Leftmost 32 bytes of the cargo digest of slot n (R186, R196). -/
def cargoDigest (s : State) (n : Nat) : Nat :=
  (Config.sha384 ((cargoOf s n).flatMap (digestOf s))).toNat % 2 ^ 256

/-- 10 us (R189). -/
def landLead : Nat := 10000 * 65536

/-- The landing time a SUBMIT asks for. -/
def submitTime (a : Acc) : Nat := timeOfField (opd a 0x14 10)

/-- LANDING_SUBMIT (R184, R189, R313). Its completion comes at firing. -/
def opLandingSubmit : OpSpec :=
  ⟨0x21, 0, false, false, fun _ a => badIf (1000000000 ≤ opd a 0x14 4), noTargets,
    fun s a =>
      match slotOf s (lndId a) with
      | none => some (rInv 0)
      | some n =>
        if rd s LND_SLOT.STATE n != 1 then some (rInv 0)
        else if rd s LND_SLOT.HANDLE n != a.handle then some (rStat .denied)
        else invIf (ctxBound s (lndId a) && rd s GLB_SI_STAT.CTX 0 != 3),
    fun _ a s =>
      match slotOf s (lndId a) with
      | none => .done s (rInv 0)
      | some n =>
        let t := submitTime a
        let lead := localTime s + landLead
        if t < lead && !opdBit a 0x12 0 then .done (bump s LND_STAT.LATE 0) (rStat .late)
        else
          .wait (wrs s [(LND_SLOT.STATE, n, 2), (LND_SLOT.ASAP, n, b2n (opdBit a 0x12 0)),
            (LND_SLOT.TIME, n, timeField (max t (if opdBit a 0x12 0 then lead else 0))),
            (LND_SLOT.DIGEST, n, cargoDigest s n)]) [lndId a]⟩

/-! ## Objects and waiting (R192) -/

/-- The object an instant item writes: a register by base and part, or one of R192's others. -/
def objOf (a : Acc) : Nat × Nat :=
  match a.cmd.opcode with
  | 0x01 =>
    match findReg (opd a 0x10 4) with
    | some (r, i, _) => (r.base, i)
    | none => (0, 0)
  | 0x52 => (reg_PRT_CFG.base, opd a 0x10 2)
  | 0x60 => (2 ^ 32 + 1, opd a 0x10 3)
  | 0x61 => (2 ^ 32 + 2, opd a 0x10 3)
  | 0x62 => (reg_TMG_PROFILE.base, opdB a 0x1C)
  | 0x63 => (2 ^ 32 + 3, opdBuf a 0 2)
  | 0x73 => (reg_MSC_SA.base, 2 * opd a 0x10 2 + opdB a 0x12)
  | 0x82 => (2 ^ 32 + 4, if a.cmd.ptr then opdB a 0x1C else opdB a 0x10)
  | 0x84 => (2 ^ 32 + 5, opdB a 0x10)
  | 0x88 => (reg_EMG_MON_SITE.base, opdB a 0x10)
  | _ => (reg_EMG_MON_IN.base, 16 * opdB a 0x1C + opdB a 0x1D)

/-- Objects the instant items of slot n write. -/
def objsOf (s : State) (n : Nat) : List (Nat × Nat) :=
  ((cargoOf s n).filter (fun a => !genItem a)).map objOf

/-- Two slots write one object. -/
def clash (s : State) (n m : Nat) : Bool := (objsOf s n).any (fun o => (objsOf s m).contains o)

/-- Slots in a state, ascending. -/
def slotsIn (s : State) (st : Nat) : List Nat := (List.range 64).filter (fun n => rd s LND_SLOT.STATE n == st)

/-- Slots by ascending landing ID, and by landing time and then ID (R191, R192). -/
def idLt (s : State) (n m : Nat) : Bool := decide (rd s LND_SLOT.ID n < rd s LND_SLOT.ID m)
def timeLt (s : State) (n m : Nat) : Bool :=
  decide (slotTime s n < slotTime s m) || (slotTime s n == slotTime s m && idLt s n m)

/-- Slot n, due, must wait (R192): an undrained generation stands before it, or an earlier WAITING landing. -/
def mustWait (s : State) (n : Nat) : Bool :=
  (flag s LND_SLOT.GENL n && flag s LND_STATUS.OLD_LIVE 0)
    || (slotsIn s 3).any (fun m => timeLt s m n && clash s n m)

/-- LANDING_CANCEL (R184, R193, R195): a landing due now fires instead. -/
def opLandingCancel : OpSpec :=
  ⟨0x22, 0, false, false, noBad, noTargets,
    fun s a =>
      match slotOf s (lndId a) with
      | none => some (rInv 0)
      | some n =>
        if rd s LND_SLOT.STATE n == 4 || (lndDue s n && !mustWait s n) then some (rInv 0)
        else if (rd s LND_SLOT.HANDLE n != a.handle || flag s HID.LND_ORPHAN n) && a.role != 2 then some (rStat .denied)
        else none,
    fun _ a s =>
      match slotOf s (lndId a) with
      | none => .done s (rInv 0)
      | some n =>
        let bound := ctxBound s (lndId a)
        let s1 := freeSlot s n
        let s2 := if bound then complete (waitsOn 0x40 []) (rStat .aborted) s1 else s1
        .done (complete (waitsOn 0x21 [lndId a]) (rStat .aborted) s2) rOk⟩

/-- Packets of the device that carry the old generation's stamp (R178). -/
def oldCount (s : State) : Nat :=
  if flag s LND_STATUS.OLD_LIVE 0 then (s.pkts.filter (fun k => k.gen != rd s LND_STATUS.CUR_GEN 0 && !k.expired)).length else 0

/-- LANDING_QUERY (R183). An ID in no slot reads as FREE. -/
def opLandingQuery : OpSpec :=
  ⟨0x23, 0, false, false, noBad, noTargets, noCheck,
    fun _ a s => .done s (rData (match slotOf s (lndId a) with
      | none => 0
      | some n =>
        rd s LND_SLOT.STATE n + 2 ^ 8 * (rd s LND_SLOT.ITEMS n % 2 ^ 24)
          + (if rd s LND_SLOT.STATE n == 4 then 2 ^ 32 * (oldCount s % 2 ^ 32) else 0)))⟩

def execLandingOpen (r : Ring) (s : State) : Host.Outcome State Fault Refusal := .next (dispatch opLandingOpen r.val s)
def execLandingSubmit (r : Ring) (s : State) : Host.Outcome State Fault Refusal := .next (dispatch opLandingSubmit r.val s)
def execLandingCancel (r : Ring) (s : State) : Host.Outcome State Fault Refusal := .next (dispatch opLandingCancel r.val s)
def execLandingQuery (r : Ring) (s : State) : Host.Outcome State Fault Refusal := .next (dispatch opLandingQuery r.val s)

end Sys2Proof.Machine
end

