-- ==== Sys2Proof/Machine/Cal.lean ====
section
/-! DEFINITION. The course of a calibration pass (R471 to R474): which slice of which lane is calibrated next, what a
pass leaves behind, and how it ends. A target is x = kind x 64 + s or k (R480). -/

namespace Sys2Proof.Machine

/-- The slices of lane l in a state. -/
def slicesIn (s : State) (l st : Nat) : List Nat :=
  (List.range 136).filter (fun j => rd s SHF_RX_SLICE.STATE (l * 136 + j) == st)

/-- The lowest slice of lane l in a state that the pass has not calibrated. -/
def calUnseen (s : State) (l st : Nat) : Option Nat :=
  (slicesIn s l st).find? (fun j => !flag s HID.CAL_SEEN (l * 136 + j))

/-- The marks of the pass on lane l are cleared; a slice OUT for it is SPARE again (R474). -/
def calLaneClear (s : State) (l : Nat) : State :=
  let n := rd s HID.CAL_NOW l
  let s1 := if n != 0 && rd s SHF_RX_SLICE.STATE (l * 136 + (n - 1)) == 2 then wr s SHF_RX_SLICE.STATE (l * 136 + (n - 1)) 1 else s
  let s2 := { s1 with regs := s1.regs.filter (fun e => !(Nat.beq e.1.1 HID.CAL_SEEN.id && Nat.beq (e.1.2 / 136) l)) }
  wrs s2 [(HID.CAL_NOW, l, 0), (HID.CAL_SLICE, l, 0xFF), (SHF_RX_ADC.ROT_BUSY, l, 0)]

/-- A pass ends: TIMEOUT if one of its steps timed out, DATA = the lanes it could not finish (R472). -/
def calEnd (s : State) (x : Nat) : State :=
  let miss := flag s HID.CAL_MISS x
  complete (waitsOn 0xA8 [x]) ⟨if miss then .timeout else .ok, 0, some (rd s HID.CAL_SKIP x), false⟩
    (wrs s [(GLN_CAL.STATE, x, if miss then 3 else 2), (HID.CAL_LANES, x, 0)])

/-- The pass has done with lane i of the sheaf; skip = it could not finish it (R472). -/
def calLaneDone (s : State) (sh i : Nat) (skip : Bool) : State :=
  wrs (calLaneClear s (8 * sh + i)) [(HID.CAL_LANES, sh, clrBit (rd s HID.CAL_LANES sh) i),
    (HID.CAL_SKIP, sh, if skip then setBit (rd s HID.CAL_SKIP sh) i else rd s HID.CAL_SKIP sh)]

/-- A pass cannot go on with lane l (R472). -/
def calLost (s : State) (l : Nat) : Bool :=
  laneSt s l == laneDARK || laneSt s l == laneFAILED || domSt s (sheafDom (l / 8)) != 0

/-- The next slice of the lane: a SPARE one in place, then an ACTIVE one, swapped out at the next swap boundary (R202,
R471). None when every slice has had its step, or the one left is held by gleaning. -/
def calNext (s : State) (l : Nat) : Option State :=
  match calUnseen s l 1 with
  | some j => some (wrs s [(SHF_RX_SLICE.STATE, l * 136 + j, 2), (HID.CAL_NOW, l, j + 1), (SHF_RX_ADC.ROT_BUSY, l, 1)])
  | none =>
    match calUnseen s l 0 with
    | some j => some (wr s HID.CAL_SLICE l j)
    | none => (calUnseen s l 2).map (fun _ => s)

/-- A slice of lane l is OUT for the pass, or waits to be swapped out. -/
def calBusy (s : State) (l : Nat) : Bool :=
  let j := rd s HID.CAL_SLICE l
  rd s HID.CAL_NOW l != 0 || (j != 0xFF && rd s SHF_RX_SLICE.STATE (l * 136 + j) == 0)

/-- An ADC pass goes on with the lanes left to it, at most n of them. -/
def calAdvance (sh : Nat) : Nat → State → State
  | 0, s => s
  | n + 1, s =>
    match (bitList (rd s HID.CAL_LANES sh) 8).head? with
    | none => calEnd s sh
    | some i =>
      let l := 8 * sh + i
      if calLost s l then calAdvance sh n (calLaneDone s sh i true)
      else if calBusy s l then s
      else
        match calNext s l with
        | some t => t
        | none => calAdvance sh n (calLaneDone s sh i false)

/-- The ADC pass of sheaf sh, if one runs, goes on. -/
def calKick (s : State) (sh : Nat) : State := if rd s GLN_CAL.STATE sh == 1 then calAdvance sh 9 s else s

/-- The site or sheaf of a target may be calibrated: in S0, a site RELEASED (R478). -/
def calReady (s : State) (x : Nat) : Bool :=
  if x < 64 then domSt s (sheafDom x) == 0
  else domSt s (siteDom (x % 64)) == 0 && siteSt s (x % 64) == siteRELEASED

/-- A pass of a target starts, over a mask of lanes for the converters (R471). -/
def calStart (s : State) (x mask : Nat) : State :=
  let s1 := wrs s [(GLN_CAL.STATE, x, 1), (HID.CAL_MISS, x, 0), (HID.CAL_SKIP, x, 0), (HID.CAL_LANES, x, mask)]
  if x < 64 then calKick s1 x else s1

/-- A window of the target fires (R474): a pass starts, or the firing is counted as an overrun. -/
def calWindow (s : State) (x : Nat) : State :=
  if rd s GLN_CAL.STATE x == 1 then bump s GLN_CAL.OVERRUN x
  else if calReady s x then calStart s x (rd s HID.CAL_MASK x) else s

/-- The windows that time event n starts (R474). -/
def calFire (s : State) (n : Nat) : State :=
  forEach ((List.range 192).filter (fun x => flag s GLN_CAL.WINDOW x && rd s HID.CAL_TEV x == n)) s (fun x t => calWindow t x)

end Sys2Proof.Machine
end

