-- ==== Sys2Proof/Machine/Wake.lean ====
section
/-! DEFINITION. The domain power-state machine: the conditions of R32, the checks of R425, a change that ends (R426,
R427), what waited for it, and a wake that has failed (R429). A PWR_STATE waits with [domain, target], with
[domain, 8 + target] for a change in progress to end, or with [domain, 16 + target] for the corridor in front; a DOMAIN_RESET with
[domain, 0], or [domain, 8] for a change to end. -/

namespace Sys2Proof.Machine

/-! ## Conditions -/

/-- The domains whose resources a landing item writes (R188). -/
def itemDoms (a : Acc) : List Nat :=
  match a.cmd.opcode with
  | 0x01 =>
    match findReg (opd a 0x10 4) with
    | some (r, i, _) => (regDom r i).toList
    | none => []
  | 0x44 => [galDom (opdB a 0x11)]
  | 0x52 => [sheafDom (opd a 0x10 2 / 8)]
  | 0x72 => [corDom (opd a 0x10 2 / 1024 % 8)]
  | 0x73 => [corDom (opd a 0x10 2 / 1024 % 8)]
  | 0x82 => [siteDom (if a.cmd.ptr then opdB a 0x1C else opdB a 0x10)]
  | 0x84 => [siteDom (opdB a 0x10)]
  | 0x88 => [siteDom (opdB a 0x10)]
  | 0x89 => [siteDom (opdB a 0x1C)]
  | _ => []

/-- A landing that is not FREE carries an item for domain d (R188). -/
def itemFor (s : State) (d : Nat) : Bool :=
  (slotsUsed s).any (fun n => (cargoOf s n).any (fun a => (itemDoms a).contains d))

/-- The other corridor of a gallery-to-hall pair (R21, R32). -/
def pairCorridor (c : Nat) : Nat := if c % 2 == 0 then c + 1 else c - 1

/-- Every domain of a list is in S2 or S3. -/
def allAsleep (s : State) (ds : List Nat) : Bool := ds.all (fun d => decide (2 ≤ domSt s d))

/-- Hopper bank b holds no packet data: certainly when its hall holds none in Hopper, certainly not when the other banks
in S0 could not hold it; which bank a cell lies in is not stated, so else a free value (R32). -/
def bankEmpty (s : State) (b : Nat) : Bool :=
  let n := hopperCells (hallPkts s (b / 16))
  n == 0 || (decide (n ≤ (banksOn s (b / 16) - 1) * 16384) && freeNat s % 2 == 0)

/-- The condition of R32 for domain d to leave S0 for a state; R340 for galleries. -/
def leaveOk (s : State) (d st : Nat) : Bool :=
  let i := domIdx d
  match domKind d with
  | 0 => true
  | 1 => rd s GAL_STAT.STATE i != 2 && rd s GAL_STAT.STATE i != 3
  | 2 => st ≤ 1 || bankEmpty s i
  | 3 => if i < 8 then allAsleep s (lineDoms i) else domSt s (corDom (pairCorridor i)) == 0
  | _ => decide (2 ≤ domSt s (sheafDom i))

/-- R32 allows domain d the state. -/
def stateAllowed (d st : Nat) : Bool := st ≤ 3 && !(domKind d == 3 && 8 ≤ domIdx d && st == 3)

/-- The corridor in front of domain d, when it is not in S0. -/
def sleepingFront (s : State) (d : Nat) : Option Nat :=
  match frontCorridor d with
  | some c => if domSt s c != 0 || domChanging s c then some c else none
  | none => none

/-- The condition of R32 holds a move of domain d to a state back: on leaving S0, and for a Hopper bank on any entry to S2
or S3. -/
def leaveBad (s : State) (d st : Nat) : Bool :=
  ((domSt s d == 0 && st != 0) || (domKind d == 2 && domSt s d == 1 && 2 ≤ st)) && !leaveOk s d st

/-- The list of R425 for a move of domain d to a state; a corridor in front that sleeps is R33's: without WAKE it refuses
every move but one to S0. Check 5 ends a command that is already there. -/
def pwrCheck (s : State) (d st : Nat) (wake : Bool) : Option Reply :=
  let held := rd s PWR_DOM.HELD d
  let up := decide (st < domSt s d)
  let front := (sleepingFront s d).filter (fun c => decide (2 ≤ domSt s c))
  firstOf [
    invIf (!domValid d || !stateAllowed d st),
    if (held == 2 && domSt s d != st) || (held == 1 && up && !wake) then some (rStat .noPower) else none,
    if front.any (fun c => rd s PWR_DOM.HELD c == 2 || (!wake && (st != 0 || rd s PWR_DOM.HELD c == 1))) then
      some (rStat .noPower) else none,
    if 2 ≤ st && itemFor s d then some (rStat .busy) else none,
    invIf (leaveBad s d st),
    if domSt s d == st then some rOk else none]

/-! ## Starting a change -/

/-- Domain d begins to move; a gallery that is gleaned aborts its slice (R468). -/
def domGo (R : Raise) (s : State) (d st cause : Nat) : State :=
  let s1 := if domKind d == 1 && rd s GAL_STAT.STATE (domIdx d) == 4 && st != 0 then abortSlice R s 0 (2 * domIdx d) else s
  domMove (if domKind d == 2 then took s1 else s1) d st cause

/-- A PWR_STATE that passed its checks starts: the change itself, or first that of the corridor in front (R33). Answers
what the command waits with. -/
def pwrStart (s : State) (d st : Nat) : State × Nat :=
  if domChanging s d then (s, 8 + st)
  else
    match (if st < domSt s d then sleepingFront s d else none) with
    | some c => (domMove s c 0 0, 16 + st)
    | none => (domGo raise s d st 0, st)

/-- Targets of a DOMAIN_RESET (R95). -/
def resetOk (s : State) (d : Nat) : Bool :=
  let i := domIdx d
  domValid d &&
    match domKind d with
    | 0 => true
    | 1 => rd s GAL_STAT.STATE i != 2 && rd s GAL_STAT.STATE i != 3
    | 2 => bankEmpty s i
    | 3 => decide (i < 8) && allAsleep s (lineDoms i)
    | _ => decide (2 ≤ domSt s (sheafDom i))

/-- A sheaf that is reset: its lanes are DARK, their modes at their cold-reset values (R95). -/
def resetLanes (s : State) (sh : Nat) : State :=
  forEach (sheafLanes sh) s (fun l t => unwr (setLane raise (wr t HID.WAS_AWAKE l 0) l laneDARK 0) SHF_LANE_STAT.MODE l)

/-- A DOMAIN_RESET begins: the domain loses its state as in S3, and one new wake brings it back (R95, R429). -/
def resetGo (s : State) (d : Nat) : State :=
  let i := domIdx d
  let s1 := if domKind d == 1 && rd s GAL_STAT.STATE i == 4 then abortSlice raise s 0 (2 * i) else s
  let s2 := wrs (if domKind d == 2 then took s1 else s1) [(PWR_DOM.CAUSE, d, 0), (PWR_DOM.HELD, d, 0), (HID.PG_TRIES, d, 0)]
  let s3 := if domSt s2 d == 3 then s2 else setDomSt (domSleep raise s2 d 3) d 3
  let s4 := match domKind d with
    | 0 => resetLanes s3 i
    | 3 => corStart (resetCorridor s3 i) i
    | 4 => if siteSt s3 i == siteLATCHED || siteSt s3 i == siteRELEASED then siteToPads raise s3 i siteHELD else s3
    | _ => s3
  wrs s4 [(HID.DOM_TGT, d, 1), (HID.DOM_RST, d, 1), (HID.DOM_NEXT, d, 0), (PWR_DOM.ATTEMPT, d, 1)]

/-! ## The end of a change -/

/-- The waiting numbers of a running command, replaced. -/
def rewait (s : State) (x : Run) (ds : List Nat) : State :=
  { s with running := s.running.map (fun y =>
      if y.ring == x.ring && y.acc.cmd.tag == x.acc.cmd.tag then { y with phase := .waiting ds } else y) }

/-- A running command is answered. -/
def answer (s : State) (x : Run) (p : Reply) : State := finish (dropRun s x.ring x.acc.cmd.tag) x.ring x.acc p

/-- A command that waited for another change asks for the wake of a list of domains first (R33, R144). -/
def rewake (s : State) (x : Run) (ds : List Nat) : State :=
  wakeFirst { s with running := s.running.map (fun y =>
      if y.ring == x.ring && y.acc.cmd.tag == x.acc.cmd.tag then { y with phase := .waking ds } else y) } ds

/-- The command carries WAKE, and the wake is still to come. -/
def mayWake (x : Run) : Bool := x.acc.cmd.wake && !x.acc.woken

/-- A PWR_STATE that waited is checked and acted on: the list of R425, the wake it asks for, its change (R33, R425). -/
def pwrAct (s : State) (x : Run) (d st : Nat) : State :=
  match pwrCheck s d st (mayWake x) with
  | some p => answer s x p
  | none =>
    let ws := if mayWake x then (pathOf [d]).filter (fun e => domSt s e != 0 || rd s PWR_DOM.HELD e == 1) else []
    if !ws.isEmpty then rewake s x ws
    else
      let (t, v) := pwrStart s d st
      rewait t x [d, v]

/-- A DOMAIN_RESET that waited is checked and acted on: a domain held for a power-good only with WAKE (R90, R95). -/
def resetAct (s : State) (x : Run) (d : Nat) : State :=
  if rd s PWR_DOM.HELD d == 1 then (if mayWake x then rewake s x [d] else answer s x (rStat .noPower))
  else if resetOk s d then rewait (resetGo s d) x [d, 0]
  else answer s x (rInv 0)

/-- A PWR_STATE or DOMAIN_RESET that waited for a change of domain d to end is checked and acted on (R95, R425); the first
that starts a change makes the others wait on. -/
def resume (d : Nat) (s : State) (x : Run) : State :=
  if domChanging s d then s
  else
    match x.acc.cmd.opcode, x.phase with
    | 0x90, .waiting [e, w] =>
      if e != d || w < 8 || 16 ≤ w then s else pwrAct s x d (w - 8)
    | 0x92, .waiting [e, 8] => if e != d then s else resetAct s x d
    | _, _ => s

/-- The corridor in front of a domain is back in S0: the PWR_STATE that waited for it goes on (R33). -/
def resumeBehind (c : Nat) (s : State) (x : Run) : State :=
  match x.acc.cmd.opcode, x.phase with
  | 0x90, .waiting [d, w] =>
    if frontCorridor d == some c && 16 ≤ w then pwrAct s x d (w - 16) else s
  | _, _ => s

/-- A domain's wake is over: the commands that waited for S0 go on. -/
def domAwake (s : State) (d : Nat) : State :=
  let s1 := complete (fun x => waitsOn 0x90 [d, 0] x || waitsOn 0x92 [d, 0] x) rOk (wakeDone s d)
  s1.running.foldl (resumeBehind d) s1

/-- A change that goes on after the one that ended: a state below S0 reached through it, or a wake that came meanwhile. The
conditions of R32 are judged again (R427, R443). -/
def domFollow (s : State) (d : Nat) : State :=
  let n := rd s HID.DOM_NEXT d
  if n == 0 then s
  else
    let s1 := wr s HID.DOM_NEXT d 0
    let st := n - 1
    let cause := rd s HID.DOM_NCAUSE d
    if domSt s1 d != 0 || st == 0 || (leaveOk s1 d st && !(2 ≤ st && itemFor s1 d)) then domGo raise s1 d st cause
    else complete (waitsOn 0x90 [d, st]) (rInv 0) s1

/-- A TX_ENABLE that waits for the wake of sheaf d runs as soon as S0 is reached: the lock is its own to wait for (R226). -/
def txGo (s : State) (d : Nat) : State :=
  (s.running.filter (fun x => x.acc.cmd.opcode == 0x54)).foldl (wakeNext d) s

/-- Domain d is back in S0 (R426, R427). -/
def domUp (s : State) (d : Nat) : State :=
  let old := domSt s d
  let i := domIdx d
  let s1 := setDomSt (wrs s [(HID.DOM_TGT, d, 0), (PWR_DOM.ATTEMPT, d, 0), (PWR_DOM.TEV_EN, d, 0)]) d 0
  let s2 := perf (domWake raise s1 d old) (perfE 0xA2 1)
  let s3 := if flag s HID.DOM_RST d then
      match domKind d with
      | 1 => wrs s2 [(HID.DOM_RST, d, 0), (GAL_STAT.STATE, i, if rd s2 GAL_STAT.STATE i == 5 then 1 else rd s2 GAL_STAT.STATE i)]
      | 4 => siteClear (wr s2 HID.DOM_RST d 0) i
      | _ => wr s2 HID.DOM_RST d 0
    else s2
  if domKind d == 0 && 2 ≤ old && (rd s3 SHF_SYN_STAT.STATE i == 2 || rd s3 SHF_SYN_STAT.STATE i == 3) then
    txGo (wr s3 HID.WAKE_SYN i 1) d
  else
    let s4 := domAwake s3 d
    if domKind d == 1 then
      forEach (List.range 64) s4 (fun sh t => if rd t HID.SWAP_PEND sh == i + 1 then galTake raise t sh i else t)
    else s4

/-- Domain d has entered a sleeping state (R426). -/
def domDown (s : State) (d st : Nat) : State :=
  let s1 := setDomSt (wr s HID.DOM_TGT d 0) d st
  complete (waitsOn 0x90 [d, st]) rOk (domSleep raise s1 d st)

/-- A change of domain d that may end now: a corridor that wakes has both directions up, one that goes to sleep finishes
its replacements first (R492, R498). -/
def changeReady (s : State) (d : Nat) : Bool :=
  let c := domIdx d
  if !domChanging s d then false
  else if domKind d != 3 then true
  else if rd s HID.DOM_TGT d == 1 then
    domSt s d == 1 || [2 * c, 2 * c + 1].all (fun i => rd s DDL_STAT.STATE i == 3 || rd s DDL_STAT.STATE i == 4)
  else rd s HID.DDL_FROM (2 * c) == 0 && rd s HID.DDL_FROM (2 * c + 1) == 0

/-- The change of domain d ends; what follows it begins, then what waited for it (R425, R427). -/
def domEnd (s : State) (d : Nat) : State :=
  if !changeReady s d then s
  else
    let st := rd s HID.DOM_TGT d - 1
    let s1 := domFollow (if st == 0 then domUp s d else domDown s d st) d
    s1.running.foldl (resume d) s1

/-- DOMAIN_STATE_DONE (R427). -/
def execDomainStateDone (d : Dom) (s : State) : Host.Outcome State Fault Refusal :=
  .next (if domValid d.val then domEnd s d.val else s)

/-! ## A wake that fails -/

/-- Commands that asked for the wake of domain d: those with WAKE, a PWR_STATE or DOMAIN_RESET of it or, for a corridor,
of a domain behind it, and a TX_ENABLE that waits for the synthesiser of a waking sheaf. -/
def askedWake (d : Nat) (x : Run) : Bool :=
  wakesFirst d x || (List.range 4).any (fun st => waitsOn 0x90 [d, st] x) || waitsOn 0x92 [d, 0] x
    || (domKind d == 0 && waitsOn 0x54 [domIdx d] x)
    || (domKind d == 3 && allDoms.any (fun e => frontCorridor e == some d && (List.range 4).any (fun st => waitsOn 0x90 [e, 16 + st] x)))

/-- A fault swap that waited for gallery g to wake chooses again (R341). -/
def swapAgain (s : State) (g : Nat) : State :=
  forEach (List.range 64) s (fun sh t => if rd t HID.SWAP_PEND sh == g + 1 then galSwap raise t sh (galDie g) else t)

/-- The wake of domain d has failed: S3, HELD, contained fault unless the synthesiser raised it, event record, and
TIMEOUT to who asked (R429). -/
def wakeFail (d : Nat) (synth : Bool) (s : State) : State :=
  let s0 := if domKind d == 0 then wr s HID.WAKE_SYN (domIdx d) 0 else s
  let s1 := bump (holdDom raise (wr s0 PWR_DOM.CAUSE d 6) d 2) PWR_RES.WAKE_FAILS d
  let s2 := if domSt s d == 3 then domEvent s1 d 3 3 6 else s1
  let s3 := if synth then s2 else faultK (0xB40 + domKind d) s2
  let s4 := complete (askedWake d) (rStat .timeout) s3
  let s5 := if domKind d == 1 then swapAgain s4 (domIdx d) else s4
  s5.running.foldl (resume d) s5

/-- POWER_GATE_TIMEOUT (R429): power-gate ready missed 200 us; the third miss fails the wake. -/
def execPowerGateTimeout (d : Dom) (s : State) : Host.Outcome State Fault Refusal :=
  .next (
    if !domValid d.val || rd s HID.DOM_TGT d.val != 1 || domSt s d.val < 2 then s
    else
      let n := rd s HID.PG_TRIES d.val + 1
      if 3 ≤ n then wakeFail d.val false s
      else wrs s [(HID.PG_TRIES, d.val, n), (PWR_DOM.ATTEMPT, d.val, n + 1)])

end Sys2Proof.Machine
end

