-- ==== Sys2Proof/Machine/Sheaf.lean ====
section
/-! DEFINITION. The sheaf: the receive path (R197 to R222), HOLD and its banks, the wake receiver, the synthesiser (R223,
R224), transmit enable (R225 to R227), shaping (R230 to R233), the wake pattern (R237, R238). -/

namespace Sys2Proof.Machine

/-! ## Front end, converter, clock recovery -/

/-- CLIP_WINDOW_END (R199). -/
def execClipWindowEnd (l : Lane) (count : Nat) (s : State) : Host.Outcome State Fault Refusal :=
  .next (
    if !receiving s l.val then s
    else
      let s1 := wr s SHF_RX_AFE.CLIP l.val (min count 255)
      if 255 < count then wr s1 SHF_RX_EVT.CLIP l.val 1 else s1)

/-- FAILED slices of lane l whose position awaits its successor (R203). -/
def slicesDue (s : State) (l : Nat) : List Nat :=
  (List.range 136).filter (fun j => flag s HID.SLICE_POS (l * 136 + j))

/-- A slice of lane l is marked FAILED and its FAIL bit set (R203). -/
def sliceMark (s : State) (l j : Nat) : State :=
  let i := l * 136 + j
  wrs s [(SHF_RX_SLICE.STATE, i, 3), (SHF_RX_SLICE.FAIL, i, 1), (SHF_RX_SLICE.POS, i, 0xFF),
    (SHF_RX_ADC.FAILED, l, min 8 (rd s SHF_RX_ADC.FAILED l + 1)), (SHF_RX_EVT.SLICE_FAIL, l, 1)]

/-- A spare that gleaning holds is given back for the swap that replaces a FAILED slice (R468). -/
def sliceDemand (s : State) (l : Nat) : State :=
  match (slicesIn s l 2).find? (fun j => (tabGet s.slices (1, 2 * (l * 136 + j))).isSome) with
  | some j => abortSlice raise s 1 (2 * (l * 136 + j))
  | none => s

/-- Active slice j of lane l fails (R203): a spare takes its position at the next swap boundary, or the lane fails. -/
def sliceFailed (s : State) (l j : Nat) : State :=
  let pos := rd s SHF_RX_SLICE.POS (l * 136 + j)
  let s0 := if (slicesIn s l 1).length ≤ (slicesDue s l).length then sliceDemand s l else s
  let s1 := sliceMark s0 l j
  if (slicesIn s1 l 1).length ≤ (slicesDue s1 l).length then failLane raise s1 l
  else faultC (0x400 + l / 8) (wr s1 HID.SLICE_POS (l * 136 + j) (pos + 1))

/-- The power-up calibration after a cold reset, which tests every slice again (R203): the model takes bring-up for its
time (DESIGN CHOICE, log entry 111). -/
def powerUpTest (s : State) : Bool := flag s HID.POWER_UP 0 && decide (rd s GLB_BOOT_STAT.STAGE 0 < 3)

/-- SLICE_FAIL (R203): of an ACTIVE slice, and of a SPARE one that fails again in the power-up calibration. -/
def execSliceFail (l : Lane) (j : Fin 136) (s : State) : Host.Outcome State Fault Refusal :=
  let st := rd s SHF_RX_SLICE.STATE (l.val * 136 + j.val)
  .next (
    if st == 0 then sliceFailed s l.val j.val
    else if st == 1 && powerUpTest s then faultC (0x400 + l.val / 8) (sliceMark s l.val j.val)
    else s)

/-- The lowest SPARE slice of lane l takes a position: a swap, at which its calibration takes force (R201, R471). -/
def sliceTake (s : State) (l pos : Nat) : State :=
  match slicesIn s l 1 with
  | t :: _ =>
    let i := l * 136 + t
    let s1 := if flag s HID.CAL_COMP i then wrs s [(SHF_RX_SLICE.COMP, i, rd s HID.CAL_COMP i - 16), (HID.CAL_COMP, i, 0)] else s
    bump (wrs (perfLane s1 l 0x26 0 1) [(SHF_RX_SLICE.STATE, i, 0), (SHF_RX_SLICE.POS, i, pos)]) SHF_RX_ADC.SWAPS l
  | [] => s

/-- The position of a FAILED slice gets its successor. -/
def sliceReplace (l : Nat) (s : State) (j : Nat) : State :=
  let pos := rd s HID.SLICE_POS (l * 136 + j) - 1
  sliceTake (wr s HID.SLICE_POS (l * 136 + j) 0) l pos

/-- The calibration rotation that waits on lane l: a SPARE slice takes the position of the slice, which is OUT (R202). It
waits while no SPARE slice is free. -/
def sliceRotate (s : State) (l : Nat) : State :=
  let j := rd s HID.CAL_SLICE l
  if j == 0xFF || (slicesIn s l 1).isEmpty || rd s SHF_RX_SLICE.STATE (l * 136 + j) != 0 then s
  else
    let pos := rd s SHF_RX_SLICE.POS (l * 136 + j)
    let s1 := sliceTake s l pos
    wrs s1 [(SHF_RX_SLICE.STATE, l * 136 + j, 2), (SHF_RX_SLICE.POS, l * 136 + j, 0xFF), (SHF_RX_ADC.ROT_BUSY, l, 1),
      (HID.CAL_SLICE, l, 0xFF), (HID.CAL_NOW, l, j + 1)]

/-- SLICE_SWAP (R201 to R203): a swap boundary of the lane; swaps wait while it is in HOLD (R221). -/
def execSliceSwap (l : Lane) (s : State) : Host.Outcome State Fault Refusal :=
  .next (if laneSt s l.val == laneHOLD then s
    else calKick (sliceRotate ((slicesDue s l.val).foldl (sliceReplace l.val) s) l.val) (l.val / 8))

/-! ## Quality and capture -/

/-- QUAL_UPDATE (R212). -/
def execQualUpdate (l : Lane) (snr : BitVec 12) (pmLow : Nat) (minSc minScSnr : BitVec 8) (s : State) :
    Host.Outcome State Fault Refusal :=
  .next (
    if !receiving s l.val then s
    else if rd s SHF_LANE_STAT.FORMAT l.val == 2 then
      wrs s [(SHF_RX_QUAL.SNR, l.val, snr.toNat), (SHF_RX_QUAL.MIN_SC, l.val, minSc.toNat),
        (SHF_RX_QUAL.MIN_SC_SNR, l.val, minScSnr.toNat)]
    else wrs s [(SHF_RX_QUAL.SNR, l.val, snr.toNat), (SHF_RX_QUAL.PM_LOW, l.val, min pmLow 0xFFFF)])

/-- The capture kind applies to the lane's format (R213). -/
def captureFits (s : State) (l : Nat) : Bool :=
  let f := rd s SHF_LANE_STAT.FORMAT l
  let k := rd s SHF_RX_CAPTURE.KIND l
  (k ≤ 1 && (f == 1 || f == 3)) || ((k == 2 || k == 3) && f == 2)

/-- A capture of the kind that KIND names now starts, or ends ABORTED at once (R213). -/
def captureStart (s : State) (l : Nat) : State :=
  if laneSt s l == laneLIVE && captureFits s l then
    wrs s [(SHF_RX_CAPTURE.STAT, l, 1), (HID.CAP_KIND, l, rd s SHF_RX_CAPTURE.KIND l)]
  else freeBuf (wr s SHF_RX_CAPTURE.STAT l 3) l

/-- RX_CAPTURE_START (R213). -/
def execRxCaptureStart (l : Lane) (s : State) : Host.Outcome State Fault Refusal := .next (captureStart s l.val)

/-- The bit table in the active bank of a lane (R210). -/
def activeBits (s : State) (l : Nat) : List Nat := (tabGet s.bits (l, rd s HID.BIT_BANK l)).getD []

/-- Entry b of a finished capture; none = the entry is not written. -/
def captureEntry (s : State) (l kind : Nat) (bins : List Nat) (b : Nat) : Option Nat :=
  if kind ≤ 1 then some (min (bins.getD b 0) (2 ^ 32 - 1))
  else if b == 0 then none
  else if kind == 2 then some (bins.getD b 0 % 256)
  else some ((activeBits s l).getD (b - 1) 0)

/-- RX_CAPTURE_DONE (R213). -/
def execRxCaptureDone (l : Lane) (bins : List Nat) (s : State) : Host.Outcome State Fault Refusal :=
  .next (
    if rd s SHF_RX_CAPTURE.STAT l.val != 1 then s
    else
      forEach (List.range 256) (wr s SHF_RX_CAPTURE.STAT l.val 2) (fun b t =>
        match captureEntry s l.val (rd s HID.CAP_KIND l.val) bins b with
        | some v => wr t SHF_RX_HISTBUF.VALUE (l.val * 256 + b) v
        | none => t))

/-! ## Envelope and wake receiver -/

/-- The envelope detector of a lane runs: its site is released, or sleeps as it was released (R53, R402). -/
def detects (s : State) (l : Nat) : Bool := decide (siteRELEASED ≤ siteSt s (l / 8))

/-- LOSS_OF_SIGNAL (R214): in TRAIN, LIVE and HOLD it sets LOS; the persistence of laser shutdown counts in ACQUIRE too
(R403). -/
def execLossOfSignal (l : Lane) (s : State) : Host.Outcome State Fault Refusal :=
  .next (
    if detects s l.val && 2 ≤ laneSt s l.val && laneSt s l.val ≤ 5 then
      wrs s [(SHF_RX_EVT.LOS, l.val, if laneSt s l.val == 2 then rd s SHF_RX_EVT.LOS l.val else 1), (HID.LOS_NOW, l.val, 1)]
    else s)

/-- The wake receiver of a lane listens (R214 to R216): its sheaf in S1 to S3, the lane in LISTEN and enabled, VDD_LANH
present, the site released (R53). -/
def wakeListens (s : State) (l : Nat) : Bool :=
  let sh := l / 8
  domSt s (sheafDom sh) != 0 && laneSt s l == laneLISTEN && bitOf (rd s SHF_WAKE.LANES sh) (l % 8)
    && bitOf (rd s GLB_PIN_STAT.PG 0) 0 && detects s l

/-- A sheaf wakes on its lane (R216, R428, R432): cause 3 ACTIVITY or 4 PATTERN. One that wakes already wakes once: only a
pattern of the tick on which activity began the wake takes its place. A sheaf held by a failed wake ignores both (R429). -/
def sheafWakeUp (s : State) (l cause : Nat) : State :=
  let sh := l / 8
  let waking := rd s HID.DOM_TGT (sheafDom sh) == 1
  if rd s PWR_DOM.HELD (sheafDom sh) != 0 then s
  else if waking && !(rd s HID.WAKE_AT (sheafDom sh) == rd s HID.TICKS 0 + 1 && cause == 4) then s
  else
    let s1 := wrs s [(SHF_WAKE_STAT.LAST_LANE, sh, l % 8), (SHF_WAKE_STAT.CAUSE, sh, cause - 2)]
    domMove (leaveStandby s1 cause) (sheafDom sh) 0 cause

/-- WAKE_FRAME_RX (R215, R216). -/
def execWakeFrameRx (l : Lane) (bits : BitVec 40) (s : State) : Host.Outcome State Fault Refusal :=
  let sh := l.val / 8
  let v := bits.toNat
  let word := bitsOf v 8 16
  .next (
    if !wakeListens s l.val || bitsOf v 32 8 != 0xAA || bitsOf v 24 8 != 0xE5 then s
    else if crc8 word 16 0 != bitsOf v 0 8 then bump s SHF_WAKE_STAT.BAD_CRC sh
    else
      let s1 := wr s SHF_WAKE_STAT.LAST_WORD sh word
      if word == 0 || word != rd s SHF_WAKE.WORD sh then bump s1 SHF_WAKE_STAT.OTHER_WORD sh
      else
        let s2 := bump s1 SHF_WAKE_STAT.MATCH sh
        if rd s SHF_WAKE.SRC sh == 0 then s2 else sheafWakeUp s2 l.val 4)

/-- SHEAF_WAKE_ACTIVITY (R216). -/
def execSheafWakeActivity (l : Lane) (s : State) : Host.Outcome State Fault Refusal :=
  .next (if wakeListens s l.val && rd s SHF_WAKE.SRC (l.val / 8) != 1 then sheafWakeUp s l.val 3 else s)

/-! ## HOLD -/

/-- A snapshot of the lane's receive state, as adaptation has left it, goes into bank CUR (R218). -/
def bankStore (s : State) (l temp : Nat) : State :=
  let cur := rd s SHF_RX_BANK.CUR l
  let t := adaptAll s l
  wr { t with banks := tabPut t.banks (l, cur) (bankNow t l temp) } SHF_RX_BANK.VALID l (setBit (rd s SHF_RX_BANK.VALID l) cur)

/-- Bank 1 - CUR is loaded into the chain, for the fast attempt and as the start of a full one, where it is VALID (R219,
R220). -/
def holdLoad (s : State) (l : Nat) : State :=
  if flag s HID.HOLD_VALID l then bankLoad s l ((tabGet s.banks (l, rd s HID.HOLD_BANK l)).getD default) else s

/-- The lane enters HOLD, or starts it again on a further trigger (R217 to R221). -/
def enterHold (s : State) (l abandoned temp : Nat) (live1ms : Bool) : State :=
  let s0 := perfLane (perfLane s l 0x24 0 1) l 0x23 0 abandoned
  let s1 := bumpBy (bump (wr s0 SHF_RX_EVT.CHANGE l 1) SHF_RX_HOLD_STAT.HOLDS l) SHF_RX_HOLD_STAT.CW_ABANDONED l abandoned
  let s2 := if flag s SHF_RX_HOLD_CFG.AUTOSTORE l && laneSt s l == laneLIVE && live1ms then bankStore s1 l temp else s1
  let other := 1 - rd s2 SHF_RX_BANK.CUR l
  let valid := bitOf (rd s2 SHF_RX_BANK.VALID l) other
  let bt := ((tabGet s2.banks (l, other)).map (·.temp)).getD 0
  let fast := flag s SHF_RX_HOLD_CFG.FAST_EN l && valid && decide (temp ≤ bt + 80) && decide (bt ≤ temp + 80)
  let s3 := wrs (windowReset s2 l) [(HID.HOLD_FAST, l, b2n fast), (HID.HOLD_BANK, l, other), (HID.HOLD_VALID, l, b2n valid)]
  setLane raise (holdLoad s3 l) l laneHOLD 0

/-- The lane is LIVE or in HOLD: a trigger counts. -/
def holdable (s : State) (l : Nat) : Bool := laneSt s l == laneLIVE || laneSt s l == laneHOLD

/-- HOLD_TRIGGER (R217): a power step of STEP_DB or more with the envelope above threshold; STEP_DB = 0 disables it. -/
def execHoldTrigger (l : Lane) (stepDb abandoned temp : Nat) (live1ms : Bool) (s : State) :
    Host.Outcome State Fault Refusal :=
  .next (
    if holdable s l.val && detects s l.val && !flag s HID.LOS_NOW l.val && rd s SHF_RX_HOLD_CFG.STEP_DB l.val != 0 && decide (rd s SHF_RX_HOLD_CFG.STEP_DB l.val ≤ stepDb)
    then enterHold s l.val abandoned temp live1ms else s)

/-- CDR_LOCK_LOSS (R204, R217): in LIVE or HOLD a HOLD trigger. -/
def execCdrLockLoss (l : Lane) (abandoned temp : Nat) (live1ms : Bool) (s : State) : Host.Outcome State Fault Refusal :=
  let s1 := wrs s [(SHF_RX_EVT.LOL, l.val, 1), (SHF_RX_CDR.LOCK, l.val, 0)]
  .next (
    if !receiving s l.val then s
    else if holdable s l.val then enterHold s1 l.val abandoned temp live1ms
    else s1)

/-- HOLD returns to LIVE on the other bank (R219, R220). -/
def holdReturn (s : State) (l : Nat) (cnt : Fld) : State :=
  let s1 := bump (wrs s [(SHF_RX_BANK.CUR, l, rd s HID.HOLD_BANK l), (HID.HOLD_FAST, l, 0), (SHF_RX_CDR.LOCK, l, 1),
    (SHF_FEC_STAT.LOCK, l, 1)]) cnt l
  setLane raise s1 l laneLIVE 0

/-- HOLD_FAST_RETURN (R219): clock recovery and FEC are locked again; the attempt succeeds with an SNR of SNR_MIN or more. -/
def execHoldFastReturn (l : Lane) (snr : BitVec 12) (s : State) : Host.Outcome State Fault Refusal :=
  .next (if laneSt s l.val == laneHOLD && flag s HID.HOLD_FAST l.val && decide (rd s SHF_RX_HOLD_CFG.SNR_MIN l.val ≤ snr.toNat)
    then holdReturn s l.val SHF_RX_HOLD_STAT.FAST else s)

/-- HOLD_FAST_TIMEOUT (R220): full reacquisition, from the bank where it is VALID. -/
def execHoldFastTimeout (l : Lane) (s : State) : Host.Outcome State Fault Refusal :=
  .next (if laneSt s l.val == laneHOLD && flag s HID.HOLD_FAST l.val then holdLoad (wr s HID.HOLD_FAST l.val 0) l.val else s)

/-- HOLD_FULL_RETURN (R220). -/
def execHoldFullReturn (l : Lane) (s : State) : Host.Outcome State Fault Refusal :=
  .next (if laneSt s l.val == laneHOLD && !flag s HID.HOLD_FAST l.val then holdReturn s l.val SHF_RX_HOLD_STAT.FULL else s)

/-- HOLD_FAIL (R244): training frames found during full reacquisition, or no return within 1 ms. -/
def execHoldFail (l : Lane) (training : Bool) (s : State) : Host.Outcome State Fault Refusal :=
  .next (
    if laneSt s l.val != laneHOLD || flag s HID.HOLD_FAST l.val then s
    else
      let s1 := bump (wr s SHF_LANE_STAT.REASON l.val 13) SHF_LANE_CNT.FAILS l.val
      let s2 := if training then wr s1 SHF_LANE_STAT.FOUND l.val 4 else s1
      startFor raise s2 l.val 1 13)

/-- A STORE: a snapshot while LIVE, STORE_FAIL otherwise (R218, R221). -/
def storeBank (s : State) (l temp : Nat) : State :=
  if laneSt s l == laneLIVE then bankStore s l temp else wr s SHF_RX_BANK.STORE_FAIL l 1

/-- A DISCARD: VALID of bank 1 - CUR clears (R218). -/
def discardBank (s : State) (l : Nat) : State :=
  wr s SHF_RX_BANK.VALID l (clrBit (rd s SHF_RX_BANK.VALID l) (1 - rd s SHF_RX_BANK.CUR l))

/-- RX_BANK_STORE (R218). -/
def execRxBankStore (l : Lane) (temp : Nat) (s : State) : Host.Outcome State Fault Refusal := .next (storeBank s l.val temp)

/-- RX_BANK_DISCARD (R218). -/
def execRxBankDiscard (l : Lane) (s : State) : Host.Outcome State Fault Refusal := .next (discardBank s l.val)

/-! ## Synthesiser -/

/-- Synthesiser states (R224): OFF, NOREF, CAL, SETTLE, LOCKED, FAILED. -/
def synSt (s : State) (sh : Nat) : Nat := rd s SHF_SYN_STAT.STATE sh

/-- The synthesiser has left LOCKED: its lanes squelch, return to ACQUIRE and wait (R224, R244). -/
def synthLeft (s : State) (sh : Nat) : State :=
  forEach (sheafLanes sh) (sqSheaf s sh) (fun l t => if receiving t l then startAttempt raise t l 1 else t)

/-- The synthesiser raises its fault (R224): the count tells its own raises from those of a TX_ENABLE that timed out
(R227). -/
def synthRaise (s : State) (sh : Nat) : State := faultK (0x480 + sh) (wr s HID.SYN_RAISED sh (rd s HID.SYN_RAISED sh + 1))

/-- SYNTH_CAL_DONE (R224): CAL to SETTLE. -/
def execSynthCalDone (s : Sheaf) (m : State) : Host.Outcome State Fault Refusal :=
  .next (if synSt m s.val == 2 then wr m SHF_SYN_STAT.STATE s.val 3 else m)

/-- Squelch causes of the lanes of a mask, together (R227). -/
def maskCauses (s : State) (sh mask : Nat) : Nat :=
  (maskLanes sh mask).foldl (fun n l => Nat.lor n (sqCause s l)) 0

/-- A waiting TX_ENABLE of sheaf sh completes OK (R227). -/
def txEnabled (sh : Nat) (s : State) (x : Run) : State :=
  match x.phase with
  | .waiting (h :: mask :: _) =>
    if x.acc.cmd.opcode == 0x54 && h == sh then
      finish (dropRun s x.ring x.acc.cmd.tag) x.ring x.acc ⟨.ok, maskCauses s sh mask, none, false⟩
    else s
  | _ => s

/-- The first lock of a waking sheaf ends its wake (R427). -/
def wakeLocked (s : State) (sh : Nat) : State :=
  if flag s HID.WAKE_SYN sh then domAwake (wr s HID.WAKE_SYN sh 0) (sheafDom sh) else s

/-- SYNTH_LOCKED (R224, R227, R245). -/
def execSynthLocked (s : Sheaf) (lockUs : BitVec 16) (m : State) : Host.Outcome State Fault Refusal :=
  .next (
    if synSt m s.val != 3 then m
    else
      let m1 := wrs m [(SHF_SYN_STAT.STATE, s.val, 4), (SHF_SYN_STAT.LOCK_US, s.val, lockUs.toNat)]
      let m2 := forEach (sheafLanes s.val) m1 (fun l t =>
        if flag t SHF_LANE_STAT.WAIT_SYNTH l then trnAcquire (wr t SHF_LANE_STAT.WAIT_SYNTH l 0) l else t)
      wakeLocked (m2.running.foldl (txEnabled s.val) m2) s.val)

/-- SYNTH_ATTEMPT_TIMEOUT (R224): retried twice; the third miss is FAILED, and the wake in progress has failed (R429). -/
def execSynthAttemptTimeout (s : Sheaf) (m : State) : Host.Outcome State Fault Refusal :=
  .next (
    if synSt m s.val != 2 && synSt m s.val != 3 then m
    else if rd m SHF_SYN_STAT.ATTEMPT s.val < 3 then
      wrs m [(SHF_SYN_STAT.STATE, s.val, 2), (SHF_SYN_STAT.ATTEMPT, s.val, rd m SHF_SYN_STAT.ATTEMPT s.val + 1)]
    else
      let m1 := synthRaise (sqSheaf (wr m SHF_SYN_STAT.STATE s.val 5) s.val) s.val
      if flag m HID.WAKE_SYN s.val then wakeFail (sheafDom s.val) true m1 else m1)

/-- A synthesiser loses its reference or its lock (R224, R50). -/
def synthLose (m : State) (sh : Nat) (refPresent : Bool) : State :=
  let st := synSt m sh
  let next := fun t => if refPresent then wrs t [(SHF_SYN_STAT.STATE, sh, 2), (SHF_SYN_STAT.ATTEMPT, sh, 1)]
    else wr t SHF_SYN_STAT.STATE sh 1
  if st == 4 then synthRaise (synthLeft (bump (next m) SHF_SYN_STAT.LOSSES sh) sh) sh
  else if (st == 0 || st == 2 || st == 3) && !refPresent && domSt m (sheafDom sh) ≤ 1 then next m
  else m

/-- SYNTH_LOCK_LOST (R224). -/
def execSynthLockLost (s : Sheaf) (refPresent : Bool) (m : State) : Host.Outcome State Fault Refusal :=
  .next (synthLose m s.val refPresent)

/-- The reference of a synthesiser in NOREF is back: CAL, attempt 1 (R224). -/
def synthRef (m : State) (sh : Nat) : State :=
  if synSt m sh == 1 then wrs m [(SHF_SYN_STAT.STATE, sh, 2), (SHF_SYN_STAT.ATTEMPT, sh, 1)] else m

/-- SYNTH_REF_RETURN (R224): the reference has been present for 100 us. -/
def execSynthRefReturn (s : Sheaf) (m : State) : Host.Outcome State Fault Refusal :=
  .next (synthRef (wr m HID.REF_LINE_LOST 0 (clrBit (rd m HID.REF_LINE_LOST 0) (s.val / 8))) s.val)

/-- REFCLK_LINE_LOSS (R50): the eight synthesisers of line die j lose their reference. -/
def execRefclkLineLoss (j : Fin 8) (s : State) : Host.Outcome State Fault Refusal :=
  let s1 := wr s HID.REF_LINE_LOST 0 (setBit (rd s HID.REF_LINE_LOST 0) j.val)
  .next (forEach ((List.range 8).map (fun i => 8 * j.val + i)) s1 (fun sh t => synthLose t sh false))

/-! ## Transmit enable -/

/-- The sheaf of a lane opcode. -/
def opSheaf (a : Acc) : Nat := opdB a 0x10

/-- TX_ENABLE (R226, R227). The output squelches, or leaves squelch, at the lane's next transmit boundary. -/
def opTxEnable : OpSpec :=
  ⟨0x54, 0, false, false, fun _ a => badIf (63 < opSheaf a), fun _ a => [sheafDom (opSheaf a)],
    fun s a => invIf (opdBit a 0x12 0 && synSt s (opSheaf a) == 5),
    fun _ a s =>
      let sh := opSheaf a
      let mask := opdB a 0x11
      let s1 := forEach (maskLanes sh mask) s (fun l t =>
        wr t SHF_TX_CTRL.EN l (b2n (opdBit a 0x12 0 && laneSt t l != laneFAILED)))
      if !opdBit a 0x12 0 then .done s1 rOk
      else if synSt s sh == 4 then .done s1 ⟨.ok, maskCauses s1 sh mask, none, false⟩
      else .wait s1 [sh, mask, rd s HID.SYN_RAISED sh]⟩

/-- TX_ENABLE_TIMEOUT (R227): 5 ms without a lock. -/
def execTxEnableTimeout (r : Ring) (tag : BitVec 16) (s : State) : Host.Outcome State Fault Refusal :=
  .next (
    match s.running.find? (fun x => x.ring == r.val && x.acc.cmd.tag == tag.toNat && waitsOn 0x54 [] x) with
    | none => s
    | some x =>
      match x.phase with
      | .waiting [sh, mask, n] =>
        let s1 := forEach (maskLanes sh mask) (bump s SHF_SYN_STAT.TIMEOUTS sh) (fun l t => wr t SHF_TX_CTRL.EN l 0)
        let s2 := if rd s HID.SYN_RAISED sh == n then faultK (0x480 + sh) s1 else s1
        finish (dropRun s2 x.ring x.acc.cmd.tag) x.ring x.acc (rStat .timeout)
      | _ => s)

/-! ## Wake pattern -/

/-- Lanes a WAKE_SEND names. -/
def wakeLanes (a : Acc) : List Nat := maskLanes (opSheaf a) (opdB a 0x11)

/-- WAKE_SEND (R238). The lanes it names have frames to send, and send them once the synthesiser is LOCKED. -/
def opWakeSend : OpSpec :=
  ⟨0x55, 0, false, false, fun _ a => badIf (63 < opSheaf a || 60000 < opd a 0x14 2),
    fun _ a => if a.cmd.wake then [sheafDom (opSheaf a)] else [],
    fun s a =>
      let dur := opd a 0x14 2
      if dur != 0 && (wakeLanes a).any (fun l => flag s HID.WAKE_JOB l) then some (rStat .busy)
      else invIf (opd a 0x12 2 == 0 || (wakeLanes a).any (fun l => 3 ≤ laneSt s l) || synSt s (opSheaf a) == 5
        || (dur != 0 && 2 ≤ domSt s (sheafDom (opSheaf a)))),
    fun _ a s =>
      if opd a 0x14 2 == 0 then .done (stopWakes raise (wakeLanes a) 2 s) rOk
      else if opdB a 0x11 == 0 then .done s (rData 0)
      else
        let s1 := if synSt s (opSheaf a) == 0 then synthStart s (opSheaf a) else s
        .wait (forEach (wakeLanes a) s1 (fun l t => wrs t [(HID.WAKE_JOB, l, 1), (HID.WAKE_WORD, l, opd a 0x12 2),
          (HID.STOP_ON_RX, l, b2n (opdBit a 0x16 0))])) [opSheaf a, opdB a 0x11, 0, 0]⟩

def execTxEnable (r : Ring) (s : State) : Host.Outcome State Fault Refusal := .next (dispatch opTxEnable r.val s)
def execWakeSend (r : Ring) (s : State) : Host.Outcome State Fault Refusal := .next (dispatch opWakeSend r.val s)

/-- WAKE_SEND_DURATION_END (R238). -/
def execWakeSendDurationEnd (l : Lane) (frames : Nat) (s : State) : Host.Outcome State Fault Refusal :=
  .next (stopWake raise l.val 0 (some frames) s)

/-- WAKE_SEND_PARTNER (R238): the envelope stood 10 us, with STOP_ON_RX = 1. -/
def execWakeSendPartner (l : Lane) (frames : Nat) (s : State) : Host.Outcome State Fault Refusal :=
  .next (if flag s HID.STOP_ON_RX l.val && detects s l.val then stopWake raise l.val 1 (some frames) s else s)

/-! ## Training-transmit timeout and shaping -/

/-- TX_TRAINING_TIMEOUT (R235): 2 s of training frames without a valid one from the partner. A shutdown pulse ends with it
(R236, R403). -/
def execTxTrainingTimeout (l : Lane) (s : State) : Host.Outcome State Fault Refusal :=
  .next (
    if (laneSt s l.val == laneACQUIRE || laneSt s l.val == laneTRAIN) && rd s SHF_LANE_STAT.MODE l.val != 4
      && flag s SHF_TX_CTRL.EN l.val && !flag s HID.TTX l.val then
      let s1 := bump (sqNow (wr s HID.TTX l.val 1) l.val) SHF_TX_STAT.TTX_CNT l.val
      if rd s SHF_TX_STAT.ALS l.val == 2 then setAls raise s1 l.val 1 else s1
    else s)

/-- APPLY: the fixed set waits for its boundary (R232). -/
def shapeApply (s : State) (l : Nat) : State := wrs s [(SHF_TX_SHAPE.PEND, l, 1), (HID.TX_APPLY, l, 1)]

/-- TX_SHAPE_APPLY (R232). -/
def execTxShapeApply (l : Lane) (s : State) : Host.Outcome State Fault Refusal := .next (shapeApply s l.val)

end Sys2Proof.Machine
end

