-- ==== Sys2Proof/Machine/Training.lean ====
section
/-! DEFINITION. Lane acquisition and training (R241 to R261): the lane opcodes, the multi-format search, the exchange of
training messages phase by phase, the confirmation window and the retries. -/

namespace Sys2Proof.Machine

/-! ## Lane opcodes (R242, R243) -/

/-- A mode of the native family: NATIVE, LOADED, AUTO. -/
def nativeFam (m : Nat) : Bool := 1 ≤ m && m ≤ 3

/-- MODE of each lane of the sheaf after LANE_MODE (R243). -/
def modesAfter (s : State) (sh mask mode : Nat) : List Nat :=
  (List.range 8).map (fun i => if bitOf mask i then mode else rd s SHF_LANE_STAT.MODE (8 * sh + i))

/-- The command would mix the two rate families in one sheaf (R17). -/
def mixesFamilies (s : State) (sh mask mode : Nat) : Bool :=
  let m := modesAfter s sh mask mode
  m.contains 4 && m.any nativeFam

/-- The synthesiser on a lane-mode command (R223, R224): FAILED starts again, a change of family recalibrates. A command
that names no lane changes no family. -/
def synthMode (s : State) (sh mask mode : Nat) : State :=
  let fam := b2n (mode == 4)
  let st := synSt s sh
  let change := mode != 0 && mask != 0 && rd s SHF_SYN_STAT.FAMILY sh != fam
  let s1 := if change then wr s SHF_SYN_STAT.FAMILY sh fam else s
  if change && st == 4 then synthLeft (synthStart s1 sh) sh
  else if st == 5 || (change && 2 ≤ st && st ≤ 3) then synthStart s1 sh
  else s1

/-- Series ended: the lane is DARK, its shaping reloaded (R232, R244). -/
def laneDark (s : State) (l : Nat) : State :=
  let s1 := wrs (clearTraining s l) [(SHF_RX_BANK.VALID, l, 0), (HID.BACKOFF, l, 0), (SHF_LANE_STAT.EXHAUSTED, l, 0),
    (SHF_LANE_STAT.FORMAT, l, 0), (SHF_LANE_STAT.WAIT_SYNTH, l, 0), (HID.HOLD_FAST, l, 0), (HID.WAS_AWAKE, l, 0)]
  setLane raise (reloadShape s1 l) l laneDARK 0

/-- The lane waits in LISTEN for activity (R244, LISTEN_ONLY). -/
def laneListen (s : State) (l : Nat) : State :=
  setLane raise (reloadShape (wr s SHF_LANE_STAT.EXHAUSTED l 1) l) l laneLISTEN 0

/-- Attempt 1 of a new series; in a sheaf outside S0 the lane waits in LISTEN for its return (R244). -/
def laneSeries (s : State) (l : Nat) : State :=
  if domSt s (sheafDom (l / 8)) == 0 then startAttempt raise s l 1
  else setLane raise (wr (reloadShape s l) HID.WAS_AWAKE l 1) l laneLISTEN 0

/-- LANE_MODE on one lane (R243, R244). An unchanged MODE leaves a lane that is neither DARK nor FAILED as it is. -/
def laneModeOne (mode : Nat) (listenOnly : Bool) (s : State) (l : Nat) : State :=
  let s1 := wr s SHF_LANE_STAT.MODE l mode
  let off := laneSt s l == laneDARK || laneSt s l == laneFAILED
  if mode == 0 then laneDark s1 l
  else if off && listenOnly then laneListen s1 l
  else if off then laneSeries s1 l
  else if rd s SHF_LANE_STAT.MODE l == mode then s1
  else laneSeries (wr s1 SHF_RX_BANK.VALID l 0) l

/-- LANE_MODE (R242, R243). -/
def opLaneMode : OpSpec :=
  ⟨0x50, 0, false, false, fun _ a => badIf (63 < opSheaf a), fun _ a => [sheafDom (opSheaf a)],
    fun s a =>
      let mode := opdB a 0x12
      invIf (4 < mode || mixesFamilies s (opSheaf a) (opdB a 0x11) mode
        || (mode != 0 && (maskLanes (opSheaf a) (opdB a 0x11)).any (fun l =>
            laneSt s l == laneFAILED && decide (8 < (slicesIn s l 3).length)))),
    fun _ a s =>
      .done ((maskLanes (opSheaf a) (opdB a 0x11)).foldl (laneModeOne (opdB a 0x12) (opdBit a 0x13 0))
        (synthMode s (opSheaf a) (opdB a 0x11) (opdB a 0x12))) rOk⟩

/-- This side's next message (R250). -/
def trnSend (s : State) (l type : Nat) (body : List Byte) : State :=
  let seq := (rd s HID.TRN_SEQ l + 1) % 65536
  wrs { s with trnMsgs := tabPut s.trnMsgs (l, 0) (type, body) } [(HID.TRN_SEQ, l, seq), (HID.TRN_MSG, l, type)]

/-- The lane exchanges training frames: TRAIN, before the data format of T4 runs. -/
def exchanging (s : State) (l : Nat) : Bool := laneSt s l == laneTRAIN && decide (rd s SHF_LANE_STAT.PHASE l ≤ 3)

/-- The frame a lane sends now: its newest message until that is acknowledged, and IDLE, which has no body, with that
message's number after (R250, R251). It goes out once for each valid frame received; how often it is repeated besides no
command tells (DESIGN CHOICE, log entry 106). -/
def trnShow (s : State) (l : Nat) : State :=
  if !exchanging s l then s
  else
    match tabGet s.trnMsgs (l, 0) with
    | some (type, body) =>
      if rd s HID.TRN_SEQ l == rd s HID.TRN_ACKED l then trnEmit s l 0 (rd s HID.TRN_SEQ l) []
      else trnEmit s l type (rd s HID.TRN_SEQ l) body
    | none => trnEmit s l 0 0 []

/-- An ABORT is sent if the partner was heard in this attempt and training frames still run (R244, R261). -/
def trnAbort (s : State) (l reason : Nat) : State :=
  if exchanging s l && flag s HID.TRN_HEARD l then trnShow (trnSend s l 0xA (bytesOf [reason])) l else s

/-- A training attempt fails (R244, R258). -/
def trnFail (s : State) (l reason : Nat) : State := failAttempt raise (trnAbort s l reason) l reason

/-- LANE_RESTART on one lane (R243): no effect on a DARK or FAILED one; LISTEN in a sheaf asleep stays (R244). -/
def laneRestartOne (s : State) (l : Nat) : State :=
  if laneSt s l == laneDARK || laneSt s l == laneFAILED then s
  else laneSeries (trnAbort s l 0) l

/-- LANE_RESTART (R242, R243). -/
def opLaneRestart : OpSpec :=
  ⟨0x51, 0, false, false, fun _ a => badIf (63 < opSheaf a), fun _ a => [sheafDom (opSheaf a)], noCheck,
    fun _ a s => .done ((maskLanes (opSheaf a) (opdB a 0x11)).foldl laneRestartOne s) rOk⟩

def execLaneMode (r : Ring) (s : State) : Host.Outcome State Fault Refusal := .next (dispatch opLaneMode r.val s)
def execLaneRestart (r : Ring) (s : State) : Host.Outcome State Fault Refusal := .next (dispatch opLaneRestart r.val s)

/-! ## What training has done (HID.TRN_FLAGS) -/

def tHello : Nat := 0
def tProbe : Nat := 1
def tReportTx : Nat := 2
def tReportRx : Nat := 3
def tReqWant : Nat := 4
def tDoneWant : Nat := 5
def tDoneTx : Nat := 6
def tDoneRx : Nat := 7
def tAckOwed : Nat := 8
def tAckRefuse : Nat := 9
def tBitsWant : Nat := 10
def tBits0Tx : Nat := 11
def tBits1Tx : Nat := 12
def tSwitchTx : Nat := 13
def tSwitchRx : Nat := 14
def tReqOut : Nat := 15

def trnHas (s : State) (l k : Nat) : Bool := bitOf (rd s HID.TRN_FLAGS l) k
def trnOn (s : State) (l k : Nat) : State := wr s HID.TRN_FLAGS l (setBit (rd s HID.TRN_FLAGS l) k)
def trnOff (s : State) (l k : Nat) : State := wr s HID.TRN_FLAGS l (clrBit (rd s HID.TRN_FLAGS l) k)

/-- Every message this side has sent is acknowledged (R250). -/
def trnIdle (s : State) (l : Nat) : Bool := rd s HID.TRN_SEQ l == rd s HID.TRN_ACKED l

/-! ## Messages of this side -/

/-- The HELLO of this side (R251). The device is native and loaded capable. -/
def helloBody (s : State) (l : Nat) : HelloBody :=
  { mode := rd s SHF_LANE_STAT.MODE l, nativeCap := true, loadedCap := true, minTier := rd s SHF_TRN_CFG.MIN_TIER (l / 8),
    version := 1, serialLo := Config.serial.toNat % 2 ^ 32, sheaf := l / 8, lane := l % 8 }

/-- The two segments of a bit table as BITS carries them (R251): subcarriers 1-128 and 129-255. -/
def bitsSeg (b : List Nat) (seg : Nat) : List Nat := if seg == 0 then b.take 128 else b.drop 128

/-- The inactive bank of the bit tables of lane l. -/
def otherBank (s : State) (l : Nat) : Nat := 1 - rd s HID.BIT_BANK l

/-- This side's own receive table, built in T3 (R256). -/
def ownBits (s : State) (l : Nat) : List Nat := (tabGet s.bits (l, otherBank s l)).getD []

/-- The next message that waits, sent when nothing is outstanding: an answer to a request first (R250, R255, R256). The set
a SHAPE_REQ asks for is a free value (log entry 9). -/
def trnNext (s : State) (l : Nat) : State :=
  if !trnIdle s l then s
  else if trnHas s l tAckOwed then
    trnSend (trnOff s l tAckOwed) l 4 (shapeAckBytes (rd s HID.TRN_ACK_IT l) (!trnHas s l tAckRefuse))
  else if trnHas s l tReqWant then
    let s1 := wr (trnOn (trnOff s l tReqWant) l tReqOut) HID.TRN_ACCEPTED l 0
    trnSend (took (took s1)) l 3 (shapeReqBytes (rd s HID.TRN_ITER l + 1) ((freeList s 15 10).map (fun n => (n : Int)))
      ((freeList (took s) 64 8).map (fun n => (n : Int))))
  else if trnHas s l tDoneWant then
    trnSend (trnOn (trnOff s l tDoneWant) l tDoneTx) l 5 (shapeDoneBytes (rd s HID.TRN_SNR l))
  else if trnHas s l tBitsWant && !trnHas s l tBits0Tx then
    trnSend (trnOn s l tBits0Tx) l 6 (bitsBytes 0 (rd s HID.TRN_TIER l) (bitsSeg (ownBits s l) 0))
  else if trnHas s l tBitsWant && !trnHas s l tBits1Tx then
    trnSend (trnOn s l tBits1Tx) l 6 (bitsBytes 1 (rd s HID.TRN_TIER l) (bitsSeg (ownBits s l) 1))
  else s

/-- This side's SWITCH (R257). -/
def sendSwitch (s : State) (l : Nat) : State :=
  trnSend (trnOn s l tSwitchTx) l 7
    (switchBytes ((rd s HID.TRN_SEQ l + 1) % 65536) (rd s HID.TRN_FORMAT l) (rd s HID.TRN_TIER l))

/-! ## Phases -/

/-- Mode resolution of T0 (R253): 0 MISMATCH, 1 native, 2 loaded, 3 decided in T1. -/
def resolveMode (own partner : Nat) : Nat :=
  if !nativeFam own || !nativeFam partner then 0
  else if own == partner then own
  else if own == 3 then partner
  else if partner == 3 then own
  else 0

/-- The format at the end of T1 (R254): AUTO on both sides goes native when both SNRs allow it. -/
def formatT1 (s : State) (l : Nat) : Nat :=
  if rd s HID.TRN_FORMAT l != 3 then rd s HID.TRN_FORMAT l
  else if bitOf (rd s HID.TRN_OWN l) 12 && flag s HID.TRN_P_OK l then 1
  else 2

/-- The tier of loaded format, or none where the attempt fails (R254). -/
def tierT1 (s : State) (l : Nat) : Option Nat :=
  let own := rd s HID.TRN_OWN_TIER l
  let part := rd s HID.TRN_P_TIER l
  let t := min own part
  if 4 < own || 4 < part || t < rd s SHF_TRN_CFG.MIN_TIER (l / 8) || t < bitsOf (rd s HID.TRN_PMODE l) 4 3 then none
  else some t

/-- T2 begins: this side's first request waits (R255). -/
def enterT2 (s : State) (l : Nat) : State :=
  trnOn (wrs s [(SHF_LANE_STAT.PHASE, l, 2), (HID.TRN_SNR, l, rd s HID.TRN_OWN l % 4096)]) l tReqWant

/-- The end of T1 (R254). -/
def endT1 (s : State) (l : Nat) : State :=
  let s1 := wr s HID.TRN_FORMAT l (formatT1 s l)
  if formatT1 s l == 1 then enterT2 s1 l
  else
    match tierT1 s l with
    | none => trnFail s1 l 10
    | some t => enterT2 (wr s1 HID.TRN_TIER l t) l

/-- The last training frame goes out, which acknowledges the partner's SWITCH; then the data format starts, and with it
T4. The inner encoder and the puncture phase start from 0 (R257, R268). -/
def enterT4 (s0 : State) (l : Nat) : State :=
  let t := trnShow s0 l
  let s := { t with txBits := tabDel t.txBits (l, 0) }
  let s1 := wrs s [(HID.ENC_REG, l, 0), (HID.ENC_PUNC, l, 0), (HID.AM_PAIR, l, 0), (HID.AM_SENT, l, 0), (HID.SUPER_PH, l, 0),
    (SHF_LANE_STAT.PHASE, l, 4), (HID.LANE_CONFIRM, l, 1), (SHF_LANE_STAT.FORMAT, l, rd s HID.TRN_FORMAT l)]
  if rd s HID.TRN_FORMAT l == 2 then
    wrs s1 [(SHF_LANE_STAT.TIER, l, rd s HID.TRN_TIER l), (HID.BIT_BANK, l, otherBank s l)]
  else s1

/-- T2 is over: each side's SHAPE_DONE is sent and acknowledged (R252). -/
def doneBoth (s : State) (l : Nat) : Bool := trnHas s l tDoneTx && trnHas s l tDoneRx && trnIdle s l

/-- T3 is over: both segments of each direction are acknowledged (R252, R256). -/
def bitsBoth (s : State) (l : Nat) : Bool := trnHas s l tBits1Tx && rd s HID.TRN_BITS l == 3 && trnIdle s l

/-- One step from phase to phase, where its conditions hold (R252 to R257). -/
def phaseStep (s : State) (l : Nat) : State :=
  if !exchanging s l then s
  else
    match rd s SHF_LANE_STAT.PHASE l with
    | 0 => if trnHas s l tHello && trnIdle s l then wr s SHF_LANE_STAT.PHASE l 1 else s
    | 1 =>
      if trnHas s l tReportTx && trnHas s l tReportRx && trnIdle s l then endT1 s l
      else s
    | 2 =>
      if trnHas s l tSwitchTx then (if trnHas s l tSwitchRx && trnIdle s l then enterT4 s l else s)
      else if !doneBoth s l || trnHas s l tAckOwed then s
      else if rd s HID.TRN_FORMAT l == 2 then wr s SHF_LANE_STAT.PHASE l 3
      else sendSwitch s l
    | _ =>
      if trnHas s l tSwitchTx then (if trnHas s l tSwitchRx && trnIdle s l then enterT4 s l else s)
      else if bitsBoth s l then sendSwitch s l
      else s

/-- Everything a frame or a measurement sets going: the phase, then the message that waits. -/
def trnAdvance (s : State) (l : Nat) : State :=
  let s1 := phaseStep s l
  if exchanging s1 l then trnNext s1 l else s1

/-! ## Messages of the partner -/

/-- SEQ or ACK of 0 shows a partner that has started again (R250). -/
def partnerNew (s : State) (l : Nat) (h : TrnHdr) : Bool :=
  (h.seq == 0 || h.ack == 0) && rd s SHF_LANE_STAT.PHASE l != 0

/-- A training frame is taken if it is valid (R249, R250): its ACK, and its message if it is the next one; this side's own
frame follows. The clock it came with is recovered (R204; DEDUCED, log entry 107). -/
def trnRx (l : Nat) (h : TrnHdr) (msg : Nat) (bytes : List Byte) (body : State → State) (s : State) : State :=
  if !exchanging s l || !trnValid h msg bytes then s
  else
    let s1 := wrs s [(HID.TRN_HEARD, l, 1), (SHF_RX_CDR.LOCK, l, 1)]
    if partnerNew s1 l h then trnFail s1 l 12
    else
      let s2 := if h.ack == rd s1 HID.TRN_SEQ l && h.ack != 0 then wr s1 HID.TRN_ACKED l h.ack else s1
      let s3 := phaseStep s2 l
      if exchanging s3 l && h.seq == (rd s3 HID.TRN_RX l + 1) % 65536 then
        trnShow (trnAdvance (body (wr s3 HID.TRN_RX l h.seq)) l) l
      else trnShow (trnAdvance s3 l) l

/-- A message body taken in one phase only. -/
def inPhase (n : Nat) (l : Nat) (f : State → State) (s : State) : State :=
  if rd s SHF_LANE_STAT.PHASE l == n then f s else s

/-- A HELLO (R253, R262). -/
def takeHello (l : Nat) (b : HelloBody) (s : State) : State :=
  let s1 := wrs s [(SHF_TRN_PARTNER.SERIAL_LO, l, b.serialLo), (SHF_TRN_PARTNER.SHEAF, l, b.sheaf),
    (SHF_TRN_PARTNER.LANE, l, b.lane), (SHF_TRN_PARTNER.MODE, l, b.mode), (SHF_TRN_PARTNER.VERSION, l, b.version),
    (HID.TRN_PMODE, l, b.mode % 4 + 4 * b2n b.nativeCap + 8 * b2n b.loadedCap + 16 * (b.minTier % 8))]
  let f := resolveMode (rd s SHF_LANE_STAT.MODE l) b.mode
  if b.version == 0 then trnFail s1 l 14
  else if f == 0 then trnFail (bump s1 SHF_LANE_CNT.MISMATCH l) l 9
  else trnOn (wr s1 HID.TRN_FORMAT l f) l tHello

/-- HELLO (R253). -/
def execHello (l : Lane) (h : TrnHdr) (b : HelloBody) (s : State) : Host.Outcome State Fault Refusal :=
  .next (trnRx l.val h 1 (helloBytes b) (inPhase 0 l.val (takeHello l.val b)) s)

/-- REPORT (R254). -/
def execReport (l : Lane) (h : TrnHdr) (snr : Nat) (nativeOk : Bool) (maxTier : Nat) (s : State) :
    Host.Outcome State Fault Refusal :=
  .next (trnRx l.val h 2 (reportBytes snr nativeOk maxTier) (inPhase 1 l.val (fun t =>
    trnOn (wrs t [(HID.TRN_P_OK, l.val, b2n nativeOk), (HID.TRN_P_TIER, l.val, min maxTier 0xFF)]) l.val tReportRx)) s)

/-- A look-up set that fits its registers (R231). -/
def lutOk (lut : List Int) : Bool := lut.length == 64 && lut.all (fun v => decide (-128 ≤ v) && decide (v ≤ 127))

/-- The set of a SHAPE_REQ is accepted (R255, R230). -/
def shapeAccept (s : State) (l : Nat) (taps lut : List Int) : Bool :=
  !flag s SHF_TX_CTRL.SHAPE_SRC l && tapsOk taps && lutOk lut

/-- SHAPE_REQ (R255): accepted, and in force from the start of the next training frame, or refused and counted. -/
def execShapeReq (l : Lane) (h : TrnHdr) (iter : Nat) (taps lut : List Int) (s : State) :
    Host.Outcome State Fault Refusal :=
  .next (trnRx l.val h 3 (shapeReqBytes iter taps lut) (inPhase 2 l.val (fun t =>
    let t1 := trnOn (wr t HID.TRN_ACK_IT l.val iter) l.val tAckOwed
    if shapeAccept t l.val taps lut then
      trnOff { t1 with shapes := tabPut t1.shapes (l.val, 0) (taps, lut) } l.val tAckRefuse
    else trnOn (bump t1 SHF_LANE_CNT.SHAPE_REFUSED l.val) l.val tAckRefuse)) s)

/-- An iteration of this side's request has ended with a gain in 0.01 dB: SHAPE_DONE after 16, or after two successive
ones that gained less than 0.1 dB (R255). -/
def iterEnd (s : State) (l : Nat) (gain : Int) : State :=
  let n := rd s HID.TRN_ITER l + 1
  let small := if gain < 10 then rd s HID.TRN_SMALL l + 1 else 0
  let s1 := wrs (trnOff s l tReqOut) [(HID.TRN_ITER, l, n), (HID.TRN_SMALL, l, min small 2)]
  trnOn s1 l (if 16 ≤ n || 2 ≤ small then tDoneWant else tReqWant)

/-- SHAPE_ACK (R255): after an ACCEPT the requester measures; a refused iteration has gained nothing. -/
def execShapeAck (l : Lane) (h : TrnHdr) (iter : Nat) (accept : Bool) (s : State) : Host.Outcome State Fault Refusal :=
  .next (trnRx l.val h 4 (shapeAckBytes iter accept) (inPhase 2 l.val (fun t =>
    if !trnHas t l.val tReqOut || iter != rd t HID.TRN_ITER l.val + 1 then t
    else if accept then wr t HID.TRN_ACCEPTED l.val 1
    else iterEnd t l.val 0)) s)

/-- SHAPE_DONE (R255). -/
def execShapeDone (l : Lane) (h : TrnHdr) (snr : Nat) (s : State) : Host.Outcome State Fault Refusal :=
  .next (trnRx l.val h 5 (shapeDoneBytes snr) (inPhase 2 l.val (fun t => trnOn t l.val tDoneRx)) s)

/-- Coded bits a tier carries in one transform symbol, B_T (R278). -/
def tierBits (t : Nat) : Nat := [495, 619, 743, 867, 990].getD t 0

/-- A BITS segment of the partner is put in the inactive transmit bank (R256). -/
def takeBits (l seg tier : Nat) (b : List Nat) (s : State) : State :=
  let key : Key := (l, 2 + otherBank s l)
  let old := (tabGet s.bits key).getD []
  let tab := if seg == 0 then (b ++ List.replicate 128 0).take 128 else old.take 128 ++ b.take 127
  let got := setBit (rd s HID.TRN_BITS l) seg
  let s1 := wr { s with bits := tabPut s.bits key tab } HID.TRN_BITS l got
  if tier != rd s HID.TRN_TIER l || b.any (fun v => decide (8 < v)) ||
      (got == 3 && tab.foldl (· + ·) 0 != tierBits (rd s HID.TRN_TIER l)) then trnFail s1 l 10
  else s1

/-- BITS (R256). -/
def execBits (l : Lane) (h : TrnHdr) (seg : Fin 2) (tier : Nat) (b : List Nat) (s : State) :
    Host.Outcome State Fault Refusal :=
  .next (trnRx l.val h 6 (bitsBytes seg.val tier b) (inPhase 3 l.val (takeBits l.val seg.val tier b)) s)

/-- SWITCH (R257). -/
def execSwitch (l : Lane) (h : TrnHdr) (last format tier : Nat) (s : State) : Host.Outcome State Fault Refusal :=
  .next (trnRx l.val h 7 (switchBytes last format tier) (fun t =>
    if 2 ≤ rd t SHF_LANE_STAT.PHASE l.val then trnOn (wr t HID.TRN_LAST l.val last) l.val tSwitchRx else t) s)

/-- ABORT (R244, R251): a message whose SEQ is the last seen or the next (R250). -/
def execAbort (l : Lane) (h : TrnHdr) (reason : Nat) (s : State) : Host.Outcome State Fault Refusal :=
  let s1 := wr s HID.TRN_HEARD l.val 1
  .next (
    if !exchanging s l.val || !trnValid h 0xA (bytesOf [reason]) then s
    else if partnerNew s1 l.val h || h.seq == rd s HID.TRN_RX l.val || h.seq == (rd s HID.TRN_RX l.val + 1) % 65536 then
      trnFail s1 l.val 12
    else trnShow s1 l.val)

/-- IDLE (R250): a frame with nothing new, whose ACK counts; it has no body (R251). -/
def execIdle (l : Lane) (h : TrnHdr) (s : State) : Host.Outcome State Fault Refusal := .next (trnRx l.val h 0 [] (fun t => t) s)

/-! ## Measurements -/

/-- PROBE_COMPLETE (R254): the REPORT of this receive direction. -/
def execProbeComplete (l : Lane) (snr maxTier : Nat) (s : State) : Host.Outcome State Fault Refusal :=
  .next (
    if laneSt s l.val != laneTRAIN || rd s SHF_LANE_STAT.PHASE l.val != 1 || trnHas s l.val tProbe then s
    else
      let ok := decide (rd s SHF_TRN_CFG.AUTO_SNR (l.val / 8) ≤ snr)
      let t := if maxTier ≤ 4 then maxTier else 0xFF
      let s1 := trnOn (trnOn (wrs s [(HID.TRN_OWN, l.val, min snr 4095 + 4096 * b2n ok), (HID.TRN_OWN_TIER, l.val, t)])
        l.val tProbe) l.val tReportTx
      trnShow (trnAdvance (trnSend s1 l.val 2 (reportBytes snr ok t)) l.val) l.val)

/-- SHAPE_MEASURE_DONE (R255): the 2^14 bursts after an ACCEPT are measured. -/
def execShapeMeasureDone (l : Lane) (snr : Nat) (s : State) : Host.Outcome State Fault Refusal :=
  .next (
    if laneSt s l.val != laneTRAIN || rd s SHF_LANE_STAT.PHASE l.val != 2 || !trnHas s l.val tReqOut
        || !flag s HID.TRN_ACCEPTED l.val then s
    else
      let gain : Int := (snr : Int) - (rd s HID.TRN_SNR l.val : Int)
      trnShow (trnAdvance (iterEnd (wr s HID.TRN_SNR l.val (min snr 4095)) l.val gain) l.val) l.val)

/-- LOAD_MEASURE_DONE (R256): the bit table this receiver built goes into its inactive bank, and to the partner. -/
def execLoadMeasureDone (l : Lane) (b : List Nat) (s : State) : Host.Outcome State Fault Refusal :=
  .next (
    if laneSt s l.val != laneTRAIN || rd s SHF_LANE_STAT.PHASE l.val != 3 || trnHas s l.val tBitsWant then s
    else
      let s1 := { s with bits := tabPut s.bits (l.val, otherBank s l.val) (b.take 255) }
      trnShow (trnAdvance (trnOn s1 l.val tBitsWant) l.val) l.val)

/-! ## Acquisition -/

/-- Codes of SHF_LANE_STAT.FOUND (R262). -/
def foundCode : Format → Nat
  | .standard => 1
  | .native => 2
  | .loaded => 3
  | .training => 4

/-- MODE allows the format (R247). -/
def modeAllows (mode : Nat) : Format → Bool
  | .standard => mode == 4
  | .native => mode == 1 || mode == 3
  | .loaded => mode == 2 || mode == 3
  | .training => nativeFam mode

/-- The search of the lane runs: ACQUIRE, the synthesiser locked, nothing settled on (R245, R246). -/
def searching (s : State) (l : Nat) : Bool :=
  laneSt s l == laneACQUIRE && !flag s SHF_LANE_STAT.WAIT_SYNTH l && !flag s HID.LANE_CONFIRM l

/-- FORMAT_FOUND (R247). The lane has recovered the clock of a format it settles on (R204; DEDUCED, log entry 107). -/
def execFormatFound (l : Lane) (f : Format) (s : State) : Host.Outcome State Fault Refusal :=
  let mode := rd s SHF_LANE_STAT.MODE l.val
  let saw := setBit (rd s HID.SAW_FORMAT l.val) (if modeAllows mode f then 0 else 1)
  let s1 := wrs s [(SHF_LANE_STAT.FOUND, l.val, foundCode f), (HID.SAW_FORMAT, l.val, saw)]
  .next (
    if !searching s l.val then s
    else if f == .training && nativeFam mode then
      let s2 := wr (setLane raise (clearTraining s1 l.val) l.val laneTRAIN 0) SHF_LANE_STAT.PHASE l.val 0
      trnShow (trnSend (wr s2 SHF_RX_CDR.LOCK l.val 1) l.val 1 (helloBytes (helloBody s2 l.val))) l.val
    else if f == .standard && mode == 4 then
      wrs s1 [(HID.LANE_CONFIRM, l.val, 1), (SHF_LANE_STAT.FORMAT, l.val, 3), (SHF_RX_CDR.LOCK, l.val, 1)]
    else bump s1 SHF_LANE_CNT.MISMATCH l.val)

/-- ACQ_TIMEOUT (R244, R247, R248). -/
def execAcqTimeout (l : Lane) (envelope : Bool) (s : State) : Host.Outcome State Fault Refusal :=
  .next (
    if laneSt s l.val != laneACQUIRE || flag s SHF_LANE_STAT.WAIT_SYNTH l.val then s
    else failAttempt raise s l.val (if !(envelope && detects s l.val) then 1 else if rd s HID.SAW_FORMAT l.val == 2 then 3 else 2))

/-- The sheaf of the lane is in S0. -/
def sheafAwake (s : State) (l : Nat) : Bool := domSt s (sheafDom (l / 8)) == 0

/-- BACKOFF_EXPIRE (R258). -/
def execBackoffExpire (l : Lane) (s : State) : Host.Outcome State Fault Refusal :=
  .next (
    if laneSt s l.val == laneLISTEN && flag s HID.BACKOFF l.val && sheafAwake s l.val then
      startAttempt raise s l.val (rd s SHF_LANE_STAT.ATTEMPT l.val + 1)
    else s)

/-- LISTEN_ACTIVITY (R53, R244): with the envelope detector on, the back-off is cut short, or a new series starts. -/
def execListenActivity (l : Lane) (s : State) : Host.Outcome State Fault Refusal :=
  .next (
    if laneSt s l.val != laneLISTEN || !sheafAwake s l.val || !detects s l.val then s
    else
      startAttempt raise s l.val
        (if flag s SHF_LANE_STAT.EXHAUSTED l.val then 1 else rd s SHF_LANE_STAT.ATTEMPT l.val + 1))

/-! ## Timeouts and confirmation -/

/-- TRAIN_PHASE_TIMEOUT (R252, R260). -/
def execTrainPhaseTimeout (l : Lane) (s : State) : Host.Outcome State Fault Refusal :=
  let p := rd s SHF_LANE_STAT.PHASE l.val
  .next (if laneSt s l.val == laneTRAIN then trnFail s l.val (if p ≤ 3 then 4 + p else 8) else s)

/-- TRAIN_TOTAL_TIMEOUT (R252). -/
def execTrainTotalTimeout (l : Lane) (s : State) : Host.Outcome State Fault Refusal :=
  .next (if laneSt s l.val == laneTRAIN then trnFail s l.val 11 else s)

/-- The confirmation window passes (R257): FEC lock, no codeword uncorrectable, and a symbol error ratio of at most
2^-CONFIRM_LOG. -/
def confirmPass (s : State) (l cws symErrs uncorrs : Nat) : Bool :=
  flag s SHF_FEC_STAT.LOCK l && uncorrs == 0 &&
    decide (symErrs * 2 ^ rd s SHF_TRN_CFG.CONFIRM_LOG (l / 8) ≤ 544 * cws)

/-- CONFIRM_WINDOW_END (R257, R248): LIVE, or the attempt fails with reason CONFIRM. -/
def execConfirmWindowEnd (l : Lane) (cws symErrs uncorrs trainUs : Nat) (s : State) : Host.Outcome State Fault Refusal :=
  .next (
    if !flag s HID.LANE_CONFIRM l.val then s
    else if confirmPass s l.val cws symErrs uncorrs then
      let s1 := bump (wrs s [(HID.LANE_CONFIRM, l.val, 0), (SHF_RX_CDR.LOCK, l.val, 1)]) SHF_LANE_CNT.LIVE_ENTRIES l.val
      let s2 := if laneSt s l.val == laneTRAIN then wr s1 SHF_LANE_STAT.TRAIN_US l.val (min trainUs (2 ^ 32 - 1)) else s1
      setLane raise s2 l.val laneLIVE 0
    else failAttempt raise s l.val 8)

end Sys2Proof.Machine
end

