-- ==== Sys2Proof/Machine/Coding.lean ====
section
/-! DEFINITION. Line coding (R272 to R276, R282, R283): alignment markers and deskew, FEC lock and its loss, the codeword
counters, the margin window. -/

namespace Sys2Proof.Machine

/-- PATTERN of an alignment marker (R272). -/
def amPattern : Nat := 0x5A1CE38B27D4960F

/-- PATTERN matches: exactly, or with up to 8 bits wrong in an uncorrectable codeword (R272). -/
def amMatches (m : List Byte) (uncorr : Bool) : Bool :=
  if uncorr then decide (popCount (Nat.xor (leAt m 0 8) amPattern) 64 ≤ 8) else leAt m 0 8 == amPattern

/-- The marker is recognised: PATTERN and both complement pairs (R272). -/
def amOk (m : List Byte) (uncorr : Bool) : Bool :=
  m.length == 32 && amMatches m uncorr && leAt m 8 1 + leAt m 9 1 == 0xFF && leAt m 0xA 2 + leAt m 0xC 2 == 0xFFFF

/-- The lane runs in standard mode (R280). -/
def isStd (s : State) (l : Nat) : Bool := rd s SHF_LANE_STAT.FORMAT l == 3

/-- LANE and COUNT of a recognised marker: by R272, in standard mode by the standard (R280; log entry 108). -/
def amRead (s : State) (l : Nat) (m : List Byte) (uncorr : Bool) : Option (Nat × Nat) :=
  if isStd s l then Config.stdMarker m uncorr
  else if amOk m uncorr then some (leAt m 8 1 % 8, leAt m 0xA 2)
  else none

/-- Skew above which lane l breaks its port's deskew: 300 ns, in standard mode the standard's limit (R273, R280). -/
def skewLimit (s : State) (l : Nat) : Nat := if isStd s l then Config.stdSkew else 3000

/-- Another lane of the port carries the same LANE (R273). -/
def amTwice (s : State) (p : Nat) (d : PortDef) (l am : Nat) : Bool :=
  (portLanes p d).any (fun k => k != l && flag s SHF_FEC_STAT.LOCK k && rd s SHF_FEC_STAT.AM_LANE k == am)

/-- A lane of the port stands further behind its earliest one than the limit (R273). -/
def skewWide (s : State) (p : Nat) (d : PortDef) : Bool :=
  (portLanes p d).any (fun k => decide (skewLimit s k < rd s SHF_FEC_STAT.SKEW k))

/-- The lanes of the port of lane l are deskewed, or fail to be: the port carries no frames then (R273, R289). -/
def deskew (s : State) (l am : Nat) (wide : Bool) : State :=
  match portOfLane (curGen s) l with
  | none => if wide then wr s SHF_FEC_EVT.SKEW_ERR l 1 else s
  | some p =>
    match portDef s p with
    | none => s
    | some d =>
      let bad := wide || amTwice s p d l am
      let s1 := if bad then wr s SHF_FEC_EVT.SKEW_ERR l 1 else s
      portEval raise false (wr s1 HID.PRT_DESKEW p (b2n !(bad || skewWide s p d))) p

/-- ALIGNMENT_MARKER_RX (R272, R273, R275): a recognised marker names the lane and its count, confirms held lock, and
deskews the port. -/
def execAlignmentMarkerRx (l : Lane) (m : List Byte) (uncorr : Bool) (skew : Nat) (s : State) :
    Host.Outcome State Fault Refusal :=
  .next (
    match amRead s l.val m uncorr with
    | none => s
    | some am =>
      if !receiving s l.val then s
      else
        let s1 := wrs s [(SHF_FEC_STAT.AM_LANE, l.val, am.1), (SHF_FEC_STAT.AM_COUNT, l.val, am.2),
          (SHF_FEC_STAT.SKEW, l.val, min skew 4095), (SHF_FEC_STAT.HELD, l.val, 0)]
        deskew s1 l.val am.1 (decide (skewLimit s l.val < skew)))

/-- FEC_LOCK (R274, R275): held lock is HOLD's. A lane whose FEC locks has its clock recovered (R204; DEDUCED, log entry
107). -/
def execFecLock (l : Lane) (held : Bool) (s : State) : Host.Outcome State Fault Refusal :=
  .next (
    if receiving s l.val then wrs s [(SHF_FEC_STAT.LOCK, l.val, 1), (SHF_FEC_STAT.HELD, l.val, b2n (held && laneSt s l.val == laneHOLD)),
      (SHF_RX_CDR.LOCK, l.val, 1)] else s)

/-- FEC_LOCK_LOSS (R276, R283): in LIVE or HOLD a HOLD trigger (R217). -/
def execFecLockLoss (l : Lane) (abandoned temp : Nat) (live1ms : Bool) (s : State) : Host.Outcome State Fault Refusal :=
  .next (
    if !flag s SHF_FEC_STAT.LOCK l.val then s
    else
      let s1 := windowReset (wrs s [(SHF_FEC_STAT.LOCK, l.val, 0), (SHF_FEC_STAT.HELD, l.val, 0)]) l.val
      let s2 := bump (wr s1 SHF_FEC_EVT.LOCK_LOST l.val 1) SHF_FEC_CNT.LOCK_LOSS l.val
      if holdable s l.val then enterHold s2 l.val abandoned temp live1ms else s2)

/-- What one decoded codeword adds to the window in progress (R283). -/
def windowAdd (s : State) (l : Nat) (c : CwResult) : State :=
  let bin := min c.symbols 15
  wrs s [(HID.FEC_WIN_CW, l, rd s HID.FEC_WIN_CW l + 1),
    (HID.FEC_WIN_SYM, l, rd s HID.FEC_WIN_SYM l + (if c.uncorr then 16 else bin)),
    (HID.FEC_WIN_TAIL, l, if c.uncorr then rd s HID.FEC_WIN_TAIL l else max bin (rd s HID.FEC_WIN_TAIL l)),
    (HID.FEC_WIN_UNC, l, b2n (c.uncorr || flag s HID.FEC_WIN_UNC l))]

/-- CODEWORD_DECODED (R281 to R283), while the lane has FEC lock. -/
def execCodewordDecoded (l : Lane) (c : CwResult) (s : State) : Host.Outcome State Fault Refusal :=
  let i := l.val
  let n := min c.symbols 15
  .next (
    if !flag s SHF_FEC_STAT.LOCK i then s
    else
      let s0 := perfLane (perfLane s i 0x20 0 1) i 0x27 0 c.innerFlip
      let s1 := stat (stat s0 SHF_FEC_CNT.CW_TOTAL i 1) SHF_FEC_CNT.INNER_FLIP i c.innerFlip
      let s2 :=
        if c.uncorr then wr (bump (perfLane s1 i 0x22 0 1) SHF_FEC_CNT.CW_UNCORR i) SHF_FEC_EVT.UNCORR i 1
        else
          let t := stat (stat (stat (perfLane s1 i 0x21 0 n) SHF_FEC_HIST.COUNT (i * 16 + n) 1) SHF_FEC_CNT.SYM_CORR i n) SHF_FEC_CNT.BIT_CORR i c.bits
          stat t SHF_FEC_CNT.CW_CORR i (b2n (1 ≤ n))
      windowAdd s2 i c)

/-- SER of the window in progress in 10^-9, rounded down (R283). -/
def serPpb (s : State) (l : Nat) : Nat :=
  rd s HID.FEC_WIN_SYM l * 1000000000 / (544 * rd s HID.FEC_WIN_CW l)

/-- The window of lane i holds its 2^WIN_LOG2 codewords (R283). -/
def fecWindowFull (s : State) (i : Nat) : Bool :=
  flag s SHF_FEC_STAT.LOCK i && decide (2 ^ rd s SHF_FEC_CFG.WIN_LOG2 i ≤ rd s HID.FEC_WIN_CW i)

/-- The end of lane i's window, if it is full: its results are written and judged (R283). -/
def fecWindow (s : State) (i : Nat) : State :=
  let ser := serPpb s i
  let deg := rd s SHF_FEC_CFG.DEG_PPB i
  if !fecWindowFull s i then s
  else
    let s1 := windowReset (wrs s [(SHF_FEC_WIN.SER_PPB, i, ser), (SHF_FEC_WIN.TAIL, i, rd s HID.FEC_WIN_TAIL i),
      (SHF_FEC_WIN.UNCORR_SEEN, i, rd s HID.FEC_WIN_UNC i)]) i
    if deg ≤ ser then faultC (0x5C0 + i / 8) (wrs s1 [(SHF_FEC_WIN.DEG, i, 1), (SHF_FEC_EVT.DEG, i, 1)])
    else if 2 * ser < deg then wr s1 SHF_FEC_WIN.DEG i 0
    else s1

/-- FEC_WINDOW_END (R283): before the window is full nothing ends. -/
def execFecWindowEnd (l : Lane) (s : State) : Host.Outcome State Fault Refusal := .next (fecWindow s l.val)

/-- Every coding counter of a lane at zero (R282); a window that ends here is written first (R284). -/
def fecClear (s0 : State) (l : Nat) : State :=
  let s := fecWindow s0 l
  let s1 := wrs s [(SHF_FEC_CNT.CW_TOTAL, l, 0), (SHF_FEC_CNT.CW_CORR, l, 0), (SHF_FEC_CNT.SYM_CORR, l, 0),
    (SHF_FEC_CNT.BIT_CORR, l, 0), (SHF_FEC_CNT.INNER_FLIP, l, 0), (SHF_FEC_CNT.CW_UNCORR, l, 0), (SHF_FEC_CNT.LOCK_LOSS, l, 0)]
  wrFrom s1 SHF_FEC_HIST.COUNT (l * 16) 0 16

/-- FEC_COUNTER_CLEAR (R282). -/
def execFecCounterClear (l : Lane) (s : State) : Host.Outcome State Fault Refusal := .next (fecClear s l.val)

end Sys2Proof.Machine
end

