-- ==== Sys2Proof/Machine/Drive.lean ====
section
/-! DEFINITION. Optical engine drive: the presence of an engine (R54 to R56), the control pins (R57, R58), the bias
channels, the heaters, the ceiling store and automatic laser shutdown (R390 to R408). The pads themselves stand in
Site.lean. -/

namespace Sys2Proof.Machine

/-! ## Presence -/

/-- The event of a site arriving or leaving sets PRESENT and PRES_CHG (R54, R56). -/
def presence (s : State) (k on : Nat) : State := wrs s [(EMG_SITE_PRES.PRESENT, k, on), (EMG_SITE_PRES.PRES_CHG, k, 1)]

/-- ENGINE_ARRIVE (R54, R394): the site becomes HELD; nothing is released. -/
def execEngineArrive (k : Site) (s : State) : Host.Outcome State Fault Refusal :=
  .next (
    if flag s EMG_SITE_PRES.PRESENT k.val then s
    else
      let s1 := presence s k.val 1
      if siteSt s k.val == siteABSENT then wr s1 EMG_SITE_CTRL.STATE k.val siteHELD else s1)

/-- ENGINE_LEAVE (R54, R394): the pads of R53; a contained fault when the site had been released. -/
def execEngineLeave (k : Site) (s : State) : Host.Outcome State Fault Refusal :=
  .next (
    if !flag s EMG_SITE_PRES.PRESENT k.val then s
    else
      let s1 := siteToPads raise (presence s k.val 0) k.val siteABSENT
      if siteSt s k.val == siteRELEASED || siteSt s k.val == siteLATCHED then faultK (0xC00 + k.val) s1 else s1)

/-- The class a voltage means: n when it lies within 40 mV of (n + 1) x 100 mV for n = 0 to 14 (R55). -/
def idClass (mv : Nat) : Option Nat :=
  (List.range 15).find? (fun n => decide ((n + 1) * 100 ≤ mv + 40) && decide (mv ≤ (n + 1) * 100 + 40))

/-- ID_MEASURE (R55, R56). ID_CODE of a measurement outside every window keeps the last class. -/
def execIdMeasure (k : Site) (mv : BitVec 12) (s : State) : Host.Outcome State Fault Refusal :=
  let s1 := wr s EMG_SITE_PRES.ID_MV k.val mv.toNat
  .next (
    if !flag s EMG_SITE_PRES.PRESENT k.val then s
    else if 1800 < mv.toNat then wrs s1 [(EMG_SITE_PRES.ID_CODE, k.val, 15), (EMG_SITE_PRES.ID_STAT, k.val, 2)]
    else
      match idClass mv.toNat with
      | some n => wrs s1 [(EMG_SITE_PRES.ID_CODE, k.val, n), (EMG_SITE_PRES.ID_STAT, k.val, 1)]
      | none => faultC (0xC00 + k.val) (wr s1 EMG_SITE_PRES.ID_STAT k.val 3))

/-! ## Pins -/

/-- The sites, in order. -/
def allSites : List Nat := List.range 64

/-- DAC_CLR_ASSERT (R57, R393): every channel at its clear code; heaters are not affected. -/
def execDacClrAssert (s : State) : Host.Outcome State Fault Refusal :=
  .next (forEach allSites (wrs s [(GLB_PIN_STAT.DAC_CLR, 0, 1), (GLB_PIN_STAT.DAC_CLR_SEEN, 0, 1)]) (fun k t => siteClear t k))

/-- DAC_CLR_RELEASE (R27, R57): outputs stay at the clear codes until the next strobe. -/
def execDacClrRelease (s : State) : Host.Outcome State Fault Refusal := .next (wr s GLB_PIN_STAT.DAC_CLR 0 0)

/-- The strobe of the sites a field enables (R392). -/
def strobeWhere (s : State) (f : Fld) : State :=
  forEach (allSites.filter (fun k => flag s f k)) s (fun k t => strobe raise false t k)

/-- DAC_LOAD_PIN (R58, R392). -/
def execDacLoadPin (s : State) : Host.Outcome State Fault Refusal := .next (strobeWhere s EMG_SITE_CTRL.PIN_EN)

/-- DEGLITCH_HOLD_END (R391): the pad moves to OUT_CODE. -/
def execDeglitchHoldEnd (k : Site) (c : Fin 16) (s : State) : Host.Outcome State Fault Refusal :=
  let i := 16 * k.val + c.val
  .next (if flag s EMG_DAC.HOLDING i then wrs s [(EMG_DAC.HOLDING, i, 0), (HID.EMG_PAD, i, rd s EMG_DAC.OUT_CODE i)] else s)

/-! ## Heaters -/

/-- Ticks an output of a duty is high in a period, and the remainder carried (R396). -/
def pwmTicks (duty period rem : Nat) : Nat × Nat :=
  if duty == 0 then (0, rem)
  else if duty == 0xFFFF then (period, rem)
  else ((duty * period + rem) / 65536, (duty * period + rem) % 65536)

/-- One heater at a period start: the new duty, held at its ceiling, takes effect (R398, R401). A site that is not
RELEASED holds its heaters low (R53, R402). -/
def heaterStart (s : State) (k h : Nat) : State :=
  let i := 8 * k + h
  let duty := min (rd s HID.PWM_NEXT i) (rd s EMG_PWM.DUTY_CEIL i)
  let out := pwmTicks duty (rd s EMG_SITE_CTRL.PERIOD_TICKS k) (rd s HID.PWM_REM i)
  wrs s [(EMG_PWM.OUT_DUTY, i, duty), (HID.PWM_HIGH, i, out.1), (HID.PWM_REM, i, out.2)]

/-- PWM_PERIOD_START (R396 to R398). -/
def execPwmPeriodStart (k : Site) (s : State) : Host.Outcome State Fault Refusal :=
  let s1 := wr s EMG_SITE_CTRL.PERIOD_TICKS k.val (rd s HID.PWM_PERIOD_NEXT k.val)
  .next (if siteSt s k.val == siteRELEASED then forEach (List.range 8) s1 (fun h t => heaterStart t k.val h) else s)

/-! ## Automatic laser shutdown -/

/-- Laser shutdown is enabled on lane l (R408). -/
def alsEn (s : State) (l : Nat) : Bool := bitOf (rd s EMG_ALS_CFG.EN (l / 8)) (l % 8)

/-- The persistence timer counts in ACQUIRE, TRAIN, LIVE and HOLD with the envelope below threshold (R403). -/
def alsCounts (s : State) (l : Nat) : Bool :=
  alsEn s l && flag s HID.LOS_NOW l && 2 ≤ laneSt s l && laneSt s l ≤ 5 && rd s SHF_TX_STAT.ALS l == 0

/-- ALS_PERSIST_EXPIRE (R403): RUNNING to SHUT. -/
def execAlsPersistExpire (l : Lane) (s : State) : Host.Outcome State Fault Refusal :=
  .next (if alsCounts s l.val then setAls raise s l.val 1 else s)

/-- ALS_PERIOD_EXPIRE (R403): SHUT to PULSE. -/
def execAlsPeriodExpire (l : Lane) (s : State) : Host.Outcome State Fault Refusal :=
  .next (if rd s SHF_TX_STAT.ALS l.val == 1 then setAls raise s l.val 2 else s)

/-- ALS_PULSE_EXPIRE (R403): PULSE to SHUT. -/
def execAlsPulseExpire (l : Lane) (s : State) : Host.Outcome State Fault Refusal :=
  .next (if rd s SHF_TX_STAT.ALS l.val == 2 then setAls raise s l.val 1 else s)

/-- ALS_RECOVER (R403): SHUT or PULSE to RUNNING; the envelope has stood above threshold. -/
def execAlsRecover (l : Lane) (s : State) : Host.Outcome State Fault Refusal :=
  .next (if rd s SHF_TX_STAT.ALS l.val == 0 then s else setAls raise (wr s HID.LOS_NOW l.val 0) l.val 0)

/-- SIGNAL_DETECT_RESTORED (R403): the persistence timer resets. -/
def execSignalDetectRestored (l : Lane) (s : State) : Host.Outcome State Fault Refusal := .next (wr s HID.LOS_NOW l.val 0)

/-! ## Site commands -/

/-- Site that a payload byte 0x10 names. -/
def siteArg (a : Acc) : Nat := opdB a 0x10

/-- The site, with its corridor, sleeps and the command may not wake it (R143, R429). -/
def siteNoPower (s : State) (a : Acc) (k : Nat) : Bool :=
  (pathOf [siteDom k]).any (fun d => rd s PWR_DOM.HELD d == 2 || (!a.cmd.wake && domAsleep s d))

/-- A HELD site is released: its codes are the clear codes, its duties zero (R394). -/
def siteFree (s : State) (k : Nat) : State :=
  let s1 := wr (htrLow (siteClear s k) k) EMG_SITE_CTRL.STATE k siteRELEASED
  let s2 := forEach (siteChans k) s1 (fun i t => wr t EMG_DAC.IN_CODE i (rd t EMG_CEIL.CLEAR i))
  forEach (List.range 8) s2 (fun h t => wr t EMG_PWM.IN_DUTY (8 * k + h) 0)

/-- SITE_RELEASE (R395). -/
def opSiteRelease : OpSpec :=
  ⟨0x80, 0, false, true, fun _ a => badIf (63 < siteArg a), fun _ a => [siteDom (siteArg a)],
    fun s a => firstOf [
      invIf (siteSt s (siteArg a) == siteABSENT),
      invIf (flag s GLB_BOOT_STAT.CEIL_BAD 0),
      if siteNoPower s a (siteArg a) then some (rStat .noPower) else none],
    fun _ a s => .done (if siteSt s (siteArg a) == siteHELD then siteFree s (siteArg a) else s) rOk⟩

/-- SITE_HOLD (R394). -/
def opSiteHold : OpSpec :=
  ⟨0x81, 0, false, false, fun _ a => badIf (63 < siteArg a), fun _ a => [siteDom (siteArg a)], noCheck,
    fun _ a s => .done (if siteSt s (siteArg a) == siteRELEASED then siteHold raise s (siteArg a) else s) rOk⟩

/-- The site of a DAC_SET (R406). -/
def dacSite (a : Acc) : Nat := if a.cmd.ptr then opdB a 0x1C else opdB a 0x10

/-- The channels of a DAC_SET with their codes (R406). -/
def dacCodes (a : Acc) : List (Nat × Nat) :=
  if a.cmd.ptr then (bitList (opd a 0x1E 2) 16).map (fun c => (c, opdBuf a (2 * c) 2))
  else (bitList (opd a 0x12 2) 16).zipIdx.map (fun x => (x.1, opd a (0x14 + 2 * x.2) 2))

/-- A DAC_SET's payload breaks R406: no such site, a buffer that is not 16 codes, more than four channels in the payload,
or a code of more than 12 bits. -/
def dacBad (a : Acc) : Bool :=
  decide (63 < dacSite a) || (a.cmd.ptr && a.cmd.buf.length != 32) || (!a.cmd.ptr && 4 < (dacCodes a).length)
    || (dacCodes a).any (fun x => decide (4095 < x.2))

/-- The input codes a DAC_SET writes. -/
def dacPut (s : State) (a : Acc) : State :=
  (dacCodes a).foldl (fun t x => wr t EMG_DAC.IN_CODE (16 * dacSite a + x.1) x.2) s

/-- The first channel or output whose value passes its ceiling: INVALID with its number (R399). -/
def overCeil (above : Nat → Nat → Bool) (l : List (Nat × Nat)) : Option Reply :=
  (l.find? (fun x => above x.1 x.2)).map (fun x => rInv x.1)

/-- A site that is not RELEASED takes no drive command (R406). -/
def notReleased (s : State) (k : Nat) : Option Reply := invIf (siteSt s k != siteRELEASED)

/-- DAC_SET (R391, R399, R406). -/
def opDacSet : OpSpec :=
  ⟨0x82, 2, true, false, fun _ a => badIf (dacBad a), fun _ a => [siteDom (dacSite a)],
    fun s a => firstOf [notReleased s (dacSite a),
      overCeil (fun c v => decide (chanCeil s (16 * dacSite a + c) < v)) (dacCodes a)],
    fun _ a s => .done
      (if opdBit a (if a.cmd.ptr then 0x1D else 0x11) 0 then strobe raise false (dacPut s a) (dacSite a) else dacPut s a) rOk⟩

/-- DAC_LOAD (R392, R406). -/
def opDacLoad : OpSpec :=
  ⟨0x83, 0, false, false, fun _ a => badIf (63 < siteArg a && siteArg a != 0xFF),
    fun _ a => if siteArg a < 64 then [siteDom (siteArg a)] else [],
    fun s a => if siteArg a < 64 then notReleased s (siteArg a) else none,
    fun _ a s => .done
      (if siteArg a < 64 then strobe raise false s (siteArg a) else strobeWhere s EMG_SITE_CTRL.GLB_EN) rOk⟩

/-- The outputs of a PWM_SET with their duties. -/
def pwmDuties (a : Acc) : List (Nat × Nat) := (bitList (opdB a 0x12) 8).map (fun h => (h, opd a (0x14 + 2 * h) 2))

/-- What a PWM_SET writes: input duties, and the period from the next period start (R397). -/
def pwmPut (s : State) (a : Acc) : State :=
  let s1 := (pwmDuties a).foldl (fun t x => wr t EMG_PWM.IN_DUTY (8 * siteArg a + x.1) x.2) s
  if opdBit a 0x11 1 then wr s1 HID.PWM_PERIOD_NEXT (siteArg a) (min 15625 (max 977 (opd a 0x24 2))) else s1

/-- PWM_SET (R397 to R399, R406). -/
def opPwmSet : OpSpec :=
  ⟨0x84, 0, true, false, fun _ a => badIf (63 < siteArg a), fun _ a => [siteDom (siteArg a)],
    fun s a => firstOf [notReleased s (siteArg a),
      overCeil (fun h v => decide (rd s EMG_PWM.DUTY_CEIL (8 * siteArg a + h) < v)) (pwmDuties a)],
    fun _ a s => .done
      (if opdBit a 0x11 0 then strobe raise false (pwmPut s a) (siteArg a) else pwmPut s a) rOk⟩

/-- ALS_RESTART (R403): a lane whose EN bit is clear, or that is DARK or FAILED, stays in RUNNING. -/
def opAlsRestart : OpSpec :=
  ⟨0x86, 0, false, false, fun _ a => badIf (63 < siteArg a), fun _ a => [siteDom (siteArg a)], noCheck,
    fun _ a s => .done (forEach (maskLanes (siteArg a) (opdB a 0x11)) s (fun l t =>
      if alsEn t l && laneSt t l != laneDARK && laneSt t l != laneFAILED then setAls raise t l 2 else t)) rOk⟩

/-! ## The ceiling store -/

/-- Record j of a CEIL_WRITE buffer (R399). -/
def ceilBytes (a : Acc) (j : Nat) : List Byte := sliceOf a.cmd.buf (128 * j) 128

/-- The records of a CEIL_WRITE, by number. -/
def ceilCount (a : Acc) : Nat := a.cmd.buf.length / 128

/-- The site a record names. -/
def ceilSite (b : List Byte) : Nat := leAt b 0 1 % 64

/-- A record as the store keeps it (R399). -/
def ceilRec (b : List Byte) : CeilRec :=
  { ceil := (List.range 16).map (fun c => leAt b (0x08 + 2 * c) 2)
    clear := (List.range 16).map (fun c => leAt b (0x28 + 2 * c) 2 % 4096)
    gain2 := (List.range 16).map (fun c => bitOf (leAt b 2 2) c)
    duty := (List.range 8).map (fun h => leAt b (0x48 + 2 * h) 2)
    ext := bitOf (leAt b 1 1) 0 }

/-- A record breaks R401: a reserved bit is set, or a clear code lies above its channel's ceiling. -/
def ceilBadRec (b : List Byte) : Bool :=
  let r := ceilRec b
  decide (63 < leAt b 0 1) || decide (1 < leAt b 1 1) || !allZero (sliceOf b 4 4) || !allZero (sliceOf b 0x58 0x28)
    || (List.range 16).any (fun c =>
      decide (4095 < leAt b (0x28 + 2 * c) 2) || decide (ceilCode (r.ceil.getD c 0) (r.gain2.getD c false) < r.clear.getD c 0))

/-- Record j breaks check 1 of R401: it is bad, or an earlier record names its site. -/
def ceilCheck1 (a : Acc) (j : Nat) : Bool :=
  ceilBadRec (ceilBytes a j) || (List.range j).any (fun i => ceilSite (ceilBytes a i) == ceilSite (ceilBytes a j))

/-- The record in force for site k, as EMG_CEIL and EMG_PWM show it. -/
def ceilInForce (s : State) (k : Nat) : CeilRec :=
  { ceil := (siteChans k).map (rd s EMG_CEIL.CEIL)
    clear := (siteChans k).map (rd s EMG_CEIL.CLEAR)
    gain2 := (siteChans k).map (flag s EMG_CEIL.GAIN2)
    duty := (List.range 8).map (fun h => rd s EMG_PWM.DUTY_CEIL (8 * k + h))
    ext := flag s EMG_CEIL.REF_EXT (16 * k) }

/-- A record changes the reference or a gain of a site that drives (R401). -/
def ceilCheck3 (s : State) (b : List Byte) : Bool :=
  let k := ceilSite b
  (siteSt s k == siteRELEASED || siteSt s k == siteLATCHED)
    && ((ceilRec b).ext != (ceilInForce s k).ext || (ceilRec b).gain2 != (ceilInForce s k).gain2)

/-- The store a CEIL_WRITE commits: its records, and those in force for the other sites. -/
def ceilStore (s : State) (a : Acc) : Tab CeilRec :=
  let recs := (List.range (ceilCount a)).map (ceilBytes a)
  allSites.map (fun k => ((k, 0),
    match recs.find? (fun b => ceilSite b == k) with
    | some b => ceilRec b
    | none => ceilInForce s k))

/-- A channel under records that have just taken force (R401): one at its clear code stays at it; another's OUT_CODE above
its ceiling becomes the ceiling code, counted. -/
def ceilChan (s : State) (i : Nat) : State :=
  if flag s EMG_DAC.CLEARED i then toClear s i
  else if chanCeil s i < rd s EMG_DAC.OUT_CODE i then countClamp raise (moveOut s i (chanCeil s i)) (i / 16)
  else s

/-- New records take force (R401). -/
def ceilTake (t : Tab CeilRec) (sites : List Nat) (s : State) : State :=
  forEach (sites.flatMap siteChans) (wr (loadCeil s t) GLB_BOOT_STAT.CEIL_BAD 0 0) (fun i u => ceilChan u i)

/-- CEIL_WRITE (R400, R401): the copies and the fuse are written in the order of R400; a device whose seal key is gone
cannot seal them. -/
def opCeilWrite (flashOk : Bool) : OpSpec :=
  ⟨0x85, 1, false, false,
    fun _ a => badIf (a.cmd.buf.length < 128 || 8192 < a.cmd.buf.length || a.cmd.buf.length % 128 != 0), noTargets,
    fun s a => firstOf [
      ((List.range (ceilCount a)).find? (ceilCheck1 a)).map (fun j => rInv (ceilSite (ceilBytes a j))),
      if flag s GLB_BOOT_STAT.CEIL_BAD 0 && ceilCount a < 64 then some (rInv 0xFFFF) else none,
      ((List.range (ceilCount a)).find? (fun j => ceilCheck3 s (ceilBytes a j))).map (fun j => rInv (ceilSite (ceilBytes a j))),
      if rd s EMG_GLB_CFG.CEIL_LEFT 0 == 0 then some (rInv 0xFFFE) else none],
    fun _ a s =>
      if !flashOk || !flag s HID.SEAL_OK 0 then .done (faultC 0xCFE s) (rStat .timeout)
      else
        let sites := (List.range (ceilCount a)).map (fun j => ceilSite (ceilBytes a j))
        let t := ceilStore s a
        let n := ceilUsed s + 1
        let s1 := wrs s [(HID.CEIL_CNT_A, 0, n), (HID.CEIL_CNT_B, 0, n), (EMG_GLB_CFG.CEIL_LEFT, 0, 4095 - n)]
        let s2 := { s1 with ceilA := t, ceilB := t }
        let s3 := sites.foldl (fun u k => audit u 0xB a.role a.cred a.handle 0x85 0 (bytesOf [k])) s2
        .doneThen s3 rOk (ceilTake t sites)⟩

def execSiteRelease (r : Ring) (s : State) : Host.Outcome State Fault Refusal := .next (dispatch opSiteRelease r.val s)
def execSiteHold (r : Ring) (s : State) : Host.Outcome State Fault Refusal := .next (dispatch opSiteHold r.val s)
def execDacSet (r : Ring) (s : State) : Host.Outcome State Fault Refusal := .next (dispatch opDacSet r.val s)
def execDacLoad (r : Ring) (s : State) : Host.Outcome State Fault Refusal := .next (dispatch opDacLoad r.val s)
def execPwmSet (r : Ring) (s : State) : Host.Outcome State Fault Refusal := .next (dispatch opPwmSet r.val s)
def execCeilWrite (r : Ring) (flashOk : Bool) (s : State) : Host.Outcome State Fault Refusal :=
  .next (dispatch (opCeilWrite flashOk) r.val s)
def execAlsRestart (r : Ring) (s : State) : Host.Outcome State Fault Refusal := .next (dispatch opAlsRestart r.val s)

end Sys2Proof.Machine
end

