-- ==== Sys2Proof/Machine/Monitor.lean ====
section
/-! DEFINITION. Optical engine monitoring: scans (R409 to R412), filter chains (R413 to R415), comparators and detectors
(R416, R417), the open-wire check (R418), settings and commands (R419 to R422). Input n of site k is part 16k + n. -/

namespace Sys2Proof.Machine

/-! ## Filter chain -/

/-- A chain after a clear: nothing taken, its memory zero. -/
def Chain.clear : Chain := ⟨0, [], [], 0, [], 0⟩

/-- The chain of input n of site k. -/
def chainOf (s : State) (k n : Nat) : Chain := (tabGet s.chains (k, n)).getD Chain.clear

/-- The chain of input n of site k replaced. -/
def setChain (s : State) (k n : Nat) (c : Chain) : State := { s with chains := tabPut s.chains (k, n) c }

/-- The half-band coefficients, units of 1/256 (R414). -/
def halfCoef : List Int := [3, 0, -25, 0, 150, 256, 150, 0, -25, 0, 3]

/-- An exact stage result, as a numerator over 256, shifted right by SH with truncation and held to 16 bits; whether it
was held (R413). -/
def shiftHold (num : Int) (den sh : Nat) : Nat × Bool :=
  let v := num / ((den * 2 ^ sh : Nat) : Int)
  if v < 0 then (0, true) else if 65535 < v then (65535, true) else (v.toNat, false)

/-- The FIR sum of the newest 11 inputs of a stage, oldest missing ones zero (R414). -/
def firSum (h : List Nat) : Int := (halfCoef.zip (List.range 11)).foldl (fun a x => a + x.1 * ((h.getD x.2 0 : Nat) : Int)) 0

/-- SH field k of input i, k from 0 for SH1. -/
def shOf (s : State) (i k : Nat) : Nat :=
  rd s ([EMG_MON_IN.SH1, EMG_MON_IN.SH2, EMG_MON_IN.SH3, EMG_MON_IN.SH4, EMG_MON_IN.SH5, EMG_MON_IN.SH6].getD k EMG_MON_IN.SH6) i

/-- What a sample brought out of a chain: the chain, the fine and coarse outputs, and whether a stage held. -/
structure ChainOut where
  chain  : Chain
  fine   : Option Nat
  coarse : Option Nat
  sat    : Bool

/-- A value enters half-band stage k of n: each stage passes on every second result (R413, R414). -/
def halfStages (sh : Nat → Nat) (k : Nat) : List (Bool × List Nat) → Nat → List (Bool × List Nat) × Option Nat × Option Nat × Bool
  | [], x => ([], some x, none, false)
  | (odd, h) :: t, x =>
    let h1 := (x :: h).take 11
    if !odd then ((true, h1) :: t, none, none, false)
    else
      let y := shiftHold (firSum h1) 256 (sh k)
      let r := halfStages sh (k + 1) t y.1
      ((false, h1) :: r.1, r.2.1, some y.1, y.2 || r.2.2.2)

/-- A delayed sample enters the filter of input i (R413). -/
def filterIn (s : State) (i : Nat) (c : Chain) (x : Nat) : ChainOut :=
  if rd s EMG_MON_IN.MODE i == 0 then
    let n := rd s EMG_MON_IN.MA_LEN i + 1
    let win := (x :: c.win).take n
    let y := shiftHold ((win.foldl (· + ·) 0 : Nat) : Int) 1 (shOf s i 0)
    let blk := c.blk + 1
    if flag s EMG_MON_IN.DECIM i && blk < n then ⟨{ c with win := win, blk := blk }, none, some x, false⟩
    else ⟨{ c with win := win, blk := 0 }, some y.1, some x, y.2⟩
  else
    let n := rd s EMG_MON_IN.STAGES i
    if n == 0 then ⟨c, some x, some x, false⟩
    else
      let st := if c.stages.isEmpty then List.replicate n (false, []) else c.stages
      let r := halfStages (shOf s i) 0 st x
      ⟨{ c with stages := r.1 }, r.2.1, r.2.2.1, r.2.2.2⟩

/-- Samples a chain takes before its outputs are valid (R415). -/
def validAfter (s : State) (i : Nat) : Nat :=
  if rd s EMG_MON_IN.MODE i == 0 then rd s EMG_MON_IN.MA_LEN i + 1 else 12 * 2 ^ rd s EMG_MON_IN.STAGES i

/-- A sample enters the chain of input i (R413): the phase delay holds it back DELAY samples. -/
def chainIn (s : State) (i : Nat) (c : Chain) (x : Nat) : ChainOut :=
  let d := rd s EMG_MON_IN.DELAY i
  let line := (x :: c.line).take (d + 1)
  let c1 := { c with taken := min (c.taken + 1) 65536, line := line }
  if line.length ≤ d then ⟨c1, none, none, false⟩ else filterIn s i c1 (line.getD d 0)

/-- A chain is at a fine-output boundary: no output is under way (R419). -/
def atBoundary (c : Chain) : Bool := c.blk == 0 && c.stages.all (fun x => !x.1)

/-- A chain is cleared: VALID is 0 (R415). -/
def chainClear (s : State) (k n : Nat) : State :=
  let c := chainOf s k n
  wr (setChain s k n { Chain.clear with rms := c.rms }) EMG_MON_RES.VALID (16 * k + n) 0

/-- The detectors are cleared (R417). -/
def detClear (s : State) (k n : Nat) : State :=
  let i := 16 * k + n
  wrs (setChain s k n { chainOf s k n with rms := 0 }) [(EMG_MON_RES.PEAK, i, 0), (EMG_MON_RES.RMS, i, 0), (EMG_MON_RES.ENV, i, 0)]

/-! ## Comparators and detectors -/

/-- The fields of one comparator of an input. -/
structure Cmp where
  level : Fld
  hyst  : Fld
  en    : Fld
  dir   : Fld
  src   : Fld
  rel   : Fld
  st    : Fld
  evt   : Fld
  kind  : Nat

/-- CMP0 and CMP1, with the KIND of their assertion (R421). -/
def cmps : List Cmp :=
  [⟨EMG_MON_IN.CMP0_LEVEL, EMG_MON_IN.CMP0_HYST, EMG_MON_IN.CMP0_EN, EMG_MON_IN.CMP0_DIR, EMG_MON_IN.CMP0_SRC,
    EMG_MON_IN.CMP0_REL_EVT, EMG_MON_RES.CMP0, EMG_MON_RES.CMP0_EVT, 1⟩,
   ⟨EMG_MON_IN.CMP1_LEVEL, EMG_MON_IN.CMP1_HYST, EMG_MON_IN.CMP1_EN, EMG_MON_IN.CMP1_DIR, EMG_MON_IN.CMP1_SRC,
    EMG_MON_IN.CMP1_REL_EVT, EMG_MON_RES.CMP1, EMG_MON_RES.CMP1_EVT, 3⟩]

/-- A MONITOR event record (R421). Its SOURCE is 0xC80 + k (log entry 14). -/
def monEvent (s : State) (k n kind value : Nat) : State :=
  event s 4 (0xC80 + k) 0 (bytesOf [k, n, kind, 0] ++ leBytes 2 value)

/-- A comparator sees an output (R416). -/
def cmpSee (s : State) (k n : Nat) (c : Cmp) (x : Nat) : State :=
  let i := 16 * k + n
  let level := rd s c.level i
  let hyst := rd s c.hyst i
  let above := rd s c.dir i == 0
  let asserts := if above then decide (level < x) else decide (x < level)
  let releases := if above then decide (x + hyst < level) else decide (level + hyst < x)
  if !flag s c.en i then wr s c.st i 0
  else if !flag s c.st i && asserts then
    monEvent (perf (wrs s [(c.st, i, 1), (c.evt, i, 1)]) { perfE 0x92 1 with qual := k }) k n c.kind x
  else if flag s c.st i && releases then
    let s1 := wr s c.st i 0
    if flag s c.rel i then monEvent s1 k n (c.kind + 1) x else s1
  else s

/-- A comparator sees the output its SRC selects, when the sample brought one (R416). -/
def cmpRun (k n : Nat) (o : ChainOut) (s : State) (c : Cmp) : State :=
  match (if flag s c.src (16 * k + n) then o.coarse else o.fine) with
  | some x => cmpSee s k n c x
  | none => s

/-- The detectors see a fine output (R417). -/
def detSee (s : State) (k n x : Nat) : State :=
  let i := 16 * k + n
  let p := rd s EMG_MON_RES.PEAK i
  let pd := rd s EMG_MON_IN.PK_DECAY i
  let e := rd s EMG_MON_RES.ENV i
  let ed := rd s EMG_MON_IN.ENV_DECAY i
  let c := chainOf s k n
  let m := ((c.rms : Int) + (((x * x : Nat) : Int) - (c.rms : Int)) / ((2 ^ rd s EMG_MON_IN.RMS_W i : Nat) : Int)).toNat
  wrs (setChain s k n { c with rms := m })
    [(EMG_MON_RES.PEAK, i, max x (if pd == 0 then p else p - p / 2 ^ pd)),
     (EMG_MON_RES.RMS, i, Nat.sqrt m),
     (EMG_MON_RES.ENV, i, if e < x then x else e - (e - x) / 2 ^ ed)]

/-! ## Settings -/

/-- A comparator returns to the released state without a record when its LEVEL, DIR or SRC has changed, or when it is
disabled (R416, R419). -/
def cmpSettle (old : State) (i : Nat) (s : State) (c : Cmp) : State :=
  if rd old c.level i != rd s c.level i || rd old c.dir i != rd s c.dir i || rd old c.src i != rd s c.src i || !flag s c.en i then
    wr s c.st i 0
  else s

/-- A MON_SET takes effect (R419). -/
def monInPut (s : State) (k n v : Nat) : State :=
  let i := 16 * k + n
  let s1 := putFields s reg_EMG_MON_IN.flds i v
  let moved := [EMG_MON_IN.DELAY, EMG_MON_IN.MODE, EMG_MON_IN.DECIM, EMG_MON_IN.MA_LEN, EMG_MON_IN.STAGES].any
    (fun f => rd s f i != rd s1 f i)
  cmps.foldl (cmpSettle s i) (if moved then detClear (chainClear s1 k n) k n else s1)

/-- A MON_SET that waited for the boundary takes effect (R419). -/
def monInTake (s : State) (k n : Nat) : State :=
  match tabGet s.monIn (k, n) with
  | none => s
  | some v => monInPut { s with monIn := tabDel s.monIn (k, n) } k n v

/-- A sample of input n of site k runs through its chain (R413 to R417); a MON_SET that waits takes effect after the fine
output it waits for (R422). -/
def sampleIn (s : State) (k n x : Nat) : State :=
  let i := 16 * k + n
  let o := chainIn s i (chainOf s k n) x
  let s1 := wr (setChain s k n o.chain) EMG_MON_RES.VALID i (b2n (decide (validAfter s i ≤ o.chain.taken)))
  let s2 := if o.sat then wr s1 EMG_MON_RES.SAT_EVT i 1 else s1
  let s3 := match o.coarse with
    | some y => wr s2 EMG_MON_RES.COARSE i y
    | none => s2
  let s4 := match o.fine with
    | some y => wrs s3 [(EMG_MON_RES.FINE, i, y), (EMG_MON_RES.TIME, i, timeNowField (localTime s))]
    | none => s3
  let s5 := if flag s4 EMG_MON_RES.VALID i then
      cmps.foldl (cmpRun k n o) (match o.fine with
        | some y => detSee s4 k n y
        | none => s4)
    else s4
  if o.fine.isSome then monInTake s5 k n else s5

/-! ## Scans -/

/-- The converter of site k runs: RELEASED, its drive group in S0 (R412). -/
def monRuns (s : State) (k : Nat) : Bool := siteSt s k == siteRELEASED && domSt s (siteDom k) == 0

/-- The inputs of a group: 1 PWM, 2 TEV, 3 CMD. -/
def groupMask (s : State) (k g : Nat) : Nat :=
  match g with
  | 1 => rd s EMG_MON_SITE.PWM_MASK k
  | 2 => rd s EMG_MON_SITE.TEV_MASK k
  | _ => rd s EMG_MON_SITE.CMD_MASK k

/-- The overrun counter of a group (R411). -/
def groupOvr (g : Nat) : Fld :=
  match g with
  | 1 => EMG_MON_CNT.OVR_PWM
  | 2 => EMG_MON_CNT.OVR_TEV
  | _ => EMG_MON_CNT.OVR_CMD

/-- A scan of a group starts; a group of no inputs has nothing to convert (R410). -/
def scanStart (s : State) (k g : Nat) : State :=
  if groupMask s k g == 0 then s
  else wrs s [(EMG_MON_STAT.RUNNING, k, 1), (HID.MON_LEFT, k, groupMask s k g), (HID.MON_GROUP, k, g)]

/-- A scan that is pending starts if none runs. -/
def scanPend (k : Nat) (s : State) (g : Nat) : State :=
  let p := rd s EMG_MON_STAT.PEND k
  if flag s EMG_MON_STAT.RUNNING k || !bitOf p (g - 1) then s
  else scanStart (wr s EMG_MON_STAT.PEND k (clrBit p (g - 1))) k g

/-- The scan or check ends: settings that waited take effect, and the first pending scan starts in the order PWM, TEV, CMD
(R411, R419). -/
def scanEnd (s : State) (k : Nat) : State :=
  let s1 := wrs s [(EMG_MON_STAT.RUNNING, k, 0), (EMG_MON_STAT.OWCHECK, k, 0), (HID.MON_GROUP, k, 0), (HID.MON_LEFT, k, 0)]
  [1, 2, 3].foldl (scanPend k) (monSiteTake s1 k)

/-- A trigger of a group (R411, R412). -/
def monTrigger (s : State) (k g : Nat) : State :=
  let p := rd s EMG_MON_STAT.PEND k
  if !monRuns s k then s
  else if !flag s EMG_MON_STAT.RUNNING k then scanStart s k g
  else if bitOf p (g - 1) then bump s (groupOvr g) k
  else wr s EMG_MON_STAT.PEND k (setBit p (g - 1))

/-- A firing of event n triggers the TEV group of the sites that name it (R410). -/
def monTev (s : State) (n : Nat) : State :=
  forEach (allSites.filter (fun k => flag s EMG_MON_SITE.TEV_EN k && 32 + rd s EMG_MON_SITE.TEV k == n)) s
    (fun k t => monTrigger t k 2)

/-- MON_PWM_TRIGGER (R410): DELAY_NS after the selected edge of an output that has one. -/
def execMonPwmTrigger (k : Site) (s : State) : Host.Outcome State Fault Refusal :=
  let duty := rd s EMG_PWM.OUT_DUTY (8 * k.val + rd s EMG_MON_SITE.PWM_H k.val)
  .next (if flag s EMG_MON_SITE.PWM_EN k.val && duty != 0 && duty != 0xFFFF then monTrigger s k.val 1 else s)

/-- A conversion is made (R423). -/
def convCount (s : State) (k n : Nat) : State := perf (bumpBy s EMG_MON_CNT.CONV k n) { perfE 0x91 n with qual := k }

/-- MON_CONVERSION_DONE (R410, R413): the lowest input of the scan that is not converted yet takes the sample. -/
def execMonConversionDone (k : Site) (code : BitVec 12) (s : State) : Host.Outcome State Fault Refusal :=
  let left := rd s HID.MON_LEFT k.val
  .next (
    match (bitList left 16).head? with
    | none => s
    | some n =>
      if !monRuns s k.val || flag s EMG_MON_STAT.OWCHECK k.val then s
      else
        let s1 := wr (sampleIn (convCount s k.val 1) k.val n code.toNat) HID.MON_LEFT k.val (clrBit left n)
        if clrBit left n == 0 then scanEnd s1 k.val else s1)

/-! ## Commands -/

/-- The settings of a MON_SITE_SET, payload bytes 0x11 to 0x1B. -/
def monSiteVal (a : Acc) : Nat := opd a 0x11 11

/-- A MON_SITE_SET breaks a range or its masks overlap (R410, R420). -/
def monSiteBad (a : Acc) : Bool :=
  let t := opd a 0x16 2
  let p := opd a 0x18 2
  let c := opd a 0x1A 2
  decide (63 < siteArg a) || decide (31 < opdB a 0x12) || decide (7 < opdB a 0x13)
    || Nat.land t p != 0 || Nat.land t c != 0 || Nat.land p c != 0

/-- A MON_SITE_SET takes effect, at the end of any scan in progress (R419). -/
def monSiteApply (s : State) (a : Acc) : State :=
  if flag s EMG_MON_STAT.RUNNING (siteArg a) then
    { s with monSite := tabPut s.monSite (siteArg a, 0) (monSiteVal a) }
  else monSitePut s (siteArg a) (monSiteVal a)

/-- MON_SITE_SET (R419, R420). -/
def opMonSiteSet : OpSpec :=
  ⟨0x88, 0, true, false, fun _ a => badIf (monSiteBad a), fun _ a => [siteDom (siteArg a)],
    fun s a => notReleased s (siteArg a), fun _ a s => .done (monSiteApply s a) rOk⟩

/-- Site and input of a MON_SET. -/
def monInSite (a : Acc) : Nat := opdB a 0x1C
def monInNum (a : Acc) : Nat := opdB a 0x1D

/-- A MON_SET breaks a range (R413, R417, R420). -/
def monInBad (a : Acc) : Bool :=
  let v := leVal a.cmd.buf
  let w := bitsOf v EMG_MON_IN.RMS_W.lo EMG_MON_IN.RMS_W.w
  decide (63 < monInSite a) || decide (15 < monInNum a) || a.cmd.buf.length != 32
    || decide (6 < bitsOf v EMG_MON_IN.STAGES.lo EMG_MON_IN.STAGES.w) || w == 0

/-- A MON_SET takes effect at the input's next fine-output boundary: now when its chain is at one (R419). -/
def monInApply (s : State) (a : Acc) : State :=
  let v := leVal a.cmd.buf
  if atBoundary (chainOf s (monInSite a) (monInNum a)) then monInPut s (monInSite a) (monInNum a) v
  else { s with monIn := tabPut s.monIn (monInSite a, monInNum a) v }

/-- MON_SET (R419, R420). -/
def opMonSet : OpSpec :=
  ⟨0x89, 1, true, false, fun _ a => badIf (monInBad a), fun _ a => [siteDom (monInSite a)],
    fun s a => notReleased s (monInSite a), fun _ a s => .done (monInApply s a) rOk⟩

/-- MON_CONVERT (R410, R420): on a site that is not RELEASED it has no effect. -/
def opMonConvert : OpSpec :=
  ⟨0x8A, 0, false, false, fun _ a => badIf (63 < siteArg a && siteArg a != 0xFF),
    fun _ a => if siteArg a < 64 then [siteDom (siteArg a)] else [], noCheck,
    fun _ a s => .done
      (if siteArg a < 64 then monTrigger s (siteArg a) 3 else forEach allSites s (fun k t => monTrigger t k 3)) rOk⟩

/-- The inputs a mask at 0x12 names. -/
def monMask (a : Acc) : List Nat := bitList (opd a 0x12 2) 16

/-- MON_OWCHECK (R418, R420). The converter of a site that scans or checks is occupied: BUSY (R138). -/
def opMonOwcheck : OpSpec :=
  ⟨0x8B, 0, false, false, fun _ a => badIf (63 < siteArg a), fun _ a => [siteDom (siteArg a)],
    fun s a => firstOf [
      if flag s EMG_MON_STAT.RUNNING (siteArg a) then some (rStat .busy) else none,
      notReleased s (siteArg a),
      invIf ((monMask a).any (fun n => rd s EMG_MON_IN.OW_CUR (16 * siteArg a + n) == 0))],
    fun _ a s => .wait (wrs s [(EMG_MON_STAT.RUNNING, siteArg a, 1), (EMG_MON_STAT.OWCHECK, siteArg a, 1)])
      [siteArg a, opd a 0x12 2]⟩

/-- The check of one input with its pull-up and pull-down codes (R418). -/
def owInput (k : Nat) (s : State) (n : Nat) (up down : Nat) : State :=
  let i := 16 * k + n
  if down + rd s EMG_MON_IN.OW_DIFF i < up then
    faultC (0xC80 + k) (monEvent (wrs s [(EMG_MON_RES.OPEN, i, 1), (EMG_MON_RES.OPEN_EVT, i, 1)]) k n 5 up)
  else wr s EMG_MON_RES.OPEN i 0

/-- The inputs of a check in ascending order, each with its codes. -/
def owPairs (mask : Nat) (codes : List (BitVec 12 × BitVec 12)) : List (Nat × Nat × Nat) :=
  ((bitList mask 16).zip codes).map (fun x => (x.1, x.2.1.toNat, x.2.2.toNat))

/-- The OPEN mask of a check. -/
def owOpen (s : State) (k : Nat) (l : List (Nat × Nat × Nat)) : Nat :=
  bitmapOf ((l.filter (fun x => decide (x.2.2 + rd s EMG_MON_IN.OW_DIFF (16 * k + x.1) < x.2.1))).map (·.1))

/-- The mask of the check that runs on site k. -/
def owMask (s : State) (k : Nat) : Option Nat :=
  s.running.findSome? (fun x =>
    match waitsOn 0x8B [k] x, x.phase with
    | true, .waiting [_, m] => some m
    | _, _ => none)

/-- MON_OWCHECK_DONE (R418): 45 us and 2m slots after the start; the pull-up and pull-down codes of the named inputs. -/
def execMonOwcheckDone (k : Site) (codes : List (BitVec 12 × BitVec 12)) (s : State) : Host.Outcome State Fault Refusal :=
  .next (
    match owMask s k.val with
    | none => s
    | some m =>
      if codes.length != (bitList m 16).length then s
      else
        let l := owPairs m codes
        let s1 := l.foldl (fun t x => owInput k.val t x.1 x.2.1 x.2.2) (convCount s k.val (2 * l.length))
        complete (waitsOn 0x8B [k.val]) (rData (owOpen s k.val l)) (scanEnd s1 k.val))

/-- One input of a MON_CLEAR. -/
def monClearOne (a : Acc) (n : Nat) (s : State) : State :=
  let s1 := if opdBit a 0x14 0 then detClear s (siteArg a) n else s
  if opdBit a 0x14 1 then chainClear s1 (siteArg a) n else s1

/-- MON_CLEAR (R415, R417, R420). -/
def opMonClear : OpSpec :=
  ⟨0x8C, 0, false, false, fun _ a => badIf (63 < siteArg a), fun _ a => [siteDom (siteArg a)], noCheck,
    fun _ a s => .done (forEach (monMask a) s (monClearOne a)) rOk⟩

def execMonSiteSet (r : Ring) (s : State) : Host.Outcome State Fault Refusal := .next (dispatch opMonSiteSet r.val s)
def execMonSet (r : Ring) (s : State) : Host.Outcome State Fault Refusal := .next (dispatch opMonSet r.val s)
def execMonConvert (r : Ring) (s : State) : Host.Outcome State Fault Refusal := .next (dispatch opMonConvert r.val s)
def execMonOwcheck (r : Ring) (s : State) : Host.Outcome State Fault Refusal := .next (dispatch opMonOwcheck r.val s)
def execMonClear (r : Ring) (s : State) : Host.Outcome State Fault Refusal := .next (dispatch opMonClear r.val s)

end Sys2Proof.Machine
end

