-- ==== Sys2Proof/Machine/Encode.lean ====
section
/-! DEFINITION. The transmit side of line coding (R263 to R272, R277 to R279) and the stages of native mode up to the DAC
(R228, R230, R231): transcoding, scrambling, the outer code, interleaving, the inner code, PAM4 mapping, subcarrier filling,
pre-distortion and look-up. What R264 takes from IEEE 802.3 is the published transcoder and scrambler (PRESUMED, log entry
108). Bits stand in transmission order. -/

namespace Sys2Proof.Machine

/-- The low n bits of a number, least significant first. -/
def natBits (n v : Nat) : List Bool := (List.range n).map (bitOf v)

/-- The number that bits spell, least significant first. -/
def bitsNat (l : List Bool) : Nat := l.foldr (fun b n => b2n b + 2 * n) 0

/-! ## PCS: idles, transcoding, scrambling (R264) -/

/-- A block of eight idle control characters. -/
def idleBlock : PcsBlock := ⟨false, 0x1E⟩

/-- The block holds idles only. -/
def isIdle (b : PcsBlock) : Bool := !b.data && b.payload.toNat == 0x1E

/-- Up to n idle blocks deleted. -/
def dropIdle : Nat → List PcsBlock → List PcsBlock
  | _, [] => []
  | 0, l => l
  | n + 1, b :: t => if isIdle b then dropIdle n t else b :: dropIdle (n + 1) t

/-- n idle blocks inserted beside the first idle one, or at the end. -/
def addIdle (n : Nat) : List PcsBlock → List PcsBlock
  | [] => List.replicate n idleBlock
  | b :: t => if isIdle b then List.replicate n idleBlock ++ b :: t else b :: addIdle n t

/-- The stream fitted to n blocks by deletion and insertion of idles. -/
def fitBlocks (n : Nat) (l : List PcsBlock) : List PcsBlock := (addIdle (n - l.length) (dropIdle (l.length - n) l)).take n

/-- Position of the first control block of four. -/
def firstControl (l : List PcsBlock) : Nat := ((List.range 4).find? (fun j => !(l.getD j idleBlock).data)).getD 4

/-- Four 64b/66b blocks as one 257-bit block: header 1 and the payloads, if all hold data; else header 0, which blocks hold
data, and the payloads without the second half of the first control block's type. -/
def transcode (l : List PcsBlock) : List Bool :=
  let pay := l.flatMap (fun b => natBits 64 b.payload.toNat)
  let c := firstControl l
  if c == 4 then true :: pay else false :: l.map (·.data) ++ (pay.take (64 * c + 4) ++ pay.drop (64 * c + 8))

/-- The self-synchronous scrambler x^58 + x^39 + 1 over bits, its register's newest bit lowest. -/
def scramble : Nat → List Bool → Nat × List Bool
  | r, [] => (r, [])
  | r, u :: t =>
    let b := u != (bitOf r 38 != bitOf r 57)
    let (r1, o) := scramble (r * 2 % 2 ^ 58 + b2n b) t
    (r1, b :: o)

/-! ## Alignment markers (R272) -/

/-- The 32 bytes of the marker lane l sends next; LANE is 0 on a lane without a port (DESIGN CHOICE, log entry 108). -/
def markerBytes (s : State) (l : Nat) : List Byte :=
  let lane := ((portOfLane (curGen s) l).map (l - ·)).getD 0
  let n := rd s HID.AM_SENT l
  leBytes 8 amPattern ++ bytesOf [lane, 255 - lane] ++ leBytes 2 n ++ leBytes 2 (65535 - n) ++ List.replicate 18 (byteOf 0x96)

/-- The 257-bit block of a marker. -/
def markerBits (m : List Byte) : List Bool := false :: m.flatMap (fun b => natBits 8 b.toNat)

/-! ## Outer code (R265, R266) -/

/-- a b over GF(2^10) of x^10 + x^3 + 1, n bits of b to go. -/
def gfMulGo : Nat → Nat → Nat → Nat → Nat
  | 0, _, _, acc => acc
  | n + 1, a, b, acc =>
    gfMulGo n (if bitOf a 9 then Nat.xor (a * 2 % 1024) 9 else a * 2) (b / 2) (if b % 2 == 1 then Nat.xor acc a else acc)

/-- The product of two elements of GF(2^10). -/
def gfMul (a b : Nat) : Nat := gfMulGo 10 a b 0

/-- alpha^n. -/
def gfPow : Nat → Nat
  | 0 => 1
  | n + 1 => gfMul (gfPow n) 2

/-- A polynomial, highest coefficient first, times x + r. -/
def polyMul (p : List Nat) (r : Nat) : List Nat :=
  (List.range (p.length + 1)).map (fun i => Nat.xor (p.getD i 0) (if i == 0 then 0 else gfMul r (p.getD (i - 1) 0)))

/-- The generator polynomial with the roots alpha^0 to alpha^29, without its leading 1 (R265). -/
def rsGen : List Nat := ((List.range 30).foldl (fun p i => polyMul p (gfPow i)) [1]).drop 1

/-- One message symbol into the encoder's 30 registers, the highest power first. -/
def rsStep (g reg : List Nat) (m : Nat) : List Nat :=
  let f := Nat.xor m (reg.headD 0)
  List.zipWith (fun a c => Nat.xor a (gfMul f c)) (reg.drop 1 ++ [0]) g

/-- A codeword: the message symbols, then the check symbols (R265). -/
def rsEncode (msg : List Nat) : List Nat := msg ++ msg.foldl (rsStep rsGen) (List.replicate 30 0)

/-- n symbols of 10 bits from a bit stream, the first bit least significant (R265). -/
def toSyms : Nat → List Bool → List Nat
  | 0, _ => []
  | n + 1, l => bitsNat (l.take 10) :: toSyms n (l.drop 10)

/-- Two codewords interleaved symbol by symbol, as bits (R266). -/
def interleave (a b : List Nat) : List Bool := (List.zip a b).flatMap (fun e => natBits 10 e.1 ++ natBits 10 e.2)

/-- Forty transcoded blocks as a pair of codewords: A holds the earlier 20 (R266). -/
def pairBits (blocks : List (List Bool)) : List Bool :=
  interleave (rsEncode (toSyms 514 (blocks.take 20).flatten)) (rsEncode (toSyms 514 (blocks.drop 20).flatten))

/-- n 257-bit blocks from PCS blocks. -/
def transcodeAll : Nat → List PcsBlock → List (List Bool)
  | 0, _ => []
  | n + 1, l => transcode (l.take 4) :: transcodeAll n (l.drop 4)

/-- Scrambled 257-bit blocks, with the register after them. -/
def scrambleAll : Nat → List (List Bool) → Nat × List (List Bool)
  | r, [] => (r, [])
  | r, b :: t =>
    let (r1, o) := scramble r b
    let (r2, os) := scrambleAll r1 t
    (r2, o :: os)

/-- PCS blocks that the next pair of lane l carries: one transcoded block fewer where the marker stands (R264, R272). -/
def pairNeeds (s : State) (l : Nat) : Nat := if rd s HID.AM_PAIR l == 0 then 156 else 160

/-- The next pair of codewords of lane l, with the marker in its place every 384 pairs (R264 to R266, R270, R272). -/
def sendPair (s : State) (l : Nat) (blks : List PcsBlock) : State × List Bool :=
  let n := rd s HID.AM_PAIR l
  let (r, bs) := scrambleAll (rd s HID.SCRAM l) (transcodeAll (pairNeeds s l / 4) blks)
  let s1 := wrs s [(HID.SCRAM, l, r), (HID.AM_PAIR, l, (n + 1) % 384)]
  if n == 0 then (wr s1 HID.AM_SENT l (rd s HID.AM_SENT l + 1), pairBits (markerBits (markerBytes s l) :: bs))
  else (s1, pairBits bs)

/-- n pairs of lane l, one after the other. -/
def sendPairs (l : Nat) : Nat → State → List PcsBlock → State × List Bool
  | 0, s, _ => (s, [])
  | n + 1, s, blks =>
    let (s1, o) := sendPair s l (blks.take (pairNeeds s l))
    let (s2, os) := sendPairs l n s1 (blks.drop (pairNeeds s l))
    (s2, o ++ os)

/-! ## Inner code and mapping (R268, R269) -/

/-- The inner encoder: register, puncture phase, bits in; register, phase, coded bits out (R268). -/
def innerEncode : Nat → Nat → List Bool → Nat × Nat × List Bool
  | r, p, [] => (r, p, [])
  | r, p, u :: t =>
    let x1 := u != (bitOf r 0 != bitOf r 2)
    let x2 := x1 != bitOf r 1
    let (r1, p1, o) := innerEncode (r * 2 % 8 + b2n u) ((p + 1) % 15) t
    (r1, p1, if p == 0 then x1 :: x2 :: o else x1 :: o)

/-- The Gray mapping of a pair of coded bits, levels -3 to +3 as 0 to 3 (R269). -/
def gray (a b : Bool) : Nat := if a then (if b then 2 else 3) else b2n b

/-- Coded bits as PAM4 symbols. -/
def pam4 : List Bool → List Nat
  | a :: b :: t => gray a b :: pam4 t
  | _ => []

/-- The level of symbol number 0 to 3. -/
def pamLevel (n : Nat) : Int := 2 * (n : Int) - 3

/-! ## Pre-distorter, look-up and DAC (R228, R230, R231) -/

/-- The taps in force on a lane. -/
def tapsNow (s : State) (l : Nat) : List Int := (List.range 15).map (fun k => sext 10 (rd s SHF_TX_TAP.COEF (l * 15 + k)))

/-- The look-up entries in force on a lane. -/
def lutNow (s : State) (l : Nat) : List Int := (List.range 64).map (fun e => sext 8 (rd s SHF_TX_LUT.OFS (l * 64 + e)))

/-- What reaches the DAC for the symbol at place 11 of a window of 15, the oldest first: tap 3 takes that symbol, tap 0 the
newest (R230); the look-up takes the symbols around it (R231). -/
def dacSum (taps lut : List Int) (w : List Nat) : Int :=
  Config.dacCode ((List.zipWith (fun c a => c * pamLevel a) taps w.reverse).foldl (· + ·) 0)
    + lut.getD (16 * w.getD 10 0 + 4 * w.getD 11 0 + w.getD 12 0) 0

/-- The sums of n successive windows of a symbol stream. -/
def dacSums (taps lut : List Int) : Nat → List Nat → List Int
  | 0, _ => []
  | n + 1, l => dacSum taps lut (l.take 15) :: dacSums taps lut n (l.drop 1)

/-- A sum held to the range of the DAC (R231). -/
def dacHold (v : Int) : Nat := (max 0 (min 255 v)).toNat

/-- The sum is held: it counts in CLIP (R231). -/
def dacClips (v : Int) : Bool := decide (v < 0) || decide (255 < v)

/-- The symbols a lane's pre-distorter still holds, the oldest first. -/
def txTail (s : State) (l : Nat) : List Nat := (List.range 14).map (fun i => bitsOf (rd s HID.TX_TAIL l) (2 * (13 - i)) 2)

/-- Symbols go through the pre-distorter and look-up: those that wait for later symbols with the shaping of before the
boundary, the others with that after it, so that no sample mixes the two (R232). -/
def dacStream (s0 s : State) (l : Nat) (syms : List Nat) : List Int :=
  let w := txTail s0 l ++ syms
  dacSums (tapsNow s0 l) (lutNow s0 l) 3 w ++ dacSums (tapsNow s l) (lutNow s l) (syms.length - 3) (w.drop 3)

/-! ## What a lane sends from one boundary to the next -/

/-- The lane sends data in its format: T4 of training, LIVE and HOLD (R239, R241, R257). -/
def sendsData (s : State) (l : Nat) : Bool :=
  laneSt s l == laneLIVE || laneSt s l == laneHOLD || (laneSt s l == laneTRAIN && rd s SHF_LANE_STAT.PHASE l == 4)

/-- A group of six codewords in native mode: 17 408 symbols (R270). A squelched output sends none of them. -/
def sendNative (s0 s : State) (l : Nat) (blks : List PcsBlock) : State :=
  let (s1, bits) := sendPairs l 3 s (fitBlocks (320 + pairNeeds s l) blks)
  let (r, p, coded) := innerEncode (rd s HID.ENC_REG l) (rd s HID.ENC_PUNC l) bits
  let syms := pam4 coded
  let sums := dacStream s0 s l syms
  let last := (txTail s l ++ syms).drop syms.length
  let s2 := wrs s1 [(HID.ENC_REG, l, r), (HID.ENC_PUNC, l, p), (HID.TX_TAIL, l, last.foldl (fun v a => 4 * v + a) 0)]
  if flag s HID.SQ_OUT l then s2
  else emit (bumpBy s2 SHF_TX_STAT.CLIP l (sums.filter dacClips).length) (.symbols l (syms.map pamLevel) (sums.map dacHold))

/-- Pad bits of a superframe of a tier (R278). -/
def tierPad (t : Nat) : Nat := [0, 1, 2, 3, 0].getD t 0

/-- Subcarriers filled in ascending order with b bits each, the first bit most significant (R277). -/
def fillSubs : List Nat → List Bool → List Nat
  | [], _ => []
  | b :: t, l => (l.take b).foldl (fun n x => 2 * n + b2n x) 0 :: fillSubs t (l.drop b)

/-- A transform symbol in loaded mode (R277, R279): the bits of its subcarriers, from a new pair of codewords when those left
do not fill it. The last bits of a superframe, its final subcarriers' final ones, are pad (DEDUCED, log entry 108). -/
def sendLoaded (s : State) (l : Nat) (blks : List PcsBlock) : State :=
  let tier := rd s SHF_LANE_STAT.TIER l
  let ph := rd s HID.SUPER_PH l
  let pad := if ph == 3 then tierPad tier else 0
  let need := tierBits tier - pad
  let have0 := (tabGet s.txBits (l, 0)).getD []
  let (s1, more) := if have0.length < need then sendPair s l (fitBlocks (pairNeeds s l) blks) else (s, [])
  let bits := have0 ++ more
  let rest := bits.drop need
  let tab := (tabGet s.bits (l, 2 + rd s HID.BIT_BANK l)).getD []
  let s2 := wr { s1 with txBits := if rest.isEmpty then tabDel s1.txBits (l, 0) else tabPut s1.txBits (l, 0) rest }
    HID.SUPER_PH l ((ph + 1) % 4)
  if flag s HID.SQ_OUT l then s2
  else emit s2 (.subcarriers l (fillSubs tab (bits.take need ++ List.replicate pad false)))

/-- A transmit boundary of a lane: what waited for it takes effect, then the lane sends in its format. Standard mode sends by
IEEE 802.3dj (R280). -/
def txSend (l : Nat) (blks : List PcsBlock) (s : State) : State :=
  let s1 := txBoundary s l
  if !sendsData s1 l then s1
  else
    match rd s1 SHF_LANE_STAT.FORMAT l with
    | 1 => sendNative s s1 l blks
    | 2 => sendLoaded s1 l blks
    | _ => s1

/-- TX_BOUNDARY_UPDATE (R232, R233, R239, R263). -/
def execTxBoundaryUpdate (l : Lane) (blks : List PcsBlock) (s : State) : Host.Outcome State Fault Refusal :=
  .next (txSend l.val blks s)

end Sys2Proof.Machine
end

