-- ==== Sys2Proof/Machine/Ports.lean ====
section
/-! DEFINITION. Ports, MAC and MACsec (R286 to R300): received and sent frames, flow control, channels and associations,
the MKA participants of the security processor (R118), and the commands of R298. -/

namespace Sys2Proof.Machine

/-- A port is UP (R289). -/
def portUp (s : State) (p : Nat) : Bool := rd s PRT_STAT.STATE p == 4

/-- An occurrence at port p. -/
def perfPort (s : State) (p code qual amount : Nat) : State :=
  perf s { perfE code amount with qual := qual, kind := 3, index := p }

/-- A frame discarded by the MAC: field number q of PRT_MAC_ERR counts it (R290). -/
def macDrop (s : State) (f : Fld) (q p : Nat) : State := perfPort (bump s f p) p 0x34 q 1

/-! ## Channels (R292) -/

/-- The channels of the line die of port p. -/
def dieChans (p : Nat) : List Nat := (List.range 1024).map (fun i => p / 64 * 1024 + i)

/-- Channel c is BOUND to port p in a direction. -/
def boundTo (s : State) (p dir c : Nat) : Bool :=
  rd s MSC_CHAN.STATE c == 1 && rd s MSC_CHAN.DIR c == dir && rd s MSC_CHAN.PORT c == p

/-- The channels bound to a port in a direction, ascending. -/
def chansOf (s : State) (p dir : Nat) : List Nat := (dieChans p).filter (boundTo s p dir)

/-- The transmit channel of a port. -/
def txChan (s : State) (p : Nat) : Option Nat := (dieChans p).find? (boundTo s p 0)

/-- Association a of channel c holds a key. -/
def saOn (s : State) (c a : Nat) : Bool := flag s MSC_SA.VALID (2 * c + a)

/-- A key installed in association a of channel c. -/
def saPut (s : State) (c a kn an : Nat) (key : BitVec 256) : State :=
  wrs { s with saks := tabPut s.saks (c, a) key }
    [(MSC_SA.VALID, 2 * c + a, 1), (MSC_SA.AN, 2 * c + a, an), (MSC_SA.KN, 2 * c + a, kn), (MSC_SA.PN, 2 * c + a, 1)]

/-- Association a of channel c released. -/
def saDrop (s : State) (c a : Nat) : State :=
  wrs { s with saks := tabDel s.saks (c, a) }
    [(MSC_SA.VALID, 2 * c + a, 0), (MSC_SA.AN, 2 * c + a, 0), (MSC_SA.KN, 2 * c + a, 0), (MSC_SA.PN, 2 * c + a, 0)]

/-- The transmit association of channel c for packets of generation g (R174). -/
def txAnOf (s : State) (g c : Nat) : Nat := (tabGet (genOf s g).txAn (c, 0)).getD 0

/-- Channel c back at FREE, with its associations and counters. -/
def chanFree (s : State) (c : Nat) : State :=
  let s1 := saDrop (saDrop s c 0) c 1
  wrs { s1 with
      gen0 := { s1.gen0 with txAn := tabDel s1.gen0.txAn (c, 0) }
      gen1 := { s1.gen1 with txAn := tabDel s1.gen1.txAn (c, 0) } }
    [(MSC_CHAN.STATE, c, 0), (MSC_CHAN.DIR, c, 0), (MSC_CHAN.COFF, c, 0), (MSC_CHAN.VALIDATE, c, 0), (MSC_CHAN.ROLL, c, 0),
     (MSC_CHAN.PORT, c, 0), (MSC_CHAN.WINDOW, c, 0), (MSC_CHAN.SCI, c, 0), (MSC_CHAN.MKA_STATE, c, 0),
     (MSC_CHAN.KEY_SERVER, c, 0), (HID.MSC_INC_SCI, c, 0), (MSC_CNT.PKTS, c, 0), (MSC_CNT.OCTETS, c, 0),
     (MSC_CNT.LATE, c, 0), (MSC_CNT.NOT_VALID, c, 0), (MSC_CNT.NO_SA, c, 0), (MSC_CNT.UNTAGGED, c, 0)]

/-! ## Receive (R290, R293) -/

/-- What the MACsec engine makes of a received frame: the counter that failed with its code of event 0x37, or the
association that validated it. -/
inductive SecResult where
  | late | notValid | noSa | untagged
  | valid (a : Nat)
  deriving DecidableEq, Repr

/-- The receive channel of a frame among the port's: by SCI, else the single one; a frame of no channel is charged to the
lowest (DESIGN CHOICE, log entry 30). -/
def rxChan (s : State) (cs : List Nat) (f : RxFrame) : Option Nat :=
  match f.sci with
  | some x => cs.find? (fun c => rd s MSC_CHAN.SCI c == x)
  | none => if cs.length == 1 then cs.head? else none

/-- The association of a channel with the frame's AN. -/
def rxSa (s : State) (c an : Nat) : Option Nat :=
  [0, 1].find? (fun a => saOn s c a && rd s MSC_SA.AN (2 * c + a) == an)

/-- The check of one frame (R293). -/
def secCheck (s : State) (cs : List Nat) (f : RxFrame) : SecResult :=
  if !f.tagged then .untagged
  else
    match rxChan s cs f with
    | none => .noSa
    | some c =>
      match rxSa s c f.an with
      | none => .noSa
      | some a =>
        if f.pn < rd s MSC_SA.PN (2 * c + a) then .late
        else if !f.icvOk then .notValid
        else .valid a

/-- The counter of a failed check on channel c. -/
def secCount (s : State) (p c : Nat) : SecResult → State
  | .late => perfPort (bump s MSC_CNT.LATE c) p 0x37 0 1
  | .notValid => perfPort (bump s MSC_CNT.NOT_VALID c) p 0x37 1 1
  | .noSa => perfPort (bump s MSC_CNT.NO_SA c) p 0x37 2 1
  | .untagged => perfPort (bump s MSC_CNT.UNTAGGED c) p 0x37 3 1
  | .valid _ => s

/-- A frame that failed is discarded: every one under Strict, a late one under Check (R293). -/
def secDiscards (s : State) (c : Nat) (r : SecResult) : Bool :=
  match r with
  | .valid _ => false
  | .late => rd s MSC_CHAN.VALIDATE c == 1 || rd s MSC_CHAN.VALIDATE c == 2
  | _ => rd s MSC_CHAN.VALIDATE c == 2

/-- A frame that validates is counted, and the lowest acceptable PN follows it at the distance of the window (R293). -/
def secValid (s : State) (p c a : Nat) (f : RxFrame) : State :=
  let s1 := perfPort (stat (stat s MSC_CNT.PKTS c 1) MSC_CNT.OCTETS c f.len) p 0x36 0 1
  wr s1 MSC_SA.PN (2 * c + a) (max (rd s MSC_SA.PN (2 * c + a)) (f.pn + 1 - rd s MSC_CHAN.WINDOW c))

/-- A frame is delivered: counted, and on its way to the gallery that serves the sheaf (R290). -/
def deliver (s : State) (p : Nat) (f : RxFrame) (sec : Nat) (secFail : Bool) : State :=
  let len := f.len
  let s1 := stat (stat s PRT_MAC_CNT.RX_FRAMES p 1) PRT_MAC_CNT.RX_BYTES p len
  let s2 := perfPort (perfPort s1 p 0x30 0 1) p 0x31 0 len
  let s3 := if rd s2 PMU_BW.W_US p == 0 then s2 else wr s2 HID.BW_RX p (rd s2 HID.BW_RX p + len)
  newPkt s3 { framePkt s3 (.fromMac p) p len f.data false with sec := sec, secFail := secFail }

/-- A frame that passed the MAC's checks goes through the port's receive channels (R292, R293). -/
def secRx (s : State) (p : Nat) (f : RxFrame) : State :=
  let cs := chansOf s p 1
  match cs with
  | [] => deliver s p f 0 false
  | c0 :: _ =>
    let c := (rxChan s cs f).getD c0
    let r := secCheck s cs f
    let meta0 := c + 8192 * (f.an % 4)
    match r with
    | .valid a => deliver (secValid s p c a f) p f (meta0 + 32768) false
    | _ =>
      let s1 := secCount s p c r
      if secDiscards s c r then s1
      else deliver s1 p f (if f.tagged then meta0 else c) (rd s MSC_CHAN.VALIDATE c == 1)

/-- MAC_RX_FRAME (R290, R293): the checks in an order the spec leaves open (DESIGN CHOICE, log entry 29). A MKPDU goes to
the security processor (MKPDU_RX). -/
def execMacRxFrame (p : Port) (f : RxFrame) (s : State) : Host.Outcome State Fault Refusal :=
  .next (
    if !portUp s p.val then s
    else if f.codeErr then macDrop s PRT_MAC_ERR.CODE 3 p.val
    else if f.len < 64 then macDrop s PRT_MAC_ERR.RUNT 1 p.val
    else if rd s PRT_CFG.MAX_LEN p.val < f.len then macDrop s PRT_MAC_ERR.OVERSIZE 2 p.val
    else if !f.fcsOk then macDrop s PRT_MAC_ERR.FCS 0 p.val
    else if f.mkpdu then s
    else secRx s p.val f)

/-! ## Transmit (R290, R294, R167, R168) -/

/-- Bytes that the SecTAG and the ICV add on transmit channel c (R292). -/
def secAdds (s : State) (c : Nat) : Nat := (if flag s HID.MSC_INC_SCI c then 16 else 8) + 16

/-- PN at which a transmit association without a successor stops (R294). -/
def pnLast : Nat := 0xFFFFFFFF00000000

/-- Fixed latency from the coding output of port p's lanes to the lands, 2^-16 ns: 38 ns native, 131 ns loaded, 49 ns standard
(R229). -/
def txLatency (s : State) (p : Nat) : Nat := [0, 38, 131, 49].getD ((portDef s p).map (·.format) |>.getD 0) 0 * 65536

/-- Bytes put in the place of those at an offset. -/
def bytesAt (l : List Byte) (off : Nat) (v : List Byte) : List Byte := l.take off ++ v ++ l.drop (off + v.length)

/-- The number at an offset of a frame, most significant byte first. -/
def beAt (l : List Byte) (off n : Nat) : Nat := leVal (sliceOf l off n).reverse

/-- Sum of the 16-bit words of bytes, most significant byte first. -/
def sum16 : List Byte → Nat
  | a :: b :: t => a.toNat * 256 + b.toNat + sum16 t
  | [a] => a.toNat * 256
  | [] => 0

/-- Where the EtherType of a frame stands: behind up to two VLAN tags. -/
def typeOff (l : List Byte) : Nat :=
  let vlan := fun o => beAt l o 2 == 0x8100 || beAt l o 2 == 0x88A8
  if vlan 12 then (if vlan 16 then 20 else 16) else 12

/-- The UDP header of a frame under IPv4 or IPv6, and whether it is IPv4 (R168). -/
def udpAt (l : List Byte) : Option (Nat × Bool) :=
  let t := typeOff l
  if beAt l t 2 == 0x0800 && beAt l (t + 11) 1 == 17 then some (t + 2 + 4 * (beAt l (t + 2) 1 % 16), true)
  else if beAt l t 2 == 0x86DD && beAt l (t + 8) 1 == 17 then some (t + 42, false)
  else none

/-- The checksum of a changed datagram, from the old one and the sums of its words before and after (R168). -/
def fixSum (c old new : Nat) : Nat := 65535 - ((65535 - c) + (65535 - old % 65535) + new) % 65535

/-- The correctionField at an offset gains a signed amount; one that would overflow becomes the largest value (R167). -/
def corrGain (l : List Byte) (off : Nat) (g : Int) : List Byte :=
  let v := sext 64 (beAt l off 8) + g
  bytesAt l off (beBytes 8 (if v < -(2 ^ 63 : Int) || (2 ^ 63 : Int) ≤ v then 0x7FFFFFFFFFFFFFFF else wrapI 64 v))

/-- A marked frame with its one-step insertion (R167, R168): kind 1 ORIGIN, 2 RESIDENCE, t_tx and t_ref in 2^-16 ns; none
where a byte it writes lies outside the frame or its first 256 bytes. -/
def tsInsert (l : List Byte) (kind off tx ref : Nat) : Option (List Byte) :=
  let l1 := if kind == 1 then corrGain (bytesAt l (off + 34) (beBytes 6 (tx / 65536 / 1000000000) ++ beBytes 4 (tx / 65536 % 1000000000)))
      (off + 8) (tx % 65536)
    else corrGain l (off + 8) ((tx : Int) - (ref : Int))
  let reach := off + (if kind == 1 then 44 else 16)
  match (udpAt l).filter (fun u => decide (u.1 + 8 ≤ off)) with
  | none => if min 256 l.length < reach then none else some l1
  | some (u, v4) =>
    if min 256 l.length < reach then none
    else if v4 && beAt l (u + 6) 2 == 0 then some l1
    else some (bytesAt l1 (u + 6) (beBytes 2 (fixSum (beAt l (u + 6) 2) (sum16 (l.drop u)) (sum16 (l1.drop u)))))

/-- A frame sent: counted, its one-step insertion made (R167), traced (R486), protected where `guard` says how (R168, R292). A
frame shorter than 64 bytes is padded (R290). -/
def macSend (s : State) (p len : Nat) (k : Pkt) (guard : List Byte → List Byte) : State :=
  let r := k.res
  let kind := (r.map (·.tsKind)).getD 0
  let tx := delayed (localTime s + txLatency s p) (sext 32 (rd s TIM_PORT_DLY.TX_NS p))
  let frame := (k.data ++ leBytes (k.len - k.data.length) 0).take k.len ++ leBytes (64 - k.len) 0
  let s1 := stat (stat (losePkt s k) PRT_MAC_CNT.TX_FRAMES p 1) PRT_MAC_CNT.TX_BYTES p len
  let s2 := perf (perf s1 { perfE 0x32 1 with kind := 3, index := p, tc := k.tc, cls := k.cls })
    { perfE 0x33 len with kind := 3, index := p, tc := k.tc, cls := k.cls }
  let s3 := if rd s2 PMU_BW.W_US p == 0 then s2 else wr s2 HID.BW_TX p (rd s2 HID.BW_TX p + len)
  let s4 := trace s3 k 9 (0x200 + p / 8) p 0 0
  if kind == 0 || 2 < kind then emit s4 (.txFrame p len 0 (guard frame))
  else
    match tsInsert frame kind ((r.map (·.tsOff)).getD 0) tx k.rxTs with
    | none => emit (bump s4 TIM_PORT_DLY.TS_SKIP p) (.txFrame p len 0 (guard frame))
    | some l => emit s4 (.txFrame p len kind (guard l))

/-- Bytes a confidentiality offset code leaves in the clear (R292, R298): 0, 30 or 50. -/
def coffBytes (n : Nat) : Nat := [0, 30, 50].getD n 0

/-- The frame is protected under the association of its generation, or discarded (R292, R294, R297). -/
def secTx (s : State) (p len c : Nat) (k : Pkt) : State :=
  let a := txAnOf s (k.gen % 2) c
  let i := 2 * c + a
  let pn := rd s MSC_SA.PN i
  let drop := fun (t : State) => losePkt (perfPort (bump t MSC_CNT.NO_SA c) p 0x37 2 1) k
  if !saOn s c a then drop s
  else if pnLast ≤ pn && !saOn s c (1 - a) then raise (0x580 + p / 8) 2 [] (drop s)
  else
    let s1 := stat (stat (wr s MSC_SA.PN i (pn + 1)) MSC_CNT.PKTS c 1) MSC_CNT.OCTETS c (len + secAdds s c)
    macSend (perfPort s1 p 0x35 0 1) p (len + secAdds s c) k
      (Config.macsecSeal ((tabGet s.saks (c, a)).getD 0) (rd s MSC_CHAN.SCI c) pn (rd s MSC_SA.AN i)
        (coffBytes (rd s MSC_CHAN.COFF c)) (flag s HID.MSC_INC_SCI c))

/-- MAC_TX_FRAME (R290): the packet stands at the MAC of the port, which is UP. -/
def execMacTxFrame (p : Port) (pkt : Nat) (s : State) : Host.Outcome State Fault Refusal :=
  .next (
    match pktOf s pkt with
    | none => s
    | some k =>
      if k.loc != .toMac p.val || !portUp s p.val then s
      else if k.expired then expire s k
      else if rd s PRT_CFG.MAX_LEN p.val < k.len then losePkt (macDrop s PRT_MAC_ERR.OVERSIZE 2 p.val) k
      else
        match txChan s p.val with
        | none => macSend s p.val (max 64 k.len) k id
        | some c => secTx s p.val (max 64 k.len) c k)

/-! ## Flow control and faults (R289, R290) -/

/-- One class of a received flow-control frame. -/
def pfcClass (p : Nat) (s : State) (e : Fin 8 × BitVec 16) : State :=
  let s1 := perfPort s p 0x38 e.1.val 1
  if bitOf (rd s PRT_CFG.PFC_RX p) e.1.val then wr s1 HID.PRT_PAUSE (8 * p + e.1.val) e.2.toNat else s1

/-- PFC_FRAME_RX (R290). -/
def execPfcFrameRx (p : Port) (quanta : List (Fin 8 × BitVec 16)) (s : State) : Host.Outcome State Fault Refusal :=
  .next (
    if !portUp s p.val then s
    else quanta.foldl (pfcClass p.val) (bump s PRT_MAC_ERR.PFC_RX p.val))

/-- PFC_PAUSE_EXPIRE (R290). -/
def execPfcPauseExpire (p : Port) (cls : Fin 8) (s : State) : Host.Outcome State Fault Refusal :=
  .next (wr s HID.PRT_PAUSE (8 * p.val + cls.val) 0)

/-- REMOTE_FAULT_RX (R289). -/
def execRemoteFaultRx (p : Port) (on : Bool) (s : State) : Host.Outcome State Fault Refusal :=
  .next (
    if (portDef s p.val).isNone then s
    else portEval raise false (wr s HID.PRT_REMOTE p.val (b2n on)) p.val)

/-! ## MKA (R118, R296, R297) -/

/-- Peers of the participant of port p: number, SCI, priority, newest SAK installed. -/
def peersOf (s : State) (p : Nat) : List (Nat × Nat × Nat × Bool) :=
  (s.peers.filter (fun e => Nat.beq e.1.1 p)).map (fun e => (e.1.2, e.2))

/-- The peers of port p dropped. -/
def peersDrop (s : State) (p : Nat) : State := { s with peers := s.peers.filter (fun e => !Nat.beq e.1.1 p) }

/-- (prio, sci) stands before (prio', sci') in the order of key servers: the lower value first, then the lower SCI. -/
def servesBefore (a b : Nat × Nat) : Bool := a.1 < b.1 || (a.1 == b.1 && a.2 < b.2)

/-- KEY_SERVER of the participant of port p, whose transmit channel is c. -/
def mkaElect (s : State) (p c : Nat) : State :=
  let ps := peersOf s p
  wr s MSC_CHAN.KEY_SERVER c (b2n (!ps.isEmpty
    && ps.all (fun e => servesBefore (rd s HID.MKA_PRIO p, rd s MSC_CHAN.SCI c) (e.2.2.1, e.2.1))))

/-- The association of channel c that holds no key: the one in use first while it holds none. -/
def saFree (s : State) (c a : Nat) : Option Nat :=
  if !saOn s c a then some a else if !saOn s c (1 - a) then some (1 - a) else none

/-- A SAK goes into the free association of the transmit channel and of each receive channel of port p (R297). -/
def sakPlace (s : State) (p c kn an : Nat) (key : BitVec 256) : State :=
  let put := fun (t : State) (x a : Nat) =>
    match saFree t x a with
    | some b => saPut t x b kn an key
    | none => t
  let s1 := put s c (txAnOf s (genNow s) c)
  (chansOf s1 p 1).foldl (fun t x => put t x 0) s1

/-- The newest key number of channel c. -/
def newestKn (s : State) (c : Nat) : Nat :=
  max (if saOn s c 0 then rd s MSC_SA.KN (2 * c) else 0) (if saOn s c 1 then rd s MSC_SA.KN (2 * c + 1) else 0)

/-- The key server must distribute a SAK: none is in use, its PN is spent, or a live peer lacks it; never while both
associations are in use, nor in the cryptographic error state (R124, R294, R297). -/
def needsSak (s : State) (p c : Nat) : Bool :=
  let a := txAnOf s (genNow s) c
  !flag s SEC_STATUS.CRYPTO_ERR 0 && (saFree s c a).isSome && !(peersOf s p).isEmpty
    && (!saOn s c a || 0xC000000000000000 ≤ rd s MSC_SA.PN (2 * c + a) || (peersOf s p).any (fun e => !e.2.2.2))

/-- No peer of port p has the newest SAK. -/
def peersUnset (s : State) (p : Nat) : State :=
  { s with peers := s.peers.map (fun e => if Nat.beq e.1.1 p then (e.1, e.2.1, e.2.2.1, false) else e) }

/-- "IEEE8021 KEK" and "IEEE8021 ICK", the labels of the MKA key derivation (PRESUMED, log entry 109). -/
def txtKek : List Byte := [73, 69, 69, 69, 56, 48, 50, 49, 32, 75, 69, 75]
def txtIck : List Byte := [73, 69, 69, 69, 56, 48, 50, 49, 32, 73, 67, 75]

/-- A key derived from the CAK of port p's participant, its context the first 16 bytes of the CKN (R118). -/
def mkaKey (s : State) (p : Nat) (label : List Byte) : BitVec 256 :=
  match tabGet s.caks (rd s HID.MKA_CAK p, 0) with
  | none => 0
  | some c => Config.mkaKdf c.cak label ((c.ckn ++ leBytes 16 0).take 16)

/-- The key server distributes a new SAK (R118): its key a draw of the DRBG, wrapped under the KEK. -/
def sakNew (s : State) (p c : Nat) : State :=
  let a := txAnOf s (genNow s) c
  let kn := newestKn s c + 1
  let an := if saOn s c a then (rd s MSC_SA.AN (2 * c + a) + 1) % 4 else 0
  emit (took (sakPlace (peersUnset s p) p c kn an (freeRandom s))) (.mkpdu c (some (kn, Config.keyWrap (mkaKey s p txtKek) (freeRandom s))))

/-- Both copies take association a for channel c: an instant change (R297). -/
def txAnBoth (s : State) (c a : Nat) : State :=
  { s with
    gen0 := { s.gen0 with txAn := tabPut s.gen0.txAn (c, 0) a }
    gen1 := { s.gen1 with txAn := tabPut s.gen1.txAn (c, 0) a } }

/-- Every live peer has the newest SAK: the participant is SECURED, and under ROLL = 0 transmission moves to it and the
old association is released (R297). -/
def mkaSettle (s : State) (p c : Nat) : State :=
  let ps := peersOf s p
  let a := txAnOf s (genNow s) c
  if ps.isEmpty || ps.any (fun e => !e.2.2.2) || newestKn s c == 0 then s
  else
    let s1 := wr s MSC_CHAN.MKA_STATE c 2
    if rd s MSC_CHAN.ROLL c == 0 && saOn s c (1 - a)
        && (!saOn s c a || rd s MSC_SA.KN (2 * c + a) < rd s MSC_SA.KN (2 * c + (1 - a))) then
      saDrop (txAnBoth s1 c (1 - a)) c a
    else s1

/-- MKA_HELLO_TIMER (R296): an MKPDU, with a new SAK where the key server must distribute one. -/
def execMkaHelloTimer (p : Port) (s : State) : Host.Outcome State Fault Refusal :=
  .next (
    match txChan s p.val with
    | none => s
    | some c =>
      if !flag s HID.MKA_ON p.val || !portUp s p.val then s
      else if flag s MSC_CHAN.KEY_SERVER c && needsSak s p.val c then sakNew s p.val c
      else emit s (.mkpdu c none))

/-- The receive channel of a new peer: the one set for its SCI, else the lowest FREE channel of the die; VALIDATE and
WINDOW of a channel MKA creates are free values (log entry 9). -/
def peerChan (s : State) (p c sci : Nat) : Option State :=
  match (chansOf s p 1).find? (fun x => rd s MSC_CHAN.SCI x == sci) with
  | some _ => some s
  | none =>
    if 16 ≤ (chansOf s p 1).length then none
    else
      match (dieChans p).find? (fun x => rd s MSC_CHAN.STATE x == 0) with
      | none => none
      | some x =>
        some (took (wrs s [(MSC_CHAN.STATE, x, 1), (MSC_CHAN.DIR, x, 1), (MSC_CHAN.COFF, x, rd s MSC_CHAN.COFF c),
          (MSC_CHAN.VALIDATE, x, freeNat s % 3), (MSC_CHAN.WINDOW, x, freeNat s / 3 % (2 ^ 30 + 1)),
          (MSC_CHAN.PORT, x, p), (MSC_CHAN.SCI, x, sci)]))

/-- The number of a new peer of port p. -/
def peerSlot (s : State) (p : Nat) : Nat :=
  ((List.range 16).find? (fun n => (tabGet s.peers (p, n)).isNone)).getD 16

/-- A live peer heard: known already, or added; beyond 16 the participant is FAILED (R296). -/
def peerHeard (s : State) (p c : Nat) (m : Mkpdu) : State :=
  match (peersOf s p).find? (fun e => e.2.1 == m.peerSci) with
  | some e => { s with peers := tabPut s.peers (p, e.1) (m.peerSci, m.peerPrio, e.2.2.2 || m.installed) }
  | none =>
    if !m.liveHere then s
    else if 16 ≤ (peersOf s p).length then wr s MSC_CHAN.MKA_STATE c 3
    else
      match peerChan s p c m.peerSci with
      | none => wr s MSC_CHAN.MKA_STATE c 3
      | some t => { t with peers := tabPut t.peers (p, peerSlot s p) (m.peerSci, m.peerPrio, m.installed) }

/-- A SAK the key server distributes, unless it is the newest already, both associations are in use, or it does not unwrap
under the KEK (R118, R297). -/
def sakTake (s : State) (p c : Nat) (m : Mkpdu) : State :=
  match m.newSak with
  | none => s
  | some (kn, an, wrapped) =>
    if flag s MSC_CHAN.KEY_SERVER c || kn ≤ newestKn s c || (saFree s c (txAnOf s (genNow s) c)).isNone
        || !(peersOf s p).any (fun e => e.2.1 == m.peerSci) then s
    else
      match Config.keyUnwrap (mkaKey s p txtKek) wrapped with
      | none => s
      | some key => sakPlace (peersUnset s p) p c (kn % 2 ^ 32) (an % 4) key

/-- The older receive association of a peer is released once it transmits under the newest SAK (R297). -/
def rxRetire (s : State) (p : Nat) (m : Mkpdu) : State :=
  if !m.usesNew then s
  else
    match (chansOf s p 1).find? (fun x => rd s MSC_CHAN.SCI x == m.peerSci) with
    | none => s
    | some x =>
      if !(saOn s x 0 && saOn s x 1) then s
      else saDrop s x (if rd s MSC_SA.KN (2 * x) < rd s MSC_SA.KN (2 * x + 1) then 0 else 1)

/-- What an MKPDU of a member of the connectivity association does. -/
def mkpduTake (s : State) (p c : Nat) (m : Mkpdu) : State :=
  let s1 := mkaElect (peerHeard s p c m) p c
  let s2 := sakTake s1 p c m
  let s3 := if s2.saks == s1.saks || !m.installed then s2
    else { s2 with peers := s2.peers.map (fun e => if Nat.beq e.1.1 p && e.2.1 == m.peerSci then (e.1, e.2.1, e.2.2.1, true) else e) }
  mkaSettle (rxRetire s3 p m) p c

/-- MKPDU_RX (R293, R118): one whose ICV fails is dropped, as is one for a port without a participant. -/
def execMkpduRx (p : Port) (m : Mkpdu) (s : State) : Host.Outcome State Fault Refusal :=
  .next (
    match txChan s p.val with
    | none => s
    | some c => if !flag s HID.MKA_ON p.val || !portUp s p.val || Config.mkaIcv (mkaKey s p.val txtIck) m.body != m.icv then s else mkpduTake s p.val c m)

/-- MKA_LIFE_EXPIRE (R296): the peer and its receive channel go. -/
def execMkaLifeExpire (p : Port) (peerSci : Nat) (s : State) : Host.Outcome State Fault Refusal :=
  .next (
    match (peersOf s p.val).find? (fun e => e.2.1 == peerSci) with
    | none => s
    | some e =>
      let s1 := { s with peers := tabDel s.peers (p.val, e.1) }
      let s2 := match (chansOf s1 p.val 1).find? (fun x => rd s1 MSC_CHAN.SCI x == peerSci) with
        | some x => chanFree s1 x
        | none => s1
      match txChan s2 p.val with
      | none => s2
      | some c =>
        let s3 := mkaElect s2 p.val c
        if (peersOf s3 p.val).isEmpty then wr s3 MSC_CHAN.MKA_STATE c 1 else s3)

/-- The participant of port p stops (R298): its peers go, its channels and associations stay. -/
def mkaStop (s : State) (p : Nat) : State :=
  let s1 := wrs (peersDrop s p) [(HID.MKA_ON, p, 0), (HID.MKA_CAK, p, 0), (HID.MKA_PRIO, p, 0)]
  match txChan s1 p with
  | some c => wrs s1 [(MSC_CHAN.MKA_STATE, c, 0), (MSC_CHAN.KEY_SERVER, c, 0)]
  | none => s1

/-- The participant of port p starts without peers, PENDING (R296, R299). -/
def mkaStart (s : State) (p : Nat) : State :=
  let s1 := wr (peersDrop s p) HID.MKA_ON p 1
  match txChan s1 p with
  | some c => wrs s1 [(MSC_CHAN.MKA_STATE, c, 1), (MSC_CHAN.KEY_SERVER, c, 0)]
  | none => s1

/-- Ports with a participant on a CAK slot. -/
def cakUsers (s : State) (slot : Nat) : List Nat :=
  (List.range 512).filter (fun p => flag s HID.MKA_ON p && rd s HID.MKA_CAK p == slot)

/-! ## The port map (R289, R291, R300) -/

/-- Port p leaves the port map: ABSENT, its registers at zero, its windows stopped, its channels DETACHED (R287, R289,
R291, R300, R487). -/
def portGone (s : State) (p : Nat) : State :=
  let s0 := mkaStop s p
  let s1 := event (wr s0 PRT_STAT.STATE p 0) 3 (0x500 + p / 8) 0 (bytesOf [0x40, p % 256, p / 256])
  let s2 := wrs (portZero s1 p) [(PRT_STAT.FLAPS, p, 0), (PRT_CFG.ADMIN, p, 0), (PRT_CFG.MAX_LEN, p, 9216),
    (PRT_CFG.PFC_RX, p, 0), (PMU_BW.W_US, p, 0), (HID.BW_RX, p, 0), (HID.BW_TX, p, 0), (HID.PRT_REMOTE, p, 0),
    (HID.PRT_HOLD, p, 0)]
  (chansOf s2 p 0 ++ chansOf s2 p 1).foldl (fun t c => wr t MSC_CHAN.STATE c 2) s2

/-! ## Commands (R298) -/

/-- The port an opcode names at 0x10. -/
def opPort (a : Acc) : Nat := opd a 0x10 2

/-- The port map names no such port. -/
def noPort (s : State) (p : Nat) : Bool := 512 ≤ p || (portDef s p).isNone

/-- PORT_ADMIN made: R289 gives the port its state. -/
def portAdminSet (s : State) (p : Nat) (up : Bool) : State := portEval raise false (wr s PRT_CFG.ADMIN p (b2n up)) p

/-- PORT_ADMIN (R289, R298). -/
def opPortAdmin : OpSpec :=
  ⟨0x52, 0, true, false, noBad, fun _ a => [sheafDom (opPort a / 8 % 64)],
    fun s a => invIf (noPort s (opPort a)),
    fun _ a s => .done (portAdminSet s (opPort a) (opdBit a 0x12 0)) rOk⟩

/-- PORT_CLR (R298). -/
def opPortClr : OpSpec :=
  ⟨0x53, 0, false, false, noBad, fun _ a => [sheafDom (opPort a / 8 % 64)],
    fun s a => invIf (noPort s (opPort a)),
    fun _ a s => .done (portZero s (opPort a)) rOk⟩

/-- Channel of the MACsec opcodes. -/
def opChan (a : Acc) : Nat := opd a 0x10 2

/-- Fields of MSC_CHAN_SET. -/
def chanDir (a : Acc) : Nat := b2n (opdBit a 0x12 0)
def chanCoff (a : Acc) : Nat := bitsOf (opdB a 0x12) 1 2
def chanValidate (a : Acc) : Nat := bitsOf (opdB a 0x12) 3 2
def chanWindow (a : Acc) : Nat := opd a 0x20 4
def chanPort (a : Acc) : Nat := opd a 0x14 2

/-- A channel that is not BOUND may not be bound so: its port is none of the die's, or has its channels (R292). -/
def bindBad (s : State) (a : Acc) : Bool :=
  noPort s (chanPort a) || opChan a / 1024 != chanPort a / 64
    || (if chanDir a == 0 then (txChan s (chanPort a)).isSome else 16 ≤ (chansOf s (chanPort a) 1).length)

/-- MSC_CHAN_SET (R292, R298). -/
def opMscChanSet : OpSpec :=
  ⟨0x70, 0, false, false, noBad, fun _ a => [corDom (opChan a / 1024 % 8)],
    fun s a => invIf (8192 ≤ opChan a || chanCoff a == 3 || chanValidate a == 3 || 2 ^ 30 < chanWindow a
      || (rd s MSC_CHAN.STATE (opChan a) != 1 && bindBad s a)),
    fun _ a s =>
      let c := opChan a
      let s1 := wrs s [(MSC_CHAN.COFF, c, chanCoff a), (MSC_CHAN.VALIDATE, c, chanValidate a), (MSC_CHAN.WINDOW, c, chanWindow a)]
      .done (if rd s MSC_CHAN.STATE c == 1 then s1
        else wrs s1 [(MSC_CHAN.STATE, c, 1), (MSC_CHAN.DIR, c, chanDir a), (MSC_CHAN.PORT, c, chanPort a),
          (MSC_CHAN.SCI, c, opd a 0x18 8), (HID.MSC_INC_SCI, c, b2n (opdBit a 0x12 5))]) rOk⟩

/-- A landing that is not FREE names channel c. -/
def chanStaged (s : State) (c : Nat) : Bool :=
  s.cargo.any (fun e => e.2.any (fun a => (a.cmd.opcode == 0x72 || a.cmd.opcode == 0x73) && opChan a == c))

/-- MSC_CHAN_DEL (R298). The participant that used the channel stops with it. -/
def opMscChanDel : OpSpec :=
  ⟨0x71, 0, false, false, noBad, fun _ a => [corDom (opChan a / 1024 % 8)],
    fun s a => if 8192 ≤ opChan a then some (rInv 0) else if chanStaged s (opChan a) then some (rStat .busy) else none,
    fun _ a s =>
      let c := opChan a
      .done (chanFree (if boundTo s (rd s MSC_CHAN.PORT c) 0 c then mkaStop s (rd s MSC_CHAN.PORT c) else s) c) rOk⟩

/-- MSC_TX_AN made in one copy of generational state (R297). -/
def txAnIn (g : GenCopy) (c a : Nat) : GenCopy := { g with txAn := tabPut g.txAn (c, 0) a }

/-- MSC_TX_AN (R297). Without STAGE it changes the current copy (R193). -/
def opMscTxAn : OpSpec :=
  ⟨0x72, 0, true, false, fun _ a => badIf (1 < opdB a 0x12), fun _ a => [corDom (opChan a / 1024 % 8)],
    fun s a => invIf (8192 ≤ opChan a || rd s MSC_CHAN.STATE (opChan a) == 0 || rd s MSC_CHAN.DIR (opChan a) == 1
      || !saOn s (opChan a) (opdB a 0x12)),
    fun _ a s => .done (setGen s (genNow s) (txAnIn (curGen s) (opChan a) (opdB a 0x12))) rOk⟩

/-- MSC_RX_RETIRE (R298). -/
def opMscRxRetire : OpSpec :=
  ⟨0x73, 0, true, false, fun _ a => badIf (1 < opdB a 0x12), fun _ a => [corDom (opChan a / 1024 % 8)],
    fun s a => invIf (8192 ≤ opChan a || rd s MSC_CHAN.STATE (opChan a) == 0 || rd s MSC_CHAN.DIR (opChan a) == 0),
    fun _ a s => .done (saDrop s (opChan a) (opdB a 0x12)) rOk⟩

/-- CAK slot, priority, COFF and ROLL of MKA_SET. -/
def mkaSlot (a : Acc) : Nat := opd a 0x12 2

/-- MKA_SET (R296). -/
def opMkaSet : OpSpec :=
  ⟨0x74, 0, false, false, noBad, noTargets,
    fun s a => invIf (noPort s (opPort a) || 1024 ≤ mkaSlot a || (tabGet s.caks (mkaSlot a, 0)).isNone
      || bitsOf (opdB a 0x15) 0 2 == 3 || (txChan s (opPort a)).isNone),
    fun _ a s =>
      let p := opPort a
      let s1 := wrs s [(HID.MKA_CAK, p, mkaSlot a), (HID.MKA_PRIO, p, opdB a 0x14)]
      let s2 := mkaStart s1 p
      .done (match txChan s2 p with
        | some c => wrs s2 [(MSC_CHAN.COFF, c, bitsOf (opdB a 0x15) 0 2), (MSC_CHAN.ROLL, c, b2n (opdBit a 0x15 2))]
        | none => s2) rOk⟩

/-- MKA_DEL (R298). -/
def opMkaDel : OpSpec :=
  ⟨0x75, 0, false, false, noBad, noTargets, fun s a => invIf (noPort s (opPort a)),
    fun _ a s => .done (mkaStop s (opPort a)) rOk⟩

/-- A CAK_INSTALL buffer out of its ranges (R299). -/
def cakBad (b : List Byte) : Bool :=
  b.length != 88 || 1023 < leAt b 0 2 || leAt b 2 1 == 0 || 32 < leAt b 2 1 || leAt b 3 1 != 0
    || !allZero (sliceOf b (4 + leAt b 2 1) (32 - leAt b 2 1)) || leAt b 0x54 4 != 0

/-- CAK_INSTALL (R299). -/
def opCakInstall : OpSpec :=
  ⟨0x7E, 1, false, false, fun _ a => badIf (cakBad a.cmd.buf), noTargets, fun s _ => invIf (noKeySteps s),
    fun r a s =>
      match openSecret r a (sliceOf a.cmd.buf 0x24 32) (sliceOf a.cmd.buf 0x44 16) with
      | none => .done s (rInv 0)
      | some key =>
        let n := opdBuf a 0 2
        let users := cakUsers s n
        let c : Cak := ⟨BitVec.ofNat 256 (leVal key), sliceOf a.cmd.buf 4 (opdBuf a 2 1)⟩
        let s1 := keyStep { s with caks := tabPut s.caks (n, 0) c }
        .done (audit (users.foldl mkaStart s1) 7 a.role a.cred a.handle 0x7E 0 (leBytes 2 n)) rOk⟩

/-- CAK_DELETE (R298). -/
def opCakDelete : OpSpec :=
  ⟨0x7F, 0, false, false, fun _ a => badIf (1023 < opd a 0x10 2), noTargets,
    fun s a => invIf ((tabGet s.caks (opd a 0x10 2, 0)).isSome && noKeySteps s),
    fun _ a s =>
      let n := opd a 0x10 2
      if (tabGet s.caks (n, 0)).isNone then .done s rOk
      else
        let s1 := keyStep { s with caks := tabDel s.caks (n, 0) }
        .done (audit ((cakUsers s n).foldl mkaStop s1) 7 a.role a.cred a.handle 0x7F 0 (leBytes 2 n)) rOk⟩

def execPortAdmin (r : Ring) (s : State) : Host.Outcome State Fault Refusal := .next (dispatch opPortAdmin r.val s)
def execPortClr (r : Ring) (s : State) : Host.Outcome State Fault Refusal := .next (dispatch opPortClr r.val s)
def execMscChanSet (r : Ring) (s : State) : Host.Outcome State Fault Refusal := .next (dispatch opMscChanSet r.val s)
def execMscChanDel (r : Ring) (s : State) : Host.Outcome State Fault Refusal := .next (dispatch opMscChanDel r.val s)
def execMscTxAn (r : Ring) (s : State) : Host.Outcome State Fault Refusal := .next (dispatch opMscTxAn r.val s)
def execMscRxRetire (r : Ring) (s : State) : Host.Outcome State Fault Refusal := .next (dispatch opMscRxRetire r.val s)
def execMkaSet (r : Ring) (s : State) : Host.Outcome State Fault Refusal := .next (dispatch opMkaSet r.val s)
def execMkaDel (r : Ring) (s : State) : Host.Outcome State Fault Refusal := .next (dispatch opMkaDel r.val s)
def execCakInstall (r : Ring) (s : State) : Host.Outcome State Fault Refusal := .next (dispatch opCakInstall r.val s)
def execCakDelete (r : Ring) (s : State) : Host.Outcome State Fault Refusal := .next (dispatch opCakDelete r.val s)

end Sys2Proof.Machine
end

