-- ==== Sys2Proof/Machine/Images.lean ====
section
/-! DEFINITION. Structure images (R302 to R321): the container and its checks, the load context, what a load puts in
force, image slots and keys, and GAL_ASSIGN. Firing of a staged load stands in Fire.lean. -/

namespace Sys2Proof.Machine

/-! ## The container (R304) -/

def imgLen (b : List Byte) : Nat := leAt b 12 4
def imgRows (b : List Byte) : Nat := leAt b 7 1
/-- Offset of the signature block, and of what follows it. -/
def imgSig (b : List Byte) : Nat := 0x40 + 80 * imgRows b
def imgHeadEnd (b : List Byte) : Nat := imgSig b + 128

/-- Bytes of entry i of the region table. -/
def rowBytes (b : List Byte) (i : Nat) : List Byte := sliceOf b (0x40 + 80 * i) 80

/-- Entry i of the region table. -/
def rowOf (b : List Byte) (i : Nat) : ImgRow :=
  let e := rowBytes b i
  { id := leAt e 0 2, present := bitOf (leAt e 2 1) 0, offset := leAt e 4 4, length := leAt e 8 4, revision := leAt e 12 4,
    depends := (List.range 8).map (fun k => leAt e (16 + 2 * k) 2), digest := BitVec.ofNat 384 (leAt e 0x20 48) }

/-- The header and region table. -/
def headOf (b : List Byte) : ImgHead :=
  { partialImg := bitOf (leAt b 6 1) 0, svn := leAt b 8 4, length := imgLen b, imageId := leAt b 0x10 8, baseId := leAt b 0x18 8,
    sigKey := leAt b 0x23 1, encKey := leAt b 0x24 1, ivBase := sliceOf b 0x28 8, minFrame := leAt b 0x30 8,
    rows := (List.range (imgRows b)).map (rowOf b) }

/-- A region ID the table of R302 defines. -/
def regionIdOk (id : Nat) : Bool :=
  let ty := id / 256
  (1 ≤ ty && ty ≤ 3 && id % 256 ≤ 7) || (4 ≤ ty && ty ≤ 8 && id % 256 == 0)

/-- A region table entry that breaks check 2 by itself. -/
def rowBad (b : List Byte) (i : Nat) : Bool :=
  let r := rowOf b i
  let e := rowBytes b i
  1 < leAt e 2 1 || leAt e 3 1 != 0 || !regionIdOk r.id
    || (if r.present then r.offset % 16 != 0 || r.offset < imgHeadEnd b || r.length < 16 || imgLen b < r.offset + r.length
        else r.offset != 0 || r.length != 0)

/-- Two entries name one region or overlap. -/
def rowsClash (x y : ImgRow) : Bool :=
  x.id == y.id || (x.present && y.present && x.offset < y.offset + y.length && y.offset < x.offset + x.length)

/-- The rows of the table, each with its index. -/
def rowList (h : ImgHead) : List (Nat × ImgRow) := (List.range h.rows.length).zip h.rows

/-- The lowest index whose region breaks check 2. -/
def rowFail (b : List Byte) (h : ImgHead) : Option Nat :=
  ((rowList h).find? (fun p => rowBad b p.1 || (h.rows.take p.1).any (rowsClash p.2))).map (·.1)

/-- A header or signature block that breaks check 2. -/
def headBad (b : List Byte) : Bool :=
  leAt b 4 2 != 1 || imgLen b < imgHeadEnd b || 0x7000000 < imgLen b || imgRows b == 0 || 64 < imgRows b || 1 < leAt b 6 1
    || 1 < leAt b 0x22 1 || 3 < leAt b 0x23 1 || 3 < leAt b 0x24 1 || leAt b 0x25 3 != 0 || leAt b 0x3C 4 != 0
    || leAt b (imgSig b) 1 != leAt b 0x23 1 || !allZero (sliceOf b (imgSig b + 1) 31)

/-- A failed check: its code and the index of the region at fault, 0xFF none (R311). -/
abbrev ImgFail := Nat × Nat

/-- Checks 1 to 5 (R311). -/
def imgCheckHead (s : State) (b : List Byte) : Option ImgFail :=
  let h := headOf b
  if leAt b 0 4 != 0x49534C43 then some (1, 0xFF)
  else if headBad b then some (2, 0xFF)
  else
    match rowFail b h with
    | some i => some (2, i)
    | none =>
      if leAt b 0x20 2 != 0x512 || leAt b 0x22 1 != 1 then some (8, 0xFF)
      else
        match tabGet s.siVerify (h.sigKey, 0), tabGet s.siDecrypt (h.encKey, 0) with
        | some pub, some _ =>
          if !Config.ecdsaVerify pub (b.take (imgSig b)) (sliceOf b (imgSig b + 32) 96) then some (4, 0xFF)
          else if h.svn < rd s HID.SI_MIN_SVN 0 then some (3, 0xFF)
          else none
        | _, _ => some (9, 0xFF)

/-- Plaintext of a body (R305). -/
def openBody (s : State) (b : List Byte) (h : ImgHead) (i : Nat) (r : ImgRow) : Option (List Byte) :=
  if b.length < r.offset + r.length then none
  else
    match tabGet s.siDecrypt (h.encKey, 0) with
    | none => none
    | some key =>
      Config.gcmOpen key (h.ivBase ++ leBytes 2 r.id ++ bytesOf [0, 0]) ((rowBytes b i).take 32)
        (sliceOf b r.offset (r.length - 16)) (sliceOf b (r.offset + r.length - 16) 16)

/-- Checks 6 and 7 on one body: the region, or the failure. -/
def imgCheckBody (s : State) (b : List Byte) (h : ImgHead) (i : Nat) (r : ImgRow) : Region ⊕ ImgFail :=
  match openBody s b h i r with
  | none => .inr (5, i)
  | some p =>
    if Config.sha384 p != r.digest then .inr (7, i)
    else .inl ⟨r.revision, r.depends, r.digest, p⟩

/-- Checks 6 and 7 on the bodies of a list of entries, beside those already open. -/
def imgCheckBodies (s : State) (b : List Byte) (h : ImgHead) : List (Nat × ImgRow) → Tab Region → Tab Region ⊕ ImgFail
  | [], acc => .inl acc
  | e :: t, acc =>
    match imgCheckBody s b h e.1 e.2 with
    | .inr f => .inr f
    | .inl x => imgCheckBodies s b h t (tabPut acc (e.2.id, 0) x)

/-! ## What the regions say -/

/-- The tables a TABLES body declares (R346). -/
def tablesIn (body : List Byte) : Tab TableDef :=
  (Config.tableMap body).foldl (fun t e =>
    match e with
    | (id, kind, kb, place, cap, slot, pin, pins) => tabPut t (id, 0) ⟨kind, kb, place, cap, slot, pin, pins⟩) []

/-- The ports a PORT_MAP body defines, by p = 8s + i0 (R286, R287). -/
def portsIn (body : List Byte) : Tab PortDef :=
  (Config.portMap body).foldl (fun t e => match e with | (sh, i0, w, f) => tabPut t (8 * sh + i0, 0) ⟨w, f⟩) []

/-- The queues a QUEUE_MAP body names (R369). -/
def queuesIn (body : List Byte) : Tab QTarget :=
  (Config.queueMap body).foldl (fun t e => match e with | (q, r, n) => tabPut t (q, 0) (if r then .repl n else .port n)) []

/-- Profiles and galleries a GALLERY_MAP body gives the sheaves (R302). -/
def profilesIn (body : List Byte) : Tab Nat :=
  (Config.galleryMap body).foldl (fun t e => match e with | (sh, p, _) => tabPut t (sh, 0) p) []
def assignIn (body : List Byte) : Tab Nat :=
  (Config.galleryMap body).foldl (fun t e => match e with | (sh, _, g) => tabPut t (sh, 0) g) []

/-- The body of a region of a result. -/
def bodyIn (rs : Tab Region) (id : Nat) : List Byte :=
  match tabGet rs (id, 0) with
  | some r => r.body
  | none => []

/-- A table of the new image is the old one: same ID, kind, key format and placement (R310, R314). -/
def sameTable (old : GenCopy) (t : Nat) (d : TableDef) : Bool :=
  match tabGet old.tables (t, 0) with
  | some o => o.kind == d.kind && o.keyBytes == d.keyBytes && o.place == d.place
  | none => false

/-! ## Table limits (R349) -/

def isV6 (d : TableDef) : Bool := d.keyBytes == 8
/-- Slots of an EXACT table. -/
def exactSlots (d : TableDef) : Nat := (5 * d.capacity + 3) / 4
/-- Bytes of one staircase leaf share, and of the treads above it, per prefix. -/
def leafBytes (d : TableDef) : Nat := if isV6 d then 32 else 16
def treadBytes (d : TableDef) : Nat := if isV6 d then 4 else 1

/-- Treads above the leaves, leaves held in SRAM, prefixes, ternary rows of 160 bits, bytes of one table. -/
def treadUse (d : TableDef) : Nat := if d.kind == 1 then d.capacity * treadBytes d else 0
def leafUse (d : TableDef) : Nat :=
  if d.kind != 1 then 0 else if d.place == 0 then d.capacity * leafBytes d else d.pinned * leafBytes d
def prefixUse (d : TableDef) : Nat := if d.kind == 1 then d.capacity else 0
def ternUse (d : TableDef) : Nat := if d.kind == 3 then d.capacity * (d.keyBytes / 20) else 0
def sramUse (d : TableDef) : Nat :=
  match d.kind with
  | 1 => treadUse d + leafUse d + 524288
  | 2 => if d.place == 0 then exactSlots d * d.slot else 2 * d.capacity
  | 4 => (d.capacity * (8 + d.slot) + 63) / 64 * 64
  | _ => 0
def granaryUse (d : TableDef) : Nat :=
  if d.place == 0 then 0
  else if d.kind == 1 then (d.capacity - d.pinned) * leafBytes d
  else exactSlots d * d.slot

/-- A declaration R346 and R348 allow. -/
def tableOk (e : Key × TableDef) : Bool :=
  let d := e.2
  decide (e.1.1 ≤ 254) && decide (d.pinned ≤ d.capacity) &&
    (match d.kind with
    | 1 => (d.keyBytes == 4 || d.keyBytes == 8) && decide (d.place ≤ 1) && (d.place == 1 || d.pinned == 0)
    | 2 => decide (1 ≤ d.keyBytes) && decide (d.keyBytes ≤ 64) && decide (d.place ≤ 1) && [16, 32, 64].contains d.slot
        && decide (d.keyBytes ≤ d.slot) && d.pinned == 0
    | 3 => [20, 40, 60].contains d.keyBytes && d.place == 0 && d.pinned == 0
    | 4 => decide (1 ≤ d.keyBytes) && decide (d.keyBytes ≤ 3) && d.place == 0 && decide (d.slot ≤ 64) && d.pinned == 0
    | _ => false)

/-- A sum over the tables. -/
def sumUse (ts : Tab TableDef) (f : TableDef → Nat) : Nat := (tabVals ts).foldl (fun n d => n + f d) 0

/-- Granary stacks in service (R90). -/
def granaryStacks (s : State) : Nat :=
  b2n (rd s MEM_CTRL_STAT.STATE 8 == 1) + b2n (rd s MEM_CTRL_STAT.STATE 9 == 1)

/-- The limits of R349 hold. -/
def tablesFit (s : State) (body : List Byte) : Bool :=
  let ts := tablesIn body
  let n := Config.counterSpace body
  ts.length == (Config.tableMap body).length && decide (ts.length ≤ 255) && ts.all tableOk
    && decide (sumUse ts prefixUse ≤ 33554432) && decide (sumUse ts treadUse ≤ 67108864) && decide (sumUse ts leafUse ≤ 67108864)
    && decide (sumUse ts ternUse ≤ 131072) && decide (sumUse ts sramUse ≤ 96468992) && decide (n ≤ 33554432)
    && decide (sumUse ts granaryUse + 16 * n ≤ (if granaryStacks s == 1 then 47000000000 else 95000000000))

/-! ## Checks 8 to 11 (R311) -/

/-- Region table index of a region, 0xFF if it has none. -/
def idxOf (h : ImgHead) (id : Nat) : Nat := (((rowList h).find? (fun p => p.2.id == id)).map (·.1)).getD 0xFF

/-- The regions that would be in force: present bodies, and for a partial image those it keeps (R312). -/
def resultOf (s : State) (h : ImgHead) (bodies : Tab Region) : Tab Region :=
  h.rows.foldl (fun t r =>
    if r.present then tabSet t (r.id, 0) (tabGet bodies (r.id, 0))
    else
      match tabGet (curGen s).regions (r.id, 0) with
      | some o => tabPut t (r.id, 0) { o with revision := r.revision, depends := r.depends }
      | none => t) []

/-- An entry without a body that R312 does not allow. -/
def keptBad (s : State) (h : ImgHead) (r : ImgRow) : Bool :=
  !r.present && (!h.partialImg ||
    (match tabGet (curGen s).regions (r.id, 0) with
    | some o => o.digest != r.digest
    | none => true))

/-- Regions R302 requires: one of each single type, and the triple of each profile named. -/
def required (rs : Tab Region) : List Nat :=
  [0x400, 0x500, 0x600, 0x700, 0x800] ++
    (tabVals (profilesIn (bodyIn rs 0x700))).flatMap (fun n => [0x100 + n, 0x200 + n, 0x300 + n])

/-- Check 8. -/
def imgCheck8 (s : State) (staged : Bool) (h : ImgHead) (rs : Tab Region) : Option ImgFail :=
  match (rowList h).find? (fun p => p.2.present && !Config.bodyFormed p.2.id (bodyIn rs p.2.id)) with
  | some p => some (14, p.1)
  | none =>
    if h.partialImg && (!staged || !imageOn s || h.baseId != rd s GLB_SI_INFO.IMAGE_ID 0) then some (11, 0xFF)
    else
      match (rowList h).find? (fun p => keptBad s h p.2 || p.2.depends.any (fun d => d != 0xFFFF && idxOf h d == 0xFF)) with
      | some p => some (11, p.1)
      | none => if (required rs).any (fun id => (tabGet rs (id, 0)).isNone) then some (11, 0xFF) else none

/-- The profile n is present in a result and does not fit a gallery (R330). -/
def profileBad (rs : Tab Region) (n : Nat) : Bool :=
  (tabGet rs (0x200 + n, 0)).isSome
    && !Config.profileFits (bodyIn rs (0x100 + n)) (bodyIn rs (0x200 + n)) (bodyIn rs (0x300 + n))

/-- Check 9. -/
def imgCheck9 (s : State) (staged : Bool) (h : ImgHead) (rs : Tab Region) : Option ImgFail :=
  match (List.range 8).find? (profileBad rs) with
  | some n => some (10, idxOf h (0x200 + n))
  | none =>
    let body := bodyIn rs 0x400
    let changed := (tablesIn body).any (fun e => (tabGet (curGen s).tables e.1).isSome && !sameTable (curGen s) e.1.1 e.2)
    if !tablesFit s body || (staged && changed) then some (10, idxOf h 0x400) else none

/-- Two ports share a lane. -/
def portsClash (x y : Nat × Nat × Nat × Nat) : Bool :=
  8 * x.1 + x.2.1 < 8 * y.1 + y.2.1 + y.2.2.1 && 8 * y.1 + y.2.1 < 8 * x.1 + x.2.1 + x.2.2.1

/-- A port breaks R286 by itself. -/
def portBad (e : Nat × Nat × Nat × Nat) : Bool :=
  match e with
  | (sh, i0, w, f) => 63 < sh || !([1, 2, 4, 8].contains w) || i0 % w != 0 || 8 < i0 + w || f == 0 || 3 < f

/-- A port map breaks R286. -/
def portMapBad : List (Nat × Nat × Nat × Nat) → Bool
  | [] => false
  | e :: t => portBad e || t.any (portsClash e) || portMapBad t

/-- A queue of the queue map breaks check 10: its port is undefined or lies in the other hall (R19). -/
def queueBad (ports : Tab PortDef) (e : Nat × Bool × Nat) : Bool :=
  match e with
  | (q, r, n) => 1048576 ≤ q || (if r then decide (65536 ≤ n) else (tabGet ports (n, 0)).isNone || n / 256 != hallOf q)

/-- Check 10. -/
def imgCheck10 (h : ImgHead) (rs : Tab Region) : Option ImgFail :=
  if portMapBad (Config.portMap (bodyIn rs 0x500)) then some (12, idxOf h 0x500)
  else if (Config.queueMap (bodyIn rs 0x600)).any (queueBad (portsIn (bodyIn rs 0x500))) then some (12, idxOf h 0x600)
  else none

/-- Gallery g may serve sheaf sh: a gallery of the die joined to its line die (R18). -/
def galFits (sh g : Nat) : Bool := decide (sh < 64) && decide (g < 68) && galDie g == sh / 16

/-- The galleries of die d cannot be in service: gallery g is held, or the die's line dies are (R90). -/
def galHeld (s : State) (g : Nat) : Bool :=
  rd s PWR_DOM.HELD (galDom g) != 0
    || (List.range 16).all (fun i => rd s PWR_DOM.HELD (sheafDom (16 * galDie g + i)) != 0)

/-- A gallery map breaks R18, names a sheaf or a gallery twice, or places a gallery on a held domain. -/
def galMapBad (s : State) : List (Nat × Nat × Nat) → Bool
  | [] => false
  | e :: t =>
    match e with
    | (sh, p, g) => 7 < p || !galFits sh g || galHeld s g || t.any (fun x => x.1 == sh || x.2.2 == g) || galMapBad s t

/-- Check 11. -/
def imgCheck11 (s : State) (h : ImgHead) (rs : Tab Region) : Option ImgFail :=
  if galMapBad s (Config.galleryMap (bodyIn rs 0x700)) then some (13, idxOf h 0x700)
  else if granaryStacks s == 0 && (tabVals (tablesIn (bodyIn rs 0x400))).any (fun d => d.place == 1) then
    some (13, idxOf h 0x400)
  else none

/-- The first of several failures. -/
def firstFail : List (Option ImgFail) → Option ImgFail
  | [] => none
  | some f :: _ => some f
  | none :: t => firstFail t

/-- Checks 8 to 11 of the regions that would be in force: the regions, or the failure. -/
def imgCheckResult (s : State) (staged : Bool) (h : ImgHead) (bodies : Tab Region) : Tab Region ⊕ ImgFail :=
  let rs := resultOf s h bodies
  match firstFail [imgCheck8 s staged h rs, imgCheck9 s staged h rs, imgCheck10 h rs, imgCheck11 s h rs] with
  | some f => .inr f
  | none => .inl rs

/-- The present entries of a table. -/
def presentRows (h : ImgHead) : List (Nat × ImgRow) := (rowList h).filter (fun p => p.2.present)

/-- All checks of a whole image (R311). -/
def imgCheckAll (s : State) (staged : Bool) (b : List Byte) : (ImgHead × Tab Region) ⊕ ImgFail :=
  match imgCheckHead s b with
  | some f => .inr f
  | none =>
    let h := headOf b
    match imgCheckBodies s b h (presentRows h) [] with
    | .inr f => .inr f
    | .inl bodies =>
      match imgCheckResult s staged h bodies with
      | .inr f => .inr f
      | .inl rs => .inl (h, rs)

/-! ## What a load puts in force (R310, R314) -/

/-- The copy a set of regions makes from another copy. -/
def copyWith (cold : Bool) (c : GenCopy) (rs : Tab Region) : GenCopy :=
  let tb := bodyIn rs 0x400
  let ts := tablesIn tb
  let keep := fun (t : Nat) =>
    match tabGet ts (t, 0) with
    | some d => sameTable c t d
    | none => false
  { c with
    regions := rs
    tables := ts
    entries := c.entries.filter (fun e => keep e.table)
    defaults := c.defaults.filter (fun e => keep e.1.1)
    cntN := Config.counterSpace tb
    ports := portsIn (bodyIn rs 0x500)
    queues := queuesIn (bodyIn rs 0x600)
    profiles := profilesIn (bodyIn rs 0x700)
    assign := if cold then assignIn (bodyIn rs 0x700) else c.assign }

/-- Frames at the MAC of a port whose lanes changed are discarded, counted at the port they belonged to (R291). -/
def regroup (s : State) (p : Nat) : State :=
  let n := (s.pkts.filter (fun k => k.loc == .toMac p)).length
  if n == 0 then s else perfPort (bumpBy (portCut s p) PRT_MAC_ERR.REGROUP p n) p 0x34 4 n

/-- The port map in force has changed from an old one: ports that are new, gone or regrouped (R289, R291). -/
def portsTake (s : State) (old : Tab PortDef) : State :=
  forEach (List.range 512) s (fun p t =>
    let now := tabGet (curGen t).ports (p, 0)
    let was := tabGet old (p, 0)
    if now == was then (if now.isNone then t else portEval raise false t p)
    else
      let t1 := if was.isSome then regroup t p else t
      if now.isNone then portGone t1 p else portEval raise false t1 p)

/-- A queue the map newly names starts with the settings of R369. -/
def queuesTake (s : State) (old : Tab QTarget) : State :=
  { s with queues := s.queues.filter (fun e => (tabGet old e.1).isSome) }

/-- What GLB_SI_INFO shows of the image in force (R321). -/
def imgShow (s : State) (h : ImgHead) (slot : Nat) : State :=
  wrs s [(GLB_SI_INFO.IMAGE_ID, 0, h.imageId), (GLB_SI_INFO.SVN, 0, h.svn), (GLB_SI_INFO.REGIONS, 0, h.rows.length),
    (GLB_SI_INFO.MIN_FRAME, 0, h.minFrame), (GLB_BOOT_STAT.SI_SLOT, 0, slot)]

/-- Gallery g takes the state GALLERY_MAP gives it as the galleries restart (R310, R340); one that sleeps is woken. -/
def galRestart (s : State) (g : Nat) : State :=
  if rd s GAL_STAT.STATE g == 5 then s
  else
    match (curGen s).assign.find? (fun e => e.2 == g) with
    | none => wrs s [(GAL_STAT.STATE, g, 1), (GAL_STAT.SHEAF_VALID, g, 0), (GAL_STAT.PROFILE, g, 0)]
    | some e =>
      let s1 := wrs s [(GAL_STAT.STATE, g, 2), (GAL_STAT.SHEAF, g, e.1.1), (GAL_STAT.SHEAF_VALID, g, 1),
        (GAL_STAT.PROFILE, g, (tabGet (curGen s).profiles e.1).getD 0)]
      if domSt s1 (galDom g) == 0 then s1 else domMove s1 (galDom g) 0 0

/-- Every gallery that is not FAILED halts; a slice that tests one is aborted (R340, R310). -/
def galHaltAll (s : State) : State :=
  forEach (List.range 68) s (fun g t =>
    let t1 := if rd t GAL_STAT.STATE g == 4 then abortSlice raise t 0 (2 * g) else t
    if rd t1 GAL_STAT.STATE g == 5 then t1 else wr t1 GAL_STAT.STATE g 0)

/-- Both copies of generational state set. -/
def bothGens (s : State) (c : GenCopy) : State := { s with gen0 := c, gen1 := c }

/-- A sheaf mapped to a FAILED gallery has none. -/
def dropFailed (s : State) (c : GenCopy) : GenCopy :=
  { c with assign := c.assign.filter (fun e => rd s GAL_STAT.STATE e.2 != 5) }

/-- A cold load takes effect (R310). -/
def coldApply (s : State) (h : ImgHead) (rs : Tab Region) (slot : Nat) : State :=
  let old := curGen s
  let s1 := galHaltAll s
  let s2 := dropAll s1 0x18 s1.pkts
  let c := copyWith true old rs
  let s3 := queuesTake (bothGens s2 (dropFailed s2 c)) old.queues
  let s4 := { s3 with poison := s3.poison.filter (fun e => (tabGet c.tables (e.1.1, 0)).any (sameTable old e.1.1)) }
  let s5 := portsTake (forEach (List.range 68) (imgShow s4 h slot) (fun g t => galRestart t g)) old.ports
  if rd s5 GLB_BOOT_STAT.STAGE 0 == 3 then wr s5 GLB_BOOT_STAT.STAGE 0 4 else s5

/-- The audit entry of a load (R119): its DETAIL is the image's identity. -/
def imgAudit (s : State) (role cred handle opcode imageId : Nat) : State :=
  audit s 9 role cred handle opcode 0 (leBytes 8 imageId)

/-! ## The load context (R309) -/

/-- The image items of a landing leave its cargo. -/
def cargoDropImage (s : State) (id : Option Nat) : State :=
  match id with
  | none => s
  | some l =>
    match slotOf s l with
    | none => s
    | some n =>
      let keep := (cargoOf s n).filter (fun a => !(0x40 ≤ a.cmd.opcode && a.cmd.opcode ≤ 0x42))
      wrs { s with cargo := tabPut s.cargo (n, 0) keep }
        [(LND_SLOT.ITEMS, n, keep.length), (LND_SLOT.GENL, n, b2n (keep.any genItem))]

/-- The slot of the landing the context is bound to. -/
def ctxSlot (s : State) (x : SiCtx) : Option Nat := x.landing.bind (slotOf s)

/-- An image item joins the cargo of the landing the context is bound to (R313); its own entry's bytes are kept, for they
are what the digest covers (R186). -/
def cargoAddImage (s : State) (x : SiCtx) (a : Acc) : State :=
  match ctxSlot s x with
  | none => s
  | some n => stageAt s n a

/-- One more image item would pass the limits of R187. -/
def ctxOver (s : State) (x : SiCtx) (a : Acc) : Option Reply :=
  match ctxSlot s x with
  | some n => if cargoFull s n a then some (rStat .busy) else none
  | none => none

/-- The context is discarded with the regions it staged (R309). -/
def ctxEnd (s : State) (x : SiCtx) : State := ctxDrop (cargoDropImage s x.landing)

/-- A check fails: the context closes, and the code is shown (R309, R311). -/
def ctxFail (s : State) (x : SiCtx) (f : ImgFail) : State :=
  wrs (ctxEnd s x) [(GLB_SI_STAT.REASON, 0, f.1), (GLB_SI_STAT.REGION, 0, f.2)]

/-- The completion of a failed check (R311). -/
def imgReply (f : ImgFail) : Reply := rInv (f.1 + 256 * f.2)

/-- The image loaded from a source stands in this slot: 0 A, 1 B, 2 HOST. -/
def slotFrom (source : Nat) : Nat := if source == 0 then 2 else source - 1

/-- A load that passed every check: a cold one takes effect, a staged one becomes STAGED (R310, R313). -/
def ctxPass (s : State) (x : SiCtx) (a : Acc) (h : ImgHead) (rs : Tab Region) : State :=
  match x.landing with
  | none => imgAudit (coldApply (ctxDrop s) h rs (slotFrom x.source)) a.role a.cred a.handle a.cmd.opcode h.imageId
  | some _ => wr { s with siCtx := some { x with head := some h, result := some rs } } GLB_SI_STAT.CTX 0 3

/-- Another landing that is not FREE carries regions (R309). -/
def regionsStaged (s : State) : Bool := s.cargo.any (fun e => e.2.any (fun a => a.cmd.opcode == 0x40))

/-- SI_OPEN (R309, R310). -/
def opSiOpen : OpSpec :=
  ⟨0x40, 0, true, false, fun _ a => badIf (2 < opdB a 0x10), noTargets,
    fun s a =>
      if rd s GLB_BOOT_STAT.STAGE 0 < 3 || rd s GLB_SI_STAT.CTX 0 != 0 then some (rStat .busy)
      else if a.cmd.stage then (if regionsStaged s then some (rStat .busy) else none)
      else if imageOn s && !opdBit a 0x11 0 then some (rInv 0)
      else if !(slotsUsed s).isEmpty || flag s LND_STATUS.OLD_LIVE 0 then some (rStat .busy)
      else none,
    fun r a s =>
      let x : SiCtx := ⟨a.handle, if a.cmd.stage then some a.cmd.landing else none, opdB a 0x10, opdBit a 0x11 0, r, [], none,
        [], none⟩
      let s1 := wrs { (if a.cmd.stage then stageItem s a else s) with siCtx := some x }
        [(GLB_SI_STAT.CTX, 0, if x.source == 0 then 1 else 2), (GLB_SI_STAT.SOURCE, 0, x.source),
         (GLB_SI_STAT.LANDING, 0, if a.cmd.stage then a.cmd.landing else 0)]
      if x.source == 0 then .done s1 rOk else .wait s1 (if a.cmd.stage then [1] else [])⟩

/-- A slot's image: LENGTH bytes of it. -/
def slotImage (s : State) (slot : Nat) : List Byte :=
  let b := (tabGet s.flash (4 + slot, 0)).getD []
  b.take (imgLen b)

/-- SI_FLASH_READ_DONE (R309): the slot of the context's SI_OPEN has been read; it is verified and the command completes. -/
def execSiFlashReadDone (readOk : Bool) (s : State) : Host.Outcome State Fault Refusal :=
  .next (
    match s.siCtx, s.running.find? (waitsOn 0x40 []) with
    | some x, some w =>
      let b := slotImage s (x.source - 1)
      let s1 := dropRun s w.ring w.acc.cmd.tag
      match (if readOk then imgCheckAll s1 x.landing.isSome b else .inr (6, 0xFF)) with
      | .inr f => finish (ctxFail s1 x f) w.ring w.acc (imgReply f)
      | .inl (h, rs) => finish (ctxPass s1 { x with bytes := b } w.acc h rs) w.ring w.acc rOk
    | _, _ => s)

/-- The context as it is after a piece has arrived: its header once the signature block is complete, and the bodies
that are complete (R311); or the failure. A piece that runs past LENGTH fails check 2, which stands before checks 3 to 7
(R309). -/
def ctxTake (s : State) (x : SiCtx) : SiCtx ⊕ ImgFail :=
  let n := x.bytes.length
  let withHead : SiCtx ⊕ ImgFail :=
    match x.head with
    | some _ => .inl x
    | none =>
      if n < 0x40 || n < imgHeadEnd x.bytes then .inl x
      else
        match imgCheckHead s x.bytes with
        | some f => .inr (if imgLen x.bytes < n && 2 < f.1 then (2, 0xFF) else f)
        | none => .inl { x with head := some (headOf x.bytes) }
  match withHead with
  | .inr f => .inr f
  | .inl y =>
    match y.head with
    | none => .inl y
    | some h =>
      if h.length < n then .inr (2, 0xFF)
      else
        let due := (presentRows h).filter (fun p => p.2.offset + p.2.length ≤ n && (tabGet y.bodies (p.2.id, 0)).isNone)
        match imgCheckBodies s y.bytes h due y.bodies with
        | .inr f => .inr f
        | .inl bs => .inl { y with bodies := bs }

/-- A context command of a session that does not own the context, or with none open (R309). -/
def ctxOwn (s : State) (a : Acc) (none' : Option Reply) : Option Reply :=
  match s.siCtx with
  | none => none'
  | some x => if x.handle != a.handle then some (rStat .denied) else none

/-- SI_PUT (R309, R311). -/
def opSiPut : OpSpec :=
  ⟨0x41, 1, false, false, noBad, noTargets,
    fun s a => firstOf [ctxOwn s a (some (rInv 0)),
      match s.siCtx with
      | some x => firstOf [invIf (rd s GLB_SI_STAT.CTX 0 != 1 || opd a 0x1C 4 != x.bytes.length), ctxOver s x a]
      | none => none],
    fun _ a s =>
      match s.siCtx with
      | none => .done s (rInv 0)
      | some x =>
        let y := { x with bytes := x.bytes ++ a.cmd.buf }
        match ctxTake s y with
        | .inr f => .done (ctxFail s x f) (imgReply f)
        | .inl z => .done { cargoAddImage s x a with siCtx := some z } rOk⟩

/-- The context has all its bytes. -/
def ctxFull (x : SiCtx) : Bool :=
  match x.head with
  | some h => x.bytes.length == h.length
  | none => false

/-- SI_CLOSE (R309, R313). -/
def opSiClose : OpSpec :=
  ⟨0x42, 0, false, false, noBad, noTargets,
    fun s a => firstOf [ctxOwn s a (some (rInv 0)),
      match s.siCtx with
      | some x => firstOf [invIf (rd s GLB_SI_STAT.CTX 0 != 1 || !ctxFull x), ctxOver s x a]
      | none => none],
    fun _ a s =>
      match s.siCtx with
      | none => .done s (rInv 0)
      | some x =>
        match x.head with
        | none => .done s (rInv 0)
        | some h =>
          match imgCheckResult s x.landing.isSome h x.bodies with
          | .inr f => .done (ctxFail s x f) (imgReply f)
          | .inl rs => .done (ctxPass (cargoAddImage s x a) x a h rs) rOk⟩

/-- SI_ABORT (R309): an SI_OPEN still reading its slot ends ABORTED. -/
def opSiAbort : OpSpec :=
  ⟨0x43, 0, false, false, noBad, noTargets,
    fun s a => firstOf [ctxOwn s a none, invIf (rd s GLB_SI_STAT.CTX 0 == 3)],
    fun _ _ s =>
      match s.siCtx with
      | none => .done s rOk
      | some x => .done (complete (waitsOn 0x40 []) (rStat .aborted) (ctxEnd s x)) rOk⟩

/-- Firmware is loading a slot at boot (R87, R92): one load, which has not ended. -/
def bootLoading (s : State) (slot : Nat) : Bool :=
  rd s GLB_BOOT_STAT.STAGE 0 == 3 && rd s SEC_STATUS.LIFECYCLE 0 == 2 && !imageOn s && slot == rd s HID.SI_ACTIVE_SLOT 0
    && !flag s HID.BOOT_LOADED 0

/-- SI_BOOT_LOAD_DONE (R87): the active slot has been read after READY, in INSTALLED; a cold load. -/
def execSiBootLoadDone (readOk : Bool) (s : State) : Host.Outcome State Fault Refusal :=
  .next (
    if !bootLoading s (rd s HID.SI_ACTIVE_SLOT 0) then s
    else
      let slot := rd s HID.SI_ACTIVE_SLOT 0
      let s0 := wr s HID.BOOT_LOADED 0 1
      match (if readOk then imgCheckAll s0 false (slotImage s0 slot) else .inr (6, 0xFF)) with
      | .inl (h, rs) => imgAudit (coldApply s0 h rs slot) 0 0 0xFF 0 h.imageId
      | .inr f =>
        let s1 := if slot == 0 then wrs s0 [(GLB_BOOT_STAT.SIA_BAD, 0, 1), (GLB_BOOT_FAIL.SI_A, 0, f.1)]
          else wrs s0 [(GLB_BOOT_STAT.SIB_BAD, 0, 1), (GLB_BOOT_FAIL.SI_B, 0, f.1)]
        faultK (0x1E0 + slot) s1)

/-! ## Gallery assignment (R316, R317) -/

/-- GAL_ASSIGN (R316): only staged. -/
def opGalAssign : OpSpec :=
  ⟨0x44, 0, true, false, noBad, fun _ a => if opdB a 0x11 < 68 then [galDom (opdB a 0x11)] else [],
    fun s a => invIf (!a.cmd.stage || !galFits (opdB a 0x10) (opdB a 0x11)
      || [2, 3, 5].contains (rd s GAL_STAT.STATE (opdB a 0x11))),
    fun _ _ s => .done s (rInv 0)⟩

/-- Held packets of a sheaf are let through to a hall again. -/
def holdRelease (s : State) (h sh : Nat) : State :=
  let s1 := wr s HID.SW_HOLD (64 * h + sh) 0
  { s1 with pkts := s1.pkts.map (fun k => if k.hold && k.loc == .toHall h && k.inPort / 8 == sh then { k with hold := false } else k) }

/-- SWITCH_MARKER_RX (R317): the old gallery's marker for sheaf sh has reached hall h. -/
def execSwitchMarkerRx (h : Hall) (s : Sheaf) (st : State) : Host.Outcome State Fault Refusal :=
  .next (holdRelease st h.val s.val)

/-- SWITCH_HOLD_TIMEOUT (R317): 10 us have passed without the marker. -/
def execSwitchHoldTimeout (h : Hall) (s : Sheaf) (st : State) : Host.Outcome State Fault Refusal :=
  let g := rd st HID.SW_HOLD (64 * h.val + s.val)
  .next (
    if g == 0 then st
    else faultC (0x680 + (g - 1)) (bump (holdRelease st h.val s.val) GLB_SI_ROT.HOLD_TMO 0))

/-! ## Image slots, keys and versions (R306, R307, R315) -/

/-- Bytes put into a list at an offset; a gap reads as erased flash. -/
def overlay (old : List Byte) (off : Nat) (b : List Byte) : List Byte :=
  (old ++ List.replicate (off - old.length) 0xFF).take off ++ b ++ old.drop (off + b.length)

/-- A slot is being read, by an SI_OPEN or at boot. -/
def slotReading (s : State) (slot : Nat) : Bool :=
  bootLoading s slot ||
    match s.siCtx with
    | some x => x.source == slot + 1 && s.running.any (waitsOn 0x40 [])
    | none => false

/-- SI_SLOT_WRITE (R315, R92): BUSY stands before the opcode's own refusals (R138). -/
def opSiSlotWrite : OpSpec :=
  ⟨0x45, 1, false, false, noBad, noTargets,
    fun s a =>
      let slot := b2n (opdBit a 0x1C 0)
      if slotReading s slot then some (rStat .busy)
      else invIf (slot == rd s HID.SI_ACTIVE_SLOT 0 || 0x7000000 < 16 * opd a 0x1D 3 + a.cmd.buf.length),
    fun _ a s =>
      let slot := b2n (opdBit a 0x1C 0)
      let old := (tabGet s.flash (4 + slot, 0)).getD []
      .done { s with flash := tabPut s.flash (4 + slot, 0) (overlay old (16 * opd a 0x1D 3) a.cmd.buf) } rOk⟩

/-- SI_SLOT_ACTIVE (R315); whether the read of the slot succeeded. -/
def opSiSlotActive (readOk : Bool) : OpSpec :=
  ⟨0x46, 0, false, false, fun _ a => badIf (1 < opdB a 0x10), noTargets, fun s _ => invIf (noKeySteps s),
    fun _ a s =>
      match (if readOk then imgCheckAll s false (slotImage s (opdB a 0x10)) else .inr (6, 0xFF)) with
      | .inr f => .done (wrs s [(GLB_SI_STAT.REASON, 0, f.1), (GLB_SI_STAT.REGION, 0, f.2)]) (imgReply f)
      | .inl _ => .done (keyStep (wr s HID.SI_ACTIVE_SLOT 0 (opdB a 0x10))) rOk⟩

/-- SI_KEY_SET (R306, R307). -/
def opSiKeySet : OpSpec :=
  ⟨0x47, 1, false, false,
    fun _ a => badIf (3 < opdB a 0x1C || 1 < opdB a 0x1D || a.cmd.buf.length != (if opdB a 0x1D == 0 then 96 else 48)),
    noTargets, fun s _ => invIf (noKeySteps s),
    fun r a s =>
      let n := opdB a 0x1C
      let log := fun (t : State) => audit (keyStep t) 7 a.role a.cred a.handle 0x47 0 (bytesOf [n, opdB a 0x1D])
      if opdB a 0x1D == 0 then
        if Config.onCurve a.cmd.buf then .done (log { s with siVerify := tabPut s.siVerify (n, 0) a.cmd.buf }) rOk
        else .done s (rInv 0)
      else
        match openSecret r a (a.cmd.buf.take 32) (a.cmd.buf.drop 32) with
        | some key => .done (log { s with siDecrypt := tabPut s.siDecrypt (n, 0) (BitVec.ofNat 256 (leVal key)) }) rOk
        | none => .done s (rInv 0)⟩

/-- SI_SVN_COMMIT (R306). -/
def opSiSvnCommit : OpSpec :=
  ⟨0x48, 0, false, false, noBad, noTargets,
    fun s _ => invIf (rd s HID.SI_MIN_SVN 0 < rd s GLB_SI_INFO.SVN 0 && noKeySteps s),
    fun _ _ s =>
      if rd s GLB_SI_INFO.SVN 0 ≤ rd s HID.SI_MIN_SVN 0 then .done s rOk
      else .done (keyStep (wr s HID.SI_MIN_SVN 0 (rd s GLB_SI_INFO.SVN 0))) rOk⟩

def execSiOpen (r : Ring) (s : State) : Host.Outcome State Fault Refusal := .next (dispatch opSiOpen r.val s)
def execSiPut (r : Ring) (s : State) : Host.Outcome State Fault Refusal := .next (dispatch opSiPut r.val s)
def execSiClose (r : Ring) (s : State) : Host.Outcome State Fault Refusal := .next (dispatch opSiClose r.val s)
def execSiAbort (r : Ring) (s : State) : Host.Outcome State Fault Refusal := .next (dispatch opSiAbort r.val s)
def execGalAssign (r : Ring) (s : State) : Host.Outcome State Fault Refusal := .next (dispatch opGalAssign r.val s)
def execSiSlotWrite (r : Ring) (s : State) : Host.Outcome State Fault Refusal := .next (dispatch opSiSlotWrite r.val s)
def execSiSlotActive (r : Ring) (readOk : Bool) (s : State) : Host.Outcome State Fault Refusal :=
  .next (dispatch (opSiSlotActive readOk) r.val s)
def execSiKeySet (r : Ring) (s : State) : Host.Outcome State Fault Refusal := .next (dispatch opSiKeySet r.val s)
def execSiSvnCommit (r : Ring) (s : State) : Host.Outcome State Fault Refusal := .next (dispatch opSiSvnCommit r.val s)

end Sys2Proof.Machine
end

