-- ==== Sys2Proof/Machine/Program.lean ====
section
/-! DEFINITION. The program of a flight (R323 to R329): the packet header vector, the parser, lookups, action units and
hash units, and what the flight leaves: its Result fields and the frame. A container is named by its number. -/

namespace Sys2Proof.Machine

/-! ## The packet header vector (R323, R324) -/

/-- A packet header vector: the containers that are not zero. -/
abbrev Vec := Tab Nat

/-- Container c; one that nothing wrote reads zero (R323). -/
def vget (v : Vec) (c : Nat) : Nat := (tabGet v (c, 0)).getD 0

/-- Container c written. -/
def vput (v : Vec) (c x : Nat) : Vec := if x % 256 == 0 then tabDel v (c, 0) else tabPut v (c, 0) (x % 256)

/-- n containers from c, the first least significant (R324). -/
def vnum (v : Vec) (c : Nat) : Nat → Nat
  | 0 => 0
  | n + 1 => vget v c + 256 * vnum v (c + 1) n

/-- n containers from c written, the first least significant. -/
def vputN (v : Vec) (c : Nat) : Nat → Nat → Vec
  | 0, _ => v
  | n + 1, x => vputN (vput v c x) (c + 1) n (x / 256)

/-- Several fields written: first container, containers, value. -/
def vputs (v : Vec) (l : List (Nat × Nat × Nat)) : Vec := l.foldl (fun u e => vputN u e.1 e.2.1 e.2.2) v

/-- The Result containers of the ingress and egress flight (R324). -/
def resultConts : List Nat := [24, 25, 26, 27, 28, 29, 30, 31, 32, 33, 42, 43, 44]

/-- A container the program may write (R324, R330). -/
def contOk (c : Nat) : Bool := resultConts.contains c || (128 ≤ c && c < 1024)

/-- What a recirculated packet keeps of its vector: Result containers and c128 to c1023 (R338). -/
def vkeep (v : Vec) : Vec := v.filter (fun e => contOk e.1.1)

/-- The Set fields of a packet in a flight, but for the parser's flags (R324). -/
def setFields (k : Pkt) (egress : Bool) : List (Nat × Nat × Nat) :=
  let flags := k.gen % 2 + 2 * b2n k.host + 4 * b2n (k.pass != 0) + 8 * b2n k.secFail
  [(4, 2, k.len), (8, 12, timeNowField k.rxTs), (2, 1, flags)] ++
    if egress then [(0, 2, k.outPort), (20, 3, k.queue), (36, 4, min 0xFFFFFFFF k.resNs), (40, 2, min 0xFFFF k.depth)]
    else [(0, 2, k.inPort), (3, 1, k.pass), (6, 2, k.sec)]

/-! ## The parser (R325) -/

/-- What parsing has done so far: the vector, the frame offsets of the bytes extracted, PARSE_ERR, DEPTH. -/
structure Parsed where
  vec   : Vec
  taken : List (Nat × Nat)
  err   : Bool
  deep  : Bool
  deriving DecidableEq, Repr

/-- The parser has stopped. -/
def Parsed.stopped (p : Parsed) : Bool := p.err || p.deep

/-- A byte of a frame. -/
def frameByte (k : Pkt) (o : Nat) : Nat := (k.data.getD o 0).toNat

/-- The byte at an offset is read: a graph that would read past 384 bytes stops with DEPTH, a frame that ends before it
gives PARSE_ERR (R325). -/
def parseReach (k : Pkt) (o : Nat) (p : Parsed) : Parsed :=
  if p.stopped then p
  else if 384 ≤ o then { p with deep := true }
  else if k.len ≤ o then { p with err := true }
  else p

/-- A byte is extracted into a container. -/
def parseTake (k : Pkt) (pos : Nat) (p : Parsed) (e : Nat × Nat) : Parsed :=
  let q := parseReach k (pos + e.1) p
  if q.stopped then q
  else { q with vec := vput q.vec e.2 (frameByte k (pos + e.1)), taken := q.taken ++ [(e.2, pos + e.1)] }

/-- The number that the bytes at some offsets spell, the first least significant. -/
def lookVal (k : Pkt) (pos : Nat) : List Nat → Nat
  | [] => 0
  | o :: t => frameByte k (pos + o) + 256 * lookVal k pos t

/-- The graph is walked from a state at a position, at most n states. A state outside the graph, or that no branch follows,
ends the walk. -/
def parseWalk (g : List ParseState) (k : Pkt) : Nat → Nat → Nat → Parsed → Parsed
  | 0, _, _, p => p
  | n + 1, st, pos, p =>
    match g[st]? with
    | none => p
    | some x =>
      let p1 := x.look.foldl (fun q o => parseReach k (pos + o) q) (x.take.foldl (parseTake k pos) p)
      if p1.stopped then p1
      else
        match x.next.find? (fun b => Nat.land (lookVal k pos x.look) b.1 == b.2.1) with
        | some b => parseWalk g k n b.2.2.2 (pos + b.2.2.1) p1
        | none => p1

/-- The vector a flight starts with. A recirculated packet keeps what R338 says, and is parsed anew only where the program
asks (R338). The walk is cut at 2^16 states: a graph that reads on reaches R325's limits first. -/
def parse (f : Flight) (egress : Bool) (k : Pkt) : Parsed :=
  let v := vputs (if egress || k.pass == 0 then [] else vkeep k.vec) (setFields k egress)
  let p : Parsed := ⟨v, [], false, false⟩
  if egress || k.pass == 0 || f.reparse then
    let q := parseWalk f.parser k 65536 0 0 p
    { q with vec := vput q.vec 2 (vget q.vec 2 + 16 * b2n q.err + 32 * b2n q.deep) }
  else p

/-! ## Lookups (R326, R346 to R353) -/

/-- What a lookup returns: hit or miss, action index, action data, the pair it counts in. -/
structure Found where
  hit     : Bool
  action  : Nat
  data    : List Byte
  counter : Option Nat
  deriving DecidableEq, Repr

/-- The number a key in network byte order spells. -/
def beVal (b : List Byte) : Nat := leVal b.reverse

/-- An entry of a table matches a key (R346, R351). -/
def entryHits (d : TableDef) (key : List Byte) (e : Entry) : Bool :=
  match d.kind with
  | 1 => beVal key / 2 ^ (8 * d.keyBytes - e.plen) == beVal e.key / 2 ^ (8 * d.keyBytes - e.plen)
  | 3 => Nat.land (beVal key) (beVal e.mask) == Nat.land (beVal e.key) (beVal e.mask)
  | _ => e.key == key

/-- Of two matching entries the one that wins: the longer prefix, the lower priority number (R346, R351). -/
def better (d : TableDef) (best : Option Entry) (e : Entry) : Option Entry :=
  match best with
  | none => some e
  | some b => if (if d.kind == 1 then decide (b.plen < e.plen) else decide (e.prio < b.prio)) then some e else best

/-- A lookup of a key in table t of a copy: the entry that wins, else the default result (R346). -/
def lookup (c : GenCopy) (t : Nat) (key : List Byte) (miss : Bool) : Found :=
  let dr := (tabGet c.defaults (t, 0)).getD ⟨0, [], none⟩
  let found := match tabGet c.tables (t, 0) with
    | none => none
    | some d => if miss then none else (c.entries.filter (fun (e : Entry) => e.table == t && entryHits d key e)).foldl (better d) none
  match found with
  | some e => ⟨true, e.action, e.data, e.counter⟩
  | none => ⟨false, dr.action, dr.data, dr.counter⟩

/-- The lookups of a step. A lookup in a table that met a poisoned block of it misses (R363). -/
def stepLooks (c : GenCopy) (poison : List (Nat × Nat)) (v : Vec) (st : GalStep) : List Found :=
  st.mus.map (fun m => lookup c m.table (m.key.map (fun x => byteOf (vget v x))) (poison.any (fun e => e.1 == m.table)))

/-! ## Action units (R327, R328) -/

/-- A source of an action unit; the step's action data is that of its match units, 64 bytes each. -/
def srcVal (v : Vec) (fs : List Found) : AluSrc → Nat
  | .cont c => vget v c
  | .imm x => x % 256
  | .data k => match fs[k / 64]? with
    | some r => (r.data.getD (k % 64) 0).toNat
    | none => 0

/-- The number a chain's sources spell, the lowest unit first. -/
def chainVal (v : Vec) (fs : List Found) : List AluSrc → Nat
  | [] => 0
  | a :: t => srcVal v fs a + 256 * chainVal v fs t

/-- The condition of an operation holds: an earlier predicate bit of the step, or a container bit (R327). -/
def condHolds (v : Vec) (preds : List Bool) : AluCond → Bool
  | .always => true
  | .pred n b => preds.getD n false == b
  | .bit c k b => bitOf (vget v c) k == b

/-- Result of an operation on two numbers of w bits with a link bit in, and the link bit out: carry, borrow or compare state
(R327, R328). A compare that a first part hands its state to is decided by the later, more significant part unless that
part's bytes are equal. -/
def aluOp (op : AluOp) (w sh a b : Nat) (link : Option Bool) : Nat × Bool :=
  let m := 2 ^ w
  let c := b2n (link.getD false)
  let cmp := fun (r : Bool) => (b2n r, r)
  match op with
  | .copy => (a, false)
  | .set => (a, false)
  | .add => ((a + b + c) % m, decide (m ≤ a + b + c))
  | .sub => ((a + m - (b + c) % m) % m, decide (a < b + c))
  | .addc => (((a + b) % m + (a + b) / m) % m, decide (m ≤ a + b))
  | .satAdd => (min (m - 1) (a + b + c), decide (m ≤ a + b + c))
  | .satSub => (a - (b + c), decide (a < b + c))
  | .and => (Nat.land a b, false)
  | .or => (Nat.lor a b, false)
  | .xor => (Nat.xor a b, false)
  | .not => (m - 1 - a, false)
  | .shl => (a * 2 ^ sh % m, false)
  | .shr => (a / 2 ^ sh, false)
  | .min => (Nat.min a b, decide (a < b))
  | .max => (Nat.max a b, decide (b < a))
  | .eq => cmp (a == b && link.getD true)
  | .ne => cmp (a != b || link.getD false)
  | .lt => cmp (decide (a < b) || (a == b && link.getD false))
  | .gt => cmp (decide (b < a) || (a == b && link.getD false))

/-- The operation is a compare: it sets its predicate bit. -/
def isCompare (op : AluOp) : Bool := op == .eq || op == .ne || op == .lt || op == .gt

/-- What the units of a chain write. A compare's result applies to the whole chain: each unit writes 1 or 0 (R328). -/
def chainOut (op : AluOp) (r : Nat) : Nat → List Nat
  | 0 => []
  | n + 1 => r % 256 :: chainOut op (if isCompare op then r else r / 256) n

/-- A bit of a container. -/
def putBit (v : Vec) (c k : Nat) (b : Bool) : Vec := vput v c (if b then setBit (vget v c) k else clrBit (vget v c) k)

/-- One operation of a step: it reads the vector as the step found it, and writes its result and its link bit. One whose
condition is false leaves its destinations unchanged. The state is the vector written so far and the predicate bits. -/
def runChain (v0 : Vec) (fs : List Found) (x : Vec × List Bool) (c : AluChain) : Vec × List Bool :=
  if !condHolds v0 x.2 c.cond then (x.1, x.2 ++ [false])
  else
    let a := chainVal v0 fs (c.units.map (·.1))
    let b := chainVal v0 fs (c.units.map (·.2.1))
    let (r, link) := aluOp c.op (8 * c.units.length) (c.sh % 8) a b (c.carryIn.map (fun e => bitOf (vget v0 e.1) e.2))
    let v1 := ((c.units.map (·.2.2)).zip (chainOut c.op r c.units.length)).foldl (fun u e => vput u e.1 e.2) x.1
    (match c.carryOut with
      | some e => putBit v1 e.1 e.2 link
      | none => v1, x.2 ++ [isCompare c.op && link])

/-- The action program that a match unit's hit bit and action index select (R329). -/
def progOf (m : MatchUnit) (r : Found) : List AluChain :=
  match m.sel.find? (fun e => e.1 == r.hit && e.2.1 == r.action) with
  | some e => m.progs.getD e.2.2 []
  | none => []

/-! ## Hash units (R329) -/

/-- XOR of the 32-bit words that bytes spell, with a seed. How the fold aligns its containers is not stated: four to a word,
the first least significant (DESIGN CHOICE, log entry 100). -/
def xorFold : Nat → Nat → List Byte → Nat
  | 0, seed, _ => seed
  | n + 1, seed, l => if l.isEmpty then seed else xorFold n (Nat.xor seed (leVal (l.take 4))) (l.drop 4)

/-- The 32 bits of a hash unit. The seed is the register's value before the first byte (DESIGN CHOICE, log entry 100). -/
def hashOf (h : HashUnit) (l : List Byte) : Nat :=
  match h.kind with
  | .crc32 => crcRefl 0xEDB88320 h.seed l
  | .crc32c => crcRefl 0x82F63B78 h.seed l
  | .crc16 => crc16 h.seed l
  | .fold => xorFold 16 (h.seed % 2 ^ 32) l

/-- A hash unit reads its containers as the step found them, and writes four. -/
def runHash (v0 v : Vec) (h : HashUnit) : Vec :=
  vputN v h.dst 4 (hashOf h (h.src.map (fun c => byteOf (vget v0 c))))

/-! ## A flight -/

/-- A step: lookups, hash units and operations work on the vector as the step found it (R326). Answers the vector and what
the lookups returned, with their tables. -/
def runStep (c : GenCopy) (poison : List (Nat × Nat)) (v : Vec) (st : GalStep) : Vec × List (Nat × Found) :=
  let fs := stepLooks c poison v st
  let acts := (st.mus.zip fs).flatMap (fun e => progOf e.1 e.2) ++ st.acts
  let v1 := (acts.foldl (runChain v fs) (v, [])).1
  (st.hashes.foldl (runHash v) v1, (st.mus.map (·.table)).zip fs)

/-- The steps of a flight, one after the other. -/
def runSteps (c : GenCopy) (poison : List (Nat × Nat)) : List GalStep → Vec → List (Nat × Found) → Vec × List (Nat × Found)
  | [], v, l => (v, l)
  | st :: t, v, l =>
    let (v1, l1) := runStep c poison v st
    runSteps c poison t v1 (l ++ l1)

/-- A byte of a frame replaced; the bytes up to it are those the frame has. -/
def setByte (d : List Byte) (o x : Nat) : List Byte := listSet (d ++ leBytes (o + 1 - d.length) 0) o (byteOf x)

/-- The frame a flight leaves: the bytes it extracted as the vector has them, headers taken from its front and put there,
the rest unchanged (R325). -/
def deparse (f : Flight) (k : Pkt) (p : Parsed) (v : Vec) : List Byte :=
  f.insert.map (fun c => byteOf (vget v c)) ++
    (p.taken.foldl (fun d e => setByte d e.2 (vget v e.1)) k.data).drop f.remove

/-- The result of a flight (R324, R325): its Result fields, the frame as it left it, what its lookups counted and where
they resolved. -/
def flightOut (s : State) (f : Flight) (k : Pkt) (p : Parsed) (v : Vec) (looks : List (Nat × Found)) : FlightResult :=
  let c := genOf s (k.gen % 2)
  let punt := vget v 28
  let mir := vget v 30
  { hwDrop := f.hwDrop
    drop := vget v 27
    punt := bitOf punt 6
    copy := bitOf punt 7
    puntQ := Fin.ofNat 64 punt
    reason := vget v 29
    recirc := bitOf (vget v 33) 0
    mirror := if bitOf mir 7 then some (Fin.ofNat 16 mir) else none
    queue := vnum v 24 3 % 1048576
    tc := vget v 32 % 8
    cls := vget v 31
    frame := deparse f k p v
    len := f.insert.length + (k.len - f.remove)
    tsKind := vget v 42
    tsOff := vnum v 43 2
    hits := looks.filterMap (fun e => e.2.counter.map (fun i => (e.1, i)))
    sram := (looks.filter (fun e => f.sram.contains e.1 || (tabGet c.tables (e.1, 0)).any (fun d => d.place != 1))).map (·.1)
    poison := f.poison
    sramErr := f.sramErr
    puntOk := f.puntOk }

/-- The program of a flight run on a packet: its results and the vector at its end. A lookup that takes the poison action
misses; of a table not set to treat poison as a miss, it drops the packet (R333, R362, R363). -/
def flightRes (s : State) (f : Flight) (egress : Bool) (k : Pkt) : FlightResult × Vec :=
  let p := parse f egress k
  let bad := f.poison.filter (fun e => (tabGet s.poison e).isSome) ++ f.sramErr.map (fun e => (e.1, e.2.1))
  let (v, looks) := runSteps (genOf s (k.gen % 2)) bad f.steps p.vec []
  (flightOut s f k p v looks, v)

end Sys2Proof.Machine
end

