-- ==== Sys2Proof/Machine/Gallery.lean ====
section
/-! DEFINITION. Galleries (R322 to R343): entry, parked lookups, the runs of the flights, the reorder stages, dispositions
and drops, poisoned Granary blocks (R363), and frames from the host (R150). -/

namespace Sys2Proof.Machine

/-! ## Occurrences and poison -/

/-- An occurrence on a packet in gallery g. -/
def perfGal (s : State) (g code qual amount : Nat) (k : Pkt) : State :=
  perf s { perfE code amount with qual := qual, kind := 2, index := g, tc := k.tc, cls := k.cls }

/-- The entry of TBL_POISON_LOG a new record takes: a free one, the oldest REPAIRED, the oldest (R365). -/
def plogSlot (s : State) : Nat :=
  match (List.range 32).find? (fun n => !flag s TBL_POISON_LOG.VALID n) with
  | some n => n
  | none =>
    let rep := (List.range 32).filter (fun n => flag s TBL_POISON_LOG.REPAIRED n)
    let from' := if rep.isEmpty then List.range 32 else rep
    from'.foldl (fun best n => if rd s HID.PLOG_SEQ n < rd s HID.PLOG_SEQ best then n else best) (from'.headD 0)

/-- An entry written into TBL_POISON_LOG (R362, R363). -/
def plogWrite (s : State) (t block base plen : Nat) (sram : Bool) : State :=
  let n := plogSlot s
  wrs (tookNum s) [(TBL_POISON_LOG.TABLE, n, t), (TBL_POISON_LOG.VALID, n, 1), (TBL_POISON_LOG.REPAIRED, n, b2n sram),
    (TBL_POISON_LOG.SRAM, n, b2n sram), (TBL_POISON_LOG.BLOCK, n, block), (TBL_POISON_LOG.BASE, n, base),
    (TBL_POISON_LOG.PLEN, n, plen), (HID.PLOG_SEQ, n, nextNum s)]

/-- A block of a table is poisoned. -/
def poisoned (s : State) (t block : Nat) : Bool := (tabGet s.poison (t, block)).isSome

/-- A Granary block of a table met an uncorrectable error: poisoned, logged, contained fault; one already poisoned raises
nothing more (R363, R454). -/
def poisonBlock (s : State) (t block base plen : Nat) : State :=
  if poisoned s t block then s
  else
    let s1 := plogWrite { s with poison := tabPut s.poison (t, block) (base, plen) } t block base plen false
    faultK (0x700 + t) s1

/-- A lookup takes the poison action of its table (R363): the state, and whether its packet is dropped. -/
def poisonHit (s : State) (g : Nat) (k : Pkt) (t : Nat) : State × Bool :=
  (perfGal (bump s TBL_ERR.POISON_HITS t) g 0x62 t 1 k, !flag s TBL_CFG.POISON_MISS t)

/-- An uncorrectable error in a table SRAM replica of die d, repaired from another: counted, logged, corrected fault
(R362, R457). -/
def sramRepair (s : State) (d t block base plen : Nat) : State :=
  faultC (0x700 + t) (plogWrite (bump s MEM_SRAM_STAT.UNCORR d) t block base plen true)

/-! ## Entry (R334) -/

/-- Bytes of frames of the sheaf in the entry buffer of gallery g. -/
def entryBytes (s : State) (g : Nat) : Nat :=
  (s.pkts.filter (fun k => k.loc == .entry g && !k.host && k.pass == 0)).foldl (fun n k => n + k.len) 0

/-- The flights of gallery g run. -/
def galRuns (s : State) (g : Nat) : Bool :=
  let st := rd s GAL_STAT.STATE g
  (st == 2 || st == 3) && !isSafe s

/-- A window entry is free for a lookup of the ingress or egress flight (R331). -/
def windowFree (s : State) (g : Nat) (egress : Bool) : Bool :=
  if egress then countAt s (.egressPark g) < egrWindow s g else countAt s (.ingressPark g) < ingWindow s g

/-- A packet issues a Granary lookup in table t and is parked (R331). -/
def lookIssue (s : State) (g : Nat) (egress : Bool) (t : Nat) (k : Pkt) : State :=
  let s1 := perfDram (perfGal (stat s GAL_CNT.GRANARY g 1) g 0x53 t 1 k) 0x80 8 2 1 8
  let s2 := setPkt s1 { k with loc := if egress then .egressPark g else .ingressPark g, look := t }
  trace (peakUp s2 g) k 2 g (if egress then k.outPort else k.inPort) t (inFlight s2 g)

/-- A generational landing fires on this tick: a packet that arrives on it carries the new generation, so the entries wait
for the flip (R193). -/
def flipDue (s : State) : Bool :=
  (slotsIn s 2).any (fun n => lndDue s n && flag s LND_SLOT.GENL n && !mustWait s n)

/-- The ingress flight of gallery g holds admission (R331, R332). -/
def entryHeld (s : State) (g : Nat) (look : Option Nat) : Bool :=
  !galRuns s g || flipDue s || decide (2048 ≤ countAt s (.ingressReorder g)) || (look.isSome && !windowFree s g false)

/-- A packet waiting at the entry is admitted: stamped and numbered on its first pass, counted, tagged (R176, R332, R485).
Only a recirculated packet enters a gallery whose sheaf has moved away. -/
def admitIngress (s : State) (g : Nat) (look : Option Nat) (k : Pkt) : State :=
  if entryHeld s g look || (rd s GAL_STAT.STATE g == 3 && k.pass == 0) then s
  else
    let k1 := if k.pass == 0 then { k with gen := genNow s, seq := nextNum s } else k
    let s1 := stat (if k.pass == 0 then tookNum s else s) GAL_CNT.ING_PKTS g 1
    let s2 := if k.host && k.pass == 0 then stat s1 GAL_CNT.HOST_IN g 1 else s1
    let (s3, k2) := tagPkt s2 g k1
    let k3 := { k2 with loc := .ingress g }
    let s4 := perfGal (trace (setPkt s3 k3) k3 1 g k3.inPort 0 0) g 0x50 0 1 k3
    match look with
    | some t => lookIssue s4 g false t k3
    | none => s4

/-- A frame from port p reaches the gallery that serves its sheaf, or is dropped and counted (R334, R337). -/
def frameArrives (s : State) (g p : Nat) (look : Option Nat) (k : Pkt) : State :=
  let sh := p / 8
  match servedBy s (genNow s) sh with
  | none => galDrop s sh (if imageOn s then 0x08 else 0x02) k
  | some x =>
    let st := rd s GAL_STAT.STATE x
    if st == 5 then galDrop s sh 0x08 k
    else if st == 0 then galDrop s x 0x02 k
    else if x != g then s
    else if 262144 < entryBytes s g + k.len then galDrop s g 0x01 k
    else
      let k1 := { k with loc := .entry g }
      admitIngress (setPkt s k1) g look k1

/-- GALLERY_ENTRY (R334). -/
def execGalleryEntry (g : Gallery) (pkt : Nat) (look : Option (Fin 256)) (s : State) : Host.Outcome State Fault Refusal :=
  .next (
    match pktOf s pkt with
    | none => s
    | some k =>
      match k.loc with
      | .fromMac p => frameArrives s g.val p (look.map (·.val)) k
      | .entry h => if h != g.val then s else if k.expired then expire s k else admitIngress s h (look.map (·.val)) k
      | _ => s)

/-! ## Parked lookups (R331, R333) -/

/-- The packet is parked in gallery g: whether in the egress flight. -/
def parkedIn (g : Nat) (k : Pkt) : Option Bool :=
  match k.loc with
  | .ingressPark h => if h == g then some false else none
  | .egressPark h => if h == g then some true else none
  | _ => none

/-- A lookup that met an uncorrectable error in a block of its table (R363): the block is poisoned; the state, and whether
the packet is dropped. The stack that erred is a free value (R20, log entry 9). -/
def lookUncorr (s : State) (g : Nat) (k : Pkt) (u : Nat × Nat × Nat) : State × Bool :=
  let n := 8 + freeNat s % 2
  let s1 := took s
  let s2 := if poisoned s1 k.look u.1 then bump s1 MEM_CTRL_STAT.POISON_READ n
    else perf (bump s1 MEM_CTRL_STAT.UNCORR n) { perfE 0x84 1 with qual := n, role := 8 }
  poisonHit (poisonBlock s2 k.look u.1 u.2.1 u.2.2) g k k.look

/-- The packet goes on: parked on its next lookup, or in its flight. -/
def lookResume (s : State) (g : Nat) (egress : Bool) (again : Option Nat) (k : Pkt) : State :=
  match again with
  | some t => lookIssue s g egress t k
  | none => setPkt s { k with loc := if egress then .egress g else .ingress g }

/-- GRANARY_RESPONSE (R331, R333): a response for no parked packet is late and discarded. -/
def execGranaryResponse (g : Gallery) (pkt : Nat) (ns : Nat) (uncorr : Option (Nat × Nat × Nat)) (again : Option (Fin 256))
    (s : State) : Host.Outcome State Fault Refusal :=
  .next (
    match (pktOf s pkt).bind (fun k => (parkedIn g.val k).map (fun e => (k, e))) with
    | none => bump s GAL_ERR.LATE_RESP g.val
    | some (k, e) =>
      if k.expired then expire s k else
      let s1 := perfGal (trace s k 3 g.val (if e then k.outPort else k.inPort) k.look 0) g.val 0x5A 0 ns k
      match uncorr with
      | none => lookResume s1 g.val e (again.map (·.val)) k
      | some u =>
        let (s2, dropped) := lookUncorr s1 g.val k u
        if dropped then galDrop s2 g.val 0x04 k else lookResume s2 g.val e (again.map (·.val)) k)

/-- LOOKUP_TIMEOUT (R333). -/
def execLookupTimeout (g : Gallery) (pkt : Nat) (s : State) : Host.Outcome State Fault Refusal :=
  .next (
    match (pktOf s pkt).bind (fun k => (parkedIn g.val k).map (fun _ => k)) with
    | none => s
    | some k => faultC (0x6C4 + galDie g.val) (if k.expired then expire s k else galDrop s g.val 0x03 k))

/-! ## What a flight's lookups leave (R353, R354, R363) -/

/-- Sum of two pairs, each half wrapping. -/
def pairAdd (x y : Pair) : Pair := ((x.1 + y.1) % 2 ^ 64, (x.2 + y.2) % 2 ^ 64)

/-- The stored pair at an index. -/
def pairOf (s : State) (i : Nat) : Pair := (tabGet s.pairs (i, 0)).getD (0, 0)

/-- A wrapped counter sets the bit of its bank (R353). -/
def cntWrap (s : State) (i : Nat) (old add : Pair) : State :=
  if old.1 + add.1 < 2 ^ 64 && old.2 + add.2 < 2 ^ 64 then s
  else wr s TBL_CNT_WRAP.WRAP 0 (setBit (rd s TBL_CNT_WRAP.WRAP 0) (i / 65536))

/-- A line of a counter cache is added to its stored pair (R354). -/
def lineBack (s : State) (k : Key) (p : Pair) : State :=
  let s1 := { s with cache := tabDel s.cache k }
  let old := pairOf s1 k.2
  cntWrap (granaryWrite { s1 with pairs := tabPut s1.pairs (k.2, 0) (pairAdd old p) } 16 8) k.2 old p

/-- Room for one more line in the cache of die d: of 65 536 lines one is written back, which one is a free value (R354, log
entry 9). -/
def cacheRoom (s : State) (d : Nat) : State :=
  let lines := s.cache.filter (fun e => Nat.beq e.1.1 d)
  if lines.length < 65536 then s
  else
    match lines[freeNat s % lines.length]? with
    | some e => lineBack (took s) e.1 e.2
    | none => s

/-- A hit increments the pair it names in the cache of the gallery's die, with the frame's bytes (R353, R354). A line not
cached yet is a miss of the cache. -/
def counterHit (g : Nat) (k : Pkt) (s : State) (h : Nat × Nat) : State :=
  let i := h.2
  let c := genOf s (k.gen % 2)
  if c.cntN ≤ i then s
  else
    let key := (galDie g, i)
    match tabGet s.cache key with
    | some v => { s with cache := tabPut s.cache key (v.1 + 1, v.2 + k.len) }
    | none =>
      let s1 := cacheRoom s (galDie g)
      perfGal { s1 with cache := tabPut s1.cache key (1, k.len) } g 0x61 0 1 k

/-- The lookups that reached poisoned blocks: the state, and whether the packet is dropped. -/
def poisonHits (s : State) (g : Nat) (k : Pkt) : List (Nat × Nat) → State × Bool
  | [] => (s, false)
  | e :: t =>
    if !poisoned s e.1 e.2 then poisonHits s g k t
    else
      let (s1, d) := poisonHit s g k e.1
      let (s2, d2) := poisonHits s1 g k t
      (s2, d || d2)

/-- The lookups that met an error in the replica of the gallery's die: each repaired, each with the poison action (R362). -/
def sramHits (s : State) (g : Nat) (k : Pkt) : List (Nat × Nat × Nat × Nat) → State × Bool
  | [] => (s, false)
  | e :: t =>
    let (s1, d) := poisonHit (sramRepair s (8 + galDie g) e.1 e.2.1 e.2.2.1 e.2.2.2) g k e.1
    let (s2, d2) := sramHits s1 g k t
    (s2, d || d2)

/-- Counters, SRAM lookups and poison of a flight that ends: the state, and whether poison drops the packet. -/
def flightLookups (s : State) (g : Nat) (k : Pkt) (r : FlightResult) : State × Bool :=
  let s1 := r.sram.foldl (fun t n => perfGal t g 0x52 n 1 k) s
  let (s2, d) := sramHits (r.hits.foldl (counterHit g k) s1) g k r.sramErr
  let (s3, d2) := poisonHits s2 g k r.poison
  (s3, d || d2)

/-- A hardware drop reason of R337 the flight reports; poison counts as one. -/
def hwReason (r : FlightResult) (poison : Bool) : Nat :=
  if 1 ≤ r.hwDrop && r.hwDrop ≤ 8 then r.hwDrop else if poison then 0x04 else 0

/-- The code a nonzero DROP is counted under (R336). -/
def dropCode (r : FlightResult) : Nat := max 0x80 (r.drop % 256)

/-- The packet carries the flight's results and the frame as the flight left it (R323, R324). -/
def carry (k : Pkt) (r : FlightResult) : Pkt :=
  { k with queue := r.queue, tc := r.tc, cls := r.cls, len := r.len, data := r.frame, res := some r }

/-! ## Ends of the flights (R336, R338) -/

/-- Recirculated packets that wait at the entry of gallery g. -/
def recircWaiting (s : State) (g : Nat) : Nat := (s.pkts.filter (fun k => k.loc == .entry g && k.pass != 0)).length

/-- A copy is punted where the results ask for one. -/
def puntCopy (s : State) (g : Nat) (r : FlightResult) (k : Pkt) : State := if r.punt && r.copy then galPunt s g r k else s

/-- The hardware drop reason of a packet whose results ask for another pass: pass 3 is its last, or the recirculation queue
is full; 0 = none (R337). -/
def recircReason (s : State) (g : Nat) (r : FlightResult) (k : Pkt) : Nat :=
  if !r.recirc then 0 else if 3 ≤ k.pass then 0x05 else if 64 ≤ recircWaiting s g then 0x06 else 0

/-- The hardware drop reason of a packet at the end of its ingress flight, 0 = none: it stands before DROP and PUNT (R336,
R342). -/
def ingressReason (s : State) (g : Nat) (r : FlightResult) (poison : Bool) (k : Pkt) : Nat :=
  if hwReason r poison != 0 then hwReason r poison else recircReason s g r k

/-- Step 4 of R336: another pass with the containers R338 keeps of the vector. -/
def recirculate (s : State) (g : Nat) (r : FlightResult) (v : Vec) (k : Pkt) : State :=
  let s1 := perfGal (stat (puntCopy s g r k) GAL_CNT.RECIRC g 1) g 0x57 0 1 k
  sendPkt s1 { carry k r with loc := .entry g, pass := k.pass + 1, vec := vkeep v }

/-- INGRESS_FLIGHT_END (R325 to R329, R336): the flight's program is run on the packet, and its fate settled. -/
def execIngressFlightEnd (g : Gallery) (pkt : Nat) (f : Flight) (s : State) : Host.Outcome State Fault Refusal :=
  .next (
    match pktOf s pkt with
    | none => s
    | some k =>
      if k.loc != .ingress g.val then s
      else if k.expired then expire s k
      else
        let (res, v) := flightRes s f false k
        let (s1, poison) := flightLookups s g.val k res
        let hw := ingressReason s g.val res poison k
        if hw != 0 then galDrop s1 g.val hw k
        else if res.drop % 256 != 0 then galDrop s1 g.val (dropCode res) k
        else if res.punt && !res.copy then galPunt (losePkt s1 k) g.val res k
        else if res.recirc then recirculate s1 g.val res v k
        else setPkt (puntCopy s1 g.val res k) { carry k res with loc := .ingressReorder g.val })

/-- EGRESS_FLIGHT_END (R325 to R329, R336): a frame whose port is not UP is dropped as PORT_DOWN. -/
def execEgressFlightEnd (g : Gallery) (pkt : Nat) (f : Flight) (s : State) : Host.Outcome State Fault Refusal :=
  .next (
    match pktOf s pkt with
    | none => s
    | some k =>
      if k.loc != .egress g.val then s
      else if k.expired then expire s k
      else
        let res := (flightRes s f true k).1
        let (s1, poison) := flightLookups s g.val k res
        let hw := hwReason res poison
        if hw != 0 then galDrop s1 g.val hw k
        else if !portUp s1 k.outPort then galDrop s1 g.val 0x07 k
        else if res.drop % 256 != 0 then galDrop s1 g.val (dropCode res) k
        else if res.punt && !res.copy then galPunt (losePkt s1 k) g.val res k
        else
          let k1 := { k with loc := .egressReorder g.val, len := res.len, data := res.frame, res := some res }
          setPkt (puntCopy s1 g.val res k) k1)

/-! ## Reorder and dispatch to the halls (R332, R336, R371) -/

/-- A packet of gallery g that has been admitted and not released in the same flight and order class. -/
def inClass (g : Nat) (egress : Bool) (k x : Pkt) : Bool :=
  if egress then
    x.outPort == k.outPort && (x.loc == .egress g || x.loc == .egressPark g || x.loc == .egressReorder g)
  else
    x.order == k.order && (x.loc == .ingress g || x.loc == .ingressPark g || x.loc == .ingressReorder g
      || (x.loc == .entry g && x.pass != 0))

/-- Every earlier packet of its class has been released or dropped (R332). -/
def mayRelease (s : State) (g : Nat) (egress : Bool) (k : Pkt) : Bool :=
  !s.pkts.any (fun x => inClass g egress k x && decide (x.seq < k.seq))

/-- A packet on its way to the hall of queue q; it is held there while the hall awaits the old gallery's marker for its
sheaf, unless it comes from that gallery (R317). -/
def toHall (s : State) (g q : Nat) (k : Pkt) : Pkt :=
  let h := hallOf q
  let w := rd s HID.SW_HOLD (64 * h + k.inPort / 8 % 64)
  { k with loc := .toHall h, queue := q, hold := w != 0 && w != g + 1 }

/-- The copies of a replication group: the first member's keeps the tag (R371, R485). -/
def replicate (s : State) (g : Nat) (members : List Nat) (k : Pkt) : State :=
  (members.zip (List.range members.length)).foldl (fun t m =>
    let t1 := perf t { perfE 0x79 1 with kind := 3, index := queuePort t m.1, tc := k.tc, cls := k.cls }
    newPkt t1 { toHall t1 g m.1 k with tag := if m.2 == 0 then k.tag else 0 }) (losePkt s k)

/-- The mirror copy (R371). -/
def mirrorCopy (s : State) (g : Nat) (r : FlightResult) (k : Pkt) : State :=
  match r.mirror with
  | none => s
  | some m =>
    if !flag s TMG_MIRROR.EN m.val then s
    else
      let cut := rd s TMG_MIRROR.TRUNC m.val
      let k0 := if cut == 0 then k else { k with len := min cut k.len, data := k.data.take cut }
      let k1 := { k0 with tag := 0 }
      newPkt s (toHall s g (rd s TMG_MIRROR.QUEUE m.val) k1)

/-- A packet leaves the ingress gallery for the halls (R336, R371). -/
def sendToHalls (s : State) (g : Nat) (k : Pkt) : State :=
  let s1 := match queueTarget s (k.gen % 2) k.queue with
    | some (.repl grp) =>
      match tabGet (genOf s (k.gen % 2)).repl (grp, 0) with
      | some ms => replicate s g ms k
      | none => sendPkt s (toHall s g k.queue k)
    | _ => sendPkt s (toHall s g k.queue k)
  match k.res with
  | some r => mirrorCopy s1 g r k
  | none => s1

/-- REORDER_RELEASE (R332). -/
def execReorderRelease (g : Gallery) (pkt : Nat) (s : State) : Host.Outcome State Fault Refusal :=
  .next (
    match pktOf s pkt with
    | none => s
    | some k =>
      if k.expired && (k.loc == .ingressReorder g.val || k.loc == .egressReorder g.val) then expire s k
      else if k.loc == .ingressReorder g.val && mayRelease s g.val false k then
        sendToHalls (trace s k 4 g.val k.inPort 0 0) g.val k
      else if k.loc == .egressReorder g.val && mayRelease s g.val true k then
        sendPkt (trace s k 8 g.val k.outPort 0 0) { k with loc := .toMac k.outPort }
      else s)

/-- GALLERY_FAIL (R340). -/
def execGalleryFail (g : Gallery) (s : State) : Host.Outcome State Fault Refusal := .next (galFail raise s g.val)

/-- GALLERY_PEAK_CLEAR (R343). -/
def execGalleryPeakClear (g : Gallery) (s : State) : Host.Outcome State Fault Refusal :=
  .next (wr s GAL_WIN.PEAK g.val (inFlight s g.val))

/-! ## Frames from the host (R150, R372) -/

/-- A frame from the host enters the ingress flight of the gallery that serves a port (R150); it waits in the host
interface until it is admitted (R334). -/
def hostToPort (s : State) (p len : Nat) (data : List Byte) : State :=
  let k := framePkt s (.fromMac p) p len data true
  match servedBy s (genNow s) (p / 8) with
  | some g =>
    if rd s GAL_STAT.STATE g == 5 then galDrop s (p / 8) 0x08 k
    else if rd s GAL_STAT.STATE g == 0 then galDrop s g 0x02 k
    else newPkt s { k with loc := .entry g }
  | none => galDrop s (p / 8) (if imageOn s then 0x08 else 0x02) k

/-- A frame from the host offered to an egress queue, stamped when it is enqueued (R176, R372). -/
def hostToQueue (s : State) (q len : Nat) (data : List Byte) : State :=
  newPkt s { framePkt s (.toHall (hallOf q)) 0 len data true with queue := q, tc := (queueOf s q).tc }

/-- The flags byte of a from-host descriptor as the device writes it back: DONE, MODE as it was, ERR (R150, log entry 98). -/
def puntTaken (mode ok : Bool) : List Byte := bytesOf [1 + 2 * b2n mode + 8 * b2n (!ok)]

/-- PUNT_FROM_HOST (R150): a descriptor is consumed, none while the device may not master the bus (R152). The frame check
sequence is appended; a length out of range is consumed without a frame (log entry 20). -/
def execPuntFromHost (p : Fin 64) (d : PuntDesc) (ok : Bool) (s : State) : Host.Outcome State Fault Refusal :=
  .next (
    match tabGet s.punts (puntKey p.val true) with
    | none => s
    | some q =>
      if !q.en || q.head == q.tail || flag s HID.D3HOT 0 then s
      else
        let s1 := puntAdvance s (puntKey p.val true) q 0x0A (puntTaken d.mode ok)
        if !ok then faultC 0x303 s1
        else if d.len < 60 || 16383 < d.len then s1
        else
          let s2 := perf (perf (stat s1 HIF_PUNT_STAT.FROM_HOST p.val 1) (perfE 0x07 1)) (perfE 0x05 (d.len + 16))
          let frame := d.frame.take d.len
          let data := frame ++ leBytes 4 (crc32 frame)
          if d.mode then hostToQueue s2 (d.target % 1048576) (d.len + 4) data
          else hostToPort s2 (d.target % 512) (d.len + 4) data)

end Sys2Proof.Machine
end

