-- ==== Sys2Proof/Machine/Tables.lean ====
section
/-! DEFINITION. Tables (R344 to R365): what a record may be and does in one copy of the tables, the commands of R355,
counters (R353, R354) and the repair of poisoned blocks (R363). -/

namespace Sys2Proof.Machine

/-! ## Records against a copy -/

/-- The table of an ID in a copy. -/
def tableIn (c : GenCopy) (t : Nat) : Option TableDef := tabGet c.tables (t, 0)

/-- The entry of a copy with a record's key. -/
def entryOf (c : GenCopy) (d : TableDef) (r : TRec) : Option Entry := c.entries.find? (sameKey d r)

/-- Action data a record of a table may carry (R346, R356). -/
def dataMax (d : TableDef) : Nat :=
  match d.kind with
  | 1 => 8
  | 2 => d.slot - d.keyBytes
  | 4 => d.slot
  | _ => 64

/-- A key, prefix length or data length wrong for the table (R356, R361). -/
def keyWrong (d : TableDef) (r : TRec) : Bool :=
  r.short || r.keyLen != d.keyBytes || dataMax d < r.data.length
    || (d.kind == 1 && (8 * d.keyBytes < r.plen || beVal r.key % 2 ^ (8 * d.keyBytes - r.plen) != 0))
    || (d.kind == 4 && d.capacity ≤ beVal r.key)

/-- The counter a record names: none with bit 31 set (R353). -/
def recCounter (v : Nat) : Option Nat := if bitOf v 31 then none else some (v % 2 ^ 31)

/-- The counter index is at or above N (R361). -/
def counterWrong (c : GenCopy) (v : Nat) : Bool :=
  match recCounter v with
  | some i => decide (c.cntN ≤ i)
  | none => false

/-- Two prefixes of one key width overlap in their first bits. -/
def prefixMeet (w k1 p1 k2 p2 : Nat) : Bool := let p := min p1 p2; k1 / 2 ^ (w - p) == k2 / 2 ^ (w - p)

/-- Key and prefix of the range a log entry or poison mark names; an IPv6 base is its upper 32 bits (R365). -/
def rangeKey (d : TableDef) (base : Nat) : Nat := if d.keyBytes == 8 then base * 2 ^ 32 else base

/-- A key of a table lies in, or reaches into, the range of a poisoned block: a staircase prefix that overlaps it, an
EXACT key of that bucket (R363). -/
def touches (d : TableDef) (t : Nat) (key : List Byte) (plen : Nat) (rng : Nat × Nat) : Bool :=
  if d.kind == 1 then prefixMeet (8 * d.keyBytes) (beVal key) plen (rangeKey d rng.1) rng.2
  else Config.bucketOf t key == rng.1

/-- A record touches a poisoned block of its table (R361). -/
def recPoisoned (s : State) (d : TableDef) (r : TRec) : Bool :=
  s.poison.any (fun e => e.1.1 == r.table && touches d r.table r.key r.plen e.2)

/-- A prefix counts against the pinned capacity (R348). -/
def isPinned (d : TableDef) (key : List Byte) (plen : Nat) : Bool :=
  let rl := if d.keyBytes == 8 then 32 else 16
  d.kind == 1 && decide (rl ≤ plen) && d.pins.contains (beVal key / 2 ^ (8 * d.keyBytes - rl))

/-- One more entry would pass the capacity, or its pinned or other part (R348, R361). -/
def recFull (c : GenCopy) (d : TableDef) (r : TRec) : Bool :=
  let es := c.entries.filter (fun e => e.table == r.table)
  let p := isPinned d r.key r.plen
  let n := (es.filter (fun e => isPinned d e.key e.plen == p)).length
  decide (d.capacity ≤ es.length) || ((d.pinned != 0 || !d.pins.isEmpty) && decide ((if p then d.pinned else d.capacity - d.pinned) ≤ n))

/-- A TERNARY priority that another entry of the table has (R351). -/
def prioTaken (c : GenCopy) (d : TableDef) (r : TRec) : Bool :=
  d.kind == 3 && c.entries.any (fun e => e.table == r.table && e.prio == r.prio && !sameKey d r e)

/-- What a record's operation is: 1 insert, 2 modify, 3 delete; a single command's opcode decides (R356). -/
def recOp (opcode : Nat) (r : TRec) : Nat :=
  match opcode with
  | 0x30 => 1
  | 0x31 => 2
  | 0x32 => 3
  | _ => r.op

/-- What an operation uses of a record: a delete, only its table and key (R355). -/
def usedOf (op : Nat) (r : TRec) : TRec := if op == 3 then { r with data := [], cntClr := false } else r

/-- An insert that modifies the entry it finds. -/
def opWith (c : GenCopy) (d : TableDef) (op : Nat) (r : TRec) : Nat :=
  if op == 1 && r.upsert && (entryOf c d r).isSome then 2 else op

/-- The status and detail a record is refused with against a copy (R361). The order among the details is a DESIGN CHOICE
(log entry 33). -/
def recCheck (s : State) (c : GenCopy) (op0 : Nat) (r : TRec) : Option Reply :=
  match tableIn c r.table with
  | none => some (rInv 1)
  | some d =>
    let op := opWith c d op0 r
    let found := (entryOf c d r).isSome
    if keyWrong d (usedOf op r) || op == 0 then some (rInv 5)
    else if op != 3 && counterWrong c r.counter then some (rInv 6)
    else if recPoisoned s d r then some (rStat .uncorr)
    else if op == 1 && found then some (rInv 3)
    else if op != 1 && !found then some (rInv 4)
    else if op != 3 && prioTaken c d r then some (rInv 3)
    else if op == 1 && recFull c d r then some (rInv 2)
    else if op == 1 && decide (d.capacity ≤ liveEntries c r.table + stagedEntries s r.table) then some (rStat .busy)
    else none

/-! ## Records applied -/

/-- A counter pair at zero, with its cached increments (R356, R364). -/
def pairZero (s : State) (i : Nat) : State :=
  { s with pairs := tabDel s.pairs (i, 0), cache := s.cache.filter (fun e => !Nat.beq e.1.2 i) }

/-- The entry a record makes; EXACT and INDEX data is padded with zero (R356). -/
def entryFrom (d : TableDef) (r : TRec) (stash : Bool) : Entry :=
  let pad := if d.kind == 2 || d.kind == 4 then dataMax d - r.data.length else 0
  ⟨r.table, r.key, r.mask, if d.kind == 1 then r.plen else 0, if d.kind == 3 then r.prio else 0, r.action,
    r.data ++ leBytes pad 0, recCounter r.counter, stash⟩

/-- Entries of table t in the stash. -/
def stashed (c : GenCopy) (t : Nat) : Nat := (c.entries.filter (fun e => e.table == t && e.stash)).length

/-- An EXACT insert may find both its buckets full: enough other entries stand in buckets (R350). -/
def mayStash (c : GenCopy) (d : TableDef) (t : Nat) : Bool :=
  d.kind == 2 && decide (2 * (64 / d.slot) ≤ liveEntries c t - stashed c t)

/-- The entry of a record put in place of one with its key, or added. -/
def putEntry (c : GenCopy) (d : TableDef) (r : TRec) (e : Entry) : GenCopy :=
  if (entryOf c d r).isSome then
    { c with entries := c.entries.map (fun x => if sameKey d r x then { e with stash := x.stash } else x) }
  else { c with entries := c.entries ++ [e] }

/-- A record applied to a copy, with whether an insert collided (R350). Whether 64 moves find an EXACT entry a slot, the
hash functions decide, which the spec does not give: a free value (log entry 9). -/
def recPut (s : State) (c : GenCopy) (op0 : Nat) (r : TRec) : State × GenCopy × Bool :=
  match tableIn c r.table with
  | none => (s, c, false)
  | some d =>
    match opWith c d op0 r with
    | 3 => (s, { c with entries := c.entries.filter (fun e => !sameKey d r e) }, false)
    | 2 => (s, putEntry c d r (entryFrom d r false), false)
    | _ =>
      if mayStash c d r.table then
        if freeNat s % 2 == 0 then (took s, putEntry c d r (entryFrom d r false), false)
        else if 256 ≤ stashed c r.table then (took s, c, true)
        else (took s, putEntry c d r (entryFrom d r true), false)
      else (s, putEntry c d r (entryFrom d r false), false)

/-- A record that failed with COLLIDE (R350). -/
def collided (s : State) (t : Nat) : State := faultC (0x700 + t) (bump s TBL_ERR.COLLIDE t)

/-- What a record writes to Granary: the leaf of a staircase that no pinned range holds in SRAM, or a slot (R346 to R350). -/
def recStore (s : State) (d : Option TableDef) (role : Nat) (r : TRec) : State :=
  match d with
  | none => s
  | some d =>
    if d.place != 1 || isPinned d r.key r.plen then s
    else granaryWrite s (if d.kind == 1 then (if d.keyBytes == 8 then 32 else 16) else d.slot) role

/-- A record applied to copy g: counted, its counter cleared where it asks (R356, R365). None = it collided. -/
def recApply (s : State) (g op role : Nat) (r : TRec) : State × Bool :=
  let (s1, c, bad) := recPut s (genOf s g) op r
  if bad then (collided s1 r.table, false)
  else
    let s2 := stat (setGen s1 g c) TBL_UPD.APPLIED 0 1
    let s3 := match (usedOf op r).cntClr, recCounter r.counter with
      | true, some i => pairZero s2 i
      | _, _ => s2
    (perf (recStore s3 (tableIn c r.table) role r) { perfE 0x60 1 with qual := r.table, role := role }, true)

/-! ## Commands (R355) -/

/-- A refused record is counted (R365). -/
def refused (s : State) : State := bump s TBL_UPD.FAILED 0

/-- Immediate records in order, until one fails: the state, how many were applied, the failure (R359). -/
def applyAll (opcode role : Nat) : List TRec → Nat → State → State × Nat × Option Reply
  | [], n, s => (s, n, none)
  | r :: t, n, s =>
    let op := recOp opcode r
    match recCheck s (curGen s) op r with
    | some p => (refused s, n, some p)
    | none =>
      match recApply s (genNow s) op role r with
      | (s1, true) => applyAll opcode role t (n + 1) s1
      | (s1, false) => (refused s1, n, some (rInv 7))

/-- FILL_DONE = 0 (R345). -/
def fillBusy (s : State) : Option Reply := if flag s GLB_BOOT_STAT.FILL_DONE 0 then none else some (rStat .busy)

/-- The first record that the current copy refuses, of an item to be staged (R359, R360). -/
def stageRefuse (s : State) (opcode : Nat) (rs : List TRec) : Option Reply :=
  rs.findSome? (fun r =>
    match recCheck s (curGen s) (recOp opcode r) r with
    | some p => if p.status = .busy || (p.status = .invalid && p.detail == 2) then none else some p
    | none => none)

/-- The records of a command. -/
def cmdRecs (s : State) (a : Acc) : List TRec := recsOf (isTern s) a

/-- TBL_INSERT, TBL_MODIFY, TBL_DELETE and TBL_BULK (R355, R357, R359, R360). -/
def opRecords (op ptr : Nat) : OpSpec :=
  ⟨op, ptr, true, false, noBad, noTargets,
    fun s a => firstOf [fillBusy s, if a.cmd.stage then stageRefuse s op (cmdRecs s a) else none],
    fun _ a s =>
      match applyAll op (2 ^ a.role / 2) (cmdRecs s a) 0 s with
      | (t, _, none) => .done (sumNoteAll t a) rOk
      | (t, n, some p) =>
        .done (if n == 0 then t else sumNoteAll t a) (if op == 0x33 then { p with data := some n } else p)⟩

def opTblInsert : OpSpec := opRecords 0x30 2
def opTblModify : OpSpec := opRecords 0x31 2
def opTblDelete : OpSpec := opRecords 0x32 2
def opTblBulk : OpSpec := opRecords 0x33 1

/-- The default result a TBL_DEFAULT gives. -/
def defaultFrom (a : Acc) : DefRes := ⟨opdB a 0x11 % 64, sliceOf a.cmd.payload 4 8, recCounter (opd a 0x1C 4)⟩

/-- A default result set in one copy. -/
def putDefault (c : GenCopy) (a : Acc) : GenCopy := { c with defaults := tabPut c.defaults (opdB a 0x10, 0) (defaultFrom a) }

/-- TBL_DEFAULT (R355). -/
def opTblDefault : OpSpec :=
  ⟨0x34, 0, true, false, noBad, noTargets,
    fun s a => firstOf [fillBusy s,
      if (tableIn (curGen s) (opdB a 0x10)).isNone then some (rInv 1)
      else if counterWrong (curGen s) (opd a 0x1C 4) then some (rInv 6) else none],
    fun _ a s => .done (sumNoteAll (setGen s (genNow s) (putDefault (curGen s) a)) a) rOk⟩

/-- The bytes of a stored record (R356). -/
def entryBytesOf (d : TableDef) (e : Entry) : List Byte :=
  let b := bytesOf [1, e.table, e.key.length, e.data.length, e.action, e.plen] ++ leBytes 2 e.prio
    ++ leBytes 4 (e.counter.getD (2 ^ 31)) ++ leBytes 4 0 ++ e.key ++ (if d.kind == 3 then e.mask else []) ++ e.data
  b ++ leBytes ((8 - b.length % 8) % 8) 0

/-- TBL_READ (R355, R360, R361): the record the buffer's key names, from the current copy. -/
def opTblRead : OpSpec :=
  ⟨0x35, 1, false, false, noBad, noTargets,
    fun s a => firstOf [fillBusy s,
      match (cmdRecs s a).head? with
      | none => some (rInv 5)
      | some r =>
        match tableIn (curGen s) r.table with
        | none => some (rInv 1)
        | some d => if keyWrong d { r with short := false, data := [] } then some (rInv 5)
            else if recPoisoned s d r then some (rStat .uncorr) else none],
    fun _ a s =>
      match (cmdRecs s a).head? with
      | none => .done s (rInv 5)
      | some r =>
        match tableIn (curGen s) r.table with
        | none => .done s (rInv 1)
        | some d =>
          match entryOf (curGen s) d r with
          | none => .done s ⟨.ok, 4, none, false⟩
          | some e => .done (toHost s (opd a 0x10 8) ((entryBytesOf d e).take a.cmd.buf.length)) rOk⟩

/-! ## Counters (R353, R354) -/

/-- The exact counts at an index: stored and cached (R354). -/
def pairNow (s : State) (i : Nat) : Pair :=
  (s.cache.filter (fun e => Nat.beq e.1.2 i)).foldl (fun p e => pairAdd p e.2) (pairOf s i)

/-- Index of TBL_CNT_READ. -/
def cntIndex (a : Acc) : Nat := if a.cmd.ptr then opd a 0x1C 4 else opd a 0x10 4

/-- TBL_CNT_READ (R354, R355). -/
def opTblCntRead : OpSpec :=
  ⟨0x36, 2, false, false, fun _ a => badIf (a.cmd.ptr && a.cmd.buf.length != 16), noTargets,
    fun s a => firstOf [fillBusy s, if (curGen s).cntN ≤ cntIndex a then some (rInv 6) else none],
    fun _ a s =>
      let p := pairNow s (cntIndex a)
      .done (if a.cmd.ptr then toHost s (opd a 0x10 8) (leBytes 8 p.1 ++ leBytes 8 p.2) else s) (rData p.1)⟩

/-- TBL_CNT_CLEAR (R355, R364). -/
def opTblCntClear : OpSpec :=
  ⟨0x37, 0, false, false, fun _ a => badIf (opd a 0x14 4 == 0 || 33554432 < opd a 0x14 4), noTargets,
    fun s a => firstOf [fillBusy s, if (curGen s).cntN < opd a 0x10 4 + opd a 0x14 4 then some (rInv 6) else none],
    fun _ a s =>
      let inRange := fun (i : Nat) => decide (opd a 0x10 4 ≤ i) && decide (i < opd a 0x10 4 + opd a 0x14 4)
      .done { s with pairs := s.pairs.filter (fun e => !inRange e.1.1), cache := s.cache.filter (fun e => !inRange e.1.2) } rOk⟩

/-- COUNTER_WRITEBACK (R354): a line of die d's cache is added to its stored pair; one that met an uncorrectable error
restarts at the cached increments. The stack that erred is a free value (log entry 9). -/
def execCounterWriteback (d : Fin 4) (index : Nat) (uncorr : Bool) (s : State) : Host.Outcome State Fault Refusal :=
  .next (
    match tabGet s.cache (d.val, index) with
    | none => s
    | some p =>
      if uncorr then
        let n := 8 + freeNat s % 2
        let s1 := { s with cache := tabDel s.cache (d.val, index), pairs := tabPut s.pairs (index, 0) p }
        faultK 0x7FF (perf (bump (took s1) MEM_CTRL_STAT.UNCORR n) { perfE 0x84 1 with qual := n, role := 8 })
      else lineBack s (d.val, index) p)

/-! ## Clearing and repair (R355, R363) -/

/-- A landing that is not FREE carries items for table t (R364). -/
def tableStaged (s : State) (t : Nat) : Bool := s.cargo.any (fun e => e.2.any (itemNames s t))

/-- A table emptied in one copy, its default result zero. -/
def clearIn (c : GenCopy) (t : Nat) : GenCopy :=
  { c with entries := c.entries.filter (fun e => e.table != t), defaults := tabDel c.defaults (t, 0) }

/-- TBL_CLEAR (R355, R364). -/
def opTblClear : OpSpec :=
  ⟨0x38, 0, false, false, noBad, noTargets,
    fun s a => firstOf [fillBusy s,
      if (tableIn (curGen s) (opdB a 0x10)).isNone then some (rInv 1)
      else if tableStaged s (opdB a 0x10) then some (rStat .busy)
      else if s.poison.any (fun e => e.1.1 == opdB a 0x10) then some (rStat .uncorr)
      else none],
    fun _ a s => .done (sumNoteAll (setGen s (genNow s) (clearIn (curGen s) (opdB a 0x10))) a) rOk⟩

/-- The range a log entry names. -/
def plogRange (s : State) (n : Nat) : Nat × Nat := (rd s TBL_POISON_LOG.BASE n, rd s TBL_POISON_LOG.PLEN n)

/-- A key lies within a range: a prefix no shorter than the range, an EXACT key of the bucket (R363). -/
def inRange (d : TableDef) (t : Nat) (key : List Byte) (plen : Nat) (rng : Nat × Nat) : Bool :=
  touches d t key plen rng && (d.kind != 1 || decide (rng.2 ≤ plen))

/-- A record of TBL_REPAIR is refused. -/
def repairCheck (s : State) (n : Nat) (d : TableDef) (r : TRec) : Option Reply :=
  if r.table != rd s TBL_POISON_LOG.TABLE n || keyWrong d r || !inRange d r.table r.key r.plen (plogRange s n) then
    some (rInv 5)
  else if counterWrong (curGen s) r.counter then some (rInv 6)
  else none

/-- A copy with the entries of a range taken out. -/
def emptyRange (c : GenCopy) (d : TableDef) (t : Nat) (rng : Nat × Nat) : GenCopy :=
  { c with entries := c.entries.filter (fun e => !(e.table == t && inRange d t e.key e.plen rng)) }

/-- The records of a TBL_REPAIR: the whole buffer. -/
def repairRecs (s : State) (a : Acc) : List TRec := recParseAll (isTern s) (a.cmd.buf.length / 16 + 1) a.cmd.buf

/-- TBL_REPAIR (R363): the block is emptied, its records applied, its mark cleared. -/
def opTblRepair : OpSpec :=
  ⟨0x39, 1, false, false, fun _ a => badIf (31 < opd a 0x1C 4), noTargets,
    fun s a =>
      let n := opd a 0x1C 4
      firstOf [fillBusy s,
        invIf (!flag s TBL_POISON_LOG.VALID n || flag s TBL_POISON_LOG.REPAIRED n),
        match tableIn (curGen s) (rd s TBL_POISON_LOG.TABLE n) with
        | none => some (rInv 1)
        | some d => (repairRecs s a).findSome? (repairCheck s n d)],
    fun _ a s =>
      let n := opd a 0x1C 4
      let t := rd s TBL_POISON_LOG.TABLE n
      match tableIn (curGen s) t with
      | none => .done s (rInv 1)
      | some d =>
        let s1 := setGen s (genNow s) (emptyRange (curGen s) d t (plogRange s n))
        let s2 := wr { s1 with poison := tabDel s1.poison (t, rd s TBL_POISON_LOG.BLOCK n) } TBL_POISON_LOG.REPAIRED n 1
        match applyAll 0x33 (2 ^ a.role / 2) ((repairRecs s a).map (fun r => { r with op := 1, upsert := true })) 0 s2 with
        | (u, _, none) => .done (sumNoteAll u a) rOk
        | (u, k, some p) => .done (sumNoteAll u a) { p with data := some k }⟩

def execTblInsert (r : Ring) (s : State) : Host.Outcome State Fault Refusal := .next (dispatch opTblInsert r.val s)
def execTblModify (r : Ring) (s : State) : Host.Outcome State Fault Refusal := .next (dispatch opTblModify r.val s)
def execTblDelete (r : Ring) (s : State) : Host.Outcome State Fault Refusal := .next (dispatch opTblDelete r.val s)
def execTblBulk (r : Ring) (s : State) : Host.Outcome State Fault Refusal := .next (dispatch opTblBulk r.val s)
def execTblDefault (r : Ring) (s : State) : Host.Outcome State Fault Refusal := .next (dispatch opTblDefault r.val s)
def execTblRead (r : Ring) (s : State) : Host.Outcome State Fault Refusal := .next (dispatch opTblRead r.val s)
def execTblCntRead (r : Ring) (s : State) : Host.Outcome State Fault Refusal := .next (dispatch opTblCntRead r.val s)
def execTblCntClear (r : Ring) (s : State) : Host.Outcome State Fault Refusal := .next (dispatch opTblCntClear r.val s)
def execTblClear (r : Ring) (s : State) : Host.Outcome State Fault Refusal := .next (dispatch opTblClear r.val s)
def execTblRepair (r : Ring) (s : State) : Host.Outcome State Fault Refusal := .next (dispatch opTblRepair r.val s)

end Sys2Proof.Machine
end

