-- ==== Sys2Proof/Machine/Traffic.lean ====
section
/-! DEFINITION. Buffers, queues and gates (R366 to R389): placement in Hopper and Silo, admission, dequeue, flow control,
gate lists, the scheduler tree with its buckets, and the commands of R386. Among children of equal rank the event chooses
(log entry 36). -/

namespace Sys2Proof.Machine

/-! ## Occupancy (R366 to R368) -/

/-- Silo stacks of a hall in service, and its Silo's bytes (R367). -/
def siloStacks (s : State) (h : Nat) : List Nat :=
  (List.range 4).filter (fun n => rd s MEM_CTRL_STAT.STATE (4 * h + n) == 1)
def siloSize (s : State) (h : Nat) : Nat := 40000000000 * (siloStacks s h).length
def siloFree (s : State) (h : Nat) : Nat := siloSize s h - siloBytes (hallPkts s h)

/-- Depth of a queue in bytes (R374). -/
def depthOf (s : State) (q : Nat) : Nat := hopperCells (queuePkts s q) * 256 + siloBytes (queuePkts s q)

/-- Hopper limit of a queue in bytes: SPILL_KIB, or ALPHA's share of the free pool (R368). -/
def hopperLimit (s : State) (q : Nat) : Nat :=
  let n := (queueOf s q).profile
  min (rd s TMG_PROFILE.SPILL_KIB n * 1024) (poolFree s (hallOf q) * 256 * 2 ^ rd s TMG_PROFILE.ALPHA n / 64)

/-- A SPILLED queue without packets in Silo and at half its limit is NORMAL again (R368). -/
def queueSettle (s : State) (q : Nat) : State :=
  let x := queueOf s q
  if x.spilled && siloBytes (queuePkts s q) == 0 && 2 * 256 * hopperCells (queuePkts s q) ≤ hopperLimit s q then
    setQueue s q { x with spilled := false }
  else s

/-! ## Flow control (R381) -/

/-- Bytes held in both halls for packets that entered on port p in class n. -/
def pfcHeld (s : State) (p n : Nat) : Nat :=
  (s.pkts.filter (fun k => k.inPort == p && k.tc == n && !k.host && (match k.loc with
    | .queue _ => true
    | _ => false))).foldl (fun b k => b + k.len) 0

/-- The MAC of port p sends a flow-control frame of a class (R290, R381). -/
def pfcSend (s : State) (p n quanta : Nat) : State :=
  if !portUp s p then s else perfPort (bump (emit s (.pfc p n quanta)) PRT_MAC_ERR.PFC_TX p) p 0x39 0 1

/-- The count of a port and class is held against its thresholds (R381). -/
def pfcCheck (s : State) (p n : Nat) : State :=
  let x := rd s TMG_PORT.XOFF p
  let held := pfcHeld s p n
  if bitOf x n then
    if held < rd s TMG_PFC.XON_KIB p * 1024 then pfcSend (wr s TMG_PORT.XOFF p (clrBit x n)) p n 0 else s
  else if bitOf (rd s TMG_PFC.EN p) n && rd s TMG_PFC.XOFF_KIB p * 1024 < held then
    perf (pfcSend (wr s TMG_PORT.XOFF p (setBit x n)) p n 0xFFFF) { perfE 0x7A 1 with kind := 3, index := p, tc := n }
  else s

/-- Flow control after packets left the halls. -/
def pfcAfter (s : State) (ks : List Pkt) : State := ks.foldl (fun t k => if k.host then t else pfcCheck t k.inPort k.tc) s

/-- PFC_REFRESH (R381): half the pause time has passed in XOFF. -/
def execPfcRefresh (p : Port) (cls : Fin 8) (s : State) : Host.Outcome State Fault Refusal :=
  .next (if bitOf (rd s TMG_PORT.XOFF p.val) cls.val then pfcSend s p.val cls.val 0xFFFF else s)

/-! ## The scheduler tree (R377) -/

def nodeLevel (id : Nat) : Nat := id / 1048576
def nodeIndex (id : Nat) : Nat := id % 1048576

/-- A node ID of levels 1 to 4 names a node. -/
def nodeValid (id : Nat) : Bool :=
  match nodeLevel id with
  | 1 => decide (nodeIndex id < 512)
  | 2 => decide (nodeIndex id < 8192)
  | 3 => decide (nodeIndex id < 65536)
  | 4 => decide (nodeIndex id < 262144)
  | _ => false

/-- The hall of a node. -/
def nodeHall (id : Nat) : Nat :=
  match nodeLevel id with
  | 1 => nodeIndex id / 256
  | 2 => nodeIndex id / 4096
  | 3 => nodeIndex id / 32768
  | _ => nodeIndex id / 131072

/-- A node as it starts: detached, no shaping, its buckets full (R377, R379; log entry 36). -/
def NodeS.init : NodeS := ⟨none, 0, 1, 0, 0, 16, 16, 0, 0, false, 0, 16 * 1024 * 3125, 16 * 1024 * 3125, 0⟩

/-- A node nothing has set: the PIR of a level-1 node starts at its port's rate, which `portPir` stands for (R379). -/
def portPir : Nat := 2 ^ 20
def nodeFirst (id : Nat) : NodeS := if nodeLevel id == 1 then { NodeS.init with pir := portPir } else NodeS.init

def nodeOf (s : State) (id : Nat) : NodeS := (tabGet s.nodes (id, 0)).getD (nodeFirst id)
def setNode (s : State) (id : Nat) (x : NodeS) : State := { s with nodes := tabPut s.nodes (id, 0) x }

/-- The chain from a node up, itself first, at most n nodes. -/
def nodeChain (s : State) : Nat → Nat → List Nat
  | 0, _ => []
  | n + 1, id =>
    if nodeLevel id ≤ 1 then [id]
    else
      match (nodeOf s id).parent with
      | some p => id :: nodeChain s n p
      | none => [id]

/-- The port whose level-1 node ends the chain above a node; none = detached. -/
def rootPort (s : State) (id : Nat) : Option Nat :=
  match (nodeChain s 5 id).getLast? with
  | some r => if nodeLevel r == 1 then some (nodeIndex r) else none
  | none => none

/-- The parent of a queue: the one TMG_Q_SET named if it lies under the queue's port, else the port's level-1 node
(R369, R370). -/
def queueParent (s : State) (q : Nat) : Nat :=
  let x := queueOf s q
  let p := queuePort s q
  if x.setByCmd && rootPort s x.parent == some p then x.parent else 1048576 + p

/-! ## Shaping (R379) -/

/-- Line rate of a port in Gbit/s as R379 takes it. -/
def lineRate (s : State) (p : Nat) : Nat :=
  if portRate s p != 0 then portRate s p
  else
    match portDef s p with
    | some d => 200 * d.width
    | none => 200

/-- Bytes a frame is charged at a port (R379). -/
def chargedLen (s : State) (p len : Nat) : Nat := ((len : Int) + sext 7 (rd s TMG_PORT.ADJ p)).toNat

/-- A bucket some ticks later, in units of 1/3125 byte: a rate of 8 Mbit/s adds 4 in a tick (R379). -/
def bucketAt (tok : Int) (rate kib ticks : Nat) : Int := min ((kib * 1024 * 3125 : Nat) : Int) (tok + ((4 * rate * ticks : Nat) : Int))

/-- The rate of a node's peak bucket in 8 Mbit/s, 0 = no limit; that of a level-1 node is at most its port's (R379). -/
def nodePeak (s : State) (id : Nat) : Nat :=
  let r := (nodeOf s id).pir
  if nodeLevel id == 1 then
    let top := 125 * lineRate s (nodeIndex id)
    if r == 0 then top else min r top
  else r

/-- A node, and a queue, with its buckets at this tick. -/
def nodeFilled (s : State) (id : Nat) : NodeS :=
  let x := nodeOf s id
  let d := rd s HID.TICKS 0 - x.tokAt
  { x with cTok := bucketAt x.cTok x.cir x.cbs d, pTok := bucketAt x.pTok (nodePeak s id) x.pbs d, tokAt := rd s HID.TICKS 0 }
def queueFilled (s : State) (q : Nat) : QueueS :=
  let x := queueOf s q
  { x with pTok := bucketAt x.pTok x.pir x.pbs (rd s HID.TICKS 0 - x.tokAt), tokAt := rd s HID.TICKS 0 }

/-- A child is COMMITTED while its committed bucket holds tokens (R378). -/
def NodeS.committed (x : NodeS) : Bool := x.cir != 0 && decide (0 < x.cTok)

/-- The node ID of a queue (R377). -/
def queueNode (q : Nat) : Nat := 5 * 1048576 + q

/-- From the level-1 node of a queue's port down to the queue. -/
def queuePath (s : State) (q : Nat) : List Nat := (nodeChain s 5 (queueParent s q)).reverse ++ [queueNode q]

/-- The peak bucket of a node or queue is not negative (R378). -/
def peakOpen (s : State) (id : Nat) : Bool :=
  if nodeLevel id == 5 then (queueOf s (nodeIndex id)).pir == 0 || decide (0 ≤ (queueFilled s (nodeIndex id)).pTok)
  else nodePeak s id == 0 || decide (0 ≤ (nodeFilled s id).pTok)

/-- A child's rank with its parent: COMMITTED before EXCESS, then by PRIO (R378). -/
def rankOf (s : State) (id : Nat) : Nat :=
  if nodeLevel id == 5 then 256 + (queueOf s (nodeIndex id)).prio
  else (if (nodeFilled s id).committed then 0 else 256) + (nodeFilled s id).prio

/-- WEIGHT and the bytes left of the round of a child (R378). -/
def weightOf (s : State) (id : Nat) : Nat :=
  if nodeLevel id == 5 then (queueOf s (nodeIndex id)).weight else (nodeOf s id).weight
def deficitOf (s : State) (id : Nat) : Nat :=
  if nodeLevel id == 5 then (queueOf s (nodeIndex id)).deficit else (nodeOf s id).deficit
def putDeficit (s : State) (id n : Nat) : State :=
  if nodeLevel id == 5 then setQueue s (nodeIndex id) { queueOf s (nodeIndex id) with deficit := n }
  else setNode s id { nodeOf s id with deficit := n }

/-- A child's quantum of a round: WEIGHT times 64 bytes (R378). -/
def quantumOf (s : State) (id : Nat) : Nat := 64 * weightOf s id

/-- Further rounds of deficit round robin until a child may send a frame of some bytes (R378). -/
def roundsOf (s : State) (id len : Nat) : Nat := (len - deficitOf s id + (quantumOf s id - 1)) / quantumOf s id

/-- The children at which two paths part. -/
def partAt : List Nat → List Nat → Option (Nat × Nat)
  | a :: l, b :: m => if a == b then partAt l m else some (a, b)
  | _, _ => none

/-- How many nodes two paths share. -/
def sharedLen : List Nat → List Nat → Nat
  | a :: l, b :: m => if a == b then sharedLen l m + 1 else 0
  | _, _ => 0

/-- Of two siblings whose frames have these lengths, the first goes no later: by rank, then by the rounds it needs (R378).
The order within a round is the event's choice (log entry 36). -/
def siblingFirst (s : State) (a lenA b lenB : Nat) : Bool :=
  decide (rankOf s a < rankOf s b) || (rankOf s a == rankOf s b && decide (roundsOf s a lenA ≤ roundsOf s b lenB))

/-- A dequeued frame is counted at a node, and its charge taken from the node's buckets: the committed one of a COMMITTED
node, the peak one of a node with a peak limit (R379, R387). -/
def nodeSent (s : State) (id len charge : Nat) : NodeS :=
  let x := nodeFilled s id
  { x with deqP := (x.deqP + 1) % 2 ^ 64, deqB := (x.deqB + len) % 2 ^ 64, wrap := x.wrap || wraps x.deqP 1 || wraps x.deqB len, cTok := if x.committed then x.cTok - ((3125 * charge : Nat) : Int) else x.cTok, pTok := if nodePeak s id == 0 then x.pTok else x.pTok - ((3125 * charge : Nat) : Int) }

/-- The nodes of a queue's chain after one of its frames left. -/
def chainSent (s : State) (q len charge : Nat) : State :=
  (nodeChain s 5 (queueParent s q)).foldl (fun t id => setNode t id (nodeSent t id len charge)) s

/-! ## Admission (R373 to R375) -/

/-- The average after an arrival, in 2^-16 bytes (R375). -/
def avgNext (avg depth w : Nat) : Nat :=
  let d := depth * 65536
  if avg ≤ d then avg + (d - avg) / 2 ^ w else avg - (avg - d) / 2 ^ w

/-- Early drop: the draw, a fraction of 2^32, falls below the probability (R375). -/
def redDrop (s : State) (n avg draw : Nat) : Bool :=
  let lo := rd s TMG_PROFILE.RED_MIN_KIB n * 1024 * 65536
  let hi := rd s TMG_PROFILE.RED_MAX_KIB n * 1024 * 65536
  if avg < lo then false
  else if hi ≤ avg then true
  else draw % 2 ^ 32 * 256 * (hi - lo) < rd s TMG_PROFILE.RED_PMAX n * (avg - lo) * 2 ^ 32

/-- Where a packet goes (R368). -/
inductive Place where
  | hopper | silo | hopperFull | siloFull
  deriving DecidableEq, Repr

/-- Silo cannot take the packet: to Hopper if the pool has its cells (R368). -/
def placeBack (s : State) (h : Nat) (k : Pkt) (full : Bool) : Place :=
  if cellsOf k ≤ poolFree s h then .hopper else if full then .siloFull else .hopperFull

/-- Placement under R368: whether the queue is SPILLED after it, and the place. -/
def placeOf (s : State) (h q : Nat) (k : Pkt) (busy : Bool) : Bool × Place :=
  let occ := 256 * (hopperCells (queuePkts s q) + cellsOf k)
  let spilled := (queueOf s q).spilled
  if !spilled && occ ≤ hopperLimit s q && cellsOf k ≤ poolFree s h then (false, .hopper)
  else if (siloStacks s h).isEmpty then (true, placeBack s h k false)
  else if siloFree s h < k.len then (true, placeBack s h k true)
  else if busy then (true, placeBack s h k false)
  else (true, .silo)

/-- A packet joins its queue: stamped here if the host sent it to the queue, counted, traced (R176, R374). -/
def enqueue (s : State) (h q : Nat) (k : Pkt) (silo : Bool) : State :=
  let x := queueOf s q
  let s1 := setQueue s q { x with enqP := (x.enqP + 1) % 2 ^ 64, enqB := (x.enqB + k.len) % 2 ^ 64, wrap := x.wrap || wraps x.enqP 1 || wraps x.enqB k.len }
  let d := depthOf s q
  let p := queuePort s1 q
  let k1 := { k with loc := .queue q, silo := silo, hold := false, outPort := p, enqAt := rd s HID.TICKS 0, depth := min 0xFFFF (d / 1024) }
  let s2 := trace (sendPkt s1 k1) k1 5 (0x100 + h) p 0 (d / 1024)
  let ev := fun (t : State) (code n : Nat) => perf t { perfE code n with kind := 3, index := p, tc := k.tc, cls := k.cls }
  let s3 := ev (ev s2 0x70 1) 0x71 k.len
  let s4 := if silo then perfDram (ev s3 0x74 k.len) 0x81 (4 * h) 4 ((k.len + 63) / 64) 8 else s3
  if k.host then s4 else pfcCheck s4 k.inPort k.tc

/-- Steps 2 to 4 of R374. -/
def admitQueue (s : State) (h q : Nat) (k : Pkt) (busy : Bool) : State :=
  let x := queueOf s q
  let n := x.profile
  let red := flag s TMG_PROFILE.RED_EN n
  let s1 := if red then setQueue s q { x with avg := avgNext x.avg (depthOf s q) (rd s TMG_PROFILE.RED_W n) } else s
  if rd s TMG_PROFILE.MAX_KIB n * 1024 < depthOf s1 q + k.len then hallDrop s1 h 0x11 (some q) k
  else if red && redDrop s1 n (queueOf s1 q).avg (freeNat s1) then hallDrop (took s1) h 0x12 (some q) k
  else
    let s2 := queueSettle (if red then took s1 else s1) q
    let (sp, pl) := placeOf s2 h q k busy
    let y := queueOf s2 q
    let s3 := if sp && !y.spilled then
        perf (setQueue s2 q { y with spilled := true })
          { perfE 0x76 1 with kind := 3, index := queuePort s2 q, tc := k.tc, cls := k.cls }
      else s2
    match pl with
    | .hopper => enqueue s3 h q k false
    | .silo => enqueue s3 h q k true
    | .hopperFull => hallDrop s3 h 0x13 (some q) k
    | .siloFull => hallDrop s3 h 0x14 (some q) k

/-- The stamp of a packet at admission: a MODE = 1 frame of the host takes the current generation (R176, R372). -/
def stampAt (s : State) (k : Pkt) : Pkt := if k.host && k.res.isNone then { k with gen := genNow s } else k

/-- A queue keeps its former attachment until the first new-generation packet reaches its head (R370). -/
def attachSettle (s : State) (q : Nat) : State :=
  let x := queueOf s q
  if x.attach.isSome && (queuePkts s q).all (fun k => k.gen % 2 == genNow s) then setQueue s q { x with attach := none } else s

/-- The hall wakes its sleeping Hopper banks when its free pool falls below FREE_KIB (R428). -/
def bankWake (s : State) (h : Nat) : State :=
  if rd s PWR_IDLE.FREE_KIB 2 ≤ poolFree s h / 4 then s
  else
    forEach ((List.range 16).map (fun i => bankDom (16 * h + i))) s (fun d t =>
      if domSt t d == 0 || rd t PWR_DOM.HELD d != 0 || rd t HID.DOM_TGT d == 1 || rd t HID.DOM_NEXT d == 1 then t
      else domMove t d 0 5)

/-- HALL_ADMIT (R374): a packet or copy arrives at its hall; siloBusy = Silo cannot take the write within its bandwidth. A
packet held for a switch marker waits (R317). -/
def execHallAdmit (h : Hall) (pkt : Nat) (siloBusy : Bool) (s : State) : Host.Outcome State Fault Refusal :=
  .next (
    match pktOf s pkt with
    | none => s
    | some k0 =>
      if k0.loc != .toHall h.val || k0.hold || flag s HID.HALL_ISO h.val then s
      else
        let k := stampAt s k0
        match queueTarget s (k.gen % 2) k.queue with
        | some (.port _) =>
          if k0.expired then hallDrop s h.val 0x17 (some k.queue) k else
          let s1 := if k.gen % 2 == genNow s then attachSettle (setPkt s k) k.queue else setPkt s k
          bankWake (admitQueue s1 h.val k.queue k siloBusy) h.val
        | _ => if k0.expired then hallDrop s h.val 0x17 none k else hallDrop s h.val 0x10 none k)

/-! ## Gates (R382 to R384) -/

/-- A list becomes ACTIVE at entry 0 (R382, R384). -/
def gateStart (s : State) (p : Nat) (l : List (Nat × Nat)) : State :=
  bump (wrs s [(TMG_PORT.ENTRY, p, 0), (TMG_PORT.GATES, p, (l.headD (255, 0)).1), (HID.GATE_AT, p, rd s HID.TICKS 0)])
    TMG_PORT.CYCLES p

/-- The gate lists of a port. -/
def gatesOf (s : State) (p : Nat) : Gates := (tabGet s.gates (p, 0)).getD ⟨[], none⟩

/-- A cycle of port p starts (R382): PENDING first becomes ACTIVE where a swap is pending. -/
def gateCycle (s : State) (p : Nat) : State :=
  let g := gatesOf s p
  match g.pending with
  | some l =>
    if flag s TMG_PORT.SWAP_PEND p then
      gateStart (wr { s with gates := tabPut s.gates (p, 0) ⟨l, none⟩ } TMG_PORT.SWAP_PEND p 0) p l
    else if g.active.isEmpty then s else gateStart s p g.active
  | none => if g.active.isEmpty then s else gateStart s p g.active

/-- GATE_ENTRY_ADVANCE (R382): the interval of the entry in force ends; the last entry holds. -/
def execGateEntryAdvance (p : Port) (s : State) : Host.Outcome State Fault Refusal :=
  let l := (gatesOf s p.val).active
  let n := rd s TMG_PORT.ENTRY p.val + 1
  .next (
    if !flag s TMG_PORT.GATE_EN p.val || l.length ≤ n then s
    else wrs s [(TMG_PORT.ENTRY, p.val, n), (TMG_PORT.GATES, p.val, (l.getD n (255, 0)).1),
      (HID.GATE_AT, p.val, rd s HID.TICKS 0)])

/-- Lengths in ns of the open runs of class c in a list that starts at a time of a cycle of `period` ns; `run` = the run in
progress. The last entry holds to the end of the cycle (R382, R383). -/
def openRuns (c period : Nat) : List (Nat × Nat) → Nat → Nat → List Nat
  | [], _, run => [run]
  | e :: t, at', run =>
    let stop := if t.isEmpty then period else min period (at' + e.2)
    if bitOf e.1 c then openRuns c period t stop (run + (stop - at')) else run :: openRuns c period t stop 0

/-- Length in ns of the run of entries in which class c is open; none = it lasts to the end of the list. -/
def openFor (c : Nat) : List (Nat × Nat) → Option Nat
  | [] => none
  | e :: t => if bitOf e.1 c then (openFor c t).map (fun n => e.2 + n) else some 0

/-- Time to the scheduled close of class c's gate at a port, in 1/25 ns: the rest of the run, at most up to the next cycle
start. None = no close is scheduled: gates are off or their event has stopped (R382, R383). -/
def gateLeft (s : State) (p c : Nat) : Option Nat :=
  let l := (gatesOf s p).active
  let ev := rd s TMG_PORT.TEV p
  if !flag s TMG_PORT.GATE_EN p || l.isEmpty || !flag s TIM_TEV_STAT.ARMED ev then none
  else
    let cycle := 25 * (timeOfNow (rd s TIM_TEV_STAT.NEXT ev) - localTime s) / 65536
    match openFor c (l.drop (rd s TMG_PORT.ENTRY p)) with
    | none => some cycle
    | some n => some (min cycle (25 * n - 32 * (rd s HID.TICKS 0 - rd s HID.GATE_AT p)))

/-- A frame started now ends by the scheduled close (R383). -/
def gateFits (s : State) (p c len : Nat) : Bool :=
  match gateLeft s p c with
  | none => true
  | some x => decide (200 * chargedLen s p len ≤ x * lineRate s p)

/-- A head frame is longer than every open run of its class (R383). -/
def gateOversize (s : State) (p c len : Nat) : Bool :=
  let l := (gatesOf s p).active
  let period := rd s HID.TEV_PERIOD (rd s TMG_PORT.TEV p) / 65536
  flag s TMG_PORT.GATE_EN p && !l.isEmpty
    && (openRuns c period l 0 0).all (fun r => r * lineRate s p < 8 * chargedLen s p len)

/-! ## Dequeue (R370, R376, R378) -/

/-- The head of a queue: old-generation packets precede new ones (R370). -/
def headOfQueue (s : State) (q : Nat) : Option Pkt :=
  let l := queuePkts s q
  match l.find? (fun k => k.gen % 2 != genNow s) with
  | some k => some k
  | none => l.head?

/-- The class of a queue may send at its port: gate open, not paused, hall not isolated (R378, R385). -/
def maySend (s : State) (h q : Nat) : Bool :=
  let p := queuePort s q
  let c := (queueOf s q).tc
  !flag s HID.HALL_ISO h && bitOf (rd s TMG_PORT.GATES p) c && rd s HID.PRT_PAUSE (8 * p + c) == 0

/-- A queue has a head frame it may send, and no peak bucket on its path is negative (R378). -/
def eligible (s : State) (h q : Nat) : Bool :=
  match headOfQueue s q with
  | none => false
  | some k => maySend s h q && gateFits s (queuePort s q) (queueOf s q).tc k.len && (queuePath s q).all (peakOpen s)

/-- Other queues of the hall that hold a packet for the same port. -/
def rivals (s : State) (h q : Nat) : List Nat :=
  (s.pkts.filterMap (fun k => match k.loc with
    | .queue e => if e != q && hallOf e == h && queuePort s e == queuePort s q then some e else none
    | _ => none))

/-- Bytes of a queue's head frame. -/
def headLen (s : State) (q : Nat) : Nat := (headOfQueue s q).elim 0 (fun k => k.len)

/-- Queue q goes no later than queue e, by the children at which their paths part (R378). -/
def goesFirst (s : State) (q e : Nat) : Bool :=
  match partAt (queuePath s q) (queuePath s e) with
  | some (a, b) => siblingFirst s a (headLen s q) b (headLen s e)
  | none => true

/-- Each parent at a depth chooses among the queues its children offer (R378). -/
def contest (s : State) (c : List Nat) (depth : Nat) : List Nat :=
  c.filter (fun q => c.all (fun e => sharedLen (queuePath s q) (queuePath s e) != depth || goesFirst s q e))

/-- The queues that the scheduler may choose at q's port: what the parents leave, from the deepest up to the port (R378). -/
def contenders (s : State) (h q : Nat) : List Nat :=
  [5, 4, 3, 2, 1, 0].foldl (contest s) ((q :: rivals s h q).filter (eligible s h))

/-- The scheduler may choose queue q (R378). -/
def schedules (s : State) (h q : Nat) : Bool := eligible s h q && (contenders s h q).contains q

/-- Eligible siblings, of equal rank, of the child c on q's path. -/
def equals (s : State) (h q c : Nat) : List Nat :=
  (((rivals s h q).filter (eligible s h)).filterMap (fun e =>
    match partAt (queuePath s q) (queuePath s e) with
    | some (a, b) => if a == c && rankOf s a == rankOf s b then some b else none
    | none => none)).dedup

/-- The rounds that child c of q's path needs are over: every child of its rank has their quanta, and c's frame is sent
(R378). -/
def roundsRun (s : State) (h q len : Nat) (t : State) (c : Nat) : State :=
  let r := roundsOf s c len
  let t1 := (equals s h q c).foldl (fun u b => putDeficit u b (deficitOf u b + r * quantumOf u b)) t
  putDeficit t1 c (deficitOf t1 c + r * quantumOf t1 c - len)

/-- The round robin of every parent on queue q's path after a frame of q. -/
def drrSent (s : State) (h q len : Nat) : State := (queuePath s q).tail.foldl (roundsRun s h q len) s

/-- A child without a frame below it leaves the round robin: what it had left is gone (R378, DESIGN CHOICE, log entry 36). -/
def drrIdle (s : State) (q : Nat) : State :=
  let busy := (s.pkts.filterMap inQueue).flatMap (queuePath s)
  ((queuePath s q).filter (fun c => !busy.contains c && deficitOf s c != 0)).foldl (fun t c => putDeficit t c 0) s

/-- Residence of a packet in ns: ticks of 1.28 ns since it was enqueued. -/
def residence (s : State) (k : Pkt) : Nat := (rd s HID.TICKS 0 - k.enqAt) * 32 / 25

/-- Packets have left queue q. -/
def queueAfter (s : State) (q : Nat) (ks : List Pkt) : State := pfcAfter (drrIdle (queueSettle s q) q) ks

/-- A drop at the head of a queue. -/
def headDrop (s : State) (h q code : Nat) (k : Pkt) : State := queueAfter (hallDrop s h code (some q) k) q [k]

/-- The frame leaves its queue: counted and charged at the queue and its nodes (R379, R387). -/
def leaveQueue (s : State) (h q : Nat) (k : Pkt) : State :=
  let s0 := drrSent s h q k.len
  let x := queueFilled s0 q
  let charge := chargedLen s (queuePort s q) k.len
  let us := min 0xFFFFFFFF (residence s k / 1000)
  let y := { x with deqP := (x.deqP + 1) % 2 ^ 64, deqB := (x.deqB + k.len) % 2 ^ 64, wrap := x.wrap || wraps x.deqP 1 || wraps x.deqB k.len, maxRes := max x.maxRes us, pTok := if x.pir == 0 then x.pTok else x.pTok - ((3125 * charge : Nat) : Int) }
  let p := queuePort s q
  let s1 := trace (chainSent (setQueue s0 q y) q k.len charge) k 6 (0x100 + h) p 0 (depthOf s q / 1024)
  let ev := fun (t : State) (code n : Nat) => perf t { perfE code n with kind := 3, index := p, tc := k.tc, cls := k.cls }
  let s2 := ev (ev (ev s1 0x72 1) 0x73 k.len) 0x78 (residence s k)
  if k.silo then perfDram (ev s2 0x75 k.len) 0x80 (4 * h) 4 ((k.len + 63) / 64) 8 else s2

/-- The frame enters the egress flight of the gallery that serves its egress sheaf for its generation (R181, R334), or is
dropped there. -/
def enterEgress (s : State) (q x : Nat) (look : Option Nat) (k : Pkt) : State :=
  let p := queuePort s q
  let k1 := { k with loc := .egress x, outPort := p, queue := q, silo := false, seq := nextNum s, resNs := min 0xFFFFFFFF (residence s k) }
  let s1 := stat (sendPkt (tookNum s) k1) GAL_CNT.EGR_PKTS x 1
  let s2 := perfGal (trace s1 k1 7 x p 0 0) x 0x51 0 1 k1
  match look with
  | some t => lookIssue s2 x true t k1
  | none => s2

/-- The egress gallery has no room: its flight, reorder stage or window (R331, R332, R334). -/
def egressHeld (s : State) (x : Nat) (look : Option Nat) : Bool :=
  decide (1024 ≤ countAt s (.egressReorder x)) || (look.isSome && !windowFree s x true)

/-- A frame dequeued for its egress gallery. -/
def dequeueTo (s : State) (h q : Nat) (look : Option Nat) (k : Pkt) : State :=
  let sh := queuePort s q / 8
  let done := fun (t : State) =>
    let u := queueAfter t q [k]
    if k.silo then siloFreed u h else u
  match servedBy s (k.gen % 2) sh with
  | none => done (galDrop (leaveQueue s h q k) sh (if imageOn s then 0x08 else 0x02) k)
  | some x =>
    let st := rd s GAL_STAT.STATE x
    if st == 5 then done (galDrop (leaveQueue s h q k) sh 0x08 k)
    else if st == 0 then done (galDrop (leaveQueue s h q k) x 0x02 k)
    else if egressHeld s x look then s
    else done (enterEgress (leaveQueue s h q k) q x look k)

/-- HALL_DEQUEUE (R376, R378): the scheduler's choice falls on queue q. A packet of an expired old generation is dropped
without port time. -/
def execHallDequeue (h : Hall) (q : Fin 1048576) (uncorr : Bool) (look : Option (Fin 256)) (s : State) :
    Host.Outcome State Fault Refusal :=
  .next (
    if hallOf q.val != h.val then s
    else
      let s1 := attachSettle s q.val
      match headOfQueue s1 q.val with
      | none => s1
      | some k =>
        let c := (queueOf s1 q.val).tc
        let age := rd s1 TMG_PROFILE.AGE_MS (queueOf s1 q.val).profile
        if flag s1 HID.HALL_ISO h.val then s1
        else if k.expired then headDrop s1 h.val q.val 0x17 k
        else if gateOversize s1 (queuePort s1 q.val) c k.len then headDrop s1 h.val q.val 0x16 k
        else if !schedules s1 h.val q.val then s1
        else if uncorr then faultC (0x810 + h.val) (headDrop s1 h.val q.val 0x19 k)
        else if age != 0 && age * 1000000 < residence s1 k then headDrop s1 h.val q.val 0x15 k
        else dequeueTo s1 h.val q.val (look.map (·.val)) k)

/-- TM_INTERNAL_ERROR (R385): the hall's queues are isolated: they neither admit nor send (log entry 37). -/
def execTmInternalError (h : Hall) (s : State) : Host.Outcome State Fault Refusal :=
  .next (faultK (0x800 + h.val) (wr s HID.HALL_ISO h.val 1))

/-! ## Commands (R386) -/

/-- The ports whose level-1 node may end a queue's chain: of its attachment, of the map in force, and for an item of the
landing that carries a new queue map, of that map (R370). -/
def queuePorts (s : State) (a : Acc) (q : Nat) : List Nat :=
  let staged := match s.siCtx with
    | some x =>
      if a.cmd.stage && x.landing == some a.cmd.landing then
        match x.result.bind (fun rs => tabGet (queuesIn (bodyIn rs 0x600)) (q, 0)) with
        | some (.port p) => [p]
        | _ => []
      else []
    | none => []
  ((queueOf s q).attach.toList ++ (mapPort s q).toList ++ staged)

def qsQueue (a : Acc) : Nat := opd a 0x10 3
def qsParent (a : Acc) : Nat := opd a 0x14 3

/-- Settings of TMG_Q_SET put on a queue; a burst below 16 KiB is held at 16 (R379). -/
def queueApply (s : State) (a : Acc) : State :=
  let q := qsQueue a
  let x := queueFilled s q
  setQueue s q { x with profile := opdB a 0x13, parent := qsParent a, setByCmd := true, tc := bitsOf (opdB a 0x17) 0 3, prio := bitsOf (opdB a 0x17) 3 3, weight := opd a 0x18 2, pir := opd a 0x1C 4, pbs := max 16 (opd a 0x20 4) }

/-- TMG_Q_SET (R377 to R379, R386). -/
def opTmgQSet : OpSpec :=
  ⟨0x60, 0, true, false, noBad, noTargets,
    fun s a =>
      let q := qsQueue a
      let id := qsParent a
      invIf (1048576 ≤ q || !nodeValid id || nodeHall id != hallOf q || opd a 0x18 2 == 0 || 4095 < opd a 0x18 2
        || 1048576 ≤ opd a 0x1C 4 || 16384 < opd a 0x20 4
        || (match rootPort s id with
          | none => true
          | some p => !(queuePorts s a q).contains p)),
    fun _ a s => .done (queueApply s a) rOk⟩

def nsNode (a : Acc) : Nat := opd a 0x10 3
def nsParent (a : Acc) : Nat := opd a 0x13 3

/-- Some queue or node hangs below node id. -/
def queuesBelow (s : State) (id : Nat) : List Nat :=
  (s.queues.filter (fun e => (nodeChain s 5 (queueParent s e.1.1)).contains id)).map (·.1.1)

/-- A parent rule of R377 is broken. -/
def parentBad (s : State) (id parent : Nat) : Bool :=
  !nodeValid parent || nodeLevel id ≤ nodeLevel parent || nodeHall parent != nodeHall id
    || (match rootPort s parent with
      | none => true
      | some p => (queuesBelow s id).any (fun q => queuePort s q != p))

/-- Settings of TMG_NODE_SET put on a node. -/
def nodeApply (s : State) (a : Acc) : State :=
  let id := nsNode a
  let x := nodeFilled s id
  setNode s id { x with parent := if nodeLevel id == 1 then none else some (nsParent a), prio := opdB a 0x16, weight := opd a 0x18 2, cir := opd a 0x1C 4, pir := opd a 0x20 4, cbs := max 16 (opd a 0x24 4), pbs := max 16 (opd a 0x28 4) }

/-- TMG_NODE_SET (R377, R379, R386). -/
def opTmgNodeSet : OpSpec :=
  ⟨0x61, 0, true, false, noBad, noTargets,
    fun s a =>
      let id := nsNode a
      invIf (!nodeValid id || 7 < opdB a 0x16 || opd a 0x18 2 == 0 || 4095 < opd a 0x18 2 || 1048576 ≤ opd a 0x1C 4
        || 1048576 ≤ opd a 0x20 4 || 16384 < opd a 0x24 4 || 16384 < opd a 0x28 4
        || (nodeLevel id != 1 && parentBad s id (nsParent a))),
    fun _ a s => .done (nodeApply s a) rOk⟩

/-- A field of TMG_PROFILE in a buffer. -/
def bufFld (a : Acc) (f : Fld) : Nat := bitsOf (leVal a.cmd.buf) f.lo f.w

/-- A profile out of its ranges (R373). -/
def profileRange (a : Acc) : Bool :=
  let v := bufFld a
  v TMG_PROFILE.MAX_KIB == 0 || v TMG_PROFILE.SPILL_KIB == 0 || 61440 < v TMG_PROFILE.SPILL_KIB || 9 < v TMG_PROFILE.ALPHA
    || (v TMG_PROFILE.RED_EN == 1 && v TMG_PROFILE.RED_MAX_KIB ≤ v TMG_PROFILE.RED_MIN_KIB) || 60000 < v TMG_PROFILE.AGE_MS

/-- A profile written. -/
def profileApply (s : State) (a : Acc) : State := putFields s reg_TMG_PROFILE.flds (opdB a 0x1C) (leVal a.cmd.buf)

/-- TMG_PROFILE_SET (R373, R386). -/
def opTmgProfileSet : OpSpec :=
  ⟨0x62, 1, true, false, fun _ a => badIf (a.cmd.buf.length != 32), noTargets, fun _ a => invIf (profileRange a),
    fun _ a s => .done (profileApply s a) rOk⟩

/-- Fields of a TMG_GATE_SET buffer. -/
def gsPort (a : Acc) : Nat := opdBuf a 0 2
def gsTev (a : Acc) : Nat := opdBuf a 2 1
def gsEn (a : Acc) : Bool := bitOf (opdBuf a 3 1) 0
def gsSwap (a : Acc) : Bool := bitOf (opdBuf a 3 1) 1
def gsList (a : Acc) : List (Nat × Nat) :=
  (List.range (opdBuf a 4 2)).map (fun n => (opdBuf a (16 + 8 * n) 1, opdBuf a (20 + 8 * n) 4))

/-- The time event cannot start a gate cycle: one-shot, disarmed, or a period outside 1 us to 1 s (R382). -/
def tevUnfit (s : State) (n : Nat) : Bool :=
  !flag s TIM_TEV_STAT.ARMED n || !flag s TIM_TEV_STAT.PERIODIC n || rd s HID.TEV_PERIOD n < 1000 * 65536
    || 1000000000 * 65536 < rd s HID.TEV_PERIOD n

/-- A gate list written (R382, R384). -/
def gateApply (s : State) (a : Acc) : State :=
  let p := gsPort a
  if !gsEn a then
    wrs { s with gates := tabDel s.gates (p, 0) } [(TMG_PORT.GATE_EN, p, 0), (TMG_PORT.SWAP_PEND, p, 0), (TMG_PORT.ENTRY, p, 0),
      (TMG_PORT.GATES, p, 255), (TMG_PORT.TEV, p, gsTev a)]
  else
    let s1 := wrs s [(TMG_PORT.GATE_EN, p, 1), (TMG_PORT.TEV, p, gsTev a), (TMG_PORT.SWAP_PEND, p, b2n (!gsSwap a))]
    if gsSwap a then gateStart { s1 with gates := tabPut s1.gates (p, 0) ⟨gsList a, none⟩ } p (gsList a)
    else { s1 with gates := tabPut s1.gates (p, 0) ⟨(gatesOf s1 p).active, some (gsList a)⟩ }

/-- TMG_GATE_SET (R382, R386). -/
def opTmgGateSet : OpSpec :=
  ⟨0x63, 1, true, false, fun _ a => badIf (a.cmd.buf.length < 16), noTargets,
    fun s a =>
      invIf (noPort s (gsPort a) || (gsEn a && (63 < gsTev a || a.cmd.buf.length != 16 + 8 * opdBuf a 4 2
        || opdBuf a 4 2 == 0 || 1024 < opdBuf a 4 2 || (gsList a).any (fun e => e.2 < 20 || 1000000000 < e.2)
        || tevUnfit s (gsTev a)))),
    fun _ a s => .done (gateApply s a) rOk⟩

/-- Member queues of a TMG_REPL_SET buffer. -/
def replList (a : Acc) : List Nat := (List.range (a.cmd.buf.length / 4)).map (fun n => opdBuf a (4 * n) 4)

/-- A replication group set in one copy. -/
def replIn (c : GenCopy) (a : Acc) : GenCopy := { c with repl := tabPut c.repl (opd a 0x1C 2, 0) (replList a) }

/-- TMG_REPL_SET (R371, R386). Without STAGE it changes the current copy (R193). -/
def opTmgReplSet : OpSpec :=
  ⟨0x64, 1, true, false, fun _ a => badIf (a.cmd.buf.length % 4 != 0), noTargets,
    fun _ a => invIf ((replList a).isEmpty || 1024 < (replList a).length || (replList a).any (fun q => 1048576 ≤ q)),
    fun _ a s => .done (setGen s (genNow s) (replIn (curGen s) a)) rOk⟩

/-- The record of a queue (R387). -/
def queueRecord (s : State) (q : Nat) : List Byte :=
  let x := queueOf s q
  let l := queuePkts s q
  let st := if (mapPort s q).isNone then 0 else if l.isEmpty then 1 else 2
  leBytes 3 q ++ bytesOf [st + 4 * b2n x.spilled] ++ leBytes 2 (queuePort s q) ++ bytesOf [x.profile, x.tc + 8 * x.prio]
    ++ leBytes 3 (queueParent s q) ++ [0] ++ leBytes 2 x.weight ++ leBytes 2 0 ++ leBytes 4 x.pir ++ leBytes 4 x.pbs
    ++ leBytes 8 (256 * hopperCells l) ++ leBytes 8 (siloBytes l) ++ leBytes 8 x.enqP ++ leBytes 8 x.enqB
    ++ leBytes 8 x.deqP ++ leBytes 8 x.deqB ++ leBytes 8 x.dropP ++ leBytes 8 x.dropB ++ leBytes 4 x.maxRes
    ++ leBytes 4 (x.avg / 65536 / 1024)

/-- The PIR of a node in units of 8 Mbit/s; one that starts at its port's rate shows that rate (R379). -/
def nodePir (s : State) (id : Nat) : Nat :=
  let x := nodeOf s id
  if x.pir == portPir then 125 * lineRate s (nodeIndex id) else x.pir

/-- The record of a node (R387). -/
def nodeRecord (s : State) (id : Nat) : List Byte :=
  let x := nodeOf s id
  let root := rootPort s id
  let busy := (queuesBelow s id).any (fun q => !(queuePkts s q).isEmpty)
  let st := if root.isNone then 0 else if busy then 2 else 1
  leBytes 3 id ++ bytesOf [st] ++ leBytes 2 (root.getD 0) ++ bytesOf [0, 8 * (x.prio % 8)] ++ leBytes 3 (x.parent.getD 0)
    ++ [0] ++ leBytes 2 x.weight ++ leBytes 2 0 ++ leBytes 4 x.cir ++ leBytes 4 x.cbs ++ leBytes 4 (nodePir s id)
    ++ leBytes 4 x.pbs
    ++ leBytes 24 0 ++ leBytes 8 x.deqP ++ leBytes 8 x.deqB ++ leBytes 24 0

def tmId (a : Acc) : Nat := opd a 0x1C 3

/-- TMG_READ (R386, R387): reading a queue restarts its longest residence. -/
def opTmgRead : OpSpec :=
  ⟨0x65, 1, false, false, fun _ a => badIf (1 < opdB a 0x1F || a.cmd.buf.length < 96), noTargets,
    fun _ a => invIf (if opdB a 0x1F == 0 then decide (1048576 ≤ tmId a) else !nodeValid (tmId a)),
    fun _ a s =>
      if opdB a 0x1F == 0 then
        let s1 := toHost s (opd a 0x10 8) (queueRecord s (tmId a))
        .done (if (queueOf s1 (tmId a)).maxRes == 0 then s1
          else setQueue s1 (tmId a) { queueOf s1 (tmId a) with maxRes := 0 }) rOk
      else .done (toHost s (opd a 0x10 8) (nodeRecord s (tmId a))) rOk⟩

/-- TMG_Q_FLUSH (R386). -/
def opTmgQFlush : OpSpec :=
  ⟨0x66, 0, false, false, noBad, noTargets, fun _ a => invIf (1048576 ≤ opd a 0x10 3),
    fun _ a s =>
      let ks := queuePkts s (opd a 0x10 3)
      .done (queueAfter (dropAll s 0x18 ks) (opd a 0x10 3) ks) rOk⟩

def execTmgQSet (r : Ring) (s : State) : Host.Outcome State Fault Refusal := .next (dispatch opTmgQSet r.val s)
def execTmgNodeSet (r : Ring) (s : State) : Host.Outcome State Fault Refusal := .next (dispatch opTmgNodeSet r.val s)
def execTmgProfileSet (r : Ring) (s : State) : Host.Outcome State Fault Refusal := .next (dispatch opTmgProfileSet r.val s)
def execTmgGateSet (r : Ring) (s : State) : Host.Outcome State Fault Refusal := .next (dispatch opTmgGateSet r.val s)
def execTmgReplSet (r : Ring) (s : State) : Host.Outcome State Fault Refusal := .next (dispatch opTmgReplSet r.val s)
def execTmgRead (r : Ring) (s : State) : Host.Outcome State Fault Refusal := .next (dispatch opTmgRead r.val s)
def execTmgQFlush (r : Ring) (s : State) : Host.Outcome State Fault Refusal := .next (dispatch opTmgQFlush r.val s)

end Sys2Proof.Machine
end

