-- ==== Sys2Proof/Machine/Power.lean ====
section
/-! DEFINITION. Power and thermal control: the power commands (R425, R430 to R432, R441), performance levels and the
steering of their rails (R68 to R71, R424), throttling (R434 to R436), thermal sensors (R437 to R440). -/

namespace Sys2Proof.Machine

/-! ## Domain commands -/

/-- The domain a payload names at 0x10. -/
def domArg (a : Acc) : Nat := opd a 0x10 2

/-- Target state of a PWR_STATE. -/
def pwrTarget (a : Acc) : Nat := opdB a 0x12

/-- PWR_STATE (R425): its own list; WAKE brings the domain and the corridor in front to S0 first, waiting for a power-good as
R90 states (R33). -/
def opPwrState : OpSpec :=
  ⟨0x90, 0, false, true, fun _ a => badIf (63 < opdB a 0x14),
    fun _ a => if domValid (domArg a) then [domArg a] else [],
    fun s a => if domChanging s (domArg a) && domValid (domArg a) && stateAllowed (domArg a) (pwrTarget a) then none
      else pwrCheck s (domArg a) (pwrTarget a) (a.cmd.wake && !a.woken),
    fun _ a s =>
      let s1 := if pwrTarget a != 0 then
          wrs s [(PWR_DOM.TEV_EN, domArg a, b2n (opdBit a 0x13 0)), (PWR_DOM.TEV, domArg a, opdB a 0x14)]
        else s
      let (t, w) := pwrStart s1 (domArg a) (pwrTarget a)
      .wait t [domArg a, w]⟩

/-- PAD_RELEASE (R430): its own list; the pads go on at their latched values. -/
def opPadRelease : OpSpec :=
  ⟨0x91, 0, false, true, fun _ a => badIf (63 < siteArg a), fun _ a => [siteDom (siteArg a)],
    fun s a => firstOf [
      if siteSt s (siteArg a) != siteLATCHED then some rOk else none,
      if siteNoPower s a (siteArg a) || (domSt s (siteDom (siteArg a)) != 0 && !a.cmd.wake) then some (rStat .noPower) else none],
    fun _ a s => .done (wr s EMG_SITE_CTRL.STATE (siteArg a) siteRELEASED) rOk⟩

/-- DOMAIN_RESET (R95): the domain itself is brought to S0 by the command; the corridor in front is judged under R33, and a
domain held for a power-good needs WAKE (R90). -/
def opDomainReset : OpSpec :=
  ⟨0x92, 0, false, false, noBad,
    fun s a => (frontCorridor (domArg a)).toList ++ (if rd s PWR_DOM.HELD (domArg a) == 1 then [domArg a] else []),
    fun s a => invIf (!domValid (domArg a) || (!domChanging s (domArg a) && !resetOk s (domArg a))),
    fun _ a s =>
      if domChanging s (domArg a) then .wait s [domArg a, 8] else .wait (resetGo s (domArg a)) [domArg a, 0]⟩

/-- Targets that IDLE_POLICY allows a kind (R431). -/
def idleTargets (kind : Nat) : List Nat := if kind == 2 || kind == 4 then [2, 3] else [1, 2, 3]

/-- IDLE_POLICY (R431). -/
def opIdlePolicy : OpSpec :=
  ⟨0x95, 0, false, false,
    fun _ a => badIf (4 < opdB a 0x10 || 3600000 < opd a 0x14 4
      || !(idleTargets (opdB a 0x10)).contains (opdB a 0x11) && opd a 0x14 4 != 0 || 3 < opdB a 0x11), noTargets, noCheck,
    fun _ a s =>
      let k := opdB a 0x10
      let s1 := wrs s [(PWR_IDLE.IDLE_MS, k, opd a 0x14 4), (PWR_IDLE.TARGET, k, opdB a 0x11)]
      .done (if k == 2 then wr s1 PWR_IDLE.FREE_KIB k (opd a 0x18 4) else s1) rOk⟩

/-- Domain d is idle (R431). -/
def domIdle (s : State) (d : Nat) : Bool :=
  let i := domIdx d
  match domKind d with
  | 0 => (sheafLanes i).all (fun l => laneSt s l == laneDARK || (laneSt s l == laneLISTEN && flag s SHF_LANE_STAT.EXHAUSTED l))
  | 1 => rd s GAL_STAT.STATE i == 1
  | 2 => bankEmpty s i && decide (rd s PWR_IDLE.FREE_KIB 2 + 4096 < poolFree s (i / 16) / 4)
  | 3 => leaveOk s d (rd s PWR_IDLE.TARGET 3)
  | _ => decide (2 ≤ domSt s (sheafDom i))

/-- IDLE_TIMEOUT (R431): as if by PWR_STATE, under the same checks; one that fails raises nothing. -/
def execIdleTimeout (d : Dom) (s : State) : Host.Outcome State Fault Refusal :=
  let st := rd s PWR_IDLE.TARGET (domKind d.val)
  .next (
    if !domValid d.val || rd s PWR_IDLE.IDLE_MS (domKind d.val) == 0 || domSt s d.val != 0 || domChanging s d.val
      || !domIdle s d.val || (pwrCheck s d.val st false).isSome then s
    else domGo raise s d.val st 1)

/-! ## STANDBY (R432) -/

/-- The blocks that STANDBY powers down: the traffic managers, memory controllers, gallery dies and what they hold. -/
def offBlocks : List RegSpec := regsPRT ++ regsMSC ++ regsTBL ++ regsTMG ++ regsMEM ++ regsGAL

/-- A register that a powered-down block loses. -/
def inBlocks (rs : List RegSpec) (id : Nat) : Bool := rs.any (fun r => r.flds.any (fun f => Nat.beq f.id id))

/-- The contents of tables, buffers and the structure image are lost. -/
def loseContents (s : State) : State :=
  { s with
    regs := s.regs.filter (fun e => !inBlocks offBlocks e.1.1)
    gen0 := GenCopy.cold, gen1 := GenCopy.cold, pairs := [], cache := [], poison := [], pkts := [], queues := []
    nodes := [], gates := [], saks := [], peers := [], merge := [], withheld := [] }

/-- A gleaning slice that runs is aborted: its target is powered down. -/
def abortAll (s : State) : State := s.slices.foldl (fun t e => abortSlice raise t e.1.1 e.1.2) s

/-- The device enters STANDBY (R432): every domain in S3, every site HELD with the pads of R53. -/
def standbyEnter (s : State) : State :=
  let s1 := forEach allSites (ctxDrop (abortAll s)) (fun k t => siteHold raise t k)
  let s2 := forEach (allDoms.filter (fun d => domSt s d != 3)) s1 (fun d t =>
    setDomSt (domSleep raise (wrs t [(HID.DOM_TGT, d, 0), (HID.DOM_NEXT, d, 0), (PWR_DOM.CAUSE, d, 0)]) d 3) d 3)
  let s3 := loseContents s2
  event (wrs s3 [(PWR_STATUS.DEV_STATE, 0, 1), (GLB_BOOT_STAT.STAGE, 0, 3), (GLB_BOOT_STAT.SI_SLOT, 0, 3)]) 7 0xB00 0
    (bytesOf [0xFF, 0xFF, 0, 1, 0])

/-- STANDBY (R432): commands that wait on a block it powers down end ABORTED; leaving completes at READY. -/
def opStandby : OpSpec :=
  ⟨0x96, 0, false, false, fun _ a => badIf (63 < opdB a 0x12), noTargets,
    fun s a =>
      if !opdBit a 0x10 0 then none
      else if rd s PWR_STATUS.DEV_STATE 0 == 1 then none
      else if !(slotsUsed s).isEmpty || flag s LND_STATUS.OLD_LIVE 0 then some (rStat .busy)
      else invIf (rd s GLB_BOOT_STAT.STAGE 0 < 3),
    fun _ a s =>
      if opdBit a 0x10 0 then
        let s1 := if rd s PWR_STATUS.DEV_STATE 0 == 1 then s else standbyEnter s
        let s2 := wrs s1 [(HID.STBY_TEV_EN, 0, b2n (opdBit a 0x11 0)), (HID.STBY_TEV, 0, opdB a 0x12)]
        .done (complete (fun x => needsPower x.acc) (rStat .aborted) s2) rOk
      else if rd s PWR_STATUS.DEV_STATE 0 == 1 then .wait (leaveStandby s 0) []
      else .done s rOk⟩

/-! ## Performance levels -/

/-- A step of rail n is verified: the next one, or the end of the change (R69). -/
def vrmOk (s : State) (n mv : Nat) : State :=
  let cmd := rd s HID.VRM_CMD n
  let s1 := wrs s [(HID.RAIL_MV, n, cmd), (PWR_VRM_CFG.VOUT_MV, n, mv), (PWR_VRM_CFG.STAT, n, 1), (HID.VRM_TRIES, n, 0)]
  if cmd == rd s HID.VRM_GOAL n then
    let s2 := wrs s1 [(HID.VRM_CMD, n, 0), (PWR_PL.CHANGING, n, 0), (HID.VRM_RAISE, n, 0)]
    levelEval (if flag s HID.VRM_RAISE n then levelNow s2 n (rd s2 PWR_PL.NOW n + 1) else s2) n
  else vrmStep s1 n

/-- A step of rail n has failed: retried twice, then steering stops (R69). -/
def vrmBad (s : State) (n stat : Nat) : State :=
  let k := rd s HID.VRM_TRIES n + 1
  if k ≤ 2 then emit (wr s HID.VRM_TRIES n k) (.vout n (rd s HID.VRM_CMD n))
  else
    let s1 := wrs s [(HID.VRM_TRIES, n, 0), (HID.VRM_CMD, n, 0), (HID.VRM_RAISE, n, 0), (PWR_PL.CHANGING, n, 0),
      (PWR_VRM_CFG.STAT, n, stat)]
    levelEval (faultK (0xB10 + n) s1) n

/-- VRM_STEP_VERIFY (R69): READ_VOUT 20 us after a step; none = no acknowledge. -/
def execVrmStepVerify (n : Fin 6) (vout : Option (BitVec 10)) (s : State) : Host.Outcome State Fault Refusal :=
  let cmd := rd s HID.VRM_CMD n.val
  .next (
    if cmd == 0 then s
    else
      let s := idleUse s
      match vout with
      | none => vrmBad s n.val 2
      | some v =>
        if v.toNat ≤ cmd + 10 && cmd ≤ v.toNat + 10 then vrmOk s n.val v.toNat else vrmBad s n.val 3)

/-- Steering of rail n is enabled, or restarted: VOUT_MODE, the regulator's own, is read over PMBus, and the rail goes to
the voltage of its die's level (R68, R71). -/
def vrmEnable (s : State) (n : Nat) : State :=
  let s1 := wrs (took (idleUse s)) [(HID.VOUT_MODE, n, freeNat s % 256), (PWR_VRM_CFG.EN, n, 1), (PWR_VRM_CFG.STAT, n, 0),
    (HID.VRM_TRIES, n, 0)]
  if flag s PWR_PL.CHANGING n then s1
  else levelEval (vrmGo s1 n (levelMv (rd s PWR_PL.NOW n)) 0) n

/-- Steering of rail n is switched off: the rail stays at its last voltage (R71). -/
def vrmDisable (s : State) (n : Nat) : State :=
  levelEval (wrs s [(PWR_VRM_CFG.EN, n, 0), (HID.VRM_CMD, n, 0), (HID.VRM_RAISE, n, 0), (PWR_PL.CHANGING, n, 0)]) n

/-- VRM_STEER_ENABLE (R71). -/
def execVrmSteerEnable (n : Fin 6) (s : State) : Host.Outcome State Fault Refusal := .next (vrmEnable s n.val)

/-- PM_ALERT (R70): per regulator 0 none, 1 a warning, 2 a fault condition. -/
def execPmAlert (st : List (Fin 3)) (s : State) : Host.Outcome State Fault Refusal :=
  .next (forEach (List.range 6) (wr (idleUse s) GLB_PIN_STAT.PM_ALERT 0 1) (fun n t =>
    let c := (st.getD n 0).val
    if !flag t PWR_VRM_CFG.EN n || c == 0 then t else raise (0xB10 + n) c [] t))

/-- PL_SET (R424, R441). -/
def opPlSet : OpSpec :=
  ⟨0x93, 0, false, false, fun _ a => badIf (5 < opdB a 0x10 || 3 < opdB a 0x11), noTargets, noCheck,
    fun _ a s => .done (levelEval (wr s PWR_PL.CEIL (opdB a 0x10) (opdB a 0x11)) (opdB a 0x10)) rOk⟩

/-! ## Power limit and throttling -/

/-- EFF_W takes a value; THROTTLE says that it lies below LIMIT_W (R435). -/
def setEff (s : State) (w : Nat) : State :=
  let old := rd s PWR_STATUS.EFF_W 0
  let s1 := wrs s [(PWR_STATUS.EFF_W, 0, w), (PWR_STATUS.THROTTLE, 0, b2n (decide (w < rd s PWR_POLICY.LIMIT_W 0)))]
  if w < old then thermEvent s1 1 0 0 else if old < w then thermEvent s1 2 0 0 else s1

/-- One fall of EFF_W (R435). -/
def effFall (s : State) : State :=
  setEff s (max 700 (rd s PWR_STATUS.EFF_W 0 - rd s PWR_POLICY.STEP_PCT 0 * 16))

/-- The fields of a PWR_POLICY buffer lie in their ranges (R441, R444). -/
def policyOk (v : Nat) : Bool :=
  let f := fun (x : Fld) => bitsOf v x.lo x.w
  let o := f PWR_POLICY.ORDER
  700 ≤ f PWR_POLICY.LIMIT_W && f PWR_POLICY.LIMIT_W ≤ 1800 && 80 ≤ f PWR_POLICY.THR_C && f PWR_POLICY.THR_C ≤ 105
    && 1 ≤ f PWR_POLICY.STEP_PCT && f PWR_POLICY.STEP_PCT ≤ 10 && 70 ≤ f PWR_POLICY.DRAM_THR && f PWR_POLICY.DRAM_THR ≤ 100
    && (List.range 4).all (fun d => (List.range 4).any (fun k => bitsOf o (2 * k) 2 == d))

/-- PWR_POLICY (R435, R441): a LIMIT_W below EFF_W sets EFF_W at once. -/
def opPwrPolicy : OpSpec :=
  ⟨0x94, 1, false, false, fun _ a => badIf (a.cmd.buf.length != 16 || !policyOk (leVal a.cmd.buf)), noTargets, noCheck,
    fun _ a s =>
      let s1 := putFields s reg_PWR_POLICY.flds 0 (leVal a.cmd.buf)
      .done (setEff s1 (min (rd s1 PWR_STATUS.EFF_W 0) (rd s1 PWR_POLICY.LIMIT_W 0))) rOk⟩

/-- POWER_SAMPLE (R434): the estimate of the last millisecond, W. -/
def execPowerSample (w : BitVec 11) (s : State) : Host.Outcome State Fault Refusal :=
  let s1 := wr s PWR_STATUS.EST_W 0 w.toNat
  .next (if flag s PWR_STATUS.THROTTLE 0 then perf s1 (perfE 0xA1 1) else s1)

/-- The dies of the ladder in the order of its four rungs, each with its floor (R436). -/
def ladder (s : State) : List (Nat × Nat) :=
  let dies := (List.range 4).map (fun k => bitsOf (rd s PWR_POLICY.ORDER 0) (2 * k) 2)
  let hf := rd s PWR_POLICY.HALL_FLOOR 0
  dies.map (fun d => (d, bitsOf (rd s PWR_POLICY.FLOOR 0) (2 * d) 2)) ++ [(4, hf), (5, hf)]
    ++ dies.map (fun d => (d, 0)) ++ [(4, 0), (5, 0)]

/-- The level of die n without throttling. -/
def levelTop (s : State) (n : Nat) : Nat := min (rd s PWR_PL.CEIL n) (rd s PWR_PL.AGE_MAX n)

/-- The level of die n with throttling. -/
def levelThr (s : State) (n : Nat) : Nat := min (levelTop s n) (rd s HID.PL_THR n)

/-- The next die the ladder lowers (R436). -/
def ladderDown (s : State) : Option Nat := ((ladder s).find? (fun e => decide (e.2 < levelThr s e.1))).map (·.1)

/-- Level below which a rung has lowered a die: the floor of the rung before it of the same die. -/
def rungTop (s : State) (i : Nat) : Nat :=
  let l := ladder s
  let n := (l.getD i (0, 0)).1
  if i < 6 then levelTop s n else ((l.take 6).find? (fun e => e.1 == n)).elim 3 (fun e => min (levelTop s n) e.2)

/-- The die lowered last: the last rung, in order, that holds its die down (R436). -/
def ladderUp (s : State) : Option Nat :=
  ((List.range 12).reverse.find? (fun i => decide (levelThr s ((ladder s).getD i (0, 0)).1 < rungTop s i))).map
    (fun i => ((ladder s).getD i (0, 0)).1)

/-- Throttling sets the level of die n; at the top it no longer limits it. -/
def setThr (s : State) (n l : Nat) : State := levelEval (wr s HID.PL_THR n (if levelTop s n ≤ l then 3 else l)) n

/-- Every die is at PL0. -/
def allPl0 (s : State) : Bool := (List.range 6).all (fun n => rd s PWR_PL.NOW n == 0 || levelThr s n == 0)

/-- THROTTLE_STEP (R436): at most one step; raiseW is the modelled increase of raising the last-lowered die. -/
def execThrottleStep (raiseW : Nat) (s : State) : Host.Outcome State Fault Refusal :=
  let est := rd s PWR_STATUS.EST_W 0
  let eff := rd s PWR_STATUS.EFF_W 0
  .next (
    if eff < est then
      match ladderDown s with
      | some n => setThr s n (levelThr s n - 1)
      | none =>
        if flag s PWR_STATUS.LIMIT_UNMET 0 || !allPl0 s then s
        else faultC 0xB30 (thermEvent (wr s PWR_STATUS.LIMIT_UNMET 0 1) 7 0 0)
    else
      let s1 := wr s PWR_STATUS.LIMIT_UNMET 0 0
      match ladderUp s1 with
      | some n => if est + raiseW ≤ eff then setThr s1 n (levelThr s1 n + 1) else s1
      | none => s1)

/-! ## Thermal sensors -/

/-- Die index D of sensor site i (R437). -/
def thermDie (i : Nat) : Nat := if i < 96 then i / 12 else if i < 152 then 8 + (i - 96) / 14 else 12 + (i - 152) / 30

/-- The neighbours of site i, on its own die (R437). -/
def neighOf (i : Nat) : List Nat :=
  ((List.range 4).map (fun k => bitsOf (Config.thermNeigh i).toNat (8 * k) 8)).filter
    (fun j => j < 212 && j != i && thermDie j == thermDie i)

/-- A signed reading, 0.125 K units. -/
def tempOf (v : Nat) : Int := sext 16 v

/-- Readings in ascending order. -/
def sortInts (l : List Int) : List Int := l.insertionSort (· ≤ ·)

/-- Twice the median of a list; of an even number, the mean of the middle two (R438). -/
def median2 (l : List Int) : Int :=
  let t := sortInts l
  let n := t.length
  if n % 2 == 1 then 2 * t.getD (n / 2) 0 else t.getD (n / 2 - 1) 0 + t.getD (n / 2) 0

/-- Twice the departure of site i from the median of its valid neighbours; none without a valid neighbour (R438). -/
def departure (s : State) (t : List Int) (i : Nat) : Option Nat :=
  let l := ((neighOf i).filter (fun j => !flag s PWR_THERM.SUSPECT j)).map (fun j => t.getD j 0)
  if l.isEmpty then none else some (Int.natAbs (2 * t.getD i 0 - median2 l))

/-- A THERMAL record of a sensor site (R442). -/
def siteEvent (s : State) (kind i : Nat) : State := thermEvent s kind (i - 96 * (i / 96)) (thermDie i)

/-- The neighbour check of one site against the flags before the sample (R438). -/
def thermSite (old : State) (t : List Int) (s : State) (i : Nat) : State :=
  match departure old t i with
  | none => s
  | some d =>
    if !flag old PWR_THERM.SUSPECT i then
      if d ≤ 192 then wr s HID.TH_BAD i 0
      else if rd old HID.TH_BAD i + 1 < 3 then wr s HID.TH_BAD i (rd old HID.TH_BAD i + 1)
      else
        let s1 := wrs s [(HID.TH_BAD, i, 0), (HID.TH_GOOD, i, 0), (PWR_THERM.SUSPECT, i, 1)]
        faultC (0xB20 + thermDie i) (siteEvent (bump s1 PWR_THERM.SUSPECTS i) 5 i)
    else if 96 < d then wr s HID.TH_GOOD i 0
    else if rd old HID.TH_GOOD i + 1 < 1000 then wr s HID.TH_GOOD i (rd old HID.TH_GOOD i + 1)
    else siteEvent (wrs s [(HID.TH_GOOD, i, 0), (PWR_THERM.SUSPECT, i, 0)]) 6 i

/-- Two neighbours of some site of die D are SUSPECT (R438). -/
def twoSuspects (s : State) (D : Nat) : Bool :=
  (List.range 212).any (fun i => thermDie i == D && 2 ≤ ((neighOf i).filter (fun j => flag s PWR_THERM.SUSPECT j)).length)

/-- The contained fault of a die in which two neighbours of one site have become SUSPECT (R438). -/
def thermDieStep (s : State) (D : Nat) : State :=
  let m := rd s HID.TH_TWO 0
  if twoSuspects s D then (if bitOf m D then s else faultK (0xB20 + D) (wr s HID.TH_TWO 0 (setBit m D)))
  else wr s HID.TH_TWO 0 (clrBit m D)

/-- The hottest valid reading, if some site is valid (R434, R438). -/
def hottest (s : State) (t : List Int) : Option Int :=
  (sortInts (((List.range 212).filter (fun i => !flag s PWR_THERM.SUSPECT i)).map (fun i => t.getD i 0))).getLast?

/-- Critical shutdown (R440): two neighbouring sites read 115 degrees or more. -/
def critical (t : List Int) : Bool :=
  (List.range 212).any (fun i => decide (920 ≤ t.getD i 0) && (neighOf i).any (fun j => decide (920 ≤ t.getD j 0)))

/-- Wakes and level changes in progress are abandoned by critical shutdown (R443). -/
def abandon (s : State) : State :=
  let s1 := forEach (allDoms.filter (fun d => rd s HID.DOM_TGT d == 1)) s (fun d t =>
    wrs t [(HID.DOM_TGT, d, 0), (HID.DOM_NEXT, d, 0), (PWR_DOM.ATTEMPT, d, 0)])
  forEach (List.range 6) s1 (fun n t => wrs t [(PWR_PL.CHANGING, n, 0), (HID.VRM_CMD, n, 0), (HID.VRM_RAISE, n, 0)])

/-- Critical temperature in the middle of bring-up leaves the device HALTED (R92). -/
def haltBringUp (s : State) : State :=
  if flag s HID.RESET_HIGH 0 && rd s GLB_BOOT_STAT.STAGE 0 < 3 then halt s else s

/-- THERMTRIP_N asserted, the latch set, the fatal fault raised (R61, R440). -/
def thermTrip (s : State) : State :=
  if flag s FLT_SUMMARY.THERMAL 0 then s
  else
    let s1 := haltBringUp (faultF 0xBFF (abandon (wr s GLB_PIN_STAT.THERMTRIP 0 1)))
    complete (fun x => waitsOn 0x90 [] x || waitsOn 0x92 [] x) (rStat .aborted) (updFaultPin (wr s1 FLT_SUMMARY.THERMAL 0 1))

/-- The condition of R435's fall: the hottest valid reading, a die with two suspects, or a DRAM stack. -/
def tooHot (s : State) (h : Option Int) : Bool :=
  h.any (fun x => decide (((rd s PWR_POLICY.THR_C 0 * 8 : Nat) : Int) < x)) || rd s HID.TH_TWO 0 != 0 || flag s HID.TH_DRAM 0

/-- THERMAL_SAMPLE (R437, R438, R440, R435): the 212 readings. -/
def execThermalSample (t : List (BitVec 16)) (s : State) : Host.Outcome State Fault Refusal :=
  let r := t.map (fun v => tempOf v.toNat)
  .next (
    if t.length != 212 then s
    else
      let s1 := forEach (List.range 212) s (fun i u => wr u PWR_THERM.TEMP i (t.getD i 0).toNat)
      let s2 := (List.range 212).foldl (thermSite s r) s1
      let s3 := (List.range 14).foldl thermDieStep s2
      let h := hottest s3 r
      let s4 := match h with
        | some x => wr s3 PWR_STATUS.HOTTEST 0 (wrapI 16 x)
        | none => s3
      let hot := tooHot s4 h
      let s5 := wr (if hot && !flag s HID.TH_HOT 0 then effFall s4 else s4) HID.TH_HOT 0 (b2n hot)
      if critical r then thermTrip s5 else s5)

/-- EFF_LIMIT_STEP (R435): a fall every 5 ms while the condition holds, a restore every 50 ms once the hottest reading is
5 K below the threshold; the fall prevails (R443). -/
def execEffLimitStep (restore : Bool) (s : State) : Host.Outcome State Fault Refusal :=
  let limit := rd s PWR_POLICY.LIMIT_W 0
  .next (
    if flag s HID.TH_HOT 0 then effFall s
    else if restore && rd s PWR_STATUS.EFF_W 0 < limit
      && decide (tempOf (rd s PWR_STATUS.HOTTEST 0) ≤ (((rd s PWR_POLICY.THR_C 0 - 5) * 8 : Nat) : Int)) then
      setEff s (min limit (rd s PWR_STATUS.EFF_W 0 + 16))
    else s)

/-- DRAM_TEMP_SAMPLE (R439): the ten stack readings. -/
def execDramTempSample (t : List (BitVec 16)) (s : State) : Host.Outcome State Fault Refusal :=
  let s1 := forEach (List.range 10) s (fun n u => wr u PWR_HBM.TEMP n (t.getD n 0).toNat)
  .next (
    if t.length != 10 then s
    else wr s1 HID.TH_DRAM 0 (b2n (t.any (fun v => decide (((rd s PWR_POLICY.DRAM_THR 0 * 8 : Nat) : Int) < tempOf v.toNat)))))

def execPwrState (r : Ring) (s : State) : Host.Outcome State Fault Refusal := .next (dispatch opPwrState r.val s)
def execPadRelease (r : Ring) (s : State) : Host.Outcome State Fault Refusal := .next (dispatch opPadRelease r.val s)
def execDomainReset (r : Ring) (s : State) : Host.Outcome State Fault Refusal := .next (dispatch opDomainReset r.val s)
def execPlSet (r : Ring) (s : State) : Host.Outcome State Fault Refusal := .next (dispatch opPlSet r.val s)
def execPwrPolicy (r : Ring) (s : State) : Host.Outcome State Fault Refusal := .next (dispatch opPwrPolicy r.val s)
def execIdlePolicy (r : Ring) (s : State) : Host.Outcome State Fault Refusal := .next (dispatch opIdlePolicy r.val s)
def execStandby (r : Ring) (s : State) : Host.Outcome State Fault Refusal := .next (dispatch opStandby r.val s)

end Sys2Proof.Machine
end

