-- ==== Sys2Proof/Machine/Faults.lean ====
section
/-! DEFINITION. Faults and memory protection (R445 to R463): escalation rules, the clearing of a sticky bit, the log of
corrected errors, retirement, the merge buffer and winnowing. -/

namespace Sys2Proof.Machine

/-! ## Escalation rules (R449, R461) -/

/-- A rule that is to be enabled has a value outside its range. -/
def policyWrong (a : Acc) : Bool :=
  0x1000 ≤ opd a 0x12 2 || 0x1000 ≤ opd a 0x14 2 || opdB a 0x16 == 0 || 2 < opdB a 0x16 || opdB a 0x17 == 0
    || opd a 0x18 4 == 0 || 3600000 < opd a 0x18 4

/-- FLT_POLICY (R449): the rule's fields, with its count at zero. -/
def opFltPolicy : OpSpec :=
  ⟨0xA0, 0, false, false, fun _ a => badIf (63 < opdB a 0x10 || (opdBit a 0x1C 0 && policyWrong a)), noTargets, noCheck,
    fun _ a s =>
      let r := opdB a 0x10
      .done (wrs s [(FLT_ESC.SRC, r, opd a 0x12 2), (FLT_ESC.MASK, r, opd a 0x14 2), (FLT_ESC.FROM, r, opdB a 0x16),
        (FLT_ESC.EN, r, b2n (opdBit a 0x1C 0)), (FLT_ESC.N, r, opdB a 0x17), (FLT_ESC.WINDOW_MS, r, opd a 0x18 4),
        (FLT_ESC.COUNT, r, 0)]) rOk⟩

def execFltPolicy (r : Ring) (s : State) : Host.Outcome State Fault Refusal := .next (dispatch opFltPolicy r.val s)

/-- ESCALATION_WINDOW_EXPIRE (R449): a window that ends before N closes. -/
def execEscalationWindowExpire (rule : Fin 64) (s : State) : Host.Outcome State Fault Refusal :=
  .next (wr s FLT_ESC.COUNT rule.val 0)

/-! ## Sticky bits (R450 to R452) -/

/-- The port hold of a source of the port layer ends (R448, R452). -/
def holdEnd (s : State) (src : Nat) : State :=
  if src / 256 == 5 then
    sheafPortsEval raise true
      (forEach (sheafLanes (src % 64)) s (fun p t => wr t HID.PRT_HOLD p (clrBit (rd t HID.PRT_HOLD p) (src / 64 % 4)))) (src % 64)
  else s

/-- FLT_SRC.STICKY written 1: bit and class clear, but not of a fatal source (R452, R463). -/
def stickyClear (s : State) (src : Nat) : State :=
  if rd s FLT_SRC.CLASS src == 3 then s
  else holdEnd (updFaultPin (wrs s [(FLT_SRC.STICKY, src, 0), (FLT_SRC.CLASS, src, 0)])) src

/-- FAULT_STICKY_CLEAR (R452). -/
def execFaultStickyClear (id : BitVec 12) (s : State) : Host.Outcome State Fault Refusal := .next (stickyClear s id.toNat)

/-! ## Retirement (R459) -/

/-- Pages of 2 KiB of a Silo stack, rows of 1 KiB of a Granary stack: 48 GB each (the table of dies). -/
def placesOf (n : Nat) : Nat := if n < 8 then 23437500 else 46875000

/-- Stack and place a MEM_RETIRE names. -/
def retStack (a : Acc) : Nat := opdB a 0x10
def retAddr (a : Acc) : Nat := opd a 0x14 4

/-- The statuses of MEM_RETIRE, in order (R459). -/
def retireCheck (s : State) (a : Acc) : Option Reply :=
  let n := retStack a
  if opdB a 0x11 != (if n < 8 then 0 else 1) || placesOf n ≤ retAddr a then some (rInv 1)
  else if rd s MEM_CTRL_STAT.STATE n == 2 then some (rInv 3)
  else if !flag s GLB_BOOT_STAT.FILL_DONE 0 then some (rStat .busy)
  else if retiredAt s n (retAddr a) then some rOk
  else if (retireFree s n).isNone then some (rInv 2)
  else none

/-- MEM_RETIRE (R459). -/
def opMemRetire : OpSpec :=
  ⟨0xA1, 0, false, true, fun _ a => badIf (9 < retStack a), noTargets, retireCheck,
    fun _ a s =>
      let n := retStack a
      match retireFree s n with
      | none => .done s (rInv 2)
      | some x =>
        let t := retirePut s n x (opdB a 0x11) (retAddr a) false
        if n < 8 then .done t ⟨.ok, rd t MEM_RETIRE_LIST.PENDING (n * 512 + x), none, false⟩ else .wait t [n, retAddr a]⟩

def execMemRetire (r : Ring) (s : State) : Host.Outcome State Fault Refusal := .next (dispatch opMemRetire r.val s)

/-- The retire entry that copies a row of stack n. -/
def copyEntry (s : State) (n row : Nat) : Option Nat :=
  (List.range 512).find? (fun x => flag s HID.COPY (n * 512 + x) && rd s MEM_RETIRE_LIST.ADDR (n * 512 + x) == row)

/-- RETIRE_ROW_COPY_DONE (R459): later accesses go to the spare row; n = Granary stack 8 + n. -/
def execRetireRowCopyDone (n : Fin 2) (row : Nat) (s : State) : Host.Outcome State Fault Refusal :=
  .next (
    let m := 8 + n.val
    match copyEntry s m row with
    | none => s
    | some x =>
      complete (waitsOn 0xA1 [m, row]) rOk
        (wrs s [(HID.COPY, m * 512 + x, 0), (MEM_RETIRE_LIST.VALID, m * 512 + x, 1),
          (MEM_CTRL_STAT.RETIRED, m, rd s MEM_CTRL_STAT.RETIRED m + 1)]))

/-! ## The log of corrected errors (R456) -/

/-- Entry e of controller n empty. -/
def logEmpty (s : State) (i : Nat) : State :=
  wrs s [(MEM_CE_LOG.VALID, i, 0), (MEM_CE_LOG.WINNOW, i, 0), (MEM_CE_LOG.THR, i, 0), (MEM_CE_LOG.BLOCK, i, 0),
    (MEM_CE_LOG.COUNT, i, 0)]

/-- MEM_LOG_CLEAR (R456). -/
def opMemLogClear : OpSpec :=
  ⟨0xA2, 0, false, false, fun _ a => badIf (9 < opdB a 0x10 && opdB a 0x10 != 0xFF), noTargets, noCheck,
    fun _ a s =>
      let ns := if opdB a 0x10 == 0xFF then List.range 10 else [opdB a 0x10]
      .done (forEach (ns.flatMap (fun n => (List.range 32).map (fun e => 32 * n + e))) s (fun i t => logEmpty t i)) rOk⟩

def execMemLogClear (r : Ring) (s : State) : Host.Outcome State Fault Refusal := .next (dispatch opMemLogClear r.val s)

/-- Entries of the log of controller n. -/
def logEntries (n : Nat) : List Nat := (List.range 32).map (fun e => 32 * n + e)

/-- The entry a new address takes: a free one, else the one of lowest count, the oldest among equals (R456). -/
def logVictim (s : State) (n : Nat) : Nat :=
  (logEntries n).foldl (fun best i =>
    let c := rd s MEM_CE_LOG.COUNT i
    let b := rd s MEM_CE_LOG.COUNT best
    if c < b || (c == b && rd s HID.CE_SEQ i < rd s HID.CE_SEQ best) then i else best) (32 * n)

/-- The entry of an address, a new one if it has none: the state, and the entry. -/
def logEntry (s : State) (n block : Nat) : State × Nat :=
  match (logEntries n).find? (fun i => flag s MEM_CE_LOG.VALID i && rd s MEM_CE_LOG.BLOCK i == block) with
  | some i => (s, i)
  | none =>
    let new := fun (t : State) (i : Nat) => (wrs (tookNum (logEmpty t i)) [(MEM_CE_LOG.VALID, i, 1),
      (MEM_CE_LOG.BLOCK, i, block), (HID.CE_SEQ, i, nextNum t)], i)
    match (logEntries n).find? (fun i => !flag s MEM_CE_LOG.VALID i) with
    | some i => new s i
    | none => new (bump s MEM_CTRL_STAT.LOG_OVF n) (logVictim s n)

/-- The detail of a memory source's record: block address, and whether winnowing found the error (R450). -/
def memDetail (block : Nat) (winnow : Bool) : List Byte := leBytes 4 block ++ leBytes 1 (b2n winnow)

/-- An address enters the log of corrected errors, n more on its count; at LOG_THR its source is raised once (R456). -/
def logCorr (s : State) (n block : Nat) (winnow : Bool) : State :=
  let (s1, i) := logEntry s n block
  let s2 := bump (wr s1 MEM_CE_LOG.WINNOW i (b2n winnow)) MEM_CE_LOG.COUNT i
  if !flag s2 MEM_CE_LOG.THR i && rd s2 MEM_CFG.LOG_THR 0 ≤ rd s2 MEM_CE_LOG.COUNT i then
    raise (0x930 + n) 1 (memDetail block winnow) (wr s2 MEM_CE_LOG.THR i 1)
  else s2

/-- A corrected error of stack n (R456): counted, reported, logged; the sources in ascending order (R449). -/
def dramCorr (s : State) (n block : Nat) (winnow : Bool) : State :=
  let s1 := perf (bump s MEM_CTRL_STAT.CORR n) { perfE 0x83 1 with qual := n, role := 8, addr := block }
  logCorr (raise (0x910 + n) 1 (memDetail block winnow) s1) n block winnow

/-! ## The merge buffer (R455) -/

/-- MERGE_BUFFER_EXPIRE (R455): a block covered whole is written; another is read, merged and written back. -/
def execMergeBufferExpire (n : Fin 10) (block : Nat) (s : State) : Host.Outcome State Fault Refusal :=
  .next (
    match tabGet s.merge (n.val, block) with
    | none => s
    | some c =>
      let ev := fun (t : State) (code : Nat) => perf t { perfE code 1 with qual := n.val, role := 8, addr := block }
      let s1 := { s with merge := tabDel s.merge (n.val, block) }
      if 64 ≤ c then ev s1 0x81 else ev (ev (ev (bump s1 MEM_CTRL_STAT.RMW n.val) 0x80) 0x82) 0x81)

/-! ## Winnowing (R460) -/

/-- Winnowing reads here: it runs, the memory is powered, and the place is neither retired nor withheld. -/
def winnowReads (s : State) (u block : Nat) : Bool :=
  let addr := if u < 8 then block / 32 else block / 16
  flag s MEM_WINNOW.EN 0 && powered s
    && (10 ≤ u || (rd s MEM_CTRL_STAT.STATE u == 1 && flag s GLB_BOOT_STAT.FILL_DONE 0 && !retiredAt s u addr
      && (tabGet s.withheld (u, addr)).isNone))

/-- A block of counter pairs restarts at the cached increments: four pairs of 16 bytes (R353, R354). -/
def pairsRestart (s : State) (first : Nat) : State :=
  let s1 := forEach [first, first + 1, first + 2, first + 3] s (fun i t =>
    let p := (t.cache.filter (fun e => Nat.beq e.1.2 i)).foldl (fun p e => pairAdd p e.2) (0, 0)
    { t with cache := t.cache.filter (fun e => !Nat.beq e.1.2 i)
             pairs := if p == (0, 0) then tabDel t.pairs (i, 0) else tabPut t.pairs (i, 0) p })
  faultK 0x7FF s1

/-- A free Silo page that fails once more is withheld, and named in the log (R460). -/
def pageWithheld (s : State) (n block : Nat) : State :=
  let (s1, i) := logEntry s n block
  let s2 := wr (wr s1 MEM_CE_LOG.WINNOW i 1) MEM_CTRL_STAT.WITHHELD n (rd s1 MEM_CTRL_STAT.WITHHELD n + 1)
  raise (0x920 + n) 2 (memDetail block true) { s2 with withheld := tabPut s2.withheld (n, block / 32) 1 }

/-- An uncorrectable block of stack n (R460). -/
def winnowDram (s : State) (n block : Nat) (place : WinnowPlace) (again : Bool) : State :=
  let s1 := perf (bump s MEM_CTRL_STAT.UNCORR n) { perfE 0x84 1 with qual := n, role := 8, addr := block }
  if n < 8 then (if again then pageWithheld s1 n block else s1)
  else
    match place with
    | .table t base plen => poisonBlock s1 t.val block base plen
    | .counters first => pairsRestart s1 first
    | _ => raise (0x920 + n) 2 (memDetail block true) s1

/-- An uncorrectable word of the SRAM of die d, by its array (R457, R362, R340). -/
def winnowSram (s : State) (d block : Nat) (place : WinnowPlace) : State :=
  let s1 := bump s MEM_SRAM_STAT.UNCORR d
  match place with
  | .table t base plen => sramRepair s d t.val block base plen
  | .stepMemory g => galFail raise s1 g.val
  | _ => raise (0x950 + d) 2 (memDetail block true) s1

/-- A block that carries the poison mark already is counted and raises nothing more (R454). -/
def poisonRead (s : State) (u block : Nat) (place : WinnowPlace) : Bool :=
  match place with
  | .table t _ _ => 8 ≤ u && u < 10 && poisoned s t.val block
  | _ => false

/-- What the read finds. -/
def winnowFinds (s : State) (found : WinnowFound) (u block : Nat) (place : WinnowPlace) (again : Bool) : State :=
  if poisonRead s u block place then bump s MEM_CTRL_STAT.POISON_READ u
  else
    match found with
    | .clean => s
    | .corrected =>
      let s1 := bump s MEM_WINNOW.FOUND_CORR 0
      if u < 10 then dramCorr s1 u block true
      else raise (0x940 + (u - 10)) 1 (memDetail block true) (bump s1 MEM_SRAM_STAT.CORR (u - 10))
    | .uncorrectable =>
      let s1 := bump s MEM_WINNOW.FOUND_UNCORR 0
      if u < 10 then winnowDram s1 u block place again else winnowSram s1 (u - 10) block place

/-- WINNOW_READ (R460). -/
def execWinnowRead (found : WinnowFound) (unit : Fin 24) (block : Nat) (place : WinnowPlace) (again : Bool)
    (progress : Fin 1001) (s : State) : Host.Outcome State Fault Refusal :=
  .next (
    if !winnowReads s unit.val block then s
    else
      let s1 := if unit.val < 10 then
          perf s { perfE 0x85 1 with qual := unit.val, role := 8, addr := block } else s
      let s2 := winnowFinds s1 found unit.val block place again
      if progress.val == 1000 then bump (wr s2 MEM_WINNOW.PROGRESS 0 0) MEM_WINNOW.PASSES 0
      else wr s2 MEM_WINNOW.PROGRESS 0 progress.val)

end Sys2Proof.Machine
end

