-- ==== Sys2Proof/Machine/Glean.lean ====
section
/-! DEFINITION. Gleaning (R464 to R470), the calibration commands and the ends of calibration steps (R471 to R474), and
ageing (R475 to R477). -/

namespace Sys2Proof.Machine

/-! ## Targets (R465; log entry 15) -/

/-- Slices of the test of a target. -/
def sliceCount (cls idx : Nat) : Nat :=
  match cls with
  | 0 => 200
  | 4 => if idx == 0 then 16 else 4
  | _ => 1

/-- Targets of a class, as its table counts them; class 1 by lane and slice, class 2 by corridor and physical lane. -/
def targetCount (cls : Nat) : Nat :=
  match cls with
  | 0 => 68
  | 1 => 69632
  | 2 => 25344
  | 3 => 80
  | 4 => 3
  | _ => 0

/-- The die of spare SRAM bank x: 4 on each line die, 8 on each gallery die and hall, in the order of D (log entry 15). -/
def bankDie (x : Nat) : Nat := if x < 32 then x / 4 else 8 + (x - 32) / 8

/-- An index names a target. -/
def targetOk (cls idx dir : Nat) : Bool := idx < targetCount cls && (dir == 0 || (cls == 2 && dir == 1))

/-- A landing that is not FREE names gallery g (R318). -/
def landingNames (s : State) (g : Nat) : Bool :=
  s.cargo.any (fun e => e.2.any (fun a => a.cmd.opcode == 0x44 && opdB a 0x11 == g))

/-- 1 ms has passed without a fetch, DMA, flash access or PMBus transaction (R468). -/
def idleWindow (s : State) : Bool := decide (rd s HID.IDLE_AT 0 + 781250 ≤ rd s HID.TICKS 0)

/-- The target is out of service (R465). -/
def outOfService (s : State) (cls k2 : Nat) : Bool :=
  let idx := k2 / 2
  match cls with
  | 0 => rd s GAL_STAT.STATE idx == 1 && !landingNames s idx
  | 1 => rd s SHF_RX_SLICE.STATE idx == 1 && domSt s (sheafDom (idx / 1088)) == 0
  | 2 => rd s DDL_LANE.STATE (ddlPart idx (k2 % 2)) == 1 && domSt s (corDom (idx / 1056)) == 0
  | 3 => !flag s HID.GLN_SRAM_FAIL idx
  | 4 => idleWindow s
  | _ => false

/-- A slice of a class may start now: parallel slices, power and throttling (R466). -/
def sliceMay (s : State) (cls : Nat) : Bool :=
  !flag s PWR_STATUS.THROTTLE 0 && rd s GLN_STAT.RUNNING 0 < rd s GLN_CFG.MAX_PAR 0
    && rd s GLN_STAT.SLICE_MW 0 + slicePower cls ≤ 250

/-- A slice starts. kind: 0 = its pass counts in the cycle, 1 = the full test of a FAILED spare, 2 = a slice that does not
count in the cycle. -/
def sliceOn (s : State) (cls k2 kind : Nat) : State :=
  let idx := k2 / 2
  let s1 := bump { s with slices := tabPut s.slices (cls, k2) (kind + 4 * rd s HID.TICKS 0) } GLN_CNT.SLICES 0
  let s2 := wrs s1 [(GLN_STAT.RUNNING, 0, rd s1 GLN_STAT.RUNNING 0 + 1),
    (GLN_STAT.SLICE_MW, 0, rd s1 GLN_STAT.SLICE_MW 0 + slicePower cls)]
  let s3 := perf s2 (perfE 0xA3 1)
  if kind == 1 then s3
  else
    match cls with
    | 0 => wr s3 GAL_STAT.STATE idx 4
    | 1 => wr s3 SHF_RX_SLICE.STATE idx 2
    | 2 =>
      let i := ddlPart idx (k2 % 2)
      wr (wr s3 DDL_LANE.STATE i 2) DDL_STAT.SPARES_FREE (i / 1056) (rd s3 DDL_STAT.SPARES_FREE (i / 1056) - 1)
    | _ => s3

/-! ## The cycle (R467) -/

/-- Slices of a cycle of the enabled classes (R465). -/
def cycleTotal (s : State) : Nat :=
  [13600, 69632, 1536, 80, 24].zip (List.range 5) |>.foldl (fun n e => if bitOf (rd s GLN_CFG.EN 0) e.2 then n + e.1 else n) 0

/-- A cycle ends: counted, its marks cleared. -/
def cycleEnd (s : State) : State :=
  let s1 := { s with regs := s.regs.filter (fun e => !(Nat.beq e.1.1 HID.GLN_SKIP.id || Nat.beq e.1.1 HID.GLN_PART.id
    || Nat.beq e.1.1 HID.GLN_ACC.id || Nat.beq e.1.1 GLN_GAL.DONE.id)) }
  bump (wr s1 GLN_STAT.PROGRESS 0 0) GLN_STAT.CYCLES 0

/-- n slices of the cycle are passed or given up. -/
def cycleAdd (s : State) (n : Nat) : State :=
  let v := rd s HID.GLN_ACC 0 + n
  if cycleTotal s == 0 then s else if cycleTotal s ≤ v then cycleEnd s else wrs s [(HID.GLN_ACC, 0, v), (GLN_STAT.PROGRESS, 0, v * 1000 / cycleTotal s)]

/-- Slices of the target passed in the cycle. -/
def slicesDone (s : State) (cls k2 : Nat) : Nat :=
  match cls with
  | 0 => rd s GLN_GAL.DONE (k2 / 2)
  | 4 => rd s HID.GLN_PART (k2 / 2)
  | _ => 0

/-- The target has no further turn in this cycle: what is left of its test is given up. -/
def targetOver (s : State) (cls k2 : Nat) : State :=
  if flag s HID.GLN_SKIP (glnMark cls k2) || !bitOf (rd s GLN_CFG.EN 0) cls then s
  else cycleAdd (wr s HID.GLN_SKIP (glnMark cls k2) 1) (sliceCount cls (k2 / 2) - slicesDone s cls k2)

/-- A target that is not out of service at its turn is skipped (R467). -/
def targetMissed (s : State) (cls k2 : Nat) : State := targetOver (bump s GLN_CNT.MISSED 0) cls k2

/-- A gallery woken for its slices goes back to its former state (R467). -/
def gleanDown (s : State) (cls k2 : Nat) : State :=
  let g := k2 / 2
  if cls != 0 || rd s HID.GLN_FORMER g == 0 then s
  else domMove (wr s HID.GLN_FORMER g 0) (galDom g) (rd s HID.GLN_FORMER g - 1) 1

/-- The test of the target was aborted less than 1 s ago: it has no turn yet (R468). -/
def retryEarly (s : State) (cls k2 : Nat) : Bool :=
  let t := rd s HID.GLN_ABORT_AT (glnMark cls k2)
  t != 0 && decide (rd s HID.TICKS 0 + 1 < t + 781250000)

/-- GLEAN_SLICE_START (R467, R468): the scheduler's turn comes to a target. -/
def execGleanSliceStart (t : GleanTarget) (s : State) : Host.Outcome State Fault Refusal :=
  let k2 := 2 * t.idx + t.dir
  .next (
    if !powered s || !bitOf (rd s GLN_CFG.EN 0) t.cls || !targetOk t.cls t.idx t.dir || (tabGet s.slices (t.cls, k2)).isSome
        || flag s HID.GLN_SKIP (glnMark t.cls k2) || sliceCount t.cls t.idx ≤ slicesDone s t.cls k2
        || retryEarly s t.cls k2 then s
    else if !outOfService s t.cls k2 then targetMissed s t.cls k2
    else if t.cls == 0 && domSt s (galDom t.idx) != 0 then
      if !flag s GLN_CFG.WAKE 0 || rd s PWR_DOM.HELD (galDom t.idx) != 0 then targetMissed s t.cls k2
      else if domChanging s (galDom t.idx) || !sliceMay s t.cls then s
      else domMove (wr s HID.GLN_FORMER t.idx (domSt s (galDom t.idx) + 1)) (galDom t.idx) 0 3
    else if sliceMay s t.cls then sliceOn s t.cls k2 0
    else s)

/-! ## Ends of slices (R466, R468, R469) -/

/-- Commands that wait for the end of a slice complete with a result (R478). -/
def sliceReply (s : State) (cls k2 v : Nat) : State :=
  complete (fun x => waitsOn 0xA6 [cls, k2] x || waitsOn 0xA7 [cls, k2] x) (rData v) s

/-- The slice aborts (R468); the calibration of the lane goes on with it (R479). -/
def gleanAbort (s : State) (cls k2 : Nat) : State :=
  let s1 := gleanDown (abortSlice raise s cls k2) cls k2
  if cls == 1 then calKick s1 (k2 / 2 / 1088) else s1

/-- The resource is spare again after a slice that passed. -/
def sliceBack (s : State) (cls k2 kind : Nat) : State :=
  let idx := k2 / 2
  match cls with
  | 0 => wrs s [(GAL_STAT.STATE, idx, 1), (GLN_GAL.RESULT, idx, 1)]
  | 1 =>
    if kind == 1 then wrs s [(SHF_RX_SLICE.STATE, idx, 1), (SHF_RX_SLICE.FAIL, idx, 0),
      (SHF_RX_ADC.FAILED, idx / 136, rd s SHF_RX_ADC.FAILED (idx / 136) - 1)]
    else wr s SHF_RX_SLICE.STATE idx 1
  | 2 =>
    let i := ddlPart idx (k2 % 2)
    wr (wr s DDL_LANE.STATE i 1) DDL_STAT.SPARES_FREE (i / 1056) (rd s DDL_STAT.SPARES_FREE (i / 1056) + 1)
  | 3 => wr s HID.GLN_SRAM_FAIL idx 0
  | _ => s

/-- A slice that passed counts in the cycle: the next of a gallery's test, whose last shows the time of the full pass. -/
def slicePassed (s : State) (cls k2 : Nat) : State :=
  let idx := k2 / 2
  match cls with
  | 0 =>
    let n := rd s GLN_GAL.DONE idx + 1
    let s1 := wr s GLN_GAL.DONE idx n
    if n == 200 then
      gleanDown (cycleAdd (wrs s1 [(GLN_GAL.LAST_PASS, idx, rd s TIM_NOW.SEC 0), (HID.GLN_WD, glnMark cls k2, 0)]) 1) cls k2
    else cycleAdd s1 1
  | 4 =>
    let n := rd s HID.GLN_PART idx + 1
    cycleAdd (wrs s [(HID.GLN_PART, idx, n),
      (HID.GLN_WD, glnMark cls k2, if n == sliceCount 4 idx then 0 else rd s HID.GLN_WD (glnMark cls k2))]) 1
  | _ => targetOver (wr s HID.GLN_WD (glnMark cls k2) 0) cls k2

/-- What a failed slice leaves (R469); the full test of a FAILED spare leaves it as it is (R470). -/
def sliceBad (s : State) (cls k2 kind : Nat) : State :=
  let idx := k2 / 2
  let s0 := wr (bump s GLN_CNT.FAILS 0) HID.GLN_WD (glnMark cls k2) 0
  if kind == 1 then sliceOff s0 cls k2
  else
    match cls with
    | 0 => targetOver (galFail raise (wr s0 GLN_GAL.RESULT idx 2) idx) 0 k2
    | 1 =>
      let s1 := sliceMark (sliceOff s0 1 k2) (idx / 136) (idx % 136)
      faultK (0xD00 + idx / 1088) (targetOver s1 1 k2)
    | 2 =>
      let s1 := wr (sliceOff s0 2 k2) DDL_LANE.STATE (ddlPart idx (k2 % 2)) 3
      faultK (0xDC0 + idx / 1056) (targetOver s1 2 k2)
    | 3 => faultK (0xDE0 + bankDie idx) (targetOver (wr (sliceOff s0 3 k2) HID.GLN_SRAM_FAIL idx 1) 3 k2)
    | _ => raise 0xDD8 2 (leBytes 1 idx) (targetOver (sliceOff s0 cls k2) cls k2)

/-- A slice fails: its resource is handled, its command answered, the lane's calibration goes on. -/
def gleanFail (s : State) (cls k2 kind : Nat) : State :=
  let s1 := sliceReply (gleanDown (sliceBad s cls k2 kind) cls k2) cls k2 1
  if cls == 1 then calKick s1 (k2 / 2 / 1088) else s1

/-- A slice passes. -/
def gleanPass (s : State) (cls k2 kind : Nat) : State :=
  let s1 := sliceBack (sliceOff s cls k2) cls k2 kind
  let s2 := if kind == 0 then slicePassed s1 cls k2 else s1
  let s3 := sliceReply s2 cls k2 0
  if cls == 1 then calKick s3 (k2 / 2 / 1088) else s3

/-- An IDLE slice during which the host interface moved bytes has been aborted by them (R468). -/
def idleBroken (s : State) (cls start : Nat) : Bool := cls == 4 && start < rd s HID.IDLE_AT 0

/-- GLEAN_SLICE_END (R469). -/
def execGleanSliceEnd (t : GleanTarget) (res : SliceEnd) (s : State) : Host.Outcome State Fault Refusal :=
  let k2 := 2 * t.idx + t.dir
  .next (
    match tabGet s.slices (t.cls, k2) with
    | none => s
    | some v =>
      if idleBroken s t.cls (v / 4) then gleanAbort s t.cls k2
      else
        match res with
        | .pass => gleanPass s t.cls k2 (v % 4)
        | .fail => gleanFail s t.cls k2 (v % 4)
        | .aborted => gleanAbort s t.cls k2)

/-- GLEAN_SLICE_WATCHDOG (R466): the first end of a test by the watchdog is an abort, the second a failure. -/
def execGleanSliceWatchdog (t : GleanTarget) (s : State) : Host.Outcome State Fault Refusal :=
  let k2 := 2 * t.idx + t.dir
  .next (
    match tabGet s.slices (t.cls, k2) with
    | none => s
    | some v =>
      if flag s HID.GLN_WD (glnMark t.cls k2) then gleanFail s t.cls k2 (v % 4)
      else wr (gleanAbort s t.cls k2) HID.GLN_WD (glnMark t.cls k2) 1)

/-! ## GLN_RUN and GLN_RETEST (R470, R478) -/

/-- Class, and index and direction, that a command names. Of a converter slice the index names the lane, and the slice
number the slice (log entry 15). -/
def runClass (a : Acc) : Nat := opdB a 0x10
def runIndex (a : Acc) : Nat := if runClass a == 1 then opd a 0x12 2 * 136 + opdB a 0x15 else opd a 0x12 2
def runKey (a : Acc) : Nat := 2 * runIndex a + (if runClass a == 2 then opdB a 0x14 else 0)

/-- The payload names no target. -/
def runBad (a : Acc) : Bool :=
  !targetOk (runClass a) (runIndex a) (if runClass a == 2 then opdB a 0x14 else 0)
    || (if runClass a == 1 then 136 ≤ opdB a 0x15 else sliceCount (runClass a) (runIndex a) ≤ opdB a 0x15)

/-- The domain of the target. -/
def runDoms (a : Acc) : List Nat :=
  match runClass a with
  | 0 => [galDom (runIndex a)]
  | 1 => [sheafDom (runIndex a / 1088)]
  | 2 => [corDom (runIndex a / 1056)]
  | _ => []

/-- BUSY under R466, or a slice of the target running. -/
def runBusy (s : State) (a : Acc) : Option Reply :=
  if !sliceMay s (runClass a) || (tabGet s.slices (runClass a, runKey a)).isSome then some (rStat .busy) else none

/-- GLN_RUN (R470). -/
def opGlnRun : OpSpec :=
  ⟨0xA6, 0, false, false, fun _ a => badIf (runBad a), fun _ a => runDoms a,
    fun s a => firstOf [invIf (!outOfService s (runClass a) (runKey a)), runBusy s a],
    fun _ a s =>
      let next := [0, 4].contains (runClass a) && opdB a 0x15 != slicesDone s (runClass a) (runKey a)
      let kind := if next || !bitOf (rd s GLN_CFG.EN 0) (runClass a) then 2 else 0
      .wait (sliceOn s (runClass a) (runKey a) kind) [runClass a, runKey a]⟩

/-- The target is a FAILED spare (R469, R470). -/
def failedSpare (s : State) (cls k2 : Nat) : Bool :=
  let idx := k2 / 2
  match cls with
  | 1 => rd s SHF_RX_SLICE.STATE idx == 3 && rd s HID.SLICE_POS idx == 0
  | 2 => rd s DDL_LANE.STATE (ddlPart idx (k2 % 2)) == 3 && 1024 ≤ idx % 1056
  | 3 => flag s HID.GLN_SRAM_FAIL idx
  | _ => false

/-- GLN_RETEST (R470). -/
def opGlnRetest : OpSpec :=
  ⟨0xA7, 0, false, false, fun _ a => badIf (runBad a), fun _ a => runDoms a,
    fun s a => firstOf [invIf (!failedSpare s (runClass a) (runKey a)), runBusy s a],
    fun _ a s => .wait (sliceOn s (runClass a) (runKey a) 1) [runClass a, runKey a]⟩

def execGlnRun (r : Ring) (s : State) : Host.Outcome State Fault Refusal := .next (dispatch opGlnRun r.val s)
def execGlnRetest (r : Ring) (s : State) : Host.Outcome State Fault Refusal := .next (dispatch opGlnRetest r.val s)

/-! ## Calibration (R471 to R474, R478) -/

/-- The target a calibration command names. -/
def calTarget (a : Acc) : Nat := opdB a 0x10 * 64 + opdB a 0x11

/-- A lane of the mask has no working spare: every slice outside its ACTIVE ones is FAILED (R202). -/
def calNoSpare (s : State) (a : Acc) : Bool :=
  opdB a 0x10 == 0 && (bitList (opdB a 0x12) 8).any (fun i =>
    (slicesIn s (8 * opdB a 0x11 + i) 1).isEmpty && (slicesIn s (8 * opdB a 0x11 + i) 2).isEmpty)

/-- The domain of a calibration target. -/
def calDoms (a : Acc) : List Nat := if opdB a 0x10 == 0 then [sheafDom (opdB a 0x11)] else [siteDom (opdB a 0x11)]

/-- CAL_RUN (R471, R474). -/
def opCalRun : OpSpec :=
  ⟨0xA8, 0, false, false,
    fun _ a => badIf (2 < opdB a 0x10 || 63 < opdB a 0x11 || (opdBit a 0x13 0 && (opdB a 0x14 < 32 || 63 < opdB a 0x14))),
    fun _ a => calDoms a,
    fun s a => firstOf [invIf (!calReady s (calTarget a) || calNoSpare s a),
      if rd s GLN_CAL.STATE (calTarget a) == 1 then some (rStat .busy) else none],
    fun _ a s =>
      let x := calTarget a
      if opdBit a 0x13 0 then
        .done (wrs s [(GLN_CAL.WINDOW, x, 1), (HID.CAL_TEV, x, opdB a 0x14), (HID.CAL_MASK, x, opdB a 0x12)]) rOk
      else
        let t := calStart s x (opdB a 0x12)
        if rd t GLN_CAL.STATE x == 1 then .wait t [x] else .done t (rData (rd t HID.CAL_SKIP x))⟩

/-- CAL_ABORT (R474): the passes of the target end, and its window is disarmed. -/
def opCalAbort : OpSpec :=
  ⟨0xA9, 0, false, false, fun _ a => badIf (2 < opdB a 0x10 || 63 < opdB a 0x11), noTargets, noCheck,
    fun _ a s =>
      let x := calTarget a
      let s1 := wr s GLN_CAL.WINDOW x 0
      if rd s GLN_CAL.STATE x != 1 then .done s1 rOk
      else
        let s2 := wrs s1 [(GLN_CAL.STATE, x, 0), (HID.CAL_LANES, x, 0)]
        let s3 := if x < 64 then forEach (sheafLanes x) s2 (fun l t => calLaneClear t l) else s2
        .done (complete (waitsOn 0xA8 [x]) (rStat .aborted) s3) rOk⟩

def execCalRun (r : Ring) (s : State) : Host.Outcome State Fault Refusal := .next (dispatch opCalRun r.val s)
def execCalAbort (r : Ring) (s : State) : Host.Outcome State Fault Refusal := .next (dispatch opCalAbort r.val s)

/-- The lane and slice whose step is in hand in the pass of sheaf sh. -/
def calCurrent (s : State) (sh : Nat) : Option (Nat × Nat) :=
  match (bitList (rd s HID.CAL_LANES sh) 8).head? with
  | none => none
  | some i =>
    let n := rd s HID.CAL_NOW (8 * sh + i)
    if n == 0 || calLost s (8 * sh + i) then none else some (8 * sh + i, n - 1)

/-- A step of lane l's slice j is over: the slice is SPARE, or FAILED (R203). -/
def calStepOver (s : State) (l j : Nat) (failed : Bool) : State :=
  let i := l * 136 + j
  let s1 := wrs s [(HID.CAL_SEEN, i, 1), (HID.CAL_NOW, l, 0), (SHF_RX_ADC.ROT_BUSY, l, 0), (SHF_RX_SLICE.STATE, i, 1)]
  if failed then faultC (0x400 + l / 8) (sliceMark s1 l j) else s1

/-- The result of a target is recorded (R473). -/
def calRecord (s : State) (x temp mv : Nat) : State :=
  wrs s [(GLN_CAL.TEMP, x, temp), (GLN_CAL.SUPPLY_MV, x, mv), (GLN_CAL.STALE, x, 0)]

/-- CAL_STEP_DONE (R471, R472): a step of the pass of a target converges. -/
def execCalStepDone (kind : Fin 3) (t : Fin 64) (comp : BitVec 4) (inRange : Bool) (temp mv : BitVec 16) (s : State) :
    Host.Outcome State Fault Refusal :=
  let x := kind.val * 64 + t.val
  .next (
    if rd s GLN_CAL.STATE x != 1 then s
    else if x < 64 then
      match calCurrent s x with
      | none => calKick s x
      | some (l, j) =>
        let s1 := perf s (perfE 0xA4 1)
        let s2 := if inRange then wr (calRecord s1 x temp.toNat mv.toNat) HID.CAL_COMP (l * 136 + j) (comp.toNat + 16) else s1
        calKick (calStepOver s2 l j (!inRange)) x
    else calEnd (calRecord (perf s (perfE 0xA4 1)) x temp.toNat mv.toNat) x)

/-- A step misses its budget: counted and reported (R472). -/
def calMissed (s : State) (x : Nat) : State :=
  let s1 := wr (bump (perf s (perfE 0xA4 1)) GLN_CAL.TIMEOUTS x) HID.CAL_MISS x 1
  faultC (if x < 64 then 0xD40 + x else 0xD80 + x % 64) s1

/-- CAL_STEP_TIMEOUT (R472): the step keeps the previous values, and the pass goes on. -/
def execCalStepTimeout (kind : Fin 3) (t : Fin 64) (s : State) : Host.Outcome State Fault Refusal :=
  let x := kind.val * 64 + t.val
  .next (
    if rd s GLN_CAL.STATE x != 1 then s
    else if x < 64 then
      match calCurrent s x with
      | none => calKick s x
      | some (l, j) => calKick (calStepOver (calMissed s x) l j false) x
    else calEnd (calMissed s x) x)

/-- The temperature differs from the recorded one by more than 10 K (R473). -/
def calStale (s : State) (x temp : Nat) : Bool :=
  decide (80 < (sext 16 temp - sext 16 (rd s GLN_CAL.TEMP x)).natAbs)

/-- CAL_AUTO_START (R473): a result is found stale, and renewed by a pass over every lane or the site. -/
def execCalAutoStart (kind : Fin 3) (t : Fin 64) (temp : BitVec 16) (s : State) : Host.Outcome State Fault Refusal :=
  let x := kind.val * 64 + t.val
  .next (
    if rd s GLN_CAL.STATE x == 0 || !calStale s x temp.toNat then s
    else
      let s1 := wr s GLN_CAL.STALE x 1
      if rd s GLN_CAL.STATE x == 1 || !flag s GLN_CFG.AUTO_RECAL 0 || !calReady s x then s1 else calStart s1 x 0xFF)

/-! ## Ageing (R475 to R477) -/

/-- V_max(L) in mV (R476). -/
def ageVmax (l : Nat) : Nat :=
  match l with
  | 3 => 820
  | 2 => 750
  | 1 => 690
  | _ => 640

/-- V_need of level l, or the slack of a line die in the first field, as GLN_AGE_DIE.NEED holds them. -/
def needOf (s : State) (d l : Nat) : Nat := bitsOf (rd s GLN_AGE_DIE.NEED d) (16 * l) 16

/-- The highest level at or below l that ageing still allows; none = not even PL0 (R476). -/
def ageTop (s : State) (d : Nat) : Nat → Option Nat
  | 0 => if needOf s d 0 + 10 ≤ ageVmax 0 then some 0 else none
  | l + 1 => if needOf s d (l + 1) + 10 ≤ ageVmax (l + 1) then some (l + 1) else ageTop s d l

/-- A report of ageing that a die makes once (R476). -/
def ageOnce (s : State) (d bit : Nat) (g : State → State) : State :=
  let v := rd s HID.AGE_OUT d
  if bitOf v bit then s else g (wr s HID.AGE_OUT d (setBit v bit))

/-- No margin or slack is left on die d (R464, R476). -/
def ageNone (s : State) (d : Nat) : State := ageOnce s d 1 (fun t => raise 0xDFE 2 (leBytes 1 d) t)

/-- AGE_MAX of die n of PL_SET is lowered to l, for good (R476). -/
def ageLower (s : State) (n l : Nat) : State :=
  let s1 := wrs s [(PWR_PL.AGE_MAX, n, l), (GLN_AGE_DIE.AGE_MAX, 8 + n, l), (HID.AGE_FUSE, n, l)]
  levelEval (faultC (0xDF0 + (8 + n)) (thermEvent s1 3 n l)) n

/-- The cap of a gallery die or hall after a new wear account (R476). -/
def ageDie (n : Nat) (s : State) : State :=
  let cap := rd s PWR_PL.AGE_MAX n
  let top := ageTop s (8 + n) cap
  let s1 := if top.getD 0 < cap then ageLower s n (top.getD 0) else s
  if top.isNone then ageNone s1 (8 + n) else s1

/-- The slack of a line die after a new wear account (R476). -/
def ageLine (d : Nat) (s : State) : State :=
  let s1 := if needOf s d 0 < 200 then ageOnce s d 0 (faultC (0xDF0 + d)) else s
  if needOf s d 0 == 0 then ageNone s1 d else s1

/-- NEED of a die from the values of its levels. -/
def needField (l : List Nat) : Nat := ((l.take 4).zip (List.range 4)).foldl (fun v e => v + e.1 % 65536 * 2 ^ (16 * e.2)) 0

/-- The hour just past is added to the account (R475). -/
def wearHour (s : State) (tj : Nat) : State :=
  let t := sext 16 tj
  wrs s [(HID.WEAR_HOURS, 0, rd s HID.WEAR_HOURS 0 + 1),
    (HID.WEAR_H85, 0, rd s HID.WEAR_H85 0 + (if 680 < t then 1 else 0)),
    (HID.WEAR_H100, 0, rd s HID.WEAR_H100 0 + (if 800 < t then 1 else 0)),
    (HID.WEAR_TJ, 0, rd s HID.WEAR_TJ 0 + (t + 32768).toNat)]

/-- WEAR_ACCOUNT_WRITE (R475, R476): shifts of the monitors, needs of the dies, hottest reading of the hour. -/
def execWearAccountWrite (shifts : List (BitVec 16)) (needs : List (List Nat)) (tj : BitVec 16) (s : State) :
    Host.Outcome State Fault Refusal :=
  let s1 := forEach (List.range 68) (wearHour (idleUse s) tj.toNat) (fun m t => wr t GLN_AGE_MON.SHIFT m (shifts.getD m 0).toNat)
  let s2 := forEach (List.range 14) s1 (fun d t => wr t GLN_AGE_DIE.NEED d (needField (needs.getD d [])))
  .next (forEach (List.range 8) (forEach (List.range 6) s2 ageDie) ageLine)

/-- y tenths of a year do not exceed, by more than half a tenth, the years left after h hours when the shift of m mV may
grow to r mV and grows as the power n / 1000 of the time (R477): a year is 8760 h. -/
def yearsReach (h n r m y : Nat) : Bool :=
  y == 0 || decide (((2 * y - 1) * 8760 + 20 * h) ^ n * m ^ 1000 ≤ r ^ 1000 * (20 * h) ^ n)

/-- The largest value of k bits above y that the prediction reaches. -/
def yearsSearch (ok : Nat → Bool) : Nat → Nat → Nat
  | 0, y => y
  | k + 1, y => yearsSearch ok k (if ok (y + 2 ^ k) then y + 2 ^ k else y)

/-- Years left of level l of a gallery die or hall in tenths, the nearest (R477; log entry 112). No shift yet: beyond every
limit; no margin left: 0. -/
def yearsLeft (s : State) (d l : Nat) : Nat :=
  let h := rd s HID.WEAR_HOURS 0
  let v0 := Config.ageInitial d l
  let n := clampN 100 300 (Config.ageExponent d h (needOf s d l))
  if needOf s d l ≤ v0 then 0xFFFF
  else yearsSearch (yearsReach h n (ageVmax l - 10 - v0) (needOf s d l - v0)) 16 0

/-- YEARS of a level (R477). What it is of a line die no rule states: a part's value (log entry 9). -/
def yearsOf (s : State) (d l : Nat) : Nat :=
  if d < 8 then min 0xFFFF (Config.ageYears d l (rd s HID.WEAR_HOURS 0) (needOf s d l)) else yearsLeft s d l

/-- The 24 bytes of a die in the report (R477). -/
def ageDieBytes (s : State) (d : Nat) : List Byte :=
  bytesOf [d, if d < 8 then 0xFF else rd s GLN_AGE_DIE.AGE_MAX d] ++ leBytes 8 (rd s GLN_AGE_DIE.NEED d)
    ++ (List.range 4).flatMap (fun l => leBytes 2 (yearsOf s d l)) ++ leBytes 6 0

/-- AVG_TJ; no rule states it before the first hour: a free value (log entry 9). -/
def avgTj (s : State) : Nat :=
  let h := rd s HID.WEAR_HOURS 0
  if h == 0 then freeNat s else wrapI 16 (((rd s HID.WEAR_TJ 0 / h : Nat) : Int) - 32768)

/-- The ageing report (R477). -/
def ageBytes (s : State) : List Byte :=
  leBytes 16 Config.serial.toNat ++ leBytes 4 (rd s HID.WEAR_HOURS 0) ++ leBytes 2 (avgTj s)
    ++ leBytes 4 (rd s HID.WEAR_H85 0) ++ leBytes 4 (rd s HID.WEAR_H100 0) ++ leBytes 2 0
    ++ (List.range 14).flatMap (ageDieBytes s)

/-- AGE_REPORT (R477). -/
def opAgeReport : OpSpec :=
  ⟨0xAA, 1, false, false, fun _ a => badIf (a.cmd.buf.length != 368), noTargets, noCheck,
    fun _ a s => .done (toHost (if rd s HID.WEAR_HOURS 0 == 0 then took s else s) (opd a 0x10 8) (ageBytes s)) rOk⟩

def execAgeReport (r : Ring) (s : State) : Host.Outcome State Fault Refusal := .next (dispatch opAgeReport r.val s)

end Sys2Proof.Machine
end

