-- ==== Sys2Proof/Machine/Perf.lean ====
section
/-! DEFINITION. The performance monitor's commands (R481 to R490): configuration and runs of counters, tagging, trace and
bandwidth windows. Occurrences reach the counters through `perf`. -/

namespace Sys2Proof.Machine

/-! ## Configuration (R482, R483) -/

/-- The codes of the event catalogue (R482). -/
def perfCode (c : Nat) : Bool :=
  c == 0 || (1 ≤ c && c ≤ 8) || (0x10 ≤ c && c ≤ 0x13) || (0x20 ≤ c && c ≤ 0x27) || (0x30 ≤ c && c ≤ 0x39)
    || (0x40 ≤ c && c ≤ 0x43) || (0x50 ≤ c && c ≤ 0x5A) || (0x60 ≤ c && c ≤ 0x62) || (0x70 ≤ c && c ≤ 0x7A)
    || (0x80 ≤ c && c ≤ 0x85) || (0x90 ≤ c && c ≤ 0x93) || (0xA0 ≤ c && c ≤ 0xA4) || c == 0xB0 || c == 0xF0

/-- The kind of master the catalogue gives an event: 0 none, 1 ring, 2 gallery, 3 port, 4 corridor. -/
def perfMaster (c : Nat) : Nat :=
  if [1, 2, 5].contains c then 1
  else if (0x50 ≤ c && c ≤ 0x5A) || c == 0x61 || c == 0x62 then 2
  else if (0x20 ≤ c && c ≤ 0x39) || (0x70 ≤ c && c ≤ 0x7A) then 3
  else if 0x40 ≤ c && c ≤ 0x43 then 4
  else 0

/-- The catalogue gives the event a role filter. -/
def perfRole (c : Nat) : Bool := [1, 2, 0x11, 0x60].contains c || (0x80 ≤ c && c ≤ 0x85)

/-- The catalogue gives the event an address filter. -/
def perfAddr (c : Nat) : Bool := [3, 4].contains c || (0x80 ≤ c && c ≤ 0x85)

/-- The catalogue gives the event a class filter. -/
def perfClass (c : Nat) : Bool :=
  [0x32, 0x33].contains c || (0x50 ≤ c && c ≤ 0x53) || (0x57 ≤ c && c ≤ 0x5A) || (0x70 ≤ c && c ≤ 0x7A)

/-- The fields of PMU_CFG. -/
def cfgFields : List Fld :=
  [PMU_CFG.EVENT, PMU_CFG.QUAL, PMU_CFG.ROLE, PMU_CFG.MKIND, PMU_CFG.MINDEX, PMU_CFG.MMASK, PMU_CFG.CKIND, PMU_CFG.CVAL,
    PMU_CFG.AEN, PMU_CFG.GROUP, PMU_CFG.OVF_IRQ, PMU_CFG.ADDR_LO, PMU_CFG.ADDR_HI]

/-- A field of the buffer of PMU_SET. -/
def cfgOf (a : Acc) (f : Fld) : Nat := bitsOf (opdBuf a 0 16) f.lo f.w

/-- The payload of PMU_SET is malformed: the length of its buffer, counter, code, a kind of no meaning, or a filter that
the catalogue does not give (R482, R483). -/
def pmuSetBad (a : Acc) : Option Nat :=
  let c := cfgOf a PMU_CFG.EVENT
  if a.cmd.buf.length != 16 || 511 < opd a 0x1C 2 || !perfCode c || 4 < cfgOf a PMU_CFG.MKIND || cfgOf a PMU_CFG.CKIND == 3 then
    some 0
  else if cfgOf a PMU_CFG.ROLE != 15 && !perfRole c then some 1
  else if cfgOf a PMU_CFG.MKIND != 0 && cfgOf a PMU_CFG.MKIND != perfMaster c then some 2
  else if cfgOf a PMU_CFG.AEN != 0 && !perfAddr c then some 3
  else if cfgOf a PMU_CFG.CKIND != 0 && !perfClass c then some 4
  else none

/-- Group q runs or has a run pending (R484). -/
def groupBusy (s : State) (q : Nat) : Bool := bitOf (rd s PMU_STATUS.RUNNING 0) q || (tabGet s.pmuRuns (q, 0)).isSome

/-- PMU_SET (R482 to R484). -/
def opPmuSet : OpSpec :=
  ⟨0xB0, 1, false, false, fun _ a => pmuSetBad a, noTargets,
    fun s a => if groupBusy s (rd s PMU_CFG.GROUP (opd a 0x1C 2)) then some (rStat .busy) else none,
    fun _ a s => .done (putFields s cfgFields (opd a 0x1C 2) (opdBuf a 0 16)) rOk⟩

/-! ## Runs (R484) -/

/-- 10 us, in 2^-16 ns. -/
def runLead : Nat := 10000 * 65536

/-- The time a PMU_RUN names; 0 = the check time plus 10 us. -/
def runTime (s : State) (a : Acc) : Nat := if opd a 0x14 10 == 0 then localTime s + runLead else timeOfField (opd a 0x14 10)

/-- The groups of a mask. -/
def runGroups (mask : Nat) : List Nat := bitList mask 16

/-- PENDING follows the runs that wait (R490). -/
def pendShow (s : State) : State := wr s PMU_STATUS.PENDING 0 (bitmapOf (s.pmuRuns.map (·.1.1)))

/-- PMU_RUN (R484). A run of no group has nothing to wait for. -/
def opPmuRun : OpSpec :=
  ⟨0xB1, 0, false, false, noBad, noTargets,
    fun s a => firstOf [if runTime s a < localTime s + runLead then some (rStat .late) else none,
      if (runGroups (opd a 0x10 2)).any (fun q => (tabGet s.pmuRuns (q, 0)).isSome) then some (rStat .busy) else none],
    fun _ a s =>
      let m := opd a 0x10 2
      let x : PmuRun := ⟨m, opdBit a 0x12 0, opdBit a 0x12 1, runTime s a⟩
      if m == 0 then .done s rOk
      else .wait (pendShow { s with pmuRuns := (runGroups m).foldl (fun t q => tabPut t (q, 0) x) s.pmuRuns }) [m]⟩

/-- The counters of a mask of groups at zero. -/
def groupsZero (s : State) (m : Nat) : State :=
  forEach ((List.range 512).filter (fun n => bitOf m (rd s PMU_CFG.GROUP n))) s (fun n t =>
    wrs t [(PMU_CTR.COUNT, n, 0), (PMU_CTR.OVF, n, 0)])

/-- The run that group q waits for takes effect at its tick, in all its groups (R484). -/
def runSwitch (q : Nat) (s : State) : State :=
  match tabGet s.pmuRuns (q, 0) with
  | none => s
  | some x =>
    if localTime s < x.time then s
    else
      let run := rd s PMU_STATUS.RUNNING 0
      let run' := (runGroups x.mask).foldl (fun v q => if x.start then setBit v q else clrBit v q) run
      let s1 := pendShow { s with pmuRuns := (runGroups x.mask).foldl (fun t q => tabDel t (q, 0)) s.pmuRuns }
      let s2 := wr (if x.clear then groupsZero s1 x.mask else s1) PMU_STATUS.RUNNING 0 run'
      complete (waitsOn 0xB1 [x.mask]) rOk s2

/-- PMU_RUN_SWITCH (R484). -/
def execPmuRunSwitch (group : Fin 16) (s : State) : Host.Outcome State Fault Refusal := .next (runSwitch group.val s)

/-- Counter n written: the halves given, then the increments still in transit (R482). A run due on this tick switches
first, so that its clear comes before the written value (R488). -/
def counterPut (s0 : State) (n : Nat) (count ovf : Option Nat) (transit : Nat) : State :=
  let s := runSwitch (rd s0 PMU_CFG.GROUP n) s0
  let s1 := match count with
    | some v => wr s PMU_CTR.COUNT n v
    | none => s
  let s2 := match ovf with
    | some v => wr s1 PMU_CTR.OVF n v
    | none => s1
  if transit == 0 then s2
  else
    let s3 := perfAdd transit s2 n
    if perfWraps s2 n transit then counterRecord s3 n else s3

/-- PMU_COUNTER_WRITE (R482). -/
def execPmuCounterWrite (n : Fin 512) (count : Option (BitVec 48)) (ovf : Option (BitVec 8)) (transit : Nat) (s : State) :
    Host.Outcome State Fault Refusal :=
  .next (counterPut s n.val (count.map (·.toNat)) (ovf.map (·.toNat)) transit)

/-! ## Tags and trace (R485, R486) -/

/-- PMU_TAG_SET (R485). The first packet a gallery then admits is tagged (log entry 9). -/
def opPmuTagSet : OpSpec :=
  ⟨0xB2, 0, false, false,
    fun _ a => badIf (511 < opd a 0x12 2 || (opdBit a 0x10 0 && (opdB a 0x11 < 8 || 24 < opdB a 0x11))), noTargets, noCheck,
    fun _ a s =>
      let s1 := { s with regs := s.regs.filter (fun e => !Nat.beq e.1.1 HID.TAG_LEFT.id) }
      .done (wrs s1 [(PMU_TAG.EN, 0, b2n (opdBit a 0x10 0)), (PMU_TAG.JITTER, 0, b2n (opdBit a 0x10 1)),
        (PMU_TAG.PORT_EN, 0, b2n (opdBit a 0x10 2)), (PMU_TAG.K, 0, opdB a 0x11), (PMU_TAG.PORT, 0, opd a 0x12 2),
        (PMU_TAG.GALLERIES, 0, opd a 0x18 9)]) rOk⟩

/-- TRACE_CTRL (R486). -/
def opTraceCtrl : OpSpec :=
  ⟨0xB3, 0, false, false, noBad, noTargets, noCheck,
    fun _ a s =>
      let s1 := wrs s [(PMU_TRACE_STAT.EN, 0, b2n (opdBit a 0x10 0)), (PMU_TRACE_STAT.MODE, 0, b2n (opdBit a 0x10 1))]
      let s2 := { s1 with regs := s1.regs.filter (fun e => !Nat.beq e.1.1 PMU_TRACE.RECORD.id) }
      .done (if opdBit a 0x10 2 then wrs s2 [(PMU_TRACE_STAT.FILL, 0, 0), (PMU_TRACE_STAT.HEAD, 0, 0)] else s1) rOk⟩

/-! ## Bandwidth windows (R487) -/

/-- BW_SET (R487). -/
def opBwSet : OpSpec :=
  ⟨0xB4, 0, false, false,
    fun _ a => badIf (511 < opd a 0x10 2 || (opdBit a 0x12 0 && (opd a 0x14 4 == 0 || 1000000 < opd a 0x14 4))), noTargets,
    noCheck,
    fun _ a s =>
      let p := opd a 0x10 2
      .done (wrs s [(PMU_BW.W_US, p, if opdBit a 0x12 0 then opd a 0x14 4 else 0), (HID.BW_RX, p, 0), (HID.BW_TX, p, 0),
        (HID.BW_AT, p, rd s HID.TICKS 0)]) rOk⟩

/-- MIN, MAX and SEQ of a port's windows as they start (R487). -/
def bwClear (p : Nat) (s : State) : State :=
  wrs s [(PMU_BW.RX_MIN, p, 2 ^ 40 - 1), (PMU_BW.RX_MIN_SEQ, p, 0), (PMU_BW.RX_MAX, p, 0), (PMU_BW.RX_MAX_SEQ, p, 0),
    (PMU_BW.TX_MIN, p, 2 ^ 40 - 1), (PMU_BW.TX_MIN_SEQ, p, 0), (PMU_BW.TX_MAX, p, 0), (PMU_BW.TX_MAX_SEQ, p, 0),
    (HID.BW_SEQ, p, 0)]

/-- One direction's values at the end of a window, each with the window's SEQ. -/
def bwShow (s : State) (p v : Nat) (last lastQ lo loQ hi hiQ : Fld) : State :=
  let q := rd s HID.BW_SEQ p
  let s1 := wrs s [(last, p, v), (lastQ, p, q)]
  let s2 := if v < rd s1 lo p then wrs s1 [(lo, p, v), (loQ, p, q)] else s1
  if rd s2 hi p < v then wrs s2 [(hi, p, v), (hiQ, p, q)] else s2

/-- The W us of port p's window are over (R487). -/
def windowOver (s : State) (p : Nat) : Bool :=
  rd s PMU_BW.W_US p != 0 && decide (rd s PMU_BW.W_US p * 3125 ≤ (rd s HID.TICKS 0 - rd s HID.BW_AT p) * 4)

/-- The window of port p ends, if it is over: its values are written, and the next one starts (R487). -/
def windowEnd (i : Nat) (s : State) : State :=
  if !windowOver s i then s
  else
    let s1 := bwShow s i (rd s HID.BW_RX i) PMU_BW.RX_LAST PMU_BW.RX_LAST_SEQ PMU_BW.RX_MIN PMU_BW.RX_MIN_SEQ PMU_BW.RX_MAX
      PMU_BW.RX_MAX_SEQ
    let s2 := bwShow s1 i (rd s HID.BW_TX i) PMU_BW.TX_LAST PMU_BW.TX_LAST_SEQ PMU_BW.TX_MIN PMU_BW.TX_MIN_SEQ PMU_BW.TX_MAX
      PMU_BW.TX_MAX_SEQ
    wrs s2 [(HID.BW_RX, i, 0), (HID.BW_TX, i, 0), (HID.BW_SEQ, i, rd s HID.BW_SEQ i + 1), (HID.BW_AT, i, rd s HID.TICKS 0)]

/-- BW_WINDOW_END (R487): before W us have passed nothing ends. -/
def execBwWindowEnd (p : Port) (s : State) : Host.Outcome State Fault Refusal := .next (windowEnd p.val s)

/-- BW_CLEAR (R487): a window that ends on this tick is written first (R488). -/
def opBwClear : OpSpec :=
  ⟨0xB5, 0, false, false, fun _ a => badIf (511 < opd a 0x10 2 && opd a 0x10 2 != 0xFFFF), noTargets, noCheck,
    fun _ a s =>
      .done (forEach (if opd a 0x10 2 == 0xFFFF then List.range 512 else [opd a 0x10 2]) s
        (fun p t => bwClear p (windowEnd p t))) rOk⟩

def execPmuSet (r : Ring) (s : State) : Host.Outcome State Fault Refusal := .next (dispatch opPmuSet r.val s)
def execPmuRun (r : Ring) (s : State) : Host.Outcome State Fault Refusal := .next (dispatch opPmuRun r.val s)
def execPmuTagSet (r : Ring) (s : State) : Host.Outcome State Fault Refusal := .next (dispatch opPmuTagSet r.val s)
def execTraceCtrl (r : Ring) (s : State) : Host.Outcome State Fault Refusal := .next (dispatch opTraceCtrl r.val s)
def execBwSet (r : Ring) (s : State) : Host.Outcome State Fault Refusal := .next (dispatch opBwSet r.val s)
def execBwClear (r : Ring) (s : State) : Host.Outcome State Fault Refusal := .next (dispatch opBwClear r.val s)

end Sys2Proof.Machine
end

