-- ==== Sys2Proof/Machine/Corridor.lean ====
section
/-! DEFINITION. Corridors (R491 to R499): starts, markers and errored intervals, packets and control messages, and the
replacement of lanes. Direction d of corridor c is part 2c + d. -/

namespace Sys2Proof.Machine

/-- The direction carries packets: UP or DEGRADED. -/
def dirUp (s : State) (dd : Nat) : Bool := rd s DDL_STAT.STATE dd == 3 || rd s DDL_STAT.STATE dd == 4

/-! ## Starts (R492, R493) -/

/-- An attempt has failed: it is repeated, and after three of them the corridor is held (R88, R492). -/
def attemptFail (s : State) (c : Nat) : State :=
  let n := rd s HID.DDL_TRIES c + 1
  if 3 ≤ n then holdCorridor raise (wr s HID.DDL_TRIES c 0) c
  else wrs s [(HID.DDL_TRIES, c, n), (DDL_STAT.STATE, 2 * c, 1), (DDL_STAT.STATE, 2 * c + 1, 1),
    (DDL_STAT.ATTEMPT, 2 * c, n + 1), (DDL_STAT.ATTEMPT, 2 * c + 1, n + 1)]

/-- Physical lanes of a direction in a state. -/
def lanesIn (s : State) (dd st : Nat) : List Nat := (List.range 1056).filter (fun x => rd s DDL_LANE.STATE (dd * 1056 + x) == st)

/-- A lane that failed at the start: its logical lane goes to the lowest free spare. -/
def startMap (dd : Nat) (s : State) (x : Nat) : State :=
  let i := dd * 1056 + x
  let s1 := wrs s [(DDL_LANE.STATE, i, 3), (DDL_LANE.POS, i, 0x7FF)]
  if rd s DDL_LANE.STATE i == 0 then
    match (lanesIn s dd 1).head? with
    | some y => wrs s1 [(DDL_LANE.STATE, dd * 1056 + y, 0), (DDL_LANE.POS, dd * 1056 + y, rd s DDL_LANE.POS i)]
    | none => s1
  else s1

/-- The lanes of a list that were not FAILED yet: spares first, so that none of them takes a logical lane. -/
def startFailed (s : State) (dd : Nat) (failed : List Nat) : List Nat :=
  failed.filter (fun x => rd s DDL_LANE.STATE (dd * 1056 + x) == 1)
    ++ failed.filter (fun x => rd s DDL_LANE.STATE (dd * 1056 + x) == 0)

/-- A direction becomes UP: its failed lanes replaced, skew and peaking shown (R492 to R494). -/
def dirStart (s : State) (dd : Nat) (failed : List Nat) (skew peak : Nat) : State :=
  let s1 := (startFailed s dd failed).foldl (startMap dd) s
  wrs s1 [(DDL_STAT.STATE, dd, 3), (DDL_STAT.SKEW_UI, dd, skew), (DDL_STAT.SPARES_FREE, dd, (lanesIn s1 dd 1).length),
    (DDL_RX_CFG.PEAK_NOW, dd, if flag s DDL_RX_CFG.PEAK_AUTO dd then peak else min 16 (rd s DDL_RX_CFG.PEAK dd))]

/-- CORRIDOR_START (R492): the receiver of one direction has locked and deskewed; lanes that failed, largest skew, peaking
chosen. More failed lanes than free spares is a failed attempt. -/
def execCorridorStart (c : Corridor) (dir : Fin 2) (failed : List (Fin 1056)) (skew : BitVec 9) (peak : BitVec 5) (s : State) :
    Host.Outcome State Fault Refusal :=
  let dd := 2 * c.val + dir.val
  let fs := (failed.map (·.val)).dedup
  let lost := (startFailed s dd fs).filter (fun x => rd s DDL_LANE.STATE (dd * 1056 + x) == 0)
  let free := (lanesIn s dd 1).filter (fun x => !fs.contains x)
  .next (
    if rd s DDL_STAT.STATE dd != 1 && rd s DDL_STAT.STATE dd != 2 then s
    else if free.length < lost.length || 256 < skew.toNat then attemptFail s c.val
    else dirStart s dd fs skew.toNat (min 16 peak.toNat))

/-- CORRIDOR_START_TIMEOUT (R492): an attempt has passed 300 us. -/
def execCorridorStartTimeout (c : Corridor) (s : State) : Host.Outcome State Fault Refusal :=
  let starting := fun (dd : Nat) => rd s DDL_STAT.STATE dd == 1 || rd s DDL_STAT.STATE dd == 2
  .next (if starting (2 * c.val) || starting (2 * c.val + 1) then attemptFail s c.val else s)

/-! ## Markers (R494, R496) -/

/-- A lane that no longer works: a DATA lane is replaced, a SPARE one is FAILED; a replacement that was going onto it begins
again on another (R494, R496). -/
def laneLost (s : State) (dd x : Nat) : State :=
  let i := dd * 1056 + x
  match rd s DDL_LANE.STATE i with
  | 0 => ddlReplace raise s dd x
  | 1 =>
    let s1 := wrs s [(DDL_LANE.STATE, i, 3), (DDL_STAT.SPARES_FREE, dd, rd s DDL_STAT.SPARES_FREE dd - 1)]
    if rd s HID.DDL_TO dd != x + 1 then s1
    else ddlNext raise (wrs s1 [(HID.DDL_WANT, dd * 1056 + (rd s HID.DDL_FROM dd - 1), 1), (HID.DDL_FROM, dd, 0), (HID.DDL_TO, dd, 0)]) dd
  | _ => s

/-- An errored interval of a lane: counted; REPL_THR of them within REPL_WIN_US replace a DATA lane (R494, R496). -/
def laneErr (s : State) (dd x : Nat) : State :=
  let now := rd s HID.TICKS 0
  let win := rd s DDL_CFG.REPL_WIN_US 0 * 3125 / 4
  let ts := now :: ((tabGet s.errTicks (dd, x)).getD []).filter (fun t => decide (now ≤ t + win))
  let s1 := perf (bump s DDL_LANE.ERR (dd * 1056 + x)) { perfE 0x42 1 with kind := 4, index := dd / 2 }
  if rd s DDL_LANE.STATE (dd * 1056 + x) == 0 && rd s DDL_CFG.REPL_THR 0 ≤ ts.length then
    laneLost { s1 with errTicks := tabDel s1.errTicks (dd, x) } dd x
  else { s1 with errTicks := tabPut s1.errTicks (dd, x) (ts.take 255) }

/-- CORRIDOR_MARKER_RX (R494): a marker is due on a lane: seen or missed, and the CRC of its interval. -/
def execCorridorMarkerRx (c : Corridor) (dir : Fin 2) (x : Fin 1056) (seen crcOk : Bool) (s : State) :
    Host.Outcome State Fault Refusal :=
  let dd := 2 * c.val + dir.val
  let i := dd * 1056 + x.val
  .next (
    if !dirUp s dd || 2 ≤ rd s DDL_LANE.STATE i then s
    else if seen then
      let s1 := wr s HID.DDL_MISS i 0
      if crcOk then s1 else laneErr s1 dd x.val
    else if rd s HID.DDL_MISS i == 1 then
      laneLost (bump (wr s HID.DDL_MISS i 0) DDL_CNT.LOCK_LOSS dd) dd x.val
    else wr s HID.DDL_MISS i 1)

/-! ## Packets and control messages (R495) -/

/-- The direction in which a packet crosses corridor c, if it does (R21). A frame that the host sent to a queue crosses
none on its way to the hall. -/
def crosses (c : Nat) (k : Pkt) : Option Nat :=
  let d := (c - 8) / 4
  let h := (c - 8) / 2 % 2
  match k.loc with
  | .fromMac p => if c < 8 && p / 64 == c then some 0 else none
  | .toMac p => if c < 8 && p / 64 == c then some 1 else none
  | .toHall x => if 8 ≤ c && x == h && k.inPort / 128 == d && !(k.host && k.res.isNone) then some 0 else none
  | .egress g => if 8 ≤ c && galDie g == d && hallOf k.queue == h then some 1 else none
  | _ => none

/-- CORRIDOR_PACKET_RX (R495). -/
def execCorridorPacketRx (c : Corridor) (pkt : Nat) (crcOk : Bool) (s : State) : Host.Outcome State Fault Refusal :=
  .next (
    match (pktOf s pkt).bind (fun k => (crosses c.val k).map (fun dir => (k, dir))) with
    | none => s
    | some (k, dir) =>
      let s1 := perf s { perfE 0x40 1 with kind := 4, index := c.val }
      if crcOk then s1 else faultC (0xA60 + c.val) (bump (losePkt s1 k) DDL_CNT.CRC_DROP (2 * c.val + dir)))

/-- CTRL_MSG_RETRY (R495): a corrupted control message is sent again; `last` = it arrives intact. -/
def execCtrlMsgRetry (c : Corridor) (dir : Fin 2) (last : Bool) (s : State) : Host.Outcome State Fault Refusal :=
  let dd := 2 * c.val + dir.val
  let s1 := perf (emit (bump s DDL_CNT.CTRL_RETRY dd) (.ctrlResend c.val dir.val)) { perfE 0x41 1 with kind := 4, index := c.val }
  let n := rd s HID.DDL_RETRY dd + 1
  .next (
    if last then wr s1 HID.DDL_RETRY dd 0
    else if 16 ≤ n then faultK (0xA20 + c.val) (wr s1 HID.DDL_RETRY dd 0)
    else wr s1 HID.DDL_RETRY dd n)

/-! ## Replacement (R496, R497) -/

/-- DDL_LANE.REPLACE written 1: without a free spare, or on a lane that is not DATA, nothing happens (R496). -/
def replaceAsk (s : State) (dd x : Nat) : State := if (ddlSpare s dd).isNone then s else ddlReplace raise s dd x

/-- CORRIDOR_LANE_REPLACE (R496). -/
def execCorridorLaneReplace (c : Corridor) (dir : Fin 2) (x : Fin 1056) (s : State) : Host.Outcome State Fault Refusal :=
  .next (replaceAsk s (2 * c.val + dir.val) x.val)

/-- CORRIDOR_LANE_SWITCH (R496): the spare takes the lane's place at a marker boundary; the next replacement starts. -/
def execCorridorLaneSwitch (c : Corridor) (dir : Fin 2) (s : State) : Host.Outcome State Fault Refusal :=
  let dd := 2 * c.val + dir.val
  .next (
    if rd s HID.DDL_FROM dd == 0 then s
    else
      let i := dd * 1056 + (rd s HID.DDL_FROM dd - 1)
      let j := dd * 1056 + (rd s HID.DDL_TO dd - 1)
      let s1 := wrs s [(DDL_LANE.STATE, j, 0), (DDL_LANE.POS, j, rd s DDL_LANE.POS i), (DDL_LANE.STATE, i, 3),
        (DDL_LANE.POS, i, 0x7FF), (DDL_STAT.SPARES_FREE, dd, rd s DDL_STAT.SPARES_FREE dd - 1), (HID.DDL_FROM, dd, 0),
        (HID.DDL_TO, dd, 0)]
      let s2 := perf (bump s1 DDL_CNT.REPLACED dd) { perfE 0x43 1 with kind := 4, index := c.val }
      ddlNext raise (faultC (0xA40 + c.val) s2) dd)

end Sys2Proof.Machine
end

