-- ==== Sys2Proof/Machine/Flags.lean ====
section
/-! DEFINITION. What a read of a register returns: status fields and flags that show something the state holds in another
form are computed here, every other field is read from its store (R9 to R12). -/

namespace Sys2Proof.Machine

/-- What a field shows: state and part of the register to the value. -/
abbrev View := State → Nat → Nat

/-! ## Host interface and trust -/

/-- STATE of HIF_RING_STAT (R133, R140, R141, R146). -/
def ringState (s : State) (r : Nat) : Nat :=
  let q := ringOf s r
  if q.error then 6
  else if q.draining then 5
  else if q.bound.isNone then 0
  else if !q.cqWait.isEmpty then 4
  else if s.running.any (fun x => x.ring == r && x.acc.cmd.opcode == 4) then 3
  else if s.running.any (fun x => x.ring == r && x.acc.cmd.opcode == 3) then 2
  else 1

/-- A session's field, 0 while the handle is not open. -/
def sessView (g : Sess → Nat) : View := fun s h => ((tabGet s.sessions (h, 0)).map g).getD 0

/-- Registers of the SEC and HIF blocks (R125, R153). -/
def viewsHost : List (Fld × View) :=
  [(SEC_STATUS.APPROVED, fun s _ => b2n (approved s)),
   (SEC_STATUS.SESSIONS, fun s _ => s.sessions.length),
   (SEC_SLOTS.OP, fun s _ => bitmapOf (s.opKeys.map (·.1.1))),
   (SEC_SLOTS.INST, fun s _ => bitmapOf (s.instCreds.map (·.1.1))),
   (SEC_SLOTS.INST_PW, fun s _ => bitmapOf ((s.instCreds.filter (·.2.pw)).map (·.1.1))),
   (SEC_SLOTS.MAKER, fun s _ => b2n s.makerKey.isSome),
   (SEC_LOCKOUT.REMAIN_S, fun s i => lockLeft s i),
   (SEC_VST_STAT.LEFT_MS, fun s _ => if s.vst.isSome then 10000 - msSince s (rd s HID.VST_AT 0) else 0),
   (SEC_SERIAL.SERIAL, fun _ _ => Config.serial.toNat),
   (SEC_SESSION.OPEN, fun s h => b2n (tabGet s.sessions (h, 0)).isSome),
   (SEC_SESSION.ROLE, sessView (·.role)),
   (SEC_SESSION.CRED, sessView (·.cred)),
   (SEC_SESSION.RINGS, fun s h => (ringsOf s h).length),
   (SEC_SESSION.IDLE_MS, fun s h => sessView (fun x => min (msSince s x.lastTick) 0xFFFFFFFF) s h),
   (HIF_STATUS.RINGS_BOUND, fun s _ => (s.rings.filter (fun e => e.2.bound.isSome)).length),
   (HIF_RING_STAT.BOUND, fun s r => b2n (ringOf s r).bound.isSome),
   (HIF_RING_STAT.HANDLE, fun s r => (ringOf s r).bound.getD 0),
   (HIF_RING_STAT.STATE, ringState),
   (HIF_RING_STAT.OUTSTANDING, outstanding),
   (HIF_RING_STAT.NEXT_SEQ, fun s r => if (ringOf s r).bound.isSome then (ringOf s r).seq + 1 else 0)]

/-! ## Landings, images and faults -/

/-- Sources whose sticky bit is set, of a class (R450). -/
def stickySources (s : State) (cls : Nat) : Nat :=
  (s.regs.filter (fun e => Nat.beq e.1.1 FLT_SRC.STICKY.id && flag s FLT_SRC.STICKY e.1.2
    && rd s FLT_SRC.CLASS e.1.2 == cls)).length

/-- The highest class among them (R450). -/
def stickyHighest (s : State) : Nat :=
  if stickySources s 3 != 0 then 3 else if stickySources s 2 != 0 then 2 else if stickySources s 1 != 0 then 1 else 0

/-- The gallery that still serves old-generation packets of sheaf sh (R181, R316). -/
def oldGal (s : State) (sh : Nat) : Nat :=
  ((List.range 68).find? (fun g => rd s GAL_STAT.STATE g == 3 && flag s GAL_STAT.SHEAF_VALID g
    && rd s GAL_STAT.SHEAF g == sh)).getD 0x7F

/-- Region n of those in force. -/
def regionView (g : Key × Region → Nat) : View := fun s n => (((curGen s).regions[n]?).map g).getD 0

/-- Registers of the LND, FLT and GLB blocks (R195, R321, R479). -/
def viewsLand : List (Fld × View) :=
  [(LND_STATUS.WAITING, fun s _ => b2n (!(slotsIn s 3).isEmpty)),
   (LND_STATUS.SLOTS, fun s _ => (slotsUsed s).length),
   (LND_OLD_COUNT.COUNT, fun s _ => oldCount s),
   (FLT_SUMMARY.HIGHEST, fun s _ => stickyHighest s),
   (FLT_SUMMARY.K_SET, fun s _ => stickySources s 2),
   (FLT_SUMMARY.C_SET, fun s _ => stickySources s 1),
   (FLT_STICKY.STICKY, fun s w => bitmapOf ((List.range 64).filter (fun b => flag s FLT_SRC.STICKY (64 * w + b)))),
   (GLB_SI_STAT.ACTIVE, fun s _ => rd s HID.SI_ACTIVE_SLOT 0),
   (GLB_SI_INFO.MIN_SVN, fun s _ => rd s HID.SI_MIN_SVN 0),
   (GLB_SI_KEYS.VERIFY, fun s _ => bitmapOf (s.siVerify.map (·.1.1))),
   (GLB_SI_KEYS.DECRYPT, fun s _ => bitmapOf (s.siDecrypt.map (·.1.1))),
   (GLB_SI_ASSIGN.GAL, fun s sh => if imageOn s then (tabGet (curGen s).assign (sh, 0)).getD 0x7F else 0x7F),
   (GLB_SI_ASSIGN.OLD_GAL, oldGal),
   (GLB_SI_ASSIGN.PROFILE, fun s sh => (tabGet (curGen s).profiles (sh, 0)).getD 0),
   (GLB_SI_REGION.ID, regionView (fun e => e.1.1)),
   (GLB_SI_REGION.REVISION, regionView (fun e => e.2.revision)),
   (GLB_SI_REGION.DIGEST, regionView (fun e => e.2.digest.toNat % 2 ^ 256))]

/-! ## Lanes and ports -/

/-- WIDTH of PRT_STAT (R301). -/
def widthCode (w : Nat) : Nat := if w == 8 then 3 else if w == 4 then 2 else if w == 2 then 1 else 0

/-- A field of a port the port map names, 0 of one it does not (R301). -/
def portView (g : State → Nat → PortDef → Nat) : View := fun s p => ((portDef s p).map (g s p)).getD 0

/-- Bits of a register's part, one for each class of port p. -/
def classBits (g : Nat → Bool) : Nat := bitmapOf ((List.range 8).filter g)

/-- Registers of the SHF, PRT and MSC blocks (R221, R240, R301). -/
def viewsLane : List (Fld × View) :=
  [(SHF_TX_STAT.SQ_CAUSE, sqCause),
   (SHF_RX_ADC.SPARE_FREE, fun s l => ((List.range 136).filter (fun j => rd s SHF_RX_SLICE.STATE (136 * l + j) == 1)).length),
   (SHF_TX_STAT.WAKE_TX, fun s l => b2n (wakeOn s l)),
   (SHF_RX_AFE.PEAK_NOW, peakNow),
   (SHF_RX_FFE.BYPASSED, fun s l => b2n (rd s SHF_LANE_STAT.FORMAT l == 2)),
   (PRT_STAT.WIDTH, portView (fun _ _ d => widthCode d.width)),
   (PRT_STAT.FORMAT, portView (fun _ _ d => d.format)),
   (PRT_STAT.MODE_ERR, portView (fun s p d => b2n (portModeErr s p d))),
   (PRT_STAT.RATE, portRate),
   (MSC_CHAN.TX_AN_SEL, fun s c => txAnOf s (genNow s) c)]

/-! ## Galleries, tables and halls -/

/-- Registers of a table in force, 0 of an ID without one. -/
def tableView (g : State → Nat → TableDef → Nat) : View := fun s t => ((tableIn (curGen s) t).map (g s t)).getD 0

/-- The queues of hall h that hold packets. -/
def hallQueues (s : State) (h : Nat) : List Nat :=
  ((hallPkts s h).filterMap (fun k => match k.loc with | .queue q => some q | _ => none)).dedup

/-- Registers of the GAL, TBL and TMG blocks (R343, R365, R389). -/
def viewsPath : List (Fld × View) :=
  [(GAL_STAT.PL, fun s g => rd s PWR_PL.NOW (galDie g)),
   (GAL_WIN.ING_WINDOW, ingWindow),
   (GAL_WIN.EGR_WINDOW, egrWindow),
   (GAL_WIN.IN_FLIGHT, inFlight),
   (GAL_WIN.REORDER, fun s g => countAt s (.ingressReorder g)),
   (GAL_WIN.ENTRY_KIB, fun s g => (entryBytes s g + 1023) / 1024),
   (GAL_RES.ING_STEPS, fun s g => (galUse s g).getD 0 0),
   (GAL_RES.EGR_STEPS, fun s g => (galUse s g).getD 1 0),
   (GAL_RES.MATCH, fun s g => (galUse s g).getD 2 0),
   (GAL_RES.ACTION, fun s g => (galUse s g).getD 3 0),
   (GAL_RES.PHV, fun s g => (galUse s g).getD 4 0),
   (TBL_STATUS.TABLES, fun s _ => (curGen s).tables.length),
   (TBL_STATUS.POISONED, fun s _ => min 255 s.poison.length),
   (TBL_INFO.KIND, tableView (fun _ _ d => d.kind)),
   (TBL_INFO.PLACE, tableView (fun _ _ d => d.place)),
   (TBL_INFO.CAPACITY, tableView (fun _ _ d => d.capacity)),
   (TBL_INFO.COUNT, tableView (fun s t _ => liveEntries (curGen s) t)),
   (TBL_INFO.STAGED, tableView (fun s t _ => stagedEntries s t)),
   (TBL_INFO.PINNED, tableView (fun _ _ d => d.pinned)),
   (TBL_ERR.STASH, tableView (fun s t _ => stashed (curGen s) t)),
   (TMG_PORT.PAUSED, fun s p => classBits (fun n => rd s HID.PRT_PAUSE (8 * p + n) != 0)),
   (TMG_HALL_STAT.POOL_FREE_KIB, fun s h => poolFree s h / 4),
   (TMG_HALL_STAT.SILO_FREE_MB, fun s h => siloFree s h / 1000000),
   (TMG_HALL_STAT.SILO_STACKS, fun s h => bitmapOf (siloStacks s h)),
   (TMG_HALL_STAT.BACKLOGGED, fun s h => (hallQueues s h).length),
   (TMG_HALL_STAT.SPILLED, fun s h => (s.queues.filter (fun e => hallOf e.1.1 == h && e.2.spilled)).length)]

/-! ## Power and the rest -/

/-- Residency of domain d in state t, in whole microseconds (R433, R444). -/
def resUs (t : Nat) : View := fun s d =>
  (rd s HID.RES_TICKS (4 * d + t) + (if domSt s d == t then rd s HID.TICKS 0 - rd s HID.DOM_SINCE d else 0)) * 4 / 3125

/-- Registers of the PWR and GLN blocks (R444, R479). -/
def viewsPower : List (Fld × View) :=
  [(PWR_RES.RES_S0, resUs 0), (PWR_RES.RES_S1, resUs 1), (PWR_RES.RES_S2, resUs 2), (PWR_RES.RES_S3, resUs 3),
   (PWR_THERM.NEIGH, fun _ i => (Config.thermNeigh i).toNat),
   (GLN_STAT.PAUSED, fun s _ => rd s PWR_STATUS.THROTTLE 0)]

/-- Every field that is not read from its store. -/
def views : List (Fld × View) := viewsHost ++ viewsLand ++ viewsLane ++ viewsPath ++ viewsPower

/-- What a field reads as: the value shown, in the field's width; a WO field reads 0 (R9). -/
def readFld (s : State) (f : Fld) (i : Nat) : Nat :=
  if f.ty = .WO then 0
  else
    match views.find? (fun e => Nat.beq e.1.id f.id) with
    | some e => e.2 s i % 2 ^ f.w
    | none => rd s f i

/-- What part i of a register reads as, laid out at the fields' bits. -/
def readRegister (s : State) (r : RegSpec) (i : Nat) : Nat := r.flds.foldl (fun v f => v + readFld s f i * 2 ^ f.lo) 0

/-- What an access of a width at byte q of part i of a register returns. -/
def readPart (s : State) (r : RegSpec) (i q width : Nat) : Nat := readRegister s r i / 2 ^ (8 * q) % 2 ^ (8 * width)

end Sys2Proof.Machine
end

