-- ==== Sys2Proof/Machine/Time.lean ====
section
/-! DEFINITION. Network time (R154 to R173): the counter's tick, its corrections, PPS and recovered clocks, arming time
events. The firing of a time event, and TEV_STOP, stand in Events.lean: a firing reaches every consumer. -/

namespace Sys2Proof.Machine

/-- The effective increment, 2^-40 ns (R155). -/
def increment (s : State) : Nat :=
  ((rd s TIM_INCR.BASE 0 : Int) + sext 64 (rd s TIM_INCR.DELTA 0)).toNat

/-- The event that drives PPS_OUT (R164). -/
def ppsTev (s : State) : Nat := 32 + rd s TIM_PPS_OUT.TEV 0

/-- COMP_NS, ns (R164). -/
def ppsComp (s : State) : Int := sext 16 (rd s TIM_PPS_OUT.COMP_NS 0)

/-- When the edge of a firing due at a time leaves the land (R164). -/
def ppsEdge (s : State) (due : Nat) : Nat := delayed due (ppsComp s * 65536)

/-- The edges of PPS_OUT that no firing of this tick brings: one put after its firing, one put before it (R164). -/
def ppsTick (s : State) : State :=
  let n := ppsTev s
  let next := rd s TIM_TEV_STAT.NEXT n
  if !flag s TIM_PPS_OUT.EN 0 then s
  else if rd s HID.PPS_DUE 0 != 0 && decide (rd s HID.PPS_DUE 0 ≤ localTime s + 1) then
    wrs s [(HID.PPS_OUT, 0, 1), (HID.PPS_DUE, 0, 0)]
  else if flag s TIM_TEV_STAT.ARMED n && decide (ppsComp s < 0) && rd s HID.PPS_DONE 0 != next + 1
      && decide (ppsEdge s (timeOfNow next) ≤ localTime s) then
    wrs s [(HID.PPS_OUT, 0, 1), (HID.PPS_DONE, 0, next + 1)]
  else s

/-- One tick of 781.25 MHz: local time gains the effective increment (R154), and the tick counter one; TABLE_SUMMARY
windows that are over are written (R119), PPS_OUT has its edges (R164), and rings that have room again fetch on (R133).
Each die's copy of local time may differ by a tick (R25); which way and by how much is open, and the model takes every copy
as equal to hall 0's (DESIGN CHOICE, log entry 102). -/
def tick (s : State) : State :=
  let s1 := setFineTime s (fineTime s + increment s)
  let s2 := perf (wr s1 HID.TICKS 0 (rd s HID.TICKS 0 + 1)) (perfE 0xF0 1)
  let s3 := if flag s LND_STATUS.OLD_LIVE 0 then perf s2 (perfE 0x13 1) else s2
  let s4 := if flag s PWR_STATUS.THROTTLE 0 && (rd s HID.TICKS 0 + 1) % 781250 == 0 then perf s3 (perfE 0xA1 1) else s3
  fetchEvery (ppsTick (flushOver s4))

/-- A time step discards the bandwidth windows in progress (R487); the next ones start on its tick. -/
def bwDiscard (s : State) : State :=
  let s1 := { s with regs := s.regs.filter (fun e => !(Nat.beq e.1.1 HID.BW_RX.id || Nat.beq e.1.1 HID.BW_TX.id)) }
  forEach ((List.range 512).filter (fun p => rd s1 PMU_BW.W_US p != 0)) s1 (fun p t => wr t HID.BW_AT p (rd t HID.TICKS 0))

/-- The limit of DELTA's magnitude: floor(BASE x 500 / 10^6) (R155). -/
def deltaLimit (s : State) : Nat := rd s TIM_INCR.BASE 0 * 500 / 1000000

/-- DELTA held at its limit. -/
def clampDelta (s : State) (d : Int) : Int := max (-(deltaLimit s : Int)) (min d (deltaLimit s))

/-- LOCK after a TIME_RATE with a STATE (R161). -/
def lockAfter (lock st : Nat) : Nat :=
  if st == 1 then 1 else if lock == 1 && st == 2 then 2 else lock

/-- TIME_RATE (R158, R161). -/
def opTimeRate : OpSpec :=
  ⟨0xC0, 0, false, false, fun _ a => badIf (2 < opdB a 0x18), noTargets, noCheck,
    fun _ a s =>
      let d := sext 64 (opd a 0x10 8)
      let held := clampDelta s d
      let lock := lockAfter (rd s TIM_STATUS.LOCK 0) (opdB a 0x18)
      let s1 := wrs s [(TIM_INCR.DELTA, 0, wrapI 64 held), (TIM_STATUS.LOCK, 0, lock), (HID.WDOG_ON, 0, b2n (lock == 1))]
      if held = d then .done s1 rOk else .done (wr s1 TIM_STATUS.RATE_CLAMP 0 1) ⟨.ok, 1, none, false⟩⟩

/-- The time a TIME_STEP asks for, 2^-40 ns (R157). -/
def stepTo (s : State) (a : Acc) : Int :=
  if opdB a 0x10 == 0 then ((timeOfField (opd a 0x12 10) * 16777216 : Nat) : Int)
  else (fineTime s : Int) + sext 64 (opd a 0x12 8) * 1099511627776

/-- TIME_STEP (R157): armed once, never backward. -/
def opTimeStep : OpSpec :=
  ⟨0xC1, 0, false, false,
    fun _ a => badIf (1 < opdB a 0x10 || (opdB a 0x10 == 0 && 1000000000 ≤ opd a 0x12 4)), noTargets,
    fun s a => invIf (!flag s TIM_STATUS.STEP_ARMED 0 || decide (stepTo s a < fineTime s)),
    fun _ a s => .done (bump (wr (setFineTime (bwDiscard s) (stepTo s a).toNat) TIM_STATUS.STEP_ARMED 0 0) TIM_STATUS.STEPS 0) rOk⟩

/-- TIME_REARM (R159). -/
def opTimeRearm : OpSpec :=
  ⟨0xC2, 0, false, false, noBad, noTargets, noCheck, fun _ _ s => .done (wr s TIM_STATUS.STEP_ARMED 0 1) rOk⟩

/-- The first of START + k PERIOD that is not before a time (R171). -/
def firstDue (start period now : Nat) : Nat :=
  if now ≤ start then start else start + (now - start + period - 1) / period * period

/-- START of a TEV_ARM, 2^-16 ns. -/
def tevStart (a : Acc) : Nat := timeOfField (opd a 0x12 10)

/-- PERIOD of a TEV_ARM, 2^-16 ns. -/
def tevPeriod (a : Acc) : Nat := opd a 0x1C 4 * 65536 + opd a 0x20 2

/-- TEV_ARM (R169, R171). -/
def opTevArm : OpSpec :=
  ⟨0xC3, 0, false, false,
    fun _ a => badIf (63 < opdB a 0x10 || 1000000000 ≤ opd a 0x12 4 || (opdBit a 0x11 0 && opd a 0x1C 4 < 100)), noTargets,
    fun s a => if !opdBit a 0x11 0 && tevStart a < localTime s then some (rStat .late) else none,
    fun _ a s =>
      let n := opdB a 0x10
      let next := if opdBit a 0x11 0 then firstDue (tevStart a) (tevPeriod a) (localTime s) else tevStart a
      .done (wrs s [(TIM_TEV_STAT.ARMED, n, 1), (TIM_TEV_STAT.PERIODIC, n, b2n (opdBit a 0x11 0)),
        (TIM_TEV_STAT.NEXT, n, timeNowField next), (HID.TEV_PERIOD, n, tevPeriod a),
        (HID.TEV_IRQ, n, b2n (opdBit a 0x11 1))]) rOk⟩

def execTimeRate (r : Ring) (s : State) : Host.Outcome State Fault Refusal := .next (dispatch opTimeRate r.val s)
def execTimeStep (r : Ring) (s : State) : Host.Outcome State Fault Refusal := .next (dispatch opTimeStep r.val s)
def execTimeRearm (r : Ring) (s : State) : Host.Outcome State Fault Refusal := .next (dispatch opTimeRearm r.val s)
def execTevArm (r : Ring) (s : State) : Host.Outcome State Fault Refusal := .next (dispatch opTevArm r.val s)

/-- TIME_WATCHDOG_EXPIRE (R161): LOCKED to HOLDOVER, the DELTA in force kept. -/
def execTimeWatchdogExpire (s : State) : Host.Outcome State Fault Refusal :=
  .next (
    if rd s TIM_STATUS.LOCK 0 == 1 && flag s HID.WDOG_ON 0 then
      event (faultC 0x200 (wrs s [(TIM_STATUS.LOCK, 0, 2), (HID.WDOG_ON, 0, 0)])) 2 0x200 0 (bytesOf [1])
    else s)

/-- PPS_IN_EDGE (R163). -/
def execPpsInEdge (s : State) : Host.Outcome State Fault Refusal :=
  .next (
    if flag s TIM_CFG.PPS_IN_EN 0 then
      bump (wrs s [(TIM_PPS_IN.TIME, 0, timeNowField (localTime s)), (HID.PPS_WAIT, 0, 1)]) TIM_PPS_IN.COUNT 0
    else s)

/-- PPS_IN_TIMEOUT (R163): 1.1 s without an edge. -/
def execPpsInTimeout (s : State) : Host.Outcome State Fault Refusal :=
  .next (
    if flag s TIM_CFG.PPS_IN_EN 0 && flag s HID.PPS_WAIT 0 then
      faultC 0x201 (wrs s [(TIM_STATUS.PPS_LOST, 0, 1), (HID.PPS_WAIT, 0, 0)])
    else s)

/-- PPS_OUT_PULSE_END (R164): the pin falls after WIDTH_US, unless the width reaches the event's period. -/
def execPpsOutPulseEnd (s : State) : Host.Outcome State Fault Refusal :=
  .next (
    let n := ppsTev s
    if flag s TIM_TEV_STAT.PERIODIC n && flag s TIM_TEV_STAT.ARMED n
      && rd s HID.TEV_PERIOD n ≤ rd s TIM_PPS_OUT.WIDTH_US 0 * 1000 * 65536 then s
    else wr s HID.PPS_OUT 0 0)

/-- The source of recovered-clock output r is lost now (R165). -/
def rclkGone (s : State) (r : Nat) : Bool :=
  let src := rd s TIM_RCLK.SRC r
  if src < 512 then laneSt s src != laneLIVE else src == 512 && flag s HID.REF_CORE_LOST 0

/-- RCLK_SOURCE_LOST (R165): ON_LOSS then says what the output does. -/
def execRclkSourceLost (out : Fin 2) (s : State) : Host.Outcome State Fault Refusal :=
  .next (
    if flag s TIM_RCLK.EN out.val && rclkGone s out.val && !flag s TIM_RCLK.LOST out.val then
      faultC (0x202 + out.val) (rclkShow (wr s TIM_RCLK.LOST out.val 1) out.val)
    else s)

end Sys2Proof.Machine
end

