-- ==== Sys2Proof/Machine/Regio.lean ====
section
/-! DEFINITION. Register commands: REG_WRITE with its checks and the consequences of each field (R142), REG_READ (R143),
and what a look at a register meets and leaves (R14, R156). -/

namespace Sys2Proof.Machine

/-! ## Values out of range -/

/-- The limits a field's value is held between: the register tables, R262, R285, R408. PRT_CFG.MAX_LEN is held alike
(DESIGN CHOICE, log entry 38). -/
def fldLimits : List (Fld × Nat × Nat) :=
  [(SEC_POLICY.IDLE_S, 60, 86400), (HIF_CFG.BARRIER_MS, 1, 60000), (TIM_CFG.WDOG_MS, 10, 60000),
   (TIM_PPS_OUT.WIDTH_US, 1, 500000), (LND_CFG.DRAIN_MAX_MS, 1, 10000), (SHF_RX_AFE.PEAK, 0, 24), (SHF_RX_CDR.BW, 0, 2),
   (SHF_RX_CAPTURE.LOG2_N, 16, 32), (SHF_RX_HOLD_CFG.STEP_DB, 0, 12), (SHF_WAKE.ACT_US, 1, 1000),
   (SHF_TRN_CFG.ACQ_MS, 1, 10000), (SHF_TRN_CFG.BACKOFF_MS, 1, 255), (SHF_TRN_CFG.RETRIES, 0, 8),
   (SHF_TRN_CFG.MIN_TIER, 0, 4), (SHF_TRN_CFG.CONFIRM_LOG, 8, 20), (SHF_TRN_TMO.T0_MS, 1, 2000),
   (SHF_TRN_TMO.T1_MS, 20, 2000), (SHF_TRN_TMO.T2_MS, 30, 2000), (SHF_TRN_TMO.T3_MS, 5, 2000),
   (SHF_TRN_TMO.T4_MS, 12, 2000), (SHF_TRN_TMO.TOTAL_MS, 50, 2000), (SHF_FEC_CFG.DEG_PPB, 1, 1000000000),
   (SHF_FEC_CFG.WIN_LOG2, 16, 30), (PRT_CFG.MAX_LEN, 64, 16383), (GAL_CFG.LKP_TMO_NS, 1000, 60000),
   (EMG_ALS_CFG.PERSIST_MS, 50, 5000), (EMG_ALS_CFG.PULSE_MS, 100, 10000), (EMG_ALS_CFG.PERIOD_S, 10, 1000),
   (EMG_ALS_CFG.RECOVER_MS, 10, 1000), (MEM_WINNOW.PASS_H, 1, 168), (MEM_CFG.LOG_THR, 1, 255), (GLN_CFG.CYCLE_H, 1, 168),
   (GLN_CFG.MAX_PAR, 1, 2), (DDL_CFG.REPL_THR, 1, 255), (DDL_CFG.REPL_WIN_US, 1, 65535), (DDL_RX_CFG.PEAK, 0, 16)]

/-- A value held at the nearer limit of its field's range; TMG_MIRROR.TRUNC may also be 0 (R389). -/
def heldValue (f : Fld) (v : Nat) : Nat :=
  if f.id == TMG_MIRROR.TRUNC.id then (if v == 0 then 0 else clampN 64 16383 v)
  else
    match fldLimits.find? (fun e => Nat.beq e.1.id f.id) with
    | some e => clampN e.2.1 e.2.2 v
    | none => v

/-! ## REG_WRITE -/

/-- (old AND NOT m) OR (v AND m) (R142). -/
def merged (old m v : Nat) : Nat := old - Nat.land old m + Nat.land v m

/-- Check 2 of R142: the lock of an RWL field is set (R68). -/
def lockFails (s : State) (i : Nat) (f : Fld) : Bool := f.ty = .RWL && flag s PWR_VRM_CFG.LOCK i

/-- Check 4 of R142: RWS without STAGE, or STAGE on another field. -/
def stageFails (a : Acc) (f : Fld) : Bool := a.cmd.stage != (f.ty = .RWS : Bool)

/-- The register belongs to a number that names no port (R287). -/
def unnamedPort (s : State) (r : RegSpec) (i : Nat) : Bool :=
  0x2000000 ≤ r.base && r.base < 0x2200000 && (portDef s i).isNone

/-- A write that its register's own rule refuses: XON_KIB not below XOFF_KIB (R381), REPLACE without a spare
(R496), an event outside TEV32 to TEV63 for PPS_OUT (R164, R170). -/
def valueFails (s : State) (a : Acc) (r : RegSpec) (i q : Nat) : Bool :=
  let new := fun f => merged (rd s f i) (fldMask a q f) (fldValue a q f)
  (r.base == reg_TMG_PFC.base && decide (new TMG_PFC.XOFF_KIB ≤ new TMG_PFC.XON_KIB))
    || (r.base == reg_DDL_LANE.base && Nat.land (fldMask a q DDL_LANE.REPLACE) (fldValue a q DDL_LANE.REPLACE) != 0
      && (ddlSpare s (i / 1056)).isNone)
    || (r.base == reg_TIM_PPS_OUT.base && 32 ≤ new TIM_PPS_OUT.TEV)

/-- The checks of R142 in order, then those of the register. -/
def rwCheck (s : State) (a : Acc) : Option Reply :=
  match rwPlace a with
  | none => some (rInv 0xFFFF)
  | some (r, i, q) =>
    let fs := touched a r q
    firstOf [failBit fs (roleFails a) .denied, failBit fs (lockFails s i) .denied, failBit fs roField .invalid,
      failBit fs (stageFails a) .invalid, invIf (unnamedPort s r i || valueFails s a r i q)]

/-- What writing 1 to a WO field does. -/
def woAct (s : State) (f : Fld) (i : Nat) : State :=
  if f.id == SHF_RX_CAPTURE.START.id then captureStart s i
  else if f.id == SHF_RX_BANK.STORE.id then storeBank s i (laneTemp s i)
  else if f.id == SHF_RX_BANK.DISCARD.id then discardBank s i
  else if f.id == SHF_TX_SHAPE.APPLY.id then shapeApply s i
  else if f.id == SHF_FEC_CLR.CLR.id then fecClear s i
  else if f.id == GAL_WIN.PEAK_CLR.id then wr s GAL_WIN.PEAK i (inFlight s i)
  else if f.id == DDL_LANE.REPLACE.id then replaceAsk s (i / 1056) (i % 1056)
  else s

/-- One touched field written: mask m, value v (R9, R142). -/
def fldWrite (s : State) (f : Fld) (i m v : Nat) : State :=
  match f.ty with
  | .W1C =>
    if Nat.land m v == 0 then s
    else if f.id == FLT_SRC.STICKY.id then stickyClear s i
    else wr s f i (rd s f i - Nat.land (rd s f i) (Nat.land m v))
  | .WO => s
  | .RO => s
  | .ROS => s
  | _ => wr s f i (heldValue f (merged (rd s f i) m v))

/-- The WO fields of a write act once the others are written. -/
def fldAct (s : State) (f : Fld) (i m v : Nat) : State := if f.ty = .WO && Nat.land m v != 0 then woAct s f i else s

/-- Laser channels named anew: those that all their lanes now shut go to their clear codes, those no longer shut are
restored (R404). -/
def laserRename (b s : State) (l : Nat) : State :=
  forEach (List.range 16) s (fun c t =>
    let k := l / 8
    if alsShut s k c && !alsShut b k c then toClear t (16 * k + c)
    else if alsShut b k c && !alsShut s k c then laserRestore raise t k c
    else t)

/-- What follows from the new value of a register's fields; b is the state before the write, t the fields touched. -/
def regAfter (base : Nat) (t : Fld → Bool) (b s : State) (i : Nat) : State :=
  if base == reg_SHF_TX_CTRL.base then
    let s1 := if t SHF_TX_CTRL.SWING then wr s SHF_TX_SHAPE.PEND i 1 else s
    if flag s SHF_TX_CTRL.FORCE_SQ i then sqNow s1 i else s1
  else if base == reg_FLT_CFG.base then updFaultPin s
  else if base == reg_PWR_VRM_CFG.base then
    if !t PWR_VRM_CFG.EN then s
    else if flag s PWR_VRM_CFG.EN i then vrmEnable s i
    else if flag b PWR_VRM_CFG.EN i then vrmDisable s i
    else s
  else if base == reg_EMG_ALS_CFG.base then
    let s1 := wr s EMG_ALS_CFG.RECOVER_MS i (min (rd s EMG_ALS_CFG.RECOVER_MS i) (rd s EMG_ALS_CFG.PULSE_MS i - 1))
    forEach (sheafLanes i) s1 (fun l u => if bitOf (rd s EMG_ALS_CFG.EN i) (l % 8) then u else setAls raise u l 0)
  else if base == reg_EMG_ALS_LANE.base then laserRename b s i
  else if base == reg_TIM_PPS_OUT.base then
    (if flag s TIM_PPS_OUT.EN 0 then s else wrs s [(HID.PPS_OUT, 0, 0), (HID.PPS_DUE, 0, 0), (HID.PPS_DONE, 0, 0)])
  else if base == reg_TIM_CFG.base then (if flag s TIM_CFG.PPS_IN_EN 0 then s else wr s HID.PPS_WAIT 0 0)
  else if base == reg_TIM_RCLK.base then rclkShow (if rclkGone s i then s else wr s TIM_RCLK.LOST i 0) i
  else if base == reg_TMG_PFC.base then forEach (List.range 8) s (fun n u => pfcCheck u i n)
  else if base == reg_PRT_CFG.base then (if t PRT_CFG.ADMIN then portEval raise false s i else s)
  else s

/-- A REG_WRITE that passed its checks takes effect, as one update of the register (R142). -/
def regPut (s : State) (a : Acc) : State :=
  match rwPlace a with
  | none => s
  | some (r, i, q) =>
    let fs := touched a r q
    let s1 := fs.foldl (fun t f => fldWrite t f i (fldMask a q f) (fldValue a q f)) s
    let s2 := if fs.isEmpty then s1 else regAfter r.base (fun f => fldMask a q f != 0) s s1 i
    fs.foldl (fun t f => fldAct t f i (fldMask a q f) (fldValue a q f)) s2

/-- The domains a register command acts on (R128). -/
def rwDoms (_ : State) (a : Acc) : List Nat :=
  match rwPlace a with
  | none => []
  | some (r, i, _) => (regDom r i).toList

/-! ## What a read meets -/

/-- The levels that the input pins show (R62): between the commands that drive them no rule says when they rise again, so a
look at them meets a free value (log entry 9). -/
def pinLevels (s : State) : State :=
  took (wrs s [(GLB_PIN_STAT.DAC_LOAD, 0, freeNat s % 2), (GLB_PIN_STAT.PPS_IN, 0, freeNat s / 2 % 2),
    (GLB_PIN_STAT.ZEROIZE, 0, freeNat s / 4 % 2), (GLB_PIN_STAT.PM_ALERT, 0, freeNat s / 8 % 2)])

/-- Values that move by themselves stand, at a look at part i of a register, where they have moved to (R62, R198 to R206,
R231). -/
def refresh (s : State) (r : RegSpec) (i : Nat) : State :=
  if r.base == reg_SHF_RX_AFE.base then adaptAfe s i
  else if r.base == reg_SHF_RX_CDR.base then adaptCdr s i
  else if r.base == reg_SHF_RX_FFE.base then adaptFfe s i
  else if r.base == reg_SHF_RX_FFE_TAP.base then adaptFfe s (i / 41)
  else if r.base == reg_SHF_TX_STAT.base then clipTx s i
  else if r.base == reg_GLB_PIN_STAT.base then pinLevels s
  else s

/-- The counters wider than 32 bits (R13). -/
def wideCounters : List Fld :=
  [HIF_PUNT_STAT.TO_HOST, HIF_PUNT_STAT.FROM_HOST, SHF_FEC_CNT.CW_TOTAL, SHF_FEC_CNT.CW_CORR, SHF_FEC_CNT.SYM_CORR,
   SHF_FEC_CNT.BIT_CORR, SHF_FEC_CNT.INNER_FLIP, SHF_FEC_HIST.COUNT, PRT_MAC_CNT.RX_FRAMES, PRT_MAC_CNT.RX_BYTES,
   PRT_MAC_CNT.TX_FRAMES, PRT_MAC_CNT.TX_BYTES, MSC_CNT.PKTS, MSC_CNT.OCTETS, GAL_CNT.ING_PKTS, GAL_CNT.EGR_PKTS,
   GAL_CNT.RECIRC, GAL_CNT.PUNTED, GAL_CNT.HOST_IN, GAL_CNT.GRANARY, TBL_UPD.APPLIED, TMG_DROP_CNT.PKTS,
   TMG_DROP_CNT.BYTES, PWR_RES.RES_S0, PWR_RES.RES_S1, PWR_RES.RES_S2, PWR_RES.RES_S3, PMU_CTR.COUNT]

/-- A 4-byte access names the low half of a wide counter. -/
def counterLow (r : RegSpec) (q : Nat) : Bool :=
  r.flds.any (fun f => f.lo == 8 * q && wideCounters.any (fun c => Nat.beq c.id f.id))

/-- The upper 8 bytes of TIM_NOW (R156). -/
def timUpper (s : State) : Nat := timeNowField (localTime s) / 2 ^ 64

/-- A look at byte q of part i of a register, which stands at an offset: the state after it, and what it returns. An 8-byte
read of TIM_NOW latches its upper bytes (R156), a 4-byte read of a counter's low half its high half (R14); the next read of
what is latched returns the latched value. -/
def look (s0 : State) (r : RegSpec) (i q off width : Nat) : State × Nat :=
  let s := refresh s0 r i
  let v := readPart s r i q width
  if r.base == reg_TIM_NOW.base && q == 0 && width == 8 then (wrs s [(HID.TIM_LATCH, 0, timUpper s), (HID.TIM_LATCHED, 0, 1)], v)
  else if r.base == reg_TIM_NOW.base && 8 ≤ q && flag s HID.TIM_LATCHED 0 then
    (wr s HID.TIM_LATCHED 0 0, rd s HID.TIM_LATCH 0 / 2 ^ (8 * (q - 8)) % 2 ^ (8 * width))
  else if width == 4 && flag s HID.CNT_LATCHED off then (wr s HID.CNT_LATCHED off 0, rd s HID.CNT_LATCH off)
  else if width == 4 && counterLow r q then
    (wrs s [(HID.CNT_LATCH, off + 4, readPart s r i (q + 4) 4), (HID.CNT_LATCHED, off + 4, 1)], v)
  else (s, v)

/-- A look at the place a register command names; a port that the map does not name reads as zero (R287). -/
def rwLook (s : State) (a : Acc) : State × Nat :=
  match rwPlace a with
  | none => (s, 0)
  | some (r, i, q) => if unnamedPort s r i && r.base != reg_PRT_STAT.base then (s, 0) else look s r i q (regOff a) (rwWidth a)

/-- REG_WRITE (R142). With STAGE it joins the cargo of its landing, and DATA is the value still in force. -/
def opRegWrite : OpSpec :=
  ⟨0x01, 0, true, false, fun _ a => badIf (!zeroFrom a 0x15 0x18 || !zeroFrom a 0x28 0x30), rwDoms, rwCheck,
    fun _ a s =>
      let s1 := if a.cmd.stage then stageItem s a else regPut s a
      let y := rwLook s1 a
      .done y.1 (rData y.2)⟩

/-- REG_WRITE (R142). -/
def execRegWrite (r : Ring) (s : State) : Host.Outcome State Fault Refusal := .next (dispatch opRegWrite r.val s)

/-- REG_READ (R143); uncorr: its storage read meets an uncorrectable error (R457). -/
def opRegRead (uncorr : Bool) : OpSpec :=
  ⟨0x02, 0, false, false, noBad, rwDoms, fun _ a => if (rwPlace a).isNone then some (rInv 0xFFFF) else none,
    fun _ a s =>
      if uncorr then .done (storeErr s (regOff a)) (rStat .uncorr)
      else .done (rwLook s a).1 (rData (rwLook s a).2)⟩

/-- REG_READ (R143). -/
def execRegRead (r : Ring) (uncorr : Bool) (s : State) : Host.Outcome State Fault Refusal :=
  .next (dispatch (opRegRead uncorr) r.val s)

end Sys2Proof.Machine
end

