-- ==== Sys2Proof/Machine/Events.lean ====
section
/-! DEFINITION. The firing of a time event (R169, R170): when it falls due, and what each of its consumers does; TEV_STOP
(R171). -/

namespace Sys2Proof.Machine

/-- Time event n is armed and its due time has come (R169). -/
def tevDue (s : State) (n : Nat) : Bool :=
  flag s TIM_TEV_STAT.ARMED n && decide (timeOfNow (rd s TIM_TEV_STAT.NEXT n) ≤ localTime s)

/-- The comparator after a firing (R169, R162): a one-shot event is disarmed; a periodic one moves to its first time after
now, and the periods it passes over beyond the one that fires are counted. -/
def tevNext (s : State) (n : Nat) : State :=
  if flag s TIM_TEV_STAT.PERIODIC n then
    let due := timeOfNow (rd s TIM_TEV_STAT.NEXT n)
    let skipped := (localTime s - due) / rd s HID.TEV_PERIOD n
    bumpBy (wr s TIM_TEV_STAT.NEXT n (timeNowField (due + rd s HID.TEV_PERIOD n * (skipped + 1)))) TIM_TEV_STAT.SKIP n skipped
  else wr s TIM_TEV_STAT.ARMED n 0

/-- Gate cycles that start at event n (R382, R384). -/
def tevGates (s : State) (n : Nat) : State :=
  forEach ((List.range 512).filter (fun p => flag s TMG_PORT.GATE_EN p && rd s TMG_PORT.TEV p == n)) s (fun p t => gateCycle t p)

/-- Event n strobes site k: by the site's own event or by the global one (R392). -/
def tevStrobes (s : State) (n k : Nat) : Bool :=
  (flag s EMG_SITE_CTRL.TEV_EN k && 32 + rd s EMG_SITE_CTRL.TEV k == n) ||
    (flag s EMG_GLB_CFG.TEV_EN 0 && 32 + rd s EMG_GLB_CFG.TEV 0 == n && flag s EMG_SITE_CTRL.GLB_EN k)

/-- Load strobes of event n, one a site (R392). -/
def tevSites (s : State) (n : Nat) : State :=
  forEach (allSites.filter (tevStrobes s n)) s (fun k t => strobe raise false t k)

/-- PPS_OUT's edge of a firing of its event that was due at a time (R164): now, later, or it has been. -/
def tevPps (s : State) (n due : Nat) : State :=
  if !(flag s TIM_PPS_OUT.EN 0 && ppsTev s == n) then s
  else if decide (ppsComp s < 0) && rd s HID.PPS_DONE 0 == timeNowField due + 1 then wr s HID.PPS_DONE 0 0
  else if ppsEdge s due ≤ localTime s then wr s HID.PPS_OUT 0 1
  else wr s HID.PPS_DUE 0 (ppsEdge s due + 1)

/-- Event n ends STANDBY where STANDBY named it (R432), and wakes the sleeping domains whose PWR_STATE named it (R428). -/
def tevWakes (s : State) (n : Nat) : State :=
  if rd s PWR_STATUS.DEV_STATE 0 == 1 then
    if flag s HID.STBY_TEV_EN 0 && rd s HID.STBY_TEV 0 == n then leaveStandby s 2 else s
  else
    forEach (allDoms.filter (fun d => flag s PWR_DOM.TEV_EN d && rd s PWR_DOM.TEV d == n && domSt s d != 0)) s
      (fun d t => domMove t d 0 2)

/-- The record and the count of a firing (R169, R481). -/
def tevRecord (s : State) (n : Nat) : State :=
  let s1 := if flag s HID.TEV_IRQ n then event s 2 0x200 0 (bytesOf [2, n]) else s
  perf s1 { perfE 0x12 1 with qual := n }

/-- Everything a firing of event n does. -/
def tevAct (s : State) (n : Nat) : State :=
  let due := timeOfNow (rd s TIM_TEV_STAT.NEXT n)
  tevWakes (tevPps (calFire (monTev (tevSites (tevGates (tevRecord (tevNext s n) n) n) n) n) n) n due) n

/-- Every event that is due fires, in ascending order. -/
def tevFireDue (s : State) : State := forEach ((List.range 64).filter (tevDue s)) s (fun n t => tevAct t n)

/-- TEV_FIRE (R169): before its due time a comparator does nothing. -/
def execTevFire (n : Fin 64) (s : State) : Host.Outcome State Fault Refusal :=
  .next (if tevDue s n.val then tevAct s n.val else s)

/-- TEV_STOP (R171): a firing already due still happens. -/
def opTevStop : OpSpec :=
  ⟨0xC4, 0, false, false, fun _ a => badIf (63 < opdB a 0x10), noTargets, noCheck,
    fun _ a s =>
      let n := opdB a 0x10
      .done (wr (if tevDue s n then tevAct s n else s) TIM_TEV_STAT.ARMED n 0) rOk⟩

def execTevStop (r : Ring) (s : State) : Host.Outcome State Fault Refusal := .next (dispatch opTevStop r.val s)

end Sys2Proof.Machine
end

