-- ==== Sys2Proof/Machine/Fire.lean ====
section
/-! DEFINITION. The firing of landings: which due landings fire and which wait (R190 to R192), what their items do
(R177, R188, R314, R316), the completion and records of each (R190, R119), and the end of a drain (R178, R180). -/

namespace Sys2Proof.Machine

/-! ## Items that are skipped (R188) -/

/-- The resource an item writes is FAILED, in S2 or S3, or of a site that is HELD or ABSENT (R188, R316, R406). An
association without a key takes no MSC_TX_AN (R297). -/
def itemDown (s : State) (a : Acc) : Bool :=
  (itemDoms a).any (fun d => decide (2 ≤ domSt s d)) ||
    match a.cmd.opcode with
    | 0x44 => rd s GAL_STAT.STATE (opdB a 0x11) == 5
    | 0x72 => !flag s MSC_SA.VALID (2 * opChan a + opdB a 0x12)
    | 0x82 => siteSt s (dacSite a) == siteABSENT || siteSt s (dacSite a) == siteHELD
    | 0x84 => siteSt s (siteArg a) == siteABSENT || siteSt s (siteArg a) == siteHELD
    | _ => false

/-- Slot and item, with whether it is skipped before its effect is tried; bad = the items, by landing ID and place,
whose staged data met an uncorrectable error. -/
def groupItems (bad : List (Nat × Nat)) (s : State) (ns : List Nat) : List (Nat × Acc × Bool) :=
  ns.flatMap (fun n => ((cargoOf s n).zipIdx).map (fun x =>
    (n, x.1, bad.contains (rd s LND_SLOT.ID n, x.2) || itemDown s x.1)))

/-- A state with the number of skips of each slot so far. -/
abbrev Skips := Tab Nat

/-- One more item of slot n is skipped: counted, corrected fault (R188). -/
def skipItem (x : State × Skips) (n : Nat) : State × Skips :=
  (faultC 0x220 x.1, tabPut x.2 (n, 0) ((tabGet x.2 (n, 0)).getD 0 + 1))

/-! ## Generational items -/

/-- A staged record no longer applies to the copy: capacity was reserved when it was staged (R360). -/
def recStale (s : State) (c : GenCopy) (op : Nat) (r : TRec) : Bool :=
  match recCheck s c op r with
  | some p => !(p.status = .busy || (p.status = .invalid && p.detail == 2) : Bool)
  | none => false

/-- The records of a table item, on copy g; one that no longer applies is skipped (R188, R360). -/
def fireRecs (g n opcode role : Nat) : List TRec → State × Skips → State × Skips
  | [], x => x
  | r :: t, x =>
    let op := recOp opcode r
    if recStale x.1 (genOf x.1 g) op r then fireRecs g n opcode role t (skipItem (refused x.1, x.2) n)
    else
      let y := recApply x.1 g op role r
      fireRecs g n opcode role t (if y.2 then y.1 else refused y.1, x.2)

/-- A TBL_DEFAULT item on copy g. -/
def fireDefault (g n : Nat) (a : Acc) (x : State × Skips) : State × Skips :=
  if (tableIn (genOf x.1 g) (opdB a 0x10)).isNone then skipItem x n
  else (setGen x.1 g (putDefault (genOf x.1 g) a), x.2)

/-- The slot whose image in full the regions now in force equal, HOST otherwise (R314). -/
def imgSlot (x : SiCtx) (h : ImgHead) : Nat := if h.partialImg then 2 else slotFrom x.source

/-- The staged regions become those of copy g (R314); the context is done. For the first image, brought while none is in
force, SI_SLOT shows it, but no rule takes the galleries out of HALTED or STAGE out of READY: both stay until a cold load
(DESIGN CHOICE beside R86, log entry 105). -/
def fireImage (g : Nat) (s : State) : State :=
  match s.siCtx with
  | none => s
  | some x =>
    match x.head, x.result with
    | some h, some rs => ctxDrop (imgShow (setGen s g (copyWith false (genOf s g) rs)) h (imgSlot x h))
    | _, _ => ctxDrop s

/-- Frames of sheaf sh that wait at the entry of gallery old, not yet stamped, wait at gallery g instead. -/
def moveEntry (s : State) (sh old g : Nat) : State :=
  { s with pkts := s.pkts.map (fun k => if k.loc == .entry old && k.pass == 0 && k.inPort / 8 == sh then { k with loc := .entry g } else k) }

/-- GAL_ASSIGN takes effect on copy g (R316, R317): the gallery serves the sheaf, the old one goes on for old packets, and
both halls hold the new gallery's packets for the old one's marker. A gallery no longer IDLE or GLEANING is skipped. -/
def fireAssign (g n : Nat) (a : Acc) (x : State × Skips) : State × Skips :=
  let s := x.1
  let sh := opdB a 0x10
  let gal := opdB a 0x11
  let st := rd s GAL_STAT.STATE gal
  if st != 1 && st != 4 then skipItem x n
  else
    let s1 := if st == 4 then abortSlice raise s 0 (2 * gal) else s
    let c := genOf s1 g
    let s2 := setGen s1 g { c with assign := tabPut c.assign (sh, 0) gal }
    let s3 := wrs (bump s2 GLB_SI_ROT.MOVES 0) [(GAL_STAT.STATE, gal, 2), (GAL_STAT.SHEAF, gal, sh), (GAL_STAT.SHEAF_VALID, gal, 1),
      (GAL_STAT.PROFILE, gal, (tabGet c.profiles (sh, 0)).getD 0), (HID.SWAP_PEND, sh, 0)]
    match tabGet c.assign (sh, 0) with
    | none => (s3, x.2)
    | some old =>
      (moveEntry (wrs s3 [(GAL_STAT.STATE, old, 3), (HID.SW_HOLD, sh, old + 1), (HID.SW_HOLD, 64 + sh, old + 1)]) sh old gal,
        x.2)

/-- A later GAL_ASSIGN of the group for the same sheaf prevails (R186, R191, R318). -/
def assignLater (a : Acc) (rest : List (Nat × Acc × Bool)) : Bool :=
  rest.any (fun y => y.2.1.cmd.opcode == 0x44 && !y.2.2 && opdB y.2.1 0x10 == opdB a 0x10)

/-- The SI_OPEN, SI_PUT and SI_CLOSE items of a landing are one image: staged data of one that meets an uncorrectable error
skips them all, so that no part of an image is applied (R188, DEDUCED, log entry 101). -/
def imageItem (a : Acc) : Bool := 0x40 ≤ a.cmd.opcode && a.cmd.opcode ≤ 0x42

/-- Slot and item, with whether it is skipped before its effect is tried. -/
def skipImages (items : List (Nat × Acc × Bool)) : List (Nat × Acc × Bool) :=
  items.map (fun x =>
    (x.1, x.2.1, x.2.2 || (imageItem x.2.1 && items.any (fun y => y.1 == x.1 && imageItem y.2.1 && y.2.2))))

/-- The generational items of a group, in order, on copy g (R177, R186, R191). -/
def fireGen (g : Nat) : List (Nat × Acc × Bool) → State × Skips → State × Skips
  | [], x => x
  | (n, a, skip) :: t, x =>
    if !genItem a then fireGen g t x
    else if skip then
      fireGen g t (skipItem (if a.cmd.opcode == 0x40 then (ctxDrop x.1, x.2) else x) n)
    else
      fireGen g t (
        match a.cmd.opcode with
        | 0x34 => fireDefault g n a x
        | 0x40 => (fireImage g x.1, x.2)
        | 0x41 => x
        | 0x42 => x
        | 0x44 => if assignLater a t then x else fireAssign g n a x
        | 0x64 => (setGen x.1 g (replIn (genOf x.1 g) a), x.2)
        | 0x72 => (setGen x.1 g (txAnIn (genOf x.1 g) (opChan a) (opdB a 0x12)), x.2)
        | op => fireRecs g n op (2 ^ a.role / 2) (cmdRecs x.1 a) x)

/-! ## The flip (R177, R178) -/

/-- A packet that no flight has stamped yet (R176). -/
def unstamped (k : Pkt) : Bool :=
  match k.loc with
  | .fromMac _ => true
  | .entry _ => k.pass == 0
  | .toHall _ => k.host && k.res.isNone
  | _ => false

/-- Packets without a stamp take the new generation when they are stamped. -/
def restamp (s : State) (g : Nat) : State :=
  { s with pkts := s.pkts.map (fun k => if unstamped k then { k with gen := g } else k) }

/-- Backlogged queues that the new queue map moves keep their former port for now (R370). -/
def keepAttach (s : State) (old : GenCopy) : State :=
  (hallQueues s 0 ++ hallQueues s 1).foldl (fun t q =>
    match tabGet old.queues (q, 0) with
    | some (.port p) =>
      if mapPort t q == some p || (queueOf t q).attach.isSome then t
      else setQueue t q { queueOf t q with attach := some p }
    | _ => t) s

/-- Galleries that serve show the profile the new map gives their sheaf. -/
def profileShow (s : State) : State :=
  forEach (List.range 68) s (fun g t =>
    if rd t GAL_STAT.STATE g == 2 then
      wr t GAL_STAT.PROFILE g ((tabGet (curGen t).profiles (rd t GAL_STAT.SHEAF g, 0)).getD 0)
    else t)

/-- The generation flips to g: the old one is live until it drains (R177, R178); ports and queues follow new maps (R182). -/
def flipGen (s : State) (g : Nat) : State :=
  let old := curGen s
  let s1 := wrs (restamp s g) [(LND_STATUS.CUR_GEN, 0, g), (LND_STATUS.OLD_LIVE, 0, 1)]
  if (curGen s1).regions == old.regions then s1
  else portsTake (queuesTake (keepAttach (profileShow s1) old) old.queues) old.ports

/-! ## Instant items -/

/-- An instant item takes effect (R174). -/
def fireInstant (s : State) (a : Acc) : State :=
  match a.cmd.opcode with
  | 0x01 =>
    match rwPlace a with
    | some (r, i, _) => if unnamedPort s r i then s else regPut s a
    | none => s
  | 0x52 => if noPort s (opPort a) then s else portAdminSet s (opPort a) (opdBit a 0x12 0)
  | 0x60 => queueApply s a
  | 0x61 => nodeApply s a
  | 0x62 => profileApply s a
  | 0x63 => gateApply s a
  | 0x73 => saDrop s (opChan a) (opdB a 0x12)
  | 0x82 => dacPut s a
  | 0x84 => pwmPut s a
  | 0x88 => monSiteApply s a
  | 0x89 => monInApply s a
  | _ => s

/-- The instant items of a group, in order. -/
def fireInst : List (Nat × Acc × Bool) → State × Skips → State × Skips
  | [], x => x
  | (n, a, skip) :: t, x =>
    if genItem a then fireInst t x
    else if skip then fireInst t (skipItem x n)
    else fireInst t (fireInstant x.1 a, x.2)

/-- Sites whose bias codes or heater duties the group carries (R193, R392). -/
def loadSites (items : List (Nat × Acc × Bool)) : List Nat :=
  (items.filterMap (fun y =>
    if y.2.2 then none
    else
      match y.2.1.cmd.opcode with
      | 0x82 => some (dacSite y.2.1)
      | 0x84 => some (siteArg y.2.1)
      | _ => none)).dedup

/-! ## A group fires (R190, R191) -/

/-- The LANDING audit entry of slot n (R119). -/
def landAudit (s : State) (n : Nat) (st : Status) : State :=
  let cred := ((cargoOf s n).head?.map (·.cred)).getD 0
  audit s 0xA (rd s LND_SLOT.OWNER n) cred (rd s LND_SLOT.HANDLE n) 0x21 st.code
    (leBytes 2 (rd s LND_SLOT.ID n) ++ leBytes 10 (rd s LND_SLOT.TIME n) ++ leBytes 4 0 ++ leBytes 32 (rd s LND_SLOT.DIGEST n))

/-- Completion fields of a landing that fires now (R190). -/
def fireReply (s : State) (n skips : Nat) (late : Bool) : Reply :=
  let t := localTime s / 65536
  { status := if late then .lateDrain else .ok
    detail := genNow s + 2 * rd s LND_SLOT.GENL n + 256 * min 255 skips
    data := some (t % 1000000000 + 2 ^ 32 * (t / 1000000000 % 2 ^ 32))
    tlock := rd s TIM_STATUS.LOCK 0 == 1 }

/-- Slot n has fired: counted, its SUBMIT completes, audit entry and event record, and its slot is FREE or DRAINING
(R190, R195). -/
def landFired (s : State) (n skips : Nat) (late : Bool) : State :=
  let id := rd s LND_SLOT.ID n
  let p := fireReply s n skips late
  let s1 := perf (bump s LND_STAT.FIRED 0) (perfE 0x10 1)
  let s2 := complete (waitsOn 0x21 [id]) p (if late then bump s1 LND_STAT.LATE_DRAIN 0 else s1)
  let s3 := event (landAudit s2 n p.status) 2 0x220 0 (bytesOf [0x10, id % 256, id / 256])
  if flag s LND_SLOT.GENL n then wr s3 LND_SLOT.STATE n 4 else freeSlot s3 n

/-- Slots in ascending order of landing ID, or of landing time and ID. -/
def insertSlot (lt : Nat → Nat → Bool) (n : Nat) : List Nat → List Nat
  | [] => [n]
  | m :: t => if lt n m then n :: m :: t else m :: insertSlot lt n t
def sortSlots (lt : Nat → Nat → Bool) (ns : List Nat) : List Nat := ns.foldr (insertSlot lt) []

/-- A group of slots fires at this tick (R191): one flip for all, then the instant items, one strobe for each site. A time
event due on the same tick fires first: its effects see the state before the cargo (R162). -/
def fireGroup (late : Bool) (bad : List (Nat × Nat)) (s0 : State) (ns0 : List Nat) : State :=
  let s := tevFireDue s0
  let ns := sortSlots (idLt s) ns0
  let items := skipImages (groupItems bad s ns)
  let g := 1 - genNow s
  let x1 : State × Skips :=
    if ns.any (flag s LND_SLOT.GENL) then
      let y := fireGen g items (setGen s g (curGen s), [])
      (flipGen y.1 g, y.2)
    else (s, [])
  let x2 := fireInst items x1
  let s3 := forEach (loadSites items) x2.1 (fun k t => strobe raise true t k)
  ns.foldl (fun t n => landFired t n ((tabGet x2.2 (n, 0)).getD 0) late) s3

/-- Due slots in order: those that must wait are WAITING, the others are the group (R192). -/
def takeDue : List Nat → State → State × List Nat
  | [], s => (s, [])
  | n :: t, s =>
    if mustWait s n then takeDue t (wr s LND_SLOT.STATE n 3)
    else
      let y := takeDue t s
      (y.1, n :: y.2)

/-- LANDING_FIRE (R190 to R192): the PENDING landings that are due now. -/
def execLandingFire (bad : List (Nat × Nat)) (s : State) : Host.Outcome State Fault Refusal :=
  .next (
    let y := takeDue (sortSlots (timeLt s) ((slotsIn s 2).filter (lndDue s))) s
    if y.2.isEmpty then y.1 else fireGroup false bad y.1 y.2)

/-! ## The end of a drain -/

/-- WAITING groups, in order, at the end of a drain: which fire, given whether a generational one has and which were left
(R192). -/
def releaseGroups (bad : List (Nat × Nat)) : List (List Nat) → Bool → List Nat → State → State
  | [], _, _, s => s
  | ns :: t, gen, left, s =>
    let genl := ns.any (flag s LND_SLOT.GENL)
    if (genl && gen) || ns.any (fun n => left.any (clash s n)) then releaseGroups bad t gen (left ++ ns) s
    else releaseGroups bad t (gen || genl) left (fireGroup true bad s ns)

/-- WAITING landings are taken in order of landing time and ID, equal times as one group (R192). -/
def releaseWaiting (bad : List (Nat × Nat)) (s : State) : State :=
  releaseGroups bad ((sortSlots (timeLt s) (slotsIn s 3)).splitBy (fun a b => slotTime s a == slotTime s b)) false [] s

/-- The old transmit associations of channels with ROLL = 1 are released (R297). -/
def releaseSas (s : State) : State :=
  let old := genOf s (1 - genNow s)
  (((old.txAn ++ (curGen s).txAn).map (·.1.1)).dedup).foldl (fun t c =>
    let was := (tabGet old.txAn (c, 0)).getD 0
    if flag t MSC_CHAN.ROLL c && was != txAnOf t (genNow t) c then saDrop t c was else t) s

/-- Old galleries serve no sheaf; they may be gated, woken or gleaned (R316, R340). -/
def releaseGals (s : State) : State :=
  forEach (List.range 68) s (fun g t =>
    if rd t GAL_STAT.STATE g == 3 then
      wrs t [(GAL_STAT.STATE, g, 1), (GAL_STAT.SHEAF, g, 0), (GAL_STAT.SHEAF_VALID, g, 0), (GAL_STAT.PROFILE, g, 0)]
    else t)

/-- Marks of tables that only the old generation had are gone with them. -/
def releasePoison (s : State) : State :=
  { s with poison := s.poison.filter (fun e => (tableIn (curGen s) e.1.1).isSome) }

/-- The drain has ended (R178): each generational landing of the group reports it, its slot is FREE, and WAITING landings
are taken. -/
def drainDone (code : Nat) (bad : List (Nat × Nat)) (s : State) : State :=
  let s1 := releasePoison (releaseGals (releaseSas (wr s LND_STATUS.OLD_LIVE 0 0)))
  let s2 := forEach (sortSlots (idLt s1) (slotsIn s1 4)) s1 (fun n t =>
    let id := rd t LND_SLOT.ID n
    freeSlot (event t 2 0x220 0 (bytesOf [code, id % 256, id / 256])) n)
  releaseWaiting bad s2

/-- GENERATION_DRAINED (R178): no packet of the old generation is left. -/
def execGenerationDrained (bad : List (Nat × Nat)) (s : State) : Host.Outcome State Fault Refusal :=
  .next (if flag s LND_STATUS.OLD_LIVE 0 && oldCount s == 0 then drainDone 0x11 bad s else s)

/-- The packets of a list are dropped at their next step (R180). -/
def markExpired (s : State) (old : Pkt → Bool) : State :=
  { s with pkts := s.pkts.map (fun k => if old k then { k with hwDrop := 0x17 } else k) }

/-- DRAIN_EXPIRED (R180): DRAIN_MAX_MS has passed; what is left of the old generation is dropped as GEN_EXPIRED, each
packet at its next step. -/
def execDrainExpired (bad : List (Nat × Nat)) (s : State) : Host.Outcome State Fault Refusal :=
  .next (
    if flag s LND_STATUS.OLD_LIVE 0 && oldCount s != 0 then
      drainDone 0x12 bad (faultC 0x221 (bump (markExpired s (fun k => k.gen != genNow s)) LND_STAT.EXPIRED 0))
    else s)

end Sys2Proof.Machine
end

