-- ==== Sys2Proof/Machine/Mmio.lean ====
section
/-! DEFINITION. Plain accesses of the host: reads and writes of BAR0 (R129, R130) and BAR2 (R131), the MSI-X table and its
pending bits (R126, R131), and configuration requests (R83, R126, R127). -/

namespace Sys2Proof.Machine

/-! ## MSI-X -/

/-- A vector that may now be sent and has its pending bit set is sent (R131, R147). -/
def msixFlush (s : State) (v : Nat) : State :=
  if flag s HID.MSIX_PEND v && flag s HID.MSIX_EN 0 && !flag s HID.MSIX_FMASK 0 && !flag s HID.MSIX_MASK v
  then sendIrq (wr s HID.MSIX_PEND v 0) v else s

/-- Every pending vector, after the function's enable or mask has changed. -/
def msixFlushAll (s : State) : State :=
  forEach ((s.regs.filter (fun e => Nat.beq e.1.1 HID.MSIX_PEND.id)).map (fun e => e.1.2)) s (fun v t => msixFlush t v)

/-- Dword k of entry v of the MSI-X table, as the PCIe Base Specification lays entries out: address, its upper half, data,
vector control with the mask in bit 0 (PRESUMED, log entry 93). -/
def msixDword (s : State) (v k : Nat) : Nat :=
  match k with
  | 0 => rd s HID.MSIX_ADDR v % 2 ^ 32
  | 1 => rd s HID.MSIX_ADDR v / 2 ^ 32
  | 2 => rd s HID.MSIX_DATA v
  | _ => rd s HID.MSIX_MASK v

/-- Dword k of entry v written. -/
def msixPut (s : State) (v k x : Nat) : State :=
  match k with
  | 0 => wr s HID.MSIX_ADDR v (rd s HID.MSIX_ADDR v / 2 ^ 32 * 2 ^ 32 + x / 4 * 4)
  | 1 => wr s HID.MSIX_ADDR v (rd s HID.MSIX_ADDR v % 2 ^ 32 + x * 2 ^ 32)
  | 2 => wr s HID.MSIX_DATA v x
  | _ => msixFlush (wr s HID.MSIX_MASK v (x % 2)) v

/-! ## Reads -/

/-- Every bit of an access. -/
def allOnes (width : Nat) : Nat := 2 ^ (8 * width) - 1

/-- An access is 4 or 8 bytes wide and naturally aligned (R129, R131). -/
def accessOk (off width : Nat) : Bool := (width == 4 || width == 8) && off % width == 0

/-- The register, part and byte of a plain read that lies within one register. -/
def plainPlace (off width : Nat) : Option (RegSpec × Nat × Nat) :=
  match findReg off with
  | some (r, i, q) => if q + width ≤ r.bytes then some (r, i, q) else none
  | none => none

/-- A read of one place of BAR0: its register, the two mailbox areas (R109), or zero. -/
def readPlace (s : State) (off width : Nat) : State × Nat :=
  match plainPlace off width with
  | some (r, i, q) => if unnamedPort s r i && r.base != reg_PRT_STAT.base then (s, 0) else look s r i q off width
  | none => if 0x100200 ≤ off && off < 0x100400 then (s, leAt s.vstRsp (off - 0x100200) width) else (s, 0)

/-- A read of BAR0: of one place, or of two 4-byte places beside one another. -/
def readBar0 (s : State) (off width : Nat) : State × Nat :=
  if width == 4 || (plainPlace off 8).isSome || (0x100000 ≤ off && off < 0x101000) then readPlace s off width
  else
    let x := readPlace s off 4
    let y := readPlace x.1 (off + 4) 4
    (y.1, x.2 + 2 ^ 32 * y.2)

/-- A dword of BAR2 (R131). -/
def readBar2 (s : State) (off : Nat) : Nat :=
  let n := off / 0x10000
  let p := off % 0x10000
  let q := ringOf s n
  if p == 0x100 then q.sqBase % 2 ^ 32
  else if p == 0x104 then q.sqBase / 2 ^ 32
  else if p == 0x108 then q.cqBase % 2 ^ 32
  else if p == 0x10C then q.cqBase / 2 ^ 32
  else if p == 0x110 then q.size
  else if p == 0x118 then q.irq
  else if p == 0x120 then q.sqHead
  else if p == 0x124 then q.cqTail
  else if n == 0 && 0x7000 ≤ p && p < 0x7100 then
    bitmapOf ((List.range 32).filter (fun b => flag s HID.MSIX_PEND (8 * (p - 0x7000) + b)))
  else if n == 0 && 0x8000 ≤ p then msixDword s ((p - 0x8000) / 16) (p / 4 % 4)
  else 0

/-- Either dword of a BAR0 read meets a block that answers all-ones. -/
def anyAsleep (s : State) (off width : Nat) : Bool := readAsleep s off || (width == 8 && readAsleep s (off + 4))

/-- A plain read (R129, R131); uncorr: the storage read meets an uncorrectable error (R457). -/
def plainRead (bar2 : Bool) (o width : Nat) (uncorr : Bool) (s : State) : State :=
  let off := if bar2 then o % 2 ^ 24 else o
  if !accessOk off width then emit s (.unsupported bar2 off)
  else if bar2 then
    emit s (.mmio true off width (readBar2 s off + if width == 8 then 2 ^ 32 * readBar2 s (off + 4) else 0))
  else if anyAsleep s off width then emit (onesRead s off HIF_STATUS.ONES_READ 0) (.mmio false off width (allOnes width))
  else if uncorr && (findReg off).isSome then
    emit (onesRead (storeErr s off) off HIF_STATUS.UNCORR_READ 1) (.mmio false off width (allOnes width))
  else
    let x := readBar0 (perf s { perfE 0x03 1 with addr := off }) off width
    emit x.1 (.mmio false off width x.2)

/-- MMIO_ALL_ONES_READ (R129, R131, R457): a plain read, which answers all-ones where R129 says so and its data elsewhere. -/
def execMmioAllOnesRead (bar2 : Bool) (offset : BitVec 28) (width : Nat) (uncorr : Bool) (s : State) :
    Host.Outcome State Fault Refusal :=
  .next (plainRead bar2 offset.toNat width uncorr s)

/-- COUNTER_HALF_READ (R14): a 32-bit plain read. The low half of a counter latches its high half; the next read of the high
half returns the latched value. -/
def execCounterHalfRead (offset : BitVec 28) (s : State) : Host.Outcome State Fault Refusal :=
  .next (plainRead false offset.toNat 4 false s)

/-- TIM_NOW_READ (R156): an aligned 8-byte plain read of TIM_NOW. -/
def execTimNowRead (s : State) : Host.Outcome State Fault Refusal := .next (plainRead false reg_TIM_NOW.base 8 false s)

/-! ## Writes -/

/-- An offset of BAR2 that R131 lets host software write and that has a command of its own: doorbells and geometry. -/
def bar2Command (off : Nat) : Bool :=
  let n := off / 0x10000
  let p := off % 0x10000
  p == 0 || p == 8 || (0x100 ≤ p && p < 0x114) || p == 0x118
    || (n == 0 && ((0x1000 ≤ p && p < 0x1080 && p % 8 == 0) || (0x2000 ≤ p && p < 0x2400 && p % 8 == 0)))

/-- The bytes of the request area of the mailbox that a plain write covers (R109). -/
def mailWrite (s : State) (off width v : Nat) : State :=
  let req := (s.vstReq ++ leBytes 512 0).take 512
  if off < 0x100200 then
    { s with vstReq := (req.take (off - 0x100000) ++ leBytes width v ++ req.drop (off - 0x100000 + width)).take 512 }
  else s

/-- A plain write (R130, R131). Writes that have a command of their own are not this one, and change nothing here; BAR0 is
open at no width but in the mailbox window, so only BAR2 answers Unsupported Request (DEDUCED, log entry 113). -/
def plainWrite (bar2 : Bool) (o width v : Nat) (s : State) : State :=
  let off := if bar2 then o % 2 ^ 24 else o
  if !bar2 then
    if 0x100000 ≤ off && off < 0x101000 then mailWrite s off width (v % 2 ^ (8 * width)) else dropWrite 0 off s
  else if !accessOk off width then emit s (.unsupported true off)
  else if off / 0x10000 == 0 && 0x8000 ≤ off then
    let e := (off - 0x8000) / 16
    let s1 := msixPut s e (off / 4 % 4) (v % 2 ^ 32)
    if width == 8 then msixPut s1 e ((off + 4) / 4 % 4) (v / 2 ^ 32 % 2 ^ 32) else s1
  else if bar2Command off then s
  else dropWrite 1 off s

/-- MMIO_WRITE_DROP (R130, R131). -/
def execMmioWriteDrop (bar2 : Bool) (offset : BitVec 28) (width : Nat) (v : BitVec 64) (s : State) :
    Host.Outcome State Fault Refusal :=
  .next (plainWrite bar2 offset.toNat width v.toNat s)

/-! ## Configuration requests -/

/-- The host reset that a function-level reset or a move to D0 is (R152). -/
def cfgReset (kind : HostResetKind) (s : State) : State := countHost (hostReset s) kind

/-- What a configuration register reads as (R1, R126, R127). The places of the values within their registers are the PCI
Express layouts, and only what R126 and R127 give is held (PRESUMED, log entry 93). -/
def cfgRead (s : State) (r : CfgReg) : Nat :=
  match r with
  | .ids => 0x0512B17C
  | .revClass => 0x028000A1
  | .subsystem => 0x0512B17C
  | .bar0 => rd s HID.BAR0_ADDR 0 % 2 ^ 32 / 2 ^ 28 * 2 ^ 28 + 4
  | .bar0Hi => rd s HID.BAR0_ADDR 0 / 2 ^ 32
  | .bar2 => rd s HID.BAR2_ADDR 0 % 2 ^ 32 / 2 ^ 24 * 2 ^ 24 + 4
  | .bar2Hi => rd s HID.BAR2_ADDR 0 / 2 ^ 32
  | .bar4 => 0
  | .rom => 0
  | .devCap => 2 + 2 ^ 28
  | .devCtl => rd s HID.DEV_MPS 0 * 2 ^ 5 + rd s HID.DEV_MRRS 0 * 2 ^ 12
  | .devCap3 => 6
  | .pmCap => 0x00030001
  | .pmCtl => if flag s HID.D3HOT 0 then 3 else 0
  | .msixCtl => 0x11 + 2 ^ 16 * (2047 + 2 ^ 14 * rd s HID.MSIX_FMASK 0 + 2 ^ 15 * rd s HID.MSIX_EN 0)
  | .msixTable => 0x8000 + 2
  | .msixPba => 0x7000 + 2
  | .aerCap => 0x00010001
  | .sriovCap => 0

/-- A configuration register written (R126, R127, R152). -/
def cfgWrite (s : State) (r : CfgReg) (v : Nat) : State :=
  match r with
  | .bar0 => wr s HID.BAR0_ADDR 0 (rd s HID.BAR0_ADDR 0 / 2 ^ 32 * 2 ^ 32 + v / 2 ^ 28 * 2 ^ 28)
  | .bar0Hi => wr s HID.BAR0_ADDR 0 (rd s HID.BAR0_ADDR 0 % 2 ^ 32 + v * 2 ^ 32)
  | .bar2 => wr s HID.BAR2_ADDR 0 (rd s HID.BAR2_ADDR 0 / 2 ^ 32 * 2 ^ 32 + v / 2 ^ 24 * 2 ^ 24)
  | .bar2Hi => wr s HID.BAR2_ADDR 0 (rd s HID.BAR2_ADDR 0 % 2 ^ 32 + v * 2 ^ 32)
  | .devCtl =>
    let s1 := wrs s [(HID.DEV_MPS, 0, min 2 (bitsOf v 5 3)), (HID.DEV_MRRS, 0, min 5 (bitsOf v 12 3))]
    if bitOf v 15 then cfgReset .flr s1 else s1
  | .pmCtl =>
    if v % 4 == 3 then wr s HID.D3HOT 0 1
    else if v % 4 == 0 && flag s HID.D3HOT 0 then cfgReset .d3hotExit s
    else s
  | .msixCtl => msixFlushAll (wrs s [(HID.MSIX_FMASK, 0, bitsOf v 30 1), (HID.MSIX_EN, 0, bitsOf v 31 1)])
  | _ => s

/-- PCIE_CONFIG_REQUEST (R83, R126): Request Retry Status before step 6, normal completion after it. -/
def execPcieConfigRequest (q : CfgReq) (s : State) : Host.Outcome State Fault Refusal :=
  .next (
    if rd s HID.BOOT_STEP 0 < 6 && rd s GLB_BOOT_STAT.STAGE 0 < 8 then emit s (.cfg true 0)
    else
      match q with
      | .read r => emit s (.cfg false (cfgRead s r))
      | .write r v => emit (cfgWrite s r v.toNat) (.cfg false 0))

end Sys2Proof.Machine
end

