-- ==== Sys2Proof/Machine/Dispatch.lean ====
section
/-! DEFINITION. The meaning of every command: one arm for each row of the opcode table, one call for each arm. -/

namespace Sys2Proof.Machine

/-- What a command does to everything but the queue of waiting commands. -/
def exec (i : Instr) (s : State) : Host.Outcome State Fault Refusal :=
  match i with
  | .porRelease strap => Sys2Proof.Machine.execPorRelease strap s
  | .resetNRise strap fuseOk katOk => Sys2Proof.Machine.execResetNRise strap fuseOk katOk s
  | .warmReset => Sys2Proof.Machine.execWarmReset s
  | .hostReset kind => Sys2Proof.Machine.execHostReset kind s
  | .d3hotEntry => Sys2Proof.Machine.execD3hotEntry s
  | .perstRelease => Sys2Proof.Machine.execPerstRelease s
  | .pgFall p => Sys2Proof.Machine.execPgFall p s
  | .pgWaitTimeout pg => Sys2Proof.Machine.execPgWaitTimeout pg s
  | .refclkLineLoss j => Sys2Proof.Machine.execRefclkLineLoss j s
  | .refclkCoreLoss => Sys2Proof.Machine.execRefclkCoreLoss s
  | .pcieRefclkLoss => Sys2Proof.Machine.execPcieRefclkLoss s
  | .fwSlotReadDone slot readOk => Sys2Proof.Machine.execFwSlotReadDone slot readOk s
  | .ceilStoreOpen okA okB => Sys2Proof.Machine.execCeilStoreOpen okA okB s
  | .corePllLock pg refs => Sys2Proof.Machine.execCorePllLock pg refs s
  | .corePllTimeout => Sys2Proof.Machine.execCorePllTimeout s
  | .sramFillDone => Sys2Proof.Machine.execSramFillDone s
  | .dramTrainDone ok => Sys2Proof.Machine.execDramTrainDone ok s
  | .dramFillDone => Sys2Proof.Machine.execDramFillDone s
  | .siBootLoadDone readOk => Sys2Proof.Machine.execSiBootLoadDone readOk s
  | .mmioWriteDrop bar2 offset width v => Sys2Proof.Machine.execMmioWriteDrop bar2 offset width v s
  | .mmioAllOnesRead bar2 offset width uncorr => Sys2Proof.Machine.execMmioAllOnesRead bar2 offset width uncorr s
  | .counterHalfRead offset => Sys2Proof.Machine.execCounterHalfRead offset s
  | .timNowRead => Sys2Proof.Machine.execTimNowRead s
  | .vstOpen msg => Sys2Proof.Machine.execVstOpen msg s
  | .vstProve msg => Sys2Proof.Machine.execVstProve msg s
  | .vstEnrol msg => Sys2Proof.Machine.execVstEnrol msg s
  | .vstAbandon => Sys2Proof.Machine.execVstAbandon s
  | .vstTimeout => Sys2Proof.Machine.execVstTimeout s
  | .lockoutExpire role => Sys2Proof.Machine.execLockoutExpire role s
  | .sessionIdleTimeout h => Sys2Proof.Machine.execSessionIdleTimeout h s
  | .returnWindowExpire => Sys2Proof.Machine.execReturnWindowExpire s
  | .cryptoSelftestFail => Sys2Proof.Machine.execCryptoSelftestFail s
  | .sqDoorbell r idx es => Sys2Proof.Machine.execSqDoorbell r idx es s
  | .cqDoorbell r idx => Sys2Proof.Machine.execCqDoorbell r idx s
  | .ringGeometryWrite r reg v => Sys2Proof.Machine.execRingGeometryWrite r reg v s
  | .evqHeadDoorbell q idx => Sys2Proof.Machine.execEvqHeadDoorbell q idx s
  | .puntRxDoorbell p idx => Sys2Proof.Machine.execPuntRxDoorbell p idx s
  | .puntTxDoorbell p idx => Sys2Proof.Machine.execPuntTxDoorbell p idx s
  | .puntFromHost p d ok => Sys2Proof.Machine.execPuntFromHost p d ok s
  | .ringIrqTimeout r => Sys2Proof.Machine.execRingIrqTimeout r s
  | .evqIrqTimeout q => Sys2Proof.Machine.execEvqIrqTimeout q s
  | .puntIrqTimeout p fromHost => Sys2Proof.Machine.execPuntIrqTimeout p fromHost s
  | .ringFetchError r tag => Sys2Proof.Machine.execRingFetchError r tag s
  | .ringCqWriteError r => Sys2Proof.Machine.execRingCqWriteError r s
  | .opcodeUnassigned r => Sys2Proof.Machine.execOpcodeUnassigned r s
  | .nop r => Sys2Proof.Machine.execNop r s
  | .regWrite r => Sys2Proof.Machine.execRegWrite r s
  | .regRead r uncorr => Sys2Proof.Machine.execRegRead r uncorr s
  | .fence r => Sys2Proof.Machine.execFence r s
  | .fenceRelease r => Sys2Proof.Machine.execFenceRelease r s
  | .barrier r => Sys2Proof.Machine.execBarrier r s
  | .barrierTimeout id h => Sys2Proof.Machine.execBarrierTimeout id h s
  | .evqSetup r => Sys2Proof.Machine.execEvqSetup r s
  | .evqClose r => Sys2Proof.Machine.execEvqClose r s
  | .puntSetup r => Sys2Proof.Machine.execPuntSetup r s
  | .sessionInfo r => Sys2Proof.Machine.execSessionInfo r s
  | .sessionClose r => Sys2Proof.Machine.execSessionClose r s
  | .ringBind r => Sys2Proof.Machine.execRingBind r s
  | .opkeySet r => Sys2Proof.Machine.execOpkeySet r s
  | .opkeyRevoke r => Sys2Proof.Machine.execOpkeyRevoke r s
  | .instcredSet r => Sys2Proof.Machine.execInstcredSet r s
  | .instcredRevoke r => Sys2Proof.Machine.execInstcredRevoke r s
  | .lcTransition r b => Sys2Proof.Machine.execLcTransition r b s
  | .returnApprove r => Sys2Proof.Machine.execReturnApprove r s
  | .zeroize r b => Sys2Proof.Machine.execZeroize r b s
  | .zeroizePin b => Sys2Proof.Machine.execZeroizePin b s
  | .auditExport r => Sys2Proof.Machine.execAuditExport r s
  | .attest r => Sys2Proof.Machine.execAttest r s
  | .fwWrite r => Sys2Proof.Machine.execFwWrite r s
  | .fwRestart r => Sys2Proof.Machine.execFwRestart r s
  | .fwRestartTimeout => Sys2Proof.Machine.execFwRestartTimeout s
  | .fwCommit r => Sys2Proof.Machine.execFwCommit r s
  | .timeRate r => Sys2Proof.Machine.execTimeRate r s
  | .timeStep r => Sys2Proof.Machine.execTimeStep r s
  | .timeRearm r => Sys2Proof.Machine.execTimeRearm r s
  | .tevArm r => Sys2Proof.Machine.execTevArm r s
  | .tevStop r => Sys2Proof.Machine.execTevStop r s
  | .tevFire n => Sys2Proof.Machine.execTevFire n s
  | .timeWatchdogExpire => Sys2Proof.Machine.execTimeWatchdogExpire s
  | .ppsInEdge => Sys2Proof.Machine.execPpsInEdge s
  | .ppsInTimeout => Sys2Proof.Machine.execPpsInTimeout s
  | .ppsOutPulseEnd => Sys2Proof.Machine.execPpsOutPulseEnd s
  | .rclkSourceLost out => Sys2Proof.Machine.execRclkSourceLost out s
  | .landingOpen r => Sys2Proof.Machine.execLandingOpen r s
  | .landingSubmit r => Sys2Proof.Machine.execLandingSubmit r s
  | .landingCancel r => Sys2Proof.Machine.execLandingCancel r s
  | .landingQuery r => Sys2Proof.Machine.execLandingQuery r s
  | .landingFire bad => Sys2Proof.Machine.execLandingFire bad s
  | .generationDrained bad => Sys2Proof.Machine.execGenerationDrained bad s
  | .drainExpired bad => Sys2Proof.Machine.execDrainExpired bad s
  | .clipWindowEnd l count => Sys2Proof.Machine.execClipWindowEnd l count s
  | .sliceFail l j => Sys2Proof.Machine.execSliceFail l j s
  | .sliceSwap l => Sys2Proof.Machine.execSliceSwap l s
  | .cdrLockLoss l abandoned temp live1ms => Sys2Proof.Machine.execCdrLockLoss l abandoned temp live1ms s
  | .qualUpdate l snr pmLow minSc minScSnr => Sys2Proof.Machine.execQualUpdate l snr pmLow minSc minScSnr s
  | .rxCaptureStart l => Sys2Proof.Machine.execRxCaptureStart l s
  | .rxCaptureDone l bins => Sys2Proof.Machine.execRxCaptureDone l bins s
  | .lossOfSignal l => Sys2Proof.Machine.execLossOfSignal l s
  | .wakeFrameRx l bits => Sys2Proof.Machine.execWakeFrameRx l bits s
  | .sheafWakeActivity l => Sys2Proof.Machine.execSheafWakeActivity l s
  | .holdTrigger l stepDb abandoned temp live1ms => Sys2Proof.Machine.execHoldTrigger l stepDb abandoned temp live1ms s
  | .holdFastReturn l snr => Sys2Proof.Machine.execHoldFastReturn l snr s
  | .holdFastTimeout l => Sys2Proof.Machine.execHoldFastTimeout l s
  | .holdFullReturn l => Sys2Proof.Machine.execHoldFullReturn l s
  | .holdFail l training => Sys2Proof.Machine.execHoldFail l training s
  | .rxBankStore l temp => Sys2Proof.Machine.execRxBankStore l temp s
  | .rxBankDiscard l => Sys2Proof.Machine.execRxBankDiscard l s
  | .synthCalDone sh => Sys2Proof.Machine.execSynthCalDone sh s
  | .synthLocked sh lockUs => Sys2Proof.Machine.execSynthLocked sh lockUs s
  | .synthAttemptTimeout sh => Sys2Proof.Machine.execSynthAttemptTimeout sh s
  | .synthLockLost sh refPresent => Sys2Proof.Machine.execSynthLockLost sh refPresent s
  | .synthRefReturn sh => Sys2Proof.Machine.execSynthRefReturn sh s
  | .txEnable r => Sys2Proof.Machine.execTxEnable r s
  | .txEnableTimeout r tag => Sys2Proof.Machine.execTxEnableTimeout r tag s
  | .wakeSend r => Sys2Proof.Machine.execWakeSend r s
  | .wakeSendDurationEnd l frames => Sys2Proof.Machine.execWakeSendDurationEnd l frames s
  | .wakeSendPartner l frames => Sys2Proof.Machine.execWakeSendPartner l frames s
  | .txTrainingTimeout l => Sys2Proof.Machine.execTxTrainingTimeout l s
  | .txShapeApply l => Sys2Proof.Machine.execTxShapeApply l s
  | .txBoundaryUpdate l blks => Sys2Proof.Machine.execTxBoundaryUpdate l blks s
  | .laneMode r => Sys2Proof.Machine.execLaneMode r s
  | .laneRestart r => Sys2Proof.Machine.execLaneRestart r s
  | .formatFound l f => Sys2Proof.Machine.execFormatFound l f s
  | .acqTimeout l envelope => Sys2Proof.Machine.execAcqTimeout l envelope s
  | .backoffExpire l => Sys2Proof.Machine.execBackoffExpire l s
  | .listenActivity l => Sys2Proof.Machine.execListenActivity l s
  | .hello l h b => Sys2Proof.Machine.execHello l h b s
  | .report l h snr nativeOk maxTier => Sys2Proof.Machine.execReport l h snr nativeOk maxTier s
  | .shapeReq l h iter taps lut => Sys2Proof.Machine.execShapeReq l h iter taps lut s
  | .shapeAck l h iter accept => Sys2Proof.Machine.execShapeAck l h iter accept s
  | .shapeDone l h snr => Sys2Proof.Machine.execShapeDone l h snr s
  | .bits l h seg tier b => Sys2Proof.Machine.execBits l h seg tier b s
  | .switch l h last format tier => Sys2Proof.Machine.execSwitch l h last format tier s
  | .abort l h reason => Sys2Proof.Machine.execAbort l h reason s
  | .idle l h => Sys2Proof.Machine.execIdle l h s
  | .probeComplete l snr maxTier => Sys2Proof.Machine.execProbeComplete l snr maxTier s
  | .shapeMeasureDone l snr => Sys2Proof.Machine.execShapeMeasureDone l snr s
  | .loadMeasureDone l b => Sys2Proof.Machine.execLoadMeasureDone l b s
  | .trainPhaseTimeout l => Sys2Proof.Machine.execTrainPhaseTimeout l s
  | .trainTotalTimeout l => Sys2Proof.Machine.execTrainTotalTimeout l s
  | .confirmWindowEnd l cws symErrs uncorrs trainUs => Sys2Proof.Machine.execConfirmWindowEnd l cws symErrs uncorrs trainUs s
  | .alignmentMarkerRx l m uncorr skew => Sys2Proof.Machine.execAlignmentMarkerRx l m uncorr skew s
  | .fecLock l held => Sys2Proof.Machine.execFecLock l held s
  | .fecLockLoss l abandoned temp live1ms => Sys2Proof.Machine.execFecLockLoss l abandoned temp live1ms s
  | .codewordDecoded l c => Sys2Proof.Machine.execCodewordDecoded l c s
  | .fecWindowEnd l => Sys2Proof.Machine.execFecWindowEnd l s
  | .fecCounterClear l => Sys2Proof.Machine.execFecCounterClear l s
  | .macRxFrame p f => Sys2Proof.Machine.execMacRxFrame p f s
  | .macTxFrame p pkt => Sys2Proof.Machine.execMacTxFrame p pkt s
  | .pfcFrameRx p quanta => Sys2Proof.Machine.execPfcFrameRx p quanta s
  | .pfcPauseExpire p cls => Sys2Proof.Machine.execPfcPauseExpire p cls s
  | .pfcRefresh p cls => Sys2Proof.Machine.execPfcRefresh p cls s
  | .remoteFaultRx p on => Sys2Proof.Machine.execRemoteFaultRx p on s
  | .mkpduRx p m => Sys2Proof.Machine.execMkpduRx p m s
  | .mkaHelloTimer p => Sys2Proof.Machine.execMkaHelloTimer p s
  | .mkaLifeExpire p peerSci => Sys2Proof.Machine.execMkaLifeExpire p peerSci s
  | .portAdmin r => Sys2Proof.Machine.execPortAdmin r s
  | .portClr r => Sys2Proof.Machine.execPortClr r s
  | .mscChanSet r => Sys2Proof.Machine.execMscChanSet r s
  | .mscChanDel r => Sys2Proof.Machine.execMscChanDel r s
  | .mscTxAn r => Sys2Proof.Machine.execMscTxAn r s
  | .mscRxRetire r => Sys2Proof.Machine.execMscRxRetire r s
  | .mkaSet r => Sys2Proof.Machine.execMkaSet r s
  | .mkaDel r => Sys2Proof.Machine.execMkaDel r s
  | .cakInstall r => Sys2Proof.Machine.execCakInstall r s
  | .cakDelete r => Sys2Proof.Machine.execCakDelete r s
  | .siOpen r => Sys2Proof.Machine.execSiOpen r s
  | .siFlashReadDone readOk => Sys2Proof.Machine.execSiFlashReadDone readOk s
  | .siPut r => Sys2Proof.Machine.execSiPut r s
  | .siClose r => Sys2Proof.Machine.execSiClose r s
  | .siAbort r => Sys2Proof.Machine.execSiAbort r s
  | .galAssign r => Sys2Proof.Machine.execGalAssign r s
  | .siSlotWrite r => Sys2Proof.Machine.execSiSlotWrite r s
  | .siSlotActive r readOk => Sys2Proof.Machine.execSiSlotActive r readOk s
  | .siKeySet r => Sys2Proof.Machine.execSiKeySet r s
  | .siSvnCommit r => Sys2Proof.Machine.execSiSvnCommit r s
  | .switchMarkerRx h sh => Sys2Proof.Machine.execSwitchMarkerRx h sh s
  | .switchHoldTimeout h sh => Sys2Proof.Machine.execSwitchHoldTimeout h sh s
  | .galleryEntry g pkt look => Sys2Proof.Machine.execGalleryEntry g pkt look s
  | .granaryResponse g pkt ns uncorr again => Sys2Proof.Machine.execGranaryResponse g pkt ns uncorr again s
  | .lookupTimeout g pkt => Sys2Proof.Machine.execLookupTimeout g pkt s
  | .ingressFlightEnd g pkt f => Sys2Proof.Machine.execIngressFlightEnd g pkt f s
  | .egressFlightEnd g pkt f => Sys2Proof.Machine.execEgressFlightEnd g pkt f s
  | .reorderRelease g pkt => Sys2Proof.Machine.execReorderRelease g pkt s
  | .galleryFail g => Sys2Proof.Machine.execGalleryFail g s
  | .tblInsert r => Sys2Proof.Machine.execTblInsert r s
  | .tblModify r => Sys2Proof.Machine.execTblModify r s
  | .tblDelete r => Sys2Proof.Machine.execTblDelete r s
  | .tblBulk r => Sys2Proof.Machine.execTblBulk r s
  | .tblDefault r => Sys2Proof.Machine.execTblDefault r s
  | .tblRead r => Sys2Proof.Machine.execTblRead r s
  | .tblCntRead r => Sys2Proof.Machine.execTblCntRead r s
  | .tblCntClear r => Sys2Proof.Machine.execTblCntClear r s
  | .tblClear r => Sys2Proof.Machine.execTblClear r s
  | .tblRepair r => Sys2Proof.Machine.execTblRepair r s
  | .counterWriteback d index uncorr => Sys2Proof.Machine.execCounterWriteback d index uncorr s
  | .hallAdmit h pkt siloBusy => Sys2Proof.Machine.execHallAdmit h pkt siloBusy s
  | .hallDequeue h q uncorr look => Sys2Proof.Machine.execHallDequeue h q uncorr look s
  | .gateEntryAdvance p => Sys2Proof.Machine.execGateEntryAdvance p s
  | .tmInternalError h => Sys2Proof.Machine.execTmInternalError h s
  | .tmgQSet r => Sys2Proof.Machine.execTmgQSet r s
  | .tmgNodeSet r => Sys2Proof.Machine.execTmgNodeSet r s
  | .tmgProfileSet r => Sys2Proof.Machine.execTmgProfileSet r s
  | .tmgGateSet r => Sys2Proof.Machine.execTmgGateSet r s
  | .tmgReplSet r => Sys2Proof.Machine.execTmgReplSet r s
  | .tmgRead r => Sys2Proof.Machine.execTmgRead r s
  | .tmgQFlush r => Sys2Proof.Machine.execTmgQFlush r s
  | .engineArrive k => Sys2Proof.Machine.execEngineArrive k s
  | .engineLeave k => Sys2Proof.Machine.execEngineLeave k s
  | .idMeasure k mv => Sys2Proof.Machine.execIdMeasure k mv s
  | .dacClrAssert => Sys2Proof.Machine.execDacClrAssert s
  | .dacClrRelease => Sys2Proof.Machine.execDacClrRelease s
  | .dacLoadPin => Sys2Proof.Machine.execDacLoadPin s
  | .deglitchHoldEnd k c => Sys2Proof.Machine.execDeglitchHoldEnd k c s
  | .pwmPeriodStart k => Sys2Proof.Machine.execPwmPeriodStart k s
  | .alsPersistExpire l => Sys2Proof.Machine.execAlsPersistExpire l s
  | .alsPeriodExpire l => Sys2Proof.Machine.execAlsPeriodExpire l s
  | .alsPulseExpire l => Sys2Proof.Machine.execAlsPulseExpire l s
  | .alsRecover l => Sys2Proof.Machine.execAlsRecover l s
  | .siteRelease r => Sys2Proof.Machine.execSiteRelease r s
  | .siteHold r => Sys2Proof.Machine.execSiteHold r s
  | .dacSet r => Sys2Proof.Machine.execDacSet r s
  | .dacLoad r => Sys2Proof.Machine.execDacLoad r s
  | .pwmSet r => Sys2Proof.Machine.execPwmSet r s
  | .ceilWrite r flashOk => Sys2Proof.Machine.execCeilWrite r flashOk s
  | .alsRestart r => Sys2Proof.Machine.execAlsRestart r s
  | .monPwmTrigger k => Sys2Proof.Machine.execMonPwmTrigger k s
  | .monConversionDone k code => Sys2Proof.Machine.execMonConversionDone k code s
  | .monSiteSet r => Sys2Proof.Machine.execMonSiteSet r s
  | .monSet r => Sys2Proof.Machine.execMonSet r s
  | .monConvert r => Sys2Proof.Machine.execMonConvert r s
  | .monOwcheck r => Sys2Proof.Machine.execMonOwcheck r s
  | .monClear r => Sys2Proof.Machine.execMonClear r s
  | .pwrState r => Sys2Proof.Machine.execPwrState r s
  | .domainStateDone d => Sys2Proof.Machine.execDomainStateDone d s
  | .powerGateTimeout d => Sys2Proof.Machine.execPowerGateTimeout d s
  | .padRelease r => Sys2Proof.Machine.execPadRelease r s
  | .domainReset r => Sys2Proof.Machine.execDomainReset r s
  | .plSet r => Sys2Proof.Machine.execPlSet r s
  | .pwrPolicy r => Sys2Proof.Machine.execPwrPolicy r s
  | .idlePolicy r => Sys2Proof.Machine.execIdlePolicy r s
  | .standby r => Sys2Proof.Machine.execStandby r s
  | .idleTimeout d => Sys2Proof.Machine.execIdleTimeout d s
  | .powerSample w => Sys2Proof.Machine.execPowerSample w s
  | .thermalSample t => Sys2Proof.Machine.execThermalSample t s
  | .effLimitStep restore => Sys2Proof.Machine.execEffLimitStep restore s
  | .throttleStep raiseW => Sys2Proof.Machine.execThrottleStep raiseW s
  | .vrmStepVerify n vout => Sys2Proof.Machine.execVrmStepVerify n vout s
  | .pmAlert st => Sys2Proof.Machine.execPmAlert st s
  | .vrmSteerEnable n => Sys2Proof.Machine.execVrmSteerEnable n s
  | .dramTempSample t => Sys2Proof.Machine.execDramTempSample t s
  | .fltPolicy r => Sys2Proof.Machine.execFltPolicy r s
  | .escalationWindowExpire rule => Sys2Proof.Machine.execEscalationWindowExpire rule s
  | .faultStickyClear id => Sys2Proof.Machine.execFaultStickyClear id s
  | .memRetire r => Sys2Proof.Machine.execMemRetire r s
  | .retireRowCopyDone n row => Sys2Proof.Machine.execRetireRowCopyDone n row s
  | .memLogClear r => Sys2Proof.Machine.execMemLogClear r s
  | .mergeBufferExpire n block => Sys2Proof.Machine.execMergeBufferExpire n block s
  | .winnowRead found unit block place again progress => Sys2Proof.Machine.execWinnowRead found unit block place again progress s
  | .gleanSliceStart t => Sys2Proof.Machine.execGleanSliceStart t s
  | .gleanSliceEnd t res => Sys2Proof.Machine.execGleanSliceEnd t res s
  | .gleanSliceWatchdog t => Sys2Proof.Machine.execGleanSliceWatchdog t s
  | .glnRun r => Sys2Proof.Machine.execGlnRun r s
  | .glnRetest r => Sys2Proof.Machine.execGlnRetest r s
  | .calRun r => Sys2Proof.Machine.execCalRun r s
  | .calStepDone kind t comp inRange temp mv => Sys2Proof.Machine.execCalStepDone kind t comp inRange temp mv s
  | .calStepTimeout kind t => Sys2Proof.Machine.execCalStepTimeout kind t s
  | .calAutoStart kind t temp => Sys2Proof.Machine.execCalAutoStart kind t temp s
  | .calAbort r => Sys2Proof.Machine.execCalAbort r s
  | .ageReport r => Sys2Proof.Machine.execAgeReport r s
  | .wearAccountWrite shifts needs tj => Sys2Proof.Machine.execWearAccountWrite shifts needs tj s
  | .pmuSet r => Sys2Proof.Machine.execPmuSet r s
  | .pmuRun r => Sys2Proof.Machine.execPmuRun r s
  | .pmuRunSwitch group => Sys2Proof.Machine.execPmuRunSwitch group s
  | .pmuCounterWrite n count ovf transit => Sys2Proof.Machine.execPmuCounterWrite n count ovf transit s
  | .pmuTagSet r => Sys2Proof.Machine.execPmuTagSet r s
  | .traceCtrl r => Sys2Proof.Machine.execTraceCtrl r s
  | .bwSet r => Sys2Proof.Machine.execBwSet r s
  | .bwClear r => Sys2Proof.Machine.execBwClear r s
  | .bwWindowEnd p => Sys2Proof.Machine.execBwWindowEnd p s
  | .corridorStart c dir failed skew peak => Sys2Proof.Machine.execCorridorStart c dir failed skew peak s
  | .corridorStartTimeout c => Sys2Proof.Machine.execCorridorStartTimeout c s
  | .corridorMarkerRx c dir x seen crcOk => Sys2Proof.Machine.execCorridorMarkerRx c dir x seen crcOk s
  | .corridorPacketRx c pkt crcOk => Sys2Proof.Machine.execCorridorPacketRx c pkt crcOk s
  | .ctrlMsgRetry c dir last => Sys2Proof.Machine.execCtrlMsgRetry c dir last s
  | .corridorLaneReplace c dir x => Sys2Proof.Machine.execCorridorLaneReplace c dir x s
  | .corridorLaneSwitch c dir => Sys2Proof.Machine.execCorridorLaneSwitch c dir s
  | .galleryPeakClear g => Sys2Proof.Machine.execGalleryPeakClear g s
  | .pcieConfigRequest q => Sys2Proof.Machine.execPcieConfigRequest q s
  | .fwRestartDone => Sys2Proof.Machine.execFwRestartDone s
  | .monOwcheckDone k codes => Sys2Proof.Machine.execMonOwcheckDone k codes s
  | .signalDetectRestored l => Sys2Proof.Machine.execSignalDetectRestored l s
  | .hifRgIrqWrite r v => Sys2Proof.Machine.execHifRgIrqWrite r v s

end Sys2Proof.Machine
end

