-- ==== Sys2Proof/Machine/Step.lean ====
section
/-! DEFINITION. One step: the command at the front of the queue, or one tick of the clock when none waits. -/

namespace Sys2Proof.Machine

/-- What an empty queue leaves the block to do: one tick of its 781.25 MHz clock (R154), which runs from the release of
the internal power-on reset (log entry 2). -/
def idle (s : State) : State := if flag s HID.POR_DONE 0 then tick s else s

/-- One step (log entry 1). -/
def step (s : State) : Host.Outcome State Fault Refusal :=
  match s.pending with
  | c :: rest => exec c { s with pending := rest }
  | [] => .next (idle s)

/-- The state with the command that a word spells put in front of its queue: no word spells one. -/
def State.withFetchWord (s : State) (nbits w : Nat) : State :=
  match decodeTableWord nbits w with
  | some c => { s with pending := c :: s.pending }
  | none => s

end Sys2Proof.Machine
end

