-- ==== Sys2Proof/WellFormed.lean ====
section
/-! DEFINITION. The operands a command can carry: the widths and lengths the spec gives the messages, entries and
measurements a command brings in. Register, port and lane numbers are in range by their types. -/

namespace Sys2Proof

/-- A number is a two's complement number of n bits. -/
def inSigned (n : Nat) (v : Int) : Bool := decide (-(2 ^ (n - 1) : Int) ≤ v) && decide (v < 2 ^ (n - 1))

/-- A 64-byte command entry with its buffer (R134, R135). -/
def Cmd.wf (c : Cmd) : Bool :=
  decide (c.opcode < 256) && decide (c.rsvd < 16) && decide (c.tag < 65536) && decide (c.landing < 65536) &&
    decide (c.aux < 65536) && decide (c.seq < 18446744073709551616) && decide (c.payload.length = 32) &&
    (if c.ptr then decide (8 ≤ c.buf.length) && decide (c.buf.length ≤ 16777216) else c.buf.isEmpty)

/-- A punt descriptor with its frame (R150). -/
def PuntDesc.wf (d : PuntDesc) : Bool :=
  decide (d.len < 65536) && decide (d.target < 4294967296) && decide (d.frame.length ≤ 16384)

/-- The fields of a training frame in their widths, and a body no longer than 160 bytes (R249). -/
def TrnHdr.wf (h : TrnHdr) : Bool :=
  decide (h.version < 256) && decide (h.phase < 256) && decide (h.probe < 256) && decide (h.seq < 65536) &&
    decide (h.ack < 65536) && decide (h.fill.length ≤ 160)

/-- Body of a HELLO (R251). -/
def HelloBody.wf (b : HelloBody) : Bool :=
  decide (b.mode < 256) && decide (b.minTier < 256) && decide (b.version < 256) && decide (b.serialLo < 4294967296) &&
    decide (b.sheaf < 256) && decide (b.lane < 256)

/-- A decoded codeword of 544 symbols of 10 bits: at most 15 corrected (R270, R282). -/
def CwResult.wf (c : CwResult) : Bool :=
  if c.uncorr then decide (c.symbols = 0) && decide (c.bits = 0)
  else decide (c.symbols ≤ 15) && decide (c.symbols ≤ c.bits) && decide (c.bits ≤ 10 * c.symbols)

/-- A frame at the MAC receiver (R290, R293). -/
def RxFrame.wf (f : RxFrame) : Bool :=
  decide (f.an < 4) && decide (f.pn < 18446744073709551616) && decide (f.data.length ≤ f.len) &&
    (!f.tagged || f.sci.isSome) &&
    (match f.sci with
     | some v => decide (v < 18446744073709551616)
     | none => true)

/-- A container that the parser or the program may write: Result fields and c128 to c1023 (R324). -/
def contWritable (c : Nat) : Bool := decide (24 ≤ c ∧ c < 34) || decide (42 ≤ c ∧ c < 45) || decide (128 ≤ c ∧ c < 1024)

/-- A state of a parse graph: 32 bytes taken, 4 looked at (R325). -/
def ParseState.wf (p : ParseState) : Bool :=
  decide (p.take.length ≤ 32) && decide (p.look.length ≤ 4) && p.take.all (fun e => contWritable e.2)

/-- An operation of 1 to 8 action units (R327, R328). -/
def AluChain.wf (c : AluChain) : Bool :=
  decide (1 ≤ c.units.length) && decide (c.units.length ≤ 8) && decide (c.sh < 8) &&
    c.units.all (fun u => contWritable u.2.2)

/-- The operations of a step or of an action program: 128 units, no container written twice (R327). -/
def unitsOk (l : List AluChain) : Bool :=
  l.all AluChain.wf && decide ((l.map (fun c => c.units.length)).sum ≤ 128) &&
    decide (((l.flatMap (fun c => c.units)).map (fun u => u.2.2)).Nodup)

/-- A match unit: 64 containers of key, 64 action programs (R326, R329). -/
def MatchUnit.wf (m : MatchUnit) : Bool :=
  decide (m.table < 256) && decide (m.key.length ≤ 64) && decide (m.progs.length ≤ 64) && m.progs.all unitsOk

/-- A hash unit: 64 containers read, four written (R329). -/
def HashUnit.wf (h : HashUnit) : Bool :=
  decide (h.seed < 4294967296) && decide (h.src.length ≤ 64) && contWritable h.dst && contWritable (h.dst + 3)

/-- A step: 4 match units, 2 hash units, 128 action units (R326 to R329). -/
def GalStep.wf (p : GalStep) : Bool :=
  decide (p.mus.length ≤ 4) && decide (p.hashes.length ≤ 2) && p.mus.all MatchUnit.wf && p.hashes.all HashUnit.wf &&
    unitsOk p.acts

/-- A flight of at most n steps within the limits of R330. -/
def Flight.wf (n : Nat) (f : Flight) : Bool :=
  decide (f.parser.length ≤ 256) && f.parser.all ParseState.wf && decide (f.steps.length ≤ n) && f.steps.all GalStep.wf &&
    decide (f.insert.length ≤ 128) && decide (f.remove ≤ 128) && decide (f.hwDrop < 256)

/-- What the security processor takes from an MKPDU (R118, R296). -/
def Mkpdu.wf (m : Mkpdu) : Bool :=
  decide (m.peerSci < 18446744073709551616) && decide (m.peerPrio < 256) &&
    (match m.newSak with
     | some x => decide (x.2.1 < 4) && decide (x.2.2.length = 40)
     | none => true)

/-- A gleaning target (R465). -/
def GleanTarget.wf (t : GleanTarget) : Bool := decide (t.cls < 5) && decide (t.dir < 2)

/-- The operands of a command are such as the spec gives it. -/
def Instr.wf (i : Instr) : Bool :=
  match i with
  | .porRelease .. => true
  | .resetNRise .. => true
  | .warmReset => true
  | .hostReset .. => true
  | .d3hotEntry => true
  | .perstRelease => true
  | .pgFall .. => true
  | .pgWaitTimeout .. => true
  | .refclkLineLoss .. => true
  | .refclkCoreLoss => true
  | .pcieRefclkLoss => true
  | .fwSlotReadDone .. => true
  | .ceilStoreOpen .. => true
  | .corePllLock .. => true
  | .corePllTimeout => true
  | .sramFillDone => true
  | .dramTrainDone .. => true
  | .dramFillDone => true
  | .siBootLoadDone .. => true
  | .mmioWriteDrop _ _ width _ => decide (width ≤ 64)
  | .mmioAllOnesRead _ _ width _ => decide (width ≤ 64)
  | .counterHalfRead .. => true
  | .timNowRead => true
  | .vstOpen msg => decide (msg.length = 512)
  | .vstProve msg => decide (msg.length = 512)
  | .vstEnrol msg => decide (msg.length = 512)
  | .vstAbandon => true
  | .vstTimeout => true
  | .lockoutExpire .. => true
  | .sessionIdleTimeout .. => true
  | .returnWindowExpire => true
  | .cryptoSelftestFail => true
  | .sqDoorbell _ _ es => es.all Cmd.wf
  | .cqDoorbell .. => true
  | .ringGeometryWrite .. => true
  | .evqHeadDoorbell .. => true
  | .puntRxDoorbell .. => true
  | .puntTxDoorbell .. => true
  | .puntFromHost _ d _ => d.wf
  | .ringIrqTimeout .. => true
  | .evqIrqTimeout .. => true
  | .puntIrqTimeout .. => true
  | .ringFetchError .. => true
  | .ringCqWriteError .. => true
  | .opcodeUnassigned .. => true
  | .nop .. => true
  | .regWrite .. => true
  | .regRead .. => true
  | .fence .. => true
  | .fenceRelease .. => true
  | .barrier .. => true
  | .barrierTimeout .. => true
  | .evqSetup .. => true
  | .evqClose .. => true
  | .puntSetup .. => true
  | .sessionInfo .. => true
  | .sessionClose .. => true
  | .ringBind .. => true
  | .opkeySet .. => true
  | .opkeyRevoke .. => true
  | .instcredSet .. => true
  | .instcredRevoke .. => true
  | .lcTransition .. => true
  | .returnApprove .. => true
  | .zeroize .. => true
  | .zeroizePin .. => true
  | .auditExport .. => true
  | .attest .. => true
  | .fwWrite .. => true
  | .fwRestart .. => true
  | .fwRestartTimeout => true
  | .fwCommit .. => true
  | .timeRate .. => true
  | .timeStep .. => true
  | .timeRearm .. => true
  | .tevArm .. => true
  | .tevStop .. => true
  | .tevFire .. => true
  | .timeWatchdogExpire => true
  | .ppsInEdge => true
  | .ppsInTimeout => true
  | .ppsOutPulseEnd => true
  | .rclkSourceLost .. => true
  | .landingOpen .. => true
  | .landingSubmit .. => true
  | .landingCancel .. => true
  | .landingQuery .. => true
  | .landingFire bad => bad.all (fun e => decide (e.1 < 65536))
  | .generationDrained bad => bad.all (fun e => decide (e.1 < 65536))
  | .drainExpired bad => bad.all (fun e => decide (e.1 < 65536))
  | .clipWindowEnd _ count => decide (count ≤ 16777216)
  | .sliceFail .. => true
  | .sliceSwap .. => true
  | .cdrLockLoss .. => true
  | .qualUpdate _ _ pmLow _ _ => decide (pmLow < 4294967296)
  | .rxCaptureStart .. => true
  | .rxCaptureDone _ bins => decide (bins.length = 256)
  | .lossOfSignal .. => true
  | .wakeFrameRx .. => true
  | .sheafWakeActivity .. => true
  | .holdTrigger .. => true
  | .holdFastReturn .. => true
  | .holdFastTimeout .. => true
  | .holdFullReturn .. => true
  | .holdFail .. => true
  | .rxBankStore .. => true
  | .rxBankDiscard .. => true
  | .synthCalDone .. => true
  | .synthLocked .. => true
  | .synthAttemptTimeout .. => true
  | .synthLockLost .. => true
  | .synthRefReturn .. => true
  | .txEnable .. => true
  | .txEnableTimeout .. => true
  | .wakeSend .. => true
  | .wakeSendDurationEnd .. => true
  | .wakeSendPartner .. => true
  | .txTrainingTimeout .. => true
  | .txShapeApply .. => true
  | .txBoundaryUpdate _ blks => decide (blks.length ≤ 512)
  | .laneMode .. => true
  | .laneRestart .. => true
  | .formatFound .. => true
  | .acqTimeout .. => true
  | .backoffExpire .. => true
  | .listenActivity .. => true
  | .hello _ h b => h.wf && b.wf
  | .report _ h snr _ maxTier => decide (snr < 65536) && (decide (maxTier ≤ 4) || maxTier == 255) && h.wf
  | .shapeReq _ h iter taps lut => h.wf && decide (iter < 256) && decide (taps.length = 15) && decide (lut.length = 64) && taps.all (inSigned 10) && lut.all (inSigned 8)
  | .shapeAck _ h iter _ => h.wf && decide (iter < 256)
  | .shapeDone _ h snr => h.wf && decide (snr < 65536)
  | .bits _ h seg tier b => h.wf && decide (tier < 256) && decide (b.length = 128 - seg.val) && b.all (fun x => decide (x < 16))
  | .switch _ h last format tier => h.wf && decide (last < 65536) && decide (format < 256) && decide (tier < 256)
  | .abort _ h reason => h.wf && decide (reason < 256)
  | .idle _ h => h.wf
  | .probeComplete _ snr maxTier => decide (snr < 65536) && (decide (maxTier ≤ 4) || maxTier == 255)
  | .shapeMeasureDone _ snr => decide (snr < 65536)
  | .loadMeasureDone _ b => decide (b.length = 255) && b.all (fun x => decide (x < 16))
  | .trainPhaseTimeout .. => true
  | .trainTotalTimeout .. => true
  | .confirmWindowEnd _ cws symErrs uncorrs _ => decide (uncorrs ≤ cws) && decide (symErrs ≤ 544 * cws)
  | .alignmentMarkerRx _ m _ _ => decide (m.length = 32)
  | .fecLock .. => true
  | .fecLockLoss .. => true
  | .codewordDecoded _ c => c.wf
  | .fecWindowEnd .. => true
  | .fecCounterClear .. => true
  | .macRxFrame _ f => f.wf
  | .macTxFrame .. => true
  | .pfcFrameRx _ quanta => decide ((quanta.map (fun q => q.1)).Nodup)
  | .pfcPauseExpire .. => true
  | .pfcRefresh .. => true
  | .remoteFaultRx .. => true
  | .mkpduRx _ m => m.wf
  | .mkaHelloTimer .. => true
  | .mkaLifeExpire _ peerSci => decide (peerSci < 18446744073709551616)
  | .portAdmin .. => true
  | .portClr .. => true
  | .mscChanSet .. => true
  | .mscChanDel .. => true
  | .mscTxAn .. => true
  | .mscRxRetire .. => true
  | .mkaSet .. => true
  | .mkaDel .. => true
  | .cakInstall .. => true
  | .cakDelete .. => true
  | .siOpen .. => true
  | .siFlashReadDone .. => true
  | .siPut .. => true
  | .siClose .. => true
  | .siAbort .. => true
  | .galAssign .. => true
  | .siSlotWrite .. => true
  | .siSlotActive .. => true
  | .siKeySet .. => true
  | .siSvnCommit .. => true
  | .switchMarkerRx .. => true
  | .switchHoldTimeout .. => true
  | .galleryEntry .. => true
  | .granaryResponse .. => true
  | .lookupTimeout .. => true
  | .ingressFlightEnd _ _ f => f.wf 24
  | .egressFlightEnd _ _ f => f.wf 16
  | .reorderRelease .. => true
  | .galleryFail .. => true
  | .tblInsert .. => true
  | .tblModify .. => true
  | .tblDelete .. => true
  | .tblBulk .. => true
  | .tblDefault .. => true
  | .tblRead .. => true
  | .tblCntRead .. => true
  | .tblCntClear .. => true
  | .tblClear .. => true
  | .tblRepair .. => true
  | .counterWriteback .. => true
  | .hallAdmit .. => true
  | .hallDequeue .. => true
  | .gateEntryAdvance .. => true
  | .tmInternalError .. => true
  | .tmgQSet .. => true
  | .tmgNodeSet .. => true
  | .tmgProfileSet .. => true
  | .tmgGateSet .. => true
  | .tmgReplSet .. => true
  | .tmgRead .. => true
  | .tmgQFlush .. => true
  | .engineArrive .. => true
  | .engineLeave .. => true
  | .idMeasure .. => true
  | .dacClrAssert => true
  | .dacClrRelease => true
  | .dacLoadPin => true
  | .deglitchHoldEnd .. => true
  | .pwmPeriodStart .. => true
  | .alsPersistExpire .. => true
  | .alsPeriodExpire .. => true
  | .alsPulseExpire .. => true
  | .alsRecover .. => true
  | .siteRelease .. => true
  | .siteHold .. => true
  | .dacSet .. => true
  | .dacLoad .. => true
  | .pwmSet .. => true
  | .ceilWrite .. => true
  | .alsRestart .. => true
  | .monPwmTrigger .. => true
  | .monConversionDone .. => true
  | .monSiteSet .. => true
  | .monSet .. => true
  | .monConvert .. => true
  | .monOwcheck .. => true
  | .monClear .. => true
  | .pwrState .. => true
  | .domainStateDone .. => true
  | .powerGateTimeout .. => true
  | .padRelease .. => true
  | .domainReset .. => true
  | .plSet .. => true
  | .pwrPolicy .. => true
  | .idlePolicy .. => true
  | .standby .. => true
  | .idleTimeout .. => true
  | .powerSample .. => true
  | .thermalSample t => decide (t.length = 212)
  | .effLimitStep .. => true
  | .throttleStep .. => true
  | .vrmStepVerify .. => true
  | .pmAlert st => decide (st.length = 6)
  | .vrmSteerEnable .. => true
  | .dramTempSample t => decide (t.length = 10)
  | .fltPolicy .. => true
  | .escalationWindowExpire .. => true
  | .faultStickyClear .. => true
  | .memRetire .. => true
  | .retireRowCopyDone _ row => decide (row < 46875000)
  | .memLogClear .. => true
  | .mergeBufferExpire .. => true
  | .winnowRead .. => true
  | .gleanSliceStart t => t.wf
  | .gleanSliceEnd t _ => t.wf
  | .gleanSliceWatchdog t => t.wf
  | .glnRun .. => true
  | .glnRetest .. => true
  | .calRun .. => true
  | .calStepDone .. => true
  | .calStepTimeout .. => true
  | .calAutoStart .. => true
  | .calAbort .. => true
  | .ageReport .. => true
  | .wearAccountWrite shifts needs _ => decide (shifts.length = 68) && decide (needs.length = 14)
  | .pmuSet .. => true
  | .pmuRun .. => true
  | .pmuRunSwitch .. => true
  | .pmuCounterWrite .. => true
  | .pmuTagSet .. => true
  | .traceCtrl .. => true
  | .bwSet .. => true
  | .bwClear .. => true
  | .bwWindowEnd .. => true
  | .corridorStart _ _ failed _ _ => decide (failed.Nodup)
  | .corridorStartTimeout .. => true
  | .corridorMarkerRx .. => true
  | .corridorPacketRx .. => true
  | .ctrlMsgRetry .. => true
  | .corridorLaneReplace .. => true
  | .corridorLaneSwitch .. => true
  | .galleryPeakClear .. => true
  | .pcieConfigRequest .. => true
  | .fwRestartDone => true
  | .monOwcheckDone _ codes => decide (codes.length ≤ 16)
  | .signalDetectRestored .. => true
  | .hifRgIrqWrite .. => true

end Sys2Proof
end

