-- ==== Sys2Proof/Safety.lean ====
section
/-! DEFINITION. The terms the statements use: the canonical form of the tables, what a change of named fields leaves
alone, and when an opcode's own rules run. -/

namespace Sys2Proof

open Sys2Proof.Machine

/-- Every table that State itself holds is canonical: at most one value for each key, keys strictly rising. The tables inside
a copy of the generational state are not meant. -/
def Canonical (s : State) : Bool :=
  tabWf s.regs && tabWf s.rings && tabWf s.sessions && tabWf s.opKeys && tabWf s.instCreds && tabWf s.caks &&
  tabWf s.siVerify && tabWf s.siDecrypt && tabWf s.tblSums && tabWf s.evqs && tabWf s.punts && tabWf s.flash &&
  tabWf s.ceilA && tabWf s.ceilB && tabWf s.cargo && tabWf s.pairs && tabWf s.cache && tabWf s.poison &&
  tabWf s.queues && tabWf s.nodes && tabWf s.gates && tabWf s.saks && tabWf s.peers && tabWf s.bits && tabWf s.banks &&
  tabWf s.eqs && tabWf s.shapes && tabWf s.trnMsgs && tabWf s.txBits && tabWf s.chains && tabWf s.monSite &&
  tabWf s.monIn && tabWf s.merge && tabWf s.withheld && tabWf s.pmuRuns && tabWf s.slices && tabWf s.errTicks

/-- Only the named fields of the named parts may differ: everything else of the state is the same. -/
def OnlyAt (l : List (Fld × Nat)) (s t : State) : Prop :=
  t = { s with regs := t.regs } ∧ ∀ f i, (∀ e ∈ l, e.1.id ≠ f.id ∨ e.2 ≠ i) → rd t f i = rd s f i

/-- Only the named fields, in any part, may differ. -/
def OnlyIn (l : List Fld) (s t : State) : Prop :=
  t = { s with regs := t.regs } ∧ ∀ f i, (∀ g ∈ l, g.id ≠ f.id) → rd t f i = rd s f i

/-- A row dispatches an opcode with nothing around it: constructor and opcode. BARRIER, after whose dispatch barriers are
settled, has its own statement. -/
def OpcodeRow (e : (Ring → Instr) × OpSpec) : Prop :=
  e ∈ ([(.nop, opNop), (.regWrite, opRegWrite), ((.regRead · true), opRegRead true), ((.regRead · false), opRegRead
   false), (.fence, opFence), (.evqSetup, opEvqSetup), (.evqClose, opEvqClose), (.puntSetup, opPuntSetup),
   (.sessionInfo, opSessionInfo), (.sessionClose, opSessionClose), (.ringBind, opRingBind), (.opkeySet,
   opOpkeySet), (.opkeyRevoke, opOpkeyRevoke), (.instcredSet, opInstcredSet), (.instcredRevoke, opInstcredRevoke),
   ((.lcTransition · .pass), opLcTransition .pass), ((.lcTransition · .fuseFail), opLcTransition .fuseFail),
   ((.lcTransition · .katFail), opLcTransition .katFail), (.returnApprove, opReturnApprove), ((.zeroize · .pass), opZeroize
   .pass), ((.zeroize · .fuseFail), opZeroize .fuseFail), ((.zeroize · .katFail), opZeroize .katFail), (.auditExport,
   opAuditExport), (.attest, opAttest), (.fwWrite, opFwWrite), (.fwRestart, opFwRestart), (.fwCommit, opFwCommit),
   (.timeRate, opTimeRate), (.timeStep, opTimeStep), (.timeRearm, opTimeRearm), (.tevArm, opTevArm), (.tevStop,
   opTevStop), (.landingOpen, opLandingOpen), (.landingSubmit, opLandingSubmit)] : List ((Ring → Instr) × OpSpec)) ∨
  e ∈ ([(.landingCancel, opLandingCancel), (.landingQuery, opLandingQuery), (.txEnable, opTxEnable), (.wakeSend,
   opWakeSend), (.laneMode, opLaneMode), (.laneRestart, opLaneRestart), (.portAdmin, opPortAdmin), (.portClr,
   opPortClr), (.mscChanSet, opMscChanSet), (.mscChanDel, opMscChanDel), (.mscTxAn, opMscTxAn), (.mscRxRetire,
   opMscRxRetire), (.mkaSet, opMkaSet), (.mkaDel, opMkaDel), (.cakInstall, opCakInstall), (.cakDelete,
   opCakDelete), (.siOpen, opSiOpen), (.siPut, opSiPut), (.siClose, opSiClose), (.siAbort, opSiAbort), (.galAssign,
   opGalAssign), (.siSlotWrite, opSiSlotWrite), ((.siSlotActive · true), opSiSlotActive true), ((.siSlotActive ·
   false), opSiSlotActive false), (.siKeySet, opSiKeySet), (.siSvnCommit, opSiSvnCommit), (.tblInsert,
   opTblInsert), (.tblModify, opTblModify), (.tblDelete, opTblDelete), (.tblBulk, opTblBulk)] : List ((Ring → Instr) × OpSpec)) ∨
  e ∈ ([(.tblDefault, opTblDefault), (.tblRead, opTblRead), (.tblCntRead, opTblCntRead), (.tblCntClear, opTblCntClear),
   (.tblClear, opTblClear), (.tblRepair, opTblRepair), (.tmgQSet, opTmgQSet), (.tmgNodeSet, opTmgNodeSet),
   (.tmgProfileSet, opTmgProfileSet), (.tmgGateSet, opTmgGateSet), (.tmgReplSet, opTmgReplSet), (.tmgRead,
   opTmgRead), (.tmgQFlush, opTmgQFlush), (.siteRelease, opSiteRelease), (.siteHold, opSiteHold), (.dacSet,
   opDacSet), (.dacLoad, opDacLoad), (.pwmSet, opPwmSet), ((.ceilWrite · true), opCeilWrite true), ((.ceilWrite ·
   false), opCeilWrite false), (.alsRestart, opAlsRestart), (.monSiteSet, opMonSiteSet), (.monSet, opMonSet),
   (.monConvert, opMonConvert), (.monOwcheck, opMonOwcheck), (.monClear, opMonClear), (.pwrState, opPwrState),
   (.padRelease, opPadRelease), (.domainReset, opDomainReset), (.plSet, opPlSet)] : List ((Ring → Instr) × OpSpec)) ∨
  e ∈ ([(.pwrPolicy, opPwrPolicy), (.idlePolicy, opIdlePolicy), (.standby, opStandby), (.fltPolicy, opFltPolicy),
   (.memRetire, opMemRetire), (.memLogClear, opMemLogClear), (.glnRun, opGlnRun), (.glnRetest, opGlnRetest),
   (.calRun, opCalRun), (.calAbort, opCalAbort), (.ageReport, opAgeReport), (.pmuSet, opPmuSet), (.pmuRun,
   opPmuRun), (.pmuTagSet, opPmuTagSet), (.traceCtrl, opTraceCtrl), (.bwSet, opBwSet), (.bwClear, opBwClear)] : List ((Ring → Instr) × OpSpec))

/-- Opcode o runs as the front command a of ring r: the ring dispatches it, no earlier wake and no landing due holds it, the
checks of R138 and R447 let it pass, it is not staged, its wake is done, and its own checks pass. -/
def Runs (o : OpSpec) (s : State) (r : Ring) (a : Acc) : Prop :=
  (ready s r.val o.op = some a ∧ blockHeld o s r.val a = false) ∧ refusal o (popFront s r.val) r.val a = none ∧
    a.cmd.stage = false ∧ (a.woken = true ∨ wakeList o (popFront s r.val) a = []) ∧ o.check (popFront s r.val) a = none

/-- Opcode o is staged as the front command a of ring r: the ring dispatches it, nothing holds it, the checks of R138 and
R447 let it pass, it has STAGE set, its wake is done, and the checks of R185 and its own checks pass. -/
def StageRuns (o : OpSpec) (s : State) (r : Ring) (a : Acc) : Prop :=
  (ready s r.val o.op = some a ∧ blockHeld o s r.val a = false) ∧ refusal o (popFront s r.val) r.val a = none ∧
    a.cmd.stage = true ∧ (stageCheck o (popFront s r.val) a = none ∧
      (a.woken = true ∨ wakeList o (popFront s r.val) a = [])) ∧ o.check (popFront s r.val) a = none

/-- A command row may be staged: exec then adds it to the cargo of its landing and completes it with OK. -/
def Stages (c : Ring → Instr) (o : OpSpec) : Prop :=
  ∀ (r : Ring) (s : State) (a : Acc), StageRuns o s r a →
    exec (c r) s = .next (finish (stageItem (popFront s r.val) a) r.val a rOk)

/-- A command row completes: whenever its opcode runs and H holds of the state and the command, exec answers a next
state, which is F of the two with the completion of the command, its reply P. -/
def Completes (c : Ring → Instr) (o : OpSpec) (H : State → Acc → Prop) (F : State → Acc → State)
    (P : State → Acc → Reply) : Prop :=
  ∀ (r : Ring) (s : State) (a : Acc), Runs o s r a → H (popFront s r.val) a →
    exec (c r) s = .next (finish (F (popFront s r.val) a) r.val a (P (popFront s r.val) a))

/-- A command row completes and then has a consequence K: as `Completes`, with K after the completion. -/
def CompletesThen (c : Ring → Instr) (o : OpSpec) (H : State → Acc → Prop) (F : State → Acc → State)
    (P : State → Acc → Reply) (K : State → Acc → State → State) : Prop :=
  ∀ (r : Ring) (s : State) (a : Acc), Runs o s r a → H (popFront s r.val) a →
    exec (c r) s = .next (K (popFront s r.val) a
      (finish (F (popFront s r.val) a) r.val a (P (popFront s r.val) a)))

/-- A command row starts to wait: whenever its opcode runs and H holds, exec answers F of the state and the command, with
the command in the list of dispatched commands, waiting for what W names. -/
def StartsWait (c : Ring → Instr) (o : OpSpec) (H : State → Acc → Prop) (F : State → Acc → State)
    (W : State → Acc → List Nat) : Prop :=
  ∀ (r : Ring) (s : State) (a : Acc), Runs o s r a → H (popFront s r.val) a →
    exec (c r) s = .next { F (popFront s r.val) a with
      running := (F (popFront s r.val) a).running ++ [⟨r.val, a, .waiting (W (popFront s r.val) a)⟩] }

/-- An event has its effect: in every state where H holds, exec answers the next state F gives. -/
def Acts (i : Instr) (H : State → Prop) (F : State → State) : Prop := ∀ s, H s → exec i s = .next (F s)

/-- A block that TBL_REPAIR has emptied: its entries gone, its mark cleared, its log entry REPAIRED (R363). -/
def repairEmptied (s : State) (d : TableDef) (n : Nat) : State :=
  let t := rd s TBL_POISON_LOG.TABLE n
  let s1 := setGen s (genNow s) (emptyRange (curGen s) d t (plogRange s n))
  wr { s1 with poison := tabDel s1.poison (t, rd s TBL_POISON_LOG.BLOCK n) } TBL_POISON_LOG.REPAIRED n 1

/-- The state in which a valid training frame is looked at: the partner was heard, and its clock is recovered. -/
def frameSeen (l : Lane) (s : State) : State := wrs s [(HID.TRN_HEARD, l.val, 1), (SHF_RX_CDR.LOCK, l.val, 1)]

/-- A valid frame brings the partner's next message in order, in phase p: nothing to acknowledge, no sign of a new start,
and this side's own exchange moves no phase. -/
def NextMessage (l : Lane) (h : TrnHdr) (msg : Nat) (bytes : List Byte) (p : Nat) (s : State) : Prop :=
  exchanging s l.val = true ∧ trnValid h msg bytes = true ∧ rd s SHF_LANE_STAT.PHASE l.val = p ∧
    partnerNew (frameSeen l s) l.val h = false ∧ h.ack ≠ rd (frameSeen l s) HID.TRN_SEQ l.val ∧
    phaseStep (frameSeen l s) l.val = frameSeen l s ∧ exchanging (frameSeen l s) l.val = true ∧
    rd (wr (frameSeen l s) HID.TRN_RX l.val h.seq) SHF_LANE_STAT.PHASE l.val = p ∧
    h.seq = (rd (frameSeen l s) HID.TRN_RX l.val + 1) % 65536

/-- The state a message in order is taken in: RX holds its SEQ. -/
def heard (l : Lane) (h : TrnHdr) (s : State) : State := wr (frameSeen l s) HID.TRN_RX l.val h.seq

end Sys2Proof
end

