-- ==== Sys2Proof/Certificates/Slice0/Obligations.lean ====
section
/-! DEFINITION. The statements about the CL512 that are to be proved. Each names the rules it comes from; what is the
model's own choice is named with its log entry. -/

open Sys2Proof Sys2Proof.Machine

/-- A step runs the front command (log entry 1): with a command at the front of the queue, a step is exec of it, in the
state with the rest of the queue. -/
def Obligations.StepRunsTheFrontCommand : Prop :=
  ∀ (c : Instr) (rest : List Instr) (s : State), s.pending = c :: rest → step s = exec c { s with pending := rest }

/-- An empty queue leaves the clock to run, which is the model's choice (log entry 2): before the internal power-on
reset is released nothing happens; after it one tick of 781.25 MHz adds the effective increment BASE + DELTA to
local time, with the carry of R154 into the seconds, and one to the tick counter. -/
def Obligations.EmptyQueueStepIsOneTick : Prop :=
  ∀ s : State, s.pending = [] →
    (flag s HID.POR_DONE 0 = false → step s = .next s) ∧
    (flag s HID.POR_DONE 0 = true → fineTime s + increment s < 2 ^ 48 * (1000000000 * 1099511627776) →
      ∃ t, step s = .next t ∧ fineTime t = fineTime s + increment s ∧ rd t TIM_NOW.NS 0 < 1000000000 ∧
        rd t HID.TICKS 0 = (rd s HID.TICKS 0 + 1) % 2 ^ HID.TICKS.w ∧ rd t TIM_INCR.BASE 0 = rd s TIM_INCR.BASE 0 ∧
        rd t TIM_INCR.DELTA 0 = rd s TIM_INCR.DELTA 0)

/-- Reset (R10 and the Reset columns of R93, R153, R173, R222, R240, R262, R285, R301, R343, R389, R408, R423, R444,
R463, R480, R490, R499): every field reads its reset value, nothing waits in the queue, and every table that State
itself holds is canonical. Named here: values the columns give; where a column gives none, what a field reads is the
model's choice (log entry 5). -/
def Obligations.ResetLeavesTheSpecValues : Prop :=
  Canonical State.reset = true ∧ State.reset.pending = [] ∧ State.reset.running = [] ∧ State.reset.rings = [] ∧
    State.reset.sessions = [] ∧ (∀ f i, rd State.reset f i = resetOf f i) ∧
    (∀ e ∈ [(HIF_CFG.BARRIER_MS, 1000), (TIM_PPS_OUT.TEV, 31), (SHF_TRN_CFG.ACQ_MS, 100), (SHF_FEC_CFG.WIN_LOG2, 26),
      (PRT_CFG.MAX_LEN, 9216), (GAL_STAT.STATE, 0), (TMG_PFC.XOFF_KIB, 1024), (EMG_SITE_CTRL.GLB_EN, 1), (EMG_MON_IN.OW_DIFF, 1024),
      (PWR_POLICY.THR_C, 100), (FLT_CFG.C_REC, 65535), (GLN_CFG.EN, 31), (PMU_CFG.ROLE, 15)],
      ∀ i, rd State.reset e.1 i = e.2) ∧
    (∀ (l : Lane) (j : Fin 136),
      rd State.reset SHF_RX_SLICE.STATE (l.val * 136 + j.val) = (if j.val < 128 then 0 else 1) ∧
      (j.val < 128 → rd State.reset SHF_RX_SLICE.POS (l.val * 136 + j.val) = j.val)) ∧
    (∀ (l : Lane) (k : Fin 15), rd State.reset SHF_TX_TAP.COEF (l.val * 15 + k.val) = if k.val = 3 then 256 else 0) ∧
    (∀ (d : Fin 48) (x : Fin 1056),
      rd State.reset DDL_LANE.STATE (d.val * 1056 + x.val) = (if x.val < 1024 then 0 else 1) ∧
      (x.val < 1024 → rd State.reset DDL_LANE.POS (d.val * 1056 + x.val) = x.val))

/-- Every step keeps every table that State itself holds canonical: keys strictly rising, so that equal contents are
equal data. -/
def Obligations.EveryStepKeepsTheTablesCanonical : Prop :=
  ∀ s t : State, Canonical s = true → step s = .next t → Canonical t = true

/-- No command of the table stops the machine: in every state every command answers a next state; and it leaves the
queue of commands as it is, and reuses no free value (log entries 1 and 9). -/
def Obligations.EveryCommandAnswersAndKeepsTheQueue : Prop :=
  ∀ (c : Instr) (s : State), ∃ t, exec c s = .next t ∧ t.pending = s.pending ∧ s.freeCnt ≤ t.freeCnt

/-- Local time never runs backward (R160): no command but the release of the internal power-on reset, at which the
counter starts at zero (R93), and no tick, moves it back. The premise says that the 48 bits of seconds are not about
to run out and that the rate does not make the increment run away. -/
def Obligations.LocalTimeNeverRunsBackward : Prop :=
  ∀ s t : State, fineTime s < 2 ^ 47 * (1000000000 * 1099511627776) → increment s < 2 ^ 64 →
    (∀ strap rest, s.pending ≠ .porRelease strap :: rest) → step s = .next t → fineTime s ≤ fineTime t

/-- The one write of the register store: a field written reads back the low bits of its width, every other field and
every other part of the state is as before. -/
def Obligations.FieldsReadBackAndLeaveOthersAlone : Prop :=
  (∀ s f i v, rd (wr s f i v) f i = v % 2 ^ f.w) ∧
  (∀ s f i v, OnlyAt [(f, i)] s (wr s f i v)) ∧
  (∀ s f i v, Canonical s = true → Canonical (wr s f i v) = true) ∧
  (∀ s l, OnlyAt (l.map (fun e => (e.1, e.2.1))) s (wrs s l))

/-- Counters (R13): an error and event counter counts up to its maximum and stays there; a statistics counter wraps to
zero; a performance counter wraps and counts the overflow, which stays at 255. A counter that stays sets its SAT
bit, one that wraps its WRAP bit; that each counter has bits of its own is the model's choice (log entry 46). -/
def Obligations.CountersWrapOrHoldByTheirKind : Prop :=
  (∀ s f i n, rd (bumpBy s f i n) f i = min (rd s f i + n) (2 ^ f.w - 1)) ∧
  (∀ s f i n, rd (bumpBy s f i n) HID.SAT (cntPart f i) =
    if 2 ^ f.w - 1 ≤ rd s f i + n then 1 else rd s HID.SAT (cntPart f i)) ∧
  (∀ s f i n, OnlyAt [(f, i), (HID.SAT, cntPart f i)] s (bumpBy s f i n)) ∧
  (∀ s f i n, rd (stat s f i n) f i = (rd s f i + n) % 2 ^ f.w) ∧
  (∀ s f i n, rd (stat s f i n) HID.WRAP (cntPart f i) =
    if 2 ^ f.w ≤ rd s f i + n then 1 else rd s HID.WRAP (cntPart f i)) ∧
  (∀ s f i n, OnlyAt [(f, i), (HID.WRAP, cntPart f i)] s (stat s f i n)) ∧
  (∀ s (n amount : Nat), rd (perfAdd amount s n) PMU_CTR.COUNT n = (rd s PMU_CTR.COUNT n + amount) % 2 ^ 48) ∧
  (∀ s (n amount : Nat), rd s PMU_CTR.COUNT n + amount < 2 ^ 48 →
    OnlyAt [(PMU_CTR.COUNT, n)] s (perfAdd amount s n)) ∧
  (∀ s (n amount : Nat), n < 512 → 2 ^ 48 ≤ rd s PMU_CTR.COUNT n + amount →
    rd (perfAdd amount s n) PMU_CTR.OVF n = min 255 (rd s PMU_CTR.OVF n + (rd s PMU_CTR.COUNT n + amount) / 2 ^ 48) ∧
    bitOf (rd (perfAdd amount s n) PMU_OVF.OVF 0) n = true)

/-- What happens to a command that does not run (R138, R139, R140, R146, R185, R193, R447): a command that is not at the
front of its ring, or is held back, leaves all as it is; one that fails a check leaves the queue of its ring and
completes with the status of that check, and nothing else happens, its wake included. In the safe state an opcode
outside R447's list is INVALID, DETAIL 0xFFFD; a TAG still in use is INVALID, DETAIL 0xFFFF. -/
def Obligations.RefusedCommandsHaveNoEffect : Prop :=
  (∀ e, OpcodeRow e → ∀ (r : Ring) (s : State),
    (ready s r.val e.2.op = none → exec (e.1 r) s = .next s) ∧
    ∀ a, ready s r.val e.2.op = some a → (blockHeld e.2 s r.val a = true → exec (e.1 r) s = .next s) ∧
      (blockHeld e.2 s r.val a = false → (∀ p, refusal e.2 (popFront s r.val) r.val a = some p →
        exec (e.1 r) s = .next (finish (popFront s r.val) r.val a p)) ∧
      (refusal e.2 (popFront s r.val) r.val a = none →
        (a.cmd.stage = true → ∀ p, stageCheck e.2 (popFront s r.val) a = some p →
          exec (e.1 r) s = .next (finish (popFront s r.val) r.val a p)) ∧
        (a.cmd.stage = true → stageCheck e.2 (popFront s r.val) a = none → ∀ p, e.2.check (popFront s r.val) a = some p →
          exec (e.1 r) s = .next (finish (popFront s r.val) r.val a p)) ∧
        (a.cmd.stage = false → ∀ p, e.2.check (popFront s r.val) a = some p →
          exec (e.1 r) s = .next (finish (popFront s r.val) r.val a p))))) ∧
  (∀ o s r a, isSafe s = true → safeOp o.op = false → refusal o s r a = some ⟨.invalid, 0xFFFD, none, false⟩) ∧
  (∀ o s r a, isSafe s = false → rd s GLB_BOOT_STAT.STAGE 0 ≠ 8 → a.cmd.rsvd = 0 → (a.cmd.stage = true ∨ a.cmd.landing = 0) →
    (o.ptr = 2 ∨ a.cmd.ptr = decide (o.ptr = 1)) → (a.cmd.ptr = true → ptrOk a.cmd = true) → dupTag s r a = true →
    refusal o s r a = some ⟨.invalid, 0xFFFF, none, false⟩) ∧
  (∀ s r op, (ringOf s r).resumed = [] →
    (∃ x ∈ s.running, x.ring = r ∧ (x.acc.cmd.opcode = 3 ∨ x.acc.cmd.opcode = 4)) → ready s r op = none)

/-- A completion touches its own ring and nothing else of the block (R133, R136, R140, R147, R481): with no barrier
waiting, the completion of an Operator's command changes the ring, what leaves for the host, the pending bit of a
masked vector, and the monitors of that traffic; every other ring and every other field is as before. The entry goes
to the completion queue with the phase of its slot, or waits for a slot, or for the end of D3hot (log entry 84); a
non-OK one is counted for the next FENCE. -/
def Obligations.CompletionsTouchOnlyTheirRing : Prop :=
  ∀ (s : State) (r : Nat) (a : Acc) (p : Reply), a.role < 2 → (∀ x ∈ s.running, x.acc.cmd.opcode ≠ 4) →
    (∃ rings out evqs regs,
      finish s r a p = { s with rings := rings, out := out, evqs := evqs, regs := regs }) ∧
    (∀ q, q ≠ r → ringOf (finish s r a p) q = ringOf s q) ∧
    (∀ f i, (∀ g ∈ [HID.IDLE_AT, PMU_CTR.COUNT, PMU_CTR.OVF, PMU_OVF.OVF, HIF_EVQ_STAT.LOST, HID.MSIX_PEND, HID.SAT], g.id ≠ f.id) →
      rd (finish s r a p) f i = rd s f i) ∧
    ((ringOf s r).discard = false → (ringOf s r).draining = false →
      ((ringOf s r).cqWait = [] → ringFull (ringOf s r).cqHead (ringOf s r).cqTail (ringOf s r).cqLog2 = false →
        flag s HID.D3HOT 0 = false →
        (ringOf (finish s r a p) r).cq = (ringOf s r).cq ++ [{ cplOf r a p with phase := (ringOf s r).phase }] ∧
        (ringOf (finish s r a p) r).cqTail = ((ringOf s r).cqTail + 1) % 2 ^ (ringOf s r).cqLog2) ∧
      ((ringOf s r).cqWait ≠ [] ∨ ringFull (ringOf s r).cqHead (ringOf s r).cqTail (ringOf s r).cqLog2 = true ∨
          flag s HID.D3HOT 0 = true →
        (ringOf (finish s r a p) r).cqWait = (ringOf s r).cqWait ++ [cplOf r a p]) ∧
      (ringOf (finish s r a p) r).nonOk =
        if p.status = .ok then (ringOf s r).nonOk else min 0xFFFF ((ringOf s r).nonOk + 1))

/-- Fault events (R446, R447, R449, R450): an event counts, latches and is recorded; one that an escalation rule counts
as its Nth is promoted by one class; a fatal one outside the safe state brings it; a corrected or contained one that
no rule promotes has no reaction but its raiser's. -/
def Obligations.FaultsLatchTheirSource : Prop :=
  (∀ s src cls esc, cls ≤ 3 → rd s FLT_SRC.CLASS src ≤ 3 →
    rd (faultLatch s src cls esc) FLT_SRC.STICKY src = 1 ∧
    rd (faultLatch s src cls esc) FLT_SRC.CLASS src = max (rd s FLT_SRC.CLASS src) cls ∧
    rd (faultLatch s src cls esc) FLT_SRC.ESC src = b2n esc ∧
    rd (faultLatch s src cls esc) FLT_SRC.COUNT src = min (rd s FLT_SRC.COUNT src + 1) (2 ^ FLT_SRC.COUNT.w - 1) ∧
    OnlyAt [(FLT_SRC.STICKY, src), (FLT_SRC.CLASS, src), (FLT_SRC.ESC, src), (FLT_SRC.COUNT, src),
      (HID.SAT, cntPart FLT_SRC.COUNT src)] s (faultLatch s src cls esc)) ∧
  (∀ s src cls d, faultClass s src cls ≠ 3 → escPromotes s (escRule s src cls) = false →
    raise src cls d s = recordFault s src cls d) ∧
  (∀ s src cls d, faultClass s src cls = 3 → isSafe s = false →
    raise src cls d s = enterSafe (raiseN 3) (recordFault s src cls d)) ∧
  (∀ s src cls r, escRule s src cls = some r → rd s FLT_ESC.N r ≤ rd s FLT_ESC.COUNT r + 1 →
    faultClass s src cls = cls + 1 ∧ rd (escCount s (some r)) FLT_ESC.COUNT r = 0 ∧
    rd (escCount s (some r)) FLT_ESC.HITS r = min (rd s FLT_ESC.HITS r + 1) (2 ^ FLT_ESC.HITS.w - 1)) ∧
  (∀ s src cls r, escRule s src cls = some r → rd s FLT_ESC.COUNT r + 1 < rd s FLT_ESC.N r →
    faultClass s src cls = cls ∧ escCount s (some r) = wr s FLT_ESC.COUNT r (rd s FLT_ESC.COUNT r + 1)) ∧
  (∀ s src cls, escRule s src cls = none → faultClass s src cls = cls ∧ escCount s none = s)

/-- R158: TIME_RATE writes DELTA, at one tick; a value beyond the limit of R155 is held at the limit, and then
RATE_CLAMP is set and DETAIL is 1; local time does not move. -/
def Obligations.RateIsHeldAtItsLimit : Prop :=
  Completes .timeRate opTimeRate (fun s a => clampDelta s (sext 64 (opd a 0x10 8)) ≠ sext 64 (opd a 0x10 8))
    (fun s a => wrs s [(TIM_INCR.DELTA, 0, wrapI 64 (clampDelta s (sext 64 (opd a 0x10 8)))),
      (TIM_STATUS.LOCK, 0, lockAfter (rd s TIM_STATUS.LOCK 0) (opdB a 0x18)),
      (HID.WDOG_ON, 0, b2n (lockAfter (rd s TIM_STATUS.LOCK 0) (opdB a 0x18) == 1)), (TIM_STATUS.RATE_CLAMP, 0, 1)])
    (fun _ _ => ⟨.ok, 1, none, false⟩) ∧
  (∀ s d, 0 ≤ clampDelta s d + (rd s TIM_INCR.BASE 0 * 500 / 1000000 : Nat) ∧
    clampDelta s d ≤ (rd s TIM_INCR.BASE 0 * 500 / 1000000 : Nat) ∧
    (d.natAbs ≤ rd s TIM_INCR.BASE 0 * 500 / 1000000 → clampDelta s d = d) ∧
    ((rd s TIM_INCR.BASE 0 * 500 / 1000000 : Nat) < d → clampDelta s d = (rd s TIM_INCR.BASE 0 * 500 / 1000000 : Nat)) ∧
    (d < -((rd s TIM_INCR.BASE 0 * 500 / 1000000 : Nat) : Int) →
      clampDelta s d = -((rd s TIM_INCR.BASE 0 * 500 / 1000000 : Nat) : Int))) ∧
  (∀ (r : Ring) s a, Runs opTimeRate s r a → ∃ t, exec (.timeRate r) s = .next t ∧ fineTime t = fineTime s ∧
    rd t TIM_INCR.DELTA 0 = wrapI 64 (clampDelta s (sext 64 (opd a 0x10 8))) ∧ rd t TIM_INCR.BASE 0 = rd s TIM_INCR.BASE 0)

/-- R199: the count of clipped samples of a window stands in CLIP; a window that counts more than 255 leaves 255 there
and sets the event bit; nothing else changes, so no fault is raised. -/
def Obligations.ClippingIsHeldAndFlagged : Prop :=
  ∀ (l : Lane) n s, receiving s l.val = true →
    (n ≤ 255 → ∃ t, exec (.clipWindowEnd l n) s = .next t ∧ rd t SHF_RX_AFE.CLIP l.val = n ∧
      OnlyAt [(SHF_RX_AFE.CLIP, l.val)] s t) ∧
    (255 < n → ∃ t, exec (.clipWindowEnd l n) s = .next t ∧ rd t SHF_RX_AFE.CLIP l.val = 255 ∧ rd t SHF_RX_EVT.CLIP l.val = 1 ∧
      OnlyAt [(SHF_RX_AFE.CLIP, l.val), (SHF_RX_EVT.CLIP, l.val)] s t)

/-- R163: with PPS_IN_EN an edge of PPS_IN is time-stamped into TIM_PPS_IN and counted; when none came in time, PPS_LOST
is set and the corrected fault 0x201 raised. Neither steers time. -/
def Obligations.PpsInputIsStampedAndWatched : Prop :=
  (∀ s, flag s TIM_CFG.PPS_IN_EN 0 = true → ∃ t, exec .ppsInEdge s = .next t ∧
    rd t TIM_PPS_IN.TIME 0 = timeNowField (localTime s) % 2 ^ TIM_PPS_IN.TIME.w ∧
    rd t TIM_PPS_IN.COUNT 0 = min (rd s TIM_PPS_IN.COUNT 0 + 1) (2 ^ TIM_PPS_IN.COUNT.w - 1) ∧
    OnlyAt [(TIM_PPS_IN.TIME, 0), (TIM_PPS_IN.COUNT, 0), (HID.PPS_WAIT, 0), (HID.SAT, cntPart TIM_PPS_IN.COUNT 0)] s t) ∧
  (∀ s, flag s TIM_CFG.PPS_IN_EN 0 = true → flag s HID.PPS_WAIT 0 = true → ∃ u,
    exec .ppsInTimeout s = .next (faultC 0x201 u) ∧ rd u TIM_STATUS.PPS_LOST 0 = 1 ∧
    OnlyAt [(TIM_STATUS.PPS_LOST, 0), (HID.PPS_WAIT, 0)] s u)

/-- POR_RELEASE (R85, R93, R46, R155): whatever state the part was in, the release of the internal power-on reset leaves
every scalar at its reset value but the fields in fuses and flash, the straps, the increment of STRAP[3] and the
level of PG_AUX; no ring, session, dispatched command or audit entry; the key store and the flash as they were. -/
def Obligations.PowerOnResetLeavesFusesAndFlash : Prop :=
  ∀ strap s, ∃ t, exec (.porRelease strap) s = .next t ∧
    t.rings = [] ∧ t.sessions = [] ∧ t.running = [] ∧ t.evqs = [] ∧ t.cargo = [] ∧ t.pkts = [] ∧
    t.opKeys = s.opKeys ∧ t.instCreds = s.instCreds ∧ t.caks = s.caks ∧ t.flash = s.flash ∧ t.pending = s.pending ∧
    rd t HID.POR_DONE 0 = 1 ∧ rd t GLB_STRAP.STRAP 0 = strap.toNat ∧
    rd t TIM_INCR.BASE 0 = (if bitOf strap.toNat 3 then 1409136303933 else 1407374883553) ∧
    t.audit = [] ∧ rd t GLB_PIN_STAT.PG 0 = 0x80 ∧
    ∀ f i, f.id ≠ HID.POR_DONE.id → f.id ≠ GLB_STRAP.STRAP.id → f.id ≠ TIM_INCR.BASE.id →
      f.id ≠ GLB_PIN_STAT.PG.id → rd t f i = if idIn fuseFields f.id then rd s f i else resetOf f i

/-- RESET_N_RISE, FW_SLOT_READ_DONE, CEIL_STORE_OPEN, CORE_PLL_LOCK, SRAM_FILL_DONE, DRAM_TRAIN_DONE, DRAM_FILL_DONE
(R82, R81, R119, R400, R88): each step of bring-up, taken in its place, leads to the next one. BOOT_STEP is the
model's own counter of R82's steps. WARM_RESET, PERST_RELEASE, PCIE_CONFIG_REQUEST, PG_FALL, PG_WAIT_TIMEOUT,
CORE_PLL_TIMEOUT, REFCLK_CORE_LOSS (R93, R98, R92, R83, R1, R126, R127, R91, R88, R50): resets, supplies and
references. PCIe requests get Request Retry Status until the host interface is enabled; then a read gives the
register's value, the IDs among them, and a write has its effect. -/
def Obligations.BringUpAndSuppliesAct : Prop :=
  (
    (∀ strap, Acts (.resetNRise strap true true)
      (fun s => flag s HID.POR_DONE 0 = true ∧ flag s HID.RESET_HIGH 0 = false ∧ rd s FLT_SUMMARY.FATAL 0 = 0 ∧
        rd s FLT_SUMMARY.THERMAL 0 = 0)
      (fun s => readHeaders (loadAgeMax (wrs (updFaultPin s) [(HID.RESET_HIGH, 0, 1), (GLB_STRAP.STRAP, 0, strap.toNat),
        (GLB_BOOT_STAT.STAGE, 0, 0), (HID.BOOT_STEP, 0, 1), (HID.KAT_OK, 0, 1), (HID.BOOT_STEP, 0, 3)])))) ∧
    (∀ slot readOk, Acts (.fwSlotReadDone slot readOk)
      (fun s => rd s HID.BOOT_STEP 0 = 3 ∧ rd s GLB_BOOT_STAT.STAGE 0 = 0 ∧ fwNext s = some slot.val)
      (fun s =>
        if fwFail s (fwSlot s slot.val) readOk = 0 then
          bootFirst (faultC 0x103) (wrs s [(GLB_BOOT_STAT.FW_SLOT, 0, slot.val),
            (GLB_BOOT_STAT.FW_SVN, 0, fwSvn (fwSlot s slot.val)), (HID.FW_SVN_FULL, 0, fwSvn (fwSlot s slot.val)),
            (GLB_BOOT_STAT.STAGE, 0, 1), (HID.BOOT_STEP, 0, 4)])
        else fwAbandon s slot.val (fwFail s (fwSlot s slot.val) readOk))) ∧
    (∀ okA okB, Acts (.ceilStoreOpen okA okB) (fun s => rd s HID.BOOT_STEP 0 = 4 ∧ booting s = true ∧ ceilPick s okA okB = none)
      (fun s => wrs (faultK 0xCFF (wr s GLB_BOOT_STAT.CEIL_BAD 0 1))
        [(HID.BOOT_STEP, 0, 6), (HIF_STATUS.LINK_UP, 0, rd s HID.PERST_HIGH 0)])) ∧
    (∀ okA okB tab cnt, Acts (.ceilStoreOpen okA okB)
      (fun s => rd s HID.BOOT_STEP 0 = 4 ∧ booting s = true ∧ ceilPick s okA okB = some (tab, cnt) ∧ cnt ≠ ceilUsed s + 1)
      (fun s => wrs (forEach (List.range 64) (loadCeil (wr s GLB_BOOT_STAT.CEIL_BAD 0 0) tab) (fun k w => siteClear w k))
        [(HID.BOOT_STEP, 0, 6), (HIF_STATUS.LINK_UP, 0, rd s HID.PERST_HIGH 0)])) ∧
    (∀ pg refs, Acts (.corePllLock pg refs)
      (fun s => rd s HID.BOOT_STEP 0 = 6 ∧ rd s GLB_BOOT_STAT.STAGE 0 < 8 ∧ flag s HID.REF_CORE_LOST 0 = false)
      (fun s =>
        let u := forEach (List.range 64) (wrs s [(GLB_PIN_STAT.PG, 0, pg.toNat), (HID.REF_LINE_LOST, 0, 255 - refs.toNat),
          (HID.BOOT_STEP, 0, 7)]) (fun sh v => if bitOf (rd v HID.REF_LINE_LOST 0) (sh / 8)
            then faultK (0x480 + sh) (wr v SHF_SYN_STAT.STATE sh 1) else synthStart v sh)
        if pgLow u = [] then bringUpFill u else wr u HID.PG_WAITING 0 1)) ∧
    Acts .sramFillDone (fun s => rd s HID.BOOT_STEP 0 = 8 ∧ booting s = true) (fun s => wr s HID.BOOT_STEP 0 9) ∧
    (∀ ok, Acts (.dramTrainDone ok) (fun s => rd s HID.BOOT_STEP 0 = 9 ∧ booting s = true)
      (fun s => forEach (List.range 10) (wr s HID.BOOT_STEP 0 10) (fun n u =>
        if bitOf ok.toNat n || rd u MEM_CTRL_STAT.STATE n == 2 then u
        else faultK (0x900 + n) (wr u MEM_CTRL_STAT.STATE n 2)))) ∧
    Acts .dramFillDone (fun s => rd s HID.BOOT_STEP 0 = 10 ∧ booting s = true ∧ s.running = [])
      (fun s => wrN (forEach (List.range 10) (wrs s [(HID.BOOT_STEP, 0, 11), (GLB_BOOT_STAT.FILL_DONE, 0, 1),
        (GLB_BOOT_STAT.STAGE, 0, 3), (TBL_STATUS.FILL, 0, 1)]) (fun n v =>
          if rd v MEM_CTRL_STAT.STATE n == 0 then wr v MEM_CTRL_STAT.STATE n 1 else v)) HID.SQ_SAFE 0 64)) ∧
  (
    Acts .warmReset (fun s => flag s HID.POR_DONE 0 = true) (fun s => wr (countWarm (warmCore s)) HID.RESET_HIGH 0 0) ∧
    Acts .perstRelease (fun s => 6 ≤ rd s HID.BOOT_STEP 0)
      (fun s => wrs s [(HID.PERST_HIGH, 0, 1), (HIF_STATUS.LINK_UP, 0, 1)]) ∧
    Acts .perstRelease (fun s => rd s HID.BOOT_STEP 0 < 6 ∧ rd s GLB_BOOT_STAT.STAGE 0 < 8) (fun s => wr s HID.PERST_HIGH 0 1) ∧
    (∀ q, Acts (.pcieConfigRequest q) (fun s => rd s HID.BOOT_STEP 0 < 6 ∧ rd s GLB_BOOT_STAT.STAGE 0 < 8)
      (fun s => { s with out := .cfg true 0 :: s.out })) ∧
    (∀ x, Acts (.pcieConfigRequest (.read x)) (fun s => 6 ≤ rd s HID.BOOT_STEP 0)
      (fun s => { s with out := .cfg false (cfgRead s x) :: s.out })) ∧
    (∀ x v, Acts (.pcieConfigRequest (.write x v)) (fun s => 6 ≤ rd s HID.BOOT_STEP 0)
      (fun s => { cfgWrite s x v.toNat with out := .cfg false 0 :: (cfgWrite s x v.toNat).out })) ∧
    (∀ s, cfgRead s .ids = 0x0512 * 2 ^ 16 + 0xB17C ∧ cfgRead s .subsystem = 0x0512 * 2 ^ 16 + 0xB17C ∧
      cfgRead s .revClass = 0x028000 * 2 ^ 8 + 0xA1 ∧ cfgRead s .bar4 = 0 ∧ cfgRead s .rom = 0) ∧
    Acts (.pgFall 7) (fun s => flag s HID.POR_DONE 0 = true)
      (fun s => wrs s [(GLB_PIN_STAT.PG, 0, clrBit (rd s GLB_PIN_STAT.PG 0) 7), (HID.POR_DONE, 0, 0), (HID.RESET_HIGH, 0, 0),
        (HIF_STATUS.LINK_UP, 0, 0)]) ∧
    (∀ p : Fin 10, p.val ≠ 0 → p.val ≠ 7 → p.val ≠ 8 → p.val ≠ 9 →
      Acts (.pgFall p) (fun s => bitOf (rd s GLB_PIN_STAT.PG 0) p.val = true)
      (fun s => faultK (0xB00 + p.val) (forEach (pgFeeds p.val)
        (wr s GLB_PIN_STAT.PG 0 (clrBit (rd s GLB_PIN_STAT.PG 0) p.val))
        (fun d t => if domSt t d == 0 then holdDom raise t d 1 else t)))) ∧
    (∀ pg, Acts (.pgWaitTimeout pg) (fun s => flag s HID.PG_WAITING 0 = true ∧ booting s = true ∧ s.running = [])
      (fun s => let u := bringUpFill ((pgLow (wr s GLB_PIN_STAT.PG 0 pg.toNat)).foldl pgHold (wr s GLB_PIN_STAT.PG 0 pg.toNat))
        u.running.foldl pgRecheck u)) ∧
    Acts .corePllTimeout (fun s => rd s HID.BOOT_STEP 0 = 6 ∧ rd s GLB_BOOT_STAT.STAGE 0 < 8 ∧ rd s HID.PLL_TRIES 0 < 2)
      (fun s => wr s HID.PLL_TRIES 0 (rd s HID.PLL_TRIES 0 + 1)) ∧
    Acts .refclkCoreLoss (fun s => flag s HID.RESET_HIGH 0 = true ∧ rd s GLB_BOOT_STAT.STAGE 0 < 2)
      (fun s => wrs (faultF 0x0F0 (wr s HID.REF_CORE_LOST 0 1)) [(GLB_BOOT_STAT.STAGE, 0, 9),
        (HIF_STATUS.LINK_UP, 0, rd (faultF 0x0F0 (wr s HID.REF_CORE_LOST 0 1)) HID.PERST_HIGH 0)]))

/-- SQ_DOORBELL, CQ_DOORBELL, RING_GEOMETRY_WRITE, HIF_RG_IRQ_WRITE (R131, R132, R133, R500): on a ring that is set up,
an index below the queue's size moves the ring's tail and fetches its entries, while fewer than 4 096 commands are
outstanding, or consumes its completions, after which fetching goes on; geometry is written only while the ring is
unbound, base addresses without their low 12 bits. MMIO_WRITE_DROP, MMIO_ALL_ONES_READ, COUNTER_HALF_READ,
TIM_NOW_READ (R130, R131, R109, R129, R14, R156): a plain write outside the mailbox is dropped, counted and raises a
corrected fault; inside it the request area takes the bytes; one to the MSI-X table writes its entry. A plain read
of a sleeping block answers all-ones and is marked; any other answers its data. A 32-bit read of a wide counter's
low half latches its high half, and the read of a latched half uses the latch up; an 8-byte read of TIM_NOW latches
its upper bytes. A BAR2 access of a wrong width or alignment is an Unsupported Request, for a write by the model's
reading (log entry 113). -/
def Obligations.DoorbellsAndPlainAccessesAct : Prop :=
  (
    (∀ (r : Ring) idx es, Acts (.sqDoorbell r idx es)
      (fun s => (ringOf s r.val).size ≠ 0 ∧ idx.toNat < 2 ^ (ringOf s r.val).sqLog2)
      (fun s => fetchMore (setRing s r.val { ringOf s r.val with
        sqTail := idx.toNat, unread := es.take ((idx.toNat + 2 ^ (ringOf s r.val).sqLog2 - (ringOf s r.val).sqHead)
          % 2 ^ (ringOf s r.val).sqLog2) }) r.val)) ∧
    (∀ s r n, 4096 ≤ outstanding s r → fetchAll r n s = s) ∧
    (∀ s r c l n, (ringOf s r).unread = c :: l → fetches s r = true → outstanding s r < 4096 →
      fetchAll r (n + 1) s = fetchAll r n (fetchOne r (setRing (idleUse s) r { ringOf (idleUse s) r with unread := l }) c)) ∧
    (∀ (r : Ring) idx es, Acts (.sqDoorbell r idx es)
      (fun s => (ringOf s r.val).size = 0 ∨ 2 ^ (ringOf s r.val).sqLog2 ≤ idx.toNat)
      (fun s => dropWrite 1 (r.val * 0x10000) s)) ∧
    (∀ (r : Ring) idx, Acts (.cqDoorbell r idx)
      (fun s => (ringOf s r.val).size ≠ 0 ∧ idx.toNat < 2 ^ (ringOf s r.val).cqLog2 ∧ (ringOf s r.val).cqWait = [])
      (fun s => let q := ringOf s r.val
        let n := (idx.toNat + 2 ^ q.cqLog2 - q.cqHead) % 2 ^ q.cqLog2
        fetchMore (settleRing (setRing s r.val { q with cqHead := idx.toNat, cq := q.cq.drop n }) r.val) r.val)) ∧
    (∀ (r : Ring) v, Acts (.ringGeometryWrite r .sqBase v) (fun s => (ringOf s r.val).bound = none)
      (fun s => setRing s r.val { ringOf s r.val with sqBase := v.toNat / 4096 * 4096 })) ∧
    (∀ (r : Ring) v, Acts (.ringGeometryWrite r .cqBase v) (fun s => (ringOf s r.val).bound = none)
      (fun s => setRing s r.val { ringOf s r.val with cqBase := v.toNat / 4096 * 4096 })) ∧
    (∀ (r : Ring) v, Acts (.ringGeometryWrite r .size v)
      (fun s => (ringOf s r.val).bound = none ∧ sizeBad (v.toNat % 2 ^ 32) = false)
      (fun s => setRing s r.val { ringOf s r.val with size := sizeBits v.toNat })) ∧
    (∀ (r : Ring) reg v, Acts (.ringGeometryWrite r reg v) (fun s => (ringOf s r.val).bound ≠ none)
      (fun s => dropWrite 1 (r.val * 0x10000 + (match reg with | .sqBase => 0x100 | .cqBase => 0x108 | .size => 0x110)) s)) ∧
    (∀ (r : Ring) v, Acts (.hifRgIrqWrite r v) (fun _ => True)
      (fun s => setRing s r.val { ringOf s r.val with irq := v.toNat % 2 ^ 24 }))) ∧
  (
    (∀ (off : BitVec 28) w v, off.toNat < 0x100000 ∨ 0x101000 ≤ off.toNat → Acts (.mmioWriteDrop false off w v) (fun _ => True)
      (fun s => faultC 0x300 (wrs (bump (perf s { perfE 0x04 1 with addr := off.toNat }) HIF_MMIO_DROP.COUNT 0)
        [(HIF_MMIO_DROP.BAR, 0, 0), (HIF_MMIO_DROP.OFFSET, 0, off.toNat), (HIF_STATUS.MMIO_DROP, 0, 1)]))) ∧
    (∀ (off : BitVec 28) w v, 0x100000 ≤ off.toNat → off.toNat < 0x100200 →
      Acts (.mmioWriteDrop false off w v) (fun _ => True)
        (fun s => let q := (s.vstReq ++ leBytes 512 0).take 512
          { s with vstReq := (q.take (off.toNat - 0x100000) ++ leBytes w (v.toNat % 2 ^ (8 * w)) ++
            q.drop (off.toNat - 0x100000 + w)).take 512 })) ∧
    (∀ (off : BitVec 28) w v, accessOk (off.toNat % 2 ^ 24) w = true → bar2Command (off.toNat % 2 ^ 24) = false →
      (off.toNat % 2 ^ 24 / 0x10000 ≠ 0 ∨ off.toNat % 2 ^ 24 < 0x8000) → Acts (.mmioWriteDrop true off w v) (fun _ => True)
        (fun s => dropWrite 1 (off.toNat % 2 ^ 24) s)) ∧
    (∀ (off : BitVec 28) v, off.toNat % 2 ^ 24 % 4 = 0 → 0x8000 ≤ off.toNat % 2 ^ 24 → off.toNat % 2 ^ 24 < 0x10000 →
      Acts (.mmioWriteDrop true off 4 v) (fun _ => True)
        (fun s => msixPut s ((off.toNat % 2 ^ 24 - 0x8000) / 16) (off.toNat % 2 ^ 24 / 4 % 4) (v.toNat % 2 ^ 32))) ∧
    (∀ (off : BitVec 28) w v, accessOk (off.toNat % 2 ^ 24) w = false → Acts (.mmioWriteDrop true off w v) (fun _ => True)
      (fun s => { s with out := .unsupported true (off.toNat % 2 ^ 24) :: s.out })) ∧
    (∀ (off : BitVec 28) w uncorr, accessOk off.toNat w = true →
      Acts (.mmioAllOnesRead false off w uncorr) (fun s => anyAsleep s off.toNat w = true)
        (fun s => emit (wrs (perf s { perfE 0x03 1 with addr := off.toNat })
          [(HIF_STATUS.ONES_READ, 0, 1), (HIF_ONES_ADDR.OFFSET, 0, off.toNat), (HIF_ONES_ADDR.KIND, 0, 0)])
          (.mmio false off.toNat w (2 ^ (8 * w) - 1)))) ∧
    (∀ (off : BitVec 28) w, accessOk off.toNat w = true →
      Acts (.mmioAllOnesRead false off w false) (fun s => anyAsleep s off.toNat w = false)
        (fun s => let x := readBar0 (perf s { perfE 0x03 1 with addr := off.toNat }) off.toNat w
          emit x.1 (.mmio false off.toNat w x.2))) ∧
    (∀ (off : BitVec 28) uncorr, off.toNat % 2 ^ 24 % 4 = 0 → Acts (.mmioAllOnesRead true off 4 uncorr) (fun _ => True)
      (fun s => { s with out := .mmio true (off.toNat % 2 ^ 24) 4 (readBar2 s (off.toNat % 2 ^ 24)) :: s.out })) ∧
    (∀ (off : BitVec 28) w uncorr, accessOk off.toNat w = false →
      Acts (.mmioAllOnesRead false off w uncorr) (fun _ => True)
        (fun s => { s with out := .unsupported false off.toNat :: s.out })) ∧
    (∀ off : BitVec 28, off.toNat % 4 = 0 → Acts (.counterHalfRead off) (fun s => readAsleep s off.toNat = false)
      (fun s => let x := readBar0 (perf s { perfE 0x03 1 with addr := off.toNat }) off.toNat 4
        emit x.1 (.mmio false off.toNat 4 x.2))) ∧
    (∀ s r i q off, r.base ≠ reg_TIM_NOW.base → counterLow r q = true → flag (refresh s r i) HID.CNT_LATCHED off = false →
      look s r i q off 4 = (wrs (refresh s r i) [(HID.CNT_LATCH, off + 4, readPart (refresh s r i) r i (q + 4) 4),
        (HID.CNT_LATCHED, off + 4, 1)], readPart (refresh s r i) r i q 4)) ∧
    (∀ s r i q off, r.base ≠ reg_TIM_NOW.base → flag (refresh s r i) HID.CNT_LATCHED off = true →
      look s r i q off 4 = (wr (refresh s r i) HID.CNT_LATCHED off 0, rd (refresh s r i) HID.CNT_LATCH off)) ∧
    Acts .timNowRead (fun s => anyAsleep s reg_TIM_NOW.base 8 = false)
      (fun s => let u := perf s { perfE 0x03 1 with addr := reg_TIM_NOW.base }
        emit (wrs u [(HID.TIM_LATCH, 0, timeNowField (localTime u) / 2 ^ 64), (HID.TIM_LATCHED, 0, 1)])
          (.mmio false reg_TIM_NOW.base 8 (readPart u reg_TIM_NOW 0 0 8))))

/-- RING_IRQ_TIMEOUT, EVQ_IRQ_TIMEOUT, PUNT_IRQ_TIMEOUT, RING_FETCH_ERROR, RING_CQ_WRITE_ERROR (R146, R147, R149, R151):
an interrupt that was held back is sent and its batch begins anew; a masked one sets its pending bit; a ring whose
fetch or completion write fails stops, the former command ABORTED, with a corrected fault. EVQ_SETUP, EVQ_CLOSE,
EVQ_HEAD_DOORBELL, PUNT_SETUP, PUNT_RX_DOORBELL, PUNT_TX_DOORBELL, PUNT_FROM_HOST (R149, R150, R151, R500): queues
are set up empty and closed; a doorbell with an index inside its ring moves the host's index; a descriptor of 64
bytes or more with MODE = 1 enters its egress queue with its frame check sequence, and DONE is written back (which
byte is the model's choice, log entry 98); one whose transfer fails is written back with ERR and raises a fault.
HOST_RESET, D3HOT_ENTRY, PCIE_REFCLK_LOSS, REFCLK_LINE_LOSS (R152, R98, R50): a host reset resets the host's side
and is counted with its cause, MSI-X state included; D3hot only stops fetching. That a lost PCIe reference resets
nothing is the model's reading (log entry 19). -/
def Obligations.QueuesAndHostEventsAct : Prop :=
  (
    (∀ r : Ring, Acts (.ringIrqTimeout r) (fun s => (ringOf s r.val).irqEn = true ∧ (ringOf s r.val).batch ≠ 0)
      (fun s => sendIrq (setRing s r.val { ringOf s r.val with batch := 0 }) (ringOf s r.val).vector)) ∧
    (∀ s v, flag s HID.MSIX_EN 0 = true → flag s HID.D3HOT 0 = false →
      (flag s HID.MSIX_FMASK 0 = false → flag s HID.MSIX_MASK v = false →
        sendIrq s v = { s with out := .irq v (rd s HID.MSIX_ADDR v) (rd s HID.MSIX_DATA v) :: s.out }) ∧
      (flag s HID.MSIX_FMASK 0 = true ∨ flag s HID.MSIX_MASK v = true → sendIrq s v = wr s HID.MSIX_PEND v 1)) ∧
    (∀ (q : Fin 16) (e : EvQ), Acts (.evqIrqTimeout q) (fun s => tabGet s.evqs (q.val, 0) = some e)
      (fun s => let u := { s with evqs := tabPut s.evqs (q.val, 0) { e with held := e.owed, owed := false } }
        if e.owed then sendIrq u e.vector else u)) ∧
    (∀ (p : Fin 64) (d : Bool) (q : PuntRing), q.batch ≠ 0 →
      Acts (.puntIrqTimeout p d) (fun s => tabGet s.punts (p.val, b2n d) = some q)
      (fun s => sendIrq { s with punts := tabPut s.punts (p.val, b2n d) { q with batch := 0 } } q.vector)) ∧
    (∀ (r : Ring) (tag : BitVec 16) (h : Nat), Acts (.ringFetchError r tag)
      (fun s => (ringOf s r.val).bound = some h ∧ (ringOf s r.val).error = false ∧ (ringOf s r.val).draining = false)
      (fun s => faultC 0x301 (finish (setRing s r.val { ringOf s r.val with error := true, unread := [] }) r.val
        (unaccepted { (default : Cmd) with tag := tag.toNat } h 0 0) (rStat .aborted)))) ∧
    (∀ (r : Ring) (h : Nat), Acts (.ringCqWriteError r)
      (fun s => (ringOf s r.val).bound = some h ∧ (ringOf s r.val).error = false)
      (fun s => faultC 0x302 (setRing s r.val { ringOf s r.val with error := true })))) ∧
  (
    Completes .evqSetup opEvqSetup (fun _ _ => True)
      (fun s a => wr { s with evqs := tabPut s.evqs (opdB a 0x10, 0) (evqOf a) } HIF_EVQ_STAT.ACTIVE (opdB a 0x10) 1)
      (fun _ _ => rOk) ∧
    Completes .evqClose opEvqClose (fun _ _ => True)
      (fun s a => wr { s with evqs := tabDel s.evqs (opdB a 0x10, 0) } HIF_EVQ_STAT.ACTIVE (opdB a 0x10) 0) (fun _ _ => rOk) ∧
    (∀ (q : Fin 16) (idx : BitVec 32) (e : EvQ), e.lost = 0 → idx.toNat < 2 ^ e.log2 →
      Acts (.evqHeadDoorbell q idx) (fun s => tabGet s.evqs (q.val, 0) = some e)
      (fun s => let n := (idx.toNat + 2 ^ e.log2 - e.head) % 2 ^ e.log2
        { s with evqs := tabPut s.evqs (q.val, 0) { e with head := idx.toNat, recs := e.recs.drop n } })) ∧
    Completes .puntSetup opPuntSetup (fun _ a => opdBit a 0x11 1 = true)
      (fun s a =>
        let q : PuntRing := ⟨true, opdB a 0x12, opd a 0x14 2, opd a 0x16 2, opd a 0x18 8, opdB a 0x20, opd a 0x22 2, 0, 0, 0⟩
        { s with punts := tabPut s.punts (opdB a 0x10, b2n (opdBit a 0x11 0)) q }) (fun _ _ => rOk) ∧
    (∀ (p : Fin 64) (idx : BitVec 32) (q : PuntRing), idx.toNat < 2 ^ q.log2 →
      Acts (.puntRxDoorbell p idx) (fun s => tabGet s.punts (p.val, 0) = some q)
      (fun s => { s with punts := tabPut s.punts (p.val, 0) { q with tail := (idx.toNat + 1) % 2 ^ q.log2 } })) ∧
    (∀ (p : Fin 64) (idx : BitVec 32) (q : PuntRing), idx.toNat < 2 ^ q.log2 →
      Acts (.puntTxDoorbell p idx) (fun s => tabGet s.punts (p.val, 1) = some q)
      (fun s => { s with punts := tabPut s.punts (p.val, 1) { q with tail := idx.toNat } })) ∧
    (∀ (p : Fin 64) (d : PuntDesc) (q : PuntRing), q.en = true → q.head ≠ q.tail → d.mode = true → 60 ≤ d.len → d.len ≤ 16383 →
      Acts (.puntFromHost p d true) (fun s => tabGet s.punts (p.val, 1) = some q ∧ flag s HID.D3HOT 0 = false)
      (fun s => hostToQueue (perf (perf (stat (puntAdvance s (p.val, 1) q 0x0A [3]) HIF_PUNT_STAT.FROM_HOST p.val 1)
        (perfE 0x07 1)) (perfE 0x05 (d.len + 16))) (d.target % 1048576) (d.len + 4)
        (d.frame.take d.len ++ leBytes 4 (crc32 (d.frame.take d.len))))) ∧
    (∀ (p : Fin 64) (d : PuntDesc) (q : PuntRing), q.en = true → q.head ≠ q.tail →
      Acts (.puntFromHost p d false) (fun s => tabGet s.punts (p.val, 1) = some q ∧ flag s HID.D3HOT 0 = false)
      (fun s => faultC 0x303 (puntAdvance s (p.val, 1) q 0x0A [if d.mode then 11 else 9])))) ∧
  (
    Acts (.hostReset .flr) (fun _ => True) (fun s => countHost (hostReset s) .flr) ∧
    Acts (.hostReset .perst) (fun _ => True)
      (fun s => wrs (countHost (hostReset s) .perst) [(HID.PERST_HIGH, 0, 0), (HIF_STATUS.LINK_UP, 0, 0)]) ∧
    Acts (.hostReset .d3hotExit) (fun s => flag s HID.D3HOT 0 = true) (fun s => countHost (hostReset s) .d3hotExit) ∧
    (∀ s, rd s GLB_HOST_CNT.COUNT 0 < 2 ^ 32 - 2 →
      countHost s .flr = wr (wr s GLB_HOST_CNT.COUNT 0 (rd s GLB_HOST_CNT.COUNT 0 + 1)) GLB_RESET_CAUSE.LAST 0 3 ∧
      countHost s .perst = wr (wr s GLB_HOST_CNT.COUNT 0 (rd s GLB_HOST_CNT.COUNT 0 + 1)) GLB_RESET_CAUSE.LAST 0 2) ∧
    (∀ s f v, f ∈ [HID.MSIX_ADDR, HID.MSIX_DATA, HID.MSIX_MASK, HID.MSIX_PEND, HID.MSIX_EN, HID.MSIX_FMASK] →
      rd (hostReset s) f v = resetOf f v) ∧
    Acts .d3hotEntry (fun _ => True) (fun s => wr s HID.D3HOT 0 1) ∧
    Acts .pcieRefclkLoss (fun _ => True) (fun s => wr s HIF_STATUS.LINK_UP 0 0) ∧
    (∀ j : Fin 8, Acts (.refclkLineLoss j) (fun _ => True)
      (fun s => forEach ((List.range 8).map (fun i => 8 * j.val + i))
        (wr s HID.REF_LINE_LOST 0 (setBit (rd s HID.REF_LINE_LOST 0) j.val)) (fun sh t => synthLose t sh false))))

/-- NOP, FENCE, FENCE_RELEASE, BARRIER, BARRIER_TIMEOUT, OPCODE_UNASSIGNED, REG_WRITE, REG_READ (R145, R140, R141, R113,
R142, R143): a FENCE on a ring with nothing running completes at once with the count of non-OK completions, which
starts anew; a BARRIER of a set that names its ring waits; a register command answers with the register. What a
Maker-only opcode does the spec does not describe: its status and result are free values (log entry 57). -/
def Obligations.RingControlOpcodesComplete : Prop :=
  Completes .nop opNop (fun _ _ => True) (fun s _ => s) (fun _ _ => rOk) ∧
  (∀ (r : Ring) s a, Runs opFence s r a → (∀ x ∈ s.running, x.ring ≠ r.val) →
    exec (.fence r) s = .next (
      let t := finish (popFront s r.val) r.val a ⟨.ok, (ringOf (popFront s r.val) r.val).nonOk, none, false⟩
      setRing t r.val { ringOf t r.val with nonOk := 0 })) ∧
  (∀ (r : Ring) (x : Run), waitsOn 3 [] x = true → x.ring = r.val → Acts (.fenceRelease r)
    (fun s => s.running.filter (fun y => y.ring == r.val) = [x] ∧ (ringOf s r.val).resumed = [])
    (fun s => let t := finish (dropRun s r.val x.acc.cmd.tag) r.val x.acc ⟨.ok, (ringOf s r.val).nonOk, none, false⟩
      setRing t r.val { ringOf t r.val with nonOk := 0 })) ∧
  (∀ (r : Ring) s a, Runs opBarrier s r a → bitOf (leVal a.cmd.payload) r.val = true →
    exec (.barrier r) s = .next (settleBarriers (faultC 0x103) { popFront s r.val with
      running := s.running ++ [⟨r.val, a, .waiting [a.handle, a.cmd.aux, leVal a.cmd.payload]⟩] })) ∧
  (∀ (id : BitVec 16) (h : Fin 64), Acts (.barrierTimeout id h) (fun s => s.running.any (waitsOn 4 [h.val, id.toNat]) = true)
    (fun s => complete (waitsOn 4 [h.val, id.toNat]) ⟨.timeout, 0, none, false⟩ s)) ∧
  (∀ (r : Ring) (a : Acc) l, assigned a.cmd.opcode = false → Acts (.opcodeUnassigned r)
    (fun s => (ringOf s r.val).accepted = a :: l ∧ (ringOf s r.val).resumed = [] ∧ ringHeld s r.val = false ∧
      (ringOf s r.val).error = false ∧ makerOnly s a.role a.cmd.opcode = false)
    (fun s => finish (popFront s r.val) r.val a ⟨.denied, 0, none, false⟩)) ∧
  (∀ (r : Ring) (a : Acc) l, assigned a.cmd.opcode = false → Acts (.opcodeUnassigned r)
    (fun s => (ringOf s r.val).accepted = a :: l ∧ (ringOf s r.val).resumed = [] ∧ ringHeld s r.val = false ∧
      (ringOf s r.val).error = false ∧ makerOnly s a.role a.cmd.opcode = true)
    (fun s => finish (took (took (popFront s r.val))) r.val a
      ⟨freeStatus (freeNat s), Config.freeValue (s.freeCnt + 1) % 65536, some (freeNat s % 2 ^ 64), false⟩)) ∧
  Completes .regWrite opRegWrite (fun _ _ => True) (fun s a => (rwLook (regPut s a) a).1)
    (fun s a => ⟨.ok, 0, some (rwLook (regPut s a) a).2, false⟩) ∧
  Completes (fun r => .regRead r false) (opRegRead false) (fun _ _ => True)
    (fun s a => (rwLook s a).1) (fun s a => ⟨.ok, 0, some (rwLook s a).2, false⟩) ∧
  Completes (fun r => .regRead r true) (opRegRead true) (fun _ _ => True)
    (fun s a => faultK (0x950 + storeDie (regOff a)) (bump s MEM_SRAM_STAT.UNCORR (storeDie (regOff a))))
    (fun _ _ => ⟨.uncorr, 0, none, false⟩)

/-- VST_OPEN, VST_PROVE, VST_ENROL, VST_ABANDON, VST_TIMEOUT (R107, R109, R110, R111): an OPEN that meets no status of
R110 is answered by a challenge with a fresh nonce and held; a right proof opens the session, a wrong one is counted
and ends the exchange with BADPROOF (5); enrolment moves SEALED to INSTALLED, fills Installer slot 0 and burns the
enrolment key. LOCKOUT_EXPIRE, SESSION_IDLE_TIMEOUT, RETURN_WINDOW_EXPIRE, CRYPTO_SELFTEST_FAIL, ZEROIZE_PIN (R111,
R114, R108, R124, R59, R115). -/
def Obligations.VestibuleAndTrustEventsAct : Prop :=
  (
    (∀ msg k salt iter, Acts (.vstOpen msg)
      (fun s => vstUp s = true ∧ openStatus s msg = 0 ∧
        credOf s (leAt msg 1 1) (leAt msg 2 1) (leAt msg 3 1) = some (k, salt, iter))
      (fun s =>
        let h := (freeHandle s).getD 0
        let x : VstX := ⟨h, leAt msg 1 1, leAt msg 2 1, leAt msg 3 1, sliceOf msg 8 32, Config.random s.freeCnt, leAt msg 0x28 32⟩
        let u := { s with vstReq := msg, vst := some x, freeCnt := s.freeCnt + 1 }
        challenge (wrs u [(HID.VST_AT, 0, rd s HID.TICKS 0)]) 0 h iter
          (leBytes 32 (Config.random s.freeCnt).toNat) salt 0)) ∧
    (∀ msg x k salt iter, x.method ≠ 2 → proveBad msg x = false → Acts (.vstProve msg)
      (fun s => vstUp s = true ∧ s.vst = some x ∧ credOf s x.role x.cred x.method = some (k, salt, iter) ∧
        ringsFit s x = true)
      (fun s => if sliceOf msg 8 48 = vstProof k 72 x then openSession { s with vstReq := msg } x k
        else accept (badProof (endExchange { s with vstReq := msg }) x.role x.cred) 5 x.handle [])) ∧
    (∀ msg x k, x.method = 2 → proveBad msg x = false → Acts (.vstEnrol msg)
      (fun s => vstUp s = true ∧ s.vst = some x ∧ s.enrolKey = some k ∧ ringsFit s x = true)
      (fun s =>
        let u := { s with vstReq := msg }
        match (if sliceOf msg 8 48 == vstProof k 72 x then Config.gcmOpen (vstKeys k x).2
            ((leBytes 32 x.nonceD.toNat).take 12) [] (sliceOf msg 0x60 48) (sliceOf msg 0x90 16) else none) with
        | none => accept (badProof (endExchange u) 2 x.cred) 5 x.handle []
        | some key =>
          let pw := leAt msg 0x38 1 == 1
          let cred : InstCred := ⟨pw, if pw then leAt msg 0x3C 4 else 0,
            if pw then BitVec.ofNat 256 (leAt msg 0x40 32) else 0, BitVec.ofNat 384 (leVal key)⟩
          let v := closeAll u
          let w := keyStep (wr { v with instCreds := tabPut v.instCreds (0, 0) cred, enrolKey := none }
            SEC_STATUS.LIFECYCLE 0 2)
          openSession (audit w 8 2 0 x.handle 0 0 (bytesOf [1, 2])) x k)) ∧
    (∀ x, Acts .vstAbandon (fun s => vstUp s = true ∧ s.vst = some x)
      (fun s => wr { s with vst := none } SEC_VST_STAT.STATE 0 0)) ∧
    Acts .vstAbandon (fun s => vstUp s = true ∧ s.vst = none) (fun s => s) ∧
    (∀ x, Acts .vstTimeout (fun s => s.vst = some x) (fun s => accept { s with vst := none } 6 x.handle []))) ∧
  (
    (∀ role : Fin 3, Acts (.lockoutExpire role) (fun s => rd s SEC_LOCKOUT.REMAIN_S role.val ≠ 0)
      (fun s => wrs s [(SEC_LOCKOUT.REMAIN_S, role.val, 0), (SEC_LOCKOUT.FAILS, role.val, 0)])) ∧
    (∀ (h : Fin 64) x, Acts (.sessionIdleTimeout h)
      (fun s => tabGet s.sessions (h.val, 0) = some x ∧ rd s SEC_POLICY.IDLE_S 0 * 1000 ≤ msSince s x.lastTick)
      (fun s => closeSession s h.val)) ∧
    Acts .returnWindowExpire (fun _ => True) (fun s => wr s SEC_STATUS.RETURN_ARMED 0 0) ∧
    Acts .cryptoSelftestFail (fun _ => True)
      (fun s => faultK 0x1F5 (closeAll (dropExchange (audit (wr s SEC_STATUS.CRYPTO_ERR 0 1) 0xF 0 0 0xFF 0 0 [])))) ∧
    ∀ b, Acts (.zeroizePin b) (fun _ => True)
      (fun s => zeroise b 0 0 0xFF (wrs s [(GLB_PIN_STAT.ZEROIZE, 0, 1), (GLB_PIN_STAT.ZEROIZE_SEEN, 0, 1)])))

/-- ZEROIZE_PIN in INSTALLED (R115, R106): whatever the state, zeroisation leaves no key in the key store or the key
fuses and no session. -/
def Obligations.ZeroisationLeavesNoKey : Prop :=
  ∀ b role cred handle s, let t := zeroise b role cred handle s
    t.opKeys = [] ∧ t.instCreds = [] ∧ t.caks = [] ∧ t.siVerify = [] ∧ t.siDecrypt = [] ∧ t.makerKey = none ∧
    t.enrolKey = none ∧ t.attestKey = none ∧ t.sessions = []

/-- SESSION_INFO, SESSION_CLOSE, RING_BIND, OPKEY_SET, OPKEY_REVOKE, INSTCRED_SET, INSTCRED_REVOKE (R103, R104, R105,
R114, R116): session and credential commands. A new or revoked credential uses one step of the key-store counter, is
audited, and closes every session opened with it once the completion is written. LC_TRANSITION, RETURN_APPROVE,
ZEROIZE, AUDIT_EXPORT, ATTEST (R104, R106, R108, R115, R120, R121): a transition from FACTORY seals the device and
closes every session after its completion; from INSTALLED it zeroises; exported entries and the signed report go to
host memory. -/
def Obligations.TrustOpcodesComplete : Prop :=
  (
    Completes .sessionInfo opSessionInfo (fun _ a => a.cmd.ptr = false) (fun s _ => s)
      (fun s a => ⟨.ok, 0, some (infoData s a), false⟩) ∧
    CompletesThen .sessionClose opSessionClose (fun _ a => opdBit a 0x10 0 = false) (fun s _ => s) (fun _ _ => rOk)
      (fun _ a t => closeSession t a.handle) ∧
    Completes .ringBind opRingBind (fun _ a => a.cmd.aux = 0)
      (fun s a => (ringBits (leVal a.cmd.payload)).foldl (bindRing a.handle) s) (fun _ _ => rOk) ∧
    (∀ (r : Ring) s a, Runs opOpkeySet s r a → exec (.opkeySet r) s = .next (
      let s1 := popFront s r.val
      match openSecret r.val a (sliceOf a.cmd.buf 0 48) (sliceOf a.cmd.buf 48 16) with
      | none => finish s1 r.val a ⟨.invalid, 0xFFFF, none, false⟩
      | some key =>
        let k : BitVec 384 := BitVec.ofNat 384 (leVal key)
        closeCred (finish (audit (keyStep { s1 with opKeys := tabPut s1.opKeys (opdB a 0x1C, 0) k }) 7 a.role a.cred
          a.handle 0x14 0 (bytesOf [opdB a 0x1C])) r.val a rOk) 1 (opdB a 0x1C))) ∧
    CompletesThen .opkeyRevoke opOpkeyRevoke (fun s a => (tabGet s.opKeys (opdB a 0x10, 0)).isSome = true)
      (fun s a => audit (keyStep { s with opKeys := tabDel s.opKeys (opdB a 0x10, 0) }) 7 a.role a.cred a.handle 0x15 0
        (bytesOf [opdB a 0x10])) (fun _ _ => rOk) (fun _ a t => closeCred t 1 (opdB a 0x10)) ∧
    (∀ (r : Ring) s a, Runs opInstcredSet s r a → exec (.instcredSet r) s = .next (
      let s1 := popFront s r.val
      match openSecret r.val a (sliceOf a.cmd.buf 0x28 48) (sliceOf a.cmd.buf 0x58 16) with
      | none => finish s1 r.val a ⟨.invalid, 0xFFFF, none, false⟩
      | some key =>
        let c : InstCred := ⟨opdBuf a 0 1 == 1, opdBuf a 4 4, BitVec.ofNat 256 (opdBuf a 8 32), BitVec.ofNat 384 (leVal key)⟩
        closeCred (finish (audit (keyStep { s1 with instCreds := tabPut s1.instCreds (opdB a 0x1C, 0) c }) 7 a.role a.cred
          a.handle 0x16 0 (bytesOf [opdB a 0x1C])) r.val a rOk) 2 (opdB a 0x1C))) ∧
    CompletesThen .instcredRevoke opInstcredRevoke (fun s a => (tabGet s.instCreds (opdB a 0x10, 0)).isSome = true)
      (fun s a => audit (keyStep { s with instCreds := tabDel s.instCreds (opdB a 0x10, 0) }) 7 a.role a.cred a.handle 0x17 0
        (bytesOf [opdB a 0x10])) (fun _ _ => rOk) (fun _ a t => closeCred t 2 (opdB a 0x10))) ∧
  (
    (∀ b, CompletesThen (.lcTransition · b) (opLcTransition b) (fun s _ => rd s SEC_STATUS.LIFECYCLE 0 = 0) (fun s _ => s)
      (fun _ _ => rOk)
      (fun _ a t => audit (closeAll (wr t SEC_STATUS.LIFECYCLE 0 1)) 8 a.role a.cred a.handle 0x18 0 (bytesOf [0, 1]))) ∧
    (∀ b, CompletesThen (.lcTransition · b) (opLcTransition b) (fun s _ => rd s SEC_STATUS.LIFECYCLE 0 = 2) (fun s _ => s)
      (fun _ _ => rOk) (fun _ a t => zeroise b a.role a.cred a.handle t)) ∧
    Completes .returnApprove opReturnApprove (fun _ _ => True)
      (fun s _ => wrs s [(SEC_STATUS.RETURN_ARMED, 0, 1), (HID.RETURN_AT, 0, rd s HID.TICKS 0)]) (fun _ _ => rOk) ∧
    (∀ b, CompletesThen (.zeroize · b) (opZeroize b) (fun _ _ => True) (fun s _ => s) (fun _ _ => rOk)
      (fun _ a t => zeroise b a.role a.cred a.handle t)) ∧
    Completes .auditExport opAuditExport (fun _ _ => True)
      (fun s a =>
        let es := exportEntries s a
        let last := (es.getLast?.map (·.seq)).getD 0
        let head := serialBytes ++ leBytes 8 (opd a 0x20 8) ++ leBytes 8 last ++ leBytes 4 (rd s SEC_AUDIT_STAT.LOST 0)
          ++ leBytes 12 0 ++ leBytes 48 ((es.getLast?.map (·.chain.toNat)).getD 0)
        wr (markExported (toHost (took s) (opd a 0x10 8) (es.flatMap auditEntryBytes ++ head ++ signWith s head))
          (es.map (·.seq))) SEC_AUDIT_STAT.EXPORT_SEQ 0 last)
      (fun s a => ⟨.ok, 0, some (exportEntries s a).length, false⟩) ∧
    Completes .attest opAttest (fun _ _ => True)
      (fun s a => toHost (took s) (opd a 0x10 8) (attestReport s (a.cmd.buf.take 32)))
      (fun s a => ⟨.ok, 0, some (attestReport s (a.cmd.buf.take 32)).length, false⟩))

/-- FW_WRITE, FW_RESTART, FW_RESTART_DONE, FW_RESTART_TIMEOUT, FW_COMMIT (R104, R117): a piece that is not the last
extends the slot not running; a restart takes no more commands and ends with the new firmware, or with TIMEOUT and
the old. -/
def Obligations.FirmwareUpdateActs : Prop :=
  Completes .fwWrite opFwWrite (fun _ a => opdBit a 0x1C 0 = false)
    (fun s a =>
      let old := if opd a 0x20 4 == 0 then [] else fwSlot s (fwTarget s)
      wrs { s with flash := tabPut s.flash (fwTarget s, 0) (old ++ a.cmd.buf) } [(HID.FW_WR_ON, 0, 1), (HID.FW_WR_END, 0, opd a 0x20 4 + a.cmd.buf.length)]) (fun _ _ => rOk) ∧
  StartsWait .fwRestart opFwRestart (fun _ _ => True) (fun s _ => wr s HID.RESTARTING 0 1) (fun _ _ => []) ∧
  Acts .fwRestartDone (fun s => restartReady s = true)
    (fun s => if fwFail s (fwSlot s (fwTarget s)) true = 0 then restartEnd (fwRun s (fwTarget s)) rOk else s) ∧
  Acts .fwRestartTimeout (fun s => restartReady s = true)
    (fun s => complete (waitsOn 0x1E []) ⟨.timeout, 0, none, false⟩ (closeAll (wr s HID.RESTARTING 0 0))) ∧
  Completes .fwCommit opFwCommit (fun _ _ => True)
    (fun s _ => wr s HID.MIN_FW_SVN 0 (max (rd s HID.MIN_FW_SVN 0) (rd s HID.FW_SVN_FULL 0))) (fun _ _ => rOk)

/-- TIME_RATE, TIME_STEP, TIME_REARM, TEV_ARM, TEV_STOP (R155, R157, R158, R159, R161, R169, R171): a rate within the
limit is taken as it stands; a step is taken once, and must be armed again; a periodic event's first firing is the
first START + k PERIOD that is not past; stopping an event disarms it, after a firing that is already due. TEV_FIRE,
TIME_WATCHDOG_EXPIRE, PPS_IN_EDGE, PPS_IN_TIMEOUT, PPS_OUT_PULSE_END, RCLK_SOURCE_LOST (R161 to R165, R169): an
event that is due moves to its next time, or is disarmed if it fires once, and its consumers act; the watchdog ends
LOCKED; an edge of PPS_IN is time-stamped; a lost source is latched with its corrected fault. -/
def Obligations.TimeUnitActs : Prop :=
  (
    Completes .timeRate opTimeRate (fun s a => clampDelta s (sext 64 (opd a 0x10 8)) = sext 64 (opd a 0x10 8))
      (fun s a => wrs s [(TIM_INCR.DELTA, 0, wrapI 64 (sext 64 (opd a 0x10 8))),
        (TIM_STATUS.LOCK, 0, lockAfter (rd s TIM_STATUS.LOCK 0) (opdB a 0x18)),
        (HID.WDOG_ON, 0, b2n (lockAfter (rd s TIM_STATUS.LOCK 0) (opdB a 0x18) == 1))]) (fun _ _ => rOk) ∧
    Completes .timeStep opTimeStep (fun _ _ => True)
      (fun s a => bump (wr (setFineTime (bwDiscard s) (stepTo s a).toNat) TIM_STATUS.STEP_ARMED 0 0) TIM_STATUS.STEPS 0)
      (fun _ _ => rOk) ∧
    Completes .timeRearm opTimeRearm (fun _ _ => True) (fun s _ => wr s TIM_STATUS.STEP_ARMED 0 1) (fun _ _ => rOk) ∧
    Completes .tevArm opTevArm (fun _ _ => True)
      (fun s a => wrs s [(TIM_TEV_STAT.ARMED, opdB a 0x10, 1), (TIM_TEV_STAT.PERIODIC, opdB a 0x10, b2n (opdBit a 0x11 0)),
        (TIM_TEV_STAT.NEXT, opdB a 0x10, timeNowField (if opdBit a 0x11 0
          then firstDue (tevStart a) (tevPeriod a) (localTime s) else tevStart a)),
        (HID.TEV_PERIOD, opdB a 0x10, tevPeriod a), (HID.TEV_IRQ, opdB a 0x10, b2n (opdBit a 0x11 1))]) (fun _ _ => rOk) ∧
    Completes .tevStop opTevStop (fun s a => tevDue s (opdB a 0x10) = false)
      (fun s a => wr s TIM_TEV_STAT.ARMED (opdB a 0x10) 0) (fun _ _ => rOk) ∧
    Completes .tevStop opTevStop (fun s a => tevDue s (opdB a 0x10) = true)
      (fun s a => wr (tevAct s (opdB a 0x10)) TIM_TEV_STAT.ARMED (opdB a 0x10) 0) (fun _ _ => rOk)) ∧
  (
    (∀ n : Fin 64, Acts (.tevFire n) (fun s => tevDue s n.val = true ∧ flag s TIM_TEV_STAT.PERIODIC n.val = false)
      (fun s => tevWakes (tevPps (calFire (monTev (tevSites (tevGates (tevRecord (wr s TIM_TEV_STAT.ARMED n.val 0) n.val) n.val)
        n.val) n.val) n.val) n.val (timeOfNow (rd s TIM_TEV_STAT.NEXT n.val))) n.val)) ∧
    (∀ n : Fin 64, Acts (.tevFire n) (fun s => tevDue s n.val = true ∧ flag s TIM_TEV_STAT.PERIODIC n.val = true)
      (fun s => tevAct s n.val)) ∧
    Acts .timeWatchdogExpire (fun s => rd s TIM_STATUS.LOCK 0 = 1 ∧ flag s HID.WDOG_ON 0 = true)
      (fun s => event (faultC 0x200 (wrs s [(TIM_STATUS.LOCK, 0, 2), (HID.WDOG_ON, 0, 0)])) 2 0x200 0 (bytesOf [1])) ∧
    Acts .ppsInEdge (fun s => flag s TIM_CFG.PPS_IN_EN 0 = true)
      (fun s => bump (wrs s [(TIM_PPS_IN.TIME, 0, timeNowField (localTime s)), (HID.PPS_WAIT, 0, 1)]) TIM_PPS_IN.COUNT 0) ∧
    Acts .ppsInTimeout (fun s => flag s TIM_CFG.PPS_IN_EN 0 = true ∧ flag s HID.PPS_WAIT 0 = true)
      (fun s => faultC 0x201 (wrs s [(TIM_STATUS.PPS_LOST, 0, 1), (HID.PPS_WAIT, 0, 0)])) ∧
    Acts .ppsOutPulseEnd (fun s => flag s TIM_TEV_STAT.PERIODIC (ppsTev s) = false) (fun s => wr s HID.PPS_OUT 0 0) ∧
    (∀ r : Fin 2, Acts (.rclkSourceLost r)
      (fun s => flag s TIM_RCLK.EN r.val = true ∧ rclkGone s r.val = true ∧ flag s TIM_RCLK.LOST r.val = false)
      (fun s => faultC (0x202 + r.val) (rclkShow (wr s TIM_RCLK.LOST r.val 1) r.val))))

/-- The first firing of a periodic event (R171): of the times START + k PERIOD it is the first not earlier than the
check. -/
def Obligations.PeriodicEventFirstFiringIsNotPast : Prop :=
  ∀ start period now, 0 < period →
    now ≤ firstDue start period now ∧ (∃ k, firstDue start period now = start + k * period) ∧
    ∀ k, now ≤ start + k * period → firstDue start period now ≤ start + k * period

/-- LANDING_OPEN, LANDING_SUBMIT, LANDING_CANCEL, LANDING_QUERY, LANDING_FIRE, GENERATION_DRAINED, DRAIN_EXPIRED (R162,
R178, R180, R183, R184, R189 to R192, R195): a landing is opened empty in a free slot, waits for its time with its
digest, and at its time every due landing that need not wait fires as one group, after the time events of its tick
(R162), which see the state before the cargo; what a drain leaves when it expires is dropped packet by packet, each
at its next step. -/
def Obligations.LandingsActFromOpenToDrain : Prop :=
  (∀ n, Completes .landingOpen opLandingOpen (fun s _ => lndFree s = some n)
    (fun s a => wrs (freeSlot s n) [(LND_SLOT.ID, n, opd a 0x10 2), (LND_SLOT.STATE, n, 1), (LND_SLOT.OWNER, n, a.role),
      (LND_SLOT.HANDLE, n, a.handle)]) (fun _ _ => rOk)) ∧
  (∀ n, StartsWait .landingSubmit opLandingSubmit
    (fun s a => slotOf s (opd a 0x10 2) = some n ∧ opdBit a 0x12 0 = false ∧ localTime s + 655360000 ≤ submitTime a)
    (fun s a => wrs s [(LND_SLOT.STATE, n, 2), (LND_SLOT.ASAP, n, 0), (LND_SLOT.TIME, n, timeField (submitTime a)),
      (LND_SLOT.DIGEST, n, cargoDigest s n)]) (fun _ a => [opd a 0x10 2])) ∧
  (∀ n, Completes .landingSubmit opLandingSubmit
    (fun s a => slotOf s (opd a 0x10 2) = some n ∧ opdBit a 0x12 0 = false ∧ submitTime a < localTime s + 655360000)
    (fun s _ => bump s LND_STAT.LATE 0) (fun _ _ => ⟨.late, 0, none, false⟩)) ∧
  (∀ n, Completes .landingCancel opLandingCancel
    (fun s a => slotOf s (opd a 0x10 2) = some n ∧ ctxBound s (opd a 0x10 2) = false)
    (fun s a => complete (waitsOn 0x21 [opd a 0x10 2]) ⟨.aborted, 0, none, false⟩ (freeSlot s n)) (fun _ _ => rOk)) ∧
  (∀ n, Completes .landingQuery opLandingQuery (fun s a => slotOf s (opd a 0x10 2) = some n ∧ rd s LND_SLOT.STATE n ≠ 4)
    (fun s _ => s)
    (fun s _ => ⟨.ok, 0, some (rd s LND_SLOT.STATE n + 2 ^ 8 * (rd s LND_SLOT.ITEMS n % 2 ^ 24)), false⟩)) ∧
  (∀ bad ns, ns ≠ [] → Acts (.landingFire bad)
    (fun s => takeDue (sortSlots (timeLt s) ((slotsIn s 2).filter (lndDue s))) s = (s, ns))
    (fun s => fireGroup false bad s ns)) ∧
  (∀ bad, Acts (.generationDrained bad) (fun s => flag s LND_STATUS.OLD_LIVE 0 = true ∧ oldCount s = 0)
    (fun s => drainDone 0x11 bad s)) ∧
  (∀ bad, Acts (.drainExpired bad) (fun s => flag s LND_STATUS.OLD_LIVE 0 = true ∧ oldCount s ≠ 0)
    (fun s => drainDone 0x12 bad (faultC 0x221 (bump
      { s with pkts := s.pkts.map (fun k => if k.gen != genNow s then { k with hwDrop := 0x17 } else k) }
      LND_STAT.EXPIRED 0)))) ∧
  (∀ s bad ns, ns.any (flag (tevFireDue s) LND_SLOT.GENL) = false → fireGroup false bad s ns =
    (let u := tevFireDue s
      let ks := sortSlots (idLt u) ns
      let items := skipImages (groupItems bad u ks)
      let x := fireInst items (u, [])
      ks.foldl (fun t n => landFired t n ((tabGet x.2 (n, 0)).getD 0) false)
        (forEach (loadSites items) x.1 (fun k t => strobe raise true t k))))

/-- CLIP_WINDOW_END, SLICE_FAIL, SLICE_SWAP, QUAL_UPDATE, RX_CAPTURE_START, RX_CAPTURE_DONE, LOSS_OF_SIGNAL (R199, R201
to R203, R212 to R214): the receive path's measurements and its converter slices. That bring-up is the time of the
power-up calibration, in which spare slices fail too, is the model's choice (log entry 111). CDR_LOCK_LOSS,
HOLD_TRIGGER, HOLD_FAST_RETURN, HOLD_FAST_TIMEOUT, HOLD_FULL_RETURN, HOLD_FAIL, RX_BANK_STORE, RX_BANK_DISCARD
(R204, R217 to R221, R244): HOLD is entered on a trigger of a LIVE or held lane and left for LIVE on the other bank,
which a fast attempt needs an SNR of SNR_MIN for, or for a new attempt with reason HOLD (13). A snapshot holds the
receive state as adaptation, whose values are free, has left it. -/
def Obligations.ReceivePathAndHoldAct : Prop :=
  (
    (∀ (l : Lane) n, n ≤ 255 → Acts (.clipWindowEnd l n) (fun s => receiving s l.val = true)
      (fun s => wr s SHF_RX_AFE.CLIP l.val n)) ∧
    (∀ (l : Lane) n, 255 < n → Acts (.clipWindowEnd l n) (fun s => receiving s l.val = true)
      (fun s => wrs s [(SHF_RX_AFE.CLIP, l.val, 255), (SHF_RX_EVT.CLIP, l.val, 1)])) ∧
    (∀ (l : Lane) (j : Fin 136), Acts (.sliceFail l j) (fun s => rd s SHF_RX_SLICE.STATE (l.val * 136 + j.val) = 0)
      (fun s => sliceFailed s l.val j.val)) ∧
    (∀ (l : Lane) (j : Fin 136), Acts (.sliceFail l j)
      (fun s => rd s SHF_RX_SLICE.STATE (l.val * 136 + j.val) = 1 ∧ flag s HID.POWER_UP 0 = true ∧ rd s GLB_BOOT_STAT.STAGE 0 < 3)
      (fun s => faultC (0x400 + l.val / 8) (sliceMark s l.val j.val))) ∧
    (∀ l : Lane, Acts (.sliceSwap l) (fun s => laneSt s l.val ≠ laneHOLD)
      (fun s => calKick (sliceRotate ((slicesDue s l.val).foldl (sliceReplace l.val) s) l.val) (l.val / 8))) ∧
    (∀ (l : Lane) snr pm sc sn, Acts (.qualUpdate l snr pm sc sn)
      (fun s => receiving s l.val = true ∧ rd s SHF_LANE_STAT.FORMAT l.val = 2)
      (fun s => wrs s [(SHF_RX_QUAL.SNR, l.val, snr.toNat), (SHF_RX_QUAL.MIN_SC, l.val, sc.toNat),
        (SHF_RX_QUAL.MIN_SC_SNR, l.val, sn.toNat)])) ∧
    (∀ (l : Lane) snr pm sc sn, Acts (.qualUpdate l snr pm sc sn)
      (fun s => receiving s l.val = true ∧ rd s SHF_LANE_STAT.FORMAT l.val ≠ 2)
      (fun s => wrs s [(SHF_RX_QUAL.SNR, l.val, snr.toNat), (SHF_RX_QUAL.PM_LOW, l.val, min pm 0xFFFF)])) ∧
    (∀ l : Lane, Acts (.rxCaptureStart l) (fun s => laneSt s l.val = laneLIVE ∧ captureFits s l.val = true)
      (fun s => wrs s [(SHF_RX_CAPTURE.STAT, l.val, 1), (HID.CAP_KIND, l.val, rd s SHF_RX_CAPTURE.KIND l.val)])) ∧
    (∀ (l : Lane) bins, Acts (.rxCaptureDone l bins)
      (fun s => rd s SHF_RX_CAPTURE.STAT l.val = 1 ∧ rd s HID.CAP_KIND l.val ≤ 1)
      (fun s => forEach (List.range 256) (wr s SHF_RX_CAPTURE.STAT l.val 2) (fun b t =>
        wr t SHF_RX_HISTBUF.VALUE (l.val * 256 + b) (min (bins.getD b 0) (2 ^ 32 - 1))))) ∧
    (∀ l : Lane, Acts (.lossOfSignal l) (fun s => detects s l.val = true ∧ 3 ≤ laneSt s l.val ∧ laneSt s l.val ≤ 5)
      (fun s => wrs s [(SHF_RX_EVT.LOS, l.val, 1), (HID.LOS_NOW, l.val, 1)]))) ∧
  (
    (∀ (l : Lane) ab tp lv, Acts (.cdrLockLoss l ab tp lv) (fun s => laneSt s l.val = laneLIVE)
      (fun s => enterHold (wrs s [(SHF_RX_EVT.LOL, l.val, 1), (SHF_RX_CDR.LOCK, l.val, 0)]) l.val ab tp lv)) ∧
    (∀ (l : Lane) db ab tp lv, Acts (.holdTrigger l db ab tp lv)
      (fun s => laneSt s l.val = laneLIVE ∧ detects s l.val = true ∧ flag s HID.LOS_NOW l.val = false ∧
        rd s SHF_RX_HOLD_CFG.STEP_DB l.val ≠ 0 ∧ rd s SHF_RX_HOLD_CFG.STEP_DB l.val ≤ db)
      (fun s => enterHold s l.val ab tp lv)) ∧
    (∀ (l : Lane) (snr : BitVec 12), Acts (.holdFastReturn l snr)
      (fun s => laneSt s l.val = laneHOLD ∧ flag s HID.HOLD_FAST l.val = true ∧ rd s SHF_RX_HOLD_CFG.SNR_MIN l.val ≤ snr.toNat)
      (fun s => holdReturn s l.val SHF_RX_HOLD_STAT.FAST)) ∧
    (∀ (l : Lane) (snr : BitVec 12), Acts (.holdFastReturn l snr) (fun s => snr.toNat < rd s SHF_RX_HOLD_CFG.SNR_MIN l.val)
      (fun s => s)) ∧
    (∀ l : Lane, Acts (.holdFastTimeout l) (fun s => laneSt s l.val = laneHOLD ∧ flag s HID.HOLD_FAST l.val = true)
      (fun s => holdLoad (wr s HID.HOLD_FAST l.val 0) l.val)) ∧
    (∀ l : Lane, Acts (.holdFullReturn l) (fun s => laneSt s l.val = laneHOLD ∧ flag s HID.HOLD_FAST l.val = false)
      (fun s => holdReturn s l.val SHF_RX_HOLD_STAT.FULL)) ∧
    (∀ l : Lane, Acts (.holdFail l false) (fun s => laneSt s l.val = laneHOLD ∧ flag s HID.HOLD_FAST l.val = false)
      (fun s => startFor raise (bump (wr s SHF_LANE_STAT.REASON l.val 13) SHF_LANE_CNT.FAILS l.val) l.val 1 13)) ∧
    (∀ (l : Lane) tp, Acts (.rxBankStore l tp) (fun s => laneSt s l.val = laneLIVE)
      (fun s => let t := adaptAll s l.val
        wr { t with banks := tabPut t.banks (l.val, rd s SHF_RX_BANK.CUR l.val) (bankNow t l.val tp) } SHF_RX_BANK.VALID l.val
          (setBit (rd s SHF_RX_BANK.VALID l.val) (rd s SHF_RX_BANK.CUR l.val)))) ∧
    (∀ l : Lane, Acts (.rxBankDiscard l) (fun _ => True)
      (fun s => wr s SHF_RX_BANK.VALID l.val (clrBit (rd s SHF_RX_BANK.VALID l.val) (1 - rd s SHF_RX_BANK.CUR l.val)))))

/-- A slice fails with a free spare (R203): the slice is FAILED and its event bit is set; it serves no position, and the
corrected fault 0x400 + s is raised for its sheaf. -/
def Obligations.FailedSliceIsMarkedAndReported : Prop :=
  ∀ (l : Lane) (j : Fin 136) s, rd s SHF_RX_SLICE.STATE (l.val * 136 + j.val) = 0 →
    (slicesDue s l.val).length < (slicesIn s l.val 1).length →
    (slicesDue (sliceMark s l.val j.val) l.val).length < (slicesIn (sliceMark s l.val j.val) l.val 1).length →
    ∃ t, exec (.sliceFail l j) s = .next (faultC (0x400 + l.val / 8) t) ∧
      rd t SHF_RX_SLICE.STATE (l.val * 136 + j.val) = 3 ∧ rd t SHF_RX_SLICE.FAIL (l.val * 136 + j.val) = 1 ∧
      rd t SHF_RX_SLICE.POS (l.val * 136 + j.val) = 0xFF ∧ rd t SHF_RX_EVT.SLICE_FAIL l.val = 1 ∧
      OnlyAt [(SHF_RX_SLICE.STATE, l.val * 136 + j.val), (SHF_RX_SLICE.FAIL, l.val * 136 + j.val),
        (SHF_RX_SLICE.POS, l.val * 136 + j.val), (SHF_RX_ADC.FAILED, l.val), (SHF_RX_EVT.SLICE_FAIL, l.val),
        (HID.SLICE_POS, l.val * 136 + j.val)] s t

/-- WAKE_FRAME_RX, SHEAF_WAKE_ACTIVITY (R215, R216): a frame with a right CRC and the sheaf's word counts a match and
wakes the sheaf with cause PATTERN (4); activity wakes it with cause ACTIVITY (3). A sheaf that wakes already wakes
once. SYNTH_CAL_DONE, SYNTH_LOCKED, SYNTH_ATTEMPT_TIMEOUT, SYNTH_LOCK_LOST, SYNTH_REF_RETURN (R224, R227, R244,
R245): the synthesiser goes CAL (2), SETTLE (3), LOCKED (4); three missed attempts leave it FAILED (5) with a
contained fault; a loss in LOCKED is counted and its lanes squelch and start anew. TX_ENABLE, TX_ENABLE_TIMEOUT,
WAKE_SEND, WAKE_SEND_DURATION_END, WAKE_SEND_PARTNER, TX_TRAINING_TIMEOUT, TX_SHAPE_APPLY, TX_BOUNDARY_UPDATE (R226,
R227, R232, R233, R235, R238): lanes are enabled at once while the synthesiser is locked and wait for it otherwise;
a pending swing, and the squelch of the output, take effect at a boundary, from which on the lane sends its data in
its format. -/
def Obligations.WakeSynthesiserAndTransmitAct : Prop :=
  (
    (∀ (l : Lane) (b : BitVec 40), bitsOf b.toNat 32 8 = 0xAA → bitsOf b.toNat 24 8 = 0xE5 →
      crc8 (bitsOf b.toNat 8 16) 16 0 = bitsOf b.toNat 0 8 → bitsOf b.toNat 8 16 ≠ 0 →
      Acts (.wakeFrameRx l b)
        (fun s => wakeListens s l.val = true ∧ rd s SHF_WAKE.WORD (l.val / 8) = bitsOf b.toNat 8 16 ∧
          rd s SHF_WAKE.SRC (l.val / 8) ≠ 0)
        (fun s => sheafWakeUp (bump (wr s SHF_WAKE_STAT.LAST_WORD (l.val / 8) (bitsOf b.toNat 8 16)) SHF_WAKE_STAT.MATCH
          (l.val / 8)) l.val 4)) ∧
    (∀ (l : Lane) (b : BitVec 40), bitsOf b.toNat 32 8 = 0xAA → bitsOf b.toNat 24 8 = 0xE5 →
      crc8 (bitsOf b.toNat 8 16) 16 0 ≠ bitsOf b.toNat 0 8 →
      Acts (.wakeFrameRx l b) (fun s => wakeListens s l.val = true) (fun s => bump s SHF_WAKE_STAT.BAD_CRC (l.val / 8))) ∧
    (∀ l : Lane, Acts (.sheafWakeActivity l) (fun s => wakeListens s l.val = true ∧ rd s SHF_WAKE.SRC (l.val / 8) ≠ 1)
      (fun s => sheafWakeUp s l.val 3)) ∧
    (∀ s l, rd s PWR_DOM.HELD (sheafDom (l / 8)) = 0 → rd s HID.DOM_TGT (sheafDom (l / 8)) = 1 → sheafWakeUp s l 3 = s)) ∧
  (
    (∀ sh : Sheaf, Acts (.synthCalDone sh) (fun s => synSt s sh.val = 2) (fun s => wr s SHF_SYN_STAT.STATE sh.val 3)) ∧
    (∀ (sh : Sheaf) us, Acts (.synthLocked sh us) (fun s => synSt s sh.val = 3)
      (fun s =>
        let u := forEach (sheafLanes sh.val) (wrs s [(SHF_SYN_STAT.STATE, sh.val, 4), (SHF_SYN_STAT.LOCK_US, sh.val, us.toNat)])
          (fun l t => if flag t SHF_LANE_STAT.WAIT_SYNTH l then trnAcquire (wr t SHF_LANE_STAT.WAIT_SYNTH l 0) l else t)
        wakeLocked (u.running.foldl (txEnabled sh.val) u) sh.val)) ∧
    (∀ sh : Sheaf, Acts (.synthAttemptTimeout sh) (fun s => synSt s sh.val = 3 ∧ rd s SHF_SYN_STAT.ATTEMPT sh.val < 3)
      (fun s => wrs s [(SHF_SYN_STAT.STATE, sh.val, 2), (SHF_SYN_STAT.ATTEMPT, sh.val, rd s SHF_SYN_STAT.ATTEMPT sh.val + 1)])) ∧
    (∀ sh : Sheaf, Acts (.synthAttemptTimeout sh)
      (fun s => synSt s sh.val = 3 ∧ rd s SHF_SYN_STAT.ATTEMPT sh.val = 3 ∧ flag s HID.WAKE_SYN sh.val = false)
      (fun s => synthRaise (sqSheaf (wr s SHF_SYN_STAT.STATE sh.val 5) sh.val) sh.val)) ∧
    (∀ sh : Sheaf, Acts (.synthLockLost sh true) (fun s => synSt s sh.val = 4)
      (fun s => synthRaise (synthLeft (bump (wrs s [(SHF_SYN_STAT.STATE, sh.val, 2), (SHF_SYN_STAT.ATTEMPT, sh.val, 1)])
        SHF_SYN_STAT.LOSSES sh.val) sh.val) sh.val)) ∧
    (∀ sh : Sheaf, Acts (.synthRefReturn sh) (fun s => synSt s sh.val = 1)
      (fun s => wrs s [(HID.REF_LINE_LOST, 0, clrBit (rd s HID.REF_LINE_LOST 0) (sh.val / 8)), (SHF_SYN_STAT.STATE, sh.val, 2),
        (SHF_SYN_STAT.ATTEMPT, sh.val, 1)]))) ∧
  (
    Completes .txEnable opTxEnable (fun _ a => opdBit a 0x12 0 = false)
      (fun s a => forEach (maskLanes (opdB a 0x10) (opdB a 0x11)) s (fun l t => wr t SHF_TX_CTRL.EN l 0)) (fun _ _ => rOk) ∧
    StartsWait .txEnable opTxEnable (fun s a => opdBit a 0x12 0 = true ∧ synSt s (opdB a 0x10) ≠ 4)
      (fun s a => forEach (maskLanes (opdB a 0x10) (opdB a 0x11)) s (fun l t => wr t SHF_TX_CTRL.EN l (b2n (laneSt t l != laneFAILED))))
      (fun s a => [opdB a 0x10, opdB a 0x11, rd s HID.SYN_RAISED (opdB a 0x10)]) ∧
    (∀ (r : Ring) (tag : BitVec 16) (a : Acc) sh mask n, Acts (.txEnableTimeout r tag)
      (fun s => s.running.find? (fun x => x.ring == r.val && x.acc.cmd.tag == tag.toNat && waitsOn 0x54 [] x)
        = some ⟨r.val, a, .waiting [sh, mask, n]⟩)
      (fun s =>
        let s1 := forEach (maskLanes sh mask) (bump s SHF_SYN_STAT.TIMEOUTS sh) (fun l t => wr t SHF_TX_CTRL.EN l 0)
        let s2 := if rd s HID.SYN_RAISED sh = n then faultK (0x480 + sh) s1 else s1
        finish (dropRun s2 r.val a.cmd.tag) r.val a ⟨.timeout, 0, none, false⟩)) ∧
    StartsWait .wakeSend opWakeSend (fun _ a => opd a 0x14 2 ≠ 0 ∧ opdB a 0x11 ≠ 0)
      (fun s a => forEach (maskLanes (opdB a 0x10) (opdB a 0x11))
        (if synSt s (opdB a 0x10) == 0 then synthStart s (opdB a 0x10) else s) (fun l t =>
          wrs t [(HID.WAKE_JOB, l, 1), (HID.WAKE_WORD, l, opd a 0x12 2), (HID.STOP_ON_RX, l, b2n (opdBit a 0x16 0))]))
      (fun _ a => [opdB a 0x10, opdB a 0x11, 0, 0]) ∧
    (∀ (l : Lane) n, Acts (.wakeSendDurationEnd l n) (fun s => flag s HID.WAKE_JOB l.val = true)
      (fun s => stopWake raise l.val 0 (some n) s)) ∧
    (∀ (l : Lane) n, Acts (.wakeSendPartner l n)
      (fun s => flag s HID.WAKE_JOB l.val = true ∧ flag s HID.STOP_ON_RX l.val = true ∧ detects s l.val = true)
      (fun s => stopWake raise l.val 1 (some n) s)) ∧
    (∀ l : Lane, Acts (.txTrainingTimeout l)
      (fun s => laneSt s l.val = laneTRAIN ∧ rd s SHF_LANE_STAT.MODE l.val ≠ 4 ∧ flag s SHF_TX_CTRL.EN l.val = true ∧
        flag s HID.TTX l.val = false ∧ rd s SHF_TX_STAT.ALS l.val ≠ 2)
      (fun s => bump (sqNow (wr s HID.TTX l.val 1) l.val) SHF_TX_STAT.TTX_CNT l.val)) ∧
    (∀ l : Lane, Acts (.txShapeApply l) (fun _ => True)
      (fun s => wrs s [(SHF_TX_SHAPE.PEND, l.val, 1), (HID.TX_APPLY, l.val, 1)])) ∧
    (∀ (l : Lane) blks, Acts (.txBoundaryUpdate l blks)
      (fun s => sendsData (txBoundary s l.val) l.val = false ∧ flag s SHF_TX_SHAPE.PEND l.val = true ∧
        flag s HID.TX_APPLY l.val = false ∧ tabGet s.shapes (l.val, 0) = none)
      (fun s =>
        let u := wrs s [(SHF_TX_CTRL.SWING_NOW, l.val, rd s SHF_TX_CTRL.SWING l.val), (SHF_TX_SHAPE.PEND, l.val, 0),
          (HID.TX_APPLY, l.val, 0)]
        wr u HID.SQ_OUT l.val (b2n (sqCause u l.val != 0)))) ∧
    (∀ (l : Lane) blks, Acts (.txBoundaryUpdate l blks)
      (fun s => sendsData (txBoundary s l.val) l.val = false ∧ flag s SHF_TX_SHAPE.PEND l.val = true ∧
        flag s HID.TX_APPLY l.val = true ∧ fixedShape s l.val = true ∧ s.shapes = [])
      (fun s =>
        let u := applyFixed (wrs s [(SHF_TX_CTRL.SWING_NOW, l.val, rd s SHF_TX_CTRL.SWING l.val), (SHF_TX_SHAPE.PEND, l.val, 0),
          (HID.TX_APPLY, l.val, 0)]) l.val
        wr u HID.SQ_OUT l.val (b2n (sqCause u l.val != 0)))) ∧
    (∀ (l : Lane) blks, Acts (.txBoundaryUpdate l blks)
      (fun s => sendsData (txBoundary s l.val) l.val = true ∧ rd (txBoundary s l.val) SHF_LANE_STAT.FORMAT l.val = 1)
      (fun s => sendNative s (txBoundary s l.val) l.val blks)) ∧
    (∀ (l : Lane) blks, Acts (.txBoundaryUpdate l blks)
      (fun s => sendsData (txBoundary s l.val) l.val = true ∧ rd (txBoundary s l.val) SHF_LANE_STAT.FORMAT l.val = 2)
      (fun s => sendLoaded (txBoundary s l.val) l.val blks)))

/-- LANE_MODE, LANE_RESTART (R242 to R244): every lane of MASK takes MODE, or starts a new series unless it is DARK or
FAILED. FORMAT_FOUND, ACQ_TIMEOUT, BACKOFF_EXPIRE, LISTEN_ACTIVITY (R244, R247, R248, R258): a format the mode
allows starts training with a HELLO, or the standard's confirmation; any other counts a mismatch; a timeout fails
the attempt with reason 1 (no envelope), 2 (no format) or 3 (only a format the mode does not allow); the back-off's
end and activity start the next attempt, or attempt 1 of a lane whose series is exhausted. -/
def Obligations.LanesAcquire : Prop :=
  (
    Completes .laneMode opLaneMode (fun _ _ => True)
      (fun s a => (maskLanes (opdB a 0x10) (opdB a 0x11)).foldl (laneModeOne (opdB a 0x12) (opdBit a 0x13 0))
        (synthMode s (opdB a 0x10) (opdB a 0x11) (opdB a 0x12))) (fun _ _ => rOk) ∧
    Completes .laneRestart opLaneRestart (fun _ _ => True)
      (fun s a => (maskLanes (opdB a 0x10) (opdB a 0x11)).foldl laneRestartOne s) (fun _ _ => rOk)) ∧
  (
    (∀ l : Lane, Acts (.formatFound l .training)
      (fun s => searching s l.val = true ∧ nativeFam (rd s SHF_LANE_STAT.MODE l.val) = true)
      (fun s =>
        let s1 := wrs s [(SHF_LANE_STAT.FOUND, l.val, 4), (HID.SAW_FORMAT, l.val, setBit (rd s HID.SAW_FORMAT l.val) 0)]
        let s2 := wr (setLane raise (clearTraining s1 l.val) l.val laneTRAIN 0) SHF_LANE_STAT.PHASE l.val 0
        trnShow (trnSend (wr s2 SHF_RX_CDR.LOCK l.val 1) l.val 1 (helloBytes (helloBody s2 l.val))) l.val)) ∧
    (∀ l : Lane, Acts (.formatFound l .standard)
      (fun s => searching s l.val = true ∧ rd s SHF_LANE_STAT.MODE l.val = 4)
      (fun s => wrs s [(SHF_LANE_STAT.FOUND, l.val, 1), (HID.SAW_FORMAT, l.val, setBit (rd s HID.SAW_FORMAT l.val) 0),
        (HID.LANE_CONFIRM, l.val, 1), (SHF_LANE_STAT.FORMAT, l.val, 3), (SHF_RX_CDR.LOCK, l.val, 1)])) ∧
    (∀ l : Lane, Acts (.formatFound l .standard)
      (fun s => searching s l.val = true ∧ nativeFam (rd s SHF_LANE_STAT.MODE l.val) = true)
      (fun s => bump (wrs s [(SHF_LANE_STAT.FOUND, l.val, 1), (HID.SAW_FORMAT, l.val, setBit (rd s HID.SAW_FORMAT l.val) 1)])
        SHF_LANE_CNT.MISMATCH l.val)) ∧
    (∀ (l : Lane) env, Acts (.acqTimeout l env)
      (fun s => laneSt s l.val = laneACQUIRE ∧ flag s SHF_LANE_STAT.WAIT_SYNTH l.val = false)
      (fun s => failAttempt raise s l.val (if env = false ∨ detects s l.val = false then 1 else if rd s HID.SAW_FORMAT l.val = 2 then 3 else 2))) ∧
    (∀ l : Lane, Acts (.backoffExpire l)
      (fun s => laneSt s l.val = laneLISTEN ∧ flag s HID.BACKOFF l.val = true ∧ sheafAwake s l.val = true)
      (fun s => startAttempt raise s l.val (rd s SHF_LANE_STAT.ATTEMPT l.val + 1))) ∧
    (∀ l : Lane, Acts (.listenActivity l)
      (fun s => laneSt s l.val = laneLISTEN ∧ sheafAwake s l.val = true ∧ detects s l.val = true ∧
        flag s SHF_LANE_STAT.EXHAUSTED l.val = false)
      (fun s => startAttempt raise s l.val (rd s SHF_LANE_STAT.ATTEMPT l.val + 1))) ∧
    (∀ l : Lane, Acts (.listenActivity l)
      (fun s => laneSt s l.val = laneLISTEN ∧ sheafAwake s l.val = true ∧ detects s l.val = true ∧
        flag s SHF_LANE_STAT.EXHAUSTED l.val = true)
      (fun s => startAttempt raise s l.val 1)))

/-- HELLO, REPORT, SHAPE_REQ, SHAPE_ACK, SHAPE_DONE, BITS, SWITCH, ABORT, IDLE (R244, R249 to R257): each message of the
partner, in a frame whose marker and CRC are right, has its effect in its phase; training then goes as far as it
can, and this side's frame goes out. That one frame goes out for each one received is the model's choice (log entry
106). PROBE_COMPLETE, SHAPE_MEASURE_DONE, LOAD_MEASURE_DONE (R254 to R256): each measurement of this receiver sets
its message going; a shaping iteration is measured once the partner has accepted it. TRAIN_PHASE_TIMEOUT,
TRAIN_TOTAL_TIMEOUT, CONFIRM_WINDOW_END (R248, R252, R257, R260): phases T0 to T3 fail with reasons 4 to 7, T4 with
8, the whole with 11; the confirmation window makes the lane LIVE or fails with reason 8. -/
def Obligations.LanesTrain : Prop :=
  (
    (∀ (l : Lane) h b, Acts (.hello l h b) (NextMessage l h 1 (helloBytes b) 0)
      (fun s => trnShow (trnAdvance (takeHello l.val b (heard l h s)) l.val) l.val)) ∧
    (∀ (l : Lane) h snr ok tier, Acts (.report l h snr ok tier) (NextMessage l h 2 (reportBytes snr ok tier) 1)
      (fun s => trnShow (trnAdvance (trnOn (wrs (heard l h s) [(HID.TRN_P_OK, l.val, b2n ok),
        (HID.TRN_P_TIER, l.val, min tier 0xFF)]) l.val tReportRx) l.val) l.val)) ∧
    (∀ (l : Lane) h it taps lut, Acts (.shapeReq l h it taps lut)
      (fun s => NextMessage l h 3 (shapeReqBytes it taps lut) 2 s ∧ shapeAccept (heard l h s) l.val taps lut = true)
      (fun s =>
        let u := trnOn (wr (heard l h s) HID.TRN_ACK_IT l.val it) l.val tAckOwed
        trnShow (trnAdvance (trnOff { u with shapes := tabPut u.shapes (l.val, 0) (taps, lut) } l.val tAckRefuse) l.val) l.val)) ∧
    (∀ (l : Lane) h it taps lut, Acts (.shapeReq l h it taps lut)
      (fun s => NextMessage l h 3 (shapeReqBytes it taps lut) 2 s ∧ shapeAccept (heard l h s) l.val taps lut = false)
      (fun s => trnShow (trnAdvance (trnOn (bump (trnOn (wr (heard l h s) HID.TRN_ACK_IT l.val it) l.val tAckOwed)
        SHF_LANE_CNT.SHAPE_REFUSED l.val) l.val tAckRefuse) l.val) l.val)) ∧
    (∀ (l : Lane) h it, Acts (.shapeAck l h it true)
      (fun s => NextMessage l h 4 (shapeAckBytes it true) 2 s ∧ trnHas (heard l h s) l.val tReqOut = true ∧
        it = rd (heard l h s) HID.TRN_ITER l.val + 1)
      (fun s => trnShow (trnAdvance (wr (heard l h s) HID.TRN_ACCEPTED l.val 1) l.val) l.val)) ∧
    (∀ (l : Lane) h it, Acts (.shapeAck l h it false)
      (fun s => NextMessage l h 4 (shapeAckBytes it false) 2 s ∧ trnHas (heard l h s) l.val tReqOut = true ∧
        it = rd (heard l h s) HID.TRN_ITER l.val + 1)
      (fun s => trnShow (trnAdvance (iterEnd (heard l h s) l.val 0) l.val) l.val)) ∧
    (∀ (l : Lane) h snr, Acts (.shapeDone l h snr) (NextMessage l h 5 (shapeDoneBytes snr) 2)
      (fun s => trnShow (trnAdvance (trnOn (heard l h s) l.val tDoneRx) l.val) l.val)) ∧
    (∀ (l : Lane) h seg tier b, Acts (.bits l h seg tier b) (NextMessage l h 6 (bitsBytes seg.val tier b) 3)
      (fun s => trnShow (trnAdvance (takeBits l.val seg.val tier b (heard l h s)) l.val) l.val)) ∧
    (∀ (l : Lane) h last f t, Acts (.switch l h last f t)
      (fun s => NextMessage l h 7 (switchBytes last f t) 2 s ∨ NextMessage l h 7 (switchBytes last f t) 3 s)
      (fun s => trnShow (trnAdvance (trnOn (wr (heard l h s) HID.TRN_LAST l.val last) l.val tSwitchRx) l.val) l.val)) ∧
    (∀ (l : Lane) h reason, Acts (.abort l h reason)
      (fun s => exchanging s l.val = true ∧ trnValid h 0xA (bytesOf [reason]) = true ∧
        h.seq = (rd s HID.TRN_RX l.val + 1) % 65536)
      (fun s => trnFail (wr s HID.TRN_HEARD l.val 1) l.val 12)) ∧
    (∀ (l : Lane) h p, Acts (.idle l h) (NextMessage l h 0 [] p)
      (fun s => trnShow (trnAdvance (heard l h s) l.val) l.val)) ∧
    (∀ (l : Lane) h, trnValid h 0 [] = false → Acts (.idle l h) (fun _ => True) (fun s => s)) ∧
    (∀ (s : State) (l : Nat) m, exchanging s l = true → tabGet s.trnMsgs (l, 0) = some m →
      trnShow s l = if rd s HID.TRN_SEQ l = rd s HID.TRN_ACKED l then trnEmit s l 0 (rd s HID.TRN_SEQ l) []
        else trnEmit s l m.1 (rd s HID.TRN_SEQ l) m.2)) ∧
  (
    (∀ (l : Lane) snr tier, tier ≤ 4 → Acts (.probeComplete l snr tier)
      (fun s => laneSt s l.val = laneTRAIN ∧ rd s SHF_LANE_STAT.PHASE l.val = 1 ∧ trnHas s l.val tProbe = false)
      (fun s =>
        let ok := decide (rd s SHF_TRN_CFG.AUTO_SNR (l.val / 8) ≤ snr)
        trnShow (trnAdvance (trnSend (trnOn (trnOn (wrs s [(HID.TRN_OWN, l.val, min snr 4095 + 4096 * b2n ok),
          (HID.TRN_OWN_TIER, l.val, tier)]) l.val tProbe) l.val tReportTx) l.val 2 (reportBytes snr ok tier)) l.val) l.val)) ∧
    (∀ (l : Lane) snr, Acts (.shapeMeasureDone l snr)
      (fun s => laneSt s l.val = laneTRAIN ∧ rd s SHF_LANE_STAT.PHASE l.val = 2 ∧ trnHas s l.val tReqOut = true ∧
        flag s HID.TRN_ACCEPTED l.val = true)
      (fun s => trnShow (trnAdvance (iterEnd (wr s HID.TRN_SNR l.val (min snr 4095)) l.val
        ((snr : Int) - (rd s HID.TRN_SNR l.val : Int))) l.val) l.val)) ∧
    (∀ (l : Lane) b, Acts (.loadMeasureDone l b)
      (fun s => laneSt s l.val = laneTRAIN ∧ rd s SHF_LANE_STAT.PHASE l.val = 3 ∧ trnHas s l.val tBitsWant = false)
      (fun s => trnShow (trnAdvance (trnOn { s with bits := tabPut s.bits (l.val, otherBank s l.val) (b.take 255) } l.val
        tBitsWant) l.val) l.val))) ∧
  (
    (∀ l : Lane, Acts (.trainPhaseTimeout l) (fun s => laneSt s l.val = laneTRAIN ∧ rd s SHF_LANE_STAT.PHASE l.val ≤ 3)
      (fun s => trnFail s l.val (4 + rd s SHF_LANE_STAT.PHASE l.val))) ∧
    (∀ l : Lane, Acts (.trainPhaseTimeout l) (fun s => laneSt s l.val = laneTRAIN ∧ rd s SHF_LANE_STAT.PHASE l.val = 4)
      (fun s => trnFail s l.val 8)) ∧
    (∀ l : Lane, Acts (.trainTotalTimeout l) (fun s => laneSt s l.val = laneTRAIN) (fun s => trnFail s l.val 11)) ∧
    (∀ (l : Lane) cws us sym, Acts (.confirmWindowEnd l cws sym 0 us)
      (fun s => flag s HID.LANE_CONFIRM l.val = true ∧ laneSt s l.val = laneACQUIRE ∧ flag s SHF_FEC_STAT.LOCK l.val = true ∧
        sym * 2 ^ rd s SHF_TRN_CFG.CONFIRM_LOG (l.val / 8) ≤ 544 * cws)
      (fun s => setLane raise (bump (wrs s [(HID.LANE_CONFIRM, l.val, 0), (SHF_RX_CDR.LOCK, l.val, 1)])
        SHF_LANE_CNT.LIVE_ENTRIES l.val) l.val laneLIVE 0)) ∧
    (∀ (l : Lane) cws us sym unc, unc ≠ 0 → Acts (.confirmWindowEnd l cws sym unc us)
      (fun s => flag s HID.LANE_CONFIRM l.val = true) (fun s => failAttempt raise s l.val 8)))

/-- ALIGNMENT_MARKER_RX, FEC_LOCK, FEC_LOCK_LOSS, FEC_WINDOW_END, FEC_COUNTER_CLEAR (R272 to R276, R282, R283): a
recognised marker names its lane and count and deskews the port, in standard mode by that standard's own (log entry
108); FEC lock is taken, with the clock recovered (the model's reading, log entry 107), and lost, a loss in LIVE
enters HOLD; the end of a full window loads its result and compares it with the lane's threshold; a clear that meets
it comes after it (R284). CODEWORD_DECODED in a window that no performance event watches (R281 to R283): CW_TOTAL
and the bin of its corrected symbols count one each, SYM_CORR and BIT_CORR their amounts, CW_CORR one if any symbol
was corrected; an uncorrectable one counts CW_UNCORR and sets its event bit; the window in progress takes it in. The
transmit side's codes (R264, R266, R268, R269): four blocks are transcoded to 257 bits; two codewords are
interleaved symbol by symbol; the punctured inner code makes 16 bits of every 15, its register and phase going on
from one stretch of bits to the next; pairs of coded bits take the Gray levels. -/
def Obligations.LineCodingActs : Prop :=
  (
    (∀ (l : Lane) m unc skew, amOk m unc = true → Acts (.alignmentMarkerRx l m unc skew)
      (fun s => receiving s l.val = true ∧ rd s SHF_LANE_STAT.FORMAT l.val ≠ 3) (fun s =>
        deskew (wrs s [(SHF_FEC_STAT.AM_LANE, l.val, leAt m 8 1 % 8), (SHF_FEC_STAT.AM_COUNT, l.val, leAt m 0xA 2),
        (SHF_FEC_STAT.SKEW, l.val, min skew 4095), (SHF_FEC_STAT.HELD, l.val, 0)]) l.val (leAt m 8 1 % 8) (decide (3000 < skew)))) ∧
    (∀ (l : Lane) m unc skew, Acts (.alignmentMarkerRx l m unc skew)
      (fun s => receiving s l.val = true ∧ rd s SHF_LANE_STAT.FORMAT l.val = 3) (fun s =>
        match Config.stdMarker m unc with
        | none => s
        | some (am, n) => deskew (wrs s [(SHF_FEC_STAT.AM_LANE, l.val, am), (SHF_FEC_STAT.AM_COUNT, l.val, n),
          (SHF_FEC_STAT.SKEW, l.val, min skew 4095), (SHF_FEC_STAT.HELD, l.val, 0)]) l.val am (decide (Config.stdSkew < skew)))) ∧
    (∀ (l : Lane) held, Acts (.fecLock l held) (fun s => receiving s l.val = true)
      (fun s => wrs s [(SHF_FEC_STAT.LOCK, l.val, 1), (SHF_FEC_STAT.HELD, l.val, b2n (held && laneSt s l.val == laneHOLD)),
        (SHF_RX_CDR.LOCK, l.val, 1)])) ∧
    (∀ (l : Lane) ab tp lv, Acts (.fecLockLoss l ab tp lv)
      (fun s => flag s SHF_FEC_STAT.LOCK l.val = true ∧ laneSt s l.val = laneLIVE)
      (fun s => enterHold (bump (wr (windowReset (wrs s [(SHF_FEC_STAT.LOCK, l.val, 0), (SHF_FEC_STAT.HELD, l.val, 0)]) l.val)
        SHF_FEC_EVT.LOCK_LOST l.val 1) SHF_FEC_CNT.LOCK_LOSS l.val) l.val ab tp lv)) ∧
    (∀ l : Lane, Acts (.fecWindowEnd l)
      (fun s => flag s SHF_FEC_STAT.LOCK l.val = true ∧ 2 ^ rd s SHF_FEC_CFG.WIN_LOG2 l.val ≤ rd s HID.FEC_WIN_CW l.val ∧
        rd s SHF_FEC_CFG.DEG_PPB l.val ≤ serPpb s l.val)
      (fun s => faultC (0x5C0 + l.val / 8) (wrs (windowReset (wrs s [(SHF_FEC_WIN.SER_PPB, l.val, serPpb s l.val),
        (SHF_FEC_WIN.TAIL, l.val, rd s HID.FEC_WIN_TAIL l.val), (SHF_FEC_WIN.UNCORR_SEEN, l.val, rd s HID.FEC_WIN_UNC l.val)]) l.val)
        [(SHF_FEC_WIN.DEG, l.val, 1), (SHF_FEC_EVT.DEG, l.val, 1)]))) ∧
    (∀ l : Lane, Acts (.fecWindowEnd l)
      (fun s => flag s SHF_FEC_STAT.LOCK l.val = true ∧ 2 ^ rd s SHF_FEC_CFG.WIN_LOG2 l.val ≤ rd s HID.FEC_WIN_CW l.val ∧
        2 * serPpb s l.val < rd s SHF_FEC_CFG.DEG_PPB l.val)
      (fun s => wr (windowReset (wrs s [(SHF_FEC_WIN.SER_PPB, l.val, serPpb s l.val),
        (SHF_FEC_WIN.TAIL, l.val, rd s HID.FEC_WIN_TAIL l.val), (SHF_FEC_WIN.UNCORR_SEEN, l.val, rd s HID.FEC_WIN_UNC l.val)]) l.val)
        SHF_FEC_WIN.DEG l.val 0)) ∧
    (∀ l : Lane, Acts (.fecCounterClear l) (fun _ => True)
      (fun s => wrFrom (wrs (fecWindow s l.val) [(SHF_FEC_CNT.CW_TOTAL, l.val, 0), (SHF_FEC_CNT.CW_CORR, l.val, 0), (SHF_FEC_CNT.SYM_CORR, l.val, 0),
        (SHF_FEC_CNT.BIT_CORR, l.val, 0), (SHF_FEC_CNT.INNER_FLIP, l.val, 0), (SHF_FEC_CNT.CW_UNCORR, l.val, 0),
        (SHF_FEC_CNT.LOCK_LOSS, l.val, 0)]) SHF_FEC_HIST.COUNT (l.val * 16) 0 16))) ∧
  (
    (∀ (l : Lane) c, c.uncorr = false → Acts (.codewordDecoded l c) (fun s => flag s SHF_FEC_STAT.LOCK l.val = true) (fun s =>
      let n := min c.symbols 15
      let s0 := perfLane (perfLane s l.val 0x20 0 1) l.val 0x27 0 c.innerFlip
      let s1 := perfLane (stat (stat s0 SHF_FEC_CNT.CW_TOTAL l.val 1) SHF_FEC_CNT.INNER_FLIP l.val c.innerFlip) l.val 0x21 0 n
      let s2 := stat (stat (stat s1 SHF_FEC_HIST.COUNT (l.val * 16 + n) 1) SHF_FEC_CNT.SYM_CORR l.val n) SHF_FEC_CNT.BIT_CORR l.val c.bits
      windowAdd (stat s2 SHF_FEC_CNT.CW_CORR l.val (if n = 0 then 0 else 1)) l.val c)) ∧
    (∀ (l : Lane) c, c.uncorr = true → Acts (.codewordDecoded l c) (fun s => flag s SHF_FEC_STAT.LOCK l.val = true) (fun s =>
      let s0 := perfLane (perfLane s l.val 0x20 0 1) l.val 0x27 0 c.innerFlip
      let s1 := perfLane (stat (stat s0 SHF_FEC_CNT.CW_TOTAL l.val 1) SHF_FEC_CNT.INNER_FLIP l.val c.innerFlip) l.val 0x22 0 1
      windowAdd (wr (bump s1 SHF_FEC_CNT.CW_UNCORR l.val) SHF_FEC_EVT.UNCORR l.val 1) l.val c))) ∧
  (
    (∀ l : List PcsBlock, l.length = 4 → (transcode l).length = 257) ∧
    (∀ (a b : List Nat) i, a.length = b.length → i < a.length →
      ((interleave a b).drop (20 * i)).take 20 = natBits 10 (a.getD i 0) ++ natBits 10 (b.getD i 0)) ∧
    (∀ r (l : List Bool), l.length % 15 = 0 →
      (innerEncode r 0 l).2.1 = 0 ∧ (innerEncode r 0 l).2.2.length * 15 = l.length * 16) ∧
    (∀ r p (l m : List Bool), innerEncode r p (l ++ m) =
      (let x := innerEncode r p l
        let y := innerEncode x.1 x.2.1 m
        (y.1, y.2.1, x.2.2 ++ y.2.2))) ∧
    pamLevel (gray false false) = -3 ∧ pamLevel (gray false true) = -1 ∧ pamLevel (gray true true) = 1 ∧
      pamLevel (gray true false) = 3)

/-- MAC_RX_FRAME, MAC_TX_FRAME (R290, R292 to R294): an UP port counts and drops what fails its checks, delivers the
rest through its receive channels, and sends what stands at its MAC. The order of the receive checks is the model's
(log entry 29). PFC_FRAME_RX, PFC_PAUSE_EXPIRE, REMOTE_FAULT_RX, MKA_HELLO_TIMER, MKPDU_RX, MKA_LIFE_EXPIRE (R289,
R290, R296): the events of a port and of its MKA participant. -/
def Obligations.PortsAndMacFramesAct : Prop :=
  (
    (∀ (p : Port) f, f.codeErr = true → Acts (.macRxFrame p f) (fun s => portUp s p.val = true)
      (fun s => macDrop s PRT_MAC_ERR.CODE 3 p.val)) ∧
    (∀ (p : Port) f, f.codeErr = false → f.len < 64 → Acts (.macRxFrame p f) (fun s => portUp s p.val = true)
      (fun s => macDrop s PRT_MAC_ERR.RUNT 1 p.val)) ∧
    (∀ (p : Port) f, f.codeErr = false → 64 ≤ f.len → Acts (.macRxFrame p f)
      (fun s => portUp s p.val = true ∧ rd s PRT_CFG.MAX_LEN p.val < f.len) (fun s => macDrop s PRT_MAC_ERR.OVERSIZE 2 p.val)) ∧
    (∀ (p : Port) f, f.codeErr = false → 64 ≤ f.len → f.fcsOk = false → Acts (.macRxFrame p f)
      (fun s => portUp s p.val = true ∧ f.len ≤ rd s PRT_CFG.MAX_LEN p.val) (fun s => macDrop s PRT_MAC_ERR.FCS 0 p.val)) ∧
    (∀ (p : Port) f, f.codeErr = false → 64 ≤ f.len → f.fcsOk = true → f.mkpdu = false → Acts (.macRxFrame p f)
      (fun s => portUp s p.val = true ∧ f.len ≤ rd s PRT_CFG.MAX_LEN p.val ∧ chansOf s p.val 1 = [])
      (fun s => deliver s p.val f 0 false)) ∧
    (∀ (p : Port) n (k : Pkt), Acts (.macTxFrame p n)
      (fun s => pktOf s n = some k ∧ k.loc = .toMac p.val ∧ portUp s p.val = true ∧ k.expired = false ∧
        rd s PRT_CFG.MAX_LEN p.val < k.len)
      (fun s => losePkt (macDrop s PRT_MAC_ERR.OVERSIZE 2 p.val) k)) ∧
    (∀ (p : Port) n (k : Pkt), Acts (.macTxFrame p n)
      (fun s => pktOf s n = some k ∧ k.loc = .toMac p.val ∧ portUp s p.val = true ∧ k.expired = false ∧
        k.len ≤ rd s PRT_CFG.MAX_LEN p.val ∧ txChan s p.val = none) (fun s => macSend s p.val (max 64 k.len) k id)) ∧
    (∀ (p : Port) n (k : Pkt) c, Acts (.macTxFrame p n)
      (fun s => pktOf s n = some k ∧ k.loc = .toMac p.val ∧ portUp s p.val = true ∧ k.expired = false ∧
        k.len ≤ rd s PRT_CFG.MAX_LEN p.val ∧ txChan s p.val = some c) (fun s => secTx s p.val (max 64 k.len) c k)) ∧
    (∀ (p : Port) n (k : Pkt), Acts (.macTxFrame p n)
      (fun s => pktOf s n = some k ∧ k.loc = .toMac p.val ∧ portUp s p.val = true ∧ k.expired = true) (fun s => expire s k)) ∧
    ∀ s (p : Port) (k : Pkt) c, saOn s c (txAnOf s (k.gen % 2) c) = true →
      (rd s MSC_SA.PN (2 * c + txAnOf s (k.gen % 2) c) < pnLast → ∃ t,
        secTx s p.val (max 64 k.len) c k = macSend t p.val (max 64 k.len + secAdds s c) k
          (Config.macsecSeal ((tabGet s.saks (c, txAnOf s (k.gen % 2) c)).getD 0) (rd s MSC_CHAN.SCI c)
            (rd s MSC_SA.PN (2 * c + txAnOf s (k.gen % 2) c)) (rd s MSC_SA.AN (2 * c + txAnOf s (k.gen % 2) c))
            (coffBytes (rd s MSC_CHAN.COFF c)) (flag s HID.MSC_INC_SCI c))) ∧
      (pnLast ≤ rd s MSC_SA.PN (2 * c + txAnOf s (k.gen % 2) c) → saOn s c (1 - txAnOf s (k.gen % 2) c) = false →
        secTx s p.val (max 64 k.len) c k =
          raise (0x580 + p.val / 8) 2 [] (losePkt (perfPort (bump s MSC_CNT.NO_SA c) p.val 0x37 2 1) k))) ∧
  (
    (∀ (p : Port) q, Acts (.pfcFrameRx p q) (fun s => portUp s p.val = true)
      (fun s => q.foldl (pfcClass p.val) (bump s PRT_MAC_ERR.PFC_RX p.val))) ∧
    (∀ (p : Port) k, Acts (.pfcPauseExpire p k) (fun _ => True) (fun s => wr s HID.PRT_PAUSE (8 * p.val + k.val) 0)) ∧
    (∀ (p : Port) on, Acts (.remoteFaultRx p on) (fun s => (portDef s p.val).isSome = true)
      (fun s => portEval raise false (wr s HID.PRT_REMOTE p.val (b2n on)) p.val)) ∧
    (∀ (p : Port) c, Acts (.mkaHelloTimer p)
      (fun s => txChan s p.val = some c ∧ flag s HID.MKA_ON p.val = true ∧ portUp s p.val = true ∧
        flag s MSC_CHAN.KEY_SERVER c = true ∧ needsSak s p.val c = true) (fun s => sakNew s p.val c)) ∧
    (∀ (p : Port) c, Acts (.mkaHelloTimer p)
      (fun s => txChan s p.val = some c ∧ flag s HID.MKA_ON p.val = true ∧ portUp s p.val = true ∧
        flag s MSC_CHAN.KEY_SERVER c = false) (fun s => emit s (.mkpdu c none))) ∧
    (∀ (p : Port) m c, Acts (.mkpduRx p m)
      (fun s => txChan s p.val = some c ∧ flag s HID.MKA_ON p.val = true ∧ portUp s p.val = true ∧
        Config.mkaIcv (mkaKey s p.val txtIck) m.body = m.icv) (fun s => mkpduTake s p.val c m)) ∧
    (∀ (p : Port) m, Acts (.mkpduRx p m) (fun s => Config.mkaIcv (mkaKey s p.val txtIck) m.body ≠ m.icv) id) ∧
    (∀ (p : Port) sci (e : Nat × Nat × Nat × Bool), Acts (.mkaLifeExpire p sci)
      (fun s => (peersOf s p.val).find? (fun x => x.2.1 == sci) = some e ∧
        (chansOf { s with peers := tabDel s.peers (p.val, e.1) } p.val 1).find? (fun x =>
          rd { s with peers := tabDel s.peers (p.val, e.1) } MSC_CHAN.SCI x == sci) = none ∧
        txChan { s with peers := tabDel s.peers (p.val, e.1) } p.val = none)
      (fun s => { s with peers := tabDel s.peers (p.val, e.1) })))

/-- A frame of an UP port with receive channels (R292, R293): one that validates is delivered with its channel and AN,
its PN becomes the lowest acceptable one less the window; one that fails is counted by its cause, and discarded
under Strict, or when late under Check. -/
def Obligations.ReceivedFramesAreCheckedByTheirChannel : Prop :=
  ∀ (p : Port) (f : RxFrame) s c0 cs, portUp s p.val = true → f.codeErr = false → 64 ≤ f.len → f.fcsOk = true →
    f.mkpdu = false → f.len ≤ rd s PRT_CFG.MAX_LEN p.val → chansOf s p.val 1 = c0 :: cs →
    (f.tagged = false → rd s MSC_CHAN.VALIDATE c0 = 2 → rxChan s (c0 :: cs) f = none →
      exec (.macRxFrame p f) s = .next (perfPort (bump s MSC_CNT.UNTAGGED c0) p.val 0x37 3 1)) ∧
    (f.tagged = true → ∀ c, rxChan s (c0 :: cs) f = some c →
      (rxSa s c f.an = none → rd s MSC_CHAN.VALIDATE c = 2 →
        exec (.macRxFrame p f) s = .next (perfPort (bump s MSC_CNT.NO_SA c) p.val 0x37 2 1)) ∧
      ∀ a, rxSa s c f.an = some a →
        (f.pn < rd s MSC_SA.PN (2 * c + a) → rd s MSC_CHAN.VALIDATE c = 1 ∨ rd s MSC_CHAN.VALIDATE c = 2 →
          exec (.macRxFrame p f) s = .next (perfPort (bump s MSC_CNT.LATE c) p.val 0x37 0 1)) ∧
        (rd s MSC_SA.PN (2 * c + a) ≤ f.pn → f.icvOk = false → rd s MSC_CHAN.VALIDATE c = 2 →
          exec (.macRxFrame p f) s = .next (perfPort (bump s MSC_CNT.NOT_VALID c) p.val 0x37 1 1)) ∧
        (rd s MSC_SA.PN (2 * c + a) ≤ f.pn → f.icvOk = true →
          exec (.macRxFrame p f) s = .next (deliver (wr
            (perfPort (stat (stat s MSC_CNT.PKTS c 1) MSC_CNT.OCTETS c f.len) p.val 0x36 0 1) MSC_SA.PN (2 * c + a)
            (max (rd s MSC_SA.PN (2 * c + a)) (f.pn + 1 - rd s MSC_CHAN.WINDOW c))) p.val f
            (c + 8192 * (f.an % 4) + 32768) false)) ∧
        (rd s MSC_SA.PN (2 * c + a) ≤ f.pn → f.icvOk = false → rd s MSC_CHAN.VALIDATE c ≠ 2 →
          exec (.macRxFrame p f) s = .next (deliver (perfPort (bump s MSC_CNT.NOT_VALID c) p.val 0x37 1 1) p.val f
            (c + 8192 * (f.an % 4)) (rd s MSC_CHAN.VALIDATE c == 1))))

/-- PORT_ADMIN, PORT_CLR, MSC_CHAN_SET, MSC_CHAN_DEL, MSC_TX_AN, MSC_RX_RETIRE, MKA_SET, MKA_DEL, CAK_INSTALL,
CAK_DELETE (R289, R292, R296 to R299). -/
def Obligations.PortAndMacsecOpcodesComplete : Prop :=
  Completes .portAdmin opPortAdmin (fun _ _ => True)
    (fun s a => portEval raise false (wr s PRT_CFG.ADMIN (opd a 0x10 2) (b2n (opdBit a 0x12 0))) (opd a 0x10 2)) (fun _ _ => rOk) ∧
  Completes .portClr opPortClr (fun _ _ => True) (fun s a => portZero s (opd a 0x10 2)) (fun _ _ => rOk) ∧
  Completes .mscChanSet opMscChanSet (fun s a => rd s MSC_CHAN.STATE (opd a 0x10 2) = 1)
    (fun s a => wrs s [(MSC_CHAN.COFF, opd a 0x10 2, chanCoff a), (MSC_CHAN.VALIDATE, opd a 0x10 2, chanValidate a),
      (MSC_CHAN.WINDOW, opd a 0x10 2, opd a 0x20 4)]) (fun _ _ => rOk) ∧
  Completes .mscChanSet opMscChanSet (fun s a => rd s MSC_CHAN.STATE (opd a 0x10 2) ≠ 1)
    (fun s a => wrs s [(MSC_CHAN.COFF, opd a 0x10 2, chanCoff a), (MSC_CHAN.VALIDATE, opd a 0x10 2, chanValidate a),
      (MSC_CHAN.WINDOW, opd a 0x10 2, opd a 0x20 4), (MSC_CHAN.STATE, opd a 0x10 2, 1), (MSC_CHAN.DIR, opd a 0x10 2, chanDir a),
      (MSC_CHAN.PORT, opd a 0x10 2, opd a 0x14 2), (MSC_CHAN.SCI, opd a 0x10 2, opd a 0x18 8),
      (HID.MSC_INC_SCI, opd a 0x10 2, b2n (opdBit a 0x12 5))]) (fun _ _ => rOk) ∧
  Completes .mscChanDel opMscChanDel (fun s a => boundTo s (rd s MSC_CHAN.PORT (opd a 0x10 2)) 0 (opd a 0x10 2) = false)
    (fun s a => chanFree s (opd a 0x10 2)) (fun _ _ => rOk) ∧
  Completes .mscTxAn opMscTxAn (fun _ _ => True)
    (fun s a => setGen s (genNow s) (txAnIn (curGen s) (opd a 0x10 2) (opdB a 0x12))) (fun _ _ => rOk) ∧
  Completes .mscRxRetire opMscRxRetire (fun _ _ => True) (fun s a => saDrop s (opd a 0x10 2) (opdB a 0x12)) (fun _ _ => rOk) ∧
  Completes .mkaSet opMkaSet (fun _ _ => True) (fun s a =>
    let s2 := mkaStart (wrs s [(HID.MKA_CAK, opd a 0x10 2, opd a 0x12 2), (HID.MKA_PRIO, opd a 0x10 2, opdB a 0x14)]) (opd a 0x10 2)
    match txChan s2 (opd a 0x10 2) with
    | some c => wrs s2 [(MSC_CHAN.COFF, c, bitsOf (opdB a 0x15) 0 2), (MSC_CHAN.ROLL, c, b2n (opdBit a 0x15 2))]
    | none => s2) (fun _ _ => rOk) ∧
  Completes .mkaDel opMkaDel (fun _ _ => True) (fun s a => mkaStop s (opd a 0x10 2)) (fun _ _ => rOk) ∧
  (∀ (r : Ring) s a, Runs opCakInstall s r a → exec (.cakInstall r) s = .next (
    let s1 := popFront s r.val
    match openSecret r.val a (sliceOf a.cmd.buf 0x24 32) (sliceOf a.cmd.buf 0x44 16) with
    | none => finish s1 r.val a ⟨.invalid, 0, none, false⟩
    | some key =>
      let c : Cak := ⟨BitVec.ofNat 256 (leVal key), sliceOf a.cmd.buf 4 (opdBuf a 2 1)⟩
      let s2 := keyStep { s1 with caks := tabPut s1.caks (opdBuf a 0 2, 0) c }
      finish (audit ((cakUsers s1 (opdBuf a 0 2)).foldl mkaStart s2) 7 a.role a.cred a.handle 0x7E 0 (leBytes 2 (opdBuf a 0 2)))
        r.val a rOk)) ∧
  Completes .cakDelete opCakDelete (fun s a => (tabGet s.caks (opd a 0x10 2, 0)).isSome = true)
    (fun s a =>
      let s1 := keyStep { s with caks := tabDel s.caks (opd a 0x10 2, 0) }
      audit ((cakUsers s (opd a 0x10 2)).foldl mkaStop s1) 7 a.role a.cred a.handle 0x7F 0 (leBytes 2 (opd a 0x10 2)))
    (fun _ _ => rOk)

/-- Staging (R185): each opcode that may be staged, with STAGE set and its landing OPEN and its own, joins the landing's
cargo and completes with OK; GAL_ASSIGN takes effect only so (R316). -/
def Obligations.StagedCommandsJoinTheirLanding : Prop :=
  Stages .galAssign opGalAssign ∧ Stages .tblInsert opTblInsert ∧ Stages .tblModify opTblModify ∧
    Stages .tblDelete opTblDelete ∧ Stages .tblBulk opTblBulk ∧ Stages .tblDefault opTblDefault ∧
    Stages .portAdmin opPortAdmin ∧ Stages .mscTxAn opMscTxAn ∧ Stages .mscRxRetire opMscRxRetire ∧
    Stages .tmgQSet opTmgQSet ∧ Stages .tmgNodeSet opTmgNodeSet ∧ Stages .tmgProfileSet opTmgProfileSet ∧
    Stages .tmgGateSet opTmgGateSet ∧ Stages .tmgReplSet opTmgReplSet ∧ Stages .dacSet opDacSet ∧ Stages .pwmSet opPwmSet ∧
    Stages .monSiteSet opMonSiteSet ∧ Stages .monSet opMonSet

/-- SI_OPEN, SI_PUT, SI_CLOSE, SI_ABORT (R309 to R313): one load context is opened on the host's pieces or a flash slot,
takes its pieces in order, and is checked piece by piece and as a whole; a failed check closes it and is answered
INVALID with the check's code. SI_SLOT_WRITE, SI_SLOT_ACTIVE, SI_KEY_SET, SI_SVN_COMMIT (R306, R307, R315). -/
def Obligations.ImageOpcodesComplete : Prop :=
  (
    (∀ (r : Ring) s a, Runs opSiOpen s r a → opdB a 0x10 = 0 → exec (.siOpen r) s = .next (
      let s1 := popFront s r.val
      let x : SiCtx := ⟨a.handle, none, 0, opdBit a 0x11 0, r.val, [], none, [], none⟩
      finish (wrs { s1 with siCtx := some x } [(GLB_SI_STAT.CTX, 0, 1), (GLB_SI_STAT.SOURCE, 0, 0), (GLB_SI_STAT.LANDING, 0, 0)])
        r.val a rOk)) ∧
    (∀ (r : Ring) s a, Runs opSiOpen s r a → opdB a 0x10 ≠ 0 → exec (.siOpen r) s = .next (
      let s1 := popFront s r.val
      let x : SiCtx := ⟨a.handle, none, opdB a 0x10, opdBit a 0x11 0, r.val, [], none, [], none⟩
      let s2 := wrs { s1 with siCtx := some x }
        [(GLB_SI_STAT.CTX, 0, 2), (GLB_SI_STAT.SOURCE, 0, opdB a 0x10), (GLB_SI_STAT.LANDING, 0, 0)]
      { s2 with running := s2.running ++ [⟨r.val, a, .waiting []⟩] })) ∧
    (∀ (r : Ring) s a x, Runs opSiPut s r a → (popFront s r.val).siCtx = some x → exec (.siPut r) s = .next (
      let s1 := popFront s r.val
      match ctxTake s1 { x with bytes := x.bytes ++ a.cmd.buf } with
      | .inr f => finish (ctxFail s1 x f) r.val a ⟨.invalid, f.1 + 256 * f.2, none, false⟩
      | .inl z => finish { cargoAddImage s1 x a with siCtx := some z } r.val a rOk)) ∧
    (∀ (r : Ring) s a x h, Runs opSiClose s r a → (popFront s r.val).siCtx = some x → x.head = some h →
      exec (.siClose r) s = .next (
        let s1 := popFront s r.val
        match imgCheckResult s1 x.landing.isSome h x.bodies with
        | .inr f => finish (ctxFail s1 x f) r.val a ⟨.invalid, f.1 + 256 * f.2, none, false⟩
        | .inl rs => finish (ctxPass (cargoAddImage s1 x a) x a h rs) r.val a rOk)) ∧
    Completes .siAbort opSiAbort (fun s _ => s.siCtx = none) (fun s _ => s) (fun _ _ => rOk) ∧
    (∀ (r : Ring) s a x, Runs opSiAbort s r a → (popFront s r.val).siCtx = some x → exec (.siAbort r) s = .next (
      finish (complete (waitsOn 0x40 []) ⟨.aborted, 0, none, false⟩ (ctxEnd (popFront s r.val) x)) r.val a rOk))) ∧
  (
    Completes .siSlotWrite opSiSlotWrite (fun _ _ => True)
      (fun s a =>
        let old := (tabGet s.flash (4 + b2n (opdBit a 0x1C 0), 0)).getD []
        { s with flash := tabPut s.flash (4 + b2n (opdBit a 0x1C 0), 0) (overlay old (16 * opd a 0x1D 3) a.cmd.buf) }) (fun _ _ => rOk) ∧
    (∀ (r : Ring) s a, Runs (opSiSlotActive true) s r a → exec (.siSlotActive r true) s = .next (
      let s1 := popFront s r.val
      match imgCheckAll s1 false (slotImage s1 (opdB a 0x10)) with
      | .inr f => finish (wrs s1 [(GLB_SI_STAT.REASON, 0, f.1), (GLB_SI_STAT.REGION, 0, f.2)]) r.val a
          ⟨.invalid, f.1 + 256 * f.2, none, false⟩
      | .inl _ => finish (keyStep (wr s1 HID.SI_ACTIVE_SLOT 0 (opdB a 0x10))) r.val a rOk)) ∧
    (∀ (r : Ring) s a, Runs (opSiSlotActive false) s r a → exec (.siSlotActive r false) s = .next (
      finish (wrs (popFront s r.val) [(GLB_SI_STAT.REASON, 0, 6), (GLB_SI_STAT.REGION, 0, 0xFF)]) r.val a
        ⟨.invalid, 0xFF06, none, false⟩)) ∧
    (∀ (r : Ring) s a, Runs opSiKeySet s r a → opdB a 0x1D = 0 → exec (.siKeySet r) s = .next (
      let s1 := popFront s r.val
      if Config.onCurve a.cmd.buf = true then
        finish (audit (keyStep { s1 with siVerify := tabPut s1.siVerify (opdB a 0x1C, 0) a.cmd.buf }) 7 a.role a.cred a.handle 0x47 0
          (bytesOf [opdB a 0x1C, 0])) r.val a rOk
      else finish s1 r.val a ⟨.invalid, 0, none, false⟩)) ∧
    (∀ (r : Ring) s a, Runs opSiKeySet s r a → opdB a 0x1D ≠ 0 → exec (.siKeySet r) s = .next (
      let s1 := popFront s r.val
      match openSecret r.val a (a.cmd.buf.take 32) (a.cmd.buf.drop 32) with
      | some key =>
        finish (audit (keyStep { s1 with siDecrypt := tabPut s1.siDecrypt (opdB a 0x1C, 0) (BitVec.ofNat 256 (leVal key)) }) 7
          a.role a.cred a.handle 0x47 0 (bytesOf [opdB a 0x1C, opdB a 0x1D])) r.val a rOk
      | none => finish s1 r.val a ⟨.invalid, 0, none, false⟩)) ∧
    Completes .siSvnCommit opSiSvnCommit (fun s _ => rd s GLB_SI_INFO.SVN 0 ≤ rd s HID.SI_MIN_SVN 0) (fun s _ => s) (fun _ _ => rOk) ∧
    Completes .siSvnCommit opSiSvnCommit (fun s _ => rd s HID.SI_MIN_SVN 0 < rd s GLB_SI_INFO.SVN 0)
      (fun s _ => keyStep (wr s HID.SI_MIN_SVN 0 (rd s GLB_SI_INFO.SVN 0))) (fun _ _ => rOk))

/-- SI_FLASH_READ_DONE, SI_BOOT_LOAD_DONE, SWITCH_MARKER_RX, SWITCH_HOLD_TIMEOUT (R87, R309, R311, R317): a slot that
was read is checked and takes effect or fails with its code; a hall releases the packets held for a sheaf, on the
marker or with a corrected fault after the limit. -/
def Obligations.ImageEventsAct : Prop :=
  (∀ (x : SiCtx) (w : Run), Acts (.siFlashReadDone true)
    (fun s => s.siCtx = some x ∧ s.running.find? (waitsOn 0x40 []) = some w) (fun s =>
      let s1 := dropRun s w.ring w.acc.cmd.tag
      match imgCheckAll s1 x.landing.isSome (slotImage s (x.source - 1)) with
      | .inr f => finish (ctxFail s1 x f) w.ring w.acc ⟨.invalid, f.1 + 256 * f.2, none, false⟩
      | .inl (h, rs) => finish (ctxPass s1 { x with bytes := slotImage s (x.source - 1) } w.acc h rs) w.ring w.acc rOk)) ∧
  (∀ (x : SiCtx) (w : Run), Acts (.siFlashReadDone false)
    (fun s => s.siCtx = some x ∧ s.running.find? (waitsOn 0x40 []) = some w)
    (fun s => finish (ctxFail (dropRun s w.ring w.acc.cmd.tag) x (6, 0xFF)) w.ring w.acc ⟨.invalid, 0xFF06, none, false⟩)) ∧
  (∀ slot, Acts (.siBootLoadDone true)
    (fun s => bootLoading s slot = true ∧ rd s HID.SI_ACTIVE_SLOT 0 = slot) (fun s =>
      let s0 := wr s HID.BOOT_LOADED 0 1
      match imgCheckAll s0 false (slotImage s0 slot) with
      | .inl (h, rs) => imgAudit (coldApply s0 h rs slot) 0 0 0xFF 0 h.imageId
      | .inr f => faultK (0x1E0 + slot) (if slot = 0 then wrs s0 [(GLB_BOOT_STAT.SIA_BAD, 0, 1), (GLB_BOOT_FAIL.SI_A, 0, f.1)]
          else wrs s0 [(GLB_BOOT_STAT.SIB_BAD, 0, 1), (GLB_BOOT_FAIL.SI_B, 0, f.1)]))) ∧
  (∀ readOk, Acts (.siBootLoadDone readOk) (fun s => flag s HID.BOOT_LOADED 0 = true) id) ∧
  (∀ (h : Hall) (sh : Sheaf), Acts (.switchMarkerRx h sh) (fun _ => True) (fun s => holdRelease s h.val sh.val)) ∧
  (∀ (h : Hall) (sh : Sheaf), Acts (.switchHoldTimeout h sh) (fun s => rd s HID.SW_HOLD (64 * h.val + sh.val) ≠ 0)
    (fun s => faultC (0x680 + (rd s HID.SW_HOLD (64 * h.val + sh.val) - 1)) (bump (holdRelease s h.val sh.val) GLB_SI_ROT.HOLD_TMO 0)))

/-- GALLERY_ENTRY, GRANARY_RESPONSE, LOOKUP_TIMEOUT (R331, R333, R334): a frame is dropped for its reason, waits in the
entry buffer, or is admitted; a response takes a parked packet on, a late one is counted, a missing one drops its
packet. REORDER_RELEASE, GALLERY_FAIL, GALLERY_PEAK_CLEAR, PUNT_FROM_HOST (R150, R332, R340, R343): a packet is
released only when every earlier one of its class is gone; a descriptor from the host is consumed. -/
def Obligations.GalleryEntryLookupsAndReleaseAct : Prop :=
  (
    (∀ (g : Gallery) n look (k : Pkt) p, Acts (.galleryEntry g n look)
      (fun s => pktOf s n = some k ∧ k.loc = .fromMac p ∧ servedBy s (genNow s) (p / 8) = some g.val ∧
        rd s GAL_STAT.STATE g.val ≠ 5 ∧ rd s GAL_STAT.STATE g.val ≠ 0 ∧ 262144 < entryBytes s g.val + k.len)
      (fun s => galDrop s g.val 0x01 k)) ∧
    (∀ (g : Gallery) n look (k : Pkt) p, Acts (.galleryEntry g n look)
      (fun s => pktOf s n = some k ∧ k.loc = .fromMac p ∧ servedBy s (genNow s) (p / 8) = some g.val ∧
        rd s GAL_STAT.STATE g.val = 0) (fun s => galDrop s g.val 0x02 k)) ∧
    (∀ (g : Gallery) n look (k : Pkt) p, Acts (.galleryEntry g n look)
      (fun s => pktOf s n = some k ∧ k.loc = .fromMac p ∧ servedBy s (genNow s) (p / 8) = none ∧ imageOn s = true)
      (fun s => galDrop s (p / 8) 0x08 k)) ∧
    (∀ (g : Gallery) n (k : Pkt) p, Acts (.galleryEntry g n none)
      (fun s => pktOf s n = some k ∧ k.loc = .fromMac p ∧ servedBy s (genNow s) (p / 8) = some g.val ∧
        rd s GAL_STAT.STATE g.val ≠ 5 ∧ rd s GAL_STAT.STATE g.val ≠ 0 ∧ entryBytes s g.val + k.len ≤ 262144)
      (fun s => admitIngress (setPkt s { k with loc := .entry g.val }) g.val none { k with loc := .entry g.val })) ∧
    (∀ (g : Gallery) n look (k : Pkt), Acts (.galleryEntry g n look) (fun s => pktOf s n = some k ∧ k.loc = .entry g.val ∧
        k.expired = false) (fun s => admitIngress s g.val (look.map (·.val)) k)) ∧
    (∀ (g : Gallery) n ns u again, Acts (.granaryResponse g n ns u again) (fun s => pktOf s n = none)
      (fun s => bump s GAL_ERR.LATE_RESP g.val)) ∧
    (∀ (g : Gallery) n ns (k : Pkt), Acts (.granaryResponse g n ns none none)
      (fun s => pktOf s n = some k ∧ k.loc = .ingressPark g.val ∧ k.expired = false)
      (fun s => setPkt (perfGal (trace s k 3 g.val k.inPort k.look 0) g.val 0x5A 0 ns k) { k with loc := .ingress g.val })) ∧
    (∀ (g : Gallery) n (k : Pkt), Acts (.lookupTimeout g n)
      (fun s => pktOf s n = some k ∧ k.expired = false ∧ (k.loc = .ingressPark g.val ∨ k.loc = .egressPark g.val))
      (fun s => faultC (0x6C4 + galDie g.val) (galDrop s g.val 0x03 k))) ∧
    (∀ (g : Gallery) n look (k : Pkt), Acts (.galleryEntry g n look)
      (fun s => pktOf s n = some k ∧ k.loc = .entry g.val ∧ k.expired = true) (fun s => expire s k)) ∧
    (∀ (g : Gallery) n ns u again (k : Pkt), Acts (.granaryResponse g n ns u again)
      (fun s => pktOf s n = some k ∧ k.loc = .ingressPark g.val ∧ k.expired = true) (fun s => expire s k)) ∧
    (∀ s (g : Gallery) look k, galRuns s g.val = false ∨ flipDue s = true → admitIngress s g.val look k = s)) ∧
  (
    (∀ (g : Gallery) n (k : Pkt), Acts (.reorderRelease g n)
      (fun s => pktOf s n = some k ∧ k.loc = .ingressReorder g.val ∧ k.expired = false ∧ mayRelease s g.val false k = true)
      (fun s => sendToHalls (trace s k 4 g.val k.inPort 0 0) g.val k)) ∧
    (∀ (g : Gallery) n (k : Pkt), Acts (.reorderRelease g n)
      (fun s => pktOf s n = some k ∧ k.loc = .egressReorder g.val ∧ k.expired = false ∧ mayRelease s g.val true k = true)
      (fun s => sendPkt (trace s k 8 g.val k.outPort 0 0) { k with loc := .toMac k.outPort })) ∧
    (∀ (g : Gallery) n (k : Pkt), Acts (.reorderRelease g n)
      (fun s => pktOf s n = some k ∧ k.loc = .ingressReorder g.val ∧ k.expired = false ∧ mayRelease s g.val false k = false)
      (fun s => s)) ∧
    (∀ (g : Gallery) n (k : Pkt), Acts (.reorderRelease g n)
      (fun s => pktOf s n = some k ∧ k.loc = .ingressReorder g.val ∧ k.expired = true) (fun s => expire s k)) ∧
    (∀ g : Gallery, Acts (.galleryFail g) (fun _ => True) (fun s => galFail raise s g.val)) ∧
    (∀ g : Gallery, Acts (.galleryPeakClear g) (fun _ => True) (fun s => wr s GAL_WIN.PEAK g.val (inFlight s g.val))) ∧
    (∀ (p : Fin 64) (d : PuntDesc) (q : PuntRing), 60 ≤ d.len → d.len ≤ 16383 → d.mode = true → Acts (.puntFromHost p d true)
      (fun s => tabGet s.punts (puntKey p.val true) = some q ∧ q.en = true ∧ q.head ≠ q.tail ∧ flag s HID.D3HOT 0 = false)
      (fun s => hostToQueue (perf (perf (stat (puntAdvance s (puntKey p.val true) q 0x0A [3]) HIF_PUNT_STAT.FROM_HOST p.val 1)
        (perfE 0x07 1)) (perfE 0x05 (d.len + 16))) (d.target % 1048576) (d.len + 4)
        (d.frame.take d.len ++ leBytes 4 (crc32 (d.frame.take d.len))))) ∧
    (∀ (p : Fin 64) (d : PuntDesc) (q : PuntRing), 60 ≤ d.len → d.len ≤ 16383 → d.mode = false → Acts (.puntFromHost p d true)
      (fun s => tabGet s.punts (puntKey p.val true) = some q ∧ q.en = true ∧ q.head ≠ q.tail ∧ flag s HID.D3HOT 0 = false)
      (fun s => hostToPort (perf (perf (stat (puntAdvance s (puntKey p.val true) q 0x0A [1]) HIF_PUNT_STAT.FROM_HOST p.val 1)
        (perfE 0x07 1)) (perfE 0x05 (d.len + 16))) (d.target % 512) (d.len + 4)
        (d.frame.take d.len ++ leBytes 4 (crc32 (d.frame.take d.len))))) ∧
    (∀ (p : Fin 64) (d : PuntDesc) (ok : Bool), Acts (.puntFromHost p d ok) (fun s => flag s HID.D3HOT 0 = true) id))

/-- INGRESS_FLIGHT_END and EGRESS_FLIGHT_END (R325, R327, R336 to R338): the flight's program gives the results; then
the steps of R336 in their order: a hardware drop, (on ingress another pass asked for on pass 3 or with the
recirculation queue full, on egress a port that is not UP,) the flight's own drop, a punt without a copy, another
pass, and else the reorder stage. An operation of the program whose condition is false changes nothing, one that
holds writes only its destinations and its carry bit; of the frame only the extracted bytes are rewritten. -/
def Obligations.FlightsEndByTheirDisposition : Prop :=
  (∀ (g : Gallery) n (f : Flight) (r : FlightResult) v (k : Pkt) s, pktOf s n = some k → k.loc = .ingress g.val →
    k.expired = false → f.poison = [] → f.sramErr = [] → flightRes s f false k = (r, v) →
    (f.hwDrop = 2 → exec (.ingressFlightEnd g n f) s = .next (galDrop (flightLookups s g.val k r).1 g.val 2 k)) ∧
    (f.hwDrop = 0 → r.recirc = true → 3 ≤ k.pass →
      exec (.ingressFlightEnd g n f) s = .next (galDrop (flightLookups s g.val k r).1 g.val 5 k)) ∧
    (f.hwDrop = 0 → r.recirc = true → k.pass < 3 → 64 ≤ recircWaiting s g.val →
      exec (.ingressFlightEnd g n f) s = .next (galDrop (flightLookups s g.val k r).1 g.val 6 k)) ∧
    (f.hwDrop = 0 → recircReason s g.val r k = 0 → r.drop % 256 ≠ 0 →
      exec (.ingressFlightEnd g n f) s = .next (galDrop (flightLookups s g.val k r).1 g.val (dropCode r) k)) ∧
    (f.hwDrop = 0 → recircReason s g.val r k = 0 → r.drop % 256 = 0 → r.punt = true →
      r.copy = false → exec (.ingressFlightEnd g n f) s = .next (galPunt (losePkt (flightLookups s g.val k r).1 k) g.val r k)) ∧
    (f.hwDrop = 0 → r.drop % 256 = 0 → r.punt = false → r.recirc = true → k.pass < 3 →
      recircWaiting s g.val < 64 → exec (.ingressFlightEnd g n f) s = .next (recirculate (flightLookups s g.val k r).1 g.val r v k)) ∧
    (f.hwDrop = 0 → r.drop % 256 = 0 → r.punt = false → r.recirc = false →
      exec (.ingressFlightEnd g n f) s = .next
        (setPkt (flightLookups s g.val k r).1 { carry k r with loc := .ingressReorder g.val }))) ∧
  (∀ (g : Gallery) n (f : Flight) (r : FlightResult) v (k : Pkt) s, pktOf s n = some k → k.loc = .egress g.val →
    k.expired = false → f.poison = [] → f.sramErr = [] → flightRes s f true k = (r, v) →
    (f.hwDrop = 2 → exec (.egressFlightEnd g n f) s = .next (galDrop (flightLookups s g.val k r).1 g.val 2 k)) ∧
    (f.hwDrop = 0 → portUp (flightLookups s g.val k r).1 k.outPort = false →
      exec (.egressFlightEnd g n f) s = .next (galDrop (flightLookups s g.val k r).1 g.val 0x07 k)) ∧
    (f.hwDrop = 0 → portUp (flightLookups s g.val k r).1 k.outPort = true → r.drop % 256 ≠ 0 →
      exec (.egressFlightEnd g n f) s = .next (galDrop (flightLookups s g.val k r).1 g.val (dropCode r) k)) ∧
    (f.hwDrop = 0 → portUp (flightLookups s g.val k r).1 k.outPort = true → r.drop % 256 = 0 → r.punt = false →
      exec (.egressFlightEnd g n f) s = .next (setPkt (flightLookups s g.val k r).1
        { k with loc := .egressReorder g.val, len := r.len, data := r.frame, res := some r }))) ∧
  (∀ (g : Gallery) n (f : Flight) (k : Pkt) s, pktOf s n = some k → k.expired = true →
    (k.loc = .ingress g.val → exec (.ingressFlightEnd g n f) s = .next (expire s k)) ∧
    (k.loc = .egress g.val → exec (.egressFlightEnd g n f) s = .next (expire s k))) ∧
  (∀ v0 fs v ps (c : AluChain), (condHolds v0 ps c.cond = false → (runChain v0 fs (v, ps) c).1 = v) ∧
    ∀ x, x ∉ c.units.map (·.2.2) → c.carryOut.all (fun e => e.1 != x) = true →
      vget (runChain v0 fs (v, ps) c).1 x = vget v x) ∧
  ∀ (f : Flight) (k : Pkt) p v o, f.insert = [] → f.remove = 0 → o ∉ p.taken.map (·.2) →
    (deparse f k p v).getD o 0 = k.data.getD o 0

/-- TBL_INSERT, TBL_MODIFY, TBL_DELETE, TBL_BULK without STAGE (R355 to R361): the records are applied in order to the
current copy until one fails; the command answers OK, or the failure, for a bulk with the number applied.
TBL_DEFAULT, TBL_READ, TBL_CNT_READ, TBL_CNT_CLEAR, TBL_CLEAR, TBL_REPAIR, COUNTER_WRITEBACK (R353 to R355, R363,
R364). -/
def Obligations.TableOpcodesComplete : Prop :=
  (
    (∀ (c : Ring → Instr) (o : OpSpec), (c, o) ∈ ([(.tblInsert, opTblInsert), (.tblModify, opTblModify), (.tblDelete, opTblDelete),
        (.tblBulk, opTblBulk)] : List ((Ring → Instr) × OpSpec)) → ∀ (r : Ring) s a, Runs o s r a →
      (∀ t n, applyAll o.op (2 ^ a.role / 2) (cmdRecs (popFront s r.val) a) 0 (popFront s r.val) = (t, n, none) →
        exec (c r) s = .next (finish (sumNoteAll t a) r.val a rOk)) ∧
      (∀ t p, o.op ≠ 0x33 → applyAll o.op (2 ^ a.role / 2) (cmdRecs (popFront s r.val) a) 0 (popFront s r.val) = (t, 0, some p) →
        exec (c r) s = .next (finish t r.val a p)) ∧
      (∀ t n p, o.op = 0x33 → n ≠ 0 →
        applyAll o.op (2 ^ a.role / 2) (cmdRecs (popFront s r.val) a) 0 (popFront s r.val) = (t, n, some p) →
        exec (c r) s = .next (finish (sumNoteAll t a) r.val a { p with data := some n })))) ∧
  (
    Completes .tblDefault opTblDefault (fun _ _ => True)
      (fun s a => sumNoteAll (setGen s (genNow s) (putDefault (curGen s) a)) a) (fun _ _ => rOk) ∧
    (∀ r d e, Completes .tblRead opTblRead
      (fun s a => (cmdRecs s a).head? = some r ∧ tableIn (curGen s) r.table = some d ∧ entryOf (curGen s) d r = some e)
      (fun s a => toHost s (opd a 0x10 8) ((entryBytesOf d e).take a.cmd.buf.length)) (fun _ _ => rOk)) ∧
    (∀ r d, Completes .tblRead opTblRead
      (fun s a => (cmdRecs s a).head? = some r ∧ tableIn (curGen s) r.table = some d ∧ entryOf (curGen s) d r = none)
      (fun s _ => s) (fun _ _ => ⟨.ok, 4, none, false⟩)) ∧
    Completes .tblCntRead opTblCntRead (fun _ a => a.cmd.ptr = false) (fun s _ => s)
      (fun s a => ⟨.ok, 0, some (pairNow s (opd a 0x10 4)).1, false⟩) ∧
    Completes .tblCntRead opTblCntRead (fun _ a => a.cmd.ptr = true)
      (fun s a => toHost s (opd a 0x10 8) (leBytes 8 (pairNow s (opd a 0x1C 4)).1 ++ leBytes 8 (pairNow s (opd a 0x1C 4)).2))
      (fun s a => ⟨.ok, 0, some (pairNow s (opd a 0x1C 4)).1, false⟩) ∧
    Completes .tblCntClear opTblCntClear (fun _ _ => True) (fun s a =>
      let inRange := fun (i : Nat) => decide (opd a 0x10 4 ≤ i) && decide (i < opd a 0x10 4 + opd a 0x14 4)
      let s1 := { s with pairs := s.pairs.filter (fun e => !inRange e.1.1) }
      { s1 with cache := s.cache.filter (fun e => !inRange e.1.2) }) (fun _ _ => rOk) ∧
    Completes .tblClear opTblClear (fun _ _ => True)
      (fun s a => sumNoteAll (setGen s (genNow s) (clearIn (curGen s) (opdB a 0x10))) a) (fun _ _ => rOk) ∧
    (∀ d (u : State) n p, Completes .tblRepair opTblRepair
      (fun s a => tableIn (curGen s) (rd s TBL_POISON_LOG.TABLE (opd a 0x1C 4)) = some d ∧
        applyAll 0x33 (2 ^ a.role / 2) ((repairRecs s a).map (fun r => { r with op := 1, upsert := true })) 0
          (repairEmptied s d (opd a 0x1C 4)) = (u, n, p))
      (fun _ a => sumNoteAll u a)
      (fun _ _ => match p with
        | none => rOk
        | some q => { q with data := some n })) ∧
    (∀ (d : Fin 4) i p, Acts (.counterWriteback d i false) (fun s => tabGet s.cache (d.val, i) = some p) (fun s =>
      let s1 := { s with cache := tabDel s.cache (d.val, i) }
      let s2 := { s1 with pairs := tabPut s1.pairs (i, 0) (pairAdd (pairOf s1 i) p) }
      cntWrap (granaryWrite s2 16 8) i (pairOf s1 i) p)) ∧
    (∀ s (g : Nat) (k : Pkt) t i v, i < (genOf s (k.gen % 2)).cntN → tabGet s.cache (galDie g, i) = some v →
      counterHit g k s (t, i) = { s with cache := tabPut s.cache (galDie g, i) (v.1 + 1, v.2 + k.len) }) ∧
    ∀ s d, (s.cache.filter (fun e => Nat.beq e.1.1 d)).length < 65536 → cacheRoom s d = s)

/-- A record's refusals (R361): a table that does not exist is INVALID with DETAIL 1; a key or data that does not fit, 5
(of a delete only the key counts, R355); a counter index at or above N, 6; a poisoned block, UNCORR; an insert of a
key that is there, 3; a modify or delete of one that is not, 4. The order among them is the model's (log entry 33). -/
def Obligations.RecordsAreRefusedByCause : Prop :=
  (∀ s c op r, tableIn c r.table = none → recCheck s c op r = some ⟨.invalid, 1, none, false⟩) ∧
  ∀ s c op r d, tableIn c r.table = some d → op = 1 ∨ op = 2 ∨ op = 3 → r.upsert = false →
    (keyWrong d (usedOf op r) = true → recCheck s c op r = some ⟨.invalid, 5, none, false⟩) ∧
    (keyWrong d (usedOf op r) = false → op ≠ 3 → counterWrong c r.counter = true → recCheck s c op r = some ⟨.invalid, 6, none, false⟩) ∧
    (keyWrong d (usedOf op r) = false → (op = 3 ∨ counterWrong c r.counter = false) → recPoisoned s d r = true →
      recCheck s c op r = some ⟨.uncorr, 0, none, false⟩) ∧
    (keyWrong d (usedOf op r) = false → (op = 3 ∨ counterWrong c r.counter = false) → recPoisoned s d r = false →
      (op = 1 → (entryOf c d r).isSome = true → recCheck s c op r = some ⟨.invalid, 3, none, false⟩) ∧
      (op ≠ 1 → (entryOf c d r).isSome = false → recCheck s c op r = some ⟨.invalid, 4, none, false⟩) ∧
      (op = 3 → (entryOf c d r).isSome = true → prioTaken c d r = false → recCheck s c op r = none))

/-- An insert into a staircase or ternary table adds its entry, a delete takes it away, and a lookup by key in the copy
then says so (R356). -/
def Obligations.RecordsChangeTheirEntryOnly : Prop :=
  ∀ s c d r, tableIn c r.table = some d → d.kind ≠ 2 → r.upsert = false →
    ((entryOf c d r).isSome = false → ∃ e, recPut s c 1 r = (s, { c with entries := c.entries ++ [e] }, false) ∧
      e.table = r.table ∧ e.key = r.key ∧ e.mask = r.mask ∧ e.action = r.action ∧ e.counter = recCounter r.counter ∧
      (d.kind = 1 → e.plen = r.plen ∧ e.data = r.data) ∧ (d.kind = 3 → e.prio = r.prio ∧ e.data = r.data)) ∧
    (recPut s c 3 r = (s, { c with entries := c.entries.filter (fun e => !sameKey d r e) }, false)) ∧
    entryOf { c with entries := c.entries.filter (fun e => !sameKey d r e) } d r = none

/-- HALL_ADMIT (R317, R374): a packet for a queue the map does not name is dropped with code 0x10; one whose queue would
pass MAX_KIB with 0x11; one for a queue without early drop, whose cells fit its Hopper limit and the free pool,
joins the queue in Hopper; a held packet stays. HALL_DEQUEUE (R370, R376 to R378): of a queue's packets the old
generation's come first; the head is dropped for its cause, or leaves for the egress gallery; a closed gate, a
pause, an empty bucket, or a sibling of earlier rank keeps it. -/
def Obligations.HallsAdmitAndDequeue : Prop :=
  (
    (∀ (h : Hall) n b (k : Pkt), k.host = false → Acts (.hallAdmit h n b)
      (fun s => pktOf s n = some k ∧ k.loc = .toHall h.val ∧ k.hold = false ∧ flag s HID.HALL_ISO h.val = false ∧
        k.expired = false ∧ queueTarget s (k.gen % 2) k.queue = none) (fun s => hallDrop s h.val 0x10 none k)) ∧
    (∀ (h : Hall) n b (k : Pkt), Acts (.hallAdmit h n b) (fun s => pktOf s n = some k ∧ k.hold = true) (fun s => s)) ∧
    (∀ s h q k b, flag s TMG_PROFILE.RED_EN (queueOf s q).profile = false →
      rd s TMG_PROFILE.MAX_KIB (queueOf s q).profile * 1024 < depthOf s q + k.len →
      admitQueue s h q k b = hallDrop s h 0x11 (some q) k) ∧
    (∀ s h q k b, flag s TMG_PROFILE.RED_EN (queueOf s q).profile = false → (queueOf s q).spilled = false →
      depthOf s q + k.len ≤ rd s TMG_PROFILE.MAX_KIB (queueOf s q).profile * 1024 →
      256 * (hopperCells (queuePkts s q) + cellsOf k) ≤ hopperLimit s q → cellsOf k ≤ poolFree s h →
      admitQueue s h q k b = enqueue s h q k false) ∧
    (∀ (h : Hall) n b (k : Pkt) p, k.host = false → Acts (.hallAdmit h n b)
      (fun s => pktOf s n = some k ∧ k.loc = .toHall h.val ∧ k.hold = false ∧ flag s HID.HALL_ISO h.val = false ∧
        k.expired = false ∧ queueTarget s (k.gen % 2) k.queue = some (.port p) ∧ k.gen % 2 ≠ genNow s)
      (fun s => bankWake (admitQueue (setPkt s k) h.val k.queue k b) h.val)) ∧
    (∀ (h : Hall) n b (k : Pkt) p, k.host = false → Acts (.hallAdmit h n b)
      (fun s => pktOf s n = some k ∧ k.loc = .toHall h.val ∧ k.hold = false ∧ flag s HID.HALL_ISO h.val = false ∧
        k.expired = true ∧ queueTarget s (k.gen % 2) k.queue = some (.port p))
      (fun s => hallDrop s h.val 0x17 (some k.queue) k))) ∧
  (
    ∀ (h : Hall) (q : Fin 1048576) look (k : Pkt) s, hallOf q.val = h.val → (queueOf s q.val).attach = none →
      headOfQueue s q.val = some k → flag s HID.HALL_ISO h.val = false →
      (k.expired = true → ∀ u, exec (.hallDequeue h q u look) s = .next (headDrop s h.val q.val 0x17 k)) ∧
      (∀ u, k.expired = false → gateOversize s (queuePort s q.val) (queueOf s q.val).tc k.len = true →
        exec (.hallDequeue h q u look) s = .next (headDrop s h.val q.val 0x16 k)) ∧
      (k.expired = false → gateOversize s (queuePort s q.val) (queueOf s q.val).tc k.len = false →
        (∀ u, schedules s h.val q.val = false → exec (.hallDequeue h q u look) s = .next s) ∧
        (schedules s h.val q.val = true →
          exec (.hallDequeue h q true look) s = .next (faultC (0x810 + h.val) (headDrop s h.val q.val 0x19 k)) ∧
          (rd s TMG_PROFILE.AGE_MS (queueOf s q.val).profile ≠ 0 →
            rd s TMG_PROFILE.AGE_MS (queueOf s q.val).profile * 1000000 < residence s k →
            exec (.hallDequeue h q false look) s = .next (headDrop s h.val q.val 0x15 k)) ∧
          (rd s TMG_PROFILE.AGE_MS (queueOf s q.val).profile = 0 →
            exec (.hallDequeue h q false look) s = .next (dequeueTo s h.val q.val (look.map (·.val)) k)))))

/-- The scheduler (R378, R379): a queue is chosen only when its gate is open, its class is not paused and no peak bucket
on its path is negative; an eligible sibling queue of lower PRIO goes first, or of the same PRIO whose round comes
earlier; a queue without rival, gate and limit below its port is chosen; a bucket never holds more than its burst,
fills with its rate, and a frame takes its charge. -/
def Obligations.SchedulerObeysBucketsAndPriorities : Prop :=
  (∀ s h q, schedules s h q = true → maySend s h q = true ∧ ∀ id ∈ queuePath s q, peakOpen s id = true) ∧
  (∀ s h q e, q < 1048576 → e < 1048576 → e ∈ rivals s h q → eligible s h e = true → queueParent s e = queueParent s q →
    (queueOf s e).prio < (queueOf s q).prio ∨ ((queueOf s e).prio = (queueOf s q).prio ∧
      roundsOf s (queueNode e) (headLen s e) < roundsOf s (queueNode q) (headLen s q)) → schedules s h q = false) ∧
  (∀ s h q k, headOfQueue s q = some k → maySend s h q = true → rivals s h q = [] →
    flag s TMG_PORT.GATE_EN (queuePort s q) = false → (∀ id ∈ queuePath s q, peakOpen s id = true) → schedules s h q = true) ∧
  (∀ tok rate kib d, bucketAt tok rate kib d ≤ ((kib * 1024 * 3125 : Nat) : Int) ∧
    (tok + ((4 * rate * d : Nat) : Int) ≤ ((kib * 1024 * 3125 : Nat) : Int) →
      bucketAt tok rate kib d = tok + ((4 * rate * d : Nat) : Int))) ∧
  (∀ s id len charge, let x := nodeFilled s id; let y := nodeSent s id len charge
    (nodePeak s id ≠ 0 → y.pTok = x.pTok - ((3125 * charge : Nat) : Int)) ∧ (nodePeak s id = 0 → y.pTok = x.pTok) ∧
    (x.committed = true → y.cTok = x.cTok - ((3125 * charge : Nat) : Int)) ∧ (x.committed = false → y.cTok = x.cTok))

/-- PFC_REFRESH, GATE_ENTRY_ADVANCE, TM_INTERNAL_ERROR (R381, R382, R385). What isolation of a hall's queues does is the
model's reading (log entry 37). TMG_Q_SET, TMG_NODE_SET, TMG_PROFILE_SET, TMG_GATE_SET, TMG_REPL_SET, TMG_READ,
TMG_Q_FLUSH without STAGE (R371, R373, R377 to R379, R382, R386, R387). -/
def Obligations.TrafficActs : Prop :=
  (
    (∀ (p : Port) (c : Fin 8), Acts (.pfcRefresh p c) (fun s => bitOf (rd s TMG_PORT.XOFF p.val) c.val = true)
      (fun s => pfcSend s p.val c.val 0xFFFF)) ∧
    (∀ (p : Port) (c : Fin 8), Acts (.pfcRefresh p c) (fun s => bitOf (rd s TMG_PORT.XOFF p.val) c.val = false) (fun s => s)) ∧
    (∀ p : Port, Acts (.gateEntryAdvance p)
      (fun s => flag s TMG_PORT.GATE_EN p.val = true ∧ rd s TMG_PORT.ENTRY p.val + 1 < (gatesOf s p.val).active.length)
      (fun s => wrs s [(TMG_PORT.ENTRY, p.val, rd s TMG_PORT.ENTRY p.val + 1),
        (TMG_PORT.GATES, p.val, ((gatesOf s p.val).active.getD (rd s TMG_PORT.ENTRY p.val + 1) (255, 0)).1),
        (HID.GATE_AT, p.val, rd s HID.TICKS 0)])) ∧
    (∀ p : Port, Acts (.gateEntryAdvance p)
      (fun s => flag s TMG_PORT.GATE_EN p.val = true ∧ (gatesOf s p.val).active.length ≤ rd s TMG_PORT.ENTRY p.val + 1)
      (fun s => s)) ∧
    (∀ h : Hall, Acts (.tmInternalError h) (fun _ => True) (fun s => faultK (0x800 + h.val) (wr s HID.HALL_ISO h.val 1)))) ∧
  (
    Completes .tmgQSet opTmgQSet (fun _ _ => True) (fun s a => queueApply s a) (fun _ _ => rOk) ∧
    Completes .tmgNodeSet opTmgNodeSet (fun _ _ => True) (fun s a => nodeApply s a) (fun _ _ => rOk) ∧
    Completes .tmgProfileSet opTmgProfileSet (fun _ _ => True)
      (fun s a => putFields s reg_TMG_PROFILE.flds (opdB a 0x1C) (leVal a.cmd.buf)) (fun _ _ => rOk) ∧
    Completes .tmgGateSet opTmgGateSet (fun _ a => bitOf (opdBuf a 3 1) 0 = false)
      (fun s a => wrs { s with gates := tabDel s.gates (opdBuf a 0 2, 0) } [(TMG_PORT.GATE_EN, opdBuf a 0 2, 0),
        (TMG_PORT.SWAP_PEND, opdBuf a 0 2, 0), (TMG_PORT.ENTRY, opdBuf a 0 2, 0), (TMG_PORT.GATES, opdBuf a 0 2, 255),
        (TMG_PORT.TEV, opdBuf a 0 2, opdBuf a 2 1)]) (fun _ _ => rOk) ∧
    Completes .tmgGateSet opTmgGateSet (fun _ a => bitOf (opdBuf a 3 1) 0 = true ∧ bitOf (opdBuf a 3 1) 1 = true)
      (fun s a =>
        let p := opdBuf a 0 2
        let s1 := wrs s [(TMG_PORT.GATE_EN, p, 1), (TMG_PORT.TEV, p, opdBuf a 2 1), (TMG_PORT.SWAP_PEND, p, 0)]
        gateStart { s1 with gates := tabPut s1.gates (p, 0) ⟨gsList a, none⟩ } p (gsList a)) (fun _ _ => rOk) ∧
    Completes .tmgReplSet opTmgReplSet (fun _ _ => True)
      (fun s a =>
        let c := curGen s
        setGen s (genNow s) { c with repl := tabPut c.repl (opd a 0x1C 2, 0) (replList a) }) (fun _ _ => rOk) ∧
    Completes .tmgRead opTmgRead (fun _ a => opdB a 0x1F = 0)
      (fun s a =>
        let q := opd a 0x1C 3
        let s1 := toHost s (opd a 0x10 8) (queueRecord s q)
        if (queueOf s1 q).maxRes = 0 then s1 else setQueue s1 q { queueOf s1 q with maxRes := 0 }) (fun _ _ => rOk) ∧
    Completes .tmgRead opTmgRead (fun _ a => opdB a 0x1F ≠ 0)
      (fun s a => toHost s (opd a 0x10 8) (nodeRecord s (opd a 0x1C 3))) (fun _ _ => rOk) ∧
    Completes .tmgQFlush opTmgQFlush (fun _ _ => True)
      (fun s a =>
        let ks := queuePkts s (opd a 0x10 3)
        pfcAfter (drrIdle (queueSettle (dropAll s 0x18 ks) (opd a 0x10 3)) (opd a 0x10 3)) ks) (fun _ _ => rOk))

/-- ENGINE_ARRIVE, ENGINE_LEAVE, ID_MEASURE (R54 to R56, R394): arrival makes an absent site HELD and releases nothing;
a RELEASED or LATCHED site that leaves raises a contained fault; an ID voltage sets its code and status.
DAC_CLR_ASSERT, DAC_CLR_RELEASE, DAC_LOAD_PIN, DEGLITCH_HOLD_END, PWM_PERIOD_START (R57, R58, R391 to R393, R396 to
R398): the clear pin moves every channel to its clear code, the load pin strobes every site that enables it.
SIGNAL_DETECT_RESTORED, ALS_PERSIST_EXPIRE, ALS_PERIOD_EXPIRE, ALS_PULSE_EXPIRE, ALS_RECOVER (R403): laser shutdown
goes RUNNING (0) to SHUT (1), SHUT to PULSE (2) and back, and to RUNNING on recovery. -/
def Obligations.EnginesPinsAndLasersAct : Prop :=
  (
    (∀ k : Site, Acts (.engineArrive k) (fun s => flag s EMG_SITE_PRES.PRESENT k.val = false ∧
        siteSt s k.val = siteABSENT)
      (fun s => wrs s [(EMG_SITE_PRES.PRESENT, k.val, 1), (EMG_SITE_PRES.PRES_CHG, k.val, 1), (EMG_SITE_CTRL.STATE, k.val, 1)])) ∧
    (∀ k : Site, Acts (.engineLeave k) (fun s => flag s EMG_SITE_PRES.PRESENT k.val = true ∧ siteSt s k.val = siteHELD)
      (fun s => siteToPads raise (presence s k.val 0) k.val siteABSENT)) ∧
    (∀ k : Site, Acts (.engineLeave k) (fun s => flag s EMG_SITE_PRES.PRESENT k.val = true ∧ siteSt s k.val = siteRELEASED)
      (fun s => faultK (0xC00 + k.val) (siteToPads raise (presence s k.val 0) k.val siteABSENT))) ∧
    (∀ (k : Site) mv, 1800 < mv.toNat → Acts (.idMeasure k mv) (fun s => flag s EMG_SITE_PRES.PRESENT k.val = true)
      (fun s => wrs s [(EMG_SITE_PRES.ID_MV, k.val, mv.toNat), (EMG_SITE_PRES.ID_CODE, k.val, 15), (EMG_SITE_PRES.ID_STAT, k.val, 2)])) ∧
    (∀ (k : Site) mv n, mv.toNat ≤ 1800 → idClass mv.toNat = some n →
      Acts (.idMeasure k mv) (fun s => flag s EMG_SITE_PRES.PRESENT k.val = true)
        (fun s => wrs s [(EMG_SITE_PRES.ID_MV, k.val, mv.toNat), (EMG_SITE_PRES.ID_CODE, k.val, n), (EMG_SITE_PRES.ID_STAT, k.val, 1)])) ∧
    (∀ (k : Site) mv, mv.toNat ≤ 1800 → idClass mv.toNat = none →
      Acts (.idMeasure k mv) (fun s => flag s EMG_SITE_PRES.PRESENT k.val = true)
        (fun s => faultC (0xC00 + k.val) (wrs s [(EMG_SITE_PRES.ID_MV, k.val, mv.toNat), (EMG_SITE_PRES.ID_STAT, k.val, 3)]))) ∧
    (∀ mv n, idClass mv = some n → n ≤ 14 ∧ (n + 1) * 100 ≤ mv + 40 ∧ mv ≤ (n + 1) * 100 + 40)) ∧
  (
    Acts .dacClrAssert (fun _ => True) (fun s =>
      forEach (List.range 64) (wrs s [(GLB_PIN_STAT.DAC_CLR, 0, 1), (GLB_PIN_STAT.DAC_CLR_SEEN, 0, 1)]) (fun k t => siteClear t k)) ∧
    Acts .dacClrRelease (fun _ => True) (fun s => wr s GLB_PIN_STAT.DAC_CLR 0 0) ∧
    Acts .dacLoadPin (fun _ => True) (fun s =>
      forEach ((List.range 64).filter (fun k => flag s EMG_SITE_CTRL.PIN_EN k)) s (fun k t => strobe raise false t k)) ∧
    (∀ (k : Site) (c : Fin 16), Acts (.deglitchHoldEnd k c) (fun s => flag s EMG_DAC.HOLDING (16 * k.val + c.val) = true)
      (fun s => wrs s [(EMG_DAC.HOLDING, 16 * k.val + c.val, 0),
        (HID.EMG_PAD, 16 * k.val + c.val, rd s EMG_DAC.OUT_CODE (16 * k.val + c.val))])) ∧
    (∀ k : Site, Acts (.pwmPeriodStart k) (fun s => siteSt s k.val = siteRELEASED)
      (fun s => forEach (List.range 8) (wr s EMG_SITE_CTRL.PERIOD_TICKS k.val (rd s HID.PWM_PERIOD_NEXT k.val))
        (fun h t => heaterStart t k.val h)))) ∧
  (
    (∀ l : Lane, Acts (.signalDetectRestored l) (fun _ => True) (fun s => wr s HID.LOS_NOW l.val 0)) ∧
    (∀ l : Lane, Acts (.alsPersistExpire l) (fun s => alsCounts s l.val = true) (fun s => setAls raise s l.val 1)) ∧
    (∀ l : Lane, Acts (.alsPeriodExpire l) (fun s => rd s SHF_TX_STAT.ALS l.val = 1) (fun s => setAls raise s l.val 2)) ∧
    (∀ l : Lane, Acts (.alsPulseExpire l) (fun s => rd s SHF_TX_STAT.ALS l.val = 2) (fun s => setAls raise s l.val 1)) ∧
    (∀ l : Lane, Acts (.alsRecover l) (fun s => rd s SHF_TX_STAT.ALS l.val ≠ 0)
      (fun s => setAls raise (wr s HID.LOS_NOW l.val 0) l.val 0)))

/-- SITE_RELEASE, SITE_HOLD, DAC_SET, DAC_LOAD, PWM_SET, ALS_RESTART, CEIL_WRITE (R391 to R401, R403, R406). -/
def Obligations.DriveOpcodesComplete : Prop :=
  Completes .siteRelease opSiteRelease (fun s a => siteSt s (opdB a 0x10) = siteHELD)
    (fun s a => siteFree s (opdB a 0x10)) (fun _ _ => rOk) ∧
  Completes .siteRelease opSiteRelease (fun s a => siteSt s (opdB a 0x10) = siteRELEASED) (fun s _ => s) (fun _ _ => rOk) ∧
  Completes .siteHold opSiteHold (fun s a => siteSt s (opdB a 0x10) = siteRELEASED)
    (fun s a => siteToPads raise s (opdB a 0x10) siteHELD) (fun _ _ => rOk) ∧
  Completes .dacSet opDacSet (fun _ a => opdBit a (if a.cmd.ptr then 0x1D else 0x11) 0 = false)
    (fun s a => (dacCodes a).foldl (fun t x => wr t EMG_DAC.IN_CODE (16 * dacSite a + x.1) x.2) s) (fun _ _ => rOk) ∧
  Completes .dacSet opDacSet (fun _ a => opdBit a (if a.cmd.ptr then 0x1D else 0x11) 0 = true)
    (fun s a => strobe raise false ((dacCodes a).foldl (fun t x => wr t EMG_DAC.IN_CODE (16 * dacSite a + x.1) x.2) s) (dacSite a))
    (fun _ _ => rOk) ∧
  Completes .dacLoad opDacLoad (fun _ a => opdB a 0x10 < 64) (fun s a => strobe raise false s (opdB a 0x10)) (fun _ _ => rOk) ∧
  Completes .dacLoad opDacLoad (fun _ a => opdB a 0x10 = 0xFF)
    (fun s _ => forEach ((List.range 64).filter (fun k => flag s EMG_SITE_CTRL.GLB_EN k)) s (fun k t => strobe raise false t k))
    (fun _ _ => rOk) ∧
  Completes .pwmSet opPwmSet (fun _ a => opdBit a 0x11 0 = false ∧ opdBit a 0x11 1 = false)
    (fun s a => (pwmDuties a).foldl (fun t x => wr t EMG_PWM.IN_DUTY (8 * opdB a 0x10 + x.1) x.2) s) (fun _ _ => rOk) ∧
  Completes .pwmSet opPwmSet (fun _ a => opdBit a 0x11 0 = true) (fun s a => strobe raise false (pwmPut s a) (opdB a 0x10))
    (fun _ _ => rOk) ∧
  Completes .alsRestart opAlsRestart (fun _ _ => True)
    (fun s a => forEach (maskLanes (opdB a 0x10) (opdB a 0x11)) s (fun l t =>
      if alsEn t l && laneSt t l != laneDARK && laneSt t l != laneFAILED then setAls raise t l 2 else t)) (fun _ _ => rOk) ∧
  CompletesThen (.ceilWrite · true) (opCeilWrite true) (fun s _ => flag s HID.SEAL_OK 0 = true)
    (fun s a =>
      let n := ceilUsed s + 1
      let s1 := wrs s [(HID.CEIL_CNT_A, 0, n), (HID.CEIL_CNT_B, 0, n), (EMG_GLB_CFG.CEIL_LEFT, 0, 4095 - n)]
      ((List.range (ceilCount a)).map (fun j => ceilSite (ceilBytes a j))).foldl
        (fun u k => audit u 0xB a.role a.cred a.handle 0x85 0 (bytesOf [k])) { s1 with ceilA := ceilStore s a, ceilB := ceilStore s a })
    (fun _ _ => rOk) (fun s a t => ceilTake (ceilStore s a) ((List.range (ceilCount a)).map (fun j => ceilSite (ceilBytes a j))) t) ∧
  Completes (.ceilWrite · false) (opCeilWrite false) (fun _ _ => True) (fun s _ => faultC 0xCFE s)
    (fun _ _ => ⟨.timeout, 0, none, false⟩)

/-- Ceilings bound the drive (R392, R399): a load strobe of a RELEASED site that no clear cause and no shutdown holds
puts out IN_CODE, or the ceiling code in its place, and counts the clamp once a tick; strobes of one tick count as
one (R58). -/
def Obligations.StrobeNeverPassesACeiling : Prop :=
  (∀ s i, loadCode s i ≤ chanCeil s i) ∧
  (∀ s again k c, siteClearCause s k = false → alsShut s k c = false →
    rd s EMG_DAC.IN_CODE (16 * k + c) ≤ chanCeil s (16 * k + c) →
    strobeChan raise false again s k c = moveOut s (16 * k + c) (rd s EMG_DAC.IN_CODE (16 * k + c))) ∧
  (∀ s k c, siteClearCause s k = false → alsShut s k c = false →
    chanCeil s (16 * k + c) < rd s EMG_DAC.IN_CODE (16 * k + c) →
    strobeChan raise false false s k c = countClamp raise (moveOut s (16 * k + c) (chanCeil s (16 * k + c))) k ∧
    strobeChan raise false true s k c = moveOut s (16 * k + c) (chanCeil s (16 * k + c))) ∧
  (∀ s again k c, siteClearCause s k = true → strobeChan raise false again s k c = s) ∧
  (∀ s i code, rd (moveOut s i code) EMG_DAC.OUT_CODE i = code % 2 ^ EMG_DAC.OUT_CODE.w) ∧
  (∀ s k, strobed s k = true → rd (strobe raise false s k) EMG_SITE_STAT.STROBES k = rd s EMG_SITE_STAT.STROBES k) ∧
  (∀ s k, siteSt s k ≠ siteRELEASED → strobe raise false s k = s)

/-- MON_PWM_TRIGGER, MON_CONVERSION_DONE, MON_OWCHECK_DONE (R410 to R413, R418): a trigger starts a scan, pends, or
counts an overrun; the lowest input left takes the sample, the last one ends the scan; an open-wire check answers
the mask it found. MON_SITE_SET, MON_SET, MON_CONVERT, MON_OWCHECK, MON_CLEAR without STAGE (R410, R415, R417 to
R420). -/
def Obligations.MonitoringActs : Prop :=
  (
    (∀ k : Site, Acts (.monPwmTrigger k)
      (fun s => flag s EMG_MON_SITE.PWM_EN k.val = true ∧ rd s EMG_PWM.OUT_DUTY (8 * k.val + rd s EMG_MON_SITE.PWM_H k.val) ≠ 0 ∧
        rd s EMG_PWM.OUT_DUTY (8 * k.val + rd s EMG_MON_SITE.PWM_H k.val) ≠ 0xFFFF ∧ monRuns s k.val = true ∧
        flag s EMG_MON_STAT.RUNNING k.val = false ∧ rd s EMG_MON_SITE.PWM_MASK k.val ≠ 0)
      (fun s => wrs s [(EMG_MON_STAT.RUNNING, k.val, 1), (HID.MON_LEFT, k.val, rd s EMG_MON_SITE.PWM_MASK k.val),
        (HID.MON_GROUP, k.val, 1)])) ∧
    (∀ k : Site, Acts (.monPwmTrigger k)
      (fun s => flag s EMG_MON_SITE.PWM_EN k.val = true ∧ rd s EMG_PWM.OUT_DUTY (8 * k.val + rd s EMG_MON_SITE.PWM_H k.val) = 0)
      (fun s => s)) ∧
    (∀ s k g, monRuns s k = true → flag s EMG_MON_STAT.RUNNING k = true → bitOf (rd s EMG_MON_STAT.PEND k) (g - 1) = true →
      monTrigger s k g = bump s (groupOvr g) k) ∧
    (∀ s k g, monRuns s k = true → flag s EMG_MON_STAT.RUNNING k = true → bitOf (rd s EMG_MON_STAT.PEND k) (g - 1) = false →
      monTrigger s k g = wr s EMG_MON_STAT.PEND k (setBit (rd s EMG_MON_STAT.PEND k) (g - 1))) ∧
    (∀ (k : Site) code n, Acts (.monConversionDone k code)
      (fun s => (bitList (rd s HID.MON_LEFT k.val) 16).head? = some n ∧ monRuns s k.val = true ∧
        flag s EMG_MON_STAT.OWCHECK k.val = false ∧ clrBit (rd s HID.MON_LEFT k.val) n ≠ 0)
      (fun s => wr (sampleIn (convCount s k.val 1) k.val n code.toNat) HID.MON_LEFT k.val (clrBit (rd s HID.MON_LEFT k.val) n))) ∧
    (∀ (k : Site) code n, Acts (.monConversionDone k code)
      (fun s => (bitList (rd s HID.MON_LEFT k.val) 16).head? = some n ∧ monRuns s k.val = true ∧
        flag s EMG_MON_STAT.OWCHECK k.val = false ∧ clrBit (rd s HID.MON_LEFT k.val) n = 0)
      (fun s => scanEnd (wr (sampleIn (convCount s k.val 1) k.val n code.toNat) HID.MON_LEFT k.val 0) k.val)) ∧
    (∀ (k : Site) codes m, codes.length = (bitList m 16).length → Acts (.monOwcheckDone k codes) (fun s => owMask s k.val = some m)
      (fun s =>
        let l := owPairs m codes
        let s1 := l.foldl (fun t x => owInput k.val t x.1 x.2.1 x.2.2) (convCount s k.val (2 * l.length))
        complete (waitsOn 0x8B [k.val]) ⟨.ok, 0, some (owOpen s k.val l), false⟩ (scanEnd s1 k.val)))) ∧
  (
    Completes .monSiteSet opMonSiteSet (fun s a => flag s EMG_MON_STAT.RUNNING (opdB a 0x10) = false)
      (fun s a => monSitePut s (opdB a 0x10) (opd a 0x11 11)) (fun _ _ => rOk) ∧
    Completes .monSiteSet opMonSiteSet (fun s a => flag s EMG_MON_STAT.RUNNING (opdB a 0x10) = true)
      (fun s a => { s with monSite := tabPut s.monSite (opdB a 0x10, 0) (opd a 0x11 11) }) (fun _ _ => rOk) ∧
    Completes .monSet opMonSet (fun s a => atBoundary (chainOf s (opdB a 0x1C) (opdB a 0x1D)) = true)
      (fun s a => monInPut s (opdB a 0x1C) (opdB a 0x1D) (leVal a.cmd.buf)) (fun _ _ => rOk) ∧
    Completes .monSet opMonSet (fun s a => atBoundary (chainOf s (opdB a 0x1C) (opdB a 0x1D)) = false)
      (fun s a => { s with monIn := tabPut s.monIn (opdB a 0x1C, opdB a 0x1D) (leVal a.cmd.buf) }) (fun _ _ => rOk) ∧
    Completes .monConvert opMonConvert (fun _ a => opdB a 0x10 < 64) (fun s a => monTrigger s (opdB a 0x10) 3) (fun _ _ => rOk) ∧
    Completes .monConvert opMonConvert (fun _ a => opdB a 0x10 = 0xFF)
      (fun s _ => forEach (List.range 64) s (fun k t => monTrigger t k 3)) (fun _ _ => rOk) ∧
    StartsWait .monOwcheck opMonOwcheck (fun _ _ => True)
      (fun s a => wrs s [(EMG_MON_STAT.RUNNING, opdB a 0x10, 1), (EMG_MON_STAT.OWCHECK, opdB a 0x10, 1)])
      (fun _ a => [opdB a 0x10, opd a 0x12 2]) ∧
    Completes .monClear opMonClear (fun _ _ => True)
      (fun s a => forEach (bitList (opd a 0x12 2) 16) s (monClearOne a)) (fun _ _ => rOk))

/-- The filter's exact results (R413, R414): a stage's value is its exact sum shifted right with truncation and held to
16 bits; a comparator asserts above its level in direction 0 and releases below level less hysteresis (R416). -/
def Obligations.FilterStagesTruncateAndHold : Prop :=
  (∀ (num : Int) den sh, 0 < den → 0 ≤ num → num < ((65536 * (den * 2 ^ sh) : Nat) : Int) →
    shiftHold num den sh = ((num / ((den * 2 ^ sh : Nat) : Int)).toNat, false)) ∧
  (∀ (num : Int) den sh, 0 < den → ((65536 * (den * 2 ^ sh) : Nat) : Int) ≤ num → shiftHold num den sh = (65535, true)) ∧
  (∀ (num : Int) den sh, 0 < den → num < 0 → shiftHold num den sh = (0, true)) ∧
  (∀ s k n (c : Cmp) x, c ∈ cmps → flag s c.en (16 * k + n) = true → rd s c.dir (16 * k + n) = 0 →
    (flag s c.st (16 * k + n) = false → x ≤ rd s c.level (16 * k + n) → cmpSee s k n c x = s) ∧
    (flag s c.st (16 * k + n) = true → rd s c.level (16 * k + n) ≤ x + rd s c.hyst (16 * k + n) → cmpSee s k n c x = s) ∧
    (flag s c.st (16 * k + n) = false → rd s c.level (16 * k + n) < x →
      cmpSee s k n c x = monEvent (perf (wrs s [(c.st, 16 * k + n, 1), (c.evt, 16 * k + n, 1)]) { perfE 0x92 1 with qual := k })
        k n c.kind x))

/-- PWR_STATE, DOMAIN_STATE_DONE, POWER_GATE_TIMEOUT, IDLE_TIMEOUT (R32, R425 to R431): the checks of R425 in their
order, the start and the end of a change; the third missed power-gate fails the wake. PAD_RELEASE, DOMAIN_RESET,
IDLE_POLICY, STANDBY (R95, R430 to R432). -/
def Obligations.DomainsChangeState : Prop :=
  (
    StartsWait .pwrState opPwrState (fun _ a => opdB a 0x12 = 0)
      (fun s a => (pwrStart s (opd a 0x10 2) 0).1) (fun s a => [opd a 0x10 2, (pwrStart s (opd a 0x10 2) 0).2]) ∧
    StartsWait .pwrState opPwrState (fun _ a => opdB a 0x12 ≠ 0)
      (fun s a => (pwrStart (wrs s [(PWR_DOM.TEV_EN, opd a 0x10 2, b2n (opdBit a 0x13 0)), (PWR_DOM.TEV, opd a 0x10 2, opdB a 0x14)])
        (opd a 0x10 2) (opdB a 0x12)).1)
      (fun s a => [opd a 0x10 2, (pwrStart (wrs s [(PWR_DOM.TEV_EN, opd a 0x10 2, b2n (opdBit a 0x13 0)),
        (PWR_DOM.TEV, opd a 0x10 2, opdB a 0x14)]) (opd a 0x10 2) (opdB a 0x12)).2]) ∧
    (∀ d : Dom, Acts (.domainStateDone d)
      (fun s => domValid d.val = true ∧ changeReady s d.val = true ∧ rd s HID.DOM_TGT d.val - 1 = 0)
      (fun s => (domFollow (domUp s d.val) d.val).running.foldl (resume d.val) (domFollow (domUp s d.val) d.val))) ∧
    (∀ d : Dom, Acts (.domainStateDone d)
      (fun s => domValid d.val = true ∧ changeReady s d.val = true ∧ rd s HID.DOM_TGT d.val - 1 ≠ 0)
      (fun s => (domFollow (domDown s d.val (rd s HID.DOM_TGT d.val - 1)) d.val).running.foldl (resume d.val)
        (domFollow (domDown s d.val (rd s HID.DOM_TGT d.val - 1)) d.val))) ∧
    (∀ d : Dom, Acts (.powerGateTimeout d)
      (fun s => domValid d.val = true ∧ rd s HID.DOM_TGT d.val = 1 ∧ 2 ≤ domSt s d.val ∧ rd s HID.PG_TRIES d.val < 2)
      (fun s => wrs s [(HID.PG_TRIES, d.val, rd s HID.PG_TRIES d.val + 1), (PWR_DOM.ATTEMPT, d.val, rd s HID.PG_TRIES d.val + 2)])) ∧
    (∀ d : Dom, Acts (.powerGateTimeout d)
      (fun s => domValid d.val = true ∧ rd s HID.DOM_TGT d.val = 1 ∧ 2 ≤ domSt s d.val ∧ 2 ≤ rd s HID.PG_TRIES d.val)
      (fun s => wakeFail d.val false s)) ∧
    (∀ d : Dom, Acts (.idleTimeout d)
      (fun s => domValid d.val = true ∧ rd s PWR_IDLE.IDLE_MS (domKind d.val) ≠ 0 ∧ domSt s d.val = 0 ∧ domChanging s d.val = false ∧
        domIdle s d.val = true ∧ pwrCheck s d.val (rd s PWR_IDLE.TARGET (domKind d.val)) false = none)
      (fun s => domGo raise s d.val (rd s PWR_IDLE.TARGET (domKind d.val)) 1)) ∧
    (∀ d : Dom, Acts (.idleTimeout d)
      (fun s => domIdle s d.val = true ∧ (pwrCheck s d.val (rd s PWR_IDLE.TARGET (domKind d.val)) false).isSome = true) (fun s => s)) ∧
    (∀ s d st cause, rd s PWR_DOM.HELD d ≠ 0 → domMove s d st cause = s)) ∧
  (
    Completes .padRelease opPadRelease (fun _ _ => True)
      (fun s a => wr s EMG_SITE_CTRL.STATE (opdB a 0x10) siteRELEASED) (fun _ _ => rOk) ∧
    StartsWait .domainReset opDomainReset (fun s a => domChanging s (opd a 0x10 2) = false)
      (fun s a => resetGo s (opd a 0x10 2)) (fun _ a => [opd a 0x10 2, 0]) ∧
    StartsWait .domainReset opDomainReset (fun s a => domChanging s (opd a 0x10 2) = true)
      (fun s _ => s) (fun _ a => [opd a 0x10 2, 8]) ∧
    Completes .idlePolicy opIdlePolicy (fun _ a => opdB a 0x10 ≠ 2)
      (fun s a => wrs s [(PWR_IDLE.IDLE_MS, opdB a 0x10, opd a 0x14 4), (PWR_IDLE.TARGET, opdB a 0x10, opdB a 0x11)]) (fun _ _ => rOk) ∧
    Completes .idlePolicy opIdlePolicy (fun _ a => opdB a 0x10 = 2)
      (fun s a => wrs s [(PWR_IDLE.IDLE_MS, 2, opd a 0x14 4), (PWR_IDLE.TARGET, 2, opdB a 0x11),
        (PWR_IDLE.FREE_KIB, 2, opd a 0x18 4)]) (fun _ _ => rOk) ∧
    Completes .standby opStandby (fun s a => opdBit a 0x10 0 = true ∧ rd s PWR_STATUS.DEV_STATE 0 ≠ 1)
      (fun s a => complete (fun x => needsPower x.acc) ⟨.aborted, 0, none, false⟩
        (wrs (standbyEnter s) [(HID.STBY_TEV_EN, 0, b2n (opdBit a 0x11 0)), (HID.STBY_TEV, 0, opdB a 0x12)])) (fun _ _ => rOk) ∧
    Completes .standby opStandby (fun s a => opdBit a 0x10 0 = true ∧ rd s PWR_STATUS.DEV_STATE 0 = 1)
      (fun s a => complete (fun x => needsPower x.acc) ⟨.aborted, 0, none, false⟩
        (wrs s [(HID.STBY_TEV_EN, 0, b2n (opdBit a 0x11 0)), (HID.STBY_TEV, 0, opdB a 0x12)])) (fun _ _ => rOk) ∧
    Completes .standby opStandby (fun s a => opdBit a 0x10 0 = false ∧ rd s PWR_STATUS.DEV_STATE 0 ≠ 1) (fun s _ => s) (fun _ _ => rOk) ∧
    StartsWait .standby opStandby (fun s a => opdBit a 0x10 0 = false ∧ rd s PWR_STATUS.DEV_STATE 0 = 1)
      (fun s _ => leaveStandby s 0) (fun _ _ => []))

/-- PL_SET, PWR_POLICY, VRM_STEP_VERIFY, VRM_STEER_ENABLE, PM_ALERT (R68 to R71, R424, R435, R441): a step of a rail is
verified within 10 mV, retried twice, and then stops steering. -/
def Obligations.PerformanceLevelsAndRailsAct : Prop :=
  Completes .plSet opPlSet (fun _ _ => True)
    (fun s a => levelEval (wr s PWR_PL.CEIL (opdB a 0x10) (opdB a 0x11)) (opdB a 0x10)) (fun _ _ => rOk) ∧
  Completes .pwrPolicy opPwrPolicy (fun _ _ => True)
    (fun s a =>
      let s1 := putFields s reg_PWR_POLICY.flds 0 (leVal a.cmd.buf)
      setEff s1 (min (rd s1 PWR_STATUS.EFF_W 0) (rd s1 PWR_POLICY.LIMIT_W 0))) (fun _ _ => rOk) ∧
  (∀ (n : Fin 6) (v : BitVec 10), Acts (.vrmStepVerify n (some v))
    (fun s => rd s HID.VRM_CMD n.val ≠ 0 ∧ v.toNat ≤ rd s HID.VRM_CMD n.val + 10 ∧ rd s HID.VRM_CMD n.val ≤ v.toNat + 10)
    (fun s => vrmOk (idleUse s) n.val v.toNat)) ∧
  (∀ (n : Fin 6) (v : BitVec 10), Acts (.vrmStepVerify n (some v))
    (fun s => rd s HID.VRM_CMD n.val ≠ 0 ∧ (rd s HID.VRM_CMD n.val + 10 < v.toNat ∨ v.toNat + 10 < rd s HID.VRM_CMD n.val)) (fun s => vrmBad (idleUse s) n.val 3)) ∧
  (∀ n : Fin 6, Acts (.vrmStepVerify n none) (fun s => rd s HID.VRM_CMD n.val ≠ 0) (fun s => vrmBad (idleUse s) n.val 2)) ∧
  (∀ s n stat, rd s HID.VRM_TRIES n < 2 →
    vrmBad s n stat = emit (wr s HID.VRM_TRIES n (rd s HID.VRM_TRIES n + 1)) (.vout n (rd s HID.VRM_CMD n))) ∧
  (∀ n : Fin 6, Acts (.vrmSteerEnable n) (fun s => flag s PWR_PL.CHANGING n.val = true)
    (fun s => wrs (took (idleUse s)) [(HID.VOUT_MODE, n.val, freeNat s % 256), (PWR_VRM_CFG.EN, n.val, 1),
      (PWR_VRM_CFG.STAT, n.val, 0), (HID.VRM_TRIES, n.val, 0)])) ∧
  (∀ n : Fin 6, Acts (.vrmSteerEnable n) (fun s => flag s PWR_PL.CHANGING n.val = false)
    (fun s => levelEval (vrmGo (wrs (took (idleUse s)) [(HID.VOUT_MODE, n.val, freeNat s % 256), (PWR_VRM_CFG.EN, n.val, 1),
      (PWR_VRM_CFG.STAT, n.val, 0), (HID.VRM_TRIES, n.val, 0)]) n.val (levelMv (rd s PWR_PL.NOW n.val)) 0) n.val)) ∧
  (∀ s n, levelGoal s n ≤ railCap s n ∧
    (steered s n = false → railCap s n = 0 ∨ levelMv (railCap s n) ≤ rd s HID.RAIL_MV n)) ∧
  (∀ st, Acts (.pmAlert st) (fun _ => True) (fun s =>
    forEach (List.range 6) (wr (idleUse s) GLB_PIN_STAT.PM_ALERT 0 1) (fun n t =>
      if flag t PWR_VRM_CFG.EN n = false ∨ st.getD n 0 = 0 then t else raise (0xB10 + n) (st.getD n 0).val [] t)))

/-- POWER_SAMPLE, THERMAL_SAMPLE, DRAM_TEMP_SAMPLE, EFF_LIMIT_STEP, THROTTLE_STEP (R434 to R440). -/
def Obligations.ThrottlingActs : Prop :=
  (∀ w, Acts (.powerSample w) (fun s => flag s PWR_STATUS.THROTTLE 0 = false) (fun s => wr s PWR_STATUS.EST_W 0 w.toNat)) ∧
  (∀ w, Acts (.powerSample w) (fun s => flag s PWR_STATUS.THROTTLE 0 = true)
    (fun s => perf (wr s PWR_STATUS.EST_W 0 w.toNat) (perfE 0xA1 1))) ∧
  (∀ t, t.length = 10 → Acts (.dramTempSample t) (fun _ => True) (fun s =>
    wr (forEach (List.range 10) s (fun n u => wr u PWR_HBM.TEMP n (t.getD n 0).toNat)) HID.TH_DRAM 0
      (b2n (t.any (fun v => decide (((rd s PWR_POLICY.DRAM_THR 0 * 8 : Nat) : Int) < tempOf v.toNat)))))) ∧
  (∀ t, t.length = 212 → Acts (.thermalSample t) (fun _ => True) (fun s =>
    let r := t.map (fun v => tempOf v.toNat)
    let s1 := forEach (List.range 212) s (fun i u => wr u PWR_THERM.TEMP i (t.getD i 0).toNat)
    let s3 := (List.range 14).foldl thermDieStep ((List.range 212).foldl (thermSite s r) s1)
    let s4 := match hottest s3 r with
      | some x => wr s3 PWR_STATUS.HOTTEST 0 (wrapI 16 x)
      | none => s3
    let s5 := wr (if tooHot s4 (hottest s3 r) = true ∧ flag s HID.TH_HOT 0 = false then effFall s4 else s4) HID.TH_HOT 0
      (b2n (tooHot s4 (hottest s3 r)))
    if critical r = true then thermTrip s5 else s5)) ∧
  (∀ b, Acts (.effLimitStep b) (fun s => flag s HID.TH_HOT 0 = true) (fun s => effFall s)) ∧
  Acts (.effLimitStep true)
    (fun s => flag s HID.TH_HOT 0 = false ∧ rd s PWR_STATUS.EFF_W 0 < rd s PWR_POLICY.LIMIT_W 0 ∧
      tempOf (rd s PWR_STATUS.HOTTEST 0) ≤ (((rd s PWR_POLICY.THR_C 0 - 5) * 8 : Nat) : Int))
    (fun s => setEff s (min (rd s PWR_POLICY.LIMIT_W 0) (rd s PWR_STATUS.EFF_W 0 + 16))) ∧
  Acts (.effLimitStep false) (fun s => flag s HID.TH_HOT 0 = false) (fun s => s) ∧
  (∀ w n, Acts (.throttleStep w)
    (fun s => rd s PWR_STATUS.EFF_W 0 < rd s PWR_STATUS.EST_W 0 ∧ ladderDown s = some n)
    (fun s => setThr s n (levelThr s n - 1))) ∧
  (∀ w, Acts (.throttleStep w)
    (fun s => rd s PWR_STATUS.EFF_W 0 < rd s PWR_STATUS.EST_W 0 ∧ ladderDown s = none ∧ allPl0 s = true ∧
      flag s PWR_STATUS.LIMIT_UNMET 0 = false)
    (fun s => faultC 0xB30 (thermEvent (wr s PWR_STATUS.LIMIT_UNMET 0 1) 7 0 0))) ∧
  (∀ w n, Acts (.throttleStep w)
    (fun s => rd s PWR_STATUS.EST_W 0 + w ≤ rd s PWR_STATUS.EFF_W 0 ∧ ladderUp (wr s PWR_STATUS.LIMIT_UNMET 0 0) = some n)
    (fun s => setThr (wr s PWR_STATUS.LIMIT_UNMET 0 0) n (levelThr (wr s PWR_STATUS.LIMIT_UNMET 0 0) n + 1)))

/-- FLT_POLICY, ESCALATION_WINDOW_EXPIRE, FAULT_STICKY_CLEAR (R449 to R452, R461): a rule takes its fields with its
count at zero, a window that ends closes it, and a sticky bit clears unless its source is fatal. MEM_RETIRE,
RETIRE_ROW_COPY_DONE, MEM_LOG_CLEAR, MERGE_BUFFER_EXPIRE (R455, R456, R459): a page or row is retired in the lowest
free entry; a Granary row when its copy is done; a log is emptied; a buffer of 64 bytes is written, a smaller one
read, merged and written. WINNOW_READ (R460): a clean read moves the progress, the last of a pass ends it; a
corrected error is counted and logged; an uncorrectable block is handled by what stands there. -/
def Obligations.FaultRulesAndMemoryServiceAct : Prop :=
  (
    Completes .fltPolicy opFltPolicy (fun _ _ => True)
      (fun s a => wrs s [(FLT_ESC.SRC, opdB a 0x10, opd a 0x12 2), (FLT_ESC.MASK, opdB a 0x10, opd a 0x14 2),
        (FLT_ESC.FROM, opdB a 0x10, opdB a 0x16), (FLT_ESC.EN, opdB a 0x10, b2n (opdBit a 0x1C 0)),
        (FLT_ESC.N, opdB a 0x10, opdB a 0x17), (FLT_ESC.WINDOW_MS, opdB a 0x10, opd a 0x18 4), (FLT_ESC.COUNT, opdB a 0x10, 0)])
      (fun _ _ => rOk) ∧
    (∀ r : Fin 64, Acts (.escalationWindowExpire r) (fun _ => True) (fun s => wr s FLT_ESC.COUNT r.val 0)) ∧
    (∀ id : BitVec 12, Acts (.faultStickyClear id) (fun s => rd s FLT_SRC.CLASS id.toNat = 3) (fun s => s)) ∧
    (∀ id : BitVec 12, id.toNat / 256 ≠ 5 → Acts (.faultStickyClear id) (fun s => rd s FLT_SRC.CLASS id.toNat ≠ 3)
      (fun s => updFaultPin (wrs s [(FLT_SRC.STICKY, id.toNat, 0), (FLT_SRC.CLASS, id.toNat, 0)])))) ∧
  (
    (∀ x, Completes .memRetire opMemRetire (fun s a => opdB a 0x10 < 8 ∧ retireFree s (opdB a 0x10) = some x)
      (fun s a => retirePut s (opdB a 0x10) x (opdB a 0x11) (opd a 0x14 4) false)
      (fun s a => ⟨.ok, rd (retirePut s (opdB a 0x10) x (opdB a 0x11) (opd a 0x14 4) false) MEM_RETIRE_LIST.PENDING
        (opdB a 0x10 * 512 + x), none, false⟩)) ∧
    (∀ x, StartsWait .memRetire opMemRetire (fun s a => 8 ≤ opdB a 0x10 ∧ retireFree s (opdB a 0x10) = some x)
      (fun s a => retirePut s (opdB a 0x10) x (opdB a 0x11) (opd a 0x14 4) false) (fun _ a => [opdB a 0x10, opd a 0x14 4])) ∧
    (∀ (n : Fin 2) row x, Acts (.retireRowCopyDone n row) (fun s => copyEntry s (8 + n.val) row = some x)
      (fun s => complete (waitsOn 0xA1 [8 + n.val, row]) rOk
        (wrs s [(HID.COPY, (8 + n.val) * 512 + x, 0), (MEM_RETIRE_LIST.VALID, (8 + n.val) * 512 + x, 1),
          (MEM_CTRL_STAT.RETIRED, 8 + n.val, rd s MEM_CTRL_STAT.RETIRED (8 + n.val) + 1)]))) ∧
    Completes .memLogClear opMemLogClear (fun _ a => opdB a 0x10 ≠ 0xFF)
      (fun s a => forEach ((List.range 32).map (fun e => 32 * opdB a 0x10 + e)) s (fun i t =>
        wrs t [(MEM_CE_LOG.VALID, i, 0), (MEM_CE_LOG.WINNOW, i, 0), (MEM_CE_LOG.THR, i, 0), (MEM_CE_LOG.BLOCK, i, 0),
          (MEM_CE_LOG.COUNT, i, 0)])) (fun _ _ => rOk) ∧
    Completes .memLogClear opMemLogClear (fun _ a => opdB a 0x10 = 0xFF)
      (fun s _ => forEach ((List.range 10).flatMap (fun n => (List.range 32).map (fun e => 32 * n + e))) s (fun i t =>
        wrs t [(MEM_CE_LOG.VALID, i, 0), (MEM_CE_LOG.WINNOW, i, 0), (MEM_CE_LOG.THR, i, 0), (MEM_CE_LOG.BLOCK, i, 0),
          (MEM_CE_LOG.COUNT, i, 0)])) (fun _ _ => rOk) ∧
    (∀ (n : Fin 10) b c, 64 ≤ c → Acts (.mergeBufferExpire n b) (fun s => tabGet s.merge (n.val, b) = some c)
      (fun s => perf { s with merge := tabDel s.merge (n.val, b) } { perfE 0x81 1 with qual := n.val, role := 8, addr := b })) ∧
    (∀ (n : Fin 10) b c, c < 64 → Acts (.mergeBufferExpire n b) (fun s => tabGet s.merge (n.val, b) = some c) (fun s =>
      let ev := fun (t : State) (code : Nat) => perf t { perfE code 1 with qual := n.val, role := 8, addr := b }
      ev (ev (ev (bump { s with merge := tabDel s.merge (n.val, b) } MEM_CTRL_STAT.RMW n.val) 0x80) 0x82) 0x81))) ∧
  (
    ∀ (u : Fin 24) b place again s, winnowReads s u.val b = true → poisonRead
        (if u.val < 10 then perf s { perfE 0x85 1 with qual := u.val, role := 8, addr := b } else s) u.val b place = false →
      let s1 := if u.val < 10 then perf s { perfE 0x85 1 with qual := u.val, role := 8, addr := b } else s
      (∀ p : Fin 1001, p.val ≠ 1000 →
        exec (.winnowRead .clean u b place again p) s = .next (wr s1 MEM_WINNOW.PROGRESS 0 p.val)) ∧
      (∀ p : Fin 1001, p.val = 1000 →
        exec (.winnowRead .clean u b place again p) s = .next (bump (wr s1 MEM_WINNOW.PROGRESS 0 0) MEM_WINNOW.PASSES 0)) ∧
      (∀ p : Fin 1001, p.val ≠ 1000 → u.val < 10 →
        exec (.winnowRead .corrected u b place again p) s = .next
          (wr (dramCorr (bump s1 MEM_WINNOW.FOUND_CORR 0) u.val b true) MEM_WINNOW.PROGRESS 0 p.val)) ∧
      (∀ p : Fin 1001, p.val ≠ 1000 → 10 ≤ u.val →
        exec (.winnowRead .corrected u b place again p) s = .next
          (wr (raise (0x940 + (u.val - 10)) 1 (memDetail b true) (bump (bump s1 MEM_WINNOW.FOUND_CORR 0) MEM_SRAM_STAT.CORR (u.val - 10)))
            MEM_WINNOW.PROGRESS 0 p.val)) ∧
      (∀ p : Fin 1001, p.val ≠ 1000 → u.val < 10 →
        exec (.winnowRead .uncorrectable u b place again p) s = .next
          (wr (winnowDram (bump s1 MEM_WINNOW.FOUND_UNCORR 0) u.val b place again) MEM_WINNOW.PROGRESS 0 p.val)) ∧
      (∀ p : Fin 1001, p.val ≠ 1000 → 10 ≤ u.val →
        exec (.winnowRead .uncorrectable u b place again p) s = .next
          (wr (winnowSram (bump s1 MEM_WINNOW.FOUND_UNCORR 0) (u.val - 10) b place) MEM_WINNOW.PROGRESS 0 p.val)))

/-- GLEAN_SLICE_START, GLEAN_SLICE_END, GLEAN_SLICE_WATCHDOG (R465 to R469): at its turn a target that is out of service
is tested where the budget allows, a gallery that sleeps is woken first, and the target is skipped otherwise; a test
that was aborted has no turn for 1 s; a slice passes, fails or aborts; the first watchdog end of a test is an abort,
the second a failure. GLN_RUN, GLN_RETEST, CAL_RUN, CAL_ABORT, AGE_REPORT (R470, R471, R474, R477). -/
def Obligations.GleaningAndSelfTestAct : Prop :=
  (
    (∀ t : GleanTarget, targetOk t.cls t.idx t.dir = true → Acts (.gleanSliceStart t)
      (fun s => powered s = true ∧ bitOf (rd s GLN_CFG.EN 0) t.cls = true ∧ tabGet s.slices (t.cls, 2 * t.idx + t.dir) = none ∧
        flag s HID.GLN_SKIP (glnMark t.cls (2 * t.idx + t.dir)) = false ∧ retryEarly s t.cls (2 * t.idx + t.dir) = false ∧
        slicesDone s t.cls (2 * t.idx + t.dir) < sliceCount t.cls t.idx ∧ outOfService s t.cls (2 * t.idx + t.dir) = true ∧
        sliceMay s t.cls = true ∧ (t.cls ≠ 0 ∨ domSt s (galDom t.idx) = 0)) (fun s => sliceOn s t.cls (2 * t.idx + t.dir) 0)) ∧
    (∀ t : GleanTarget, targetOk t.cls t.idx t.dir = true → t.cls = 0 → Acts (.gleanSliceStart t)
      (fun s => powered s = true ∧ bitOf (rd s GLN_CFG.EN 0) 0 = true ∧ tabGet s.slices (0, 2 * t.idx + t.dir) = none ∧
        flag s HID.GLN_SKIP (glnMark 0 (2 * t.idx + t.dir)) = false ∧ retryEarly s 0 (2 * t.idx + t.dir) = false ∧
        slicesDone s 0 (2 * t.idx + t.dir) < sliceCount 0 t.idx ∧ outOfService s 0 (2 * t.idx + t.dir) = true ∧
        sliceMay s 0 = true ∧ domSt s (galDom t.idx) ≠ 0 ∧ flag s GLN_CFG.WAKE 0 = true ∧ rd s PWR_DOM.HELD (galDom t.idx) = 0 ∧
        domChanging s (galDom t.idx) = false)
      (fun s => domMove (wr s HID.GLN_FORMER t.idx (domSt s (galDom t.idx) + 1)) (galDom t.idx) 0 3)) ∧
    (∀ t : GleanTarget, targetOk t.cls t.idx t.dir = true → Acts (.gleanSliceStart t)
      (fun s => powered s = true ∧ bitOf (rd s GLN_CFG.EN 0) t.cls = true ∧ tabGet s.slices (t.cls, 2 * t.idx + t.dir) = none ∧
        flag s HID.GLN_SKIP (glnMark t.cls (2 * t.idx + t.dir)) = false ∧ retryEarly s t.cls (2 * t.idx + t.dir) = false ∧
        slicesDone s t.cls (2 * t.idx + t.dir) < sliceCount t.cls t.idx ∧ outOfService s t.cls (2 * t.idx + t.dir) = false)
      (fun s => targetMissed s t.cls (2 * t.idx + t.dir))) ∧
    (∀ (t : GleanTarget), Acts (.gleanSliceStart t)
      (fun s => retryEarly s t.cls (2 * t.idx + t.dir) = true) (fun s => s)) ∧
    (∀ (t : GleanTarget) v, Acts (.gleanSliceEnd t .pass)
      (fun s => tabGet s.slices (t.cls, 2 * t.idx + t.dir) = some v ∧ idleBroken s t.cls (v / 4) = false)
      (fun s => gleanPass s t.cls (2 * t.idx + t.dir) (v % 4))) ∧
    (∀ (t : GleanTarget) v, Acts (.gleanSliceEnd t .fail)
      (fun s => tabGet s.slices (t.cls, 2 * t.idx + t.dir) = some v ∧ idleBroken s t.cls (v / 4) = false)
      (fun s => gleanFail s t.cls (2 * t.idx + t.dir) (v % 4))) ∧
    (∀ (t : GleanTarget) v, Acts (.gleanSliceEnd t .aborted) (fun s => tabGet s.slices (t.cls, 2 * t.idx + t.dir) = some v)
      (fun s => gleanAbort s t.cls (2 * t.idx + t.dir))) ∧
    (∀ (t : GleanTarget) v, Acts (.gleanSliceWatchdog t)
      (fun s => tabGet s.slices (t.cls, 2 * t.idx + t.dir) = some v ∧ flag s HID.GLN_WD (glnMark t.cls (2 * t.idx + t.dir)) = false)
      (fun s => wr (gleanAbort s t.cls (2 * t.idx + t.dir)) HID.GLN_WD (glnMark t.cls (2 * t.idx + t.dir)) 1)) ∧
    (∀ (t : GleanTarget) v, Acts (.gleanSliceWatchdog t)
      (fun s => tabGet s.slices (t.cls, 2 * t.idx + t.dir) = some v ∧ flag s HID.GLN_WD (glnMark t.cls (2 * t.idx + t.dir)) = true)
      (fun s => gleanFail s t.cls (2 * t.idx + t.dir) (v % 4)))) ∧
  (
    StartsWait .glnRun opGlnRun
      (fun s a => bitOf (rd s GLN_CFG.EN 0) (runClass a) = true ∧
        ((opdB a 0x10 ≠ 0 ∧ opdB a 0x10 ≠ 4) ∨ opdB a 0x15 = slicesDone s (runClass a) (runKey a)))
      (fun s a => sliceOn s (runClass a) (runKey a) 0) (fun _ a => [runClass a, runKey a]) ∧
    StartsWait .glnRun opGlnRun
      (fun s a => bitOf (rd s GLN_CFG.EN 0) (runClass a) = false ∨
        ((opdB a 0x10 = 0 ∨ opdB a 0x10 = 4) ∧ opdB a 0x15 ≠ slicesDone s (runClass a) (runKey a)))
      (fun s a => sliceOn s (runClass a) (runKey a) 2) (fun _ a => [runClass a, runKey a]) ∧
    StartsWait .glnRetest opGlnRetest (fun _ _ => True)
      (fun s a => sliceOn s (runClass a) (runKey a) 1) (fun _ a => [runClass a, runKey a]) ∧
    Completes .calRun opCalRun (fun _ a => opdBit a 0x13 0 = true)
      (fun s a => wrs s [(GLN_CAL.WINDOW, calTarget a, 1), (HID.CAL_TEV, calTarget a, opdB a 0x14),
        (HID.CAL_MASK, calTarget a, opdB a 0x12)]) (fun _ _ => rOk) ∧
    StartsWait .calRun opCalRun
      (fun s a => opdBit a 0x13 0 = false ∧ rd (calStart s (calTarget a) (opdB a 0x12)) GLN_CAL.STATE (calTarget a) = 1)
      (fun s a => calStart s (calTarget a) (opdB a 0x12)) (fun _ a => [calTarget a]) ∧
    Completes .calRun opCalRun
      (fun s a => opdBit a 0x13 0 = false ∧ rd (calStart s (calTarget a) (opdB a 0x12)) GLN_CAL.STATE (calTarget a) ≠ 1)
      (fun s a => calStart s (calTarget a) (opdB a 0x12))
      (fun s a => rData (rd (calStart s (calTarget a) (opdB a 0x12)) HID.CAL_SKIP (calTarget a))) ∧
    Completes .calAbort opCalAbort (fun s a => rd s GLN_CAL.STATE (calTarget a) = 1)
      (fun s a =>
        let x := calTarget a
        let s2 := wrs s [(GLN_CAL.WINDOW, x, 0), (GLN_CAL.STATE, x, 0), (HID.CAL_LANES, x, 0)]
        complete (waitsOn 0xA8 [x]) ⟨.aborted, 0, none, false⟩
          (if x < 64 then forEach (sheafLanes x) s2 (fun l t => calLaneClear t l) else s2)) (fun _ _ => rOk) ∧
    Completes .calAbort opCalAbort (fun s a => rd s GLN_CAL.STATE (calTarget a) ≠ 1)
      (fun s a => wr s GLN_CAL.WINDOW (calTarget a) 0) (fun _ _ => rOk) ∧
    Completes .ageReport opAgeReport (fun s _ => rd s HID.WEAR_HOURS 0 ≠ 0)
      (fun s a => toHost s (opd a 0x10 8) (ageBytes s)) (fun _ _ => rOk) ∧
    Completes .ageReport opAgeReport (fun s _ => rd s HID.WEAR_HOURS 0 = 0)
      (fun s a => toHost (took s) (opd a 0x10 8) (ageBytes s)) (fun _ _ => rOk))

/-- CAL_STEP_DONE, CAL_STEP_TIMEOUT, CAL_AUTO_START, WEAR_ACCOUNT_WRITE (R471 to R473, R475, R476). A site's calibration
is one step, which is the model's reading (log entry 21). -/
def Obligations.CalibrationAndAgeingEventsAct : Prop :=
  (∀ (kind : Fin 3) (t : Fin 64) comp temp mv l j, kind.val = 0 → Acts (.calStepDone kind t comp true temp mv)
    (fun s => rd s GLN_CAL.STATE t.val = 1 ∧ calCurrent s t.val = some (l, j))
    (fun s => calKick (calStepOver (wr (calRecord (perf s (perfE 0xA4 1)) t.val temp.toNat mv.toNat) HID.CAL_COMP (l * 136 + j)
      (comp.toNat + 16)) l j false) t.val)) ∧
  (∀ (kind : Fin 3) (t : Fin 64) comp temp mv l j, kind.val = 0 → Acts (.calStepDone kind t comp false temp mv)
    (fun s => rd s GLN_CAL.STATE t.val = 1 ∧ calCurrent s t.val = some (l, j))
    (fun s => calKick (calStepOver (perf s (perfE 0xA4 1)) l j true) t.val)) ∧
  (∀ (kind : Fin 3) (t : Fin 64) comp ok temp mv, kind.val ≠ 0 → Acts (.calStepDone kind t comp ok temp mv)
    (fun s => rd s GLN_CAL.STATE (kind.val * 64 + t.val) = 1)
    (fun s => calEnd (calRecord (perf s (perfE 0xA4 1)) (kind.val * 64 + t.val) temp.toNat mv.toNat) (kind.val * 64 + t.val))) ∧
  (∀ (kind : Fin 3) (t : Fin 64) l j, kind.val = 0 → Acts (.calStepTimeout kind t)
    (fun s => rd s GLN_CAL.STATE t.val = 1 ∧ calCurrent s t.val = some (l, j))
    (fun s => calKick (calStepOver (calMissed s t.val) l j false) t.val)) ∧
  (∀ (kind : Fin 3) (t : Fin 64) temp, Acts (.calAutoStart kind t temp)
    (fun s => rd s GLN_CAL.STATE (kind.val * 64 + t.val) = 2 ∧ calStale s (kind.val * 64 + t.val) temp.toNat = true ∧
      flag s GLN_CFG.AUTO_RECAL 0 = false) (fun s => wr s GLN_CAL.STALE (kind.val * 64 + t.val) 1)) ∧
  (∀ (kind : Fin 3) (t : Fin 64) temp, Acts (.calAutoStart kind t temp)
    (fun s => rd s GLN_CAL.STATE (kind.val * 64 + t.val) = 2 ∧ calStale s (kind.val * 64 + t.val) temp.toNat = true ∧
      flag s GLN_CFG.AUTO_RECAL 0 = true ∧ calReady s (kind.val * 64 + t.val) = true)
    (fun s => calStart (wr s GLN_CAL.STALE (kind.val * 64 + t.val) 1) (kind.val * 64 + t.val) 0xFF)) ∧
  (∀ (kind : Fin 3) (t : Fin 64) temp, Acts (.calAutoStart kind t temp)
    (fun s => calStale s (kind.val * 64 + t.val) temp.toNat = false) (fun s => s)) ∧
  (∀ shifts needs tj, Acts (.wearAccountWrite shifts needs tj) (fun _ => True) (fun s =>
    let s1 := forEach (List.range 68) (wearHour (idleUse s) tj.toNat) (fun m t => wr t GLN_AGE_MON.SHIFT m (shifts.getD m 0).toNat)
    let s2 := forEach (List.range 14) s1 (fun d t => wr t GLN_AGE_DIE.NEED d (needField (needs.getD d [])))
    forEach (List.range 8) (forEach (List.range 6) s2 ageDie) ageLine))

/-- PMU_SET, PMU_RUN, PMU_TAG_SET, TRACE_CTRL, BW_SET, BW_CLEAR (R482 to R487). PMU_RUN_SWITCH, PMU_COUNTER_WRITE,
BW_WINDOW_END (R482, R484, R487): a run takes effect in all its groups at its time and completes; a write of a
counter replaces its halves; a window's end shows its bytes and starts the next. -/
def Obligations.PerformanceMonitorActs : Prop :=
  (
    Completes .pmuSet opPmuSet (fun _ _ => True) (fun s a => putFields s cfgFields (opd a 0x1C 2) (opdBuf a 0 16)) (fun _ _ => rOk) ∧
    StartsWait .pmuRun opPmuRun (fun _ a => opd a 0x10 2 ≠ 0)
      (fun s a =>
        let x : PmuRun := ⟨opd a 0x10 2, opdBit a 0x12 0, opdBit a 0x12 1, runTime s a⟩
        pendShow { s with pmuRuns := (runGroups (opd a 0x10 2)).foldl (fun t q => tabPut t (q, 0) x) s.pmuRuns })
      (fun _ a => [opd a 0x10 2]) ∧
    Completes .pmuRun opPmuRun (fun _ a => opd a 0x10 2 = 0) (fun s _ => s) (fun _ _ => rOk) ∧
    Completes .pmuTagSet opPmuTagSet (fun _ _ => True)
      (fun s a => wrs { s with regs := s.regs.filter (fun e => !Nat.beq e.1.1 HID.TAG_LEFT.id) }
        [(PMU_TAG.EN, 0, b2n (opdBit a 0x10 0)), (PMU_TAG.JITTER, 0, b2n (opdBit a 0x10 1)), (PMU_TAG.PORT_EN, 0, b2n (opdBit a 0x10 2)),
          (PMU_TAG.K, 0, opdB a 0x11), (PMU_TAG.PORT, 0, opd a 0x12 2), (PMU_TAG.GALLERIES, 0, opd a 0x18 9)]) (fun _ _ => rOk) ∧
    Completes .traceCtrl opTraceCtrl (fun _ a => opdBit a 0x10 2 = false)
      (fun s a => wrs s [(PMU_TRACE_STAT.EN, 0, b2n (opdBit a 0x10 0)), (PMU_TRACE_STAT.MODE, 0, b2n (opdBit a 0x10 1))])
      (fun _ _ => rOk) ∧
    Completes .traceCtrl opTraceCtrl (fun _ a => opdBit a 0x10 2 = true)
      (fun s a =>
        let s1 := wrs s [(PMU_TRACE_STAT.EN, 0, b2n (opdBit a 0x10 0)), (PMU_TRACE_STAT.MODE, 0, b2n (opdBit a 0x10 1))]
        wrs { s1 with regs := s1.regs.filter (fun e => !Nat.beq e.1.1 PMU_TRACE.RECORD.id) }
          [(PMU_TRACE_STAT.FILL, 0, 0), (PMU_TRACE_STAT.HEAD, 0, 0)]) (fun _ _ => rOk) ∧
    Completes .bwSet opBwSet (fun _ _ => True)
      (fun s a => wrs s [(PMU_BW.W_US, opd a 0x10 2, if opdBit a 0x12 0 = true then opd a 0x14 4 else 0), (HID.BW_RX, opd a 0x10 2, 0),
        (HID.BW_TX, opd a 0x10 2, 0), (HID.BW_AT, opd a 0x10 2, rd s HID.TICKS 0)]) (fun _ _ => rOk) ∧
    Completes .bwClear opBwClear (fun _ a => opd a 0x10 2 ≠ 0xFFFF) 
      (fun s a => bwClear (opd a 0x10 2) (windowEnd (opd a 0x10 2) s)) (fun _ _ => rOk) ∧
    Completes .bwClear opBwClear (fun _ a => opd a 0x10 2 = 0xFFFF) 
      (fun s _ => forEach (List.range 512) s (fun p t => bwClear p (windowEnd p t))) (fun _ _ => rOk)) ∧
  (
    (∀ (g : Fin 16) (x : PmuRun), x.clear = false → Acts (.pmuRunSwitch g)
      (fun s => tabGet s.pmuRuns (g.val, 0) = some x ∧ x.time ≤ localTime s) (fun s =>
        let run := (runGroups x.mask).foldl (fun v q => if x.start = true then setBit v q else clrBit v q) (rd s PMU_STATUS.RUNNING 0)
        complete (waitsOn 0xB1 [x.mask]) rOk
          (wr (pendShow { s with pmuRuns := (runGroups x.mask).foldl (fun t q => tabDel t (q, 0)) s.pmuRuns }) PMU_STATUS.RUNNING 0 run))) ∧
    (∀ (g : Fin 16) (x : PmuRun), x.clear = true → Acts (.pmuRunSwitch g)
      (fun s => tabGet s.pmuRuns (g.val, 0) = some x ∧ x.time ≤ localTime s) (fun s =>
        let run := (runGroups x.mask).foldl (fun v q => if x.start = true then setBit v q else clrBit v q) (rd s PMU_STATUS.RUNNING 0)
        let s1 := pendShow { s with pmuRuns := (runGroups x.mask).foldl (fun t q => tabDel t (q, 0)) s.pmuRuns }
        complete (waitsOn 0xB1 [x.mask]) rOk (wr (groupsZero s1 x.mask) PMU_STATUS.RUNNING 0 run))) ∧
    (∀ (g : Fin 16) (x : PmuRun), Acts (.pmuRunSwitch g) (fun s => tabGet s.pmuRuns (g.val, 0) = some x ∧ localTime s < x.time)
      (fun s => s)) ∧
    (∀ (n : Fin 512) (v : BitVec 48) (o : BitVec 8), Acts (.pmuCounterWrite n (some v) (some o) 0)
      (fun s => tabGet s.pmuRuns (rd s PMU_CFG.GROUP n.val, 0) = none)
      (fun s => wrs s [(PMU_CTR.COUNT, n.val, v.toNat), (PMU_CTR.OVF, n.val, o.toNat)])) ∧
    (∀ (n : Fin 512) (v : BitVec 48), Acts (.pmuCounterWrite n (some v) none 0)
      (fun s => tabGet s.pmuRuns (rd s PMU_CFG.GROUP n.val, 0) = none) (fun s => wr s PMU_CTR.COUNT n.val v.toNat)) ∧
    (∀ (n : Fin 512) (v : BitVec 48), Acts (.pmuCounterWrite n (some v) none 0) (fun _ => True)
      (fun s => wr (runSwitch (rd s PMU_CFG.GROUP n.val) s) PMU_CTR.COUNT n.val v.toNat)) ∧
    (∀ p : Port, Acts (.bwWindowEnd p) (fun s => rd s PMU_BW.W_US p.val = 0) (fun s => s)) ∧
    (∀ p : Port, Acts (.bwWindowEnd p)
      (fun s => (rd s HID.TICKS 0 - rd s HID.BW_AT p.val) * 4 < rd s PMU_BW.W_US p.val * 3125) (fun s => s)) ∧
    (∀ p : Port, Acts (.bwWindowEnd p) 
      (fun s => rd s PMU_BW.W_US p.val ≠ 0 ∧
        rd s PMU_BW.W_US p.val * 3125 ≤ (rd s HID.TICKS 0 - rd s HID.BW_AT p.val) * 4) (fun s =>
      let s1 := bwShow s p.val (rd s HID.BW_RX p.val) PMU_BW.RX_LAST PMU_BW.RX_LAST_SEQ PMU_BW.RX_MIN PMU_BW.RX_MIN_SEQ PMU_BW.RX_MAX
        PMU_BW.RX_MAX_SEQ
      let s2 := bwShow s1 p.val (rd s HID.BW_TX p.val) PMU_BW.TX_LAST PMU_BW.TX_LAST_SEQ PMU_BW.TX_MIN PMU_BW.TX_MIN_SEQ PMU_BW.TX_MAX
        PMU_BW.TX_MAX_SEQ
      wrs s2 [(HID.BW_RX, p.val, 0), (HID.BW_TX, p.val, 0), (HID.BW_SEQ, p.val, rd s HID.BW_SEQ p.val + 1),
        (HID.BW_AT, p.val, rd s HID.TICKS 0)])))

/-- CORRIDOR_START, CORRIDOR_START_TIMEOUT, CORRIDOR_MARKER_RX (R492 to R494): a direction that locks becomes UP with
its failed lanes replaced; an attempt that times out is repeated, the third holds the corridor; a marker seen clears
the misses, the second missed in a row loses the lane. CORRIDOR_PACKET_RX, CTRL_MSG_RETRY, CORRIDOR_LANE_REPLACE,
CORRIDOR_LANE_SWITCH (R495, R496): a packet whose CRC fails is discarded, counted and reported; a control message is
sent again, and the 16th failure in a row is a contained fault; the spare takes the lane's place. -/
def Obligations.CorridorsAct : Prop :=
  (
    (∀ (c : Corridor) (d : Fin 2) skew peak, skew.toNat ≤ 256 → Acts (.corridorStart c d [] skew peak)
      (fun s => rd s DDL_STAT.STATE (2 * c.val + d.val) = 1)
      (fun s => dirStart s (2 * c.val + d.val) [] skew.toNat (min 16 peak.toNat))) ∧
    (∀ (c : Corridor) (d : Fin 2) failed skew peak, 256 < skew.toNat → Acts (.corridorStart c d failed skew peak)
      (fun s => rd s DDL_STAT.STATE (2 * c.val + d.val) = 1) (fun s => attemptFail s c.val)) ∧
    (∀ c : Corridor, Acts (.corridorStartTimeout c)
      (fun s => rd s DDL_STAT.STATE (2 * c.val) = 1 ∧ rd s HID.DDL_TRIES c.val < 2)
      (fun s => wrs s [(HID.DDL_TRIES, c.val, rd s HID.DDL_TRIES c.val + 1), (DDL_STAT.STATE, 2 * c.val, 1),
        (DDL_STAT.STATE, 2 * c.val + 1, 1), (DDL_STAT.ATTEMPT, 2 * c.val, rd s HID.DDL_TRIES c.val + 2),
        (DDL_STAT.ATTEMPT, 2 * c.val + 1, rd s HID.DDL_TRIES c.val + 2)])) ∧
    (∀ c : Corridor, Acts (.corridorStartTimeout c)
      (fun s => rd s DDL_STAT.STATE (2 * c.val) = 1 ∧ 2 ≤ rd s HID.DDL_TRIES c.val)
      (fun s => holdCorridor raise (wr s HID.DDL_TRIES c.val 0) c.val)) ∧
    (∀ (c : Corridor) (d : Fin 2) (x : Fin 1056), Acts (.corridorMarkerRx c d x true true)
      (fun s => dirUp s (2 * c.val + d.val) = true ∧ rd s DDL_LANE.STATE ((2 * c.val + d.val) * 1056 + x.val) = 0)
      (fun s => wr s HID.DDL_MISS ((2 * c.val + d.val) * 1056 + x.val) 0)) ∧
    (∀ (c : Corridor) (d : Fin 2) (x : Fin 1056), Acts (.corridorMarkerRx c d x true false)
      (fun s => dirUp s (2 * c.val + d.val) = true ∧ rd s DDL_LANE.STATE ((2 * c.val + d.val) * 1056 + x.val) = 0)
      (fun s => laneErr (wr s HID.DDL_MISS ((2 * c.val + d.val) * 1056 + x.val) 0) (2 * c.val + d.val) x.val)) ∧
    (∀ (c : Corridor) (d : Fin 2) (x : Fin 1056) ok, Acts (.corridorMarkerRx c d x false ok)
      (fun s => dirUp s (2 * c.val + d.val) = true ∧ rd s DDL_LANE.STATE ((2 * c.val + d.val) * 1056 + x.val) = 0 ∧
        rd s HID.DDL_MISS ((2 * c.val + d.val) * 1056 + x.val) = 0)
      (fun s => wr s HID.DDL_MISS ((2 * c.val + d.val) * 1056 + x.val) 1)) ∧
    (∀ (c : Corridor) (d : Fin 2) (x : Fin 1056) ok, Acts (.corridorMarkerRx c d x false ok)
      (fun s => dirUp s (2 * c.val + d.val) = true ∧ rd s DDL_LANE.STATE ((2 * c.val + d.val) * 1056 + x.val) = 0 ∧
        rd s HID.DDL_MISS ((2 * c.val + d.val) * 1056 + x.val) = 1)
      (fun s => laneLost (bump (wr s HID.DDL_MISS ((2 * c.val + d.val) * 1056 + x.val) 0) DDL_CNT.LOCK_LOSS (2 * c.val + d.val))
        (2 * c.val + d.val) x.val))) ∧
  (
    (∀ (c : Corridor) n (k : Pkt) d, Acts (.corridorPacketRx c n true) (fun s => pktOf s n = some k ∧ crosses c.val k = some d)
      (fun s => perf s { perfE 0x40 1 with kind := 4, index := c.val })) ∧
    (∀ (c : Corridor) n (k : Pkt) d, Acts (.corridorPacketRx c n false) (fun s => pktOf s n = some k ∧ crosses c.val k = some d)
      (fun s => faultC (0xA60 + c.val) (bump (losePkt (perf s { perfE 0x40 1 with kind := 4, index := c.val }) k) DDL_CNT.CRC_DROP
        (2 * c.val + d)))) ∧
    (∀ (c : Corridor) (d : Fin 2), Acts (.ctrlMsgRetry c d true) (fun _ => True)
      (fun s => wr (perf (emit (bump s DDL_CNT.CTRL_RETRY (2 * c.val + d.val)) (.ctrlResend c.val d.val))
        { perfE 0x41 1 with kind := 4, index := c.val }) HID.DDL_RETRY (2 * c.val + d.val) 0)) ∧
    (∀ (c : Corridor) (d : Fin 2), Acts (.ctrlMsgRetry c d false) (fun s => rd s HID.DDL_RETRY (2 * c.val + d.val) < 15)
      (fun s => wr (perf (emit (bump s DDL_CNT.CTRL_RETRY (2 * c.val + d.val)) (.ctrlResend c.val d.val))
        { perfE 0x41 1 with kind := 4, index := c.val }) HID.DDL_RETRY (2 * c.val + d.val) (rd s HID.DDL_RETRY (2 * c.val + d.val) + 1))) ∧
    (∀ (c : Corridor) (d : Fin 2), Acts (.ctrlMsgRetry c d false) (fun s => 15 ≤ rd s HID.DDL_RETRY (2 * c.val + d.val))
      (fun s => faultK (0xA20 + c.val) (wr (perf (emit (bump s DDL_CNT.CTRL_RETRY (2 * c.val + d.val)) (.ctrlResend c.val d.val))
        { perfE 0x41 1 with kind := 4, index := c.val }) HID.DDL_RETRY (2 * c.val + d.val) 0))) ∧
    (∀ (c : Corridor) (d : Fin 2) (x : Fin 1056), Acts (.corridorLaneReplace c d x)
      (fun s => ddlSpare s (2 * c.val + d.val) = none) (fun s => s)) ∧
    (∀ (c : Corridor) (d : Fin 2) (x : Fin 1056), Acts (.corridorLaneReplace c d x)
      (fun s => (ddlSpare s (2 * c.val + d.val)).isSome = true) (fun s => ddlReplace raise s (2 * c.val + d.val) x.val)) ∧
    (∀ (c : Corridor) (d : Fin 2) (x y : Nat), Acts (.corridorLaneSwitch c d)
      (fun s => rd s HID.DDL_FROM (2 * c.val + d.val) = x + 1 ∧ rd s HID.DDL_TO (2 * c.val + d.val) = y + 1) (fun s =>
        let dd := 2 * c.val + d.val
        let s1 := wrs s [(DDL_LANE.STATE, dd * 1056 + y, 0), (DDL_LANE.POS, dd * 1056 + y, rd s DDL_LANE.POS (dd * 1056 + x)),
          (DDL_LANE.STATE, dd * 1056 + x, 3), (DDL_LANE.POS, dd * 1056 + x, 0x7FF),
          (DDL_STAT.SPARES_FREE, dd, rd s DDL_STAT.SPARES_FREE dd - 1), (HID.DDL_FROM, dd, 0), (HID.DDL_TO, dd, 0)]
        ddlNext raise (faultC (0xA40 + c.val) (perf (bump s1 DDL_CNT.REPLACED dd) { perfE 0x43 1 with kind := 4, index := c.val })) dd)))

/-- CEIL_STORE_OPEN, LANE_MODE, LANE_RESTART, FORMAT_FOUND, ACQ_TIMEOUT, BACKOFF_EXPIRE, LISTEN_ACTIVITY complete (R82,
R88, R243, R244, R247, R248, R258, R400): for every state and operands in which the rule lets the row act, and
conditions on them alone, exec answers the next state written out here. The ceiling store is read in bring-up's step
5, whether or not it opens; a lane command runs when its ring dispatches it and the checks of R138 pass; a format, a
timeout, the end of a back-off and activity act on a lane that searches, or listens in a sheaf in S0. -/
def Obligations.LaneAndCeilingRowsAnswerNext : Prop :=
  (∀ okA okB s, rd s HID.BOOT_STEP 0 = 4 → booting s = true →
    ∃ t, exec (.ceilStoreOpen okA okB) s = .next t ∧ rd t HID.BOOT_STEP 0 = 6 ∧
      rd t HIF_STATUS.LINK_UP 0 = rd s HID.PERST_HIGH 0 % 2) ∧
  (∀ okA okB s tab cnt, rd s HID.BOOT_STEP 0 = 4 → booting s = true → ceilPick s okA okB = some (tab, cnt) →
    cnt = ceilUsed s + 1 → exec (.ceilStoreOpen okA okB) s = .next
      (let u := loadCeil (wr s GLB_BOOT_STAT.CEIL_BAD 0 0) tab
       wrs (forEach (List.range 64) (wr u EMG_GLB_CFG.CEIL_LEFT 0 (rd u EMG_GLB_CFG.CEIL_LEFT 0 - 1)) (fun k w => siteClear w k))
         [(HID.BOOT_STEP, 0, 6), (HIF_STATUS.LINK_UP, 0, rd s HID.PERST_HIGH 0)])) ∧
  (∀ (r : Ring) s a, ready s r.val 0x50 = some a → blockHeld opLaneMode s r.val a = false →
    refusal opLaneMode (popFront s r.val) r.val a = none → a.cmd.stage = false →
    a.woken = true ∨ wakeList opLaneMode (popFront s r.val) a = [] → opLaneMode.check (popFront s r.val) a = none →
    exec (.laneMode r) s = .next (finish
      ((maskLanes (opdB a 0x10) (opdB a 0x11)).foldl (laneModeOne (opdB a 0x12) (opdBit a 0x13 0))
        (synthMode (popFront s r.val) (opdB a 0x10) (opdB a 0x11) (opdB a 0x12))) r.val a rOk)) ∧
  (∀ (r : Ring) s a, ready s r.val 0x51 = some a → blockHeld opLaneRestart s r.val a = false →
    refusal opLaneRestart (popFront s r.val) r.val a = none → a.cmd.stage = false →
    a.woken = true ∨ wakeList opLaneRestart (popFront s r.val) a = [] →
    exec (.laneRestart r) s = .next (finish
      ((maskLanes (opdB a 0x10) (opdB a 0x11)).foldl laneRestartOne (popFront s r.val)) r.val a rOk)) ∧
  (∀ (l : Lane) f s, laneSt s l.val = laneACQUIRE → flag s SHF_LANE_STAT.WAIT_SYNTH l.val = false →
    flag s HID.LANE_CONFIRM l.val = false →
    (f = .training → rd s SHF_LANE_STAT.MODE l.val = 1 ∨ rd s SHF_LANE_STAT.MODE l.val = 2 ∨ rd s SHF_LANE_STAT.MODE l.val = 3 →
      ∃ t, exec (.formatFound l f) s = .next t ∧ rd t HID.TRN_MSG l.val = 1) ∧
    (f = .standard → rd s SHF_LANE_STAT.MODE l.val = 4 →
      ∃ t, exec (.formatFound l f) s = .next t ∧ rd t SHF_LANE_STAT.FORMAT l.val = 3 ∧ rd t SHF_RX_CDR.LOCK l.val = 1) ∧
    (¬ (f = .training ∧ nativeFam (rd s SHF_LANE_STAT.MODE l.val) = true) → ¬ (f = .standard ∧ rd s SHF_LANE_STAT.MODE l.val = 4) →
      exec (.formatFound l f) s = .next (bump (wrs s [(SHF_LANE_STAT.FOUND, l.val, foundCode f), (HID.SAW_FORMAT, l.val,
        setBit (rd s HID.SAW_FORMAT l.val) (if modeAllows (rd s SHF_LANE_STAT.MODE l.val) f = true then 0 else 1))])
        SHF_LANE_CNT.MISMATCH l.val))) ∧
  (∀ (l : Lane) env s, laneSt s l.val = laneACQUIRE → flag s SHF_LANE_STAT.WAIT_SYNTH l.val = false →
    exec (.acqTimeout l env) s = .next (failAttempt raise s l.val
      (if env = false ∨ detects s l.val = false then 1 else if rd s HID.SAW_FORMAT l.val = 2 then 3 else 2))) ∧
  (∀ (l : Lane) s, laneSt s l.val = laneLISTEN → flag s HID.BACKOFF l.val = true →
    domSt s (sheafDom (l.val / 8)) = 0 →
    exec (.backoffExpire l) s = .next (startAttempt raise s l.val (rd s SHF_LANE_STAT.ATTEMPT l.val + 1))) ∧
  (∀ (l : Lane) s, laneSt s l.val = laneLISTEN → domSt s (sheafDom (l.val / 8)) = 0 → detects s l.val = true →
    exec (.listenActivity l) s = .next (startAttempt raise s l.val
      (if flag s SHF_LANE_STAT.EXHAUSTED l.val = true then 1 else rd s SHF_LANE_STAT.ATTEMPT l.val + 1)))
end

