-- ==== Sys2Proof/Laws/Engine.lean ====
section
/-! SUPPORT. The command engine's one law: when an opcode runs, its row's dispatch is what the opcode's own rules answer. -/

namespace Sys2Proof

open Sys2Proof.Machine

/-- What a dispatched command leaves, from what its own rules answer. -/
def answered (a : Acc) (r : Nat) : Ans → State
  | .done t p => finish t r a p
  | .doneThen t p k => k (finish t r a p)
  | .wait t ds => { t with running := t.running ++ [⟨r, a, .waiting ds⟩] }

theorem Runs.dispatch_eq {o : OpSpec} {s : State} {r : Ring} {a : Acc} (h : Runs o s r a) :
    dispatch o r.val s = answered a r.val (o.run r.val a (popFront s r.val)) := by
  obtain ⟨⟨h1, h0⟩, h2, h3, h4, h5⟩ := h
  have hw : (if a.woken then [] else wakeList o (popFront s r.val) a) = [] := by
    rcases h4 with h4 | h4 <;> simp [h4]
  unfold dispatch execOp
  rw [h1]
  simp only [h0, h2, h3, h5, hw, Bool.false_eq_true, if_false, List.isEmpty_nil, Bool.not_true, Bool.false_and]
  cases o.run r.val a (popFront s r.val) <;> rfl

theorem Runs.done {o : OpSpec} {s : State} {r : Ring} {a : Acc} {u : State} {p : Reply} (h : Runs o s r a)
    (hr : o.run r.val a (popFront s r.val) = .done u p) : dispatch o r.val s = finish u r.val a p := by
  rw [h.dispatch_eq, hr]; rfl

theorem Runs.doneThen {o : OpSpec} {s : State} {r : Ring} {a : Acc} {u : State} {p : Reply} {k : State → State}
    (h : Runs o s r a) (hr : o.run r.val a (popFront s r.val) = .doneThen u p k) :
    dispatch o r.val s = k (finish u r.val a p) := by
  rw [h.dispatch_eq, hr]; rfl

theorem Runs.waits {o : OpSpec} {s : State} {r : Ring} {a : Acc} {u : State} {ds : List Nat} (h : Runs o s r a)
    (hr : o.run r.val a (popFront s r.val) = .wait u ds) :
    dispatch o r.val s = { u with running := u.running ++ [⟨r.val, a, .waiting ds⟩] } := by
  rw [h.dispatch_eq, hr]; rfl

/-- A row whose meaning is its opcode's dispatch completes when the opcode's rules are done. -/
theorem completes_of {c : Ring → Instr} {o : OpSpec} {H : State → Acc → Prop} {F : State → Acc → State}
    {P : State → Acc → Reply} (hc : ∀ r s, exec (c r) s = .next (dispatch o r.val s))
    (hq : ∀ (r : Ring) s a, o.check s a = none → H s a → o.run r.val a s = .done (F s a) (P s a)) :
    Completes c o H F P := by
  intro r s a h hH
  rw [hc, h.done (hq r (popFront s r.val) a h.2.2.2.2 hH)]

/-- A row whose meaning is its opcode's dispatch completes with a consequence when the opcode's rules say so. -/
theorem completesThen_of {c : Ring → Instr} {o : OpSpec} {H : State → Acc → Prop} {F : State → Acc → State}
    {P : State → Acc → Reply} {K : State → Acc → State → State} (hc : ∀ r s, exec (c r) s = .next (dispatch o r.val s))
    (hq : ∀ (r : Ring) s a, o.check s a = none → H s a → o.run r.val a s = .doneThen (F s a) (P s a) (K s a)) :
    CompletesThen c o H F P K := by
  intro r s a h hH
  rw [hc, h.doneThen (hq r (popFront s r.val) a h.2.2.2.2 hH)]

/-- A row whose meaning is its opcode's dispatch waits when the opcode's rules wait. -/
theorem startsWait_of {c : Ring → Instr} {o : OpSpec} {H : State → Acc → Prop} {F : State → Acc → State}
    {W : State → Acc → List Nat} (hc : ∀ r s, exec (c r) s = .next (dispatch o r.val s))
    (hq : ∀ (r : Ring) s a, o.check s a = none → H s a → o.run r.val a s = .wait (F s a) (W s a)) :
    StartsWait c o H F W := by
  intro r s a h hH
  rw [hc, h.waits (hq r (popFront s r.val) a h.2.2.2.2 hH)]

/-- A staged command of a row whose opcode is neither SI_OPEN nor REG_WRITE joins its landing. -/
theorem stages_of {c : Ring → Instr} {o : OpSpec} (hc : ∀ r s, exec (c r) s = .next (dispatch o r.val s))
    (h40 : o.op ≠ 0x40) (h1 : o.op ≠ 0x01) : Stages c o := by
  intro r s a ⟨⟨hr, hb⟩, hf, hs, ⟨hg, hw⟩, hk⟩
  have hw' : (if a.woken then [] else wakeList o (popFront s r.val) a) = [] := by
    rcases hw with hw | hw <;> simp [hw]
  rw [hc]
  unfold dispatch execOp
  rw [hr]
  simp only [hb, hf, hs, if_true, hg, hk, hw', Bool.false_eq_true, if_false, List.isEmpty_nil, Bool.not_true]
  simp [h40, h1]

end Sys2Proof
end

