-- ==== Sys2Proof/Laws/Frames.lean ====
section
/-! SUPPORT. What the checks of frames can give: a CRC-32 is a 32-bit number, and a frame built around a core is valid. -/

namespace Sys2Proof.Machine

theorem crcBit_lt {poly c : Nat} (b : Bool) (hp : poly < 2 ^ 32) (hc : c < 2 ^ 32) : crcBit poly c b < 2 ^ 32 := by
  unfold crcBit
  split
  · exact Nat.xor_lt_two_pow (by omega) hp
  · omega

theorem foldl_lt {α : Type} (f : Nat → α → Nat) (h : ∀ c a, c < 2 ^ 32 → f c a < 2 ^ 32) (l : List α) :
    ∀ c, c < 2 ^ 32 → l.foldl f c < 2 ^ 32 := by
  induction l with
  | nil => exact fun c hc => hc
  | cons a t ih => exact fun c hc => ih _ (h c a hc)

theorem crcByte_lt {poly c : Nat} (b : Byte) (hp : poly < 2 ^ 32) (hc : c < 2 ^ 32) : crcByte poly c b < 2 ^ 32 :=
  foldl_lt _ (fun _ _ h => crcBit_lt _ hp h) _ _ hc

theorem crcRefl_lt {poly seed : Nat} (l : List Byte) (hp : poly < 2 ^ 32) (hs : seed < 2 ^ 32) : crcRefl poly seed l < 2 ^ 32 :=
  Nat.xor_lt_two_pow (foldl_lt _ (fun _ _ h => crcByte_lt _ hp h) _ _ hs) (by decide)

theorem crc32_lt (l : List Byte) : crc32 l < 2 ^ 32 := crcRefl_lt l (by decide) (by decide)

/-- A frame with the marker, and with the CRC of its own core, is valid (R249). -/
theorem trnValid_of_crc (h : TrnHdr) (msg : Nat) (body : List Byte) (hm : h.marker = BitVec.ofNat 64 trnMarker)
    (hc : h.crc = BitVec.ofNat 32 (crc32 (trnCore h.version h.phase h.probe h.seq h.ack msg body h.fill))) :
    trnValid h msg body = true := by
  have := crc32_lt (trnCore h.version h.phase h.probe h.seq h.ack msg body h.fill)
  unfold trnValid
  rw [hm, hc, BitVec.toNat_ofNat, BitVec.toNat_ofNat, Nat.mod_eq_of_lt this]
  simp only [beq_self_eq_true, Bool.and_true]
  decide

end Sys2Proof.Machine
end

