-- ==== Sys2Proof/Laws/Store.lean ====
section
/-! SUPPORT. The laws of the tables: what a read gives after a write, and that every operation keeps the keys strictly
rising. -/

namespace Sys2Proof.Machine

theorem keyEq_iff (a b : Key) : keyEq a b = true ↔ a = b := by
  obtain ⟨a1, a2⟩ := a; obtain ⟨b1, b2⟩ := b
  simp [keyEq]

@[simp] theorem keyEq_self (a : Key) : keyEq a a = true := by simp [keyEq_iff]

theorem keyEq_false_iff (a b : Key) : keyEq a b = false ↔ a ≠ b := by
  rw [← Bool.not_eq_true, keyEq_iff]

theorem keyLt_iff (a b : Key) : keyLt a b = true ↔ a.1 < b.1 ∨ (a.1 = b.1 ∧ a.2 < b.2) := by
  simp [keyLt]

theorem keyLt_trans {a b c : Key} (h1 : keyLt a b = true) (h2 : keyLt b c = true) : keyLt a c = true := by
  rw [keyLt_iff] at *; omega

theorem keyLt_irrefl (a : Key) : keyLt a a = false := by
  rw [← Bool.not_eq_true, keyLt_iff]; omega

theorem keyLt_total {a b : Key} (h1 : keyEq a b = false) (h2 : keyLt b a = false) : keyLt a b = true := by
  obtain ⟨a1, a2⟩ := a; obtain ⟨b1, b2⟩ := b
  rw [keyEq_false_iff] at h1
  rw [← Bool.not_eq_true, keyLt_iff] at h2
  rw [keyLt_iff]
  simp only [ne_eq, Prod.mk.injEq, not_and] at h1
  simp only at *
  omega

/-! ## Reading -/

@[simp] theorem tabGet_nil {α : Type} (k : Key) : tabGet ([] : Tab α) k = none := rfl

@[simp] theorem tabGet_tabPut_same {α : Type} (t : Tab α) (k : Key) (v : α) : tabGet (tabPut t k v) k = some v := by
  induction t with
  | nil => simp [tabPut, tabGet]
  | cons e t ih =>
    by_cases h1 : keyEq e.1 k = true
    · simp [tabPut, tabGet, h1]
    · by_cases h2 : keyLt k e.1 = true
      · simp [tabPut, tabGet, h1, h2]
      · simp [tabPut, tabGet, h1, h2, ih]

theorem tabGet_tabPut_other {α : Type} (t : Tab α) {k j : Key} (v : α) (h : k ≠ j) :
    tabGet (tabPut t k v) j = tabGet t j := by
  have hkj : keyEq k j = false := (keyEq_false_iff k j).2 h
  induction t with
  | nil => simp [tabPut, tabGet, hkj]
  | cons e t ih =>
    by_cases h1 : keyEq e.1 k = true
    · have he : keyEq e.1 j = false := by rw [(keyEq_iff e.1 k).1 h1]; exact hkj
      simp [tabPut, tabGet, h1, hkj, he]
    · by_cases h2 : keyLt k e.1 = true
      · simp [tabPut, tabGet, h1, h2, hkj]
      · simp [tabPut, tabGet, h1, h2, ih]

@[simp] theorem tabGet_tabDel_same {α : Type} (t : Tab α) (k : Key) : tabGet (tabDel t k) k = none := by
  induction t with
  | nil => rfl
  | cons e t ih =>
    by_cases h1 : keyEq e.1 k = true
    · simp [tabDel, h1, ih]
    · simp [tabDel, tabGet, h1, ih]

theorem tabGet_tabDel_other {α : Type} (t : Tab α) {k j : Key} (h : k ≠ j) : tabGet (tabDel t k) j = tabGet t j := by
  have hkj : keyEq k j = false := (keyEq_false_iff k j).2 h
  induction t with
  | nil => rfl
  | cons e t ih =>
    by_cases h1 : keyEq e.1 k = true
    · have he : keyEq e.1 j = false := by rw [(keyEq_iff e.1 k).1 h1]; exact hkj
      simp [tabDel, tabGet, h1, he, ih]
    · simp [tabDel, tabGet, h1, ih]

/-- A read of a table whose entries of other keys a filter may have dropped. -/
theorem tabGet_filter {α : Type} (t : Tab α) (p : Key × α → Bool) (j : Key) (h : ∀ e ∈ t, e.1 = j → p e = true) :
    tabGet (t.filter p) j = tabGet t j := by
  induction t with
  | nil => rfl
  | cons e t ih =>
    have ih' := ih (fun x hx => h x (List.mem_cons_of_mem e hx))
    by_cases he : keyEq e.1 j = true
    · have := h e (List.mem_cons_self) ((keyEq_iff e.1 j).1 he)
      simp [List.filter, this, tabGet, he]
    · by_cases hp : p e = true
      · simp [List.filter, hp, tabGet, he, ih']
      · simp [List.filter, hp, tabGet, he, ih']

/-! ## The canonical form -/

theorem tabWf_cons {α : Type} (e : Key × α) (t : Tab α) :
    tabWf (e :: t) = true ↔ (∀ x ∈ t, keyLt e.1 x.1 = true) ∧ tabWf t = true := by
  induction t generalizing e with
  | nil => simp [tabWf]
  | cons b t ih =>
    simp only [tabWf, Bool.and_eq_true, List.mem_cons, forall_eq_or_imp]
    constructor
    · rintro ⟨h1, h2⟩
      exact ⟨⟨h1, fun x hx => keyLt_trans h1 (((ih b).1 h2).1 x hx)⟩, h2⟩
    · rintro ⟨⟨h1, _⟩, h3⟩
      exact ⟨h1, h3⟩

@[simp] theorem tabWf_nil {α : Type} : tabWf ([] : Tab α) = true := rfl

theorem mem_tabPut {α : Type} {t : Tab α} {k : Key} {v : α} {x : Key × α} (h : x ∈ tabPut t k v) :
    x = (k, v) ∨ x ∈ t := by
  induction t with
  | nil => simpa [tabPut] using h
  | cons e t ih =>
    simp only [tabPut] at h
    split at h
    · rcases List.mem_cons.1 h with h | h
      · exact Or.inl h
      · exact Or.inr (List.mem_cons_of_mem e h)
    · split at h
      · rcases List.mem_cons.1 h with h | h
        · exact Or.inl h
        · exact Or.inr h
      · rcases List.mem_cons.1 h with h | h
        · exact Or.inr (h ▸ List.mem_cons_self)
        · exact (ih h).imp_right (List.mem_cons_of_mem e)

theorem mem_tabDel {α : Type} {t : Tab α} {k : Key} {x : Key × α} (h : x ∈ tabDel t k) : x ∈ t := by
  induction t with
  | nil => exact h
  | cons e t ih =>
    simp only [tabDel] at h
    split at h
    · exact List.mem_cons_of_mem e (ih h)
    · rcases List.mem_cons.1 h with h | h
      · exact h ▸ List.mem_cons_self
      · exact List.mem_cons_of_mem e (ih h)

theorem tabPut_wf {α : Type} (t : Tab α) (k : Key) (v : α) (h : tabWf t = true) : tabWf (tabPut t k v) = true := by
  induction t with
  | nil => rfl
  | cons e t ih =>
    obtain ⟨h1, h2⟩ := (tabWf_cons e t).1 h
    simp only [tabPut]
    split
    · rename_i hk
      rw [tabWf_cons]
      exact ⟨fun x hx => (keyEq_iff e.1 k).1 hk ▸ h1 x hx, h2⟩
    · split
      · rename_i hlt
        rw [tabWf_cons]
        refine ⟨fun x hx => ?_, h⟩
        rcases List.mem_cons.1 hx with hx | hx
        · exact hx ▸ hlt
        · exact keyLt_trans hlt (h1 x hx)
      · rename_i hne hnlt
        rw [tabWf_cons]
        refine ⟨fun x hx => ?_, ih h2⟩
        rcases mem_tabPut hx with hx | hx
        · exact hx ▸ keyLt_total (by simpa using hne) (by simpa using hnlt)
        · exact h1 x hx

theorem tabDel_wf {α : Type} (t : Tab α) (k : Key) (h : tabWf t = true) : tabWf (tabDel t k) = true := by
  induction t with
  | nil => rfl
  | cons e t ih =>
    obtain ⟨h1, h2⟩ := (tabWf_cons e t).1 h
    simp only [tabDel]
    split
    · exact ih h2
    · rw [tabWf_cons]
      exact ⟨fun x hx => h1 x (mem_tabDel hx), ih h2⟩

theorem tabSet_wf {α : Type} (t : Tab α) (k : Key) (v : Option α) (h : tabWf t = true) : tabWf (tabSet t k v) = true := by
  cases v with
  | none => exact tabDel_wf t k h
  | some v => exact tabPut_wf t k v h

theorem filter_wf {α : Type} (t : Tab α) (p : Key × α → Bool) (h : tabWf t = true) : tabWf (t.filter p) = true := by
  induction t with
  | nil => rfl
  | cons e t ih =>
    obtain ⟨h1, h2⟩ := (tabWf_cons e t).1 h
    simp only [List.filter]
    split
    · rw [tabWf_cons]
      exact ⟨fun x hx => h1 x (List.mem_of_mem_filter hx), ih h2⟩
    · exact ih h2

theorem map_wf {α : Type} (t : Tab α) (g : Key × α → Key × α) (hg : ∀ e, (g e).1 = e.1) (h : tabWf t = true) :
    tabWf (t.map g) = true := by
  induction t with
  | nil => rfl
  | cons e t ih =>
    obtain ⟨h1, h2⟩ := (tabWf_cons e t).1 h
    rw [List.map_cons, tabWf_cons]
    refine ⟨fun x hx => ?_, ih h2⟩
    obtain ⟨y, hy, rfl⟩ := List.mem_map.1 hx
    rw [hg, hg]
    exact h1 y hy

end Sys2Proof.Machine
end

