-- ==== Sys2Proof/Laws/State.lean ====
section
/-! SUPPORT. Reading a field after an update: one small lemma for each field of the state and each named update, and
reads of the register store after writes of it. -/

namespace Sys2Proof.Machine

/-! ## One register field -/

@[simp] theorem rd_wr_same (s : State) (f : Fld) (i v : Nat) : rd (wr s f i v) f i = v % 2 ^ f.w := by
  unfold rd wr
  by_cases h : v % 2 ^ f.w = resetOf f i
  · simp [h]
  · simp [h]

theorem rd_wr_other (s : State) (f g : Fld) (i j v : Nat) (h : f.id ≠ g.id ∨ i ≠ j) :
    rd (wr s f i v) g j = rd s g j := by
  have hk : ((f.id, i) : Key) ≠ (g.id, j) := by
    intro he
    rcases h with h | h
    · exact h (congrArg Prod.fst he)
    · exact h (congrArg Prod.snd he)
  unfold rd wr
  by_cases hv : v % 2 ^ f.w = resetOf f i
  · simp [hv, tabGet_tabDel_other _ hk]
  · simp [hv, tabGet_tabPut_other _ _ hk]

theorem rd_wr_id (s : State) (f g : Fld) (i j v : Nat) (h : f.id ≠ g.id) : rd (wr s f i v) g j = rd s g j :=
  rd_wr_other s f g i j v (Or.inl h)

theorem rd_wr_part (s : State) (f g : Fld) (i j v : Nat) (h : i ≠ j) : rd (wr s f i v) g j = rd s g j :=
  rd_wr_other s f g i j v (Or.inr h)

@[simp] theorem wrs_nil (s : State) : wrs s [] = s := rfl
@[simp] theorem wrs_cons (s : State) (e : Fld × Nat × Nat) (t : List (Fld × Nat × Nat)) :
    wrs s (e :: t) = wrs (wr s e.1 e.2.1 e.2.2) t := rfl

/-- A write of the register store writes nothing else. -/
theorem wr_eq (s : State) (f : Fld) (i v : Nat) : wr s f i v = { s with regs := (wr s f i v).regs } := rfl

theorem wrs_eq (l : List (Fld × Nat × Nat)) (s : State) : wrs s l = { s with regs := (wrs s l).regs } := by
  induction l generalizing s with
  | nil => rfl
  | cons e t ih => rw [wrs_cons, ih]; rfl

theorem rd_wrs_other (l : List (Fld × Nat × Nat)) (s : State) (g : Fld) (j : Nat)
    (h : ∀ e ∈ l, e.1.id ≠ g.id ∨ e.2.1 ≠ j) : rd (wrs s l) g j = rd s g j := by
  induction l generalizing s with
  | nil => rfl
  | cons e t ih =>
    rw [wrs_cons, ih _ (fun x hx => h x (List.mem_cons_of_mem e hx)), rd_wr_other _ _ _ _ _ _ (h e List.mem_cons_self)]

/-- A write keeps the register store canonical. -/
theorem wr_regs_wf (s : State) (f : Fld) (i v : Nat) (h : tabWf s.regs = true) : tabWf (wr s f i v).regs = true := by
  unfold wr
  by_cases hv : v % 2 ^ f.w = resetOf f i
  · simpa [hv] using tabDel_wf s.regs (f.id, i) h
  · simpa [hv] using tabPut_wf s.regs (f.id, i) _ h

/-! ## The state's other fields -/

@[simp] theorem wr_rings (s : State) (f : Fld) (i v : Nat) : (wr s f i v).rings = s.rings := rfl
@[simp] theorem wr_running (s : State) (f : Fld) (i v : Nat) : (wr s f i v).running = s.running := rfl
@[simp] theorem wr_sessions (s : State) (f : Fld) (i v : Nat) : (wr s f i v).sessions = s.sessions := rfl
@[simp] theorem wr_vst (s : State) (f : Fld) (i v : Nat) : (wr s f i v).vst = s.vst := rfl
@[simp] theorem wr_vstReq (s : State) (f : Fld) (i v : Nat) : (wr s f i v).vstReq = s.vstReq := rfl
@[simp] theorem wr_vstRsp (s : State) (f : Fld) (i v : Nat) : (wr s f i v).vstRsp = s.vstRsp := rfl
@[simp] theorem wr_opKeys (s : State) (f : Fld) (i v : Nat) : (wr s f i v).opKeys = s.opKeys := rfl
@[simp] theorem wr_instCreds (s : State) (f : Fld) (i v : Nat) : (wr s f i v).instCreds = s.instCreds := rfl
@[simp] theorem wr_caks (s : State) (f : Fld) (i v : Nat) : (wr s f i v).caks = s.caks := rfl
@[simp] theorem wr_siVerify (s : State) (f : Fld) (i v : Nat) : (wr s f i v).siVerify = s.siVerify := rfl
@[simp] theorem wr_siDecrypt (s : State) (f : Fld) (i v : Nat) : (wr s f i v).siDecrypt = s.siDecrypt := rfl
@[simp] theorem wr_makerKey (s : State) (f : Fld) (i v : Nat) : (wr s f i v).makerKey = s.makerKey := rfl
@[simp] theorem wr_enrolKey (s : State) (f : Fld) (i v : Nat) : (wr s f i v).enrolKey = s.enrolKey := rfl
@[simp] theorem wr_attestKey (s : State) (f : Fld) (i v : Nat) : (wr s f i v).attestKey = s.attestKey := rfl
@[simp] theorem wr_audit (s : State) (f : Fld) (i v : Nat) : (wr s f i v).audit = s.audit := rfl
@[simp] theorem wr_tblSums (s : State) (f : Fld) (i v : Nat) : (wr s f i v).tblSums = s.tblSums := rfl
@[simp] theorem wr_evqs (s : State) (f : Fld) (i v : Nat) : (wr s f i v).evqs = s.evqs := rfl
@[simp] theorem wr_punts (s : State) (f : Fld) (i v : Nat) : (wr s f i v).punts = s.punts := rfl
@[simp] theorem wr_out (s : State) (f : Fld) (i v : Nat) : (wr s f i v).out = s.out := rfl
@[simp] theorem wr_flash (s : State) (f : Fld) (i v : Nat) : (wr s f i v).flash = s.flash := rfl
@[simp] theorem wr_ceilA (s : State) (f : Fld) (i v : Nat) : (wr s f i v).ceilA = s.ceilA := rfl
@[simp] theorem wr_ceilB (s : State) (f : Fld) (i v : Nat) : (wr s f i v).ceilB = s.ceilB := rfl
@[simp] theorem wr_cargo (s : State) (f : Fld) (i v : Nat) : (wr s f i v).cargo = s.cargo := rfl
@[simp] theorem wr_gen0 (s : State) (f : Fld) (i v : Nat) : (wr s f i v).gen0 = s.gen0 := rfl
@[simp] theorem wr_gen1 (s : State) (f : Fld) (i v : Nat) : (wr s f i v).gen1 = s.gen1 := rfl
@[simp] theorem wr_siCtx (s : State) (f : Fld) (i v : Nat) : (wr s f i v).siCtx = s.siCtx := rfl
@[simp] theorem wr_pairs (s : State) (f : Fld) (i v : Nat) : (wr s f i v).pairs = s.pairs := rfl
@[simp] theorem wr_cache (s : State) (f : Fld) (i v : Nat) : (wr s f i v).cache = s.cache := rfl
@[simp] theorem wr_poison (s : State) (f : Fld) (i v : Nat) : (wr s f i v).poison = s.poison := rfl
@[simp] theorem wr_pkts (s : State) (f : Fld) (i v : Nat) : (wr s f i v).pkts = s.pkts := rfl
@[simp] theorem wr_queues (s : State) (f : Fld) (i v : Nat) : (wr s f i v).queues = s.queues := rfl
@[simp] theorem wr_nodes (s : State) (f : Fld) (i v : Nat) : (wr s f i v).nodes = s.nodes := rfl
@[simp] theorem wr_gates (s : State) (f : Fld) (i v : Nat) : (wr s f i v).gates = s.gates := rfl
@[simp] theorem wr_saks (s : State) (f : Fld) (i v : Nat) : (wr s f i v).saks = s.saks := rfl
@[simp] theorem wr_peers (s : State) (f : Fld) (i v : Nat) : (wr s f i v).peers = s.peers := rfl
@[simp] theorem wr_bits (s : State) (f : Fld) (i v : Nat) : (wr s f i v).bits = s.bits := rfl
@[simp] theorem wr_banks (s : State) (f : Fld) (i v : Nat) : (wr s f i v).banks = s.banks := rfl
@[simp] theorem wr_eqs (s : State) (f : Fld) (i v : Nat) : (wr s f i v).eqs = s.eqs := rfl
@[simp] theorem wr_shapes (s : State) (f : Fld) (i v : Nat) : (wr s f i v).shapes = s.shapes := rfl
@[simp] theorem wr_trnMsgs (s : State) (f : Fld) (i v : Nat) : (wr s f i v).trnMsgs = s.trnMsgs := rfl
@[simp] theorem wr_txBits (s : State) (f : Fld) (i v : Nat) : (wr s f i v).txBits = s.txBits := rfl
@[simp] theorem wr_chains (s : State) (f : Fld) (i v : Nat) : (wr s f i v).chains = s.chains := rfl
@[simp] theorem wr_monSite (s : State) (f : Fld) (i v : Nat) : (wr s f i v).monSite = s.monSite := rfl
@[simp] theorem wr_monIn (s : State) (f : Fld) (i v : Nat) : (wr s f i v).monIn = s.monIn := rfl
@[simp] theorem wr_merge (s : State) (f : Fld) (i v : Nat) : (wr s f i v).merge = s.merge := rfl
@[simp] theorem wr_withheld (s : State) (f : Fld) (i v : Nat) : (wr s f i v).withheld = s.withheld := rfl
@[simp] theorem wr_pmuRuns (s : State) (f : Fld) (i v : Nat) : (wr s f i v).pmuRuns = s.pmuRuns := rfl
@[simp] theorem wr_slices (s : State) (f : Fld) (i v : Nat) : (wr s f i v).slices = s.slices := rfl
@[simp] theorem wr_errTicks (s : State) (f : Fld) (i v : Nat) : (wr s f i v).errTicks = s.errTicks := rfl
@[simp] theorem wr_freeCnt (s : State) (f : Fld) (i v : Nat) : (wr s f i v).freeCnt = s.freeCnt := rfl
@[simp] theorem wr_pending (s : State) (f : Fld) (i v : Nat) : (wr s f i v).pending = s.pending := rfl

@[simp] theorem unwr_rings (s : State) (f : Fld) (i : Nat) : (unwr s f i).rings = s.rings := rfl
@[simp] theorem unwr_running (s : State) (f : Fld) (i : Nat) : (unwr s f i).running = s.running := rfl
@[simp] theorem unwr_sessions (s : State) (f : Fld) (i : Nat) : (unwr s f i).sessions = s.sessions := rfl
@[simp] theorem unwr_vst (s : State) (f : Fld) (i : Nat) : (unwr s f i).vst = s.vst := rfl
@[simp] theorem unwr_vstReq (s : State) (f : Fld) (i : Nat) : (unwr s f i).vstReq = s.vstReq := rfl
@[simp] theorem unwr_vstRsp (s : State) (f : Fld) (i : Nat) : (unwr s f i).vstRsp = s.vstRsp := rfl
@[simp] theorem unwr_opKeys (s : State) (f : Fld) (i : Nat) : (unwr s f i).opKeys = s.opKeys := rfl
@[simp] theorem unwr_instCreds (s : State) (f : Fld) (i : Nat) : (unwr s f i).instCreds = s.instCreds := rfl
@[simp] theorem unwr_caks (s : State) (f : Fld) (i : Nat) : (unwr s f i).caks = s.caks := rfl
@[simp] theorem unwr_siVerify (s : State) (f : Fld) (i : Nat) : (unwr s f i).siVerify = s.siVerify := rfl
@[simp] theorem unwr_siDecrypt (s : State) (f : Fld) (i : Nat) : (unwr s f i).siDecrypt = s.siDecrypt := rfl
@[simp] theorem unwr_makerKey (s : State) (f : Fld) (i : Nat) : (unwr s f i).makerKey = s.makerKey := rfl
@[simp] theorem unwr_enrolKey (s : State) (f : Fld) (i : Nat) : (unwr s f i).enrolKey = s.enrolKey := rfl
@[simp] theorem unwr_attestKey (s : State) (f : Fld) (i : Nat) : (unwr s f i).attestKey = s.attestKey := rfl
@[simp] theorem unwr_audit (s : State) (f : Fld) (i : Nat) : (unwr s f i).audit = s.audit := rfl
@[simp] theorem unwr_tblSums (s : State) (f : Fld) (i : Nat) : (unwr s f i).tblSums = s.tblSums := rfl
@[simp] theorem unwr_evqs (s : State) (f : Fld) (i : Nat) : (unwr s f i).evqs = s.evqs := rfl
@[simp] theorem unwr_punts (s : State) (f : Fld) (i : Nat) : (unwr s f i).punts = s.punts := rfl
@[simp] theorem unwr_out (s : State) (f : Fld) (i : Nat) : (unwr s f i).out = s.out := rfl
@[simp] theorem unwr_flash (s : State) (f : Fld) (i : Nat) : (unwr s f i).flash = s.flash := rfl
@[simp] theorem unwr_ceilA (s : State) (f : Fld) (i : Nat) : (unwr s f i).ceilA = s.ceilA := rfl
@[simp] theorem unwr_ceilB (s : State) (f : Fld) (i : Nat) : (unwr s f i).ceilB = s.ceilB := rfl
@[simp] theorem unwr_cargo (s : State) (f : Fld) (i : Nat) : (unwr s f i).cargo = s.cargo := rfl
@[simp] theorem unwr_gen0 (s : State) (f : Fld) (i : Nat) : (unwr s f i).gen0 = s.gen0 := rfl
@[simp] theorem unwr_gen1 (s : State) (f : Fld) (i : Nat) : (unwr s f i).gen1 = s.gen1 := rfl
@[simp] theorem unwr_siCtx (s : State) (f : Fld) (i : Nat) : (unwr s f i).siCtx = s.siCtx := rfl
@[simp] theorem unwr_pairs (s : State) (f : Fld) (i : Nat) : (unwr s f i).pairs = s.pairs := rfl
@[simp] theorem unwr_cache (s : State) (f : Fld) (i : Nat) : (unwr s f i).cache = s.cache := rfl
@[simp] theorem unwr_poison (s : State) (f : Fld) (i : Nat) : (unwr s f i).poison = s.poison := rfl
@[simp] theorem unwr_pkts (s : State) (f : Fld) (i : Nat) : (unwr s f i).pkts = s.pkts := rfl
@[simp] theorem unwr_queues (s : State) (f : Fld) (i : Nat) : (unwr s f i).queues = s.queues := rfl
@[simp] theorem unwr_nodes (s : State) (f : Fld) (i : Nat) : (unwr s f i).nodes = s.nodes := rfl
@[simp] theorem unwr_gates (s : State) (f : Fld) (i : Nat) : (unwr s f i).gates = s.gates := rfl
@[simp] theorem unwr_saks (s : State) (f : Fld) (i : Nat) : (unwr s f i).saks = s.saks := rfl
@[simp] theorem unwr_peers (s : State) (f : Fld) (i : Nat) : (unwr s f i).peers = s.peers := rfl
@[simp] theorem unwr_bits (s : State) (f : Fld) (i : Nat) : (unwr s f i).bits = s.bits := rfl
@[simp] theorem unwr_banks (s : State) (f : Fld) (i : Nat) : (unwr s f i).banks = s.banks := rfl
@[simp] theorem unwr_eqs (s : State) (f : Fld) (i : Nat) : (unwr s f i).eqs = s.eqs := rfl
@[simp] theorem unwr_shapes (s : State) (f : Fld) (i : Nat) : (unwr s f i).shapes = s.shapes := rfl
@[simp] theorem unwr_trnMsgs (s : State) (f : Fld) (i : Nat) : (unwr s f i).trnMsgs = s.trnMsgs := rfl
@[simp] theorem unwr_txBits (s : State) (f : Fld) (i : Nat) : (unwr s f i).txBits = s.txBits := rfl
@[simp] theorem unwr_chains (s : State) (f : Fld) (i : Nat) : (unwr s f i).chains = s.chains := rfl
@[simp] theorem unwr_monSite (s : State) (f : Fld) (i : Nat) : (unwr s f i).monSite = s.monSite := rfl
@[simp] theorem unwr_monIn (s : State) (f : Fld) (i : Nat) : (unwr s f i).monIn = s.monIn := rfl
@[simp] theorem unwr_merge (s : State) (f : Fld) (i : Nat) : (unwr s f i).merge = s.merge := rfl
@[simp] theorem unwr_withheld (s : State) (f : Fld) (i : Nat) : (unwr s f i).withheld = s.withheld := rfl
@[simp] theorem unwr_pmuRuns (s : State) (f : Fld) (i : Nat) : (unwr s f i).pmuRuns = s.pmuRuns := rfl
@[simp] theorem unwr_slices (s : State) (f : Fld) (i : Nat) : (unwr s f i).slices = s.slices := rfl
@[simp] theorem unwr_errTicks (s : State) (f : Fld) (i : Nat) : (unwr s f i).errTicks = s.errTicks := rfl
@[simp] theorem unwr_freeCnt (s : State) (f : Fld) (i : Nat) : (unwr s f i).freeCnt = s.freeCnt := rfl
@[simp] theorem unwr_pending (s : State) (f : Fld) (i : Nat) : (unwr s f i).pending = s.pending := rfl

@[simp] theorem emit_regs (s : State) (o : Out) : (emit s o).regs = s.regs := rfl
@[simp] theorem emit_rings (s : State) (o : Out) : (emit s o).rings = s.rings := rfl
@[simp] theorem emit_running (s : State) (o : Out) : (emit s o).running = s.running := rfl
@[simp] theorem emit_sessions (s : State) (o : Out) : (emit s o).sessions = s.sessions := rfl
@[simp] theorem emit_vst (s : State) (o : Out) : (emit s o).vst = s.vst := rfl
@[simp] theorem emit_vstReq (s : State) (o : Out) : (emit s o).vstReq = s.vstReq := rfl
@[simp] theorem emit_vstRsp (s : State) (o : Out) : (emit s o).vstRsp = s.vstRsp := rfl
@[simp] theorem emit_opKeys (s : State) (o : Out) : (emit s o).opKeys = s.opKeys := rfl
@[simp] theorem emit_instCreds (s : State) (o : Out) : (emit s o).instCreds = s.instCreds := rfl
@[simp] theorem emit_caks (s : State) (o : Out) : (emit s o).caks = s.caks := rfl
@[simp] theorem emit_siVerify (s : State) (o : Out) : (emit s o).siVerify = s.siVerify := rfl
@[simp] theorem emit_siDecrypt (s : State) (o : Out) : (emit s o).siDecrypt = s.siDecrypt := rfl
@[simp] theorem emit_makerKey (s : State) (o : Out) : (emit s o).makerKey = s.makerKey := rfl
@[simp] theorem emit_enrolKey (s : State) (o : Out) : (emit s o).enrolKey = s.enrolKey := rfl
@[simp] theorem emit_attestKey (s : State) (o : Out) : (emit s o).attestKey = s.attestKey := rfl
@[simp] theorem emit_audit (s : State) (o : Out) : (emit s o).audit = s.audit := rfl
@[simp] theorem emit_tblSums (s : State) (o : Out) : (emit s o).tblSums = s.tblSums := rfl
@[simp] theorem emit_evqs (s : State) (o : Out) : (emit s o).evqs = s.evqs := rfl
@[simp] theorem emit_punts (s : State) (o : Out) : (emit s o).punts = s.punts := rfl
@[simp] theorem emit_flash (s : State) (o : Out) : (emit s o).flash = s.flash := rfl
@[simp] theorem emit_ceilA (s : State) (o : Out) : (emit s o).ceilA = s.ceilA := rfl
@[simp] theorem emit_ceilB (s : State) (o : Out) : (emit s o).ceilB = s.ceilB := rfl
@[simp] theorem emit_cargo (s : State) (o : Out) : (emit s o).cargo = s.cargo := rfl
@[simp] theorem emit_gen0 (s : State) (o : Out) : (emit s o).gen0 = s.gen0 := rfl
@[simp] theorem emit_gen1 (s : State) (o : Out) : (emit s o).gen1 = s.gen1 := rfl
@[simp] theorem emit_siCtx (s : State) (o : Out) : (emit s o).siCtx = s.siCtx := rfl
@[simp] theorem emit_pairs (s : State) (o : Out) : (emit s o).pairs = s.pairs := rfl
@[simp] theorem emit_cache (s : State) (o : Out) : (emit s o).cache = s.cache := rfl
@[simp] theorem emit_poison (s : State) (o : Out) : (emit s o).poison = s.poison := rfl
@[simp] theorem emit_pkts (s : State) (o : Out) : (emit s o).pkts = s.pkts := rfl
@[simp] theorem emit_queues (s : State) (o : Out) : (emit s o).queues = s.queues := rfl
@[simp] theorem emit_nodes (s : State) (o : Out) : (emit s o).nodes = s.nodes := rfl
@[simp] theorem emit_gates (s : State) (o : Out) : (emit s o).gates = s.gates := rfl
@[simp] theorem emit_saks (s : State) (o : Out) : (emit s o).saks = s.saks := rfl
@[simp] theorem emit_peers (s : State) (o : Out) : (emit s o).peers = s.peers := rfl
@[simp] theorem emit_bits (s : State) (o : Out) : (emit s o).bits = s.bits := rfl
@[simp] theorem emit_banks (s : State) (o : Out) : (emit s o).banks = s.banks := rfl
@[simp] theorem emit_eqs (s : State) (o : Out) : (emit s o).eqs = s.eqs := rfl
@[simp] theorem emit_shapes (s : State) (o : Out) : (emit s o).shapes = s.shapes := rfl
@[simp] theorem emit_trnMsgs (s : State) (o : Out) : (emit s o).trnMsgs = s.trnMsgs := rfl
@[simp] theorem emit_txBits (s : State) (o : Out) : (emit s o).txBits = s.txBits := rfl
@[simp] theorem emit_chains (s : State) (o : Out) : (emit s o).chains = s.chains := rfl
@[simp] theorem emit_monSite (s : State) (o : Out) : (emit s o).monSite = s.monSite := rfl
@[simp] theorem emit_monIn (s : State) (o : Out) : (emit s o).monIn = s.monIn := rfl
@[simp] theorem emit_merge (s : State) (o : Out) : (emit s o).merge = s.merge := rfl
@[simp] theorem emit_withheld (s : State) (o : Out) : (emit s o).withheld = s.withheld := rfl
@[simp] theorem emit_pmuRuns (s : State) (o : Out) : (emit s o).pmuRuns = s.pmuRuns := rfl
@[simp] theorem emit_slices (s : State) (o : Out) : (emit s o).slices = s.slices := rfl
@[simp] theorem emit_errTicks (s : State) (o : Out) : (emit s o).errTicks = s.errTicks := rfl
@[simp] theorem emit_freeCnt (s : State) (o : Out) : (emit s o).freeCnt = s.freeCnt := rfl
@[simp] theorem emit_pending (s : State) (o : Out) : (emit s o).pending = s.pending := rfl
@[simp] theorem rd_emit (s : State) (o : Out) (g : Fld) (j : Nat) : rd (emit s o) g j = rd s g j := rfl

@[simp] theorem took_regs (s : State) : (took s).regs = s.regs := rfl
@[simp] theorem took_rings (s : State) : (took s).rings = s.rings := rfl
@[simp] theorem took_running (s : State) : (took s).running = s.running := rfl
@[simp] theorem took_sessions (s : State) : (took s).sessions = s.sessions := rfl
@[simp] theorem took_vst (s : State) : (took s).vst = s.vst := rfl
@[simp] theorem took_vstReq (s : State) : (took s).vstReq = s.vstReq := rfl
@[simp] theorem took_vstRsp (s : State) : (took s).vstRsp = s.vstRsp := rfl
@[simp] theorem took_opKeys (s : State) : (took s).opKeys = s.opKeys := rfl
@[simp] theorem took_instCreds (s : State) : (took s).instCreds = s.instCreds := rfl
@[simp] theorem took_caks (s : State) : (took s).caks = s.caks := rfl
@[simp] theorem took_siVerify (s : State) : (took s).siVerify = s.siVerify := rfl
@[simp] theorem took_siDecrypt (s : State) : (took s).siDecrypt = s.siDecrypt := rfl
@[simp] theorem took_makerKey (s : State) : (took s).makerKey = s.makerKey := rfl
@[simp] theorem took_enrolKey (s : State) : (took s).enrolKey = s.enrolKey := rfl
@[simp] theorem took_attestKey (s : State) : (took s).attestKey = s.attestKey := rfl
@[simp] theorem took_audit (s : State) : (took s).audit = s.audit := rfl
@[simp] theorem took_tblSums (s : State) : (took s).tblSums = s.tblSums := rfl
@[simp] theorem took_evqs (s : State) : (took s).evqs = s.evqs := rfl
@[simp] theorem took_punts (s : State) : (took s).punts = s.punts := rfl
@[simp] theorem took_out (s : State) : (took s).out = s.out := rfl
@[simp] theorem took_flash (s : State) : (took s).flash = s.flash := rfl
@[simp] theorem took_ceilA (s : State) : (took s).ceilA = s.ceilA := rfl
@[simp] theorem took_ceilB (s : State) : (took s).ceilB = s.ceilB := rfl
@[simp] theorem took_cargo (s : State) : (took s).cargo = s.cargo := rfl
@[simp] theorem took_gen0 (s : State) : (took s).gen0 = s.gen0 := rfl
@[simp] theorem took_gen1 (s : State) : (took s).gen1 = s.gen1 := rfl
@[simp] theorem took_siCtx (s : State) : (took s).siCtx = s.siCtx := rfl
@[simp] theorem took_pairs (s : State) : (took s).pairs = s.pairs := rfl
@[simp] theorem took_cache (s : State) : (took s).cache = s.cache := rfl
@[simp] theorem took_poison (s : State) : (took s).poison = s.poison := rfl
@[simp] theorem took_pkts (s : State) : (took s).pkts = s.pkts := rfl
@[simp] theorem took_queues (s : State) : (took s).queues = s.queues := rfl
@[simp] theorem took_nodes (s : State) : (took s).nodes = s.nodes := rfl
@[simp] theorem took_gates (s : State) : (took s).gates = s.gates := rfl
@[simp] theorem took_saks (s : State) : (took s).saks = s.saks := rfl
@[simp] theorem took_peers (s : State) : (took s).peers = s.peers := rfl
@[simp] theorem took_bits (s : State) : (took s).bits = s.bits := rfl
@[simp] theorem took_banks (s : State) : (took s).banks = s.banks := rfl
@[simp] theorem took_eqs (s : State) : (took s).eqs = s.eqs := rfl
@[simp] theorem took_shapes (s : State) : (took s).shapes = s.shapes := rfl
@[simp] theorem took_trnMsgs (s : State) : (took s).trnMsgs = s.trnMsgs := rfl
@[simp] theorem took_txBits (s : State) : (took s).txBits = s.txBits := rfl
@[simp] theorem took_chains (s : State) : (took s).chains = s.chains := rfl
@[simp] theorem took_monSite (s : State) : (took s).monSite = s.monSite := rfl
@[simp] theorem took_monIn (s : State) : (took s).monIn = s.monIn := rfl
@[simp] theorem took_merge (s : State) : (took s).merge = s.merge := rfl
@[simp] theorem took_withheld (s : State) : (took s).withheld = s.withheld := rfl
@[simp] theorem took_pmuRuns (s : State) : (took s).pmuRuns = s.pmuRuns := rfl
@[simp] theorem took_slices (s : State) : (took s).slices = s.slices := rfl
@[simp] theorem took_errTicks (s : State) : (took s).errTicks = s.errTicks := rfl
@[simp] theorem took_pending (s : State) : (took s).pending = s.pending := rfl
@[simp] theorem rd_took (s : State) (g : Fld) (j : Nat) : rd (took s) g j = rd s g j := rfl

@[simp] theorem setRing_regs (s : State) (r : Nat) (q : RingS) : (setRing s r q).regs = s.regs := rfl
@[simp] theorem setRing_running (s : State) (r : Nat) (q : RingS) : (setRing s r q).running = s.running := rfl
@[simp] theorem setRing_sessions (s : State) (r : Nat) (q : RingS) : (setRing s r q).sessions = s.sessions := rfl
@[simp] theorem setRing_vst (s : State) (r : Nat) (q : RingS) : (setRing s r q).vst = s.vst := rfl
@[simp] theorem setRing_vstReq (s : State) (r : Nat) (q : RingS) : (setRing s r q).vstReq = s.vstReq := rfl
@[simp] theorem setRing_vstRsp (s : State) (r : Nat) (q : RingS) : (setRing s r q).vstRsp = s.vstRsp := rfl
@[simp] theorem setRing_opKeys (s : State) (r : Nat) (q : RingS) : (setRing s r q).opKeys = s.opKeys := rfl
@[simp] theorem setRing_instCreds (s : State) (r : Nat) (q : RingS) : (setRing s r q).instCreds = s.instCreds := rfl
@[simp] theorem setRing_caks (s : State) (r : Nat) (q : RingS) : (setRing s r q).caks = s.caks := rfl
@[simp] theorem setRing_siVerify (s : State) (r : Nat) (q : RingS) : (setRing s r q).siVerify = s.siVerify := rfl
@[simp] theorem setRing_siDecrypt (s : State) (r : Nat) (q : RingS) : (setRing s r q).siDecrypt = s.siDecrypt := rfl
@[simp] theorem setRing_makerKey (s : State) (r : Nat) (q : RingS) : (setRing s r q).makerKey = s.makerKey := rfl
@[simp] theorem setRing_enrolKey (s : State) (r : Nat) (q : RingS) : (setRing s r q).enrolKey = s.enrolKey := rfl
@[simp] theorem setRing_attestKey (s : State) (r : Nat) (q : RingS) : (setRing s r q).attestKey = s.attestKey := rfl
@[simp] theorem setRing_audit (s : State) (r : Nat) (q : RingS) : (setRing s r q).audit = s.audit := rfl
@[simp] theorem setRing_tblSums (s : State) (r : Nat) (q : RingS) : (setRing s r q).tblSums = s.tblSums := rfl
@[simp] theorem setRing_evqs (s : State) (r : Nat) (q : RingS) : (setRing s r q).evqs = s.evqs := rfl
@[simp] theorem setRing_punts (s : State) (r : Nat) (q : RingS) : (setRing s r q).punts = s.punts := rfl
@[simp] theorem setRing_out (s : State) (r : Nat) (q : RingS) : (setRing s r q).out = s.out := rfl
@[simp] theorem setRing_flash (s : State) (r : Nat) (q : RingS) : (setRing s r q).flash = s.flash := rfl
@[simp] theorem setRing_ceilA (s : State) (r : Nat) (q : RingS) : (setRing s r q).ceilA = s.ceilA := rfl
@[simp] theorem setRing_ceilB (s : State) (r : Nat) (q : RingS) : (setRing s r q).ceilB = s.ceilB := rfl
@[simp] theorem setRing_cargo (s : State) (r : Nat) (q : RingS) : (setRing s r q).cargo = s.cargo := rfl
@[simp] theorem setRing_gen0 (s : State) (r : Nat) (q : RingS) : (setRing s r q).gen0 = s.gen0 := rfl
@[simp] theorem setRing_gen1 (s : State) (r : Nat) (q : RingS) : (setRing s r q).gen1 = s.gen1 := rfl
@[simp] theorem setRing_siCtx (s : State) (r : Nat) (q : RingS) : (setRing s r q).siCtx = s.siCtx := rfl
@[simp] theorem setRing_pairs (s : State) (r : Nat) (q : RingS) : (setRing s r q).pairs = s.pairs := rfl
@[simp] theorem setRing_cache (s : State) (r : Nat) (q : RingS) : (setRing s r q).cache = s.cache := rfl
@[simp] theorem setRing_poison (s : State) (r : Nat) (q : RingS) : (setRing s r q).poison = s.poison := rfl
@[simp] theorem setRing_pkts (s : State) (r : Nat) (q : RingS) : (setRing s r q).pkts = s.pkts := rfl
@[simp] theorem setRing_queues (s : State) (r : Nat) (q : RingS) : (setRing s r q).queues = s.queues := rfl
@[simp] theorem setRing_nodes (s : State) (r : Nat) (q : RingS) : (setRing s r q).nodes = s.nodes := rfl
@[simp] theorem setRing_gates (s : State) (r : Nat) (q : RingS) : (setRing s r q).gates = s.gates := rfl
@[simp] theorem setRing_saks (s : State) (r : Nat) (q : RingS) : (setRing s r q).saks = s.saks := rfl
@[simp] theorem setRing_peers (s : State) (r : Nat) (q : RingS) : (setRing s r q).peers = s.peers := rfl
@[simp] theorem setRing_bits (s : State) (r : Nat) (q : RingS) : (setRing s r q).bits = s.bits := rfl
@[simp] theorem setRing_banks (s : State) (r : Nat) (q : RingS) : (setRing s r q).banks = s.banks := rfl
@[simp] theorem setRing_eqs (s : State) (r : Nat) (q : RingS) : (setRing s r q).eqs = s.eqs := rfl
@[simp] theorem setRing_shapes (s : State) (r : Nat) (q : RingS) : (setRing s r q).shapes = s.shapes := rfl
@[simp] theorem setRing_trnMsgs (s : State) (r : Nat) (q : RingS) : (setRing s r q).trnMsgs = s.trnMsgs := rfl
@[simp] theorem setRing_txBits (s : State) (r : Nat) (q : RingS) : (setRing s r q).txBits = s.txBits := rfl
@[simp] theorem setRing_chains (s : State) (r : Nat) (q : RingS) : (setRing s r q).chains = s.chains := rfl
@[simp] theorem setRing_monSite (s : State) (r : Nat) (q : RingS) : (setRing s r q).monSite = s.monSite := rfl
@[simp] theorem setRing_monIn (s : State) (r : Nat) (q : RingS) : (setRing s r q).monIn = s.monIn := rfl
@[simp] theorem setRing_merge (s : State) (r : Nat) (q : RingS) : (setRing s r q).merge = s.merge := rfl
@[simp] theorem setRing_withheld (s : State) (r : Nat) (q : RingS) : (setRing s r q).withheld = s.withheld := rfl
@[simp] theorem setRing_pmuRuns (s : State) (r : Nat) (q : RingS) : (setRing s r q).pmuRuns = s.pmuRuns := rfl
@[simp] theorem setRing_slices (s : State) (r : Nat) (q : RingS) : (setRing s r q).slices = s.slices := rfl
@[simp] theorem setRing_errTicks (s : State) (r : Nat) (q : RingS) : (setRing s r q).errTicks = s.errTicks := rfl
@[simp] theorem setRing_freeCnt (s : State) (r : Nat) (q : RingS) : (setRing s r q).freeCnt = s.freeCnt := rfl
@[simp] theorem setRing_pending (s : State) (r : Nat) (q : RingS) : (setRing s r q).pending = s.pending := rfl
@[simp] theorem rd_setRing (s : State) (r : Nat) (q : RingS) (g : Fld) (j : Nat) : rd (setRing s r q) g j = rd s g j := rfl

theorem bumpBy_eq (s : State) (f : Fld) (i n : Nat) : bumpBy s f i n = { s with regs := (bumpBy s f i n).regs } := by
  unfold bumpBy; dsimp only; split <;> rfl

theorem bump_eq (s : State) (f : Fld) (i : Nat) : bump s f i = { s with regs := (bump s f i).regs } := bumpBy_eq s f i 1

theorem stat_eq (s : State) (f : Fld) (i n : Nat) : stat s f i n = { s with regs := (stat s f i n).regs } := by
  unfold stat; dsimp only; split <;> rfl

@[simp] theorem bump_rings (s : State) (f : Fld) (i : Nat) : (bump s f i).rings = s.rings := by rw [bump_eq]
@[simp] theorem bump_running (s : State) (f : Fld) (i : Nat) : (bump s f i).running = s.running := by rw [bump_eq]
@[simp] theorem bump_sessions (s : State) (f : Fld) (i : Nat) : (bump s f i).sessions = s.sessions := by rw [bump_eq]
@[simp] theorem bump_vst (s : State) (f : Fld) (i : Nat) : (bump s f i).vst = s.vst := by rw [bump_eq]
@[simp] theorem bump_vstReq (s : State) (f : Fld) (i : Nat) : (bump s f i).vstReq = s.vstReq := by rw [bump_eq]
@[simp] theorem bump_vstRsp (s : State) (f : Fld) (i : Nat) : (bump s f i).vstRsp = s.vstRsp := by rw [bump_eq]
@[simp] theorem bump_opKeys (s : State) (f : Fld) (i : Nat) : (bump s f i).opKeys = s.opKeys := by rw [bump_eq]
@[simp] theorem bump_instCreds (s : State) (f : Fld) (i : Nat) : (bump s f i).instCreds = s.instCreds := by rw [bump_eq]
@[simp] theorem bump_caks (s : State) (f : Fld) (i : Nat) : (bump s f i).caks = s.caks := by rw [bump_eq]
@[simp] theorem bump_siVerify (s : State) (f : Fld) (i : Nat) : (bump s f i).siVerify = s.siVerify := by rw [bump_eq]
@[simp] theorem bump_siDecrypt (s : State) (f : Fld) (i : Nat) : (bump s f i).siDecrypt = s.siDecrypt := by rw [bump_eq]
@[simp] theorem bump_makerKey (s : State) (f : Fld) (i : Nat) : (bump s f i).makerKey = s.makerKey := by rw [bump_eq]
@[simp] theorem bump_enrolKey (s : State) (f : Fld) (i : Nat) : (bump s f i).enrolKey = s.enrolKey := by rw [bump_eq]
@[simp] theorem bump_attestKey (s : State) (f : Fld) (i : Nat) : (bump s f i).attestKey = s.attestKey := by rw [bump_eq]
@[simp] theorem bump_audit (s : State) (f : Fld) (i : Nat) : (bump s f i).audit = s.audit := by rw [bump_eq]
@[simp] theorem bump_tblSums (s : State) (f : Fld) (i : Nat) : (bump s f i).tblSums = s.tblSums := by rw [bump_eq]
@[simp] theorem bump_evqs (s : State) (f : Fld) (i : Nat) : (bump s f i).evqs = s.evqs := by rw [bump_eq]
@[simp] theorem bump_punts (s : State) (f : Fld) (i : Nat) : (bump s f i).punts = s.punts := by rw [bump_eq]
@[simp] theorem bump_out (s : State) (f : Fld) (i : Nat) : (bump s f i).out = s.out := by rw [bump_eq]
@[simp] theorem bump_flash (s : State) (f : Fld) (i : Nat) : (bump s f i).flash = s.flash := by rw [bump_eq]
@[simp] theorem bump_ceilA (s : State) (f : Fld) (i : Nat) : (bump s f i).ceilA = s.ceilA := by rw [bump_eq]
@[simp] theorem bump_ceilB (s : State) (f : Fld) (i : Nat) : (bump s f i).ceilB = s.ceilB := by rw [bump_eq]
@[simp] theorem bump_cargo (s : State) (f : Fld) (i : Nat) : (bump s f i).cargo = s.cargo := by rw [bump_eq]
@[simp] theorem bump_gen0 (s : State) (f : Fld) (i : Nat) : (bump s f i).gen0 = s.gen0 := by rw [bump_eq]
@[simp] theorem bump_gen1 (s : State) (f : Fld) (i : Nat) : (bump s f i).gen1 = s.gen1 := by rw [bump_eq]
@[simp] theorem bump_siCtx (s : State) (f : Fld) (i : Nat) : (bump s f i).siCtx = s.siCtx := by rw [bump_eq]
@[simp] theorem bump_pairs (s : State) (f : Fld) (i : Nat) : (bump s f i).pairs = s.pairs := by rw [bump_eq]
@[simp] theorem bump_cache (s : State) (f : Fld) (i : Nat) : (bump s f i).cache = s.cache := by rw [bump_eq]
@[simp] theorem bump_poison (s : State) (f : Fld) (i : Nat) : (bump s f i).poison = s.poison := by rw [bump_eq]
@[simp] theorem bump_pkts (s : State) (f : Fld) (i : Nat) : (bump s f i).pkts = s.pkts := by rw [bump_eq]
@[simp] theorem bump_queues (s : State) (f : Fld) (i : Nat) : (bump s f i).queues = s.queues := by rw [bump_eq]
@[simp] theorem bump_nodes (s : State) (f : Fld) (i : Nat) : (bump s f i).nodes = s.nodes := by rw [bump_eq]
@[simp] theorem bump_gates (s : State) (f : Fld) (i : Nat) : (bump s f i).gates = s.gates := by rw [bump_eq]
@[simp] theorem bump_saks (s : State) (f : Fld) (i : Nat) : (bump s f i).saks = s.saks := by rw [bump_eq]
@[simp] theorem bump_peers (s : State) (f : Fld) (i : Nat) : (bump s f i).peers = s.peers := by rw [bump_eq]
@[simp] theorem bump_bits (s : State) (f : Fld) (i : Nat) : (bump s f i).bits = s.bits := by rw [bump_eq]
@[simp] theorem bump_banks (s : State) (f : Fld) (i : Nat) : (bump s f i).banks = s.banks := by rw [bump_eq]
@[simp] theorem bump_eqs (s : State) (f : Fld) (i : Nat) : (bump s f i).eqs = s.eqs := by rw [bump_eq]
@[simp] theorem bump_shapes (s : State) (f : Fld) (i : Nat) : (bump s f i).shapes = s.shapes := by rw [bump_eq]
@[simp] theorem bump_trnMsgs (s : State) (f : Fld) (i : Nat) : (bump s f i).trnMsgs = s.trnMsgs := by rw [bump_eq]
@[simp] theorem bump_txBits (s : State) (f : Fld) (i : Nat) : (bump s f i).txBits = s.txBits := by rw [bump_eq]
@[simp] theorem bump_chains (s : State) (f : Fld) (i : Nat) : (bump s f i).chains = s.chains := by rw [bump_eq]
@[simp] theorem bump_monSite (s : State) (f : Fld) (i : Nat) : (bump s f i).monSite = s.monSite := by rw [bump_eq]
@[simp] theorem bump_monIn (s : State) (f : Fld) (i : Nat) : (bump s f i).monIn = s.monIn := by rw [bump_eq]
@[simp] theorem bump_merge (s : State) (f : Fld) (i : Nat) : (bump s f i).merge = s.merge := by rw [bump_eq]
@[simp] theorem bump_withheld (s : State) (f : Fld) (i : Nat) : (bump s f i).withheld = s.withheld := by rw [bump_eq]
@[simp] theorem bump_pmuRuns (s : State) (f : Fld) (i : Nat) : (bump s f i).pmuRuns = s.pmuRuns := by rw [bump_eq]
@[simp] theorem bump_slices (s : State) (f : Fld) (i : Nat) : (bump s f i).slices = s.slices := by rw [bump_eq]
@[simp] theorem bump_errTicks (s : State) (f : Fld) (i : Nat) : (bump s f i).errTicks = s.errTicks := by rw [bump_eq]
@[simp] theorem bump_freeCnt (s : State) (f : Fld) (i : Nat) : (bump s f i).freeCnt = s.freeCnt := by rw [bump_eq]
@[simp] theorem bump_pending (s : State) (f : Fld) (i : Nat) : (bump s f i).pending = s.pending := by rw [bump_eq]

@[simp] theorem bumpBy_rings (s : State) (f : Fld) (i n : Nat) : (bumpBy s f i n).rings = s.rings := by rw [bumpBy_eq]
@[simp] theorem bumpBy_running (s : State) (f : Fld) (i n : Nat) : (bumpBy s f i n).running = s.running := by rw [bumpBy_eq]
@[simp] theorem bumpBy_sessions (s : State) (f : Fld) (i n : Nat) : (bumpBy s f i n).sessions = s.sessions := by rw [bumpBy_eq]
@[simp] theorem bumpBy_vst (s : State) (f : Fld) (i n : Nat) : (bumpBy s f i n).vst = s.vst := by rw [bumpBy_eq]
@[simp] theorem bumpBy_vstReq (s : State) (f : Fld) (i n : Nat) : (bumpBy s f i n).vstReq = s.vstReq := by rw [bumpBy_eq]
@[simp] theorem bumpBy_vstRsp (s : State) (f : Fld) (i n : Nat) : (bumpBy s f i n).vstRsp = s.vstRsp := by rw [bumpBy_eq]
@[simp] theorem bumpBy_opKeys (s : State) (f : Fld) (i n : Nat) : (bumpBy s f i n).opKeys = s.opKeys := by rw [bumpBy_eq]
@[simp] theorem bumpBy_instCreds (s : State) (f : Fld) (i n : Nat) : (bumpBy s f i n).instCreds = s.instCreds := by rw [bumpBy_eq]
@[simp] theorem bumpBy_caks (s : State) (f : Fld) (i n : Nat) : (bumpBy s f i n).caks = s.caks := by rw [bumpBy_eq]
@[simp] theorem bumpBy_siVerify (s : State) (f : Fld) (i n : Nat) : (bumpBy s f i n).siVerify = s.siVerify := by rw [bumpBy_eq]
@[simp] theorem bumpBy_siDecrypt (s : State) (f : Fld) (i n : Nat) : (bumpBy s f i n).siDecrypt = s.siDecrypt := by rw [bumpBy_eq]
@[simp] theorem bumpBy_makerKey (s : State) (f : Fld) (i n : Nat) : (bumpBy s f i n).makerKey = s.makerKey := by rw [bumpBy_eq]
@[simp] theorem bumpBy_enrolKey (s : State) (f : Fld) (i n : Nat) : (bumpBy s f i n).enrolKey = s.enrolKey := by rw [bumpBy_eq]
@[simp] theorem bumpBy_attestKey (s : State) (f : Fld) (i n : Nat) : (bumpBy s f i n).attestKey = s.attestKey := by rw [bumpBy_eq]
@[simp] theorem bumpBy_audit (s : State) (f : Fld) (i n : Nat) : (bumpBy s f i n).audit = s.audit := by rw [bumpBy_eq]
@[simp] theorem bumpBy_tblSums (s : State) (f : Fld) (i n : Nat) : (bumpBy s f i n).tblSums = s.tblSums := by rw [bumpBy_eq]
@[simp] theorem bumpBy_evqs (s : State) (f : Fld) (i n : Nat) : (bumpBy s f i n).evqs = s.evqs := by rw [bumpBy_eq]
@[simp] theorem bumpBy_punts (s : State) (f : Fld) (i n : Nat) : (bumpBy s f i n).punts = s.punts := by rw [bumpBy_eq]
@[simp] theorem bumpBy_out (s : State) (f : Fld) (i n : Nat) : (bumpBy s f i n).out = s.out := by rw [bumpBy_eq]
@[simp] theorem bumpBy_flash (s : State) (f : Fld) (i n : Nat) : (bumpBy s f i n).flash = s.flash := by rw [bumpBy_eq]
@[simp] theorem bumpBy_ceilA (s : State) (f : Fld) (i n : Nat) : (bumpBy s f i n).ceilA = s.ceilA := by rw [bumpBy_eq]
@[simp] theorem bumpBy_ceilB (s : State) (f : Fld) (i n : Nat) : (bumpBy s f i n).ceilB = s.ceilB := by rw [bumpBy_eq]
@[simp] theorem bumpBy_cargo (s : State) (f : Fld) (i n : Nat) : (bumpBy s f i n).cargo = s.cargo := by rw [bumpBy_eq]
@[simp] theorem bumpBy_gen0 (s : State) (f : Fld) (i n : Nat) : (bumpBy s f i n).gen0 = s.gen0 := by rw [bumpBy_eq]
@[simp] theorem bumpBy_gen1 (s : State) (f : Fld) (i n : Nat) : (bumpBy s f i n).gen1 = s.gen1 := by rw [bumpBy_eq]
@[simp] theorem bumpBy_siCtx (s : State) (f : Fld) (i n : Nat) : (bumpBy s f i n).siCtx = s.siCtx := by rw [bumpBy_eq]
@[simp] theorem bumpBy_pairs (s : State) (f : Fld) (i n : Nat) : (bumpBy s f i n).pairs = s.pairs := by rw [bumpBy_eq]
@[simp] theorem bumpBy_cache (s : State) (f : Fld) (i n : Nat) : (bumpBy s f i n).cache = s.cache := by rw [bumpBy_eq]
@[simp] theorem bumpBy_poison (s : State) (f : Fld) (i n : Nat) : (bumpBy s f i n).poison = s.poison := by rw [bumpBy_eq]
@[simp] theorem bumpBy_pkts (s : State) (f : Fld) (i n : Nat) : (bumpBy s f i n).pkts = s.pkts := by rw [bumpBy_eq]
@[simp] theorem bumpBy_queues (s : State) (f : Fld) (i n : Nat) : (bumpBy s f i n).queues = s.queues := by rw [bumpBy_eq]
@[simp] theorem bumpBy_nodes (s : State) (f : Fld) (i n : Nat) : (bumpBy s f i n).nodes = s.nodes := by rw [bumpBy_eq]
@[simp] theorem bumpBy_gates (s : State) (f : Fld) (i n : Nat) : (bumpBy s f i n).gates = s.gates := by rw [bumpBy_eq]
@[simp] theorem bumpBy_saks (s : State) (f : Fld) (i n : Nat) : (bumpBy s f i n).saks = s.saks := by rw [bumpBy_eq]
@[simp] theorem bumpBy_peers (s : State) (f : Fld) (i n : Nat) : (bumpBy s f i n).peers = s.peers := by rw [bumpBy_eq]
@[simp] theorem bumpBy_bits (s : State) (f : Fld) (i n : Nat) : (bumpBy s f i n).bits = s.bits := by rw [bumpBy_eq]
@[simp] theorem bumpBy_banks (s : State) (f : Fld) (i n : Nat) : (bumpBy s f i n).banks = s.banks := by rw [bumpBy_eq]
@[simp] theorem bumpBy_eqs (s : State) (f : Fld) (i n : Nat) : (bumpBy s f i n).eqs = s.eqs := by rw [bumpBy_eq]
@[simp] theorem bumpBy_shapes (s : State) (f : Fld) (i n : Nat) : (bumpBy s f i n).shapes = s.shapes := by rw [bumpBy_eq]
@[simp] theorem bumpBy_trnMsgs (s : State) (f : Fld) (i n : Nat) : (bumpBy s f i n).trnMsgs = s.trnMsgs := by rw [bumpBy_eq]
@[simp] theorem bumpBy_txBits (s : State) (f : Fld) (i n : Nat) : (bumpBy s f i n).txBits = s.txBits := by rw [bumpBy_eq]
@[simp] theorem bumpBy_chains (s : State) (f : Fld) (i n : Nat) : (bumpBy s f i n).chains = s.chains := by rw [bumpBy_eq]
@[simp] theorem bumpBy_monSite (s : State) (f : Fld) (i n : Nat) : (bumpBy s f i n).monSite = s.monSite := by rw [bumpBy_eq]
@[simp] theorem bumpBy_monIn (s : State) (f : Fld) (i n : Nat) : (bumpBy s f i n).monIn = s.monIn := by rw [bumpBy_eq]
@[simp] theorem bumpBy_merge (s : State) (f : Fld) (i n : Nat) : (bumpBy s f i n).merge = s.merge := by rw [bumpBy_eq]
@[simp] theorem bumpBy_withheld (s : State) (f : Fld) (i n : Nat) : (bumpBy s f i n).withheld = s.withheld := by rw [bumpBy_eq]
@[simp] theorem bumpBy_pmuRuns (s : State) (f : Fld) (i n : Nat) : (bumpBy s f i n).pmuRuns = s.pmuRuns := by rw [bumpBy_eq]
@[simp] theorem bumpBy_slices (s : State) (f : Fld) (i n : Nat) : (bumpBy s f i n).slices = s.slices := by rw [bumpBy_eq]
@[simp] theorem bumpBy_errTicks (s : State) (f : Fld) (i n : Nat) : (bumpBy s f i n).errTicks = s.errTicks := by rw [bumpBy_eq]
@[simp] theorem bumpBy_freeCnt (s : State) (f : Fld) (i n : Nat) : (bumpBy s f i n).freeCnt = s.freeCnt := by rw [bumpBy_eq]
@[simp] theorem bumpBy_pending (s : State) (f : Fld) (i n : Nat) : (bumpBy s f i n).pending = s.pending := by rw [bumpBy_eq]

@[simp] theorem stat_rings (s : State) (f : Fld) (i n : Nat) : (stat s f i n).rings = s.rings := by rw [stat_eq]
@[simp] theorem stat_running (s : State) (f : Fld) (i n : Nat) : (stat s f i n).running = s.running := by rw [stat_eq]
@[simp] theorem stat_sessions (s : State) (f : Fld) (i n : Nat) : (stat s f i n).sessions = s.sessions := by rw [stat_eq]
@[simp] theorem stat_vst (s : State) (f : Fld) (i n : Nat) : (stat s f i n).vst = s.vst := by rw [stat_eq]
@[simp] theorem stat_vstReq (s : State) (f : Fld) (i n : Nat) : (stat s f i n).vstReq = s.vstReq := by rw [stat_eq]
@[simp] theorem stat_vstRsp (s : State) (f : Fld) (i n : Nat) : (stat s f i n).vstRsp = s.vstRsp := by rw [stat_eq]
@[simp] theorem stat_opKeys (s : State) (f : Fld) (i n : Nat) : (stat s f i n).opKeys = s.opKeys := by rw [stat_eq]
@[simp] theorem stat_instCreds (s : State) (f : Fld) (i n : Nat) : (stat s f i n).instCreds = s.instCreds := by rw [stat_eq]
@[simp] theorem stat_caks (s : State) (f : Fld) (i n : Nat) : (stat s f i n).caks = s.caks := by rw [stat_eq]
@[simp] theorem stat_siVerify (s : State) (f : Fld) (i n : Nat) : (stat s f i n).siVerify = s.siVerify := by rw [stat_eq]
@[simp] theorem stat_siDecrypt (s : State) (f : Fld) (i n : Nat) : (stat s f i n).siDecrypt = s.siDecrypt := by rw [stat_eq]
@[simp] theorem stat_makerKey (s : State) (f : Fld) (i n : Nat) : (stat s f i n).makerKey = s.makerKey := by rw [stat_eq]
@[simp] theorem stat_enrolKey (s : State) (f : Fld) (i n : Nat) : (stat s f i n).enrolKey = s.enrolKey := by rw [stat_eq]
@[simp] theorem stat_attestKey (s : State) (f : Fld) (i n : Nat) : (stat s f i n).attestKey = s.attestKey := by rw [stat_eq]
@[simp] theorem stat_audit (s : State) (f : Fld) (i n : Nat) : (stat s f i n).audit = s.audit := by rw [stat_eq]
@[simp] theorem stat_tblSums (s : State) (f : Fld) (i n : Nat) : (stat s f i n).tblSums = s.tblSums := by rw [stat_eq]
@[simp] theorem stat_evqs (s : State) (f : Fld) (i n : Nat) : (stat s f i n).evqs = s.evqs := by rw [stat_eq]
@[simp] theorem stat_punts (s : State) (f : Fld) (i n : Nat) : (stat s f i n).punts = s.punts := by rw [stat_eq]
@[simp] theorem stat_out (s : State) (f : Fld) (i n : Nat) : (stat s f i n).out = s.out := by rw [stat_eq]
@[simp] theorem stat_flash (s : State) (f : Fld) (i n : Nat) : (stat s f i n).flash = s.flash := by rw [stat_eq]
@[simp] theorem stat_ceilA (s : State) (f : Fld) (i n : Nat) : (stat s f i n).ceilA = s.ceilA := by rw [stat_eq]
@[simp] theorem stat_ceilB (s : State) (f : Fld) (i n : Nat) : (stat s f i n).ceilB = s.ceilB := by rw [stat_eq]
@[simp] theorem stat_cargo (s : State) (f : Fld) (i n : Nat) : (stat s f i n).cargo = s.cargo := by rw [stat_eq]
@[simp] theorem stat_gen0 (s : State) (f : Fld) (i n : Nat) : (stat s f i n).gen0 = s.gen0 := by rw [stat_eq]
@[simp] theorem stat_gen1 (s : State) (f : Fld) (i n : Nat) : (stat s f i n).gen1 = s.gen1 := by rw [stat_eq]
@[simp] theorem stat_siCtx (s : State) (f : Fld) (i n : Nat) : (stat s f i n).siCtx = s.siCtx := by rw [stat_eq]
@[simp] theorem stat_pairs (s : State) (f : Fld) (i n : Nat) : (stat s f i n).pairs = s.pairs := by rw [stat_eq]
@[simp] theorem stat_cache (s : State) (f : Fld) (i n : Nat) : (stat s f i n).cache = s.cache := by rw [stat_eq]
@[simp] theorem stat_poison (s : State) (f : Fld) (i n : Nat) : (stat s f i n).poison = s.poison := by rw [stat_eq]
@[simp] theorem stat_pkts (s : State) (f : Fld) (i n : Nat) : (stat s f i n).pkts = s.pkts := by rw [stat_eq]
@[simp] theorem stat_queues (s : State) (f : Fld) (i n : Nat) : (stat s f i n).queues = s.queues := by rw [stat_eq]
@[simp] theorem stat_nodes (s : State) (f : Fld) (i n : Nat) : (stat s f i n).nodes = s.nodes := by rw [stat_eq]
@[simp] theorem stat_gates (s : State) (f : Fld) (i n : Nat) : (stat s f i n).gates = s.gates := by rw [stat_eq]
@[simp] theorem stat_saks (s : State) (f : Fld) (i n : Nat) : (stat s f i n).saks = s.saks := by rw [stat_eq]
@[simp] theorem stat_peers (s : State) (f : Fld) (i n : Nat) : (stat s f i n).peers = s.peers := by rw [stat_eq]
@[simp] theorem stat_bits (s : State) (f : Fld) (i n : Nat) : (stat s f i n).bits = s.bits := by rw [stat_eq]
@[simp] theorem stat_banks (s : State) (f : Fld) (i n : Nat) : (stat s f i n).banks = s.banks := by rw [stat_eq]
@[simp] theorem stat_eqs (s : State) (f : Fld) (i n : Nat) : (stat s f i n).eqs = s.eqs := by rw [stat_eq]
@[simp] theorem stat_shapes (s : State) (f : Fld) (i n : Nat) : (stat s f i n).shapes = s.shapes := by rw [stat_eq]
@[simp] theorem stat_trnMsgs (s : State) (f : Fld) (i n : Nat) : (stat s f i n).trnMsgs = s.trnMsgs := by rw [stat_eq]
@[simp] theorem stat_txBits (s : State) (f : Fld) (i n : Nat) : (stat s f i n).txBits = s.txBits := by rw [stat_eq]
@[simp] theorem stat_chains (s : State) (f : Fld) (i n : Nat) : (stat s f i n).chains = s.chains := by rw [stat_eq]
@[simp] theorem stat_monSite (s : State) (f : Fld) (i n : Nat) : (stat s f i n).monSite = s.monSite := by rw [stat_eq]
@[simp] theorem stat_monIn (s : State) (f : Fld) (i n : Nat) : (stat s f i n).monIn = s.monIn := by rw [stat_eq]
@[simp] theorem stat_merge (s : State) (f : Fld) (i n : Nat) : (stat s f i n).merge = s.merge := by rw [stat_eq]
@[simp] theorem stat_withheld (s : State) (f : Fld) (i n : Nat) : (stat s f i n).withheld = s.withheld := by rw [stat_eq]
@[simp] theorem stat_pmuRuns (s : State) (f : Fld) (i n : Nat) : (stat s f i n).pmuRuns = s.pmuRuns := by rw [stat_eq]
@[simp] theorem stat_slices (s : State) (f : Fld) (i n : Nat) : (stat s f i n).slices = s.slices := by rw [stat_eq]
@[simp] theorem stat_errTicks (s : State) (f : Fld) (i n : Nat) : (stat s f i n).errTicks = s.errTicks := by rw [stat_eq]
@[simp] theorem stat_freeCnt (s : State) (f : Fld) (i n : Nat) : (stat s f i n).freeCnt = s.freeCnt := by rw [stat_eq]
@[simp] theorem stat_pending (s : State) (f : Fld) (i n : Nat) : (stat s f i n).pending = s.pending := by rw [stat_eq]

@[simp] theorem dropRun_regs (s : State) (r tag : Nat) : (dropRun s r tag).regs = s.regs := rfl
@[simp] theorem dropRun_rings (s : State) (r tag : Nat) : (dropRun s r tag).rings = s.rings := rfl
@[simp] theorem dropRun_sessions (s : State) (r tag : Nat) : (dropRun s r tag).sessions = s.sessions := rfl
@[simp] theorem dropRun_vst (s : State) (r tag : Nat) : (dropRun s r tag).vst = s.vst := rfl
@[simp] theorem dropRun_vstReq (s : State) (r tag : Nat) : (dropRun s r tag).vstReq = s.vstReq := rfl
@[simp] theorem dropRun_vstRsp (s : State) (r tag : Nat) : (dropRun s r tag).vstRsp = s.vstRsp := rfl
@[simp] theorem dropRun_opKeys (s : State) (r tag : Nat) : (dropRun s r tag).opKeys = s.opKeys := rfl
@[simp] theorem dropRun_instCreds (s : State) (r tag : Nat) : (dropRun s r tag).instCreds = s.instCreds := rfl
@[simp] theorem dropRun_caks (s : State) (r tag : Nat) : (dropRun s r tag).caks = s.caks := rfl
@[simp] theorem dropRun_siVerify (s : State) (r tag : Nat) : (dropRun s r tag).siVerify = s.siVerify := rfl
@[simp] theorem dropRun_siDecrypt (s : State) (r tag : Nat) : (dropRun s r tag).siDecrypt = s.siDecrypt := rfl
@[simp] theorem dropRun_makerKey (s : State) (r tag : Nat) : (dropRun s r tag).makerKey = s.makerKey := rfl
@[simp] theorem dropRun_enrolKey (s : State) (r tag : Nat) : (dropRun s r tag).enrolKey = s.enrolKey := rfl
@[simp] theorem dropRun_attestKey (s : State) (r tag : Nat) : (dropRun s r tag).attestKey = s.attestKey := rfl
@[simp] theorem dropRun_audit (s : State) (r tag : Nat) : (dropRun s r tag).audit = s.audit := rfl
@[simp] theorem dropRun_tblSums (s : State) (r tag : Nat) : (dropRun s r tag).tblSums = s.tblSums := rfl
@[simp] theorem dropRun_evqs (s : State) (r tag : Nat) : (dropRun s r tag).evqs = s.evqs := rfl
@[simp] theorem dropRun_punts (s : State) (r tag : Nat) : (dropRun s r tag).punts = s.punts := rfl
@[simp] theorem dropRun_out (s : State) (r tag : Nat) : (dropRun s r tag).out = s.out := rfl
@[simp] theorem dropRun_flash (s : State) (r tag : Nat) : (dropRun s r tag).flash = s.flash := rfl
@[simp] theorem dropRun_ceilA (s : State) (r tag : Nat) : (dropRun s r tag).ceilA = s.ceilA := rfl
@[simp] theorem dropRun_ceilB (s : State) (r tag : Nat) : (dropRun s r tag).ceilB = s.ceilB := rfl
@[simp] theorem dropRun_cargo (s : State) (r tag : Nat) : (dropRun s r tag).cargo = s.cargo := rfl
@[simp] theorem dropRun_gen0 (s : State) (r tag : Nat) : (dropRun s r tag).gen0 = s.gen0 := rfl
@[simp] theorem dropRun_gen1 (s : State) (r tag : Nat) : (dropRun s r tag).gen1 = s.gen1 := rfl
@[simp] theorem dropRun_siCtx (s : State) (r tag : Nat) : (dropRun s r tag).siCtx = s.siCtx := rfl
@[simp] theorem dropRun_pairs (s : State) (r tag : Nat) : (dropRun s r tag).pairs = s.pairs := rfl
@[simp] theorem dropRun_cache (s : State) (r tag : Nat) : (dropRun s r tag).cache = s.cache := rfl
@[simp] theorem dropRun_poison (s : State) (r tag : Nat) : (dropRun s r tag).poison = s.poison := rfl
@[simp] theorem dropRun_pkts (s : State) (r tag : Nat) : (dropRun s r tag).pkts = s.pkts := rfl
@[simp] theorem dropRun_queues (s : State) (r tag : Nat) : (dropRun s r tag).queues = s.queues := rfl
@[simp] theorem dropRun_nodes (s : State) (r tag : Nat) : (dropRun s r tag).nodes = s.nodes := rfl
@[simp] theorem dropRun_gates (s : State) (r tag : Nat) : (dropRun s r tag).gates = s.gates := rfl
@[simp] theorem dropRun_saks (s : State) (r tag : Nat) : (dropRun s r tag).saks = s.saks := rfl
@[simp] theorem dropRun_peers (s : State) (r tag : Nat) : (dropRun s r tag).peers = s.peers := rfl
@[simp] theorem dropRun_bits (s : State) (r tag : Nat) : (dropRun s r tag).bits = s.bits := rfl
@[simp] theorem dropRun_banks (s : State) (r tag : Nat) : (dropRun s r tag).banks = s.banks := rfl
@[simp] theorem dropRun_eqs (s : State) (r tag : Nat) : (dropRun s r tag).eqs = s.eqs := rfl
@[simp] theorem dropRun_shapes (s : State) (r tag : Nat) : (dropRun s r tag).shapes = s.shapes := rfl
@[simp] theorem dropRun_trnMsgs (s : State) (r tag : Nat) : (dropRun s r tag).trnMsgs = s.trnMsgs := rfl
@[simp] theorem dropRun_txBits (s : State) (r tag : Nat) : (dropRun s r tag).txBits = s.txBits := rfl
@[simp] theorem dropRun_chains (s : State) (r tag : Nat) : (dropRun s r tag).chains = s.chains := rfl
@[simp] theorem dropRun_monSite (s : State) (r tag : Nat) : (dropRun s r tag).monSite = s.monSite := rfl
@[simp] theorem dropRun_monIn (s : State) (r tag : Nat) : (dropRun s r tag).monIn = s.monIn := rfl
@[simp] theorem dropRun_merge (s : State) (r tag : Nat) : (dropRun s r tag).merge = s.merge := rfl
@[simp] theorem dropRun_withheld (s : State) (r tag : Nat) : (dropRun s r tag).withheld = s.withheld := rfl
@[simp] theorem dropRun_pmuRuns (s : State) (r tag : Nat) : (dropRun s r tag).pmuRuns = s.pmuRuns := rfl
@[simp] theorem dropRun_slices (s : State) (r tag : Nat) : (dropRun s r tag).slices = s.slices := rfl
@[simp] theorem dropRun_errTicks (s : State) (r tag : Nat) : (dropRun s r tag).errTicks = s.errTicks := rfl
@[simp] theorem dropRun_freeCnt (s : State) (r tag : Nat) : (dropRun s r tag).freeCnt = s.freeCnt := rfl
@[simp] theorem dropRun_pending (s : State) (r tag : Nat) : (dropRun s r tag).pending = s.pending := rfl
@[simp] theorem rd_dropRun (s : State) (r tag : Nat) (g : Fld) (j : Nat) : rd (dropRun s r tag) g j = rd s g j := rfl

@[simp] theorem wrs_rings (s : State) (l : List (Fld × Nat × Nat)) : (wrs s l).rings = s.rings := by rw [wrs_eq]
@[simp] theorem wrs_running (s : State) (l : List (Fld × Nat × Nat)) : (wrs s l).running = s.running := by rw [wrs_eq]
@[simp] theorem wrs_sessions (s : State) (l : List (Fld × Nat × Nat)) : (wrs s l).sessions = s.sessions := by rw [wrs_eq]
@[simp] theorem wrs_vst (s : State) (l : List (Fld × Nat × Nat)) : (wrs s l).vst = s.vst := by rw [wrs_eq]
@[simp] theorem wrs_vstReq (s : State) (l : List (Fld × Nat × Nat)) : (wrs s l).vstReq = s.vstReq := by rw [wrs_eq]
@[simp] theorem wrs_vstRsp (s : State) (l : List (Fld × Nat × Nat)) : (wrs s l).vstRsp = s.vstRsp := by rw [wrs_eq]
@[simp] theorem wrs_opKeys (s : State) (l : List (Fld × Nat × Nat)) : (wrs s l).opKeys = s.opKeys := by rw [wrs_eq]
@[simp] theorem wrs_instCreds (s : State) (l : List (Fld × Nat × Nat)) : (wrs s l).instCreds = s.instCreds := by rw [wrs_eq]
@[simp] theorem wrs_caks (s : State) (l : List (Fld × Nat × Nat)) : (wrs s l).caks = s.caks := by rw [wrs_eq]
@[simp] theorem wrs_siVerify (s : State) (l : List (Fld × Nat × Nat)) : (wrs s l).siVerify = s.siVerify := by rw [wrs_eq]
@[simp] theorem wrs_siDecrypt (s : State) (l : List (Fld × Nat × Nat)) : (wrs s l).siDecrypt = s.siDecrypt := by rw [wrs_eq]
@[simp] theorem wrs_makerKey (s : State) (l : List (Fld × Nat × Nat)) : (wrs s l).makerKey = s.makerKey := by rw [wrs_eq]
@[simp] theorem wrs_enrolKey (s : State) (l : List (Fld × Nat × Nat)) : (wrs s l).enrolKey = s.enrolKey := by rw [wrs_eq]
@[simp] theorem wrs_attestKey (s : State) (l : List (Fld × Nat × Nat)) : (wrs s l).attestKey = s.attestKey := by rw [wrs_eq]
@[simp] theorem wrs_audit (s : State) (l : List (Fld × Nat × Nat)) : (wrs s l).audit = s.audit := by rw [wrs_eq]
@[simp] theorem wrs_tblSums (s : State) (l : List (Fld × Nat × Nat)) : (wrs s l).tblSums = s.tblSums := by rw [wrs_eq]
@[simp] theorem wrs_evqs (s : State) (l : List (Fld × Nat × Nat)) : (wrs s l).evqs = s.evqs := by rw [wrs_eq]
@[simp] theorem wrs_punts (s : State) (l : List (Fld × Nat × Nat)) : (wrs s l).punts = s.punts := by rw [wrs_eq]
@[simp] theorem wrs_out (s : State) (l : List (Fld × Nat × Nat)) : (wrs s l).out = s.out := by rw [wrs_eq]
@[simp] theorem wrs_flash (s : State) (l : List (Fld × Nat × Nat)) : (wrs s l).flash = s.flash := by rw [wrs_eq]
@[simp] theorem wrs_ceilA (s : State) (l : List (Fld × Nat × Nat)) : (wrs s l).ceilA = s.ceilA := by rw [wrs_eq]
@[simp] theorem wrs_ceilB (s : State) (l : List (Fld × Nat × Nat)) : (wrs s l).ceilB = s.ceilB := by rw [wrs_eq]
@[simp] theorem wrs_cargo (s : State) (l : List (Fld × Nat × Nat)) : (wrs s l).cargo = s.cargo := by rw [wrs_eq]
@[simp] theorem wrs_gen0 (s : State) (l : List (Fld × Nat × Nat)) : (wrs s l).gen0 = s.gen0 := by rw [wrs_eq]
@[simp] theorem wrs_gen1 (s : State) (l : List (Fld × Nat × Nat)) : (wrs s l).gen1 = s.gen1 := by rw [wrs_eq]
@[simp] theorem wrs_siCtx (s : State) (l : List (Fld × Nat × Nat)) : (wrs s l).siCtx = s.siCtx := by rw [wrs_eq]
@[simp] theorem wrs_pairs (s : State) (l : List (Fld × Nat × Nat)) : (wrs s l).pairs = s.pairs := by rw [wrs_eq]
@[simp] theorem wrs_cache (s : State) (l : List (Fld × Nat × Nat)) : (wrs s l).cache = s.cache := by rw [wrs_eq]
@[simp] theorem wrs_poison (s : State) (l : List (Fld × Nat × Nat)) : (wrs s l).poison = s.poison := by rw [wrs_eq]
@[simp] theorem wrs_pkts (s : State) (l : List (Fld × Nat × Nat)) : (wrs s l).pkts = s.pkts := by rw [wrs_eq]
@[simp] theorem wrs_queues (s : State) (l : List (Fld × Nat × Nat)) : (wrs s l).queues = s.queues := by rw [wrs_eq]
@[simp] theorem wrs_nodes (s : State) (l : List (Fld × Nat × Nat)) : (wrs s l).nodes = s.nodes := by rw [wrs_eq]
@[simp] theorem wrs_gates (s : State) (l : List (Fld × Nat × Nat)) : (wrs s l).gates = s.gates := by rw [wrs_eq]
@[simp] theorem wrs_saks (s : State) (l : List (Fld × Nat × Nat)) : (wrs s l).saks = s.saks := by rw [wrs_eq]
@[simp] theorem wrs_peers (s : State) (l : List (Fld × Nat × Nat)) : (wrs s l).peers = s.peers := by rw [wrs_eq]
@[simp] theorem wrs_bits (s : State) (l : List (Fld × Nat × Nat)) : (wrs s l).bits = s.bits := by rw [wrs_eq]
@[simp] theorem wrs_banks (s : State) (l : List (Fld × Nat × Nat)) : (wrs s l).banks = s.banks := by rw [wrs_eq]
@[simp] theorem wrs_eqs (s : State) (l : List (Fld × Nat × Nat)) : (wrs s l).eqs = s.eqs := by rw [wrs_eq]
@[simp] theorem wrs_shapes (s : State) (l : List (Fld × Nat × Nat)) : (wrs s l).shapes = s.shapes := by rw [wrs_eq]
@[simp] theorem wrs_trnMsgs (s : State) (l : List (Fld × Nat × Nat)) : (wrs s l).trnMsgs = s.trnMsgs := by rw [wrs_eq]
@[simp] theorem wrs_txBits (s : State) (l : List (Fld × Nat × Nat)) : (wrs s l).txBits = s.txBits := by rw [wrs_eq]
@[simp] theorem wrs_chains (s : State) (l : List (Fld × Nat × Nat)) : (wrs s l).chains = s.chains := by rw [wrs_eq]
@[simp] theorem wrs_monSite (s : State) (l : List (Fld × Nat × Nat)) : (wrs s l).monSite = s.monSite := by rw [wrs_eq]
@[simp] theorem wrs_monIn (s : State) (l : List (Fld × Nat × Nat)) : (wrs s l).monIn = s.monIn := by rw [wrs_eq]
@[simp] theorem wrs_merge (s : State) (l : List (Fld × Nat × Nat)) : (wrs s l).merge = s.merge := by rw [wrs_eq]
@[simp] theorem wrs_withheld (s : State) (l : List (Fld × Nat × Nat)) : (wrs s l).withheld = s.withheld := by rw [wrs_eq]
@[simp] theorem wrs_pmuRuns (s : State) (l : List (Fld × Nat × Nat)) : (wrs s l).pmuRuns = s.pmuRuns := by rw [wrs_eq]
@[simp] theorem wrs_slices (s : State) (l : List (Fld × Nat × Nat)) : (wrs s l).slices = s.slices := by rw [wrs_eq]
@[simp] theorem wrs_errTicks (s : State) (l : List (Fld × Nat × Nat)) : (wrs s l).errTicks = s.errTicks := by rw [wrs_eq]
@[simp] theorem wrs_freeCnt (s : State) (l : List (Fld × Nat × Nat)) : (wrs s l).freeCnt = s.freeCnt := by rw [wrs_eq]
@[simp] theorem wrs_pending (s : State) (l : List (Fld × Nat × Nat)) : (wrs s l).pending = s.pending := by rw [wrs_eq]

end Sys2Proof.Machine
end

