-- ==== Sys2Proof/Laws/Keeps.lean ====
section
/-! SUPPORT. What every operation of the block keeps, whatever it does: the queue of commands, the free values already taken,
the canonical form of the tables, and local time. -/

namespace Sys2Proof

open Sys2Proof.Machine

/-- The fields that hold local time (R154). -/
def timeIds : List Nat := [TIM_NOW.FRAC.id, TIM_NOW.NS.id, TIM_NOW.SEC.id, HID.TIM_RESID.id]

/-- A field is none of those that hold local time. -/
def offTime (f : Fld) : Bool := !timeIds.contains f.id

/-- From s to t the queue of commands is the same, no free value is given back, and canonical tables stay canonical. -/
structure Keeps0 (s t : State) : Prop where
  pending : t.pending = s.pending
  free : s.freeCnt ≤ t.freeCnt
  canon : Canonical s = true → Canonical t = true

/-- `Keeps0`, and local time is the same. -/
structure Keeps (s t : State) : Prop extends Keeps0 s t where
  time : ∀ f i, offTime f = false → rd t f i = rd s f i

theorem Keeps0.refl (s : State) : Keeps0 s s := ⟨rfl, Nat.le_refl _, id⟩

theorem Keeps0.trans {s t u : State} (h : Keeps0 s t) (k : Keeps0 t u) : Keeps0 s u :=
  ⟨k.pending.trans h.pending, Nat.le_trans h.free k.free, fun c => k.canon (h.canon c)⟩

theorem Keeps0.ite {s t u : State} {c : Prop} [Decidable c] (h : Keeps0 s t) (k : Keeps0 s u) :
    Keeps0 s (if c then t else u) := by
  split
  · exact h
  · exact k

theorem Keeps.refl (s : State) : Keeps s s := ⟨Keeps0.refl s, fun _ _ _ => rfl⟩

theorem Keeps.trans {s t u : State} (h : Keeps s t) (k : Keeps t u) : Keeps s u :=
  ⟨h.toKeeps0.trans k.toKeeps0, fun f i e => (k.time f i e).trans (h.time f i e)⟩

theorem Keeps.ite {s t u : State} {c : Prop} [Decidable c] (h : Keeps s t) (k : Keeps s u) :
    Keeps s (if c then t else u) := by
  split
  · exact h
  · exact k

theorem Keeps.foldl {α : Type} {s : State} {g : State → α → State} {u : State} {l : List α} (h : Keeps s u)
    (hg : ∀ t x, Keeps s t → Keeps s (g t x)) : Keeps s (l.foldl g u) := by
  induction l generalizing u with
  | nil => exact h
  | cons a l ih => exact ih (hg u a h)

theorem Keeps.foldl_mem {α : Type} {s : State} {g : State → α → State} {u : State} {l : List α} (h : Keeps s u)
    (hg : ∀ t x, x ∈ l → Keeps s t → Keeps s (g t x)) : Keeps s (l.foldl g u) := by
  induction l generalizing u with
  | nil => exact h
  | cons a l ih => exact ih (hg u a List.mem_cons_self h) fun t x m => hg t x (List.mem_cons_of_mem _ m)

theorem Keeps.forEach {s u : State} {l : List Nat} {g : Nat → State → State} (h : Keeps s u)
    (hg : ∀ x t, Keeps s t → Keeps s (g x t)) : Keeps s (Machine.forEach l u g) := by
  induction l generalizing u with
  | nil => exact h
  | cons a l ih => exact ih (hg a u h)

/-- The tables of a state are canonical, one by one. -/
theorem canonical_iff (s : State) : Canonical s = true ↔
    tabWf s.regs = true ∧ tabWf s.rings = true ∧ tabWf s.sessions = true ∧ tabWf s.opKeys = true ∧ tabWf s.instCreds =
    true ∧ tabWf s.caks = true ∧ tabWf s.siVerify = true ∧ tabWf s.siDecrypt = true ∧ tabWf s.tblSums = true ∧ tabWf
    s.evqs = true ∧ tabWf s.punts = true ∧ tabWf s.flash = true ∧ tabWf s.ceilA = true ∧ tabWf s.ceilB = true ∧ tabWf
    s.cargo = true ∧ tabWf s.pairs = true ∧ tabWf s.cache = true ∧ tabWf s.poison = true ∧ tabWf s.queues = true ∧ tabWf
    s.nodes = true ∧ tabWf s.gates = true ∧ tabWf s.saks = true ∧ tabWf s.peers = true ∧ tabWf s.bits = true ∧ tabWf
    s.banks = true ∧ tabWf s.eqs = true ∧ tabWf s.shapes = true ∧ tabWf s.trnMsgs = true ∧ tabWf s.txBits = true ∧ tabWf
    s.chains = true ∧ tabWf s.monSite = true ∧ tabWf s.monIn = true ∧ tabWf s.merge = true ∧ tabWf s.withheld = true ∧
    tabWf s.pmuRuns = true ∧ tabWf s.slices = true ∧ tabWf s.errTicks = true := by
  simp only [Canonical, Bool.and_eq_true, and_assoc]

theorem Keeps.rings {s u : State} {x} (h : Keeps s u) (hx : tabWf u.rings = true → tabWf x = true) :
    Keeps s { u with rings := x } := by
  refine h.trans ⟨⟨rfl, Nat.le_refl _, fun c => ?_⟩, fun _ _ _ => rfl⟩
  have d := (canonical_iff u).1 c
  have := hx d.2.1
  rw [canonical_iff]
  simp only [d, this, and_self]

theorem Keeps.running {s u : State} {x} (h : Keeps s u) : Keeps s { u with running := x } :=
  h.trans ⟨⟨rfl, Nat.le_refl _, id⟩, fun _ _ _ => rfl⟩

theorem Keeps.sessions {s u : State} {x} (h : Keeps s u) (hx : tabWf u.sessions = true → tabWf x = true) :
    Keeps s { u with sessions := x } := by
  refine h.trans ⟨⟨rfl, Nat.le_refl _, fun c => ?_⟩, fun _ _ _ => rfl⟩
  have d := (canonical_iff u).1 c
  have := hx d.2.2.1
  rw [canonical_iff]
  simp only [d, this, and_self]

theorem Keeps.vst {s u : State} {x} (h : Keeps s u) : Keeps s { u with vst := x } :=
  h.trans ⟨⟨rfl, Nat.le_refl _, id⟩, fun _ _ _ => rfl⟩

theorem Keeps.vstReq {s u : State} {x} (h : Keeps s u) : Keeps s { u with vstReq := x } :=
  h.trans ⟨⟨rfl, Nat.le_refl _, id⟩, fun _ _ _ => rfl⟩

theorem Keeps.vstRsp {s u : State} {x} (h : Keeps s u) : Keeps s { u with vstRsp := x } :=
  h.trans ⟨⟨rfl, Nat.le_refl _, id⟩, fun _ _ _ => rfl⟩

theorem Keeps.opKeys {s u : State} {x} (h : Keeps s u) (hx : tabWf u.opKeys = true → tabWf x = true) :
    Keeps s { u with opKeys := x } := by
  refine h.trans ⟨⟨rfl, Nat.le_refl _, fun c => ?_⟩, fun _ _ _ => rfl⟩
  have d := (canonical_iff u).1 c
  have := hx d.2.2.2.1
  rw [canonical_iff]
  simp only [d, this, and_self]

theorem Keeps.instCreds {s u : State} {x} (h : Keeps s u) (hx : tabWf u.instCreds = true → tabWf x = true) :
    Keeps s { u with instCreds := x } := by
  refine h.trans ⟨⟨rfl, Nat.le_refl _, fun c => ?_⟩, fun _ _ _ => rfl⟩
  have d := (canonical_iff u).1 c
  have := hx d.2.2.2.2.1
  rw [canonical_iff]
  simp only [d, this, and_self]

theorem Keeps.caks {s u : State} {x} (h : Keeps s u) (hx : tabWf u.caks = true → tabWf x = true) :
    Keeps s { u with caks := x } := by
  refine h.trans ⟨⟨rfl, Nat.le_refl _, fun c => ?_⟩, fun _ _ _ => rfl⟩
  have d := (canonical_iff u).1 c
  have := hx d.2.2.2.2.2.1
  rw [canonical_iff]
  simp only [d, this, and_self]

theorem Keeps.siVerify {s u : State} {x} (h : Keeps s u) (hx : tabWf u.siVerify = true → tabWf x = true) :
    Keeps s { u with siVerify := x } := by
  refine h.trans ⟨⟨rfl, Nat.le_refl _, fun c => ?_⟩, fun _ _ _ => rfl⟩
  have d := (canonical_iff u).1 c
  have := hx d.2.2.2.2.2.2.1
  rw [canonical_iff]
  simp only [d, this, and_self]

theorem Keeps.siDecrypt {s u : State} {x} (h : Keeps s u) (hx : tabWf u.siDecrypt = true → tabWf x = true) :
    Keeps s { u with siDecrypt := x } := by
  refine h.trans ⟨⟨rfl, Nat.le_refl _, fun c => ?_⟩, fun _ _ _ => rfl⟩
  have d := (canonical_iff u).1 c
  have := hx d.2.2.2.2.2.2.2.1
  rw [canonical_iff]
  simp only [d, this, and_self]

theorem Keeps.makerKey {s u : State} {x} (h : Keeps s u) : Keeps s { u with makerKey := x } :=
  h.trans ⟨⟨rfl, Nat.le_refl _, id⟩, fun _ _ _ => rfl⟩

theorem Keeps.enrolKey {s u : State} {x} (h : Keeps s u) : Keeps s { u with enrolKey := x } :=
  h.trans ⟨⟨rfl, Nat.le_refl _, id⟩, fun _ _ _ => rfl⟩

theorem Keeps.attestKey {s u : State} {x} (h : Keeps s u) : Keeps s { u with attestKey := x } :=
  h.trans ⟨⟨rfl, Nat.le_refl _, id⟩, fun _ _ _ => rfl⟩

theorem Keeps.audit {s u : State} {x} (h : Keeps s u) : Keeps s { u with audit := x } :=
  h.trans ⟨⟨rfl, Nat.le_refl _, id⟩, fun _ _ _ => rfl⟩

theorem Keeps.tblSums {s u : State} {x} (h : Keeps s u) (hx : tabWf u.tblSums = true → tabWf x = true) :
    Keeps s { u with tblSums := x } := by
  refine h.trans ⟨⟨rfl, Nat.le_refl _, fun c => ?_⟩, fun _ _ _ => rfl⟩
  have d := (canonical_iff u).1 c
  have := hx d.2.2.2.2.2.2.2.2.1
  rw [canonical_iff]
  simp only [d, this, and_self]

theorem Keeps.evqs {s u : State} {x} (h : Keeps s u) (hx : tabWf u.evqs = true → tabWf x = true) :
    Keeps s { u with evqs := x } := by
  refine h.trans ⟨⟨rfl, Nat.le_refl _, fun c => ?_⟩, fun _ _ _ => rfl⟩
  have d := (canonical_iff u).1 c
  have := hx d.2.2.2.2.2.2.2.2.2.1
  rw [canonical_iff]
  simp only [d, this, and_self]

theorem Keeps.punts {s u : State} {x} (h : Keeps s u) (hx : tabWf u.punts = true → tabWf x = true) :
    Keeps s { u with punts := x } := by
  refine h.trans ⟨⟨rfl, Nat.le_refl _, fun c => ?_⟩, fun _ _ _ => rfl⟩
  have d := (canonical_iff u).1 c
  have := hx d.2.2.2.2.2.2.2.2.2.2.1
  rw [canonical_iff]
  simp only [d, this, and_self]

theorem Keeps.out {s u : State} {x} (h : Keeps s u) : Keeps s { u with out := x } :=
  h.trans ⟨⟨rfl, Nat.le_refl _, id⟩, fun _ _ _ => rfl⟩

theorem Keeps.flash {s u : State} {x} (h : Keeps s u) (hx : tabWf u.flash = true → tabWf x = true) :
    Keeps s { u with flash := x } := by
  refine h.trans ⟨⟨rfl, Nat.le_refl _, fun c => ?_⟩, fun _ _ _ => rfl⟩
  have d := (canonical_iff u).1 c
  have := hx d.2.2.2.2.2.2.2.2.2.2.2.1
  rw [canonical_iff]
  simp only [d, this, and_self]

theorem Keeps.ceilA {s u : State} {x} (h : Keeps s u) (hx : tabWf u.ceilA = true → tabWf x = true) :
    Keeps s { u with ceilA := x } := by
  refine h.trans ⟨⟨rfl, Nat.le_refl _, fun c => ?_⟩, fun _ _ _ => rfl⟩
  have d := (canonical_iff u).1 c
  have := hx d.2.2.2.2.2.2.2.2.2.2.2.2.1
  rw [canonical_iff]
  simp only [d, this, and_self]

theorem Keeps.ceilB {s u : State} {x} (h : Keeps s u) (hx : tabWf u.ceilB = true → tabWf x = true) :
    Keeps s { u with ceilB := x } := by
  refine h.trans ⟨⟨rfl, Nat.le_refl _, fun c => ?_⟩, fun _ _ _ => rfl⟩
  have d := (canonical_iff u).1 c
  have := hx d.2.2.2.2.2.2.2.2.2.2.2.2.2.1
  rw [canonical_iff]
  simp only [d, this, and_self]

theorem Keeps.cargo {s u : State} {x} (h : Keeps s u) (hx : tabWf u.cargo = true → tabWf x = true) :
    Keeps s { u with cargo := x } := by
  refine h.trans ⟨⟨rfl, Nat.le_refl _, fun c => ?_⟩, fun _ _ _ => rfl⟩
  have d := (canonical_iff u).1 c
  have := hx d.2.2.2.2.2.2.2.2.2.2.2.2.2.2.1
  rw [canonical_iff]
  simp only [d, this, and_self]

theorem Keeps.gen0 {s u : State} {x} (h : Keeps s u) : Keeps s { u with gen0 := x } :=
  h.trans ⟨⟨rfl, Nat.le_refl _, id⟩, fun _ _ _ => rfl⟩

theorem Keeps.gen1 {s u : State} {x} (h : Keeps s u) : Keeps s { u with gen1 := x } :=
  h.trans ⟨⟨rfl, Nat.le_refl _, id⟩, fun _ _ _ => rfl⟩

theorem Keeps.siCtx {s u : State} {x} (h : Keeps s u) : Keeps s { u with siCtx := x } :=
  h.trans ⟨⟨rfl, Nat.le_refl _, id⟩, fun _ _ _ => rfl⟩

theorem Keeps.pairs {s u : State} {x} (h : Keeps s u) (hx : tabWf u.pairs = true → tabWf x = true) :
    Keeps s { u with pairs := x } := by
  refine h.trans ⟨⟨rfl, Nat.le_refl _, fun c => ?_⟩, fun _ _ _ => rfl⟩
  have d := (canonical_iff u).1 c
  have := hx d.2.2.2.2.2.2.2.2.2.2.2.2.2.2.2.1
  rw [canonical_iff]
  simp only [d, this, and_self]

theorem Keeps.cache {s u : State} {x} (h : Keeps s u) (hx : tabWf u.cache = true → tabWf x = true) :
    Keeps s { u with cache := x } := by
  refine h.trans ⟨⟨rfl, Nat.le_refl _, fun c => ?_⟩, fun _ _ _ => rfl⟩
  have d := (canonical_iff u).1 c
  have := hx d.2.2.2.2.2.2.2.2.2.2.2.2.2.2.2.2.1
  rw [canonical_iff]
  simp only [d, this, and_self]

theorem Keeps.poison {s u : State} {x} (h : Keeps s u) (hx : tabWf u.poison = true → tabWf x = true) :
    Keeps s { u with poison := x } := by
  refine h.trans ⟨⟨rfl, Nat.le_refl _, fun c => ?_⟩, fun _ _ _ => rfl⟩
  have d := (canonical_iff u).1 c
  have := hx d.2.2.2.2.2.2.2.2.2.2.2.2.2.2.2.2.2.1
  rw [canonical_iff]
  simp only [d, this, and_self]

theorem Keeps.pkts {s u : State} {x} (h : Keeps s u) : Keeps s { u with pkts := x } :=
  h.trans ⟨⟨rfl, Nat.le_refl _, id⟩, fun _ _ _ => rfl⟩

theorem Keeps.queues {s u : State} {x} (h : Keeps s u) (hx : tabWf u.queues = true → tabWf x = true) :
    Keeps s { u with queues := x } := by
  refine h.trans ⟨⟨rfl, Nat.le_refl _, fun c => ?_⟩, fun _ _ _ => rfl⟩
  have d := (canonical_iff u).1 c
  have := hx d.2.2.2.2.2.2.2.2.2.2.2.2.2.2.2.2.2.2.1
  rw [canonical_iff]
  simp only [d, this, and_self]

theorem Keeps.nodes {s u : State} {x} (h : Keeps s u) (hx : tabWf u.nodes = true → tabWf x = true) :
    Keeps s { u with nodes := x } := by
  refine h.trans ⟨⟨rfl, Nat.le_refl _, fun c => ?_⟩, fun _ _ _ => rfl⟩
  have d := (canonical_iff u).1 c
  have := hx d.2.2.2.2.2.2.2.2.2.2.2.2.2.2.2.2.2.2.2.1
  rw [canonical_iff]
  simp only [d, this, and_self]

theorem Keeps.gates {s u : State} {x} (h : Keeps s u) (hx : tabWf u.gates = true → tabWf x = true) :
    Keeps s { u with gates := x } := by
  refine h.trans ⟨⟨rfl, Nat.le_refl _, fun c => ?_⟩, fun _ _ _ => rfl⟩
  have d := (canonical_iff u).1 c
  have := hx d.2.2.2.2.2.2.2.2.2.2.2.2.2.2.2.2.2.2.2.2.1
  rw [canonical_iff]
  simp only [d, this, and_self]

theorem Keeps.saks {s u : State} {x} (h : Keeps s u) (hx : tabWf u.saks = true → tabWf x = true) :
    Keeps s { u with saks := x } := by
  refine h.trans ⟨⟨rfl, Nat.le_refl _, fun c => ?_⟩, fun _ _ _ => rfl⟩
  have d := (canonical_iff u).1 c
  have := hx d.2.2.2.2.2.2.2.2.2.2.2.2.2.2.2.2.2.2.2.2.2.1
  rw [canonical_iff]
  simp only [d, this, and_self]

theorem Keeps.peers {s u : State} {x} (h : Keeps s u) (hx : tabWf u.peers = true → tabWf x = true) :
    Keeps s { u with peers := x } := by
  refine h.trans ⟨⟨rfl, Nat.le_refl _, fun c => ?_⟩, fun _ _ _ => rfl⟩
  have d := (canonical_iff u).1 c
  have := hx d.2.2.2.2.2.2.2.2.2.2.2.2.2.2.2.2.2.2.2.2.2.2.1
  rw [canonical_iff]
  simp only [d, this, and_self]

theorem Keeps.bits {s u : State} {x} (h : Keeps s u) (hx : tabWf u.bits = true → tabWf x = true) :
    Keeps s { u with bits := x } := by
  refine h.trans ⟨⟨rfl, Nat.le_refl _, fun c => ?_⟩, fun _ _ _ => rfl⟩
  have d := (canonical_iff u).1 c
  have := hx d.2.2.2.2.2.2.2.2.2.2.2.2.2.2.2.2.2.2.2.2.2.2.2.1
  rw [canonical_iff]
  simp only [d, this, and_self]

theorem Keeps.banks {s u : State} {x} (h : Keeps s u) (hx : tabWf u.banks = true → tabWf x = true) :
    Keeps s { u with banks := x } := by
  refine h.trans ⟨⟨rfl, Nat.le_refl _, fun c => ?_⟩, fun _ _ _ => rfl⟩
  have d := (canonical_iff u).1 c
  have := hx d.2.2.2.2.2.2.2.2.2.2.2.2.2.2.2.2.2.2.2.2.2.2.2.2.1
  rw [canonical_iff]
  simp only [d, this, and_self]

theorem Keeps.eqs {s u : State} {x} (h : Keeps s u) (hx : tabWf u.eqs = true → tabWf x = true) :
    Keeps s { u with eqs := x } := by
  refine h.trans ⟨⟨rfl, Nat.le_refl _, fun c => ?_⟩, fun _ _ _ => rfl⟩
  have d := (canonical_iff u).1 c
  have := hx d.2.2.2.2.2.2.2.2.2.2.2.2.2.2.2.2.2.2.2.2.2.2.2.2.2.1
  rw [canonical_iff]
  simp only [d, this, and_self]

theorem Keeps.shapes {s u : State} {x} (h : Keeps s u) (hx : tabWf u.shapes = true → tabWf x = true) :
    Keeps s { u with shapes := x } := by
  refine h.trans ⟨⟨rfl, Nat.le_refl _, fun c => ?_⟩, fun _ _ _ => rfl⟩
  have d := (canonical_iff u).1 c
  have := hx d.2.2.2.2.2.2.2.2.2.2.2.2.2.2.2.2.2.2.2.2.2.2.2.2.2.2.1
  rw [canonical_iff]
  simp only [d, this, and_self]

theorem Keeps.trnMsgs {s u : State} {x} (h : Keeps s u) (hx : tabWf u.trnMsgs = true → tabWf x = true) :
    Keeps s { u with trnMsgs := x } := by
  refine h.trans ⟨⟨rfl, Nat.le_refl _, fun c => ?_⟩, fun _ _ _ => rfl⟩
  have d := (canonical_iff u).1 c
  have := hx d.2.2.2.2.2.2.2.2.2.2.2.2.2.2.2.2.2.2.2.2.2.2.2.2.2.2.2.1
  rw [canonical_iff]
  simp only [d, this, and_self]

theorem Keeps.txBits {s u : State} {x} (h : Keeps s u) (hx : tabWf u.txBits = true → tabWf x = true) :
    Keeps s { u with txBits := x } := by
  refine h.trans ⟨⟨rfl, Nat.le_refl _, fun c => ?_⟩, fun _ _ _ => rfl⟩
  have d := (canonical_iff u).1 c
  have := hx d.2.2.2.2.2.2.2.2.2.2.2.2.2.2.2.2.2.2.2.2.2.2.2.2.2.2.2.2.1
  rw [canonical_iff]
  simp only [d, this, and_self]

theorem Keeps.chains {s u : State} {x} (h : Keeps s u) (hx : tabWf u.chains = true → tabWf x = true) :
    Keeps s { u with chains := x } := by
  refine h.trans ⟨⟨rfl, Nat.le_refl _, fun c => ?_⟩, fun _ _ _ => rfl⟩
  have d := (canonical_iff u).1 c
  have := hx d.2.2.2.2.2.2.2.2.2.2.2.2.2.2.2.2.2.2.2.2.2.2.2.2.2.2.2.2.2.1
  rw [canonical_iff]
  simp only [d, this, and_self]

theorem Keeps.monSite {s u : State} {x} (h : Keeps s u) (hx : tabWf u.monSite = true → tabWf x = true) :
    Keeps s { u with monSite := x } := by
  refine h.trans ⟨⟨rfl, Nat.le_refl _, fun c => ?_⟩, fun _ _ _ => rfl⟩
  have d := (canonical_iff u).1 c
  have := hx d.2.2.2.2.2.2.2.2.2.2.2.2.2.2.2.2.2.2.2.2.2.2.2.2.2.2.2.2.2.2.1
  rw [canonical_iff]
  simp only [d, this, and_self]

theorem Keeps.monIn {s u : State} {x} (h : Keeps s u) (hx : tabWf u.monIn = true → tabWf x = true) :
    Keeps s { u with monIn := x } := by
  refine h.trans ⟨⟨rfl, Nat.le_refl _, fun c => ?_⟩, fun _ _ _ => rfl⟩
  have d := (canonical_iff u).1 c
  have := hx d.2.2.2.2.2.2.2.2.2.2.2.2.2.2.2.2.2.2.2.2.2.2.2.2.2.2.2.2.2.2.2.1
  rw [canonical_iff]
  simp only [d, this, and_self]

theorem Keeps.merge {s u : State} {x} (h : Keeps s u) (hx : tabWf u.merge = true → tabWf x = true) :
    Keeps s { u with merge := x } := by
  refine h.trans ⟨⟨rfl, Nat.le_refl _, fun c => ?_⟩, fun _ _ _ => rfl⟩
  have d := (canonical_iff u).1 c
  have := hx d.2.2.2.2.2.2.2.2.2.2.2.2.2.2.2.2.2.2.2.2.2.2.2.2.2.2.2.2.2.2.2.2.1
  rw [canonical_iff]
  simp only [d, this, and_self]

theorem Keeps.withheld {s u : State} {x} (h : Keeps s u) (hx : tabWf u.withheld = true → tabWf x = true) :
    Keeps s { u with withheld := x } := by
  refine h.trans ⟨⟨rfl, Nat.le_refl _, fun c => ?_⟩, fun _ _ _ => rfl⟩
  have d := (canonical_iff u).1 c
  have := hx d.2.2.2.2.2.2.2.2.2.2.2.2.2.2.2.2.2.2.2.2.2.2.2.2.2.2.2.2.2.2.2.2.2.1
  rw [canonical_iff]
  simp only [d, this, and_self]

theorem Keeps.pmuRuns {s u : State} {x} (h : Keeps s u) (hx : tabWf u.pmuRuns = true → tabWf x = true) :
    Keeps s { u with pmuRuns := x } := by
  refine h.trans ⟨⟨rfl, Nat.le_refl _, fun c => ?_⟩, fun _ _ _ => rfl⟩
  have d := (canonical_iff u).1 c
  have := hx d.2.2.2.2.2.2.2.2.2.2.2.2.2.2.2.2.2.2.2.2.2.2.2.2.2.2.2.2.2.2.2.2.2.2.1
  rw [canonical_iff]
  simp only [d, this, and_self]

theorem Keeps.slices {s u : State} {x} (h : Keeps s u) (hx : tabWf u.slices = true → tabWf x = true) :
    Keeps s { u with slices := x } := by
  refine h.trans ⟨⟨rfl, Nat.le_refl _, fun c => ?_⟩, fun _ _ _ => rfl⟩
  have d := (canonical_iff u).1 c
  have := hx d.2.2.2.2.2.2.2.2.2.2.2.2.2.2.2.2.2.2.2.2.2.2.2.2.2.2.2.2.2.2.2.2.2.2.2.1
  rw [canonical_iff]
  simp only [d, this, and_self]

theorem Keeps.errTicks {s u : State} {x} (h : Keeps s u) (hx : tabWf u.errTicks = true → tabWf x = true) :
    Keeps s { u with errTicks := x } := by
  refine h.trans ⟨⟨rfl, Nat.le_refl _, fun c => ?_⟩, fun _ _ _ => rfl⟩
  have d := (canonical_iff u).1 c
  have := hx d.2.2.2.2.2.2.2.2.2.2.2.2.2.2.2.2.2.2.2.2.2.2.2.2.2.2.2.2.2.2.2.2.2.2.2.2
  rw [canonical_iff]
  simp only [d, this, and_self]

theorem Keeps.took {s u : State} (h : Keeps s u) : Keeps s (Machine.took u) :=
  h.trans ⟨⟨rfl, Nat.le_succ _, id⟩, fun _ _ _ => rfl⟩

theorem Keeps0.regs {s : State} {x} (hx : tabWf s.regs = true → tabWf x = true) : Keeps0 s { s with regs := x } := by
  refine ⟨rfl, Nat.le_refl _, fun c => ?_⟩
  have d := (canonical_iff s).1 c
  have := hx d.1
  rw [canonical_iff]
  simp only [d, this, and_self]

theorem Keeps0.wr (s : State) (f : Fld) (i v : Nat) : Keeps0 s (Machine.wr s f i v) := by
  refine Keeps0.regs fun h => ?_
  split
  · exact tabDel_wf _ _ h
  · exact tabPut_wf _ _ _ h

theorem offTime_ne {f g : Fld} (hf : offTime f = true) (hg : offTime g = false) : f.id ≠ g.id := by
  intro h
  simp only [offTime, h] at hf
  simp only [offTime] at hg
  rw [hf] at hg
  cases hg

theorem Keeps.wr {s u : State} {f : Fld} {i v : Nat} (h : Keeps s u) (hf : offTime f = true) :
    Keeps s (Machine.wr u f i v) :=
  h.trans ⟨Keeps0.wr u f i v, fun g j hg => rd_wr_id u f g i j v (offTime_ne hf hg)⟩

theorem Keeps.wrs {l : List (Fld × Nat × Nat)} {s u : State} (h : Keeps s u)
    (hl : (l.all fun e => offTime e.1) = true) : Keeps s (Machine.wrs u l) := by
  induction l generalizing u with
  | nil => exact h
  | cons e l ih =>
    rw [List.all_cons, Bool.and_eq_true] at hl
    exact ih (h.wr hl.1) hl.2

theorem Keeps0.wrs (l : List (Fld × Nat × Nat)) (s : State) : Keeps0 s (Machine.wrs s l) := by
  induction l generalizing s with
  | nil => exact Keeps0.refl s
  | cons e l ih => exact (Keeps0.wr s _ _ _).trans (ih _)

theorem Keeps.putFields {l : List Fld} {s u : State} {i v : Nat} (h : Keeps s u) (hl : (l.all offTime) = true) :
    Keeps s (Machine.putFields u l i v) := by
  unfold Machine.putFields
  induction l generalizing u with
  | nil => exact h
  | cons e l ih =>
    rw [List.all_cons, Bool.and_eq_true] at hl
    exact ih (h.wr hl.1) hl.2

theorem Keeps.wrN {s u : State} {f : Fld} {v n : Nat} (h : Keeps s u) (hf : offTime f = true) :
    Keeps s (Machine.wrN u f v n) := by
  induction n with
  | zero => exact h
  | succ n ih => exact ih.wr hf

theorem Keeps.wrFrom {s u : State} {f : Fld} {b v n : Nat} (h : Keeps s u) (hf : offTime f = true) :
    Keeps s (Machine.wrFrom u f b v n) := by
  induction n with
  | zero => exact h
  | succ n ih => exact ih.wr hf

theorem Keeps.unwr {s u : State} {f : Fld} {i : Nat} (h : Keeps s u) (hf : offTime f = true) :
    Keeps s (Machine.unwr u f i) := by
  refine h.trans ⟨Keeps0.regs (tabDel_wf _ _), fun g j hg => ?_⟩
  unfold rd
  rw [show (Machine.unwr u f i).regs = tabDel u.regs (f.id, i) from rfl,
    tabGet_tabDel_other _ fun e => offTime_ne hf hg (congrArg Prod.fst e)]

theorem Keeps.bumpBy {s u : State} {f : Fld} {i n : Nat} (h : Keeps s u) (hf : offTime f = true) :
    Keeps s (Machine.bumpBy u f i n) := by
  unfold Machine.bumpBy; dsimp only; split
  · exact (h.wr hf).wr rfl
  · exact h.wr hf

theorem Keeps.bump {s u : State} {f : Fld} {i : Nat} (h : Keeps s u) (hf : offTime f = true) :
    Keeps s (Machine.bump u f i) := h.bumpBy hf

theorem Keeps.stat {s u : State} {f : Fld} {i n : Nat} (h : Keeps s u) (hf : offTime f = true) :
    Keeps s (Machine.stat u f i n) := by
  unfold Machine.stat; dsimp only; split
  · exact (h.wr hf).wr rfl
  · exact h.wr hf

/-- Scalars filtered by a test that keeps those of local time. -/
theorem Keeps.filterRegs {s u : State} {p : Key × Nat → Bool} (h : Keeps s u)
    (hp : ∀ e : Key × Nat, timeIds.contains e.1.1 = true → p e = true) :
    Keeps s { u with regs := u.regs.filter p } := by
  refine h.trans ⟨Keeps0.regs (filter_wf _ _), fun g j hg => ?_⟩
  unfold rd
  rw [tabGet_filter]
  intro e _ he
  refine hp e ?_
  rw [he]
  simpa [offTime] using hg

/-- Several parts of the state replaced at once. -/
theorem Keeps.record {s u : State} {x0 x1 x2 x3 x4 x5 x6 x7 x8 x9 x10 x11 x12 x13 x14 x15 x16 x17 x18 x19 x20 x21 x22 x23 x24 x25 x26
    x27 x28 x29 x30 x31 x32 x33 x34 x35 x36 x37 x38 x39 x40 x41 x42 x43 x44 x45 x46 x47 x48 x49} (h : Keeps s u)
    (hr : Keeps u { u with regs := x0 })
    (hx1 : tabWf u.rings = true → tabWf x1 = true)
    (hx3 : tabWf u.sessions = true → tabWf x3 = true)
    (hx7 : tabWf u.opKeys = true → tabWf x7 = true)
    (hx8 : tabWf u.instCreds = true → tabWf x8 = true)
    (hx9 : tabWf u.caks = true → tabWf x9 = true)
    (hx10 : tabWf u.siVerify = true → tabWf x10 = true)
    (hx11 : tabWf u.siDecrypt = true → tabWf x11 = true)
    (hx16 : tabWf u.tblSums = true → tabWf x16 = true)
    (hx17 : tabWf u.evqs = true → tabWf x17 = true)
    (hx18 : tabWf u.punts = true → tabWf x18 = true)
    (hx20 : tabWf u.flash = true → tabWf x20 = true)
    (hx21 : tabWf u.ceilA = true → tabWf x21 = true)
    (hx22 : tabWf u.ceilB = true → tabWf x22 = true)
    (hx23 : tabWf u.cargo = true → tabWf x23 = true)
    (hx27 : tabWf u.pairs = true → tabWf x27 = true)
    (hx28 : tabWf u.cache = true → tabWf x28 = true)
    (hx29 : tabWf u.poison = true → tabWf x29 = true)
    (hx31 : tabWf u.queues = true → tabWf x31 = true)
    (hx32 : tabWf u.nodes = true → tabWf x32 = true)
    (hx33 : tabWf u.gates = true → tabWf x33 = true)
    (hx34 : tabWf u.saks = true → tabWf x34 = true)
    (hx35 : tabWf u.peers = true → tabWf x35 = true)
    (hx36 : tabWf u.bits = true → tabWf x36 = true)
    (hx37 : tabWf u.banks = true → tabWf x37 = true)
    (hx38 : tabWf u.eqs = true → tabWf x38 = true)
    (hx39 : tabWf u.shapes = true → tabWf x39 = true)
    (hx40 : tabWf u.trnMsgs = true → tabWf x40 = true)
    (hx41 : tabWf u.txBits = true → tabWf x41 = true)
    (hx42 : tabWf u.chains = true → tabWf x42 = true)
    (hx43 : tabWf u.monSite = true → tabWf x43 = true)
    (hx44 : tabWf u.monIn = true → tabWf x44 = true)
    (hx45 : tabWf u.merge = true → tabWf x45 = true)
    (hx46 : tabWf u.withheld = true → tabWf x46 = true)
    (hx47 : tabWf u.pmuRuns = true → tabWf x47 = true)
    (hx48 : tabWf u.slices = true → tabWf x48 = true)
    (hx49 : tabWf u.errTicks = true → tabWf x49 = true)
    : Keeps s (State.mk x0 x1 x2 x3 x4 x5 x6 x7 x8 x9 x10 x11 x12 x13 x14 x15 x16 x17 x18 x19 x20 x21 x22 x23 x24 x25 x26
      x27 x28 x29 x30 x31 x32 x33 x34 x35 x36 x37 x38 x39 x40 x41 x42 x43 x44 x45 x46 x47 x48 x49 u.freeCnt u.pending) := by
  refine h.trans ⟨⟨rfl, Nat.le_refl _, fun c => ?_⟩, hr.time⟩
  have d := (canonical_iff u).1 c
  have r := (canonical_iff _).1 (hr.canon c)
  rw [canonical_iff]
  simp only at r
  exact ⟨r.1, hx1 d.2.1,
    hx3 d.2.2.1,
    hx7 d.2.2.2.1,
    hx8 d.2.2.2.2.1,
    hx9 d.2.2.2.2.2.1,
    hx10 d.2.2.2.2.2.2.1,
    hx11 d.2.2.2.2.2.2.2.1,
    hx16 d.2.2.2.2.2.2.2.2.1,
    hx17 d.2.2.2.2.2.2.2.2.2.1,
    hx18 d.2.2.2.2.2.2.2.2.2.2.1,
    hx20 d.2.2.2.2.2.2.2.2.2.2.2.1,
    hx21 d.2.2.2.2.2.2.2.2.2.2.2.2.1,
    hx22 d.2.2.2.2.2.2.2.2.2.2.2.2.2.1,
    hx23 d.2.2.2.2.2.2.2.2.2.2.2.2.2.2.1,
    hx27 d.2.2.2.2.2.2.2.2.2.2.2.2.2.2.2.1,
    hx28 d.2.2.2.2.2.2.2.2.2.2.2.2.2.2.2.2.1,
    hx29 d.2.2.2.2.2.2.2.2.2.2.2.2.2.2.2.2.2.1,
    hx31 d.2.2.2.2.2.2.2.2.2.2.2.2.2.2.2.2.2.2.1,
    hx32 d.2.2.2.2.2.2.2.2.2.2.2.2.2.2.2.2.2.2.2.1,
    hx33 d.2.2.2.2.2.2.2.2.2.2.2.2.2.2.2.2.2.2.2.2.1,
    hx34 d.2.2.2.2.2.2.2.2.2.2.2.2.2.2.2.2.2.2.2.2.2.1,
    hx35 d.2.2.2.2.2.2.2.2.2.2.2.2.2.2.2.2.2.2.2.2.2.2.1,
    hx36 d.2.2.2.2.2.2.2.2.2.2.2.2.2.2.2.2.2.2.2.2.2.2.2.1,
    hx37 d.2.2.2.2.2.2.2.2.2.2.2.2.2.2.2.2.2.2.2.2.2.2.2.2.1,
    hx38 d.2.2.2.2.2.2.2.2.2.2.2.2.2.2.2.2.2.2.2.2.2.2.2.2.2.1,
    hx39 d.2.2.2.2.2.2.2.2.2.2.2.2.2.2.2.2.2.2.2.2.2.2.2.2.2.2.1,
    hx40 d.2.2.2.2.2.2.2.2.2.2.2.2.2.2.2.2.2.2.2.2.2.2.2.2.2.2.2.1,
    hx41 d.2.2.2.2.2.2.2.2.2.2.2.2.2.2.2.2.2.2.2.2.2.2.2.2.2.2.2.2.1,
    hx42 d.2.2.2.2.2.2.2.2.2.2.2.2.2.2.2.2.2.2.2.2.2.2.2.2.2.2.2.2.2.1,
    hx43 d.2.2.2.2.2.2.2.2.2.2.2.2.2.2.2.2.2.2.2.2.2.2.2.2.2.2.2.2.2.2.1,
    hx44 d.2.2.2.2.2.2.2.2.2.2.2.2.2.2.2.2.2.2.2.2.2.2.2.2.2.2.2.2.2.2.2.1,
    hx45 d.2.2.2.2.2.2.2.2.2.2.2.2.2.2.2.2.2.2.2.2.2.2.2.2.2.2.2.2.2.2.2.2.1,
    hx46 d.2.2.2.2.2.2.2.2.2.2.2.2.2.2.2.2.2.2.2.2.2.2.2.2.2.2.2.2.2.2.2.2.2.1,
    hx47 d.2.2.2.2.2.2.2.2.2.2.2.2.2.2.2.2.2.2.2.2.2.2.2.2.2.2.2.2.2.2.2.2.2.2.1,
    hx48 d.2.2.2.2.2.2.2.2.2.2.2.2.2.2.2.2.2.2.2.2.2.2.2.2.2.2.2.2.2.2.2.2.2.2.2.1,
    hx49 d.2.2.2.2.2.2.2.2.2.2.2.2.2.2.2.2.2.2.2.2.2.2.2.2.2.2.2.2.2.2.2.2.2.2.2.2⟩

theorem timeIds_cases {n : Nat} (h : timeIds.contains n = true) :
    n = TIM_NOW.FRAC.id ∨ n = TIM_NOW.NS.id ∨ n = TIM_NOW.SEC.id ∨ n = HID.TIM_RESID.id := by
  simpa [timeIds] using h

/-- No field of a list holds local time, so none has the number of one that does. -/
theorem any_offTime {l : List Fld} (hl : (l.all offTime) = true) {n : Nat} (h : timeIds.contains n = true) :
    (l.any fun f => Nat.beq f.id n) = false := by
  rw [Bool.eq_false_iff]
  intro e
  obtain ⟨f, hf, hn⟩ := List.any_eq_true.1 e
  have o := List.all_eq_true.1 hl f hf
  rw [← Nat.eq_of_beq_eq_true hn] at h
  simp only [offTime, h] at o
  cases o

/-- A field that does not hold local time has another number than one that does. -/
theorem beq_offTime {f : Fld} (hf : offTime f = true) {n : Nat} (h : timeIds.contains n = true) :
    Nat.beq f.id n = false := by
  rw [Bool.eq_false_iff]
  intro e
  rw [← Nat.eq_of_beq_eq_true e] at h
  simp only [offTime, h] at hf
  cases hf

theorem beq_offTime' {f : Fld} (hf : offTime f = true) {n : Nat} (h : timeIds.contains n = true) :
    Nat.beq n f.id = false := by
  have := beq_offTime hf h
  rw [Bool.eq_false_iff] at this ⊢
  intro e
  exact this (by rw [Nat.eq_of_beq_eq_true e]; exact Nat.beq_refl _)

theorem foldl_wf {α β : Type} {g : Tab α → β → Tab α} {l : List β} {t : Tab α} (h : tabWf t = true)
    (hg : ∀ t x, tabWf t = true → tabWf (g t x) = true) : tabWf (l.foldl g t) = true := by
  induction l generalizing t with
  | nil => exact h
  | cons a l ih => exact ih (hg t a h)

/-- Values replaced under their keys where a test holds. -/
theorem mapIf_wf {α : Type} {t : Tab α} {c : Key × α → Prop} [∀ e, Decidable (c e)] {g : Key × α → α}
    (h : tabWf t = true) : tabWf (t.map fun e => if c e then (e.1, g e) else e) = true :=
  map_wf t _ (fun e => by split <;> rfl) h

/-- A table listed over rising keys. -/
theorem mapKeys_wf {α : Type} (l : List Nat) (hl : tabWf (l.map fun k => ((k, 0), ())) = true) (g : Nat → α) :
    tabWf (l.map fun k => ((k, 0), g k)) = true := by
  induction l with
  | nil => rfl
  | cons a l ih =>
    cases l with
    | nil => rfl
    | cons b l =>
      simp only [List.map_cons, tabWf, Bool.and_eq_true] at hl ih ⊢
      exact ⟨hl.1, ih hl.2⟩

/-- What a meaning answers is a next state, which keeps. -/
@[irreducible] def NextKeeps (s : State) (o : Host.Outcome State Fault Refusal) : Prop := ∃ t, o = .next t ∧ Keeps s t

theorem nextKeeps_iff {s : State} {o : Host.Outcome State Fault Refusal} :
    NextKeeps s o ↔ ∃ t, o = .next t ∧ Keeps s t := by
  unfold NextKeeps
  exact Iff.rfl

theorem NextKeeps.mk {s t : State} (h : Keeps s t) : NextKeeps s (.next t) := nextKeeps_iff.2 ⟨t, rfl, h⟩

/-- What an opcode's rules answer keeps. -/
@[irreducible] def AnsKeeps (s : State) : Ans → Prop
  | .done t _ => Keeps s t
  | .doneThen t _ k => Keeps s t ∧ ∀ u, Keeps s u → Keeps s (k u)
  | .wait t _ => Keeps s t

theorem AnsKeeps.done_iff {s t : State} {p : Reply} : AnsKeeps s (.done t p) ↔ Keeps s t := by
  unfold AnsKeeps
  exact Iff.rfl

theorem AnsKeeps.wait_iff {s t : State} {p : List Nat} : AnsKeeps s (.wait t p) ↔ Keeps s t := by
  unfold AnsKeeps
  exact Iff.rfl

theorem AnsKeeps.doneThen_iff {s t : State} {p : Reply} {k : State → State} :
    AnsKeeps s (.doneThen t p k) ↔ Keeps s t ∧ ∀ u, Keeps s u → Keeps s (k u) := by
  unfold AnsKeeps
  exact Iff.rfl

theorem AnsKeeps.done {s t : State} {p : Reply} (h : Keeps s t) : AnsKeeps s (.done t p) := AnsKeeps.done_iff.2 h
theorem AnsKeeps.wait {s t : State} {p : List Nat} (h : Keeps s t) : AnsKeeps s (.wait t p) := AnsKeeps.wait_iff.2 h
theorem AnsKeeps.doneThen {s t : State} {p : Reply} {k : State → State} (h : Keeps s t)
    (hk : ∀ u, Keeps s u → Keeps s (k u)) : AnsKeeps s (.doneThen t p k) := AnsKeeps.doneThen_iff.2 ⟨h, hk⟩

theorem AnsKeeps.ite {s : State} {t u : Ans} {c : Prop} [Decidable c] (h : AnsKeeps s t) (k : AnsKeeps s u) :
    AnsKeeps s (if c then t else u) := by
  split
  · exact h
  · exact k

/-- The state in a pair keeps. -/
def FstKeeps {α : Type} (s : State) (x : State × α) : Prop := Keeps s x.1

theorem FstKeeps.mk {α : Type} {s t : State} {a : α} (h : Keeps s t) : FstKeeps s (t, a) := h
theorem FstKeeps.fst {α : Type} {s : State} {x : State × α} (h : FstKeeps s x) : Keeps s x.1 := h

theorem FstKeeps.ite {α : Type} {s : State} {t u : State × α} {c : Prop} [Decidable c] (h : FstKeeps s t)
    (k : FstKeeps s u) : FstKeeps s (if c then t else u) := by
  split
  · exact h
  · exact k

/-- The state in an option keeps. -/
def OptKeeps (s : State) (x : Option State) : Prop := ∀ t, x = some t → Keeps s t

theorem OptKeeps.none {s : State} : OptKeeps s none := fun _ h => nomatch h
theorem OptKeeps.some {s t : State} (h : Keeps s t) : OptKeeps s (some t) := fun _ e => Option.some.inj e ▸ h
theorem OptKeeps.get {s t : State} {x : Option State} (h : OptKeeps s x) (e : x = Option.some t) : Keeps s t := h t e
theorem OptKeeps.ite {s : State} {t u : Option State} {c : Prop} [Decidable c] (h : OptKeeps s t) (k : OptKeeps s u) :
    OptKeeps s (if c then t else u) := by
  split
  · exact h
  · exact k

end Sys2Proof
end

