-- ==== Sys2Proof/Laws/Keeps1.lean ====
section
/-! SUPPORT. That each operation of Ops to Rings keeps the queue, the free values, the canonical form and local time. -/

namespace Sys2Proof

open Sys2Proof.Machine

/-! ## Ops -/

theorem keeps_emit {σ : State} {s : State} {o : Out} (hk : Keeps σ s) : Keeps σ (emit s o) := by
  unfold emit
  try dsimp only
  repeat' first
    | with_reducible exact hk
    | with_reducible apply Keeps.out

theorem keeps_sendIrq {σ : State} {s : State} {v : Nat} (hk : Keeps σ s) : Keeps σ (sendIrq s v) := by
  unfold sendIrq
  try dsimp only
  repeat' first
    | with_reducible exact hk
    | with_reducible apply Keeps.ite
    | with_reducible apply Keeps.wr
    | with_reducible apply keeps_emit
    | ((with_reducible show offTime _ = true); rfl)

theorem keeps_evqPush {σ : State} {s : State} {q : Nat} {r : EvRec} (hk : Keeps σ s) : Keeps σ (evqPush s q r) := by
  unfold evqPush
  try dsimp only
  repeat' first
    | with_reducible exact hk
    | with_reducible exact Keeps.refl _
    | with_reducible exact id
    | with_reducible exact tabPut_wf _ _ _
    | with_reducible apply Keeps.ite
    | with_reducible apply Keeps.bump
    | with_reducible apply keeps_emit
    | with_reducible apply keeps_sendIrq
    | ((with_reducible show offTime _ = true); rfl)
    | split
    | with_reducible apply Keeps.record

theorem keeps_perfAdd {σ : State} {amount : Nat} {s : State} {n : Nat} (hk : Keeps σ s) : Keeps σ (perfAdd amount s n) := by
  unfold perfAdd
  try dsimp only
  repeat' first
    | with_reducible exact hk
    | with_reducible apply Keeps.ite
    | with_reducible apply Keeps.wr
    | with_reducible apply Keeps.wrs
    | ((with_reducible show offTime _ = true); rfl)
    | ((with_reducible show List.all _ _ = true); rfl)

theorem keeps_evqAll {σ : State} {s : State} {type : Nat} {source : Nat} {cls : Nat} {data : List Byte} (hk : Keeps σ s) : Keeps σ (evqAll s type source cls data) := by
  unfold evqAll
  try dsimp only
  repeat' first
    | with_reducible exact hk
    | with_reducible assumption
    | intro _
    | with_reducible apply Keeps.forEach
    | with_reducible apply keeps_evqPush

theorem keeps_counterRecord {σ : State} {s : State} {n : Nat} (hk : Keeps σ s) : Keeps σ (counterRecord s n) := by
  unfold counterRecord
  try dsimp only
  repeat' first
    | with_reducible exact hk
    | with_reducible apply Keeps.ite
    | with_reducible apply keeps_evqAll

theorem keeps_perf {σ : State} {s : State} {e : PerfEv} (hk : Keeps σ s) : Keeps σ (perf s e) := by
  unfold perf
  try dsimp only
  repeat' first
    | with_reducible exact hk
    | with_reducible assumption
    | intro _
    | with_reducible apply keeps_counterRecord
    | with_reducible apply keeps_perfAdd
    | with_reducible apply Keeps.foldl

theorem keeps_hostDma {σ : State} {s : State} (hk : Keeps σ s) : Keeps σ (hostDma s) := by
  unfold hostDma
  try dsimp only
  repeat' first
    | with_reducible exact hk
    | with_reducible apply Keeps.wr
    | ((with_reducible show offTime _ = true); rfl)

theorem keeps_event {σ : State} {s : State} {type : Nat} {source : Nat} {cls : Nat} {data : List Byte} (hk : Keeps σ s) : Keeps σ (event s type source cls data) := by
  unfold event
  try dsimp only
  repeat' first
    | with_reducible exact hk
    | with_reducible apply keeps_evqAll
    | with_reducible apply keeps_hostDma
    | with_reducible apply keeps_perf

theorem keeps_toHost {σ : State} {s : State} {addr : Nat} {bytes : List Byte} (hk : Keeps σ s) : Keeps σ (toHost s addr bytes) := by
  unfold toHost
  try dsimp only
  repeat' first
    | with_reducible exact hk
    | with_reducible apply Keeps.ite
    | with_reducible apply keeps_emit
    | with_reducible apply keeps_hostDma
    | with_reducible apply keeps_perf

theorem keeps_escCount {σ : State} {s : State} {rule : Option Nat} (hk : Keeps σ s) : Keeps σ (escCount s rule) := by
  unfold escCount
  try dsimp only
  repeat' first
    | with_reducible exact hk
    | with_reducible apply Keeps.ite
    | with_reducible apply Keeps.bump
    | with_reducible apply Keeps.wr
    | ((with_reducible show offTime _ = true); rfl)
    | split

theorem keeps_updFaultPin {σ : State} {s : State} (hk : Keeps σ s) : Keeps σ (updFaultPin s) := by
  unfold updFaultPin
  try dsimp only
  repeat' first
    | with_reducible exact hk
    | with_reducible apply Keeps.wr
    | ((with_reducible show offTime _ = true); rfl)

theorem keeps_faultLatch {σ : State} {s : State} {src : Nat} {cls : Nat} {esc : Bool} (hk : Keeps σ s) : Keeps σ (faultLatch s src cls esc) := by
  unfold faultLatch
  try dsimp only
  repeat' first
    | with_reducible exact hk
    | with_reducible apply Keeps.bump
    | with_reducible apply Keeps.wrs
    | ((with_reducible show offTime _ = true); rfl)
    | ((with_reducible show List.all _ _ = true); rfl)

theorem keeps_faultRecord {σ : State} {s : State} {src : Nat} {cls : Nat} {esc : Bool} {new : Bool} {rule : Option Nat} {detail : List Byte} (hk : Keeps σ s) : Keeps σ (faultRecord s src cls esc new rule detail) := by
  unfold faultRecord
  try dsimp only
  repeat' first
    | with_reducible exact hk
    | with_reducible apply Keeps.ite
    | with_reducible apply Keeps.wr
    | with_reducible apply keeps_event
    | ((with_reducible show offTime _ = true); rfl)

theorem keeps_recordFault {σ : State} {s : State} {src : Nat} {cls : Nat} {detail : List Byte} (hk : Keeps σ s) : Keeps σ (recordFault s src cls detail) := by
  unfold recordFault
  try dsimp only
  repeat' first
    | with_reducible exact hk
    | with_reducible apply keeps_escCount
    | with_reducible apply keeps_faultLatch
    | with_reducible apply keeps_faultRecord
    | with_reducible apply keeps_perf
    | with_reducible apply keeps_updFaultPin

theorem keeps_auditAppend {σ : State} {raise : State → State} {s : State} {type : Nat} {role : Nat} {cred : Nat} {handle : Nat} {opcode : Nat} {status : Nat} {detail : List Byte} (hk : Keeps σ s) (hraise : ∀ t, Keeps σ t → Keeps σ (raise t)) : Keeps σ (auditAppend raise s type role cred handle opcode status detail) := by
  unfold auditAppend
  try dsimp only
  repeat' first
    | with_reducible exact hk
    | with_reducible apply hraise
    | with_reducible apply Keeps.ite
    | with_reducible apply Keeps.bump
    | with_reducible apply Keeps.wr
    | ((with_reducible show offTime _ = true); rfl)
    | split
    | with_reducible apply Keeps.audit

theorem keeps_bootFirst {σ : State} {raise : State → State} {s : State} (hk : Keeps σ s) (hraise : ∀ t, Keeps σ t → Keeps σ (raise t)) : Keeps σ (bootFirst raise s) := by
  unfold bootFirst
  try dsimp only
  repeat' first
    | with_reducible exact hk
    | with_reducible apply hraise
    | with_reducible apply Keeps.ite
    | with_reducible apply Keeps.took
    | with_reducible apply keeps_auditAppend

theorem keeps_auditWith {σ : State} {raise : State → State} {s : State} {type : Nat} {role : Nat} {cred : Nat} {handle : Nat} {opcode : Nat} {status : Nat} {detail : List Byte} (hk : Keeps σ s) (hraise : ∀ t, Keeps σ t → Keeps σ (raise t)) : Keeps σ (auditWith raise s type role cred handle opcode status detail) := by
  unfold auditWith
  try dsimp only
  repeat' first
    | with_reducible exact hk
    | with_reducible apply hraise
    | with_reducible apply keeps_auditAppend
    | with_reducible apply keeps_bootFirst

theorem keeps_setRing {σ : State} {s : State} {r : Nat} {q : RingS} (hk : Keeps σ s) : Keeps σ (setRing s r q) := by
  unfold setRing
  try dsimp only
  repeat' first
    | with_reducible exact hk
    | with_reducible exact tabPut_wf _ _ _
    | with_reducible exact tabDel_wf _ _
    | split
    | with_reducible apply Keeps.rings

theorem keeps_cqPut {σ : State} {s : State} {r : Nat} {q : RingS} {c : Cpl} (hk : Keeps σ s) : Keeps σ (cqPut s r q c) := by
  unfold cqPut
  try dsimp only
  repeat' first
    | with_reducible exact hk
    | with_reducible apply Keeps.ite
    | with_reducible apply keeps_emit
    | with_reducible apply keeps_hostDma
    | with_reducible apply keeps_perf
    | with_reducible apply keeps_sendIrq
    | with_reducible apply keeps_setRing

theorem keeps_post {σ : State} {s : State} {r : Nat} {c : Cpl} (hk : Keeps σ s) : Keeps σ (post s r c) := by
  unfold post
  try dsimp only
  repeat' first
    | with_reducible exact hk
    | with_reducible apply Keeps.ite
    | with_reducible apply keeps_cqPut
    | with_reducible apply keeps_setRing

theorem keeps_drainCq {σ : State} {r n : Nat} : ∀ {s : State}, Keeps σ s → Keeps σ (drainCq s r n) := by
  induction n with
  | zero => exact fun h => h
  | succ n ih =>
    intro s h
    unfold drainCq
    dsimp only
    split
    · exact h
    · refine Keeps.ite h (ih ?_)
      exact keeps_cqPut h

theorem keeps_settleRing {σ : State} {s : State} {r : Nat} (hk : Keeps σ s) : Keeps σ (settleRing s r) := by
  unfold settleRing
  try dsimp only
  repeat' first
    | with_reducible exact hk
    | with_reducible apply Keeps.ite
    | with_reducible apply keeps_setRing

theorem keeps_countNonOk {σ : State} {s : State} {r : Nat} {p : Reply} (hk : Keeps σ s) : Keeps σ (countNonOk s r p) := by
  unfold countNonOk
  try dsimp only
  repeat' first
    | with_reducible exact hk
    | with_reducible apply keeps_setRing

theorem keeps_finishWith {σ : State} {raise : State → State} {s : State} {r : Nat} {a : Acc} {p : Reply} (hk : Keeps σ s) (hraise : ∀ t, Keeps σ t → Keeps σ (raise t)) : Keeps σ (finishWith raise s r a p) := by
  unfold finishWith
  try dsimp only
  repeat' first
    | with_reducible exact hk
    | with_reducible apply hraise
    | with_reducible apply Keeps.ite
    | with_reducible apply keeps_auditWith
    | with_reducible apply keeps_countNonOk
    | with_reducible apply keeps_perf
    | with_reducible apply keeps_post
    | with_reducible apply keeps_settleRing

theorem keeps_dropRun {σ : State} {s : State} {r : Nat} {tag : Nat} (hk : Keeps σ s) : Keeps σ (dropRun s r tag) := by
  unfold dropRun
  try dsimp only
  repeat' first
    | with_reducible exact hk
    | with_reducible apply Keeps.running

theorem keeps_popFront {σ : State} {s : State} {r : Nat} (hk : Keeps σ s) : Keeps σ (popFront s r) := by
  unfold popFront
  try dsimp only
  repeat' first
    | with_reducible exact hk
    | with_reducible apply Keeps.ite
    | with_reducible apply keeps_setRing

/-! ## Wait -/

theorem keeps_settleBarriers {σ : State} {raise : State → State} {s : State} (hk : Keeps σ s) (hraise : ∀ t, Keeps σ t → Keeps σ (raise t)) : Keeps σ (settleBarriers raise s) := by
  unfold settleBarriers
  try dsimp only
  repeat' first
    | with_reducible exact hk
    | with_reducible apply hraise
    | with_reducible assumption
    | intro _
    | with_reducible apply keeps_dropRun
    | with_reducible apply keeps_finishWith
    | with_reducible apply Keeps.foldl
    | split

theorem keeps_fin {σ : State} {R : Raise} {s : State} {r : Nat} {a : Acc} {p : Reply} (hk : Keeps σ s) (hR : ∀ a b c t, Keeps σ t → Keeps σ (R a b c t)) : Keeps σ (fin R s r a p) := by
  unfold fin
  try dsimp only
  repeat' first
    | with_reducible exact hk
    | with_reducible apply hR
    | with_reducible apply keeps_finishWith
    | with_reducible apply keeps_settleBarriers

theorem keeps_completeWhere {σ : State} {R : Raise} {p : Run → Bool} {reply : Reply} {s : State} (hk : Keeps σ s) (hR : ∀ a b c t, Keeps σ t → Keeps σ (R a b c t)) : Keeps σ (completeWhere R p reply s) := by
  unfold completeWhere
  try dsimp only
  repeat' first
    | with_reducible exact hk
    | with_reducible apply hR
    | with_reducible assumption
    | intro _
    | with_reducible apply keeps_dropRun
    | with_reducible apply keeps_fin
    | with_reducible apply Keeps.foldl

/-! ## Site -/

theorem keeps_toClear {σ : State} {s : State} {i : Nat} (hk : Keeps σ s) : Keeps σ (toClear s i) := by
  unfold toClear
  try dsimp only
  repeat' first
    | with_reducible exact hk
    | with_reducible apply Keeps.wrs
    | ((with_reducible show List.all _ _ = true); rfl)

theorem keeps_siteClear {σ : State} {s : State} {k : Nat} (hk : Keeps σ s) : Keeps σ (siteClear s k) := by
  unfold siteClear
  try dsimp only
  repeat' first
    | with_reducible exact hk
    | with_reducible assumption
    | intro _
    | with_reducible apply Keeps.forEach
    | with_reducible apply keeps_toClear

theorem keeps_htrLow {σ : State} {s : State} {k : Nat} (hk : Keeps σ s) : Keeps σ (htrLow s k) := by
  unfold htrLow
  try dsimp only
  repeat' first
    | with_reducible exact hk
    | with_reducible assumption
    | intro _
    | with_reducible apply Keeps.forEach
    | with_reducible apply Keeps.wrs
    | ((with_reducible show List.all _ _ = true); rfl)

theorem keeps_countClamp {σ : State} {R : Raise} {s : State} {k : Nat} (hk : Keeps σ s) (hR : ∀ a b c t, Keeps σ t → Keeps σ (R a b c t)) : Keeps σ (countClamp R s k) := by
  unfold countClamp
  try dsimp only
  repeat' first
    | with_reducible exact hk
    | with_reducible apply hR
    | with_reducible apply Keeps.bump
    | with_reducible apply Keeps.wr
    | with_reducible apply keeps_perf
    | ((with_reducible show offTime _ = true); rfl)

theorem keeps_moveOut {σ : State} {s : State} {i : Nat} {code : Nat} (hk : Keeps σ s) : Keeps σ (moveOut s i code) := by
  unfold moveOut
  try dsimp only
  repeat' first
    | with_reducible exact hk
    | with_reducible apply Keeps.ite
    | with_reducible apply Keeps.wr
    | with_reducible apply Keeps.wrs
    | ((with_reducible show offTime _ = true); rfl)
    | ((with_reducible show List.all _ _ = true); rfl)

theorem keeps_strobeChan {σ : State} {R : Raise} {landing : Bool} {again : Bool} {s : State} {k : Nat} {c : Nat} (hk : Keeps σ s) (hR : ∀ a b c t, Keeps σ t → Keeps σ (R a b c t)) : Keeps σ (strobeChan R landing again s k c) := by
  unfold strobeChan
  try dsimp only
  repeat' first
    | with_reducible exact hk
    | with_reducible apply hR
    | with_reducible apply Keeps.ite
    | with_reducible apply Keeps.wr
    | with_reducible apply keeps_countClamp
    | with_reducible apply keeps_moveOut
    | ((with_reducible show offTime _ = true); rfl)

theorem keeps_strobeHeater {σ : State} {R : Raise} {again : Bool} {s : State} {k : Nat} {h : Nat} (hk : Keeps σ s) (hR : ∀ a b c t, Keeps σ t → Keeps σ (R a b c t)) : Keeps σ (strobeHeater R again s k h) := by
  unfold strobeHeater
  try dsimp only
  repeat' first
    | with_reducible exact hk
    | with_reducible apply hR
    | with_reducible apply Keeps.ite
    | with_reducible apply Keeps.wr
    | with_reducible apply keeps_countClamp
    | ((with_reducible show offTime _ = true); rfl)

theorem keeps_strobe {σ : State} {R : Raise} {landing : Bool} {s : State} {k : Nat} (hk : Keeps σ s) (hR : ∀ a b c t, Keeps σ t → Keeps σ (R a b c t)) : Keeps σ (strobe R landing s k) := by
  unfold strobe
  try dsimp only
  repeat' first
    | with_reducible exact hk
    | with_reducible apply hR
    | with_reducible assumption
    | intro _
    | with_reducible apply Keeps.ite
    | with_reducible apply Keeps.bump
    | with_reducible apply Keeps.forEach
    | with_reducible apply Keeps.wr
    | with_reducible apply keeps_perf
    | with_reducible apply keeps_strobeChan
    | with_reducible apply keeps_strobeHeater
    | ((with_reducible show offTime _ = true); rfl)

theorem keeps_monSitePut {σ : State} {s : State} {k : Nat} {v : Nat} (hk : Keeps σ s) : Keeps σ (monSitePut s k v) := by
  unfold monSitePut
  try dsimp only
  repeat' first
    | with_reducible exact hk
    | with_reducible apply Keeps.wrs
    | ((with_reducible show List.all _ _ = true); rfl)

theorem keeps_monSiteTake {σ : State} {s : State} {k : Nat} (hk : Keeps σ s) : Keeps σ (monSiteTake s k) := by
  unfold monSiteTake
  try dsimp only
  repeat' first
    | with_reducible exact hk
    | with_reducible exact tabDel_wf _ _
    | with_reducible apply keeps_monSitePut
    | split
    | with_reducible apply Keeps.monSite

theorem keeps_monStop {σ : State} {R : Raise} {s : State} {k : Nat} (hk : Keeps σ s) (hR : ∀ a b c t, Keeps σ t → Keeps σ (R a b c t)) : Keeps σ (monStop R s k) := by
  unfold monStop
  try dsimp only
  repeat' first
    | with_reducible exact hk
    | with_reducible apply hR
    | with_reducible apply Keeps.wrs
    | with_reducible apply keeps_completeWhere
    | with_reducible apply keeps_monSiteTake
    | ((with_reducible show List.all _ _ = true); rfl)

theorem keeps_sqNow {σ : State} {s : State} {l : Nat} (hk : Keeps σ s) : Keeps σ (sqNow s l) := by
  unfold sqNow
  try dsimp only
  repeat' first
    | with_reducible exact hk
    | with_reducible apply Keeps.wr
    | ((with_reducible show offTime _ = true); rfl)

theorem keeps_sqSheaf {σ : State} {s : State} {k : Nat} (hk : Keeps σ s) : Keeps σ (sqSheaf s k) := by
  unfold sqSheaf
  try dsimp only
  repeat' first
    | with_reducible exact hk
    | with_reducible assumption
    | intro _
    | with_reducible apply Keeps.forEach
    | with_reducible apply keeps_sqNow

theorem keeps_siteToPads {σ : State} {R : Raise} {s : State} {k : Nat} {st : Nat} (hk : Keeps σ s) (hR : ∀ a b c t, Keeps σ t → Keeps σ (R a b c t)) : Keeps σ (siteToPads R s k st) := by
  unfold siteToPads
  try dsimp only
  repeat' first
    | with_reducible exact hk
    | with_reducible apply hR
    | with_reducible apply Keeps.wr
    | with_reducible apply keeps_htrLow
    | with_reducible apply keeps_monStop
    | with_reducible apply keeps_siteClear
    | with_reducible apply keeps_sqSheaf
    | ((with_reducible show offTime _ = true); rfl)

theorem keeps_siteHold {σ : State} {R : Raise} {s : State} {k : Nat} (hk : Keeps σ s) (hR : ∀ a b c t, Keeps σ t → Keeps σ (R a b c t)) : Keeps σ (siteHold R s k) := by
  unfold siteHold
  try dsimp only
  repeat' first
    | with_reducible exact hk
    | with_reducible apply hR
    | with_reducible apply Keeps.ite
    | with_reducible apply keeps_siteToPads

theorem keeps_laserRestore {σ : State} {R : Raise} {s : State} {k : Nat} {c : Nat} (hk : Keeps σ s) (hR : ∀ a b c t, Keeps σ t → Keeps σ (R a b c t)) : Keeps σ (laserRestore R s k c) := by
  unfold laserRestore
  try dsimp only
  repeat' first
    | with_reducible exact hk
    | with_reducible apply hR
    | with_reducible apply Keeps.ite
    | with_reducible apply Keeps.wr
    | with_reducible apply keeps_countClamp
    | with_reducible apply keeps_moveOut
    | ((with_reducible show offTime _ = true); rfl)

theorem keeps_setAls {σ : State} {R : Raise} {s : State} {l : Nat} {st : Nat} (hk : Keeps σ s) (hR : ∀ a b c t, Keeps σ t → Keeps σ (R a b c t)) : Keeps σ (setAls R s l st) := by
  unfold setAls
  try dsimp only
  repeat' first
    | with_reducible exact hk
    | with_reducible apply hR
    | with_reducible assumption
    | intro _
    | with_reducible apply Keeps.ite
    | with_reducible apply Keeps.bump
    | with_reducible apply Keeps.forEach
    | with_reducible apply Keeps.wr
    | with_reducible apply keeps_event
    | with_reducible apply keeps_laserRestore
    | with_reducible apply keeps_sqNow
    | with_reducible apply keeps_toClear
    | ((with_reducible show offTime _ = true); rfl)

/-! ## Lane -/

theorem keeps_setGen {σ : State} {s : State} {g : Nat} {c : GenCopy} (hk : Keeps σ s) : Keeps σ (setGen s g c) := by
  unfold setGen
  try dsimp only
  repeat' first
    | with_reducible exact hk
    | with_reducible apply Keeps.ite
    | with_reducible apply Keeps.gen0
    | with_reducible apply Keeps.gen1

theorem keeps_portZero {σ : State} {s : State} {p : Nat} (hk : Keeps σ s) : Keeps σ (portZero s p) := by
  unfold portZero
  try dsimp only
  repeat' first
    | with_reducible exact hk
    | with_reducible apply Keeps.wrs
    | ((with_reducible show List.all _ _ = true); rfl)

theorem keeps_portCut {σ : State} {s : State} {p : Nat} (hk : Keeps σ s) : Keeps σ (portCut s p) := by
  unfold portCut
  try dsimp only
  repeat' first
    | with_reducible exact hk
    | with_reducible apply Keeps.pkts

theorem keeps_perfLane {σ : State} {s : State} {l : Nat} {code : Nat} {qual : Nat} {amount : Nat} (hk : Keeps σ s) : Keeps σ (perfLane s l code qual amount) := by
  unfold perfLane
  try dsimp only
  repeat' first
    | with_reducible exact hk
    | with_reducible apply keeps_perf

theorem keeps_portEval {σ : State} {R : Raise} {held : Bool} {s : State} {p : Nat} (hk : Keeps σ s) (hR : ∀ a b c t, Keeps σ t → Keeps σ (R a b c t)) : Keeps σ (portEval R held s p) := by
  unfold portEval
  try dsimp only
  repeat' first
    | with_reducible exact hk
    | with_reducible apply hR
    | with_reducible apply Keeps.ite
    | with_reducible apply Keeps.bump
    | with_reducible apply Keeps.wr
    | with_reducible apply keeps_event
    | with_reducible apply keeps_portCut
    | with_reducible apply keeps_portZero
    | ((with_reducible show offTime _ = true); rfl)

theorem keeps_portOfLaneEval {σ : State} {R : Raise} {s : State} {l : Nat} (hk : Keeps σ s) (hR : ∀ a b c t, Keeps σ t → Keeps σ (R a b c t)) : Keeps σ (portOfLaneEval R s l) := by
  unfold portOfLaneEval
  try dsimp only
  repeat' first
    | with_reducible exact hk
    | with_reducible apply hR
    | with_reducible apply keeps_portEval
    | split

theorem keeps_sheafPortsEval {σ : State} {R : Raise} {held : Bool} {s : State} {sh : Nat} (hk : Keeps σ s) (hR : ∀ a b c t, Keeps σ t → Keeps σ (R a b c t)) : Keeps σ (sheafPortsEval R held s sh) := by
  unfold sheafPortsEval
  try dsimp only
  repeat' first
    | with_reducible exact hk
    | with_reducible apply hR
    | with_reducible assumption
    | intro _
    | with_reducible apply Keeps.forEach
    | with_reducible apply keeps_portEval

theorem keeps_rclkShow {σ : State} {s : State} {r : Nat} (hk : Keeps σ s) : Keeps σ (rclkShow s r) := by
  unfold rclkShow
  try dsimp only
  repeat' first
    | with_reducible exact hk
    | with_reducible apply Keeps.ite
    | with_reducible apply Keeps.wr
    | ((with_reducible show offTime _ = true); rfl)

theorem keeps_rclkBack {σ : State} {s : State} {l : Nat} (hk : Keeps σ s) : Keeps σ (rclkBack s l) := by
  unfold rclkBack
  try dsimp only
  repeat' first
    | with_reducible exact hk
    | with_reducible assumption
    | intro _
    | with_reducible apply Keeps.ite
    | with_reducible apply Keeps.forEach
    | with_reducible apply Keeps.wr
    | with_reducible apply keeps_rclkShow
    | ((with_reducible show offTime _ = true); rfl)

theorem keeps_freeBuf {σ : State} {s : State} {l : Nat} (hk : Keeps σ s) : Keeps σ (freeBuf s l) := by
  unfold freeBuf
  try dsimp only
  repeat' first
    | with_reducible exact hk
    | with_reducible assumption
    | intro _
    | with_reducible apply Keeps.forEach
    | with_reducible apply Keeps.took
    | with_reducible apply Keeps.wr
    | ((with_reducible show offTime _ = true); rfl)

theorem keeps_captureAbort {σ : State} {s : State} {l : Nat} (hk : Keeps σ s) : Keeps σ (captureAbort s l) := by
  unfold captureAbort
  try dsimp only
  repeat' first
    | with_reducible exact hk
    | with_reducible apply Keeps.ite
    | with_reducible apply Keeps.wr
    | with_reducible apply keeps_freeBuf
    | ((with_reducible show offTime _ = true); rfl)

theorem keeps_stopWake {σ : State} {R : Raise} {l : Nat} {reason : Nat} {count : Option Nat} {s : State} (hk : Keeps σ s) (hR : ∀ a b c t, Keeps σ t → Keeps σ (R a b c t)) : Keeps σ (stopWake R l reason count s) := by
  unfold stopWake
  try dsimp only
  repeat' first
    | with_reducible exact hk
    | with_reducible apply hR
    | with_reducible exact Keeps.refl _
    | with_reducible exact id
    | with_reducible apply Keeps.ite
    | with_reducible apply Keeps.wr
    | with_reducible apply Keeps.bumpBy
    | with_reducible apply Keeps.took
    | with_reducible apply keeps_dropRun
    | with_reducible apply keeps_emit
    | with_reducible apply keeps_fin
    | ((with_reducible show offTime _ = true); rfl)
    | split
    | with_reducible apply Keeps.record

theorem keeps_stopWakes {σ : State} {R : Raise} {ls : List Nat} {reason : Nat} {s : State} (hk : Keeps σ s) (hR : ∀ a b c t, Keeps σ t → Keeps σ (R a b c t)) : Keeps σ (stopWakes R ls reason s) := by
  unfold stopWakes
  try dsimp only
  repeat' first
    | with_reducible exact hk
    | with_reducible apply hR
    | with_reducible assumption
    | intro _
    | with_reducible apply Keeps.forEach
    | with_reducible apply keeps_stopWake

theorem keeps_windowReset {σ : State} {s : State} {l : Nat} (hk : Keeps σ s) : Keeps σ (windowReset s l) := by
  unfold windowReset
  try dsimp only
  repeat' first
    | with_reducible exact hk
    | with_reducible apply Keeps.wrs
    | ((with_reducible show List.all _ _ = true); rfl)

theorem keeps_rxUnlock {σ : State} {s : State} {l : Nat} (hk : Keeps σ s) : Keeps σ (rxUnlock s l) := by
  unfold rxUnlock
  try dsimp only
  repeat' first
    | with_reducible exact hk
    | with_reducible apply Keeps.wrs
    | with_reducible apply keeps_windowReset
    | ((with_reducible show List.all _ _ = true); rfl)

theorem keeps_holdTime {σ : State} {s : State} {l : Nat} {st : Nat} (hk : Keeps σ s) : Keeps σ (holdTime s l st) := by
  unfold holdTime
  try dsimp only
  repeat' first
    | with_reducible exact hk
    | with_reducible apply Keeps.ite
    | with_reducible apply Keeps.bumpBy
    | with_reducible apply Keeps.wr
    | ((with_reducible show offTime _ = true); rfl)

theorem keeps_setLane {σ : State} {R : Raise} {s : State} {l : Nat} {st : Nat} {reason : Nat} (hk : Keeps σ s) (hR : ∀ a b c t, Keeps σ t → Keeps σ (R a b c t)) : Keeps σ (setLane R s l st reason) := by
  unfold setLane
  try dsimp only
  repeat' first
    | with_reducible exact hk
    | with_reducible apply hR
    | with_reducible apply Keeps.ite
    | with_reducible apply Keeps.wr
    | with_reducible apply keeps_captureAbort
    | with_reducible apply keeps_event
    | with_reducible apply keeps_holdTime
    | with_reducible apply keeps_perfLane
    | with_reducible apply keeps_portOfLaneEval
    | with_reducible apply keeps_rclkBack
    | with_reducible apply keeps_rxUnlock
    | with_reducible apply keeps_setAls
    | with_reducible apply keeps_sqNow
    | with_reducible apply keeps_stopWake
    | ((with_reducible show offTime _ = true); rfl)

theorem keeps_putShape {σ : State} {s : State} {l : Nat} {taps : List Int} {lut : List Int} (hk : Keeps σ s) : Keeps σ (putShape s l taps lut) := by
  unfold putShape
  try dsimp only
  repeat' first
    | with_reducible exact hk
    | with_reducible assumption
    | intro _
    | with_reducible apply Keeps.forEach
    | with_reducible apply Keeps.wr
    | ((with_reducible show offTime _ = true); rfl)

theorem keeps_applyFixed {σ : State} {s : State} {l : Nat} (hk : Keeps σ s) : Keeps σ (applyFixed s l) := by
  unfold applyFixed
  try dsimp only
  repeat' first
    | with_reducible exact hk
    | with_reducible apply Keeps.ite
    | with_reducible apply Keeps.wr
    | with_reducible apply keeps_putShape
    | ((with_reducible show offTime _ = true); rfl)

theorem keeps_reloadShape {σ : State} {s : State} {l : Nat} (hk : Keeps σ s) : Keeps σ (reloadShape s l) := by
  unfold reloadShape
  try dsimp only
  repeat' first
    | with_reducible exact hk
    | with_reducible apply Keeps.ite
    | with_reducible apply Keeps.wr
    | with_reducible apply keeps_applyFixed
    | with_reducible apply keeps_putShape
    | ((with_reducible show offTime _ = true); rfl)

theorem keeps_clearTraining {σ : State} {s : State} {l : Nat} (hk : Keeps σ s) : Keeps σ (clearTraining s l) := by
  unfold clearTraining
  try dsimp only
  repeat' first
    | with_reducible exact hk
    | with_reducible exact Keeps.refl _
    | with_reducible exact id
    | with_reducible exact tabDel_wf _ _
    | with_reducible apply Keeps.wrs
    | ((with_reducible show List.all _ _ = true); rfl)
    | with_reducible apply Keeps.record

theorem keeps_txBoundary {σ : State} {s : State} {l : Nat} (hk : Keeps σ s) : Keeps σ (txBoundary s l) := by
  unfold txBoundary
  try dsimp only
  repeat' first
    | with_reducible exact hk
    | with_reducible exact tabDel_wf _ _
    | with_reducible apply Keeps.ite
    | with_reducible apply Keeps.wr
    | with_reducible apply Keeps.wrs
    | with_reducible apply keeps_applyFixed
    | with_reducible apply keeps_putShape
    | ((with_reducible show offTime _ = true); rfl)
    | ((with_reducible show List.all _ _ = true); rfl)
    | split
    | with_reducible apply Keeps.shapes

theorem keeps_trnEmit {σ : State} {s : State} {l : Nat} {type : Nat} {seq : Nat} {body : List Byte} (hk : Keeps σ s) : Keeps σ (trnEmit s l type seq body) := by
  unfold trnEmit
  try dsimp only
  repeat' first
    | with_reducible exact hk
    | with_reducible apply Keeps.ite
    | with_reducible apply Keeps.took
    | with_reducible apply Keeps.wr
    | with_reducible apply keeps_emit
    | with_reducible apply keeps_txBoundary
    | ((with_reducible show offTime _ = true); rfl)

theorem keeps_trnAcquire {σ : State} {s : State} {l : Nat} (hk : Keeps σ s) : Keeps σ (trnAcquire s l) := by
  unfold trnAcquire
  try dsimp only
  repeat' first
    | with_reducible exact hk
    | with_reducible apply Keeps.ite
    | with_reducible apply keeps_trnEmit

theorem keeps_startFor {σ : State} {R : Raise} {s : State} {l : Nat} {n : Nat} {reason : Nat} (hk : Keeps σ s) (hR : ∀ a b c t, Keeps σ t → Keeps σ (R a b c t)) : Keeps σ (startFor R s l n reason) := by
  unfold startFor
  try dsimp only
  repeat' first
    | with_reducible exact hk
    | with_reducible apply hR
    | with_reducible apply Keeps.bump
    | with_reducible apply Keeps.wrs
    | with_reducible apply keeps_clearTraining
    | with_reducible apply keeps_reloadShape
    | with_reducible apply keeps_rxUnlock
    | with_reducible apply keeps_setLane
    | with_reducible apply keeps_trnAcquire
    | ((with_reducible show offTime _ = true); rfl)
    | ((with_reducible show List.all _ _ = true); rfl)

theorem keeps_startAttempt {σ : State} {R : Raise} {s : State} {l : Nat} {n : Nat} (hk : Keeps σ s) (hR : ∀ a b c t, Keeps σ t → Keeps σ (R a b c t)) : Keeps σ (startAttempt R s l n) := by
  unfold startAttempt
  try dsimp only
  repeat' first
    | with_reducible exact hk
    | with_reducible apply hR
    | with_reducible apply keeps_startFor

theorem keeps_failAttempt {σ : State} {R : Raise} {s : State} {l : Nat} {reason : Nat} (hk : Keeps σ s) (hR : ∀ a b c t, Keeps σ t → Keeps σ (R a b c t)) : Keeps σ (failAttempt R s l reason) := by
  unfold failAttempt
  try dsimp only
  repeat' first
    | with_reducible exact hk
    | with_reducible apply hR
    | with_reducible apply Keeps.ite
    | with_reducible apply Keeps.bump
    | with_reducible apply Keeps.wr
    | with_reducible apply Keeps.wrs
    | with_reducible apply keeps_clearTraining
    | with_reducible apply keeps_setLane
    | ((with_reducible show offTime _ = true); rfl)
    | ((with_reducible show List.all _ _ = true); rfl)

theorem keeps_adaptAfe {σ : State} {s : State} {l : Nat} (hk : Keeps σ s) : Keeps σ (adaptAfe s l) := by
  unfold adaptAfe
  try dsimp only
  repeat' first
    | with_reducible exact hk
    | with_reducible apply Keeps.ite
    | with_reducible apply Keeps.took
    | with_reducible apply Keeps.wr
    | ((with_reducible show offTime _ = true); rfl)

theorem keeps_putTaps {σ : State} {s : State} {l : Nat} {taps : List Nat} {h1 : Nat} (hk : Keeps σ s) : Keeps σ (putTaps s l taps h1) := by
  unfold putTaps
  try dsimp only
  repeat' first
    | with_reducible exact hk
    | with_reducible assumption
    | intro _
    | with_reducible apply Keeps.forEach
    | with_reducible apply Keeps.wr
    | ((with_reducible show offTime _ = true); rfl)

theorem keeps_adaptFfe {σ : State} {s : State} {l : Nat} (hk : Keeps σ s) : Keeps σ (adaptFfe s l) := by
  unfold adaptFfe
  try dsimp only
  repeat' first
    | with_reducible exact hk
    | with_reducible apply Keeps.ite
    | with_reducible apply Keeps.took
    | with_reducible apply keeps_putTaps

theorem keeps_adaptEqs {σ : State} {s : State} {l : Nat} (hk : Keeps σ s) : Keeps σ (adaptEqs s l) := by
  unfold adaptEqs
  try dsimp only
  repeat' first
    | with_reducible exact hk
    | with_reducible exact tabPut_wf _ _ _
    | with_reducible apply Keeps.ite
    | with_reducible apply Keeps.took
    | with_reducible apply Keeps.eqs

theorem keeps_adaptCdr {σ : State} {s : State} {l : Nat} (hk : Keeps σ s) : Keeps σ (adaptCdr s l) := by
  unfold adaptCdr
  try dsimp only
  repeat' first
    | with_reducible exact hk
    | with_reducible apply Keeps.ite
    | with_reducible apply Keeps.took
    | with_reducible apply Keeps.wr
    | ((with_reducible show offTime _ = true); rfl)

theorem keeps_clipTx {σ : State} {s : State} {l : Nat} (hk : Keeps σ s) : Keeps σ (clipTx s l) := by
  unfold clipTx
  try dsimp only
  repeat' first
    | with_reducible exact hk
    | with_reducible apply Keeps.ite
    | with_reducible apply Keeps.took
    | with_reducible apply Keeps.bumpBy
    | ((with_reducible show offTime _ = true); rfl)

theorem keeps_adaptAll {σ : State} {s : State} {l : Nat} (hk : Keeps σ s) : Keeps σ (adaptAll s l) := by
  unfold adaptAll
  try dsimp only
  repeat' first
    | with_reducible exact hk
    | with_reducible apply keeps_adaptAfe
    | with_reducible apply keeps_adaptCdr
    | with_reducible apply keeps_adaptEqs
    | with_reducible apply keeps_adaptFfe

theorem keeps_bankLoad {σ : State} {s : State} {l : Nat} {b : Bank} (hk : Keeps σ s) : Keeps σ (bankLoad s l b) := by
  unfold bankLoad
  try dsimp only
  repeat' first
    | with_reducible exact hk
    | with_reducible exact tabPut_wf _ _ _
    | with_reducible apply Keeps.ite
    | with_reducible apply Keeps.wrs
    | with_reducible apply keeps_putTaps
    | ((with_reducible show List.all _ _ = true); rfl)
    | with_reducible apply Keeps.eqs

theorem keeps_failLane {σ : State} {R : Raise} {s : State} {l : Nat} (hk : Keeps σ s) (hR : ∀ a b c t, Keeps σ t → Keeps σ (R a b c t)) : Keeps σ (failLane R s l) := by
  unfold failLane
  try dsimp only
  repeat' first
    | with_reducible exact hk
    | with_reducible apply hR
    | with_reducible apply Keeps.wrs
    | with_reducible apply keeps_clearTraining
    | with_reducible apply keeps_setLane
    | ((with_reducible show List.all _ _ = true); rfl)

/-! ## Dom -/

/-- A field that holds local time stands for itself, and for no counter. -/
theorem ownKey_time {k : Key} (h : timeIds.contains k.1 = true) : ownKey k = k := by
  unfold ownKey
  rcases timeIds_cases h with e | e | e | e <;> rw [e] <;> rfl

theorem keyOf_time {l : List Fld} (hl : (l.all offTime) = true) {k : Key} (h : timeIds.contains k.1 = true) :
    keyOf l k = false := by
  unfold keyOf
  rw [ownKey_time h]
  exact any_offTime hl h

theorem keeps_resetUnit {σ s : State} {rs : List RegSpec} {keep : List Fld} {per u : Nat} (hk : Keeps σ s)
    (hr : (rs.all fun r => r.flds.all offTime) = true) : Keeps σ (resetUnit s rs keep per u) := by
  refine hk.filterRegs fun e he => ?_
  have : inUnit rs keep per u e.1 = false := by
    rw [Bool.eq_false_iff]
    intro hu
    unfold inUnit at hu
    rw [Bool.and_eq_true] at hu
    obtain ⟨r, hr1, hr2⟩ := List.any_eq_true.1 hu.1
    rw [keyOf_time (List.all_eq_true.1 hr r hr1) he] at hr2
    simp at hr2
  rw [this]
  rfl

theorem keeps_resetLaneHidden {σ s : State} {sh : Nat} (hk : Keeps σ s) : Keeps σ (resetLaneHidden s sh) := by
  refine hk.filterRegs fun e he => ?_
  rw [any_offTime (l := laneHidden) rfl he]
  simp

theorem keeps_resetLaneTabs {σ : State} {s : State} {sh : Nat} (hk : Keeps σ s) : Keeps σ (resetLaneTabs s sh) := by
  unfold resetLaneTabs
  try dsimp only
  repeat' first
    | with_reducible exact hk
    | with_reducible exact Keeps.refl _
    | with_reducible exact id
    | with_reducible exact filter_wf _ _
    | with_reducible apply Keeps.record

theorem keeps_resetSheaf {σ : State} {R : Raise} {s : State} {sh : Nat} {keep : List Fld} (hk : Keeps σ s)
    (hR : ∀ a b c t, Keeps σ t → Keeps σ (R a b c t)) : Keeps σ (resetSheaf R s sh keep) := by
  unfold resetSheaf
  dsimp only
  have h0 := keeps_stopWakes (ls := sheafLanes sh) (reason := 3) hk hR
  have h1 := keeps_resetUnit (keep := keep ++ [SHF_LANE_STAT.STATE, SHF_RX_SLICE.STATE, SHF_RX_SLICE.FAIL,
    SHF_RX_SLICE.POS, SHF_RX_ADC.FAILED, SHF_TX_STAT.ALS]) (per := 1) (u := sh) h0 (rs := regsSHF) rfl
  have h2 := keeps_resetUnit (keep := [PRT_STAT.STATE]) (per := 8) (u := sh) h1 (rs := regsPRT) rfl
  exact keeps_resetLaneTabs (keeps_resetLaneHidden h2)

theorem keeps_resetGallery {σ : State} {s : State} {g : Nat} (hk : Keeps σ s) : Keeps σ (resetGallery s g) := by
  unfold resetGallery
  try dsimp only
  repeat' first
    | with_reducible exact hk
    | with_reducible apply keeps_resetUnit
    | ((with_reducible show List.all _ _ = true); rfl)

theorem keeps_resetCorridor {σ s : State} {c : Nat} (hk : Keeps σ s) : Keeps σ (resetCorridor s c) := by
  unfold resetCorridor
  dsimp only
  have h1 := keeps_resetUnit (rs := [reg_DDL_STAT, reg_DDL_RX_CFG, reg_DDL_CNT]) (keep := []) (per := 1) (u := c) hk rfl
  have h2 := keeps_resetUnit (rs := [reg_DDL_LANE]) (keep := []) (per := 2) (u := c) h1 rfl
  refine (h2.filterRegs fun e he => ?_).errTicks (filter_wf _ _)
  rw [any_offTime (l := [HID.DDL_WANT, HID.DDL_MISS]) rfl he,
    any_offTime (l := [HID.DDL_FROM, HID.DDL_TO, HID.DDL_GROUPS, HID.DDL_RETRY]) rfl he]
  simp

theorem keeps_resetDrive {σ : State} {s : State} {k : Nat} (hk : Keeps σ s) : Keeps σ (resetDrive s k) := by
  unfold resetDrive
  try dsimp only
  repeat' first
    | with_reducible exact hk
    | with_reducible assumption
    | with_reducible exact Keeps.refl _
    | with_reducible exact id
    | with_reducible exact filter_wf _ _
    | intro _
    | with_reducible apply Keeps.unwr
    | with_reducible apply Keeps.forEach
    | with_reducible apply Keeps.wr
    | with_reducible apply keeps_htrLow
    | with_reducible apply keeps_resetUnit
    | ((with_reducible show offTime _ = true); rfl)
    | ((with_reducible show List.all _ _ = true); rfl)
    | with_reducible apply Keeps.record

theorem keeps_domAccum {σ : State} {s : State} {d : Nat} (hk : Keeps σ s) : Keeps σ (domAccum s d) := by
  unfold domAccum
  try dsimp only
  repeat' first
    | with_reducible exact hk
    | with_reducible apply Keeps.wrs
    | ((with_reducible show List.all _ _ = true); rfl)

theorem keeps_bumpEntry {σ : State} {s : State} {d : Nat} {st : Nat} (hk : Keeps σ s) : Keeps σ (bumpEntry s d st) := by
  unfold bumpEntry
  try dsimp only
  repeat' first
    | with_reducible exact hk
    | with_reducible apply Keeps.ite
    | with_reducible apply Keeps.wr
    | ((with_reducible show offTime _ = true); rfl)

theorem keeps_domEvent {σ : State} {s : State} {d : Nat} {old : Nat} {new : Nat} {cause : Nat} (hk : Keeps σ s) : Keeps σ (domEvent s d old new cause) := by
  unfold domEvent
  try dsimp only
  repeat' first
    | with_reducible exact hk
    | with_reducible apply keeps_event

theorem keeps_setDomSt {σ : State} {s : State} {d : Nat} {st : Nat} (hk : Keeps σ s) : Keeps σ (setDomSt s d st) := by
  unfold setDomSt
  try dsimp only
  repeat' first
    | with_reducible exact hk
    | with_reducible apply Keeps.wr
    | with_reducible apply keeps_bumpEntry
    | with_reducible apply keeps_domAccum
    | with_reducible apply keeps_domEvent
    | ((with_reducible show offTime _ = true); rfl)

theorem keeps_sheafSleep {σ : State} {R : Raise} {s : State} {sh : Nat} {st : Nat} (hk : Keeps σ s) (hR : ∀ a b c t, Keeps σ t → Keeps σ (R a b c t)) : Keeps σ (sheafSleep R s sh st) := by
  unfold sheafSleep
  try dsimp only
  repeat' first
    | with_reducible exact hk
    | with_reducible apply hR
    | with_reducible assumption
    | intro _
    | with_reducible apply Keeps.ite
    | with_reducible apply Keeps.forEach
    | with_reducible apply Keeps.wr
    | with_reducible apply Keeps.wrs
    | with_reducible apply keeps_clearTraining
    | with_reducible apply keeps_setLane
    | ((with_reducible show offTime _ = true); rfl)
    | ((with_reducible show List.all _ _ = true); rfl)

theorem keeps_synthStart {σ : State} {s : State} {sh : Nat} (hk : Keeps σ s) : Keeps σ (synthStart s sh) := by
  unfold synthStart
  try dsimp only
  repeat' first
    | with_reducible exact hk
    | with_reducible apply Keeps.ite
    | with_reducible apply Keeps.wr
    | with_reducible apply Keeps.wrs
    | ((with_reducible show offTime _ = true); rfl)
    | ((with_reducible show List.all _ _ = true); rfl)

theorem keeps_sheafWake {σ : State} {R : Raise} {s : State} {sh : Nat} {old : Nat} (hk : Keeps σ s) (hR : ∀ a b c t, Keeps σ t → Keeps σ (R a b c t)) : Keeps σ (sheafWake R s sh old) := by
  unfold sheafWake
  try dsimp only
  repeat' first
    | with_reducible exact hk
    | with_reducible apply hR
    | with_reducible assumption
    | intro _
    | with_reducible apply Keeps.ite
    | with_reducible apply Keeps.forEach
    | with_reducible apply Keeps.wr
    | with_reducible apply keeps_resetSheaf
    | with_reducible apply keeps_startAttempt
    | with_reducible apply keeps_synthStart
    | ((with_reducible show offTime _ = true); rfl)

theorem keeps_eraseSaks {σ : State} {s : State} {j : Nat} (hk : Keeps σ s) : Keeps σ (eraseSaks s j) := by
  unfold eraseSaks
  try dsimp only
  repeat' first
    | with_reducible exact hk
    | with_reducible exact Keeps.refl _
    | with_reducible exact id
    | with_reducible exact filter_wf _ _
    | intro _
    | ((with_reducible show (!_) = true); rw [beq_offTime' (f := MSC_SA.VALID) rfl ‹_›]; simp)
    | with_reducible apply Keeps.filterRegs
    | with_reducible apply Keeps.record

theorem keeps_domSleep {σ : State} {R : Raise} {s : State} {d : Nat} {st : Nat} (hk : Keeps σ s) (hR : ∀ a b c t, Keeps σ t → Keeps σ (R a b c t)) : Keeps σ (domSleep R s d st) := by
  unfold domSleep
  try dsimp only
  repeat' first
    | with_reducible exact hk
    | with_reducible apply hR
    | with_reducible assumption
    | with_reducible exact filter_wf _ _
    | intro _
    | with_reducible apply Keeps.ite
    | with_reducible apply Keeps.forEach
    | with_reducible apply Keeps.wr
    | with_reducible apply Keeps.wrs
    | with_reducible apply keeps_eraseSaks
    | with_reducible apply keeps_monStop
    | with_reducible apply keeps_resetUnit
    | with_reducible apply keeps_sheafSleep
    | with_reducible apply keeps_sqSheaf
    | ((with_reducible show offTime _ = true); rfl)
    | ((with_reducible show List.all _ _ = true); rfl)
    | split
    | with_reducible apply Keeps.chains

theorem keeps_domWake {σ : State} {R : Raise} {s : State} {d : Nat} {old : Nat} (hk : Keeps σ s) (hR : ∀ a b c t, Keeps σ t → Keeps σ (R a b c t)) : Keeps σ (domWake R s d old) := by
  unfold domWake
  try dsimp only
  repeat' first
    | with_reducible exact hk
    | with_reducible apply Keeps.wrs
    | ((with_reducible show List.all _ _ = true); rfl)
    | with_reducible apply hR
    | with_reducible assumption
    | intro _
    | with_reducible apply Keeps.ite
    | with_reducible apply Keeps.forEach
    | with_reducible apply Keeps.wr
    | with_reducible apply keeps_resetDrive
    | with_reducible apply keeps_resetGallery
    | with_reducible apply keeps_sheafWake
    | ((with_reducible show offTime _ = true); rfl)
    | split

theorem keeps_corStart {σ : State} {s : State} {c : Nat} (hk : Keeps σ s) : Keeps σ (corStart s c) := by
  unfold corStart
  try dsimp only
  repeat' first
    | with_reducible exact hk
    | with_reducible apply Keeps.wr
    | with_reducible apply Keeps.wrs
    | ((with_reducible show offTime _ = true); rfl)
    | ((with_reducible show List.all _ _ = true); rfl)

theorem keeps_wakeAgain {σ : State} {s : State} {d : Nat} {cause : Nat} (hk : Keeps σ s) : Keeps σ (wakeAgain s d cause) := by
  unfold wakeAgain
  try dsimp only
  repeat' first
    | with_reducible exact hk
    | with_reducible apply Keeps.ite
    | with_reducible apply Keeps.wr
    | ((with_reducible show offTime _ = true); rfl)

theorem keeps_domMove {σ : State} {s : State} {d : Nat} {st : Nat} {cause : Nat} (hk : Keeps σ s) : Keeps σ (domMove s d st cause) := by
  unfold domMove
  try dsimp only
  repeat' first
    | with_reducible exact hk
    | with_reducible apply Keeps.ite
    | with_reducible apply Keeps.wr
    | with_reducible apply Keeps.wrs
    | with_reducible apply keeps_corStart
    | with_reducible apply keeps_resetCorridor
    | with_reducible apply keeps_wakeAgain
    | ((with_reducible show offTime _ = true); rfl)
    | ((with_reducible show List.all _ _ = true); rfl)

theorem keeps_holdDom {σ : State} {R : Raise} {s : State} {d : Nat} {held : Nat} (hk : Keeps σ s) (hR : ∀ a b c t, Keeps σ t → Keeps σ (R a b c t)) : Keeps σ (holdDom R s d held) := by
  unfold holdDom
  try dsimp only
  repeat' first
    | with_reducible exact hk
    | with_reducible apply hR
    | with_reducible apply Keeps.ite
    | with_reducible apply Keeps.wr
    | with_reducible apply Keeps.wrs
    | with_reducible apply keeps_domSleep
    | with_reducible apply keeps_setDomSt
    | ((with_reducible show offTime _ = true); rfl)
    | ((with_reducible show List.all _ _ = true); rfl)

theorem keeps_cutStacks {σ : State} {s : State} (hk : Keeps σ s) : Keeps σ (cutStacks s) := by
  unfold cutStacks
  try dsimp only
  repeat' first
    | with_reducible exact hk
    | with_reducible apply Keeps.ite
    | with_reducible apply Keeps.wr
    | with_reducible apply Keeps.wrFrom
    | ((with_reducible show offTime _ = true); rfl)

theorem keeps_holdCorridor {σ : State} {R : Raise} {s : State} {c : Nat} (hk : Keeps σ s) (hR : ∀ a b c t, Keeps σ t → Keeps σ (R a b c t)) : Keeps σ (holdCorridor R s c) := by
  unfold holdCorridor
  try dsimp only
  repeat' first
    | with_reducible exact hk
    | with_reducible apply hR
    | with_reducible assumption
    | intro _
    | with_reducible apply Keeps.forEach
    | with_reducible apply Keeps.wrs
    | with_reducible apply keeps_cutStacks
    | with_reducible apply keeps_holdDom
    | ((with_reducible show List.all _ _ = true); rfl)

/-! ## Spare -/

theorem keeps_sliceOff {σ : State} {s : State} {cls : Nat} {k2 : Nat} (hk : Keeps σ s) : Keeps σ (sliceOff s cls k2) := by
  unfold sliceOff
  try dsimp only
  repeat' first
    | with_reducible exact hk
    | with_reducible exact tabDel_wf _ _
    | with_reducible apply Keeps.wrs
    | ((with_reducible show List.all _ _ = true); rfl)
    | with_reducible apply Keeps.slices

theorem keeps_sliceRestore {σ : State} {s : State} {cls : Nat} {k2 : Nat} (hk : Keeps σ s) : Keeps σ (sliceRestore s cls k2) := by
  unfold sliceRestore
  try dsimp only
  repeat' first
    | with_reducible exact hk
    | with_reducible apply Keeps.ite
    | with_reducible apply Keeps.wr
    | with_reducible apply Keeps.wrs
    | ((with_reducible show offTime _ = true); rfl)
    | ((with_reducible show List.all _ _ = true); rfl)
    | split

theorem keeps_abortSlice {σ : State} {R : Raise} {s : State} {cls : Nat} {k2 : Nat} (hk : Keeps σ s) (hR : ∀ a b c t, Keeps σ t → Keeps σ (R a b c t)) : Keeps σ (abortSlice R s cls k2) := by
  unfold abortSlice
  try dsimp only
  repeat' first
    | with_reducible exact hk
    | with_reducible apply Keeps.wr
    | ((with_reducible show offTime _ = true); rfl)
    | with_reducible apply hR
    | with_reducible apply Keeps.bump
    | with_reducible apply keeps_completeWhere
    | with_reducible apply keeps_sliceOff
    | with_reducible apply keeps_sliceRestore
    | ((with_reducible show offTime _ = true); rfl)
    | split

theorem keeps_countDrop {σ : State} {s : State} {g : Nat} {code : Nat} {n : Nat} (hk : Keeps σ s) : Keeps σ (countDrop s g code n) := by
  unfold countDrop
  try dsimp only
  repeat' first
    | with_reducible exact hk
    | with_reducible apply Keeps.bumpBy
    | ((with_reducible show offTime _ = true); rfl)

theorem keeps_dropInGallery {σ : State} {s : State} {g : Nat} {code : Nat} (hk : Keeps σ s) : Keeps σ (dropInGallery s g code) := by
  unfold dropInGallery
  try dsimp only
  repeat' first
    | with_reducible exact hk
    | with_reducible apply Keeps.ite
    | with_reducible apply keeps_countDrop
    | with_reducible apply Keeps.pkts

theorem keeps_assignBoth {σ : State} {s : State} {sh : Nat} {g : Option Nat} (hk : Keeps σ s) : Keeps σ (assignBoth s sh g) := by
  unfold assignBoth
  try dsimp only
  repeat' first
    | with_reducible exact hk
    | with_reducible exact Keeps.refl _
    | with_reducible exact id
    | with_reducible apply Keeps.record

theorem keeps_galTake {σ : State} {R : Raise} {s : State} {sh : Nat} {g : Nat} (hk : Keeps σ s) (hR : ∀ a b c t, Keeps σ t → Keeps σ (R a b c t)) : Keeps σ (galTake R s sh g) := by
  unfold galTake
  try dsimp only
  repeat' first
    | with_reducible exact hk
    | with_reducible apply hR
    | with_reducible apply Keeps.ite
    | with_reducible apply Keeps.bump
    | with_reducible apply Keeps.wrs
    | with_reducible apply keeps_abortSlice
    | with_reducible apply keeps_assignBoth
    | ((with_reducible show offTime _ = true); rfl)
    | ((with_reducible show List.all _ _ = true); rfl)

theorem keeps_galSwap {σ : State} {R : Raise} {s : State} {sh : Nat} {d : Nat} (hk : Keeps σ s) (hR : ∀ a b c t, Keeps σ t → Keeps σ (R a b c t)) : Keeps σ (galSwap R s sh d) := by
  unfold galSwap
  try dsimp only
  repeat' first
    | with_reducible exact hk
    | with_reducible apply hR
    | with_reducible apply Keeps.ite
    | with_reducible apply Keeps.wr
    | with_reducible apply keeps_domMove
    | with_reducible apply keeps_galTake
    | ((with_reducible show offTime _ = true); rfl)
    | split

theorem keeps_galFail {σ : State} {R : Raise} {s : State} {g : Nat} (hk : Keeps σ s) (hR : ∀ a b c t, Keeps σ t → Keeps σ (R a b c t)) : Keeps σ (galFail R s g) := by
  unfold galFail
  try dsimp only
  repeat' first
    | with_reducible exact hk
    | with_reducible apply hR
    | with_reducible apply Keeps.ite
    | with_reducible apply Keeps.wrs
    | with_reducible apply keeps_assignBoth
    | with_reducible apply keeps_dropInGallery
    | with_reducible apply keeps_galSwap
    | with_reducible apply keeps_sliceOff
    | ((with_reducible show List.all _ _ = true); rfl)

theorem keeps_ddlDegrade {σ : State} {R : Raise} {s : State} {dd : Nat} {x : Nat} (hk : Keeps σ s) (hR : ∀ a b c t, Keeps σ t → Keeps σ (R a b c t)) : Keeps σ (ddlDegrade R s dd x) := by
  unfold ddlDegrade
  try dsimp only
  repeat' first
    | with_reducible exact hk
    | with_reducible apply hR
    | with_reducible apply Keeps.ite
    | with_reducible apply Keeps.wrs
    | with_reducible apply keeps_holdCorridor
    | ((with_reducible show List.all _ _ = true); rfl)

theorem keeps_ddlNext {σ : State} {R : Raise} {s : State} {dd : Nat} (hk : Keeps σ s) (hR : ∀ a b c t, Keeps σ t → Keeps σ (R a b c t)) : Keeps σ (ddlNext R s dd) := by
  unfold ddlNext
  try dsimp only
  repeat' first
    | with_reducible exact hk
    | with_reducible apply hR
    | with_reducible apply Keeps.ite
    | with_reducible apply Keeps.wrs
    | with_reducible apply keeps_abortSlice
    | with_reducible apply keeps_ddlDegrade
    | ((with_reducible show List.all _ _ = true); rfl)
    | split

theorem keeps_ddlReplace {σ : State} {R : Raise} {s : State} {dd : Nat} {x : Nat} (hk : Keeps σ s) (hR : ∀ a b c t, Keeps σ t → Keeps σ (R a b c t)) : Keeps σ (ddlReplace R s dd x) := by
  unfold ddlReplace
  try dsimp only
  repeat' first
    | with_reducible exact hk
    | with_reducible apply hR
    | with_reducible apply Keeps.ite
    | with_reducible apply Keeps.wr
    | with_reducible apply keeps_ddlNext
    | ((with_reducible show offTime _ = true); rfl)

theorem keeps_ddlIsolate {σ : State} {R : Raise} {s : State} {c : Nat} (hk : Keeps σ s) (hR : ∀ a b c t, Keeps σ t → Keeps σ (R a b c t)) : Keeps σ (ddlIsolate R s c) := by
  unfold ddlIsolate
  try dsimp only
  repeat' first
    | with_reducible exact hk
    | with_reducible apply hR
    | with_reducible apply Keeps.ite
    | with_reducible apply keeps_ddlReplace

theorem keeps_retirePut {σ : State} {s : State} {n : Nat} {x : Nat} {kind : Nat} {addr : Nat} {auto : Bool} (hk : Keeps σ s) : Keeps σ (retirePut s n x kind addr auto) := by
  unfold retirePut
  try dsimp only
  repeat' first
    | with_reducible exact hk
    | with_reducible exact tabDel_wf _ _
    | with_reducible apply Keeps.ite
    | with_reducible apply Keeps.took
    | with_reducible apply Keeps.wr
    | with_reducible apply Keeps.wrs
    | ((with_reducible show offTime _ = true); rfl)
    | ((with_reducible show List.all _ _ = true); rfl)
    | split
    | with_reducible apply Keeps.withheld

theorem keeps_autoRetire {σ : State} {s : State} {n : Nat} {b : Nat} (hk : Keeps σ s) : Keeps σ (autoRetire s n b) := by
  unfold autoRetire
  try dsimp only
  repeat' first
    | with_reducible exact hk
    | with_reducible apply Keeps.ite
    | with_reducible apply keeps_retirePut
    | split

/-! ## Fault -/

theorem keeps_ctxDrop {σ : State} {s : State} (hk : Keeps σ s) : Keeps σ (ctxDrop s) := by
  unfold ctxDrop
  try dsimp only
  repeat' first
    | with_reducible exact hk
    | with_reducible apply Keeps.wrs
    | ((with_reducible show List.all _ _ = true); rfl)
    | with_reducible apply Keeps.siCtx

theorem keeps_freeSlot {σ : State} {s : State} {n : Nat} (hk : Keeps σ s) : Keeps σ (freeSlot s n) := by
  unfold freeSlot
  try dsimp only
  repeat' first
    | with_reducible exact hk
    | with_reducible exact tabDel_wf _ _
    | with_reducible apply Keeps.wrs
    | with_reducible apply keeps_ctxDrop
    | ((with_reducible show List.all _ _ = true); rfl)
    | split
    | with_reducible apply Keeps.cargo

theorem keeps_discardLandings {σ : State} {s : State} (hk : Keeps σ s) : Keeps σ (discardLandings s) := by
  unfold discardLandings
  try dsimp only
  repeat' first
    | with_reducible exact hk
    | with_reducible assumption
    | intro _
    | with_reducible apply Keeps.forEach
    | with_reducible apply keeps_freeSlot

theorem keeps_enterSafe {σ : State} {R : Raise} {s : State} (hk : Keeps σ s) (hR : ∀ a b c t, Keeps σ t → Keeps σ (R a b c t)) : Keeps σ (enterSafe R s) := by
  unfold enterSafe
  try dsimp only
  repeat' first
    | with_reducible exact hk
    | with_reducible apply hR
    | with_reducible assumption
    | intro _
    | with_reducible apply Keeps.forEach
    | with_reducible apply Keeps.wr
    | with_reducible apply Keeps.wrN
    | with_reducible apply keeps_completeWhere
    | with_reducible apply keeps_discardLandings
    | with_reducible apply keeps_htrLow
    | with_reducible apply keeps_siteClear
    | with_reducible apply keeps_stopWakes
    | with_reducible apply keeps_updFaultPin
    | ((with_reducible show offTime _ = true); rfl)

theorem keeps_isolate {σ : State} {R : Raise} {src : Nat} {detail : List Byte} {s : State} (hk : Keeps σ s) (hR : ∀ a b c t, Keeps σ t → Keeps σ (R a b c t)) : Keeps σ (isolate R src detail s) := by
  unfold isolate
  try dsimp only
  repeat' first
    | with_reducible exact hk
    | with_reducible apply hR
    | with_reducible assumption
    | intro _
    | with_reducible apply Keeps.ite
    | with_reducible apply Keeps.forEach
    | with_reducible apply Keeps.wr
    | with_reducible apply keeps_autoRetire
    | with_reducible apply keeps_ddlIsolate
    | with_reducible apply keeps_failLane
    | with_reducible apply keeps_galFail
    | with_reducible apply keeps_sheafPortsEval
    | with_reducible apply keeps_siteHold
    | ((with_reducible show offTime _ = true); rfl)
    | split

theorem keeps_raiseN {σ : State} (n : Nat) : ∀ src cls d s, Keeps σ s → Keeps σ (raiseN n src cls d s) := by
  induction n with
  | zero => exact fun _ _ _ _ h => keeps_recordFault h
  | succ n ih =>
    intro src cls d s h
    have hr : Keeps σ (recordFault s src cls d) := keeps_recordFault h
    show Keeps σ (if faultClass s src cls == 3 then
      (if isSafe s then updFaultPin (wr (recordFault s src cls d) FLT_SUMMARY.FATAL 0 1)
        else enterSafe (raiseN n) (recordFault s src cls d))
      else if faultClass s src cls == 2 && cls == 1 then isolate (raiseN n) src d (recordFault s src cls d)
      else recordFault s src cls d)
    refine Keeps.ite (Keeps.ite (keeps_updFaultPin (hr.wr rfl)) (keeps_enterSafe hr ih)) (Keeps.ite (keeps_isolate hr ih) hr)

theorem keeps_raise {σ s : State} {src cls : Nat} {d : List Byte} (hk : Keeps σ s) : Keeps σ (raise src cls d s) :=
  keeps_raiseN 4 src cls d s hk

theorem keeps_faultC {σ : State} {src : Nat} {s : State} (hk : Keeps σ s) : Keeps σ (faultC src s) := by
  unfold faultC
  try dsimp only
  repeat' first
    | with_reducible exact hk
    | with_reducible apply keeps_raise

theorem keeps_faultK {σ : State} {src : Nat} {s : State} (hk : Keeps σ s) : Keeps σ (faultK src s) := by
  unfold faultK
  try dsimp only
  repeat' first
    | with_reducible exact hk
    | with_reducible apply keeps_raise

theorem keeps_faultF {σ : State} {src : Nat} {s : State} (hk : Keeps σ s) : Keeps σ (faultF src s) := by
  unfold faultF
  try dsimp only
  repeat' first
    | with_reducible exact hk
    | with_reducible apply keeps_raise

theorem keeps_idleUse {σ : State} {s : State} (hk : Keeps σ s) : Keeps σ (idleUse s) := by
  unfold idleUse
  try dsimp only
  repeat' first
    | with_reducible exact hk
    | with_reducible assumption
    | intro _
    | with_reducible apply keeps_abortSlice
    | with_reducible apply keeps_hostDma
    | with_reducible apply keeps_raise
    | with_reducible apply Keeps.foldl

theorem keeps_finish {σ : State} {s : State} {r : Nat} {a : Acc} {p : Reply} (hk : Keeps σ s) : Keeps σ (finish s r a p) := by
  unfold finish
  try dsimp only
  repeat' first
    | with_reducible exact hk
    | with_reducible assumption
    | intro _
    | with_reducible apply keeps_fin
    | with_reducible apply keeps_raise

theorem keeps_audit {σ : State} {s : State} {type : Nat} {role : Nat} {cred : Nat} {handle : Nat} {opcode : Nat} {status : Nat} {detail : List Byte} (hk : Keeps σ s) : Keeps σ (audit s type role cred handle opcode status detail) := by
  unfold audit
  try dsimp only
  repeat' first
    | with_reducible exact hk
    | with_reducible assumption
    | intro _
    | with_reducible apply keeps_auditWith
    | with_reducible apply keeps_faultC

theorem keeps_complete {σ : State} {p : Run → Bool} {reply : Reply} {s : State} (hk : Keeps σ s) : Keeps σ (complete p reply s) := by
  unfold complete
  try dsimp only
  repeat' first
    | with_reducible exact hk
    | with_reducible assumption
    | intro _
    | with_reducible apply keeps_completeWhere
    | with_reducible apply keeps_raise

/-! ## Operands -/

/-! ## Engine -/

theorem keeps_standbyBack {σ : State} {s : State} (hk : Keeps σ s) : Keeps σ (standbyBack s) := by
  unfold standbyBack
  try dsimp only
  repeat' first
    | with_reducible exact hk
    | with_reducible assumption
    | intro _
    | with_reducible apply Keeps.forEach
    | with_reducible apply Keeps.wr
    | with_reducible apply Keeps.wrs
    | with_reducible apply keeps_raise
    | with_reducible apply keeps_resetCorridor
    | with_reducible apply keeps_resetDrive
    | with_reducible apply keeps_resetGallery
    | with_reducible apply keeps_resetSheaf
    | with_reducible apply keeps_setDomSt
    | with_reducible apply keeps_setLane
    | with_reducible apply keeps_siteClear
    | ((with_reducible show offTime _ = true); rfl)
    | ((with_reducible show List.all _ _ = true); rfl)

theorem keeps_leaveStandby {σ : State} {s0 : State} {cause : Nat} (hk : Keeps σ s0) : Keeps σ (leaveStandby s0 cause) := by
  unfold leaveStandby
  try dsimp only
  repeat' first
    | with_reducible exact hk
    | with_reducible apply Keeps.ite
    | with_reducible apply Keeps.wrs
    | with_reducible apply keeps_event
    | with_reducible apply keeps_standbyBack
    | ((with_reducible show List.all _ _ = true); rfl)

theorem keeps_wakeFirst {σ : State} {s : State} {ds : List Nat} (hk : Keeps σ s) : Keeps σ (wakeFirst s ds) := by
  unfold wakeFirst
  try dsimp only
  repeat' first
    | with_reducible exact hk
    | with_reducible apply Keeps.ite
    | with_reducible apply keeps_domMove
    | with_reducible apply keeps_leaveStandby
    | split

theorem keeps_writeSummary {σ : State} {s : State} {h : Nat} {t : Nat} {w : TblSum} (hk : Keeps σ s) : Keeps σ (writeSummary s h t w) := by
  unfold writeSummary
  try dsimp only
  repeat' first
    | with_reducible exact hk
    | with_reducible exact tabDel_wf _ _
    | with_reducible apply keeps_audit
    | with_reducible apply Keeps.tblSums

theorem keeps_flushOver {σ : State} {s : State} (hk : Keeps σ s) : Keeps σ (flushOver s) := by
  unfold flushOver
  try dsimp only
  repeat' first
    | with_reducible exact hk
    | with_reducible assumption
    | intro _
    | with_reducible apply keeps_writeSummary
    | with_reducible apply Keeps.foldl

theorem keeps_sumNote {σ : State} {s : State} {a : Acc} {t : Nat} {n : Nat} (hk : Keeps σ s) : Keeps σ (sumNote s a t n) := by
  unfold sumNote
  try dsimp only
  repeat' first
    | with_reducible exact hk
    | with_reducible exact tabPut_wf _ _ _
    | with_reducible apply Keeps.ite
    | with_reducible apply keeps_flushOver
    | with_reducible apply Keeps.tblSums

theorem keeps_sumNoteAll {σ : State} {s : State} {a : Acc} (hk : Keeps σ s) : Keeps σ (sumNoteAll s a) := by
  unfold sumNoteAll
  try dsimp only
  repeat' first
    | with_reducible exact hk
    | with_reducible assumption
    | intro _
    | with_reducible apply keeps_sumNote
    | with_reducible apply Keeps.foldl

theorem keeps_stageAt {σ : State} {s : State} {n : Nat} {a : Acc} (hk : Keeps σ s) : Keeps σ (stageAt s n a) := by
  unfold stageAt
  try dsimp only
  repeat' first
    | with_reducible exact hk
    | with_reducible exact tabPut_wf _ _ _
    | with_reducible apply Keeps.wrs
    | with_reducible apply keeps_perf
    | with_reducible apply keeps_sumNoteAll
    | ((with_reducible show List.all _ _ = true); rfl)
    | split
    | with_reducible apply Keeps.cargo

theorem keeps_stageItem {σ : State} {s : State} {a : Acc} (hk : Keeps σ s) : Keeps σ (stageItem s a) := by
  unfold stageItem
  try dsimp only
  repeat' first
    | with_reducible exact hk
    | with_reducible apply keeps_stageAt
    | split

theorem keeps_execOp {σ s : State} {o : OpSpec} {r : Nat} {a : Machine.Acc} (hk : Keeps σ s)
    (ho : ∀ t, Keeps σ t → AnsKeeps σ (o.run r a t)) : Keeps σ (execOp o r a s) := by
  unfold execOp
  dsimp only
  split
  · exact keeps_finish hk
  · split
    · exact keeps_finish hk
    · split
      · exact keeps_finish hk
      · refine Keeps.ite (keeps_wakeFirst hk.running) (Keeps.ite (keeps_finish (keeps_stageItem hk)) ?_)
        have h := ho s hk
        revert h
        cases o.run r a s with
        | done t p => exact fun h => keeps_finish (AnsKeeps.done_iff.1 h)
        | doneThen t p k => exact fun h => (AnsKeeps.doneThen_iff.1 h).2 _ (keeps_finish (AnsKeeps.doneThen_iff.1 h).1)
        | wait t ds => exact fun h => Keeps.running (AnsKeeps.wait_iff.1 h)

theorem keeps_dispatch {σ s : State} {o : OpSpec} {r : Nat} (hk : Keeps σ s)
    (ho : ∀ a t, Keeps σ t → AnsKeeps σ (o.run r a t)) : Keeps σ (dispatch o r s) := by
  unfold dispatch
  split
  · exact hk
  · exact Keeps.ite hk (keeps_execOp (keeps_popFront hk) (ho _))

theorem keeps_requeue {σ : State} {s : State} {x : Run} (hk : Keeps σ s) : Keeps σ (requeue s x) := by
  unfold requeue
  try dsimp only
  repeat' first
    | with_reducible exact hk
    | with_reducible apply keeps_dropRun
    | with_reducible apply keeps_setRing

theorem keeps_wakeNext {σ : State} {d : Nat} {s : State} {x : Run} (hk : Keeps σ s) : Keeps σ (wakeNext d s x) := by
  unfold wakeNext
  try dsimp only
  repeat' first
    | with_reducible exact hk
    | with_reducible exact Keeps.refl _
    | with_reducible exact id
    | with_reducible apply Keeps.ite
    | with_reducible apply keeps_requeue
    | with_reducible apply keeps_wakeFirst
    | split
    | with_reducible apply Keeps.record

theorem keeps_wakeDone {σ : State} {s : State} {d : Nat} (hk : Keeps σ s) : Keeps σ (wakeDone s d) := by
  unfold wakeDone
  try dsimp only
  repeat' first
    | with_reducible exact hk
    | with_reducible assumption
    | intro _
    | with_reducible apply keeps_wakeNext
    | with_reducible apply Keeps.foldl

theorem keeps_flushSummaries {σ : State} {s : State} {h : Nat} (hk : Keeps σ s) : Keeps σ (flushSummaries s h) := by
  unfold flushSummaries
  try dsimp only
  repeat' first
    | with_reducible exact hk
    | with_reducible assumption
    | intro _
    | with_reducible apply keeps_writeSummary
    | with_reducible apply Keeps.foldl

theorem keeps_drainRing {σ : State} {s : State} {r : Nat} (hk : Keeps σ s) : Keeps σ (drainRing s r) := by
  unfold drainRing
  try dsimp only
  repeat' first
    | with_reducible exact hk
    | with_reducible apply keeps_setRing
    | with_reducible apply keeps_settleRing

theorem keeps_ctxClose {σ : State} {s : State} {h : Nat} (hk : Keeps σ s) : Keeps σ (ctxClose s h) := by
  unfold ctxClose
  try dsimp only
  repeat' first
    | with_reducible exact hk
    | with_reducible apply Keeps.ite
    | with_reducible apply keeps_complete
    | with_reducible apply keeps_ctxDrop
    | split

theorem keeps_dropOpen {σ : State} {s : State} {h : Nat} (hk : Keeps σ s) : Keeps σ (dropOpen s h) := by
  unfold dropOpen
  try dsimp only
  repeat' first
    | with_reducible exact hk
    | with_reducible assumption
    | intro _
    | with_reducible apply Keeps.ite
    | with_reducible apply Keeps.forEach
    | with_reducible apply Keeps.wr
    | with_reducible apply keeps_freeSlot
    | ((with_reducible show offTime _ = true); rfl)

theorem keeps_auditDropped {σ : State} {s : State} {y : Run} (hk : Keeps σ s) : Keeps σ (auditDropped s y) := by
  unfold auditDropped
  try dsimp only
  repeat' first
    | with_reducible exact hk
    | with_reducible apply Keeps.ite
    | with_reducible apply keeps_audit

theorem keeps_closeSession {σ : State} {s : State} {h : Nat} (hk : Keeps σ s) : Keeps σ (closeSession s h) := by
  unfold closeSession
  try dsimp only
  repeat' first
    | with_reducible exact hk
    | with_reducible assumption
    | with_reducible exact tabDel_wf _ _
    | intro _
    | with_reducible apply Keeps.forEach
    | with_reducible apply keeps_audit
    | with_reducible apply keeps_auditDropped
    | with_reducible apply keeps_complete
    | with_reducible apply keeps_ctxClose
    | with_reducible apply keeps_drainRing
    | with_reducible apply keeps_dropOpen
    | with_reducible apply keeps_flushSummaries
    | with_reducible apply Keeps.foldl
    | split
    | with_reducible apply Keeps.running
    | with_reducible apply Keeps.sessions

theorem keeps_closeAll {σ : State} {s : State} (hk : Keeps σ s) : Keeps σ (closeAll s) := by
  unfold closeAll
  try dsimp only
  repeat' first
    | with_reducible exact hk
    | with_reducible assumption
    | intro _
    | with_reducible apply Keeps.forEach
    | with_reducible apply keeps_closeSession

theorem keeps_closeCred {σ : State} {s : State} {role : Nat} {cred : Nat} (hk : Keeps σ s) : Keeps σ (closeCred s role cred) := by
  unfold closeCred
  try dsimp only
  repeat' first
    | with_reducible exact hk
    | with_reducible assumption
    | intro _
    | with_reducible apply keeps_closeSession
    | with_reducible apply Keeps.foldl

theorem keeps_keyStep {σ : State} {s : State} (hk : Keeps σ s) : Keeps σ (keyStep s) := by
  unfold keyStep
  try dsimp only
  repeat' first
    | with_reducible exact hk
    | with_reducible apply Keeps.wr
    | ((with_reducible show offTime _ = true); rfl)

/-! ## Levels -/

theorem keeps_thermEvent {σ : State} {s : State} {kind : Nat} {n : Nat} {level : Nat} (hk : Keeps σ s) : Keeps σ (thermEvent s kind n level) := by
  unfold thermEvent
  try dsimp only
  repeat' first
    | with_reducible exact hk
    | with_reducible apply keeps_event

theorem keeps_levelNow {σ : State} {s : State} {n : Nat} {l : Nat} (hk : Keeps σ s) : Keeps σ (levelNow s n l) := by
  unfold levelNow
  try dsimp only
  repeat' first
    | with_reducible exact hk
    | with_reducible apply Keeps.wr
    | with_reducible apply keeps_perf
    | with_reducible apply keeps_thermEvent
    | ((with_reducible show offTime _ = true); rfl)

theorem keeps_vrmStep {σ : State} {s : State} {n : Nat} (hk : Keeps σ s) : Keeps σ (vrmStep s n) := by
  unfold vrmStep
  try dsimp only
  repeat' first
    | with_reducible exact hk
    | with_reducible apply Keeps.wrs
    | with_reducible apply keeps_emit
    | ((with_reducible show List.all _ _ = true); rfl)

theorem keeps_vrmGo {σ : State} {s : State} {n : Nat} {mv : Nat} {up : Nat} (hk : Keeps σ s) : Keeps σ (vrmGo s n mv up) := by
  unfold vrmGo
  try dsimp only
  repeat' first
    | with_reducible exact hk
    | with_reducible apply Keeps.ite
    | with_reducible apply Keeps.wrs
    | with_reducible apply keeps_levelNow
    | with_reducible apply keeps_vrmStep
    | ((with_reducible show List.all _ _ = true); rfl)

theorem keeps_levelStep {σ : State} {s : State} {n : Nat} (hk : Keeps σ s) : Keeps σ (levelStep s n) := by
  unfold levelStep
  try dsimp only
  repeat' first
    | with_reducible exact hk
    | with_reducible apply Keeps.ite
    | with_reducible apply keeps_levelNow
    | with_reducible apply keeps_vrmGo

theorem keeps_levelEval {σ : State} {s : State} {n : Nat} (hk : Keeps σ s) : Keeps σ (levelEval s n) := by
  unfold levelEval
  try dsimp only
  repeat' first
    | with_reducible exact hk
    | with_reducible apply keeps_levelStep

/-! ## Boot -/

theorem keeps_slicesBack {σ : State} {s : State} (hk : Keeps σ s) : Keeps σ (slicesBack s) := by
  unfold slicesBack
  try dsimp only
  repeat' first
    | with_reducible exact hk
    | with_reducible assumption
    | intro _
    | with_reducible apply Keeps.wr
    | with_reducible apply Keeps.foldl
    | ((with_reducible show offTime _ = true); rfl)

theorem keeps_resetLists {σ s : State} {regs : Tab Nat} (hk : Keeps σ s) (hr : Keeps s { s with regs := regs }) :
    Keeps σ (resetLists s regs) := by
  unfold resetLists
  apply Keeps.record hk hr
  all_goals first | exact id | exact fun _ => rfl

theorem keeps_siteStates {σ : State} {s : State} (hk : Keeps σ s) : Keeps σ (siteStates s) := by
  unfold siteStates
  try dsimp only
  repeat' first
    | with_reducible exact hk
    | with_reducible assumption
    | intro _
    | with_reducible apply Keeps.forEach
    | with_reducible apply Keeps.wr
    | ((with_reducible show offTime _ = true); rfl)

theorem keeps_warmRegs (s : State) : Keeps s { s with regs := warmRegs s } := by
  refine (Keeps.refl s).filterRegs fun e he => ?_
  have : idIn warmFields (ownKey e.1).1 = true := by
    rw [ownKey_time he]
    rcases timeIds_cases he with h | h | h | h <;> rw [h] <;> rfl
  rw [this]
  simp

theorem keeps_warmCore {σ s : State} (hk : Keeps σ s) : Keeps σ (warmCore s) := by
  unfold warmCore
  refine Keeps.forEach (Keeps.wrN (keeps_siteStates (keeps_slicesBack (keeps_resetLists ?_ (keeps_warmRegs _)))) rfl)
    fun _ _ h => keeps_levelEval h
  exact Keeps.forEach (keeps_closeAll hk) fun _ _ h => keeps_siteClear h

theorem keeps_countWarm {σ : State} {s : State} (hk : Keeps σ s) : Keeps σ (countWarm s) := by
  unfold countWarm
  try dsimp only
  repeat' first
    | with_reducible exact hk
    | with_reducible apply Keeps.ite
    | with_reducible apply Keeps.bump
    | with_reducible apply Keeps.wr
    | ((with_reducible show offTime _ = true); rfl)

theorem keeps_execWarmReset {σ : State} {s : State} (hk : Keeps σ s) : NextKeeps σ (execWarmReset s) := by
  unfold execWarmReset
  try dsimp only
  repeat' first
    | with_reducible apply NextKeeps.mk
    | with_reducible exact hk
    | with_reducible apply Keeps.ite
    | with_reducible apply Keeps.wr
    | with_reducible apply keeps_countWarm
    | with_reducible apply keeps_warmCore
    | ((with_reducible show offTime _ = true); rfl)

/-- The release of the power-on reset keeps all but local time. -/
theorem keeps0_execPorRelease (strap : BitVec 4) (s : State) : ∃ t, execPorRelease strap s = .next t ∧ Keeps0 s t := by
  refine ⟨_, rfl, ?_⟩
  have h0 : Keeps0 s { resetLists s (coldRegs s) with audit := [] } := by
    refine ⟨rfl, Nat.le_refl _, fun c => ?_⟩
    have d := (canonical_iff s).1 c
    have r : tabWf (coldRegs s) = true := filter_wf _ _ d.1
    rw [canonical_iff]
    simp only [resetLists, State.reset, r, d, tabWf_nil, and_self]
  exact h0.trans (Keeps0.wrs _ _)

theorem keeps_halt {σ : State} {s : State} (hk : Keeps σ s) : Keeps σ (halt s) := by
  unfold halt
  try dsimp only
  repeat' first
    | with_reducible exact hk
    | with_reducible apply Keeps.wrs
    | ((with_reducible show List.all _ _ = true); rfl)

theorem keeps_loadAgeMax {σ : State} {s : State} (hk : Keeps σ s) : Keeps σ (loadAgeMax s) := by
  unfold loadAgeMax
  try dsimp only
  repeat' first
    | with_reducible exact hk
    | with_reducible assumption
    | intro _
    | with_reducible apply Keeps.forEach
    | with_reducible apply Keeps.wr
    | ((with_reducible show offTime _ = true); rfl)

theorem keeps_fwAbandon {σ : State} {s : State} {n : Nat} {code : Nat} (hk : Keeps σ s) : Keeps σ (fwAbandon s n code) := by
  unfold fwAbandon
  try dsimp only
  repeat' first
    | with_reducible exact hk
    | with_reducible apply Keeps.ite
    | with_reducible apply Keeps.wr
    | with_reducible apply Keeps.wrs
    | with_reducible apply keeps_faultC
    | with_reducible apply keeps_faultK
    | ((with_reducible show offTime _ = true); rfl)
    | ((with_reducible show List.all _ _ = true); rfl)

theorem keeps_readHeaders {σ : State} {s : State} (hk : Keeps σ s) : Keeps σ (readHeaders s) := by
  unfold readHeaders
  try dsimp only
  repeat' first
    | with_reducible exact hk
    | with_reducible assumption
    | intro _
    | with_reducible apply Keeps.ite
    | with_reducible apply Keeps.forEach
    | with_reducible apply keeps_fwAbandon

theorem keeps_execResetNRise {σ : State} {strap : BitVec 4} {fuseOk : Bool} {katOk : Bool} {s : State} (hk : Keeps σ s) : NextKeeps σ (execResetNRise strap fuseOk katOk s) := by
  unfold execResetNRise
  try dsimp only
  repeat' first
    | with_reducible apply NextKeeps.mk
    | with_reducible exact hk
    | with_reducible apply Keeps.ite
    | with_reducible apply Keeps.wrs
    | with_reducible apply keeps_faultF
    | with_reducible apply keeps_halt
    | with_reducible apply keeps_loadAgeMax
    | with_reducible apply keeps_readHeaders
    | with_reducible apply keeps_updFaultPin
    | ((with_reducible show List.all _ _ = true); rfl)

theorem keeps_fwRun {σ : State} {s : State} {n : Nat} (hk : Keeps σ s) : Keeps σ (fwRun s n) := by
  unfold fwRun
  try dsimp only
  repeat' first
    | with_reducible exact hk
    | with_reducible apply Keeps.wrs
    | ((with_reducible show List.all _ _ = true); rfl)

theorem keeps_execFwSlotReadDone {σ : State} {slot : Fin 2} {readOk : Bool} {s : State} (hk : Keeps σ s) : NextKeeps σ (execFwSlotReadDone slot readOk s) := by
  unfold execFwSlotReadDone
  try dsimp only
  repeat' first
    | with_reducible apply NextKeeps.mk
    | with_reducible exact hk
    | with_reducible assumption
    | intro _
    | with_reducible apply Keeps.ite
    | with_reducible apply Keeps.wrs
    | with_reducible apply keeps_bootFirst
    | with_reducible apply keeps_faultC
    | with_reducible apply keeps_fwAbandon
    | with_reducible apply keeps_fwRun
    | ((with_reducible show List.all _ _ = true); rfl)

theorem keeps_loadCeil {σ : State} {s : State} {t : Tab CeilRec} (hk : Keeps σ s) : Keeps σ (loadCeil s t) := by
  unfold loadCeil
  try dsimp only
  repeat' first
    | with_reducible exact hk
    | with_reducible assumption
    | intro _
    | with_reducible apply Keeps.forEach
    | with_reducible apply Keeps.wr
    | with_reducible apply Keeps.wrs
    | with_reducible apply Keeps.foldl
    | ((with_reducible show offTime _ = true); rfl)
    | ((with_reducible show List.all _ _ = true); rfl)

theorem keeps_execCeilStoreOpen {σ : State} {okA : Bool} {okB : Bool} {s : State} (hk : Keeps σ s) : NextKeeps σ (execCeilStoreOpen okA okB s) := by
  unfold execCeilStoreOpen
  try dsimp only
  repeat' first
    | with_reducible apply NextKeeps.mk
    | with_reducible exact hk
    | with_reducible assumption
    | intro _
    | with_reducible apply Keeps.ite
    | with_reducible apply Keeps.forEach
    | with_reducible apply Keeps.wr
    | with_reducible apply Keeps.wrs
    | with_reducible apply keeps_faultK
    | with_reducible apply keeps_loadCeil
    | with_reducible apply keeps_siteClear
    | ((with_reducible show offTime _ = true); rfl)
    | ((with_reducible show List.all _ _ = true); rfl)
    | split

theorem keeps_execPerstRelease {σ : State} {s : State} (hk : Keeps σ s) : NextKeeps σ (execPerstRelease s) := by
  unfold execPerstRelease
  try dsimp only
  repeat' first
    | with_reducible apply NextKeeps.mk
    | with_reducible exact hk
    | with_reducible apply Keeps.ite
    | with_reducible apply Keeps.wr
    | ((with_reducible show offTime _ = true); rfl)

theorem keeps_holdStacks {σ : State} {s : State} (hk : Keeps σ s) : Keeps σ (holdStacks s) := by
  unfold holdStacks
  try dsimp only
  repeat' first
    | with_reducible exact hk
    | with_reducible apply Keeps.wrN
    | ((with_reducible show offTime _ = true); rfl)

theorem keeps_bringUpFill {σ : State} {s : State} (hk : Keeps σ s) : Keeps σ (bringUpFill s) := by
  unfold bringUpFill
  try dsimp only
  repeat' first
    | with_reducible exact hk
    | with_reducible assumption
    | intro _
    | with_reducible apply Keeps.ite
    | with_reducible apply Keeps.forEach
    | with_reducible apply Keeps.wrs
    | with_reducible apply keeps_corStart
    | ((with_reducible show List.all _ _ = true); rfl)

theorem keeps_pgHold {σ : State} {s : State} {p : Nat} (hk : Keeps σ s) : Keeps σ (pgHold s p) := by
  unfold pgHold
  try dsimp only
  repeat' first
    | with_reducible exact hk
    | with_reducible assumption
    | intro _
    | with_reducible apply Keeps.ite
    | with_reducible apply Keeps.forEach
    | with_reducible apply Keeps.wr
    | with_reducible apply keeps_faultK
    | with_reducible apply keeps_holdDom
    | with_reducible apply keeps_holdStacks
    | with_reducible apply keeps_raise
    | ((with_reducible show offTime _ = true); rfl)

theorem keeps_execCorePllLock {σ : State} {pg : BitVec 10} {refs : BitVec 8} {s : State} (hk : Keeps σ s) : NextKeeps σ (execCorePllLock pg refs s) := by
  unfold execCorePllLock
  try dsimp only
  repeat' first
    | with_reducible apply NextKeeps.mk
    | with_reducible exact hk
    | with_reducible assumption
    | intro _
    | with_reducible apply Keeps.ite
    | with_reducible apply Keeps.forEach
    | with_reducible apply Keeps.wr
    | with_reducible apply Keeps.wrs
    | with_reducible apply keeps_bringUpFill
    | with_reducible apply keeps_faultK
    | with_reducible apply keeps_synthStart
    | ((with_reducible show offTime _ = true); rfl)
    | ((with_reducible show List.all _ _ = true); rfl)

theorem keeps_execCorePllTimeout {σ : State} {s : State} (hk : Keeps σ s) : NextKeeps σ (execCorePllTimeout s) := by
  unfold execCorePllTimeout
  try dsimp only
  repeat' first
    | with_reducible apply NextKeeps.mk
    | with_reducible exact hk
    | with_reducible apply Keeps.ite
    | with_reducible apply Keeps.wr
    | with_reducible apply keeps_faultF
    | with_reducible apply keeps_halt
    | ((with_reducible show offTime _ = true); rfl)

theorem keeps_pgRecheck {σ : State} {s : State} {x : Run} (hk : Keeps σ s) : Keeps σ (pgRecheck s x) := by
  unfold pgRecheck
  try dsimp only
  repeat' first
    | with_reducible exact hk
    | with_reducible apply Keeps.ite
    | with_reducible apply Keeps.wr
    | with_reducible apply keeps_domMove
    | with_reducible apply keeps_dropRun
    | with_reducible apply keeps_finish
    | ((with_reducible show offTime _ = true); rfl)
    | split

theorem keeps_execPgWaitTimeout {σ : State} {pg : BitVec 10} {s : State} (hk : Keeps σ s) : NextKeeps σ (execPgWaitTimeout pg s) := by
  unfold execPgWaitTimeout
  try dsimp only
  repeat' first
    | with_reducible apply NextKeeps.mk
    | with_reducible exact hk
    | with_reducible assumption
    | intro _
    | with_reducible apply Keeps.ite
    | with_reducible apply Keeps.wr
    | with_reducible apply keeps_bringUpFill
    | with_reducible apply keeps_pgHold
    | with_reducible apply keeps_pgRecheck
    | with_reducible apply Keeps.foldl
    | ((with_reducible show offTime _ = true); rfl)

theorem keeps_execSramFillDone {σ : State} {s : State} (hk : Keeps σ s) : NextKeeps σ (execSramFillDone s) := by
  unfold execSramFillDone
  try dsimp only
  repeat' first
    | with_reducible apply NextKeeps.mk
    | with_reducible exact hk
    | with_reducible apply Keeps.ite
    | with_reducible apply Keeps.wr
    | ((with_reducible show offTime _ = true); rfl)

theorem keeps_execDramTrainDone {σ : State} {ok : BitVec 10} {s : State} (hk : Keeps σ s) : NextKeeps σ (execDramTrainDone ok s) := by
  unfold execDramTrainDone
  try dsimp only
  repeat' first
    | with_reducible apply NextKeeps.mk
    | with_reducible exact hk
    | with_reducible assumption
    | intro _
    | with_reducible apply Keeps.ite
    | with_reducible apply Keeps.forEach
    | with_reducible apply Keeps.wr
    | with_reducible apply keeps_faultK
    | ((with_reducible show offTime _ = true); rfl)

theorem keeps_execDramFillDone {σ : State} {s : State} (hk : Keeps σ s) : NextKeeps σ (execDramFillDone s) := by
  unfold execDramFillDone
  try dsimp only
  repeat' first
    | with_reducible apply NextKeeps.mk
    | with_reducible exact hk
    | with_reducible assumption
    | intro _
    | with_reducible apply Keeps.ite
    | with_reducible apply Keeps.forEach
    | with_reducible apply Keeps.wr
    | with_reducible apply Keeps.wrs
    | with_reducible apply Keeps.wrN
    | with_reducible apply keeps_complete
    | with_reducible apply keeps_wakeDone
    | ((with_reducible show offTime _ = true); rfl)
    | ((with_reducible show List.all _ _ = true); rfl)

theorem keeps_execPgFall {σ : State} {p : Fin 10} {s : State} (hk : Keeps σ s) : NextKeeps σ (execPgFall p s) := by
  unfold execPgFall
  try dsimp only
  repeat' first
    | with_reducible apply NextKeeps.mk
    | with_reducible exact hk
    | with_reducible assumption
    | intro _
    | with_reducible apply Keeps.ite
    | with_reducible apply Keeps.forEach
    | with_reducible apply Keeps.wr
    | with_reducible apply Keeps.wrN
    | with_reducible apply Keeps.wrs
    | with_reducible apply keeps_faultK
    | with_reducible apply keeps_holdDom
    | with_reducible apply keeps_holdStacks
    | with_reducible apply keeps_raise
    | with_reducible apply keeps_siteClear
    | with_reducible apply keeps_siteHold
    | with_reducible apply keeps_stopWakes
    | ((with_reducible show offTime _ = true); rfl)
    | ((with_reducible show List.all _ _ = true); rfl)

theorem keeps_execRefclkCoreLoss {σ : State} {s : State} (hk : Keeps σ s) : NextKeeps σ (execRefclkCoreLoss s) := by
  unfold execRefclkCoreLoss
  try dsimp only
  repeat' first
    | with_reducible apply NextKeeps.mk
    | with_reducible exact hk
    | with_reducible apply Keeps.ite
    | with_reducible apply Keeps.wr
    | with_reducible apply keeps_faultF
    | with_reducible apply keeps_halt
    | ((with_reducible show offTime _ = true); rfl)

/-! ## Trust -/

theorem keeps_vstRespond {σ : State} {s : State} {bytes : List Byte} {status : Nat} (hk : Keeps σ s) : Keeps σ (vstRespond s bytes status) := by
  unfold vstRespond
  try dsimp only
  repeat' first
    | with_reducible exact hk
    | with_reducible apply Keeps.wrs
    | ((with_reducible show List.all _ _ = true); rfl)
    | with_reducible apply Keeps.vstRsp

theorem keeps_challenge {σ : State} {s : State} {status : Nat} {handle : Nat} {iter : Nat} {nonce : List Byte} {salt : List Byte} {lock : Nat} (hk : Keeps σ s) : Keeps σ (challenge s status handle iter nonce salt lock) := by
  unfold challenge
  try dsimp only
  repeat' first
    | with_reducible exact hk
    | with_reducible apply keeps_vstRespond

theorem keeps_accept {σ : State} {s : State} {status : Nat} {handle : Nat} {proof : List Byte} (hk : Keeps σ s) : Keeps σ (accept s status handle proof) := by
  unfold accept
  try dsimp only
  repeat' first
    | with_reducible exact hk
    | with_reducible apply keeps_vstRespond

theorem keeps_bindRing {σ : State} {h : Nat} {s : State} {r : Nat} (hk : Keeps σ s) : Keeps σ (bindRing h s r) := by
  unfold bindRing
  try dsimp only
  repeat' first
    | with_reducible exact hk
    | with_reducible apply keeps_setRing

theorem keeps_execVstOpen {σ : State} {msg : List Byte} {s : State} (hk : Keeps σ s) : NextKeeps σ (execVstOpen msg s) := by
  unfold execVstOpen
  try dsimp only
  repeat' first
    | with_reducible apply NextKeeps.mk
    | with_reducible exact hk
    | with_reducible exact Keeps.refl _
    | with_reducible exact id
    | with_reducible apply Keeps.ite
    | with_reducible apply Keeps.took
    | with_reducible apply Keeps.wrs
    | with_reducible apply keeps_challenge
    | ((with_reducible show List.all _ _ = true); rfl)
    | with_reducible apply Keeps.record

theorem keeps_badProof {σ : State} {s : State} {role : Nat} {cred : Nat} (hk : Keeps σ s) : Keeps σ (badProof s role cred) := by
  unfold badProof
  try dsimp only
  repeat' first
    | with_reducible exact hk
    | with_reducible apply Keeps.ite
    | with_reducible apply Keeps.wr
    | with_reducible apply Keeps.wrs
    | with_reducible apply keeps_audit
    | with_reducible apply keeps_faultC
    | ((with_reducible show offTime _ = true); rfl)
    | ((with_reducible show List.all _ _ = true); rfl)

theorem keeps_endExchange {σ : State} {s : State} (hk : Keeps σ s) : Keeps σ (endExchange s) := by
  unfold endExchange
  try dsimp only
  repeat' first
    | with_reducible exact hk
    | with_reducible apply Keeps.vst

theorem keeps_dropExchange {σ : State} {s : State} (hk : Keeps σ s) : Keeps σ (dropExchange s) := by
  unfold dropExchange
  try dsimp only
  repeat' first
    | with_reducible exact hk
    | with_reducible apply Keeps.ite
    | with_reducible apply Keeps.wr
    | with_reducible apply keeps_endExchange
    | ((with_reducible show offTime _ = true); rfl)

theorem keeps_openSession {σ : State} {s : State} {x : VstX} {k : BitVec 384} (hk : Keeps σ s) : Keeps σ (openSession s x k) := by
  unfold openSession
  try dsimp only
  repeat' first
    | with_reducible exact hk
    | with_reducible assumption
    | intro _
    | with_reducible apply Keeps.wrs
    | with_reducible apply keeps_accept
    | with_reducible apply keeps_audit
    | with_reducible apply keeps_bindRing
    | with_reducible apply keeps_endExchange
    | with_reducible apply Keeps.foldl
    | ((with_reducible show List.all _ _ = true); rfl)
    | ((with_reducible refine tabPut_wf _ _ _ ?_); assumption)
    | with_reducible apply Keeps.sessions

theorem keeps_execVstProve {σ : State} {msg : List Byte} {s : State} (hk : Keeps σ s) : NextKeeps σ (execVstProve msg s) := by
  unfold execVstProve
  try dsimp only
  repeat' first
    | with_reducible apply NextKeeps.mk
    | with_reducible exact hk
    | with_reducible apply Keeps.ite
    | with_reducible apply keeps_accept
    | with_reducible apply keeps_badProof
    | with_reducible apply keeps_endExchange
    | with_reducible apply keeps_openSession
    | split
    | with_reducible apply Keeps.vstReq

theorem keeps_execVstEnrol {σ : State} {msg : List Byte} {s : State} (hk : Keeps σ s) :
    NextKeeps σ (execVstEnrol msg s) := by
  unfold execVstEnrol
  dsimp only
  refine NextKeeps.mk (Keeps.ite hk ?_)
  have h1 : Keeps σ { s with vstReq := msg } := hk.vstReq
  split
  · refine Keeps.ite (keeps_accept h1) ?_
    split
    · exact keeps_accept (keeps_badProof (keeps_endExchange h1))
    · refine Keeps.ite (keeps_accept (keeps_endExchange h1)) ?_
      refine keeps_openSession (keeps_audit (keeps_keyStep (Keeps.wr (f := SEC_STATUS.LIFECYCLE) ?_ rfl)))
      have h2 := keeps_closeAll h1
      revert h2
      generalize closeAll { s with vstReq := msg } = v
      intro h2
      have h3 := fun c => (h2.instCreds (x := tabPut v.instCreds (0, 0) c) (tabPut_wf _ _ _)).enrolKey (x := none)
      exact h3 _
  · exact keeps_accept h1

theorem keeps_execVstAbandon {σ : State} {s : State} (hk : Keeps σ s) : NextKeeps σ (execVstAbandon s) := by
  unfold execVstAbandon
  try dsimp only
  repeat' first
    | with_reducible apply NextKeeps.mk
    | with_reducible exact hk
    | with_reducible apply Keeps.ite
    | with_reducible apply keeps_dropExchange

theorem keeps_execVstTimeout {σ : State} {s : State} (hk : Keeps σ s) : NextKeeps σ (execVstTimeout s) := by
  unfold execVstTimeout
  try dsimp only
  repeat' first
    | with_reducible apply NextKeeps.mk
    | with_reducible exact hk
    | with_reducible apply keeps_accept
    | with_reducible apply keeps_endExchange
    | split

theorem keeps_execLockoutExpire {σ : State} {role : Fin 3} {s : State} (hk : Keeps σ s) : NextKeeps σ (execLockoutExpire role s) := by
  unfold execLockoutExpire
  try dsimp only
  repeat' first
    | with_reducible apply NextKeeps.mk
    | with_reducible exact hk
    | with_reducible apply Keeps.ite
    | with_reducible apply Keeps.wrs
    | ((with_reducible show List.all _ _ = true); rfl)

theorem keeps_execSessionIdleTimeout {σ : State} {h : Fin 64} {s : State} (hk : Keeps σ s) : NextKeeps σ (execSessionIdleTimeout h s) := by
  unfold execSessionIdleTimeout
  try dsimp only
  repeat' first
    | with_reducible apply NextKeeps.mk
    | with_reducible exact hk
    | with_reducible apply Keeps.ite
    | with_reducible apply keeps_closeSession
    | split

theorem keeps_execReturnWindowExpire {σ : State} {s : State} (hk : Keeps σ s) : NextKeeps σ (execReturnWindowExpire s) := by
  unfold execReturnWindowExpire
  try dsimp only
  repeat' first
    | with_reducible apply NextKeeps.mk
    | with_reducible exact hk
    | with_reducible apply Keeps.wr
    | ((with_reducible show offTime _ = true); rfl)

theorem keeps_execCryptoSelftestFail {σ : State} {s : State} (hk : Keeps σ s) : NextKeeps σ (execCryptoSelftestFail s) := by
  unfold execCryptoSelftestFail
  try dsimp only
  repeat' first
    | with_reducible apply NextKeeps.mk
    | with_reducible exact hk
    | with_reducible apply Keeps.wr
    | with_reducible apply keeps_audit
    | with_reducible apply keeps_closeAll
    | with_reducible apply keeps_dropExchange
    | with_reducible apply keeps_faultK
    | ((with_reducible show offTime _ = true); rfl)

theorem keeps_wipeKeys {σ : State} {s : State} (hk : Keeps σ s) : Keeps σ (wipeKeys s) := by
  unfold wipeKeys
  try dsimp only
  repeat' first
    | with_reducible exact hk
    | with_reducible exact Keeps.refl _
    | with_reducible exact id
    | exact tabWf_nil
    | intro _
    | with_reducible apply Keeps.wrs
    | ((with_reducible show List.all _ _ = true); rfl)
    | with_reducible apply Keeps.record

theorem keeps_resumeBoot {σ : State} {b : BootTest} {s : State} (hk : Keeps σ s) : Keeps σ (resumeBoot b s) := by
  unfold resumeBoot
  try dsimp only
  repeat' first
    | with_reducible exact hk
    | with_reducible apply Keeps.ite
    | with_reducible apply Keeps.wrs
    | with_reducible apply keeps_faultF
    | with_reducible apply keeps_halt
    | with_reducible apply keeps_loadAgeMax
    | with_reducible apply keeps_readHeaders
    | ((with_reducible show List.all _ _ = true); rfl)

theorem keeps_zeroise {σ : State} {b : BootTest} {role : Nat} {cred : Nat} {handle : Nat} {s : State} (hk : Keeps σ s) : Keeps σ (zeroise b role cred handle s) := by
  unfold zeroise
  try dsimp only
  repeat' first
    | with_reducible exact hk
    | with_reducible apply Keeps.ite
    | with_reducible apply Keeps.wr
    | with_reducible apply keeps_audit
    | with_reducible apply keeps_resumeBoot
    | with_reducible apply keeps_warmCore
    | with_reducible apply keeps_wipeKeys
    | ((with_reducible show offTime _ = true); rfl)

theorem keeps_execZeroizePin {σ : State} {b : BootTest} {s : State} (hk : Keeps σ s) : NextKeeps σ (execZeroizePin b s) := by
  unfold execZeroizePin
  try dsimp only
  repeat' first
    | with_reducible apply NextKeeps.mk
    | with_reducible exact hk
    | with_reducible apply Keeps.wrs
    | with_reducible apply keeps_zeroise
    | ((with_reducible show List.all _ _ = true); rfl)

theorem keeps_opSessionInfo {σ s : State} {r : Nat} {a : Acc} (hk : Keeps σ s) : AnsKeeps σ ((opSessionInfo).run r a s) := by
  unfold opSessionInfo
  try dsimp only
  repeat' first
    | with_reducible apply AnsKeeps.done
    | with_reducible exact hk
    | with_reducible apply Keeps.ite
    | with_reducible apply keeps_toHost

theorem keeps_opSessionClose {σ s : State} {r : Nat} {a : Acc} (hk : Keeps σ s) : AnsKeeps σ ((opSessionClose).run r a s) := by
  unfold opSessionClose
  try dsimp only
  repeat' first
    | with_reducible apply AnsKeeps.doneThen
    | with_reducible exact hk
    | with_reducible assumption
    | intro _
    | with_reducible apply keeps_closeSession

theorem keeps_opRingBind {σ s : State} {r : Nat} {a : Acc} (hk : Keeps σ s) : AnsKeeps σ ((opRingBind).run r a s) := by
  unfold opRingBind
  try dsimp only
  repeat' first
    | with_reducible apply AnsKeeps.done
    | with_reducible apply AnsKeeps.doneThen
    | with_reducible apply AnsKeeps.ite
    | with_reducible exact hk
    | with_reducible assumption
    | intro _
    | with_reducible apply Keeps.ite
    | with_reducible apply keeps_bindRing
    | with_reducible apply keeps_drainRing
    | with_reducible apply Keeps.foldl

theorem keeps_opOpkeySet {σ s : State} {r : Nat} {a : Acc} (hk : Keeps σ s) : AnsKeeps σ ((opOpkeySet).run r a s) := by
  unfold opOpkeySet
  try dsimp only
  repeat' first
    | with_reducible apply AnsKeeps.done
    | with_reducible apply AnsKeeps.doneThen
    | with_reducible exact hk
    | with_reducible assumption
    | with_reducible exact tabPut_wf _ _ _
    | intro _
    | with_reducible apply keeps_audit
    | with_reducible apply keeps_closeCred
    | with_reducible apply keeps_keyStep
    | split
    | with_reducible apply Keeps.opKeys

theorem keeps_opOpkeyRevoke {σ s : State} {r : Nat} {a : Acc} (hk : Keeps σ s) : AnsKeeps σ ((opOpkeyRevoke).run r a s) := by
  unfold opOpkeyRevoke
  try dsimp only
  repeat' first
    | with_reducible apply AnsKeeps.done
    | with_reducible apply AnsKeeps.doneThen
    | with_reducible apply AnsKeeps.ite
    | with_reducible exact hk
    | with_reducible assumption
    | with_reducible exact tabDel_wf _ _
    | intro _
    | with_reducible apply keeps_audit
    | with_reducible apply keeps_closeCred
    | with_reducible apply keeps_keyStep
    | with_reducible apply Keeps.opKeys

theorem keeps_opInstcredSet {σ s : State} {r : Nat} {a : Acc} (hk : Keeps σ s) : AnsKeeps σ ((opInstcredSet).run r a s) := by
  unfold opInstcredSet
  try dsimp only
  repeat' first
    | with_reducible apply AnsKeeps.done
    | with_reducible apply AnsKeeps.doneThen
    | with_reducible exact hk
    | with_reducible assumption
    | with_reducible exact tabPut_wf _ _ _
    | intro _
    | with_reducible apply keeps_audit
    | with_reducible apply keeps_closeCred
    | with_reducible apply keeps_keyStep
    | split
    | with_reducible apply Keeps.instCreds

theorem keeps_opInstcredRevoke {σ s : State} {r : Nat} {a : Acc} (hk : Keeps σ s) : AnsKeeps σ ((opInstcredRevoke).run r a s) := by
  unfold opInstcredRevoke
  try dsimp only
  repeat' first
    | with_reducible apply AnsKeeps.done
    | with_reducible apply AnsKeeps.doneThen
    | with_reducible apply AnsKeeps.ite
    | with_reducible exact hk
    | with_reducible assumption
    | with_reducible exact tabDel_wf _ _
    | intro _
    | with_reducible apply keeps_audit
    | with_reducible apply keeps_closeCred
    | with_reducible apply keeps_keyStep
    | with_reducible apply Keeps.instCreds

theorem keeps_opLcTransition {σ s : State} {r : Nat} {a : Acc} {b : BootTest} (hk : Keeps σ s) : AnsKeeps σ ((opLcTransition b).run r a s) := by
  unfold opLcTransition
  try dsimp only
  repeat' first
    | with_reducible apply AnsKeeps.doneThen
    | with_reducible apply AnsKeeps.ite
    | with_reducible exact hk
    | with_reducible assumption
    | intro _
    | with_reducible apply Keeps.wr
    | with_reducible apply keeps_audit
    | with_reducible apply keeps_closeAll
    | with_reducible apply keeps_zeroise
    | ((with_reducible show offTime _ = true); rfl)

theorem keeps_opReturnApprove {σ s : State} {r : Nat} {a : Acc} (hk : Keeps σ s) : AnsKeeps σ ((opReturnApprove).run r a s) := by
  unfold opReturnApprove
  try dsimp only
  repeat' first
    | with_reducible apply AnsKeeps.done
    | with_reducible exact hk
    | with_reducible apply Keeps.wrs
    | ((with_reducible show List.all _ _ = true); rfl)

theorem keeps_opZeroize {σ s : State} {r : Nat} {a : Acc} {b : BootTest} (hk : Keeps σ s) : AnsKeeps σ ((opZeroize b).run r a s) := by
  unfold opZeroize
  try dsimp only
  repeat' first
    | with_reducible apply AnsKeeps.doneThen
    | with_reducible exact hk
    | with_reducible assumption
    | intro _
    | with_reducible apply keeps_zeroise

theorem keeps_markExported {σ : State} {s : State} {seqs : List Nat} (hk : Keeps σ s) : Keeps σ (markExported s seqs) := by
  unfold markExported
  try dsimp only
  repeat' first
    | with_reducible exact hk
    | with_reducible exact Keeps.refl _
    | with_reducible exact id
    | with_reducible apply Keeps.record

theorem keeps_opAuditExport {σ s : State} {r : Nat} {a : Acc} (hk : Keeps σ s) : AnsKeeps σ ((opAuditExport).run r a s) := by
  unfold opAuditExport
  try dsimp only
  repeat' first
    | with_reducible apply AnsKeeps.done
    | with_reducible exact hk
    | with_reducible apply Keeps.wr
    | with_reducible apply Keeps.took
    | with_reducible apply keeps_markExported
    | with_reducible apply keeps_toHost
    | ((with_reducible show offTime _ = true); rfl)

theorem keeps_opAttest {σ s : State} {r : Nat} {a : Acc} (hk : Keeps σ s) : AnsKeeps σ ((opAttest).run r a s) := by
  unfold opAttest
  try dsimp only
  repeat' first
    | with_reducible apply AnsKeeps.done
    | with_reducible exact hk
    | with_reducible apply Keeps.took
    | with_reducible apply keeps_toHost

theorem keeps_putPiece {σ : State} {s : State} {slot : Nat} {off : Nat} {b : List Byte} (hk : Keeps σ s) : Keeps σ (putPiece s slot off b) := by
  unfold putPiece
  try dsimp only
  repeat' first
    | with_reducible exact hk
    | with_reducible exact tabPut_wf _ _ _
    | split
    | with_reducible apply Keeps.flash

theorem keeps_opFwWrite {σ s : State} {r : Nat} {a : Acc} (hk : Keeps σ s) : AnsKeeps σ ((opFwWrite).run r a s) := by
  unfold opFwWrite
  try dsimp only
  repeat' first
    | with_reducible apply AnsKeeps.done
    | with_reducible apply AnsKeeps.doneThen
    | with_reducible apply AnsKeeps.ite
    | with_reducible exact hk
    | with_reducible assumption
    | intro _
    | with_reducible apply Keeps.ite
    | with_reducible apply Keeps.wr
    | with_reducible apply Keeps.wrs
    | with_reducible apply keeps_putPiece
    | with_reducible apply keeps_readHeaders
    | ((with_reducible show offTime _ = true); rfl)
    | ((with_reducible show List.all _ _ = true); rfl)

theorem keeps_opFwRestart {σ s : State} {r : Nat} {a : Acc} (hk : Keeps σ s) : AnsKeeps σ ((opFwRestart).run r a s) := by
  unfold opFwRestart
  try dsimp only
  repeat' first
    | with_reducible apply AnsKeeps.wait
    | with_reducible exact hk
    | with_reducible apply Keeps.wr
    | ((with_reducible show offTime _ = true); rfl)

theorem keeps_restartEnd {σ : State} {s : State} {p : Reply} (hk : Keeps σ s) : Keeps σ (restartEnd s p) := by
  unfold restartEnd
  try dsimp only
  repeat' first
    | with_reducible exact hk
    | with_reducible apply Keeps.wr
    | with_reducible apply keeps_closeAll
    | with_reducible apply keeps_complete
    | ((with_reducible show offTime _ = true); rfl)

theorem keeps_execFwRestartDone {σ : State} {s : State} (hk : Keeps σ s) : NextKeeps σ (execFwRestartDone s) := by
  unfold execFwRestartDone
  try dsimp only
  repeat' first
    | with_reducible apply NextKeeps.mk
    | with_reducible exact hk
    | with_reducible apply Keeps.ite
    | with_reducible apply keeps_fwRun
    | with_reducible apply keeps_restartEnd

theorem keeps_execFwRestartTimeout {σ : State} {s : State} (hk : Keeps σ s) : NextKeeps σ (execFwRestartTimeout s) := by
  unfold execFwRestartTimeout
  try dsimp only
  repeat' first
    | with_reducible apply NextKeeps.mk
    | with_reducible exact hk
    | with_reducible apply Keeps.ite
    | with_reducible apply keeps_restartEnd

theorem keeps_opFwCommit {σ s : State} {r : Nat} {a : Acc} (hk : Keeps σ s) : AnsKeeps σ ((opFwCommit).run r a s) := by
  unfold opFwCommit
  try dsimp only
  repeat' first
    | with_reducible apply AnsKeeps.done
    | with_reducible exact hk
    | with_reducible apply Keeps.wr
    | ((with_reducible show offTime _ = true); rfl)

theorem keeps_execSessionInfo {σ : State} {r : Ring} {s : State} (hk : Keeps σ s) : NextKeeps σ (execSessionInfo r s) := by
  unfold execSessionInfo
  try dsimp only
  repeat' first
    | with_reducible apply NextKeeps.mk
    | with_reducible exact hk
    | with_reducible assumption
    | intro _
    | with_reducible apply keeps_dispatch
    | with_reducible apply keeps_opSessionInfo

theorem keeps_execSessionClose {σ : State} {r : Ring} {s : State} (hk : Keeps σ s) : NextKeeps σ (execSessionClose r s) := by
  unfold execSessionClose
  try dsimp only
  repeat' first
    | with_reducible apply NextKeeps.mk
    | with_reducible exact hk
    | with_reducible assumption
    | intro _
    | with_reducible apply keeps_dispatch
    | with_reducible apply keeps_opSessionClose

theorem keeps_execRingBind {σ : State} {r : Ring} {s : State} (hk : Keeps σ s) : NextKeeps σ (execRingBind r s) := by
  unfold execRingBind
  try dsimp only
  repeat' first
    | with_reducible apply NextKeeps.mk
    | with_reducible exact hk
    | with_reducible assumption
    | intro _
    | with_reducible apply keeps_dispatch
    | with_reducible apply keeps_opRingBind

theorem keeps_execOpkeySet {σ : State} {r : Ring} {s : State} (hk : Keeps σ s) : NextKeeps σ (execOpkeySet r s) := by
  unfold execOpkeySet
  try dsimp only
  repeat' first
    | with_reducible apply NextKeeps.mk
    | with_reducible exact hk
    | with_reducible assumption
    | intro _
    | with_reducible apply keeps_dispatch
    | with_reducible apply keeps_opOpkeySet

theorem keeps_execOpkeyRevoke {σ : State} {r : Ring} {s : State} (hk : Keeps σ s) : NextKeeps σ (execOpkeyRevoke r s) := by
  unfold execOpkeyRevoke
  try dsimp only
  repeat' first
    | with_reducible apply NextKeeps.mk
    | with_reducible exact hk
    | with_reducible assumption
    | intro _
    | with_reducible apply keeps_dispatch
    | with_reducible apply keeps_opOpkeyRevoke

theorem keeps_execInstcredSet {σ : State} {r : Ring} {s : State} (hk : Keeps σ s) : NextKeeps σ (execInstcredSet r s) := by
  unfold execInstcredSet
  try dsimp only
  repeat' first
    | with_reducible apply NextKeeps.mk
    | with_reducible exact hk
    | with_reducible assumption
    | intro _
    | with_reducible apply keeps_dispatch
    | with_reducible apply keeps_opInstcredSet

theorem keeps_execInstcredRevoke {σ : State} {r : Ring} {s : State} (hk : Keeps σ s) : NextKeeps σ (execInstcredRevoke r s) := by
  unfold execInstcredRevoke
  try dsimp only
  repeat' first
    | with_reducible apply NextKeeps.mk
    | with_reducible exact hk
    | with_reducible assumption
    | intro _
    | with_reducible apply keeps_dispatch
    | with_reducible apply keeps_opInstcredRevoke

theorem keeps_execLcTransition {σ : State} {r : Ring} {b : BootTest} {s : State} (hk : Keeps σ s) : NextKeeps σ (execLcTransition r b s) := by
  unfold execLcTransition
  try dsimp only
  repeat' first
    | with_reducible apply NextKeeps.mk
    | with_reducible exact hk
    | with_reducible assumption
    | intro _
    | with_reducible apply keeps_dispatch
    | with_reducible apply keeps_opLcTransition

theorem keeps_execReturnApprove {σ : State} {r : Ring} {s : State} (hk : Keeps σ s) : NextKeeps σ (execReturnApprove r s) := by
  unfold execReturnApprove
  try dsimp only
  repeat' first
    | with_reducible apply NextKeeps.mk
    | with_reducible exact hk
    | with_reducible assumption
    | intro _
    | with_reducible apply keeps_dispatch
    | with_reducible apply keeps_opReturnApprove

theorem keeps_execZeroize {σ : State} {r : Ring} {b : BootTest} {s : State} (hk : Keeps σ s) : NextKeeps σ (execZeroize r b s) := by
  unfold execZeroize
  try dsimp only
  repeat' first
    | with_reducible apply NextKeeps.mk
    | with_reducible exact hk
    | with_reducible assumption
    | intro _
    | with_reducible apply keeps_dispatch
    | with_reducible apply keeps_opZeroize

theorem keeps_execAuditExport {σ : State} {r : Ring} {s : State} (hk : Keeps σ s) : NextKeeps σ (execAuditExport r s) := by
  unfold execAuditExport
  try dsimp only
  repeat' first
    | with_reducible apply NextKeeps.mk
    | with_reducible exact hk
    | with_reducible assumption
    | intro _
    | with_reducible apply keeps_dispatch
    | with_reducible apply keeps_opAuditExport

theorem keeps_execAttest {σ : State} {r : Ring} {s : State} (hk : Keeps σ s) : NextKeeps σ (execAttest r s) := by
  unfold execAttest
  try dsimp only
  repeat' first
    | with_reducible apply NextKeeps.mk
    | with_reducible exact hk
    | with_reducible assumption
    | intro _
    | with_reducible apply keeps_dispatch
    | with_reducible apply keeps_opAttest

theorem keeps_execFwWrite {σ : State} {r : Ring} {s : State} (hk : Keeps σ s) : NextKeeps σ (execFwWrite r s) := by
  unfold execFwWrite
  try dsimp only
  repeat' first
    | with_reducible apply NextKeeps.mk
    | with_reducible exact hk
    | with_reducible assumption
    | intro _
    | with_reducible apply keeps_dispatch
    | with_reducible apply keeps_opFwWrite

theorem keeps_execFwRestart {σ : State} {r : Ring} {s : State} (hk : Keeps σ s) : NextKeeps σ (execFwRestart r s) := by
  unfold execFwRestart
  try dsimp only
  repeat' first
    | with_reducible apply NextKeeps.mk
    | with_reducible exact hk
    | with_reducible assumption
    | intro _
    | with_reducible apply keeps_dispatch
    | with_reducible apply keeps_opFwRestart

theorem keeps_execFwCommit {σ : State} {r : Ring} {s : State} (hk : Keeps σ s) : NextKeeps σ (execFwCommit r s) := by
  unfold execFwCommit
  try dsimp only
  repeat' first
    | with_reducible apply NextKeeps.mk
    | with_reducible exact hk
    | with_reducible assumption
    | intro _
    | with_reducible apply keeps_dispatch
    | with_reducible apply keeps_opFwCommit

/-! ## Rings -/

theorem keeps_dropWrite {σ : State} {bar : Nat} {off : Nat} {s : State} (hk : Keeps σ s) : Keeps σ (dropWrite bar off s) := by
  unfold dropWrite
  try dsimp only
  repeat' first
    | with_reducible exact hk
    | with_reducible apply Keeps.bump
    | with_reducible apply Keeps.wrs
    | with_reducible apply keeps_faultC
    | with_reducible apply keeps_perf
    | ((with_reducible show offTime _ = true); rfl)
    | ((with_reducible show List.all _ _ = true); rfl)

theorem keeps_storeErr {σ : State} {s : State} {off : Nat} (hk : Keeps σ s) : Keeps σ (storeErr s off) := by
  unfold storeErr
  try dsimp only
  repeat' first
    | with_reducible exact hk
    | with_reducible apply Keeps.bump
    | with_reducible apply keeps_faultK
    | ((with_reducible show offTime _ = true); rfl)

theorem keeps_onesRead {σ : State} {s : State} {off : Nat} {f : Fld} {kind : Nat} (hk : Keeps σ s) (hf : offTime f = true) : Keeps σ (onesRead s off f kind) := by
  unfold onesRead
  try dsimp only
  repeat' first
    | with_reducible exact hk
    | with_reducible apply Keeps.wrs
    | with_reducible apply keeps_perf
    | ((with_reducible show List.all _ _ = true); simp only [List.all_cons, List.all_nil, hf, Bool.and_true, Bool.true_and]; try rfl)

theorem keeps_badMacClose {σ : State} {s : State} {r : Nat} {h : Nat} (hk : Keeps σ s) : Keeps σ (badMacClose s r h) := by
  unfold badMacClose
  try dsimp only
  repeat' first
    | with_reducible exact hk
    | with_reducible apply Keeps.ite
    | with_reducible apply keeps_audit
    | with_reducible apply keeps_closeSession
    | with_reducible apply keeps_faultC

theorem keeps_fetchOne {σ : State} {r : Nat} {s : State} {c : Cmd} (hk : Keeps σ s) : Keeps σ (fetchOne r s c) := by
  unfold fetchOne
  try dsimp only
  repeat' first
    | with_reducible exact hk
    | with_reducible exact tabPut_wf _ _ _
    | with_reducible apply Keeps.ite
    | with_reducible apply keeps_badMacClose
    | with_reducible apply keeps_finish
    | with_reducible apply keeps_perf
    | with_reducible apply keeps_setRing
    | split
    | with_reducible apply Keeps.sessions

theorem keeps_fetchAll {σ : State} {r n : Nat} : ∀ {s : State}, Keeps σ s → Keeps σ (fetchAll r n s) := by
  induction n with
  | zero => exact fun h => h
  | succ n ih =>
    intro s h
    unfold fetchAll
    dsimp only
    split
    · exact h
    · exact Keeps.ite (ih (keeps_fetchOne (keeps_setRing (keeps_idleUse h)))) h

theorem keeps_fetchMore {σ : State} {s : State} {r : Nat} (hk : Keeps σ s) : Keeps σ (fetchMore s r) := by
  unfold fetchMore
  try dsimp only
  repeat' first
    | with_reducible exact hk
    | with_reducible apply keeps_fetchAll

theorem keeps_fetchEvery {σ : State} {s : State} (hk : Keeps σ s) : Keeps σ (fetchEvery s) := by
  unfold fetchEvery
  try dsimp only
  repeat' first
    | with_reducible exact hk
    | with_reducible assumption
    | intro _
    | with_reducible apply keeps_fetchMore
    | with_reducible apply Keeps.foldl

theorem keeps_execSqDoorbell {σ : State} {r : Ring} {idx : BitVec 32} {es : List Cmd} {s : State} (hk : Keeps σ s) : NextKeeps σ (execSqDoorbell r idx es s) := by
  unfold execSqDoorbell
  try dsimp only
  repeat' first
    | with_reducible apply NextKeeps.mk
    | with_reducible exact hk
    | with_reducible apply Keeps.ite
    | with_reducible apply keeps_dropWrite
    | with_reducible apply keeps_fetchMore
    | with_reducible apply keeps_setRing

theorem keeps_execCqDoorbell {σ : State} {r : Ring} {idx : BitVec 32} {s : State} (hk : Keeps σ s) : NextKeeps σ (execCqDoorbell r idx s) := by
  unfold execCqDoorbell
  try dsimp only
  repeat' first
    | with_reducible apply NextKeeps.mk
    | with_reducible exact hk
    | with_reducible apply Keeps.ite
    | with_reducible apply keeps_drainCq
    | with_reducible apply keeps_dropWrite
    | with_reducible apply keeps_fetchMore
    | with_reducible apply keeps_setRing
    | with_reducible apply keeps_settleRing

theorem keeps_execRingGeometryWrite {σ : State} {r : Ring} {reg : GeoReg} {v : BitVec 64} {s : State} (hk : Keeps σ s) : NextKeeps σ (execRingGeometryWrite r reg v s) := by
  unfold execRingGeometryWrite
  try dsimp only
  repeat' first
    | with_reducible apply NextKeeps.mk
    | with_reducible exact hk
    | with_reducible apply Keeps.ite
    | with_reducible apply keeps_dropWrite
    | with_reducible apply keeps_setRing
    | split

theorem keeps_execHifRgIrqWrite {σ : State} {r : Ring} {v : BitVec 32} {s : State} (hk : Keeps σ s) : NextKeeps σ (execHifRgIrqWrite r v s) := by
  unfold execHifRgIrqWrite
  try dsimp only
  repeat' first
    | with_reducible apply NextKeeps.mk
    | with_reducible exact hk
    | with_reducible apply keeps_setRing

theorem keeps_execRingIrqTimeout {σ : State} {r : Ring} {s : State} (hk : Keeps σ s) : NextKeeps σ (execRingIrqTimeout r s) := by
  unfold execRingIrqTimeout
  try dsimp only
  repeat' first
    | with_reducible apply NextKeeps.mk
    | with_reducible exact hk
    | with_reducible apply Keeps.ite
    | with_reducible apply keeps_sendIrq
    | with_reducible apply keeps_setRing

theorem keeps_execRingFetchError {σ : State} {r : Ring} {tag : BitVec 16} {s : State} (hk : Keeps σ s) : NextKeeps σ (execRingFetchError r tag s) := by
  unfold execRingFetchError
  try dsimp only
  repeat' first
    | with_reducible apply NextKeeps.mk
    | with_reducible exact hk
    | with_reducible apply Keeps.ite
    | with_reducible apply keeps_faultC
    | with_reducible apply keeps_finish
    | with_reducible apply keeps_setRing

theorem keeps_execRingCqWriteError {σ : State} {r : Ring} {s : State} (hk : Keeps σ s) : NextKeeps σ (execRingCqWriteError r s) := by
  unfold execRingCqWriteError
  try dsimp only
  repeat' first
    | with_reducible apply NextKeeps.mk
    | with_reducible exact hk
    | with_reducible apply Keeps.ite
    | with_reducible apply keeps_faultC
    | with_reducible apply keeps_setRing

theorem keeps_execOpcodeUnassigned {σ : State} {r : Ring} {s : State} (hk : Keeps σ s) : NextKeeps σ (execOpcodeUnassigned r s) := by
  unfold execOpcodeUnassigned
  try dsimp only
  repeat' first
    | with_reducible apply NextKeeps.mk
    | with_reducible exact hk
    | with_reducible apply Keeps.ite
    | with_reducible apply Keeps.took
    | with_reducible apply keeps_finish
    | with_reducible apply keeps_popFront
    | split

theorem keeps_opNop {σ s : State} {r : Nat} {a : Acc} (hk : Keeps σ s) : AnsKeeps σ ((opNop).run r a s) := by
  unfold opNop
  try dsimp only
  repeat' first
    | with_reducible apply AnsKeeps.done
    | with_reducible exact hk

theorem keeps_opFence {σ s : State} {r : Nat} {a : Acc} (hk : Keeps σ s) : AnsKeeps σ ((opFence).run r a s) := by
  unfold opFence
  try dsimp only
  repeat' first
    | with_reducible apply AnsKeeps.wait
    | with_reducible apply AnsKeeps.doneThen
    | with_reducible apply AnsKeeps.ite
    | with_reducible exact hk
    | with_reducible assumption
    | intro _
    | with_reducible apply keeps_setRing

theorem keeps_execFenceRelease {σ : State} {r : Ring} {s : State} (hk : Keeps σ s) : NextKeeps σ (execFenceRelease r s) := by
  unfold execFenceRelease
  try dsimp only
  repeat' first
    | with_reducible apply NextKeeps.mk
    | with_reducible exact hk
    | with_reducible apply Keeps.ite
    | with_reducible apply keeps_dropRun
    | with_reducible apply keeps_finish
    | with_reducible apply keeps_setRing
    | split

theorem keeps_opBarrier {σ s : State} {r : Nat} {a : Acc} (hk : Keeps σ s) : AnsKeeps σ ((opBarrier).run r a s) := by
  unfold opBarrier
  try dsimp only
  repeat' first
    | with_reducible apply AnsKeeps.done
    | with_reducible apply AnsKeeps.wait
    | with_reducible apply AnsKeeps.ite
    | with_reducible exact hk

theorem keeps_execBarrierTimeout {σ : State} {id : BitVec 16} {h : Fin 64} {s : State} (hk : Keeps σ s) : NextKeeps σ (execBarrierTimeout id h s) := by
  unfold execBarrierTimeout
  try dsimp only
  repeat' first
    | with_reducible apply NextKeeps.mk
    | with_reducible exact hk
    | with_reducible apply keeps_complete

theorem keeps_execNop {σ : State} {r : Ring} {s : State} (hk : Keeps σ s) : NextKeeps σ (execNop r s) := by
  unfold execNop
  try dsimp only
  repeat' first
    | with_reducible apply NextKeeps.mk
    | with_reducible exact hk
    | with_reducible assumption
    | intro _
    | with_reducible apply keeps_dispatch
    | with_reducible apply keeps_opNop

theorem keeps_execFence {σ : State} {r : Ring} {s : State} (hk : Keeps σ s) : NextKeeps σ (execFence r s) := by
  unfold execFence
  try dsimp only
  repeat' first
    | with_reducible apply NextKeeps.mk
    | with_reducible exact hk
    | with_reducible assumption
    | intro _
    | with_reducible apply keeps_dispatch
    | with_reducible apply keeps_opFence

theorem keeps_execBarrier {σ : State} {r : Ring} {s : State} (hk : Keeps σ s) : NextKeeps σ (execBarrier r s) := by
  unfold execBarrier
  try dsimp only
  repeat' first
    | with_reducible apply NextKeeps.mk
    | with_reducible exact hk
    | with_reducible assumption
    | intro _
    | with_reducible apply keeps_dispatch
    | with_reducible apply keeps_faultC
    | with_reducible apply keeps_opBarrier
    | with_reducible apply keeps_settleBarriers

theorem keeps_putEvq {σ : State} {s : State} {q : Nat} {e : EvQ} (hk : Keeps σ s) : Keeps σ (putEvq s q e) := by
  unfold putEvq
  try dsimp only
  repeat' first
    | with_reducible exact hk
    | with_reducible exact tabPut_wf _ _ _
    | with_reducible apply Keeps.evqs

theorem keeps_putPunt {σ : State} {s : State} {k : Key} {p : PuntRing} (hk : Keeps σ s) : Keeps σ (putPunt s k p) := by
  unfold putPunt
  try dsimp only
  repeat' first
    | with_reducible exact hk
    | with_reducible exact tabPut_wf _ _ _
    | with_reducible apply Keeps.punts

theorem keeps_opEvqSetup {σ s : State} {r : Nat} {a : Acc} (hk : Keeps σ s) : AnsKeeps σ ((opEvqSetup).run r a s) := by
  unfold opEvqSetup
  try dsimp only
  repeat' first
    | with_reducible apply AnsKeeps.done
    | with_reducible exact hk
    | with_reducible apply Keeps.wr
    | with_reducible apply keeps_putEvq
    | ((with_reducible show offTime _ = true); rfl)

theorem keeps_opEvqClose {σ s : State} {r : Nat} {a : Acc} (hk : Keeps σ s) : AnsKeeps σ ((opEvqClose).run r a s) := by
  unfold opEvqClose
  try dsimp only
  repeat' first
    | with_reducible apply AnsKeeps.done
    | with_reducible exact hk
    | with_reducible exact tabDel_wf _ _
    | with_reducible apply Keeps.wr
    | ((with_reducible show offTime _ = true); rfl)
    | with_reducible apply Keeps.evqs

theorem keeps_execEvqSetup {σ : State} {r : Ring} {s : State} (hk : Keeps σ s) : NextKeeps σ (execEvqSetup r s) := by
  unfold execEvqSetup
  try dsimp only
  repeat' first
    | with_reducible apply NextKeeps.mk
    | with_reducible exact hk
    | with_reducible assumption
    | intro _
    | with_reducible apply keeps_dispatch
    | with_reducible apply keeps_opEvqSetup

theorem keeps_execEvqClose {σ : State} {r : Ring} {s : State} (hk : Keeps σ s) : NextKeeps σ (execEvqClose r s) := by
  unfold execEvqClose
  try dsimp only
  repeat' first
    | with_reducible apply NextKeeps.mk
    | with_reducible exact hk
    | with_reducible assumption
    | intro _
    | with_reducible apply keeps_dispatch
    | with_reducible apply keeps_opEvqClose

theorem keeps_evqLost {σ : State} {s : State} {q : Nat} (hk : Keeps σ s) : Keeps σ (evqLost s q) := by
  unfold evqLost
  try dsimp only
  repeat' first
    | with_reducible exact hk
    | with_reducible apply Keeps.ite
    | with_reducible apply keeps_putEvq
    | with_reducible apply keeps_sendIrq
    | with_reducible apply keeps_toHost
    | split

theorem keeps_execEvqHeadDoorbell {σ : State} {q : Fin 16} {idx : BitVec 32} {s : State} (hk : Keeps σ s) : NextKeeps σ (execEvqHeadDoorbell q idx s) := by
  unfold execEvqHeadDoorbell
  try dsimp only
  repeat' first
    | with_reducible apply NextKeeps.mk
    | with_reducible exact hk
    | with_reducible apply Keeps.ite
    | with_reducible apply keeps_dropWrite
    | with_reducible apply keeps_evqLost
    | with_reducible apply keeps_putEvq
    | split

theorem keeps_execEvqIrqTimeout {σ : State} {q : Fin 16} {s : State} (hk : Keeps σ s) : NextKeeps σ (execEvqIrqTimeout q s) := by
  unfold execEvqIrqTimeout
  try dsimp only
  repeat' first
    | with_reducible apply NextKeeps.mk
    | with_reducible exact hk
    | with_reducible apply Keeps.ite
    | with_reducible apply keeps_putEvq
    | with_reducible apply keeps_sendIrq
    | split

theorem keeps_opPuntSetup {σ s : State} {r : Nat} {a : Acc} (hk : Keeps σ s) : AnsKeeps σ ((opPuntSetup).run r a s) := by
  unfold opPuntSetup
  try dsimp only
  repeat' first
    | with_reducible apply AnsKeeps.done
    | with_reducible apply AnsKeeps.ite
    | with_reducible exact hk
    | with_reducible apply keeps_putPunt
    | split

theorem keeps_execPuntSetup {σ : State} {r : Ring} {s : State} (hk : Keeps σ s) : NextKeeps σ (execPuntSetup r s) := by
  unfold execPuntSetup
  try dsimp only
  repeat' first
    | with_reducible apply NextKeeps.mk
    | with_reducible exact hk
    | with_reducible assumption
    | intro _
    | with_reducible apply keeps_dispatch
    | with_reducible apply keeps_opPuntSetup

theorem keeps_puntDoorbell {σ : State} {s : State} {p : Nat} {fromHost : Bool} {off : Nat} {idx : Nat} {add : Nat} (hk : Keeps σ s) : Keeps σ (puntDoorbell s p fromHost off idx add) := by
  unfold puntDoorbell
  try dsimp only
  repeat' first
    | with_reducible exact hk
    | with_reducible apply Keeps.ite
    | with_reducible apply keeps_dropWrite
    | with_reducible apply keeps_putPunt
    | split

theorem keeps_execPuntRxDoorbell {σ : State} {p : Fin 64} {idx : BitVec 32} {s : State} (hk : Keeps σ s) : NextKeeps σ (execPuntRxDoorbell p idx s) := by
  unfold execPuntRxDoorbell
  try dsimp only
  repeat' first
    | with_reducible apply NextKeeps.mk
    | with_reducible exact hk
    | with_reducible apply keeps_puntDoorbell

theorem keeps_execPuntTxDoorbell {σ : State} {p : Fin 64} {idx : BitVec 32} {s : State} (hk : Keeps σ s) : NextKeeps σ (execPuntTxDoorbell p idx s) := by
  unfold execPuntTxDoorbell
  try dsimp only
  repeat' first
    | with_reducible apply NextKeeps.mk
    | with_reducible exact hk
    | with_reducible apply keeps_puntDoorbell

theorem keeps_puntAdvance {σ : State} {s : State} {k : Key} {q : PuntRing} {off : Nat} {wb : List Byte} (hk : Keeps σ s) : Keeps σ (puntAdvance s k q off wb) := by
  unfold puntAdvance
  try dsimp only
  repeat' first
    | with_reducible exact hk
    | with_reducible apply Keeps.ite
    | with_reducible apply keeps_putPunt
    | with_reducible apply keeps_sendIrq
    | with_reducible apply keeps_toHost

theorem keeps_execPuntIrqTimeout {σ : State} {p : Fin 64} {fromHost : Bool} {s : State} (hk : Keeps σ s) : NextKeeps σ (execPuntIrqTimeout p fromHost s) := by
  unfold execPuntIrqTimeout
  try dsimp only
  repeat' first
    | with_reducible apply NextKeeps.mk
    | with_reducible exact hk
    | with_reducible apply Keeps.ite
    | with_reducible apply keeps_putPunt
    | with_reducible apply keeps_sendIrq
    | split

theorem keeps_hostClose {σ : State} {s : State} {h : Nat} (hk : Keeps σ s) : Keeps σ (hostClose s h) := by
  unfold hostClose
  try dsimp only
  repeat' first
    | with_reducible exact hk
    | with_reducible exact tabDel_wf _ _
    | with_reducible apply keeps_audit
    | with_reducible apply keeps_ctxClose
    | with_reducible apply keeps_dropOpen
    | with_reducible apply keeps_flushSummaries
    | split
    | with_reducible apply Keeps.sessions

theorem keeps_hostRing {σ : State} {s : State} {r : Nat} (hk : Keeps σ s) : Keeps σ (hostRing s r) := by
  unfold hostRing
  try dsimp only
  repeat' first
    | with_reducible exact hk
    | with_reducible apply Keeps.ite
    | with_reducible apply Keeps.wr
    | with_reducible apply keeps_setRing
    | with_reducible apply keeps_settleRing
    | ((with_reducible show offTime _ = true); rfl)

theorem keeps_unwrAll {σ s : State} {l : List Fld} (hk : Keeps σ s) (hl : (l.all offTime) = true) :
    Keeps σ (unwrAll s l) := by
  refine hk.filterRegs fun e he => ?_
  rw [show idIn l e.1.1 = false from any_offTime hl he]
  rfl

theorem keeps_hostReset {σ : State} {s : State} (hk : Keeps σ s) : Keeps σ (hostReset s) := by
  unfold hostReset
  try dsimp only
  repeat' first
    | with_reducible exact hk
    | with_reducible assumption
    | with_reducible exact Keeps.refl _
    | with_reducible exact id
    | exact tabWf_nil
    | intro _
    | with_reducible apply Keeps.forEach
    | with_reducible apply Keeps.wrs
    | with_reducible apply Keeps.wrN
    | with_reducible apply keeps_hostClose
    | with_reducible apply keeps_hostRing
    | with_reducible apply keeps_unwrAll
    | ((with_reducible show offTime _ = true); rfl)
    | ((with_reducible show List.all _ _ = true); rfl)
    | with_reducible apply Keeps.record

theorem keeps_countHost {σ : State} {s : State} {kind : HostResetKind} (hk : Keeps σ s) : Keeps σ (countHost s kind) := by
  unfold countHost
  try dsimp only
  repeat' first
    | with_reducible exact hk
    | with_reducible apply Keeps.ite
    | with_reducible apply Keeps.bump
    | with_reducible apply Keeps.took
    | with_reducible apply Keeps.wr
    | ((with_reducible show offTime _ = true); rfl)
    | split

theorem keeps_execHostReset {σ : State} {kind : HostResetKind} {s : State} (hk : Keeps σ s) : NextKeeps σ (execHostReset kind s) := by
  unfold execHostReset
  try dsimp only
  repeat' first
    | with_reducible apply NextKeeps.mk
    | with_reducible exact hk
    | with_reducible apply Keeps.ite
    | with_reducible apply Keeps.wrs
    | with_reducible apply keeps_countHost
    | with_reducible apply keeps_hostReset
    | ((with_reducible show List.all _ _ = true); rfl)
    | split

theorem keeps_execPcieRefclkLoss {σ : State} {s : State} (hk : Keeps σ s) : NextKeeps σ (execPcieRefclkLoss s) := by
  unfold execPcieRefclkLoss
  try dsimp only
  repeat' first
    | with_reducible apply NextKeeps.mk
    | with_reducible exact hk
    | with_reducible apply Keeps.wr
    | ((with_reducible show offTime _ = true); rfl)

theorem keeps_execD3hotEntry {σ : State} {s : State} (hk : Keeps σ s) : NextKeeps σ (execD3hotEntry s) := by
  unfold execD3hotEntry
  try dsimp only
  repeat' first
    | with_reducible apply NextKeeps.mk
    | with_reducible exact hk
    | with_reducible apply Keeps.wr
    | ((with_reducible show offTime _ = true); rfl)

end Sys2Proof
end

