-- ==== Sys2Proof/Laws/Keeps2.lean ====
section
/-! SUPPORT. That each operation of Packets to Tables keeps the queue, the free values, the canonical form and local time. -/

namespace Sys2Proof

open Sys2Proof.Machine

/-! ## Packets -/

theorem keeps_setPkt {σ : State} {s : State} {k : Pkt} (hk : Keeps σ s) : Keeps σ (setPkt s k) := by
  unfold setPkt
  try dsimp only
  repeat' first
    | with_reducible exact hk
    | with_reducible apply Keeps.pkts

theorem keeps_sendPkt {σ : State} {s : State} {k : Pkt} (hk : Keeps σ s) : Keeps σ (sendPkt s k) := by
  unfold sendPkt
  try dsimp only
  repeat' first
    | with_reducible exact hk
    | with_reducible apply Keeps.pkts

theorem keeps_losePkt {σ : State} {s : State} {k : Pkt} (hk : Keeps σ s) : Keeps σ (losePkt s k) := by
  unfold losePkt
  try dsimp only
  repeat' first
    | with_reducible exact hk
    | with_reducible apply Keeps.pkts

theorem keeps_tookNum {σ : State} {s : State} (hk : Keeps σ s) : Keeps σ (tookNum s) := by
  unfold tookNum
  try dsimp only
  repeat' first
    | with_reducible exact hk
    | with_reducible apply Keeps.wr
    | ((with_reducible show offTime _ = true); rfl)

theorem keeps_newPkt {σ : State} {s : State} {k : Pkt} (hk : Keeps σ s) : Keeps σ (newPkt s k) := by
  unfold newPkt
  try dsimp only
  repeat' first
    | with_reducible exact hk
    | with_reducible exact Keeps.refl _
    | with_reducible exact id
    | with_reducible apply keeps_tookNum
    | with_reducible apply Keeps.record

theorem keeps_peakUp {σ : State} {s : State} {g : Nat} (hk : Keeps σ s) : Keeps σ (peakUp s g) := by
  unfold peakUp
  try dsimp only
  repeat' first
    | with_reducible exact hk
    | with_reducible apply Keeps.wr
    | ((with_reducible show offTime _ = true); rfl)

theorem keeps_traceWrite {σ : State} {s : State} {v : Nat} (hk : Keeps σ s) : Keeps σ (traceWrite s v) := by
  unfold traceWrite
  try dsimp only
  repeat' first
    | with_reducible exact hk
    | with_reducible apply Keeps.ite
    | with_reducible apply Keeps.bump
    | with_reducible apply Keeps.wrs
    | ((with_reducible show offTime _ = true); rfl)
    | ((with_reducible show List.all _ _ = true); rfl)

theorem keeps_trace {σ : State} {s : State} {k : Pkt} {point : Nat} {unit : Nat} {port : Nat} {detail : Nat} {depth : Nat} (hk : Keeps σ s) : Keeps σ (trace s k point unit port detail depth) := by
  unfold trace
  try dsimp only
  repeat' first
    | with_reducible exact hk
    | with_reducible apply Keeps.ite
    | with_reducible apply keeps_traceWrite

theorem keeps_tagPkt {σ : State} {s : State} {g : Nat} {k : Pkt} (hk : Keeps σ s) : Keeps σ (tagPkt s g k).1 := by
  unfold tagPkt
  try dsimp only
  try show FstKeeps σ _
  repeat' first
    | with_reducible apply FstKeeps.mk
    | with_reducible exact hk
    | with_reducible apply Keeps.bump
    | with_reducible apply Keeps.took
    | with_reducible apply Keeps.wr
    | ((with_reducible show offTime _ = true); rfl)
    | split

theorem keeps_galDrop {σ : State} {s : State} {g : Nat} {code : Nat} {k : Pkt} (hk : Keeps σ s) : Keeps σ (galDrop s g code k) := by
  unfold galDrop
  try dsimp only
  repeat' first
    | with_reducible exact hk
    | with_reducible apply keeps_countDrop
    | with_reducible apply keeps_losePkt
    | with_reducible apply keeps_perf
    | with_reducible apply keeps_trace

theorem keeps_setQueue {σ : State} {s : State} {q : Nat} {x : QueueS} (hk : Keeps σ s) : Keeps σ (setQueue s q x) := by
  unfold setQueue
  try dsimp only
  repeat' first
    | with_reducible exact hk
    | with_reducible exact tabPut_wf _ _ _
    | with_reducible apply Keeps.queues

theorem keeps_siloFreed {σ : State} {s : State} {h : Nat} (hk : Keeps σ s) : Keeps σ (siloFreed s h) := by
  unfold siloFreed
  try dsimp only
  repeat' first
    | with_reducible exact hk
    | with_reducible assumption
    | intro _
    | with_reducible apply Keeps.ite
    | with_reducible apply Keeps.forEach
    | with_reducible apply Keeps.took
    | with_reducible apply Keeps.wr
    | ((with_reducible show offTime _ = true); rfl)

theorem keeps_hallDrop {σ : State} {s : State} {h : Nat} {code : Nat} {q : Option Nat} {k : Pkt} (hk : Keeps σ s) : Keeps σ (hallDrop s h code q k) := by
  unfold hallDrop
  try dsimp only
  repeat' first
    | with_reducible exact hk
    | with_reducible apply Keeps.ite
    | with_reducible apply Keeps.stat
    | with_reducible apply keeps_losePkt
    | with_reducible apply keeps_perf
    | with_reducible apply keeps_setQueue
    | with_reducible apply keeps_siloFreed
    | with_reducible apply keeps_trace
    | ((with_reducible show offTime _ = true); rfl)
    | split

theorem keeps_dropAll {σ : State} {s : State} {code : Nat} {ks : List Pkt} (hk : Keeps σ s) : Keeps σ (dropAll s code ks) := by
  unfold dropAll
  try dsimp only
  repeat' first
    | with_reducible exact hk
    | with_reducible assumption
    | intro _
    | with_reducible apply keeps_hallDrop
    | with_reducible apply Keeps.foldl

theorem keeps_expire {σ : State} {s : State} {k : Pkt} (hk : Keeps σ s) : Keeps σ (expire s k) := by
  unfold expire
  try dsimp only
  repeat' first
    | with_reducible exact hk
    | with_reducible apply keeps_dropAll

theorem keeps_perfDram {σ : State} {s : State} {code : Nat} {first : Nat} {n : Nat} {amount : Nat} {role : Nat} (hk : Keeps σ s) : Keeps σ (perfDram s code first n amount role) := by
  unfold perfDram
  try dsimp only
  repeat' first
    | with_reducible exact hk
    | with_reducible apply Keeps.took
    | with_reducible apply keeps_perf

theorem keeps_mergeIn {σ : State} {s : State} {n : Nat} {block : Nat} {bytes : Nat} (hk : Keeps σ s) : Keeps σ (mergeIn s n block bytes) := by
  unfold mergeIn
  try dsimp only
  repeat' first
    | with_reducible exact hk
    | with_reducible exact tabPut_wf _ _ _
    | with_reducible apply Keeps.ite
    | split
    | with_reducible apply Keeps.merge

theorem keeps_granaryWrite {σ : State} {s : State} {bytes : Nat} {role : Nat} (hk : Keeps σ s) : Keeps σ (granaryWrite s bytes role) := by
  unfold granaryWrite
  try dsimp only
  repeat' first
    | with_reducible exact hk
    | with_reducible apply Keeps.ite
    | with_reducible apply Keeps.took
    | with_reducible apply keeps_mergeIn
    | with_reducible apply keeps_perfDram

theorem keeps_puntToHost {σ : State} {s : State} {p : Nat} {reason : Nat} {target : Nat} {len : Nat} {data : List Byte} {ok : Bool} (hk : Keeps σ s) : Keeps σ (puntToHost s p reason target len data ok) := by
  unfold puntToHost
  try dsimp only
  repeat' first
    | with_reducible exact hk
    | with_reducible apply Keeps.ite
    | with_reducible apply Keeps.stat
    | with_reducible apply Keeps.bump
    | with_reducible apply keeps_emit
    | with_reducible apply keeps_faultC
    | with_reducible apply keeps_perf
    | with_reducible apply keeps_puntAdvance
    | ((with_reducible show offTime _ = true); rfl)
    | split

theorem keeps_galPunt {σ : State} {s : State} {g : Nat} {r : FlightResult} {k : Pkt} (hk : Keeps σ s) : Keeps σ (galPunt s g r k) := by
  unfold galPunt
  try dsimp only
  repeat' first
    | with_reducible exact hk
    | with_reducible apply Keeps.stat
    | with_reducible apply keeps_perf
    | with_reducible apply keeps_puntToHost
    | ((with_reducible show offTime _ = true); rfl)

/-! ## Program -/

/-! ## Wake -/

theorem keeps_domGo {σ : State} {R : Raise} {s : State} {d : Nat} {st : Nat} {cause : Nat} (hk : Keeps σ s) (hR : ∀ a b c t, Keeps σ t → Keeps σ (R a b c t)) : Keeps σ (domGo R s d st cause) := by
  unfold domGo
  try dsimp only
  repeat' first
    | with_reducible exact hk
    | with_reducible apply hR
    | with_reducible apply Keeps.ite
    | with_reducible apply Keeps.took
    | with_reducible apply keeps_abortSlice
    | with_reducible apply keeps_domMove

theorem keeps_pwrStart {σ : State} {s : State} {d : Nat} {st : Nat} (hk : Keeps σ s) : Keeps σ (pwrStart s d st).1 := by
  unfold pwrStart
  try dsimp only
  try show FstKeeps σ _
  repeat' first
    | with_reducible apply FstKeeps.mk
    | with_reducible exact hk
    | with_reducible assumption
    | intro _
    | with_reducible apply keeps_domGo
    | with_reducible apply keeps_domMove
    | with_reducible apply keeps_raise
    | split

theorem keeps_resetLanes {σ : State} {s : State} {sh : Nat} (hk : Keeps σ s) : Keeps σ (resetLanes s sh) := by
  unfold resetLanes
  try dsimp only
  repeat' first
    | with_reducible exact hk
    | with_reducible assumption
    | intro _
    | with_reducible apply Keeps.unwr
    | with_reducible apply Keeps.forEach
    | with_reducible apply Keeps.wr
    | with_reducible apply keeps_raise
    | with_reducible apply keeps_setLane
    | ((with_reducible show offTime _ = true); rfl)

theorem keeps_resetGo {σ : State} {s : State} {d : Nat} (hk : Keeps σ s) : Keeps σ (resetGo s d) := by
  unfold resetGo
  try dsimp only
  repeat' first
    | with_reducible exact hk
    | with_reducible assumption
    | intro _
    | with_reducible apply Keeps.ite
    | with_reducible apply Keeps.took
    | with_reducible apply Keeps.wrs
    | with_reducible apply keeps_abortSlice
    | with_reducible apply keeps_corStart
    | with_reducible apply keeps_domSleep
    | with_reducible apply keeps_raise
    | with_reducible apply keeps_resetCorridor
    | with_reducible apply keeps_resetLanes
    | with_reducible apply keeps_setDomSt
    | with_reducible apply keeps_siteToPads
    | ((with_reducible show List.all _ _ = true); rfl)
    | split

theorem keeps_rewait {σ : State} {s : State} {x : Run} {ds : List Nat} (hk : Keeps σ s) : Keeps σ (rewait s x ds) := by
  unfold rewait
  try dsimp only
  repeat' first
    | with_reducible exact hk
    | with_reducible exact Keeps.refl _
    | with_reducible exact id
    | with_reducible apply Keeps.record

theorem keeps_answer {σ : State} {s : State} {x : Run} {p : Reply} (hk : Keeps σ s) : Keeps σ (answer s x p) := by
  unfold answer
  try dsimp only
  repeat' first
    | with_reducible exact hk
    | with_reducible apply keeps_dropRun
    | with_reducible apply keeps_finish

theorem keeps_rewake {σ : State} {s : State} {x : Run} {ds : List Nat} (hk : Keeps σ s) : Keeps σ (rewake s x ds) := by
  unfold rewake
  try dsimp only
  repeat' first
    | with_reducible exact hk
    | with_reducible exact Keeps.refl _
    | with_reducible exact id
    | with_reducible apply keeps_wakeFirst
    | with_reducible apply Keeps.record

theorem keeps_pwrAct {σ : State} {s : State} {x : Run} {d : Nat} {st : Nat} (hk : Keeps σ s) : Keeps σ (pwrAct s x d st) := by
  unfold pwrAct
  try dsimp only
  repeat' first
    | with_reducible exact hk
    | with_reducible apply Keeps.ite
    | with_reducible apply keeps_answer
    | with_reducible apply keeps_pwrStart
    | with_reducible apply keeps_rewait
    | with_reducible apply keeps_rewake
    | split

theorem keeps_resetAct {σ : State} {s : State} {x : Run} {d : Nat} (hk : Keeps σ s) : Keeps σ (resetAct s x d) := by
  unfold resetAct
  try dsimp only
  repeat' first
    | with_reducible exact hk
    | with_reducible apply Keeps.ite
    | with_reducible apply keeps_answer
    | with_reducible apply keeps_resetGo
    | with_reducible apply keeps_rewait
    | with_reducible apply keeps_rewake

theorem keeps_resume {σ : State} {d : Nat} {s : State} {x : Run} (hk : Keeps σ s) : Keeps σ (resume d s x) := by
  unfold resume
  try dsimp only
  repeat' first
    | with_reducible exact hk
    | with_reducible apply Keeps.ite
    | with_reducible apply keeps_pwrAct
    | with_reducible apply keeps_resetAct
    | split

theorem keeps_resumeBehind {σ : State} {c : Nat} {s : State} {x : Run} (hk : Keeps σ s) : Keeps σ (resumeBehind c s x) := by
  unfold resumeBehind
  try dsimp only
  repeat' first
    | with_reducible exact hk
    | with_reducible apply Keeps.ite
    | with_reducible apply keeps_pwrAct
    | split

theorem keeps_domAwake {σ : State} {s : State} {d : Nat} (hk : Keeps σ s) : Keeps σ (domAwake s d) := by
  unfold domAwake
  try dsimp only
  repeat' first
    | with_reducible exact hk
    | with_reducible assumption
    | intro _
    | with_reducible apply keeps_complete
    | with_reducible apply keeps_resumeBehind
    | with_reducible apply keeps_wakeDone
    | with_reducible apply Keeps.foldl

theorem keeps_domFollow {σ : State} {s : State} {d : Nat} (hk : Keeps σ s) : Keeps σ (domFollow s d) := by
  unfold domFollow
  try dsimp only
  repeat' first
    | with_reducible exact hk
    | with_reducible assumption
    | intro _
    | with_reducible apply Keeps.ite
    | with_reducible apply Keeps.wr
    | with_reducible apply keeps_complete
    | with_reducible apply keeps_domGo
    | with_reducible apply keeps_raise
    | ((with_reducible show offTime _ = true); rfl)

theorem keeps_txGo {σ : State} {s : State} {d : Nat} (hk : Keeps σ s) : Keeps σ (txGo s d) := by
  unfold txGo
  try dsimp only
  repeat' first
    | with_reducible exact hk
    | with_reducible assumption
    | intro _
    | with_reducible apply keeps_wakeNext
    | with_reducible apply Keeps.foldl

theorem keeps_domUp {σ : State} {s : State} {d : Nat} (hk : Keeps σ s) : Keeps σ (domUp s d) := by
  unfold domUp
  try dsimp only
  repeat' first
    | with_reducible exact hk
    | with_reducible assumption
    | intro _
    | with_reducible apply Keeps.ite
    | with_reducible apply Keeps.forEach
    | with_reducible apply Keeps.wr
    | with_reducible apply Keeps.wrs
    | with_reducible apply keeps_domAwake
    | with_reducible apply keeps_domWake
    | with_reducible apply keeps_galTake
    | with_reducible apply keeps_perf
    | with_reducible apply keeps_raise
    | with_reducible apply keeps_setDomSt
    | with_reducible apply keeps_siteClear
    | with_reducible apply keeps_txGo
    | ((with_reducible show offTime _ = true); rfl)
    | ((with_reducible show List.all _ _ = true); rfl)
    | split

theorem keeps_domDown {σ : State} {s : State} {d : Nat} {st : Nat} (hk : Keeps σ s) : Keeps σ (domDown s d st) := by
  unfold domDown
  try dsimp only
  repeat' first
    | with_reducible exact hk
    | with_reducible assumption
    | intro _
    | with_reducible apply Keeps.wr
    | with_reducible apply keeps_complete
    | with_reducible apply keeps_domSleep
    | with_reducible apply keeps_raise
    | with_reducible apply keeps_setDomSt
    | ((with_reducible show offTime _ = true); rfl)

theorem keeps_domEnd {σ : State} {s : State} {d : Nat} (hk : Keeps σ s) : Keeps σ (domEnd s d) := by
  unfold domEnd
  try dsimp only
  repeat' first
    | with_reducible exact hk
    | with_reducible assumption
    | intro _
    | with_reducible apply Keeps.ite
    | with_reducible apply keeps_domDown
    | with_reducible apply keeps_domFollow
    | with_reducible apply keeps_domUp
    | with_reducible apply keeps_resume
    | with_reducible apply Keeps.foldl

theorem keeps_execDomainStateDone {σ : State} {d : Dom} {s : State} (hk : Keeps σ s) : NextKeeps σ (execDomainStateDone d s) := by
  unfold execDomainStateDone
  try dsimp only
  repeat' first
    | with_reducible apply NextKeeps.mk
    | with_reducible exact hk
    | with_reducible apply Keeps.ite
    | with_reducible apply keeps_domEnd

theorem keeps_swapAgain {σ : State} {s : State} {g : Nat} (hk : Keeps σ s) : Keeps σ (swapAgain s g) := by
  unfold swapAgain
  try dsimp only
  repeat' first
    | with_reducible exact hk
    | with_reducible assumption
    | intro _
    | with_reducible apply Keeps.ite
    | with_reducible apply Keeps.forEach
    | with_reducible apply keeps_galSwap
    | with_reducible apply keeps_raise

theorem keeps_wakeFail {σ : State} {d : Nat} {synth : Bool} {s : State} (hk : Keeps σ s) : Keeps σ (wakeFail d synth s) := by
  unfold wakeFail
  try dsimp only
  repeat' first
    | with_reducible exact hk
    | with_reducible assumption
    | intro _
    | with_reducible apply Keeps.ite
    | with_reducible apply Keeps.bump
    | with_reducible apply Keeps.wr
    | with_reducible apply keeps_complete
    | with_reducible apply keeps_domEvent
    | with_reducible apply keeps_faultK
    | with_reducible apply keeps_holdDom
    | with_reducible apply keeps_raise
    | with_reducible apply keeps_resume
    | with_reducible apply keeps_swapAgain
    | with_reducible apply Keeps.foldl
    | ((with_reducible show offTime _ = true); rfl)

theorem keeps_execPowerGateTimeout {σ : State} {d : Dom} {s : State} (hk : Keeps σ s) : NextKeeps σ (execPowerGateTimeout d s) := by
  unfold execPowerGateTimeout
  try dsimp only
  repeat' first
    | with_reducible apply NextKeeps.mk
    | with_reducible exact hk
    | with_reducible apply Keeps.ite
    | with_reducible apply Keeps.wrs
    | with_reducible apply keeps_wakeFail
    | ((with_reducible show List.all _ _ = true); rfl)

/-! ## Time -/

theorem keeps_ppsTick {σ : State} {s : State} (hk : Keeps σ s) : Keeps σ (ppsTick s) := by
  unfold ppsTick
  try dsimp only
  repeat' first
    | with_reducible exact hk
    | with_reducible apply Keeps.ite
    | with_reducible apply Keeps.wrs
    | ((with_reducible show List.all _ _ = true); rfl)

theorem keeps_bwDiscard {σ : State} {s : State} (hk : Keeps σ s) : Keeps σ (bwDiscard s) := by
  unfold bwDiscard
  try dsimp only
  repeat' first
    | with_reducible exact hk
    | with_reducible assumption
    | intro _
    | with_reducible apply Keeps.forEach
    | with_reducible apply Keeps.wr
    | ((with_reducible show offTime _ = true); rfl)
    | ((with_reducible show (!_) = true); rw [beq_offTime' (f := HID.BW_RX) rfl ‹_›, beq_offTime' (f := HID.BW_TX) rfl ‹_›]; simp)
    | with_reducible apply Keeps.filterRegs

theorem keeps_opTimeRate {σ s : State} {r : Nat} {a : Acc} (hk : Keeps σ s) : AnsKeeps σ ((opTimeRate).run r a s) := by
  unfold opTimeRate
  try dsimp only
  repeat' first
    | with_reducible apply AnsKeeps.done
    | with_reducible apply AnsKeeps.ite
    | with_reducible exact hk
    | with_reducible apply Keeps.wr
    | with_reducible apply Keeps.wrs
    | ((with_reducible show offTime _ = true); rfl)
    | ((with_reducible show List.all _ _ = true); rfl)

theorem keeps_opTimeRearm {σ s : State} {r : Nat} {a : Acc} (hk : Keeps σ s) : AnsKeeps σ ((opTimeRearm).run r a s) := by
  unfold opTimeRearm
  try dsimp only
  repeat' first
    | with_reducible apply AnsKeeps.done
    | with_reducible exact hk
    | with_reducible apply Keeps.wr
    | ((with_reducible show offTime _ = true); rfl)

theorem keeps_opTevArm {σ s : State} {r : Nat} {a : Acc} (hk : Keeps σ s) : AnsKeeps σ ((opTevArm).run r a s) := by
  unfold opTevArm
  try dsimp only
  repeat' first
    | with_reducible apply AnsKeeps.done
    | with_reducible exact hk
    | with_reducible apply Keeps.wrs
    | ((with_reducible show List.all _ _ = true); rfl)

theorem keeps_execTimeRate {σ : State} {r : Ring} {s : State} (hk : Keeps σ s) : NextKeeps σ (execTimeRate r s) := by
  unfold execTimeRate
  try dsimp only
  repeat' first
    | with_reducible apply NextKeeps.mk
    | with_reducible exact hk
    | with_reducible assumption
    | intro _
    | with_reducible apply keeps_dispatch
    | with_reducible apply keeps_opTimeRate

/-- TIME_STEP keeps all but local time. -/
theorem keeps0_execTimeStep (r : Ring) (s : State) : ∃ t, execTimeStep r s = .next t ∧ Keeps0 s t := by
  refine ⟨_, rfl, ?_⟩
  unfold dispatch
  split
  · exact Keeps0.refl s
  · rename_i a _
    have h := keeps_popFront (r := r.val) (Keeps.refl s)
    refine Keeps0.ite (Keeps0.refl s) ?_
    unfold execOp
    dsimp only
    split
    · exact (keeps_finish h).toKeeps0
    · split
      · exact (keeps_finish h).toKeeps0
      · split
        · exact (keeps_finish h).toKeeps0
        · refine Keeps0.ite (keeps_wakeFirst h.running).toKeeps0
            (Keeps0.ite (keeps_finish (keeps_stageItem h)).toKeeps0 ?_)
          have h1 := keeps_bwDiscard h
          exact (h1.toKeeps0.trans (((Keeps0.wrs _ _).trans (Keeps0.wr _ _ _ _)).trans
            ((Keeps.refl _).bump (f := TIM_STATUS.STEPS) (i := 0) rfl).toKeeps0)).trans
            (keeps_finish (Keeps.refl _)).toKeeps0

theorem keeps_execTimeRearm {σ : State} {r : Ring} {s : State} (hk : Keeps σ s) : NextKeeps σ (execTimeRearm r s) := by
  unfold execTimeRearm
  try dsimp only
  repeat' first
    | with_reducible apply NextKeeps.mk
    | with_reducible exact hk
    | with_reducible assumption
    | intro _
    | with_reducible apply keeps_dispatch
    | with_reducible apply keeps_opTimeRearm

theorem keeps_execTevArm {σ : State} {r : Ring} {s : State} (hk : Keeps σ s) : NextKeeps σ (execTevArm r s) := by
  unfold execTevArm
  try dsimp only
  repeat' first
    | with_reducible apply NextKeeps.mk
    | with_reducible exact hk
    | with_reducible assumption
    | intro _
    | with_reducible apply keeps_dispatch
    | with_reducible apply keeps_opTevArm

theorem keeps_execTimeWatchdogExpire {σ : State} {s : State} (hk : Keeps σ s) : NextKeeps σ (execTimeWatchdogExpire s) := by
  unfold execTimeWatchdogExpire
  try dsimp only
  repeat' first
    | with_reducible apply NextKeeps.mk
    | with_reducible exact hk
    | with_reducible apply Keeps.ite
    | with_reducible apply Keeps.wrs
    | with_reducible apply keeps_event
    | with_reducible apply keeps_faultC
    | ((with_reducible show List.all _ _ = true); rfl)

theorem keeps_execPpsInEdge {σ : State} {s : State} (hk : Keeps σ s) : NextKeeps σ (execPpsInEdge s) := by
  unfold execPpsInEdge
  try dsimp only
  repeat' first
    | with_reducible apply NextKeeps.mk
    | with_reducible exact hk
    | with_reducible apply Keeps.ite
    | with_reducible apply Keeps.bump
    | with_reducible apply Keeps.wrs
    | ((with_reducible show offTime _ = true); rfl)
    | ((with_reducible show List.all _ _ = true); rfl)

theorem keeps_execPpsInTimeout {σ : State} {s : State} (hk : Keeps σ s) : NextKeeps σ (execPpsInTimeout s) := by
  unfold execPpsInTimeout
  try dsimp only
  repeat' first
    | with_reducible apply NextKeeps.mk
    | with_reducible exact hk
    | with_reducible apply Keeps.ite
    | with_reducible apply Keeps.wrs
    | with_reducible apply keeps_faultC
    | ((with_reducible show List.all _ _ = true); rfl)

theorem keeps_execPpsOutPulseEnd {σ : State} {s : State} (hk : Keeps σ s) : NextKeeps σ (execPpsOutPulseEnd s) := by
  unfold execPpsOutPulseEnd
  try dsimp only
  repeat' first
    | with_reducible apply NextKeeps.mk
    | with_reducible exact hk
    | with_reducible apply Keeps.ite
    | with_reducible apply Keeps.wr
    | ((with_reducible show offTime _ = true); rfl)

theorem keeps_execRclkSourceLost {σ : State} {out : Fin 2} {s : State} (hk : Keeps σ s) : NextKeeps σ (execRclkSourceLost out s) := by
  unfold execRclkSourceLost
  try dsimp only
  repeat' first
    | with_reducible apply NextKeeps.mk
    | with_reducible exact hk
    | with_reducible apply Keeps.ite
    | with_reducible apply Keeps.wr
    | with_reducible apply keeps_faultC
    | with_reducible apply keeps_rclkShow
    | ((with_reducible show offTime _ = true); rfl)

/-! ## Landing -/

theorem keeps_opLandingOpen {σ s : State} {r : Nat} {a : Acc} (hk : Keeps σ s) : AnsKeeps σ ((opLandingOpen).run r a s) := by
  unfold opLandingOpen
  try dsimp only
  repeat' first
    | with_reducible apply AnsKeeps.done
    | with_reducible exact hk
    | with_reducible apply Keeps.wrs
    | with_reducible apply keeps_freeSlot
    | ((with_reducible show List.all _ _ = true); rfl)
    | split

theorem keeps_opLandingSubmit {σ s : State} {r : Nat} {a : Acc} (hk : Keeps σ s) : AnsKeeps σ ((opLandingSubmit).run r a s) := by
  unfold opLandingSubmit
  try dsimp only
  repeat' first
    | with_reducible apply AnsKeeps.done
    | with_reducible apply AnsKeeps.wait
    | with_reducible apply AnsKeeps.ite
    | with_reducible exact hk
    | with_reducible apply Keeps.bump
    | with_reducible apply Keeps.wrs
    | ((with_reducible show offTime _ = true); rfl)
    | ((with_reducible show List.all _ _ = true); rfl)
    | split

theorem keeps_opLandingCancel {σ s : State} {r : Nat} {a : Acc} (hk : Keeps σ s) : AnsKeeps σ ((opLandingCancel).run r a s) := by
  unfold opLandingCancel
  try dsimp only
  repeat' first
    | with_reducible apply AnsKeeps.done
    | with_reducible exact hk
    | with_reducible apply Keeps.ite
    | with_reducible apply keeps_complete
    | with_reducible apply keeps_freeSlot
    | split

theorem keeps_opLandingQuery {σ s : State} {r : Nat} {a : Acc} (hk : Keeps σ s) : AnsKeeps σ ((opLandingQuery).run r a s) := by
  unfold opLandingQuery
  try dsimp only
  repeat' first
    | with_reducible apply AnsKeeps.done
    | with_reducible exact hk

theorem keeps_execLandingOpen {σ : State} {r : Ring} {s : State} (hk : Keeps σ s) : NextKeeps σ (execLandingOpen r s) := by
  unfold execLandingOpen
  try dsimp only
  repeat' first
    | with_reducible apply NextKeeps.mk
    | with_reducible exact hk
    | with_reducible assumption
    | intro _
    | with_reducible apply keeps_dispatch
    | with_reducible apply keeps_opLandingOpen

theorem keeps_execLandingSubmit {σ : State} {r : Ring} {s : State} (hk : Keeps σ s) : NextKeeps σ (execLandingSubmit r s) := by
  unfold execLandingSubmit
  try dsimp only
  repeat' first
    | with_reducible apply NextKeeps.mk
    | with_reducible exact hk
    | with_reducible assumption
    | intro _
    | with_reducible apply keeps_dispatch
    | with_reducible apply keeps_opLandingSubmit

theorem keeps_execLandingCancel {σ : State} {r : Ring} {s : State} (hk : Keeps σ s) : NextKeeps σ (execLandingCancel r s) := by
  unfold execLandingCancel
  try dsimp only
  repeat' first
    | with_reducible apply NextKeeps.mk
    | with_reducible exact hk
    | with_reducible assumption
    | intro _
    | with_reducible apply keeps_dispatch
    | with_reducible apply keeps_opLandingCancel

theorem keeps_execLandingQuery {σ : State} {r : Ring} {s : State} (hk : Keeps σ s) : NextKeeps σ (execLandingQuery r s) := by
  unfold execLandingQuery
  try dsimp only
  repeat' first
    | with_reducible apply NextKeeps.mk
    | with_reducible exact hk
    | with_reducible assumption
    | intro _
    | with_reducible apply keeps_dispatch
    | with_reducible apply keeps_opLandingQuery

/-! ## Cal -/

theorem keeps_calLaneClear {σ : State} {s : State} {l : Nat} (hk : Keeps σ s) : Keeps σ (calLaneClear s l) := by
  unfold calLaneClear
  try dsimp only
  repeat' first
    | with_reducible exact hk
    | intro _
    | with_reducible apply Keeps.wr
    | with_reducible apply Keeps.wrs
    | ((with_reducible show offTime _ = true); rfl)
    | ((with_reducible show List.all _ _ = true); rfl)
    | split
    | ((with_reducible show (!_) = true); rw [beq_offTime' (f := HID.CAL_SEEN) rfl ‹_›]; simp)
    | with_reducible apply Keeps.filterRegs

theorem keeps_calEnd {σ : State} {s : State} {x : Nat} (hk : Keeps σ s) : Keeps σ (calEnd s x) := by
  unfold calEnd
  try dsimp only
  repeat' first
    | with_reducible exact hk
    | with_reducible apply Keeps.wrs
    | with_reducible apply keeps_complete
    | ((with_reducible show List.all _ _ = true); rfl)

theorem keeps_calLaneDone {σ : State} {s : State} {sh : Nat} {i : Nat} {skip : Bool} (hk : Keeps σ s) : Keeps σ (calLaneDone s sh i skip) := by
  unfold calLaneDone
  try dsimp only
  repeat' first
    | with_reducible exact hk
    | with_reducible apply Keeps.wrs
    | with_reducible apply keeps_calLaneClear
    | ((with_reducible show List.all _ _ = true); rfl)

theorem keeps_calNext {σ s : State} {l : Nat} (hk : Keeps σ s) : OptKeeps σ (calNext s l) := by
  unfold calNext
  split
  · exact OptKeeps.some (hk.wrs rfl)
  · split
    · exact OptKeeps.some (hk.wr rfl)
    · intro t e
      obtain ⟨_, _, rfl⟩ := Option.map_eq_some_iff.1 e
      exact hk

theorem keeps_calAdvance {σ : State} {sh n : Nat} : ∀ {s : State}, Keeps σ s → Keeps σ (calAdvance sh n s) := by
  induction n with
  | zero => exact fun h => h
  | succ n ih =>
    intro s h
    unfold calAdvance
    dsimp only
    split
    · exact keeps_calEnd h
    · refine Keeps.ite (ih (keeps_calLaneDone h)) (Keeps.ite h ?_)
      split
      · exact keeps_calNext h _ ‹_›
      · exact ih (keeps_calLaneDone h)

theorem keeps_calKick {σ : State} {s : State} {sh : Nat} (hk : Keeps σ s) : Keeps σ (calKick s sh) := by
  unfold calKick
  try dsimp only
  repeat' first
    | with_reducible exact hk
    | with_reducible apply Keeps.ite
    | with_reducible apply keeps_calAdvance

theorem keeps_calStart {σ : State} {s : State} {x : Nat} {mask : Nat} (hk : Keeps σ s) : Keeps σ (calStart s x mask) := by
  unfold calStart
  try dsimp only
  repeat' first
    | with_reducible exact hk
    | with_reducible apply Keeps.ite
    | with_reducible apply Keeps.wrs
    | with_reducible apply keeps_calKick
    | ((with_reducible show List.all _ _ = true); rfl)

theorem keeps_calWindow {σ : State} {s : State} {x : Nat} (hk : Keeps σ s) : Keeps σ (calWindow s x) := by
  unfold calWindow
  try dsimp only
  repeat' first
    | with_reducible exact hk
    | with_reducible apply Keeps.ite
    | with_reducible apply Keeps.bump
    | with_reducible apply keeps_calStart
    | ((with_reducible show offTime _ = true); rfl)

theorem keeps_calFire {σ : State} {s : State} {n : Nat} (hk : Keeps σ s) : Keeps σ (calFire s n) := by
  unfold calFire
  try dsimp only
  repeat' first
    | with_reducible exact hk
    | with_reducible assumption
    | intro _
    | with_reducible apply Keeps.forEach
    | with_reducible apply keeps_calWindow

/-! ## Sheaf -/

theorem keeps_execClipWindowEnd {σ : State} {l : Lane} {count : Nat} {s : State} (hk : Keeps σ s) : NextKeeps σ (execClipWindowEnd l count s) := by
  unfold execClipWindowEnd
  try dsimp only
  repeat' first
    | with_reducible apply NextKeeps.mk
    | with_reducible exact hk
    | with_reducible apply Keeps.ite
    | with_reducible apply Keeps.wr
    | ((with_reducible show offTime _ = true); rfl)

theorem keeps_sliceMark {σ : State} {s : State} {l : Nat} {j : Nat} (hk : Keeps σ s) : Keeps σ (sliceMark s l j) := by
  unfold sliceMark
  try dsimp only
  repeat' first
    | with_reducible exact hk
    | with_reducible apply Keeps.wrs
    | ((with_reducible show List.all _ _ = true); rfl)

theorem keeps_sliceDemand {σ : State} {s : State} {l : Nat} (hk : Keeps σ s) : Keeps σ (sliceDemand s l) := by
  unfold sliceDemand
  try dsimp only
  repeat' first
    | with_reducible exact hk
    | with_reducible assumption
    | intro _
    | with_reducible apply keeps_abortSlice
    | with_reducible apply keeps_raise
    | split

theorem keeps_sliceFailed {σ : State} {s : State} {l : Nat} {j : Nat} (hk : Keeps σ s) : Keeps σ (sliceFailed s l j) := by
  unfold sliceFailed
  try dsimp only
  repeat' first
    | with_reducible exact hk
    | with_reducible assumption
    | intro _
    | with_reducible apply Keeps.ite
    | with_reducible apply Keeps.wr
    | with_reducible apply keeps_failLane
    | with_reducible apply keeps_faultC
    | with_reducible apply keeps_raise
    | with_reducible apply keeps_sliceDemand
    | with_reducible apply keeps_sliceMark
    | ((with_reducible show offTime _ = true); rfl)

theorem keeps_execSliceFail {σ : State} {l : Lane} {j : Fin 136} {s : State} (hk : Keeps σ s) : NextKeeps σ (execSliceFail l j s) := by
  unfold execSliceFail
  try dsimp only
  repeat' first
    | with_reducible apply NextKeeps.mk
    | with_reducible exact hk
    | with_reducible apply Keeps.ite
    | with_reducible apply keeps_faultC
    | with_reducible apply keeps_sliceFailed
    | with_reducible apply keeps_sliceMark

theorem keeps_sliceTake {σ : State} {s : State} {l : Nat} {pos : Nat} (hk : Keeps σ s) : Keeps σ (sliceTake s l pos) := by
  unfold sliceTake
  try dsimp only
  repeat' first
    | with_reducible exact hk
    | with_reducible apply Keeps.ite
    | with_reducible apply Keeps.bump
    | with_reducible apply Keeps.wrs
    | with_reducible apply keeps_perfLane
    | ((with_reducible show offTime _ = true); rfl)
    | ((with_reducible show List.all _ _ = true); rfl)
    | split

theorem keeps_sliceReplace {σ : State} {l : Nat} {s : State} {j : Nat} (hk : Keeps σ s) : Keeps σ (sliceReplace l s j) := by
  unfold sliceReplace
  try dsimp only
  repeat' first
    | with_reducible exact hk
    | with_reducible apply Keeps.wr
    | with_reducible apply keeps_sliceTake
    | ((with_reducible show offTime _ = true); rfl)

theorem keeps_sliceRotate {σ : State} {s : State} {l : Nat} (hk : Keeps σ s) : Keeps σ (sliceRotate s l) := by
  unfold sliceRotate
  try dsimp only
  repeat' first
    | with_reducible exact hk
    | with_reducible apply Keeps.ite
    | with_reducible apply Keeps.wrs
    | with_reducible apply keeps_sliceTake
    | ((with_reducible show List.all _ _ = true); rfl)

theorem keeps_execSliceSwap {σ : State} {l : Lane} {s : State} (hk : Keeps σ s) : NextKeeps σ (execSliceSwap l s) := by
  unfold execSliceSwap
  try dsimp only
  repeat' first
    | with_reducible apply NextKeeps.mk
    | with_reducible exact hk
    | with_reducible assumption
    | intro _
    | with_reducible apply Keeps.ite
    | with_reducible apply keeps_calKick
    | with_reducible apply keeps_sliceReplace
    | with_reducible apply keeps_sliceRotate
    | with_reducible apply Keeps.foldl

theorem keeps_execQualUpdate {σ : State} {l : Lane} {snr : BitVec 12} {pmLow : Nat} {minSc : BitVec 8} {minScSnr : BitVec 8} {s : State} (hk : Keeps σ s) : NextKeeps σ (execQualUpdate l snr pmLow minSc minScSnr s) := by
  unfold execQualUpdate
  try dsimp only
  repeat' first
    | with_reducible apply NextKeeps.mk
    | with_reducible exact hk
    | with_reducible apply Keeps.ite
    | with_reducible apply Keeps.wrs
    | ((with_reducible show List.all _ _ = true); rfl)

theorem keeps_captureStart {σ : State} {s : State} {l : Nat} (hk : Keeps σ s) : Keeps σ (captureStart s l) := by
  unfold captureStart
  try dsimp only
  repeat' first
    | with_reducible exact hk
    | with_reducible apply Keeps.ite
    | with_reducible apply Keeps.wr
    | with_reducible apply Keeps.wrs
    | with_reducible apply keeps_freeBuf
    | ((with_reducible show offTime _ = true); rfl)
    | ((with_reducible show List.all _ _ = true); rfl)

theorem keeps_execRxCaptureStart {σ : State} {l : Lane} {s : State} (hk : Keeps σ s) : NextKeeps σ (execRxCaptureStart l s) := by
  unfold execRxCaptureStart
  try dsimp only
  repeat' first
    | with_reducible apply NextKeeps.mk
    | with_reducible exact hk
    | with_reducible apply keeps_captureStart

theorem keeps_execRxCaptureDone {σ : State} {l : Lane} {bins : List Nat} {s : State} (hk : Keeps σ s) : NextKeeps σ (execRxCaptureDone l bins s) := by
  unfold execRxCaptureDone
  try dsimp only
  repeat' first
    | with_reducible apply NextKeeps.mk
    | with_reducible exact hk
    | with_reducible assumption
    | intro _
    | with_reducible apply Keeps.ite
    | with_reducible apply Keeps.forEach
    | with_reducible apply Keeps.wr
    | ((with_reducible show offTime _ = true); rfl)
    | split

theorem keeps_execLossOfSignal {σ : State} {l : Lane} {s : State} (hk : Keeps σ s) : NextKeeps σ (execLossOfSignal l s) := by
  unfold execLossOfSignal
  try dsimp only
  repeat' first
    | with_reducible apply NextKeeps.mk
    | with_reducible exact hk
    | with_reducible apply Keeps.ite
    | with_reducible apply Keeps.wrs
    | ((with_reducible show List.all _ _ = true); rfl)

theorem keeps_sheafWakeUp {σ : State} {s : State} {l : Nat} {cause : Nat} (hk : Keeps σ s) : Keeps σ (sheafWakeUp s l cause) := by
  unfold sheafWakeUp
  try dsimp only
  repeat' first
    | with_reducible exact hk
    | with_reducible apply Keeps.ite
    | with_reducible apply Keeps.wrs
    | with_reducible apply keeps_domMove
    | with_reducible apply keeps_leaveStandby
    | ((with_reducible show List.all _ _ = true); rfl)

theorem keeps_execWakeFrameRx {σ : State} {l : Lane} {bits : BitVec 40} {s : State} (hk : Keeps σ s) : NextKeeps σ (execWakeFrameRx l bits s) := by
  unfold execWakeFrameRx
  try dsimp only
  repeat' first
    | with_reducible apply NextKeeps.mk
    | with_reducible exact hk
    | with_reducible apply Keeps.ite
    | with_reducible apply Keeps.bump
    | with_reducible apply Keeps.wr
    | with_reducible apply keeps_sheafWakeUp
    | ((with_reducible show offTime _ = true); rfl)

theorem keeps_execSheafWakeActivity {σ : State} {l : Lane} {s : State} (hk : Keeps σ s) : NextKeeps σ (execSheafWakeActivity l s) := by
  unfold execSheafWakeActivity
  try dsimp only
  repeat' first
    | with_reducible apply NextKeeps.mk
    | with_reducible exact hk
    | with_reducible apply Keeps.ite
    | with_reducible apply keeps_sheafWakeUp

theorem keeps_bankStore {σ : State} {s : State} {l : Nat} {temp : Nat} (hk : Keeps σ s) : Keeps σ (bankStore s l temp) := by
  unfold bankStore
  try dsimp only
  repeat' first
    | with_reducible exact hk
    | with_reducible exact tabPut_wf _ _ _
    | with_reducible apply Keeps.wr
    | with_reducible apply keeps_adaptAll
    | ((with_reducible show offTime _ = true); rfl)
    | with_reducible apply Keeps.banks

theorem keeps_holdLoad {σ : State} {s : State} {l : Nat} (hk : Keeps σ s) : Keeps σ (holdLoad s l) := by
  unfold holdLoad
  try dsimp only
  repeat' first
    | with_reducible exact hk
    | with_reducible apply Keeps.ite
    | with_reducible apply keeps_bankLoad

theorem keeps_enterHold {σ : State} {s : State} {l : Nat} {abandoned : Nat} {temp : Nat} {live1ms : Bool} (hk : Keeps σ s) : Keeps σ (enterHold s l abandoned temp live1ms) := by
  unfold enterHold
  try dsimp only
  repeat' first
    | with_reducible exact hk
    | with_reducible assumption
    | intro _
    | with_reducible apply Keeps.ite
    | with_reducible apply Keeps.wr
    | with_reducible apply Keeps.bumpBy
    | with_reducible apply Keeps.bump
    | with_reducible apply Keeps.wrs
    | with_reducible apply keeps_bankStore
    | with_reducible apply keeps_holdLoad
    | with_reducible apply keeps_perfLane
    | with_reducible apply keeps_raise
    | with_reducible apply keeps_setLane
    | with_reducible apply keeps_windowReset
    | ((with_reducible show offTime _ = true); rfl)
    | ((with_reducible show List.all _ _ = true); rfl)

theorem keeps_execHoldTrigger {σ : State} {l : Lane} {stepDb : Nat} {abandoned : Nat} {temp : Nat} {live1ms : Bool} {s : State} (hk : Keeps σ s) : NextKeeps σ (execHoldTrigger l stepDb abandoned temp live1ms s) := by
  unfold execHoldTrigger
  try dsimp only
  repeat' first
    | with_reducible apply NextKeeps.mk
    | with_reducible exact hk
    | with_reducible apply Keeps.ite
    | with_reducible apply keeps_enterHold

theorem keeps_execCdrLockLoss {σ : State} {l : Lane} {abandoned : Nat} {temp : Nat} {live1ms : Bool} {s : State} (hk : Keeps σ s) : NextKeeps σ (execCdrLockLoss l abandoned temp live1ms s) := by
  unfold execCdrLockLoss
  try dsimp only
  repeat' first
    | with_reducible apply NextKeeps.mk
    | with_reducible exact hk
    | with_reducible apply Keeps.ite
    | with_reducible apply Keeps.wrs
    | with_reducible apply keeps_enterHold
    | ((with_reducible show List.all _ _ = true); rfl)

theorem keeps_holdReturn {σ : State} {s : State} {l : Nat} {cnt : Fld} (hk : Keeps σ s) (hcnt : offTime cnt = true) : Keeps σ (holdReturn s l cnt) := by
  unfold holdReturn
  try dsimp only
  repeat' first
    | with_reducible exact hk
    | with_reducible assumption
    | intro _
    | with_reducible apply Keeps.bump
    | with_reducible apply Keeps.wrs
    | with_reducible apply keeps_raise
    | with_reducible apply keeps_setLane
    | ((with_reducible show List.all _ _ = true); simp only [List.all_cons, List.all_nil, hcnt, Bool.and_true, Bool.true_and]; try rfl)

theorem keeps_execHoldFastReturn {σ : State} {l : Lane} {snr : BitVec 12} {s : State} (hk : Keeps σ s) : NextKeeps σ (execHoldFastReturn l snr s) := by
  unfold execHoldFastReturn
  try dsimp only
  repeat' first
    | with_reducible apply NextKeeps.mk
    | with_reducible exact hk
    | with_reducible apply Keeps.ite
    | with_reducible apply keeps_holdReturn
    | ((with_reducible show offTime _ = true); rfl)

theorem keeps_execHoldFastTimeout {σ : State} {l : Lane} {s : State} (hk : Keeps σ s) : NextKeeps σ (execHoldFastTimeout l s) := by
  unfold execHoldFastTimeout
  try dsimp only
  repeat' first
    | with_reducible apply NextKeeps.mk
    | with_reducible exact hk
    | with_reducible apply Keeps.ite
    | with_reducible apply Keeps.wr
    | with_reducible apply keeps_holdLoad
    | ((with_reducible show offTime _ = true); rfl)

theorem keeps_execHoldFullReturn {σ : State} {l : Lane} {s : State} (hk : Keeps σ s) : NextKeeps σ (execHoldFullReturn l s) := by
  unfold execHoldFullReturn
  try dsimp only
  repeat' first
    | with_reducible apply NextKeeps.mk
    | with_reducible exact hk
    | with_reducible apply Keeps.ite
    | with_reducible apply keeps_holdReturn
    | ((with_reducible show offTime _ = true); rfl)

theorem keeps_execHoldFail {σ : State} {l : Lane} {training : Bool} {s : State} (hk : Keeps σ s) : NextKeeps σ (execHoldFail l training s) := by
  unfold execHoldFail
  try dsimp only
  repeat' first
    | with_reducible apply NextKeeps.mk
    | with_reducible exact hk
    | with_reducible assumption
    | intro _
    | with_reducible apply Keeps.ite
    | with_reducible apply Keeps.bump
    | with_reducible apply Keeps.wr
    | with_reducible apply keeps_raise
    | with_reducible apply keeps_startFor
    | ((with_reducible show offTime _ = true); rfl)

theorem keeps_storeBank {σ : State} {s : State} {l : Nat} {temp : Nat} (hk : Keeps σ s) : Keeps σ (storeBank s l temp) := by
  unfold storeBank
  try dsimp only
  repeat' first
    | with_reducible exact hk
    | with_reducible apply Keeps.ite
    | with_reducible apply Keeps.wr
    | with_reducible apply keeps_bankStore
    | ((with_reducible show offTime _ = true); rfl)

theorem keeps_discardBank {σ : State} {s : State} {l : Nat} (hk : Keeps σ s) : Keeps σ (discardBank s l) := by
  unfold discardBank
  try dsimp only
  repeat' first
    | with_reducible exact hk
    | with_reducible apply Keeps.wr
    | ((with_reducible show offTime _ = true); rfl)

theorem keeps_execRxBankStore {σ : State} {l : Lane} {temp : Nat} {s : State} (hk : Keeps σ s) : NextKeeps σ (execRxBankStore l temp s) := by
  unfold execRxBankStore
  try dsimp only
  repeat' first
    | with_reducible apply NextKeeps.mk
    | with_reducible exact hk
    | with_reducible apply keeps_storeBank

theorem keeps_execRxBankDiscard {σ : State} {l : Lane} {s : State} (hk : Keeps σ s) : NextKeeps σ (execRxBankDiscard l s) := by
  unfold execRxBankDiscard
  try dsimp only
  repeat' first
    | with_reducible apply NextKeeps.mk
    | with_reducible exact hk
    | with_reducible apply keeps_discardBank

theorem keeps_synthLeft {σ : State} {s : State} {sh : Nat} (hk : Keeps σ s) : Keeps σ (synthLeft s sh) := by
  unfold synthLeft
  try dsimp only
  repeat' first
    | with_reducible exact hk
    | with_reducible assumption
    | intro _
    | with_reducible apply Keeps.ite
    | with_reducible apply Keeps.forEach
    | with_reducible apply keeps_raise
    | with_reducible apply keeps_sqSheaf
    | with_reducible apply keeps_startAttempt

theorem keeps_synthRaise {σ : State} {s : State} {sh : Nat} (hk : Keeps σ s) : Keeps σ (synthRaise s sh) := by
  unfold synthRaise
  try dsimp only
  repeat' first
    | with_reducible exact hk
    | with_reducible apply Keeps.wr
    | with_reducible apply keeps_faultK
    | ((with_reducible show offTime _ = true); rfl)

theorem keeps_execSynthCalDone {σ : State} {s : Sheaf} {m : State} (hk : Keeps σ m) : NextKeeps σ (execSynthCalDone s m) := by
  unfold execSynthCalDone
  try dsimp only
  repeat' first
    | with_reducible apply NextKeeps.mk
    | with_reducible exact hk
    | with_reducible apply Keeps.ite
    | with_reducible apply Keeps.wr
    | ((with_reducible show offTime _ = true); rfl)

theorem keeps_txEnabled {σ : State} {sh : Nat} {s : State} {x : Run} (hk : Keeps σ s) : Keeps σ (txEnabled sh s x) := by
  unfold txEnabled
  try dsimp only
  repeat' first
    | with_reducible exact hk
    | with_reducible apply Keeps.ite
    | with_reducible apply keeps_dropRun
    | with_reducible apply keeps_finish
    | split

theorem keeps_wakeLocked {σ : State} {s : State} {sh : Nat} (hk : Keeps σ s) : Keeps σ (wakeLocked s sh) := by
  unfold wakeLocked
  try dsimp only
  repeat' first
    | with_reducible exact hk
    | with_reducible apply Keeps.ite
    | with_reducible apply Keeps.wr
    | with_reducible apply keeps_domAwake
    | ((with_reducible show offTime _ = true); rfl)

theorem keeps_execSynthLocked {σ : State} {s : Sheaf} {lockUs : BitVec 16} {m : State} (hk : Keeps σ m) : NextKeeps σ (execSynthLocked s lockUs m) := by
  unfold execSynthLocked
  try dsimp only
  repeat' first
    | with_reducible apply NextKeeps.mk
    | with_reducible exact hk
    | with_reducible assumption
    | intro _
    | with_reducible apply Keeps.ite
    | with_reducible apply Keeps.forEach
    | with_reducible apply Keeps.wr
    | with_reducible apply Keeps.wrs
    | with_reducible apply keeps_trnAcquire
    | with_reducible apply keeps_txEnabled
    | with_reducible apply keeps_wakeLocked
    | with_reducible apply Keeps.foldl
    | ((with_reducible show offTime _ = true); rfl)
    | ((with_reducible show List.all _ _ = true); rfl)

theorem keeps_execSynthAttemptTimeout {σ : State} {s : Sheaf} {m : State} (hk : Keeps σ m) : NextKeeps σ (execSynthAttemptTimeout s m) := by
  unfold execSynthAttemptTimeout
  try dsimp only
  repeat' first
    | with_reducible apply NextKeeps.mk
    | with_reducible exact hk
    | with_reducible apply Keeps.ite
    | with_reducible apply Keeps.wr
    | with_reducible apply Keeps.wrs
    | with_reducible apply keeps_sqSheaf
    | with_reducible apply keeps_synthRaise
    | with_reducible apply keeps_wakeFail
    | ((with_reducible show offTime _ = true); rfl)
    | ((with_reducible show List.all _ _ = true); rfl)

theorem keeps_synthLose {σ : State} {m : State} {sh : Nat} {refPresent : Bool} (hk : Keeps σ m) : Keeps σ (synthLose m sh refPresent) := by
  unfold synthLose
  try dsimp only
  repeat' first
    | with_reducible exact hk
    | with_reducible apply Keeps.ite
    | with_reducible apply Keeps.bump
    | with_reducible apply Keeps.wr
    | with_reducible apply Keeps.wrs
    | with_reducible apply keeps_synthLeft
    | with_reducible apply keeps_synthRaise
    | ((with_reducible show offTime _ = true); rfl)
    | ((with_reducible show List.all _ _ = true); rfl)

theorem keeps_execSynthLockLost {σ : State} {s : Sheaf} {refPresent : Bool} {m : State} (hk : Keeps σ m) : NextKeeps σ (execSynthLockLost s refPresent m) := by
  unfold execSynthLockLost
  try dsimp only
  repeat' first
    | with_reducible apply NextKeeps.mk
    | with_reducible exact hk
    | with_reducible apply keeps_synthLose

theorem keeps_synthRef {σ : State} {m : State} {sh : Nat} (hk : Keeps σ m) : Keeps σ (synthRef m sh) := by
  unfold synthRef
  try dsimp only
  repeat' first
    | with_reducible exact hk
    | with_reducible apply Keeps.ite
    | with_reducible apply Keeps.wrs
    | ((with_reducible show List.all _ _ = true); rfl)

theorem keeps_execSynthRefReturn {σ : State} {s : Sheaf} {m : State} (hk : Keeps σ m) : NextKeeps σ (execSynthRefReturn s m) := by
  unfold execSynthRefReturn
  try dsimp only
  repeat' first
    | with_reducible apply NextKeeps.mk
    | with_reducible exact hk
    | with_reducible apply Keeps.wr
    | with_reducible apply keeps_synthRef
    | ((with_reducible show offTime _ = true); rfl)

theorem keeps_execRefclkLineLoss {σ : State} {j : Fin 8} {s : State} (hk : Keeps σ s) : NextKeeps σ (execRefclkLineLoss j s) := by
  unfold execRefclkLineLoss
  try dsimp only
  repeat' first
    | with_reducible apply NextKeeps.mk
    | with_reducible exact hk
    | with_reducible assumption
    | intro _
    | with_reducible apply Keeps.forEach
    | with_reducible apply Keeps.wr
    | with_reducible apply keeps_synthLose
    | ((with_reducible show offTime _ = true); rfl)

theorem keeps_opTxEnable {σ s : State} {r : Nat} {a : Acc} (hk : Keeps σ s) : AnsKeeps σ ((opTxEnable).run r a s) := by
  unfold opTxEnable
  try dsimp only
  repeat' first
    | with_reducible apply AnsKeeps.done
    | with_reducible apply AnsKeeps.wait
    | with_reducible apply AnsKeeps.ite
    | with_reducible exact hk
    | with_reducible assumption
    | intro _
    | with_reducible apply Keeps.forEach
    | with_reducible apply Keeps.wr
    | ((with_reducible show offTime _ = true); rfl)

theorem keeps_execTxEnableTimeout {σ : State} {r : Ring} {tag : BitVec 16} {s : State} (hk : Keeps σ s) : NextKeeps σ (execTxEnableTimeout r tag s) := by
  unfold execTxEnableTimeout
  try dsimp only
  repeat' first
    | with_reducible apply NextKeeps.mk
    | with_reducible exact hk
    | with_reducible assumption
    | intro _
    | with_reducible apply Keeps.ite
    | with_reducible apply Keeps.forEach
    | with_reducible apply Keeps.wr
    | with_reducible apply Keeps.bump
    | with_reducible apply keeps_dropRun
    | with_reducible apply keeps_faultK
    | with_reducible apply keeps_finish
    | ((with_reducible show offTime _ = true); rfl)
    | split

theorem keeps_opWakeSend {σ s : State} {r : Nat} {a : Acc} (hk : Keeps σ s) : AnsKeeps σ ((opWakeSend).run r a s) := by
  unfold opWakeSend
  try dsimp only
  repeat' first
    | with_reducible apply AnsKeeps.done
    | with_reducible apply AnsKeeps.wait
    | with_reducible apply AnsKeeps.ite
    | with_reducible exact hk
    | with_reducible assumption
    | intro _
    | with_reducible apply Keeps.ite
    | with_reducible apply Keeps.forEach
    | with_reducible apply Keeps.wrs
    | with_reducible apply keeps_raise
    | with_reducible apply keeps_stopWakes
    | with_reducible apply keeps_synthStart
    | ((with_reducible show List.all _ _ = true); rfl)

theorem keeps_execTxEnable {σ : State} {r : Ring} {s : State} (hk : Keeps σ s) : NextKeeps σ (execTxEnable r s) := by
  unfold execTxEnable
  try dsimp only
  repeat' first
    | with_reducible apply NextKeeps.mk
    | with_reducible exact hk
    | with_reducible assumption
    | intro _
    | with_reducible apply keeps_dispatch
    | with_reducible apply keeps_opTxEnable

theorem keeps_execWakeSend {σ : State} {r : Ring} {s : State} (hk : Keeps σ s) : NextKeeps σ (execWakeSend r s) := by
  unfold execWakeSend
  try dsimp only
  repeat' first
    | with_reducible apply NextKeeps.mk
    | with_reducible exact hk
    | with_reducible assumption
    | intro _
    | with_reducible apply keeps_dispatch
    | with_reducible apply keeps_opWakeSend

theorem keeps_execWakeSendDurationEnd {σ : State} {l : Lane} {frames : Nat} {s : State} (hk : Keeps σ s) : NextKeeps σ (execWakeSendDurationEnd l frames s) := by
  unfold execWakeSendDurationEnd
  try dsimp only
  repeat' first
    | with_reducible apply NextKeeps.mk
    | with_reducible exact hk
    | with_reducible assumption
    | intro _
    | with_reducible apply keeps_raise
    | with_reducible apply keeps_stopWake

theorem keeps_execWakeSendPartner {σ : State} {l : Lane} {frames : Nat} {s : State} (hk : Keeps σ s) : NextKeeps σ (execWakeSendPartner l frames s) := by
  unfold execWakeSendPartner
  try dsimp only
  repeat' first
    | with_reducible apply NextKeeps.mk
    | with_reducible exact hk
    | with_reducible assumption
    | intro _
    | with_reducible apply Keeps.ite
    | with_reducible apply keeps_raise
    | with_reducible apply keeps_stopWake

theorem keeps_execTxTrainingTimeout {σ : State} {l : Lane} {s : State} (hk : Keeps σ s) : NextKeeps σ (execTxTrainingTimeout l s) := by
  unfold execTxTrainingTimeout
  try dsimp only
  repeat' first
    | with_reducible apply NextKeeps.mk
    | with_reducible exact hk
    | with_reducible assumption
    | intro _
    | with_reducible apply Keeps.ite
    | with_reducible apply Keeps.bump
    | with_reducible apply Keeps.wr
    | with_reducible apply keeps_raise
    | with_reducible apply keeps_setAls
    | with_reducible apply keeps_sqNow
    | ((with_reducible show offTime _ = true); rfl)

theorem keeps_shapeApply {σ : State} {s : State} {l : Nat} (hk : Keeps σ s) : Keeps σ (shapeApply s l) := by
  unfold shapeApply
  try dsimp only
  repeat' first
    | with_reducible exact hk
    | with_reducible apply Keeps.wrs
    | ((with_reducible show List.all _ _ = true); rfl)

theorem keeps_execTxShapeApply {σ : State} {l : Lane} {s : State} (hk : Keeps σ s) : NextKeeps σ (execTxShapeApply l s) := by
  unfold execTxShapeApply
  try dsimp only
  repeat' first
    | with_reducible apply NextKeeps.mk
    | with_reducible exact hk
    | with_reducible apply keeps_shapeApply

/-! ## Training -/

theorem keeps_synthMode {σ : State} {s : State} {sh : Nat} {mask : Nat} {mode : Nat} (hk : Keeps σ s) : Keeps σ (synthMode s sh mask mode) := by
  unfold synthMode
  try dsimp only
  repeat' first
    | with_reducible exact hk
    | with_reducible apply Keeps.ite
    | with_reducible apply Keeps.wr
    | with_reducible apply keeps_synthLeft
    | with_reducible apply keeps_synthStart
    | ((with_reducible show offTime _ = true); rfl)

theorem keeps_laneDark {σ : State} {s : State} {l : Nat} (hk : Keeps σ s) : Keeps σ (laneDark s l) := by
  unfold laneDark
  try dsimp only
  repeat' first
    | with_reducible exact hk
    | with_reducible assumption
    | intro _
    | with_reducible apply Keeps.wrs
    | with_reducible apply keeps_clearTraining
    | with_reducible apply keeps_raise
    | with_reducible apply keeps_reloadShape
    | with_reducible apply keeps_setLane
    | ((with_reducible show List.all _ _ = true); rfl)

theorem keeps_laneListen {σ : State} {s : State} {l : Nat} (hk : Keeps σ s) : Keeps σ (laneListen s l) := by
  unfold laneListen
  try dsimp only
  repeat' first
    | with_reducible exact hk
    | with_reducible assumption
    | intro _
    | with_reducible apply Keeps.wr
    | with_reducible apply keeps_raise
    | with_reducible apply keeps_reloadShape
    | with_reducible apply keeps_setLane
    | ((with_reducible show offTime _ = true); rfl)

theorem keeps_laneSeries {σ : State} {s : State} {l : Nat} (hk : Keeps σ s) : Keeps σ (laneSeries s l) := by
  unfold laneSeries
  try dsimp only
  repeat' first
    | with_reducible exact hk
    | with_reducible assumption
    | intro _
    | with_reducible apply Keeps.ite
    | with_reducible apply Keeps.wr
    | with_reducible apply keeps_raise
    | with_reducible apply keeps_reloadShape
    | with_reducible apply keeps_setLane
    | with_reducible apply keeps_startAttempt
    | ((with_reducible show offTime _ = true); rfl)

theorem keeps_laneModeOne {σ : State} {mode : Nat} {listenOnly : Bool} {s : State} {l : Nat} (hk : Keeps σ s) : Keeps σ (laneModeOne mode listenOnly s l) := by
  unfold laneModeOne
  try dsimp only
  repeat' first
    | with_reducible exact hk
    | with_reducible apply Keeps.ite
    | with_reducible apply Keeps.wr
    | with_reducible apply keeps_laneDark
    | with_reducible apply keeps_laneListen
    | with_reducible apply keeps_laneSeries
    | ((with_reducible show offTime _ = true); rfl)

theorem keeps_opLaneMode {σ s : State} {r : Nat} {a : Acc} (hk : Keeps σ s) : AnsKeeps σ ((opLaneMode).run r a s) := by
  unfold opLaneMode
  try dsimp only
  repeat' first
    | with_reducible apply AnsKeeps.done
    | with_reducible exact hk
    | with_reducible assumption
    | intro _
    | with_reducible apply keeps_laneModeOne
    | with_reducible apply keeps_synthMode
    | with_reducible apply Keeps.foldl

theorem keeps_trnSend {σ : State} {s : State} {l : Nat} {type : Nat} {body : List Byte} (hk : Keeps σ s) : Keeps σ (trnSend s l type body) := by
  unfold trnSend
  try dsimp only
  repeat' first
    | with_reducible exact hk
    | with_reducible exact tabPut_wf _ _ _
    | with_reducible apply Keeps.wrs
    | ((with_reducible show List.all _ _ = true); rfl)
    | with_reducible apply Keeps.trnMsgs

theorem keeps_trnShow {σ : State} {s : State} {l : Nat} (hk : Keeps σ s) : Keeps σ (trnShow s l) := by
  unfold trnShow
  try dsimp only
  repeat' first
    | with_reducible exact hk
    | with_reducible apply Keeps.ite
    | with_reducible apply keeps_trnEmit
    | split

theorem keeps_trnAbort {σ : State} {s : State} {l : Nat} {reason : Nat} (hk : Keeps σ s) : Keeps σ (trnAbort s l reason) := by
  unfold trnAbort
  try dsimp only
  repeat' first
    | with_reducible exact hk
    | with_reducible apply Keeps.ite
    | with_reducible apply keeps_trnSend
    | with_reducible apply keeps_trnShow

theorem keeps_trnFail {σ : State} {s : State} {l : Nat} {reason : Nat} (hk : Keeps σ s) : Keeps σ (trnFail s l reason) := by
  unfold trnFail
  try dsimp only
  repeat' first
    | with_reducible exact hk
    | with_reducible assumption
    | intro _
    | with_reducible apply keeps_failAttempt
    | with_reducible apply keeps_raise
    | with_reducible apply keeps_trnAbort

theorem keeps_laneRestartOne {σ : State} {s : State} {l : Nat} (hk : Keeps σ s) : Keeps σ (laneRestartOne s l) := by
  unfold laneRestartOne
  try dsimp only
  repeat' first
    | with_reducible exact hk
    | with_reducible apply Keeps.ite
    | with_reducible apply keeps_laneSeries
    | with_reducible apply keeps_trnAbort

theorem keeps_opLaneRestart {σ s : State} {r : Nat} {a : Acc} (hk : Keeps σ s) : AnsKeeps σ ((opLaneRestart).run r a s) := by
  unfold opLaneRestart
  try dsimp only
  repeat' first
    | with_reducible apply AnsKeeps.done
    | with_reducible exact hk
    | with_reducible assumption
    | intro _
    | with_reducible apply keeps_laneRestartOne
    | with_reducible apply Keeps.foldl

theorem keeps_execLaneMode {σ : State} {r : Ring} {s : State} (hk : Keeps σ s) : NextKeeps σ (execLaneMode r s) := by
  unfold execLaneMode
  try dsimp only
  repeat' first
    | with_reducible apply NextKeeps.mk
    | with_reducible exact hk
    | with_reducible assumption
    | intro _
    | with_reducible apply keeps_dispatch
    | with_reducible apply keeps_opLaneMode

theorem keeps_execLaneRestart {σ : State} {r : Ring} {s : State} (hk : Keeps σ s) : NextKeeps σ (execLaneRestart r s) := by
  unfold execLaneRestart
  try dsimp only
  repeat' first
    | with_reducible apply NextKeeps.mk
    | with_reducible exact hk
    | with_reducible assumption
    | intro _
    | with_reducible apply keeps_dispatch
    | with_reducible apply keeps_opLaneRestart

theorem keeps_trnOn {σ : State} {s : State} {l : Nat} {k : Nat} (hk : Keeps σ s) : Keeps σ (trnOn s l k) := by
  unfold trnOn
  try dsimp only
  repeat' first
    | with_reducible exact hk
    | with_reducible apply Keeps.wr
    | ((with_reducible show offTime _ = true); rfl)

theorem keeps_trnOff {σ : State} {s : State} {l : Nat} {k : Nat} (hk : Keeps σ s) : Keeps σ (trnOff s l k) := by
  unfold trnOff
  try dsimp only
  repeat' first
    | with_reducible exact hk
    | with_reducible apply Keeps.wr
    | ((with_reducible show offTime _ = true); rfl)

theorem keeps_trnNext {σ : State} {s : State} {l : Nat} (hk : Keeps σ s) : Keeps σ (trnNext s l) := by
  unfold trnNext
  try dsimp only
  repeat' first
    | with_reducible exact hk
    | with_reducible apply Keeps.ite
    | with_reducible apply Keeps.took
    | with_reducible apply Keeps.wr
    | with_reducible apply keeps_trnOff
    | with_reducible apply keeps_trnOn
    | with_reducible apply keeps_trnSend
    | ((with_reducible show offTime _ = true); rfl)

theorem keeps_sendSwitch {σ : State} {s : State} {l : Nat} (hk : Keeps σ s) : Keeps σ (sendSwitch s l) := by
  unfold sendSwitch
  try dsimp only
  repeat' first
    | with_reducible exact hk
    | with_reducible apply keeps_trnOn
    | with_reducible apply keeps_trnSend

theorem keeps_enterT2 {σ : State} {s : State} {l : Nat} (hk : Keeps σ s) : Keeps σ (enterT2 s l) := by
  unfold enterT2
  try dsimp only
  repeat' first
    | with_reducible exact hk
    | with_reducible apply Keeps.wrs
    | with_reducible apply keeps_trnOn
    | ((with_reducible show List.all _ _ = true); rfl)

theorem keeps_endT1 {σ : State} {s : State} {l : Nat} (hk : Keeps σ s) : Keeps σ (endT1 s l) := by
  unfold endT1
  try dsimp only
  repeat' first
    | with_reducible exact hk
    | with_reducible apply Keeps.ite
    | with_reducible apply Keeps.wr
    | with_reducible apply keeps_enterT2
    | with_reducible apply keeps_trnFail
    | ((with_reducible show offTime _ = true); rfl)
    | split

theorem keeps_enterT4 {σ : State} {s0 : State} {l : Nat} (hk : Keeps σ s0) : Keeps σ (enterT4 s0 l) := by
  unfold enterT4
  try dsimp only
  repeat' first
    | with_reducible exact hk
    | with_reducible exact tabDel_wf _ _
    | with_reducible apply Keeps.ite
    | with_reducible apply Keeps.wrs
    | with_reducible apply keeps_trnShow
    | ((with_reducible show List.all _ _ = true); rfl)
    | with_reducible apply Keeps.txBits

theorem keeps_phaseStep {σ : State} {s : State} {l : Nat} (hk : Keeps σ s) : Keeps σ (phaseStep s l) := by
  unfold phaseStep
  try dsimp only
  repeat' first
    | with_reducible exact hk
    | with_reducible apply Keeps.ite
    | with_reducible apply Keeps.wr
    | with_reducible apply keeps_endT1
    | with_reducible apply keeps_enterT4
    | with_reducible apply keeps_sendSwitch
    | ((with_reducible show offTime _ = true); rfl)
    | split

theorem keeps_trnAdvance {σ : State} {s : State} {l : Nat} (hk : Keeps σ s) : Keeps σ (trnAdvance s l) := by
  unfold trnAdvance
  try dsimp only
  repeat' first
    | with_reducible exact hk
    | with_reducible apply Keeps.ite
    | with_reducible apply keeps_phaseStep
    | with_reducible apply keeps_trnNext

theorem keeps_trnRx {σ : State} {l : Nat} {h : TrnHdr} {msg : Nat} {bytes : List Byte} {body : State → State} {s : State} (hk : Keeps σ s) (hbody : ∀ t, Keeps σ t → Keeps σ (body t)) : Keeps σ (trnRx l h msg bytes body s) := by
  unfold trnRx
  try dsimp only
  repeat' first
    | with_reducible exact hk
    | with_reducible apply hbody
    | with_reducible apply Keeps.ite
    | with_reducible apply Keeps.wr
    | with_reducible apply Keeps.wrs
    | with_reducible apply keeps_phaseStep
    | with_reducible apply keeps_trnAdvance
    | with_reducible apply keeps_trnFail
    | with_reducible apply keeps_trnShow
    | ((with_reducible show offTime _ = true); rfl)
    | ((with_reducible show List.all _ _ = true); rfl)

theorem keeps_inPhase {σ : State} {n : Nat} {l : Nat} {f : State → State} {s : State} (hk : Keeps σ s) (hf : ∀ t, Keeps σ t → Keeps σ (f t)) : Keeps σ (inPhase n l f s) := by
  unfold inPhase
  try dsimp only
  repeat' first
    | with_reducible exact hk
    | with_reducible apply hf
    | with_reducible apply Keeps.ite

theorem keeps_takeHello {σ : State} {l : Nat} {b : HelloBody} {s : State} (hk : Keeps σ s) : Keeps σ (takeHello l b s) := by
  unfold takeHello
  try dsimp only
  repeat' first
    | with_reducible exact hk
    | with_reducible apply Keeps.ite
    | with_reducible apply Keeps.bump
    | with_reducible apply Keeps.wr
    | with_reducible apply Keeps.wrs
    | with_reducible apply keeps_trnFail
    | with_reducible apply keeps_trnOn
    | ((with_reducible show offTime _ = true); rfl)
    | ((with_reducible show List.all _ _ = true); rfl)

theorem keeps_execHello {σ : State} {l : Lane} {h : TrnHdr} {b : HelloBody} {s : State} (hk : Keeps σ s) : NextKeeps σ (execHello l h b s) := by
  unfold execHello
  try dsimp only
  repeat' first
    | with_reducible apply NextKeeps.mk
    | with_reducible exact hk
    | with_reducible assumption
    | intro _
    | with_reducible apply keeps_inPhase
    | with_reducible apply keeps_takeHello
    | with_reducible apply keeps_trnRx

theorem keeps_execReport {σ : State} {l : Lane} {h : TrnHdr} {snr : Nat} {nativeOk : Bool} {maxTier : Nat} {s : State} (hk : Keeps σ s) : NextKeeps σ (execReport l h snr nativeOk maxTier s) := by
  unfold execReport
  try dsimp only
  repeat' first
    | with_reducible apply NextKeeps.mk
    | with_reducible exact hk
    | with_reducible assumption
    | intro _
    | with_reducible apply Keeps.wrs
    | with_reducible apply keeps_inPhase
    | with_reducible apply keeps_trnOn
    | with_reducible apply keeps_trnRx
    | ((with_reducible show List.all _ _ = true); rfl)

theorem keeps_execShapeReq {σ : State} {l : Lane} {h : TrnHdr} {iter : Nat} {taps : List Int} {lut : List Int} {s : State} (hk : Keeps σ s) : NextKeeps σ (execShapeReq l h iter taps lut s) := by
  unfold execShapeReq
  try dsimp only
  repeat' first
    | with_reducible apply NextKeeps.mk
    | with_reducible exact hk
    | with_reducible assumption
    | with_reducible exact tabPut_wf _ _ _
    | intro _
    | with_reducible apply Keeps.ite
    | with_reducible apply Keeps.bump
    | with_reducible apply Keeps.wr
    | with_reducible apply keeps_inPhase
    | with_reducible apply keeps_trnOff
    | with_reducible apply keeps_trnOn
    | with_reducible apply keeps_trnRx
    | ((with_reducible show offTime _ = true); rfl)
    | with_reducible apply Keeps.shapes

theorem keeps_iterEnd {σ : State} {s : State} {l : Nat} {gain : Int} (hk : Keeps σ s) : Keeps σ (iterEnd s l gain) := by
  unfold iterEnd
  try dsimp only
  repeat' first
    | with_reducible exact hk
    | with_reducible apply Keeps.wrs
    | with_reducible apply keeps_trnOff
    | with_reducible apply keeps_trnOn
    | ((with_reducible show List.all _ _ = true); rfl)

theorem keeps_execShapeAck {σ : State} {l : Lane} {h : TrnHdr} {iter : Nat} {accept : Bool} {s : State} (hk : Keeps σ s) : NextKeeps σ (execShapeAck l h iter accept s) := by
  unfold execShapeAck
  try dsimp only
  repeat' first
    | with_reducible apply NextKeeps.mk
    | with_reducible exact hk
    | with_reducible assumption
    | intro _
    | with_reducible apply Keeps.ite
    | with_reducible apply Keeps.wr
    | with_reducible apply keeps_inPhase
    | with_reducible apply keeps_iterEnd
    | with_reducible apply keeps_trnRx
    | ((with_reducible show offTime _ = true); rfl)

theorem keeps_execShapeDone {σ : State} {l : Lane} {h : TrnHdr} {snr : Nat} {s : State} (hk : Keeps σ s) : NextKeeps σ (execShapeDone l h snr s) := by
  unfold execShapeDone
  try dsimp only
  repeat' first
    | with_reducible apply NextKeeps.mk
    | with_reducible exact hk
    | with_reducible assumption
    | intro _
    | with_reducible apply keeps_inPhase
    | with_reducible apply keeps_trnOn
    | with_reducible apply keeps_trnRx

theorem keeps_takeBits {σ : State} {l : Nat} {seg : Nat} {tier : Nat} {b : List Nat} {s : State} (hk : Keeps σ s) : Keeps σ (takeBits l seg tier b s) := by
  unfold takeBits
  try dsimp only
  repeat' first
    | with_reducible exact hk
    | with_reducible exact tabPut_wf _ _ _
    | with_reducible apply Keeps.ite
    | with_reducible apply Keeps.wr
    | with_reducible apply keeps_trnFail
    | ((with_reducible show offTime _ = true); rfl)
    | split
    | with_reducible apply Keeps.bits

theorem keeps_execBits {σ : State} {l : Lane} {h : TrnHdr} {seg : Fin 2} {tier : Nat} {b : List Nat} {s : State} (hk : Keeps σ s) : NextKeeps σ (execBits l h seg tier b s) := by
  unfold execBits
  try dsimp only
  repeat' first
    | with_reducible apply NextKeeps.mk
    | with_reducible exact hk
    | with_reducible assumption
    | intro _
    | with_reducible apply keeps_inPhase
    | with_reducible apply keeps_takeBits
    | with_reducible apply keeps_trnRx

theorem keeps_execSwitch {σ : State} {l : Lane} {h : TrnHdr} {last : Nat} {format : Nat} {tier : Nat} {s : State} (hk : Keeps σ s) : NextKeeps σ (execSwitch l h last format tier s) := by
  unfold execSwitch
  try dsimp only
  repeat' first
    | with_reducible apply NextKeeps.mk
    | with_reducible exact hk
    | with_reducible assumption
    | intro _
    | with_reducible apply Keeps.ite
    | with_reducible apply Keeps.wr
    | with_reducible apply keeps_trnOn
    | with_reducible apply keeps_trnRx
    | ((with_reducible show offTime _ = true); rfl)

theorem keeps_execAbort {σ : State} {l : Lane} {h : TrnHdr} {reason : Nat} {s : State} (hk : Keeps σ s) : NextKeeps σ (execAbort l h reason s) := by
  unfold execAbort
  try dsimp only
  repeat' first
    | with_reducible apply NextKeeps.mk
    | with_reducible exact hk
    | with_reducible apply Keeps.ite
    | with_reducible apply Keeps.wr
    | with_reducible apply keeps_trnFail
    | with_reducible apply keeps_trnShow
    | ((with_reducible show offTime _ = true); rfl)

theorem keeps_execIdle {σ : State} {l : Lane} {h : TrnHdr} {s : State} (hk : Keeps σ s) : NextKeeps σ (execIdle l h s) := by
  unfold execIdle
  try dsimp only
  repeat' first
    | with_reducible apply NextKeeps.mk
    | with_reducible exact hk
    | with_reducible assumption
    | intro _
    | with_reducible apply keeps_trnRx

theorem keeps_execProbeComplete {σ : State} {l : Lane} {snr : Nat} {maxTier : Nat} {s : State} (hk : Keeps σ s) : NextKeeps σ (execProbeComplete l snr maxTier s) := by
  unfold execProbeComplete
  try dsimp only
  repeat' first
    | with_reducible apply NextKeeps.mk
    | with_reducible exact hk
    | with_reducible apply Keeps.ite
    | with_reducible apply Keeps.wrs
    | with_reducible apply keeps_trnAdvance
    | with_reducible apply keeps_trnOn
    | with_reducible apply keeps_trnSend
    | with_reducible apply keeps_trnShow
    | ((with_reducible show List.all _ _ = true); rfl)

theorem keeps_execShapeMeasureDone {σ : State} {l : Lane} {snr : Nat} {s : State} (hk : Keeps σ s) : NextKeeps σ (execShapeMeasureDone l snr s) := by
  unfold execShapeMeasureDone
  try dsimp only
  repeat' first
    | with_reducible apply NextKeeps.mk
    | with_reducible exact hk
    | with_reducible apply Keeps.ite
    | with_reducible apply Keeps.wr
    | with_reducible apply keeps_iterEnd
    | with_reducible apply keeps_trnAdvance
    | with_reducible apply keeps_trnShow
    | ((with_reducible show offTime _ = true); rfl)

theorem keeps_execLoadMeasureDone {σ : State} {l : Lane} {b : List Nat} {s : State} (hk : Keeps σ s) : NextKeeps σ (execLoadMeasureDone l b s) := by
  unfold execLoadMeasureDone
  try dsimp only
  repeat' first
    | with_reducible apply NextKeeps.mk
    | with_reducible exact hk
    | with_reducible exact tabPut_wf _ _ _
    | with_reducible apply Keeps.ite
    | with_reducible apply keeps_trnAdvance
    | with_reducible apply keeps_trnOn
    | with_reducible apply keeps_trnShow
    | with_reducible apply Keeps.bits

theorem keeps_execFormatFound {σ : State} {l : Lane} {f : Format} {s : State} (hk : Keeps σ s) : NextKeeps σ (execFormatFound l f s) := by
  unfold execFormatFound
  try dsimp only
  repeat' first
    | with_reducible apply NextKeeps.mk
    | with_reducible exact hk
    | with_reducible assumption
    | intro _
    | with_reducible apply Keeps.ite
    | with_reducible apply Keeps.bump
    | with_reducible apply Keeps.wr
    | with_reducible apply Keeps.wrs
    | with_reducible apply keeps_clearTraining
    | with_reducible apply keeps_raise
    | with_reducible apply keeps_setLane
    | with_reducible apply keeps_trnSend
    | with_reducible apply keeps_trnShow
    | ((with_reducible show offTime _ = true); rfl)
    | ((with_reducible show List.all _ _ = true); rfl)

theorem keeps_execAcqTimeout {σ : State} {l : Lane} {envelope : Bool} {s : State} (hk : Keeps σ s) : NextKeeps σ (execAcqTimeout l envelope s) := by
  unfold execAcqTimeout
  try dsimp only
  repeat' first
    | with_reducible apply NextKeeps.mk
    | with_reducible exact hk
    | with_reducible assumption
    | intro _
    | with_reducible apply Keeps.ite
    | with_reducible apply keeps_failAttempt
    | with_reducible apply keeps_raise

theorem keeps_execBackoffExpire {σ : State} {l : Lane} {s : State} (hk : Keeps σ s) : NextKeeps σ (execBackoffExpire l s) := by
  unfold execBackoffExpire
  try dsimp only
  repeat' first
    | with_reducible apply NextKeeps.mk
    | with_reducible exact hk
    | with_reducible assumption
    | intro _
    | with_reducible apply Keeps.ite
    | with_reducible apply keeps_raise
    | with_reducible apply keeps_startAttempt

theorem keeps_execListenActivity {σ : State} {l : Lane} {s : State} (hk : Keeps σ s) : NextKeeps σ (execListenActivity l s) := by
  unfold execListenActivity
  try dsimp only
  repeat' first
    | with_reducible apply NextKeeps.mk
    | with_reducible exact hk
    | with_reducible assumption
    | intro _
    | with_reducible apply Keeps.ite
    | with_reducible apply keeps_raise
    | with_reducible apply keeps_startAttempt

theorem keeps_execTrainPhaseTimeout {σ : State} {l : Lane} {s : State} (hk : Keeps σ s) : NextKeeps σ (execTrainPhaseTimeout l s) := by
  unfold execTrainPhaseTimeout
  try dsimp only
  repeat' first
    | with_reducible apply NextKeeps.mk
    | with_reducible exact hk
    | with_reducible apply Keeps.ite
    | with_reducible apply keeps_trnFail

theorem keeps_execTrainTotalTimeout {σ : State} {l : Lane} {s : State} (hk : Keeps σ s) : NextKeeps σ (execTrainTotalTimeout l s) := by
  unfold execTrainTotalTimeout
  try dsimp only
  repeat' first
    | with_reducible apply NextKeeps.mk
    | with_reducible exact hk
    | with_reducible apply Keeps.ite
    | with_reducible apply keeps_trnFail

theorem keeps_execConfirmWindowEnd {σ : State} {l : Lane} {cws : Nat} {symErrs : Nat} {uncorrs : Nat} {trainUs : Nat} {s : State} (hk : Keeps σ s) : NextKeeps σ (execConfirmWindowEnd l cws symErrs uncorrs trainUs s) := by
  unfold execConfirmWindowEnd
  try dsimp only
  repeat' first
    | with_reducible apply NextKeeps.mk
    | with_reducible exact hk
    | with_reducible assumption
    | intro _
    | with_reducible apply Keeps.ite
    | with_reducible apply Keeps.bump
    | with_reducible apply Keeps.wr
    | with_reducible apply Keeps.wrs
    | with_reducible apply keeps_failAttempt
    | with_reducible apply keeps_raise
    | with_reducible apply keeps_setLane
    | ((with_reducible show offTime _ = true); rfl)
    | ((with_reducible show List.all _ _ = true); rfl)

/-! ## Coding -/

theorem keeps_deskew {σ : State} {s : State} {l : Nat} {am : Nat} {wide : Bool} (hk : Keeps σ s) : Keeps σ (deskew s l am wide) := by
  unfold deskew
  try dsimp only
  repeat' first
    | with_reducible exact hk
    | with_reducible assumption
    | intro _
    | with_reducible apply Keeps.ite
    | with_reducible apply Keeps.wr
    | with_reducible apply keeps_portEval
    | with_reducible apply keeps_raise
    | ((with_reducible show offTime _ = true); rfl)
    | split

theorem keeps_execAlignmentMarkerRx {σ : State} {l : Lane} {m : List Byte} {uncorr : Bool} {skew : Nat} {s : State} (hk : Keeps σ s) : NextKeeps σ (execAlignmentMarkerRx l m uncorr skew s) := by
  unfold execAlignmentMarkerRx
  try dsimp only
  repeat' first
    | with_reducible apply NextKeeps.mk
    | with_reducible exact hk
    | with_reducible apply Keeps.ite
    | with_reducible apply Keeps.wrs
    | with_reducible apply keeps_deskew
    | ((with_reducible show List.all _ _ = true); rfl)
    | split

theorem keeps_execFecLock {σ : State} {l : Lane} {held : Bool} {s : State} (hk : Keeps σ s) : NextKeeps σ (execFecLock l held s) := by
  unfold execFecLock
  try dsimp only
  repeat' first
    | with_reducible apply NextKeeps.mk
    | with_reducible exact hk
    | with_reducible apply Keeps.ite
    | with_reducible apply Keeps.wrs
    | ((with_reducible show List.all _ _ = true); rfl)

theorem keeps_execFecLockLoss {σ : State} {l : Lane} {abandoned : Nat} {temp : Nat} {live1ms : Bool} {s : State} (hk : Keeps σ s) : NextKeeps σ (execFecLockLoss l abandoned temp live1ms s) := by
  unfold execFecLockLoss
  try dsimp only
  repeat' first
    | with_reducible apply NextKeeps.mk
    | with_reducible exact hk
    | with_reducible apply Keeps.ite
    | with_reducible apply Keeps.bump
    | with_reducible apply Keeps.wr
    | with_reducible apply Keeps.wrs
    | with_reducible apply keeps_enterHold
    | with_reducible apply keeps_windowReset
    | ((with_reducible show offTime _ = true); rfl)
    | ((with_reducible show List.all _ _ = true); rfl)

theorem keeps_windowAdd {σ : State} {s : State} {l : Nat} {c : CwResult} (hk : Keeps σ s) : Keeps σ (windowAdd s l c) := by
  unfold windowAdd
  try dsimp only
  repeat' first
    | with_reducible exact hk
    | with_reducible apply Keeps.wrs
    | ((with_reducible show List.all _ _ = true); rfl)

theorem keeps_execCodewordDecoded {σ : State} {l : Lane} {c : CwResult} {s : State} (hk : Keeps σ s) : NextKeeps σ (execCodewordDecoded l c s) := by
  unfold execCodewordDecoded
  try dsimp only
  repeat' first
    | with_reducible apply NextKeeps.mk
    | with_reducible exact hk
    | with_reducible apply Keeps.ite
    | with_reducible apply Keeps.bump
    | with_reducible apply Keeps.wr
    | with_reducible apply Keeps.stat
    | with_reducible apply keeps_perfLane
    | with_reducible apply keeps_windowAdd
    | ((with_reducible show offTime _ = true); rfl)

theorem keeps_fecWindow {σ : State} {s : State} {i : Nat} (hk : Keeps σ s) : Keeps σ (fecWindow s i) := by
  unfold fecWindow
  try dsimp only
  repeat' first
    | with_reducible exact hk
    | with_reducible apply Keeps.ite
    | with_reducible apply Keeps.wr
    | with_reducible apply Keeps.wrs
    | with_reducible apply keeps_faultC
    | with_reducible apply keeps_windowReset
    | ((with_reducible show offTime _ = true); rfl)
    | ((with_reducible show List.all _ _ = true); rfl)

theorem keeps_execFecWindowEnd {σ : State} {l : Lane} {s : State} (hk : Keeps σ s) : NextKeeps σ (execFecWindowEnd l s) := by
  unfold execFecWindowEnd
  try dsimp only
  repeat' first
    | with_reducible apply NextKeeps.mk
    | with_reducible exact hk
    | with_reducible apply keeps_fecWindow

theorem keeps_fecClear {σ : State} {s : State} {l : Nat} (hk : Keeps σ s) : Keeps σ (fecClear s l) := by
  unfold fecClear
  try dsimp only
  repeat' first
    | with_reducible exact hk
    | with_reducible apply keeps_fecWindow
    | with_reducible apply Keeps.wrFrom
    | with_reducible apply Keeps.wrs
    | ((with_reducible show offTime _ = true); rfl)
    | ((with_reducible show List.all _ _ = true); rfl)

theorem keeps_execFecCounterClear {σ : State} {l : Lane} {s : State} (hk : Keeps σ s) : NextKeeps σ (execFecCounterClear l s) := by
  unfold execFecCounterClear
  try dsimp only
  repeat' first
    | with_reducible apply NextKeeps.mk
    | with_reducible exact hk
    | with_reducible apply keeps_fecClear

/-! ## Encode -/

theorem keeps_sendPair {σ : State} {s : State} {l : Nat} {blks : List PcsBlock} (hk : Keeps σ s) : Keeps σ (sendPair s l blks).1 := by
  unfold sendPair
  try dsimp only
  try show FstKeeps σ _
  repeat' first
    | with_reducible apply FstKeeps.mk
    | with_reducible exact hk
    | with_reducible apply Keeps.wr
    | with_reducible apply Keeps.wrs
    | ((with_reducible show offTime _ = true); rfl)
    | ((with_reducible show List.all _ _ = true); rfl)
    | split

theorem keeps_sendPairs {σ : State} {l n : Nat} :
    ∀ {s : State} {blks : List PcsBlock}, Keeps σ s → Keeps σ (sendPairs l n s blks).1 := by
  induction n with
  | zero => exact fun h => h
  | succ n ih => exact fun h => ih (keeps_sendPair h)

theorem keeps_sendNative {σ : State} {s0 : State} {s : State} {l : Nat} {blks : List PcsBlock} (hk : Keeps σ s) : Keeps σ (sendNative s0 s l blks) := by
  unfold sendNative
  try dsimp only
  repeat' first
    | with_reducible exact hk
    | with_reducible apply Keeps.ite
    | with_reducible apply Keeps.bumpBy
    | with_reducible apply Keeps.wrs
    | with_reducible apply keeps_emit
    | with_reducible apply keeps_sendPairs
    | ((with_reducible show offTime _ = true); rfl)
    | ((with_reducible show List.all _ _ = true); rfl)

theorem keeps_sendLoaded {σ : State} {s : State} {l : Nat} {blks : List PcsBlock} (hk : Keeps σ s) : Keeps σ (sendLoaded s l blks) := by
  unfold sendLoaded
  try dsimp only
  repeat' first
    | with_reducible exact hk
    | with_reducible exact tabPut_wf _ _ _
    | with_reducible exact tabDel_wf _ _
    | with_reducible apply Keeps.ite
    | with_reducible apply Keeps.wr
    | with_reducible apply keeps_emit
    | with_reducible apply keeps_sendPair
    | ((with_reducible show offTime _ = true); rfl)
    | split
    | with_reducible apply Keeps.txBits

theorem keeps_txSend {σ : State} {l : Nat} {blks : List PcsBlock} {s : State} (hk : Keeps σ s) : Keeps σ (txSend l blks s) := by
  unfold txSend
  try dsimp only
  repeat' first
    | with_reducible exact hk
    | with_reducible apply Keeps.ite
    | with_reducible apply keeps_sendLoaded
    | with_reducible apply keeps_sendNative
    | with_reducible apply keeps_txBoundary
    | split

theorem keeps_execTxBoundaryUpdate {σ : State} {l : Lane} {blks : List PcsBlock} {s : State} (hk : Keeps σ s) : NextKeeps σ (execTxBoundaryUpdate l blks s) := by
  unfold execTxBoundaryUpdate
  try dsimp only
  repeat' first
    | with_reducible apply NextKeeps.mk
    | with_reducible exact hk
    | with_reducible apply keeps_txSend

/-! ## Ports -/

theorem keeps_perfPort {σ : State} {s : State} {p : Nat} {code : Nat} {qual : Nat} {amount : Nat} (hk : Keeps σ s) : Keeps σ (perfPort s p code qual amount) := by
  unfold perfPort
  try dsimp only
  repeat' first
    | with_reducible exact hk
    | with_reducible apply keeps_perf

theorem keeps_macDrop {σ : State} {s : State} {f : Fld} {q : Nat} {p : Nat} (hk : Keeps σ s) (hf : offTime f = true) : Keeps σ (macDrop s f q p) := by
  unfold macDrop
  try dsimp only
  repeat' first
    | with_reducible exact hk
    | with_reducible assumption
    | with_reducible apply Keeps.bump
    | with_reducible apply keeps_perfPort

theorem keeps_saPut {σ : State} {s : State} {c : Nat} {a : Nat} {kn : Nat} {an : Nat} {key : BitVec 256} (hk : Keeps σ s) : Keeps σ (saPut s c a kn an key) := by
  unfold saPut
  try dsimp only
  repeat' first
    | with_reducible exact hk
    | with_reducible exact tabPut_wf _ _ _
    | with_reducible apply Keeps.wrs
    | ((with_reducible show List.all _ _ = true); rfl)
    | with_reducible apply Keeps.saks

theorem keeps_saDrop {σ : State} {s : State} {c : Nat} {a : Nat} (hk : Keeps σ s) : Keeps σ (saDrop s c a) := by
  unfold saDrop
  try dsimp only
  repeat' first
    | with_reducible exact hk
    | with_reducible exact tabDel_wf _ _
    | with_reducible apply Keeps.wrs
    | ((with_reducible show List.all _ _ = true); rfl)
    | with_reducible apply Keeps.saks

theorem keeps_chanFree {σ : State} {s : State} {c : Nat} (hk : Keeps σ s) : Keeps σ (chanFree s c) := by
  unfold chanFree
  try dsimp only
  repeat' first
    | with_reducible exact hk
    | with_reducible exact Keeps.refl _
    | with_reducible exact id
    | with_reducible apply Keeps.wrs
    | with_reducible apply keeps_saDrop
    | ((with_reducible show List.all _ _ = true); rfl)
    | with_reducible apply Keeps.record

theorem keeps_secCount {σ s : State} {p c : Nat} {r : SecResult} (hk : Keeps σ s) : Keeps σ (secCount s p c r) := by
  cases r with
  | valid => exact hk
  | _ => exact keeps_perfPort (hk.bump rfl)

theorem keeps_secValid {σ : State} {s : State} {p : Nat} {c : Nat} {a : Nat} {f : RxFrame} (hk : Keeps σ s) : Keeps σ (secValid s p c a f) := by
  unfold secValid
  try dsimp only
  repeat' first
    | with_reducible exact hk
    | with_reducible apply Keeps.wr
    | with_reducible apply Keeps.stat
    | with_reducible apply keeps_perfPort
    | ((with_reducible show offTime _ = true); rfl)

theorem keeps_deliver {σ : State} {s : State} {p : Nat} {f : RxFrame} {sec : Nat} {secFail : Bool} (hk : Keeps σ s) : Keeps σ (deliver s p f sec secFail) := by
  unfold deliver
  try dsimp only
  repeat' first
    | with_reducible exact hk
    | with_reducible apply Keeps.ite
    | with_reducible apply Keeps.wr
    | with_reducible apply Keeps.stat
    | with_reducible apply keeps_newPkt
    | with_reducible apply keeps_perfPort
    | ((with_reducible show offTime _ = true); rfl)

theorem keeps_secRx {σ : State} {s : State} {p : Nat} {f : RxFrame} (hk : Keeps σ s) : Keeps σ (secRx s p f) := by
  unfold secRx
  try dsimp only
  repeat' first
    | with_reducible exact hk
    | with_reducible apply Keeps.ite
    | with_reducible apply keeps_deliver
    | with_reducible apply keeps_secCount
    | with_reducible apply keeps_secValid
    | split

theorem keeps_execMacRxFrame {σ : State} {p : Port} {f : RxFrame} {s : State} (hk : Keeps σ s) : NextKeeps σ (execMacRxFrame p f s) := by
  unfold execMacRxFrame
  try dsimp only
  repeat' first
    | with_reducible apply NextKeeps.mk
    | with_reducible exact hk
    | with_reducible apply Keeps.ite
    | with_reducible apply keeps_macDrop
    | with_reducible apply keeps_secRx
    | ((with_reducible show offTime _ = true); rfl)

theorem keeps_macSend {σ : State} {s : State} {p : Nat} {len : Nat} {k : Pkt} {guard : List Byte → List Byte} (hk : Keeps σ s) : Keeps σ (macSend s p len k guard) := by
  unfold macSend
  try dsimp only
  repeat' first
    | with_reducible exact hk
    | with_reducible apply Keeps.ite
    | with_reducible apply Keeps.wr
    | with_reducible apply Keeps.stat
    | with_reducible apply Keeps.bump
    | with_reducible apply keeps_emit
    | with_reducible apply keeps_losePkt
    | with_reducible apply keeps_perf
    | with_reducible apply keeps_trace
    | ((with_reducible show offTime _ = true); rfl)
    | split

theorem keeps_secTx {σ : State} {s : State} {p : Nat} {len : Nat} {c : Nat} {k : Pkt} (hk : Keeps σ s) : Keeps σ (secTx s p len c k) := by
  unfold secTx
  try dsimp only
  repeat' first
    | with_reducible exact hk
    | with_reducible apply Keeps.ite
    | with_reducible apply Keeps.wr
    | with_reducible apply Keeps.stat
    | with_reducible apply Keeps.bump
    | with_reducible apply keeps_losePkt
    | with_reducible apply keeps_macSend
    | with_reducible apply keeps_perfPort
    | with_reducible apply keeps_raise
    | ((with_reducible show offTime _ = true); rfl)

theorem keeps_execMacTxFrame {σ : State} {p : Port} {pkt : Nat} {s : State} (hk : Keeps σ s) : NextKeeps σ (execMacTxFrame p pkt s) := by
  unfold execMacTxFrame
  try dsimp only
  repeat' first
    | with_reducible apply NextKeeps.mk
    | with_reducible exact hk
    | with_reducible apply Keeps.ite
    | with_reducible apply keeps_expire
    | with_reducible apply keeps_losePkt
    | with_reducible apply keeps_macDrop
    | with_reducible apply keeps_macSend
    | with_reducible apply keeps_secTx
    | ((with_reducible show offTime _ = true); rfl)
    | split

theorem keeps_pfcClass {σ : State} {p : Nat} {s : State} {e : Fin 8 × BitVec 16} (hk : Keeps σ s) : Keeps σ (pfcClass p s e) := by
  unfold pfcClass
  try dsimp only
  repeat' first
    | with_reducible exact hk
    | with_reducible apply Keeps.ite
    | with_reducible apply Keeps.wr
    | with_reducible apply keeps_perfPort
    | ((with_reducible show offTime _ = true); rfl)

theorem keeps_execPfcFrameRx {σ : State} {p : Port} {quanta : List (Fin 8 × BitVec 16)} {s : State} (hk : Keeps σ s) : NextKeeps σ (execPfcFrameRx p quanta s) := by
  unfold execPfcFrameRx
  try dsimp only
  repeat' first
    | with_reducible apply NextKeeps.mk
    | with_reducible exact hk
    | with_reducible assumption
    | intro _
    | with_reducible apply Keeps.ite
    | with_reducible apply Keeps.bump
    | with_reducible apply keeps_pfcClass
    | with_reducible apply Keeps.foldl
    | ((with_reducible show offTime _ = true); rfl)

theorem keeps_execPfcPauseExpire {σ : State} {p : Port} {cls : Fin 8} {s : State} (hk : Keeps σ s) : NextKeeps σ (execPfcPauseExpire p cls s) := by
  unfold execPfcPauseExpire
  try dsimp only
  repeat' first
    | with_reducible apply NextKeeps.mk
    | with_reducible exact hk
    | with_reducible apply Keeps.wr
    | ((with_reducible show offTime _ = true); rfl)

theorem keeps_execRemoteFaultRx {σ : State} {p : Port} {on : Bool} {s : State} (hk : Keeps σ s) : NextKeeps σ (execRemoteFaultRx p on s) := by
  unfold execRemoteFaultRx
  try dsimp only
  repeat' first
    | with_reducible apply NextKeeps.mk
    | with_reducible exact hk
    | with_reducible assumption
    | intro _
    | with_reducible apply Keeps.ite
    | with_reducible apply Keeps.wr
    | with_reducible apply keeps_portEval
    | with_reducible apply keeps_raise
    | ((with_reducible show offTime _ = true); rfl)

theorem keeps_peersDrop {σ : State} {s : State} {p : Nat} (hk : Keeps σ s) : Keeps σ (peersDrop s p) := by
  unfold peersDrop
  try dsimp only
  repeat' first
    | with_reducible exact hk
    | with_reducible exact filter_wf _ _
    | with_reducible apply Keeps.peers

theorem keeps_mkaElect {σ : State} {s : State} {p : Nat} {c : Nat} (hk : Keeps σ s) : Keeps σ (mkaElect s p c) := by
  unfold mkaElect
  try dsimp only
  repeat' first
    | with_reducible exact hk
    | with_reducible apply Keeps.wr
    | ((with_reducible show offTime _ = true); rfl)

theorem keeps_sakPlace {σ : State} {s : State} {p : Nat} {c : Nat} {kn : Nat} {an : Nat} {key : BitVec 256} (hk : Keeps σ s) : Keeps σ (sakPlace s p c kn an key) := by
  unfold sakPlace
  try dsimp only
  repeat' first
    | with_reducible exact hk
    | with_reducible assumption
    | intro _
    | with_reducible apply keeps_saPut
    | with_reducible apply Keeps.foldl
    | split

theorem keeps_peersUnset {σ : State} {s : State} {p : Nat} (hk : Keeps σ s) : Keeps σ (peersUnset s p) := by
  unfold peersUnset
  try dsimp only
  repeat' first
    | with_reducible exact hk
    | intro _
    | ((with_reducible refine mapIf_wf ?_); assumption)
    | with_reducible apply Keeps.peers

theorem keeps_sakNew {σ : State} {s : State} {p : Nat} {c : Nat} (hk : Keeps σ s) : Keeps σ (sakNew s p c) := by
  unfold sakNew
  try dsimp only
  repeat' first
    | with_reducible exact hk
    | with_reducible apply Keeps.took
    | with_reducible apply keeps_emit
    | with_reducible apply keeps_peersUnset
    | with_reducible apply keeps_sakPlace

theorem keeps_txAnBoth {σ : State} {s : State} {c : Nat} {a : Nat} (hk : Keeps σ s) : Keeps σ (txAnBoth s c a) := by
  unfold txAnBoth
  try dsimp only
  repeat' first
    | with_reducible exact hk
    | with_reducible exact Keeps.refl _
    | with_reducible exact id
    | with_reducible apply Keeps.record

theorem keeps_mkaSettle {σ : State} {s : State} {p : Nat} {c : Nat} (hk : Keeps σ s) : Keeps σ (mkaSettle s p c) := by
  unfold mkaSettle
  try dsimp only
  repeat' first
    | with_reducible exact hk
    | with_reducible apply Keeps.ite
    | with_reducible apply Keeps.wr
    | with_reducible apply keeps_saDrop
    | with_reducible apply keeps_txAnBoth
    | ((with_reducible show offTime _ = true); rfl)

theorem keeps_execMkaHelloTimer {σ : State} {p : Port} {s : State} (hk : Keeps σ s) : NextKeeps σ (execMkaHelloTimer p s) := by
  unfold execMkaHelloTimer
  try dsimp only
  repeat' first
    | with_reducible apply NextKeeps.mk
    | with_reducible exact hk
    | with_reducible apply Keeps.ite
    | with_reducible apply keeps_emit
    | with_reducible apply keeps_sakNew
    | split

theorem keeps_peerChan {σ s : State} {p c sci : Nat} (hk : Keeps σ s) : OptKeeps σ (peerChan s p c sci) := by
  unfold peerChan
  split
  · exact OptKeeps.some hk
  · refine OptKeeps.ite OptKeeps.none ?_
    split
    · exact OptKeeps.none
    · exact OptKeeps.some (hk.wrs rfl).took

theorem keeps_peerHeard {σ : State} {s : State} {p : Nat} {c : Nat} {m : Mkpdu} (hk : Keeps σ s) : Keeps σ (peerHeard s p c m) := by
  unfold peerHeard
  try dsimp only
  repeat' first
    | with_reducible exact hk
    | with_reducible exact OptKeeps.get (keeps_peerChan hk) ‹_›
    | with_reducible exact tabPut_wf _ _ _
    | with_reducible apply Keeps.ite
    | with_reducible apply Keeps.wr
    | ((with_reducible show offTime _ = true); rfl)
    | split
    | with_reducible apply Keeps.peers

theorem keeps_sakTake {σ : State} {s : State} {p : Nat} {c : Nat} {m : Mkpdu} (hk : Keeps σ s) : Keeps σ (sakTake s p c m) := by
  unfold sakTake
  try dsimp only
  repeat' first
    | with_reducible exact hk
    | with_reducible apply Keeps.ite
    | with_reducible apply keeps_peersUnset
    | with_reducible apply keeps_sakPlace
    | split

theorem keeps_rxRetire {σ : State} {s : State} {p : Nat} {m : Mkpdu} (hk : Keeps σ s) : Keeps σ (rxRetire s p m) := by
  unfold rxRetire
  try dsimp only
  repeat' first
    | with_reducible exact hk
    | with_reducible apply Keeps.ite
    | with_reducible apply keeps_saDrop
    | split

theorem keeps_mkpduTake {σ : State} {s : State} {p : Nat} {c : Nat} {m : Mkpdu} (hk : Keeps σ s) : Keeps σ (mkpduTake s p c m) := by
  unfold mkpduTake
  try dsimp only
  repeat' first
    | with_reducible exact hk
    | intro _
    | with_reducible apply Keeps.ite
    | with_reducible apply keeps_mkaElect
    | with_reducible apply keeps_mkaSettle
    | with_reducible apply keeps_peerHeard
    | with_reducible apply keeps_rxRetire
    | with_reducible apply keeps_sakTake
    | ((with_reducible refine mapIf_wf ?_); assumption)
    | with_reducible apply Keeps.peers

theorem keeps_execMkpduRx {σ : State} {p : Port} {m : Mkpdu} {s : State} (hk : Keeps σ s) : NextKeeps σ (execMkpduRx p m s) := by
  unfold execMkpduRx
  try dsimp only
  repeat' first
    | with_reducible apply NextKeeps.mk
    | with_reducible exact hk
    | with_reducible apply Keeps.ite
    | with_reducible apply keeps_mkpduTake
    | split

theorem keeps_execMkaLifeExpire {σ : State} {p : Port} {peerSci : Nat} {s : State} (hk : Keeps σ s) : NextKeeps σ (execMkaLifeExpire p peerSci s) := by
  unfold execMkaLifeExpire
  try dsimp only
  repeat' first
    | with_reducible apply NextKeeps.mk
    | with_reducible exact hk
    | with_reducible exact tabDel_wf _ _
    | with_reducible apply Keeps.ite
    | with_reducible apply Keeps.wr
    | with_reducible apply keeps_chanFree
    | with_reducible apply keeps_mkaElect
    | ((with_reducible show offTime _ = true); rfl)
    | split
    | with_reducible apply Keeps.peers

theorem keeps_mkaStop {σ : State} {s : State} {p : Nat} (hk : Keeps σ s) : Keeps σ (mkaStop s p) := by
  unfold mkaStop
  try dsimp only
  repeat' first
    | with_reducible exact hk
    | with_reducible apply Keeps.wrs
    | with_reducible apply keeps_peersDrop
    | ((with_reducible show List.all _ _ = true); rfl)
    | split

theorem keeps_mkaStart {σ : State} {s : State} {p : Nat} (hk : Keeps σ s) : Keeps σ (mkaStart s p) := by
  unfold mkaStart
  try dsimp only
  repeat' first
    | with_reducible exact hk
    | with_reducible apply Keeps.wr
    | with_reducible apply Keeps.wrs
    | with_reducible apply keeps_peersDrop
    | ((with_reducible show offTime _ = true); rfl)
    | ((with_reducible show List.all _ _ = true); rfl)
    | split

theorem keeps_portGone {σ : State} {s : State} {p : Nat} (hk : Keeps σ s) : Keeps σ (portGone s p) := by
  unfold portGone
  try dsimp only
  repeat' first
    | with_reducible exact hk
    | with_reducible assumption
    | intro _
    | with_reducible apply Keeps.wr
    | with_reducible apply Keeps.wrs
    | with_reducible apply keeps_event
    | with_reducible apply keeps_mkaStop
    | with_reducible apply keeps_portZero
    | with_reducible apply Keeps.foldl
    | ((with_reducible show offTime _ = true); rfl)
    | ((with_reducible show List.all _ _ = true); rfl)

theorem keeps_portAdminSet {σ : State} {s : State} {p : Nat} {up : Bool} (hk : Keeps σ s) : Keeps σ (portAdminSet s p up) := by
  unfold portAdminSet
  try dsimp only
  repeat' first
    | with_reducible exact hk
    | with_reducible assumption
    | intro _
    | with_reducible apply Keeps.wr
    | with_reducible apply keeps_portEval
    | with_reducible apply keeps_raise
    | ((with_reducible show offTime _ = true); rfl)

theorem keeps_opPortAdmin {σ s : State} {r : Nat} {a : Acc} (hk : Keeps σ s) : AnsKeeps σ ((opPortAdmin).run r a s) := by
  unfold opPortAdmin
  try dsimp only
  repeat' first
    | with_reducible apply AnsKeeps.done
    | with_reducible exact hk
    | with_reducible apply keeps_portAdminSet

theorem keeps_opPortClr {σ s : State} {r : Nat} {a : Acc} (hk : Keeps σ s) : AnsKeeps σ ((opPortClr).run r a s) := by
  unfold opPortClr
  try dsimp only
  repeat' first
    | with_reducible apply AnsKeeps.done
    | with_reducible exact hk
    | with_reducible apply keeps_portZero

theorem keeps_opMscChanSet {σ s : State} {r : Nat} {a : Acc} (hk : Keeps σ s) : AnsKeeps σ ((opMscChanSet).run r a s) := by
  unfold opMscChanSet
  try dsimp only
  repeat' first
    | with_reducible apply AnsKeeps.done
    | with_reducible exact hk
    | with_reducible apply Keeps.ite
    | with_reducible apply Keeps.wrs
    | ((with_reducible show List.all _ _ = true); rfl)

theorem keeps_opMscChanDel {σ s : State} {r : Nat} {a : Acc} (hk : Keeps σ s) : AnsKeeps σ ((opMscChanDel).run r a s) := by
  unfold opMscChanDel
  try dsimp only
  repeat' first
    | with_reducible apply AnsKeeps.done
    | with_reducible exact hk
    | with_reducible apply Keeps.ite
    | with_reducible apply keeps_chanFree
    | with_reducible apply keeps_mkaStop

theorem keeps_opMscTxAn {σ s : State} {r : Nat} {a : Acc} (hk : Keeps σ s) : AnsKeeps σ ((opMscTxAn).run r a s) := by
  unfold opMscTxAn
  try dsimp only
  repeat' first
    | with_reducible apply AnsKeeps.done
    | with_reducible exact hk
    | with_reducible apply keeps_setGen

theorem keeps_opMscRxRetire {σ s : State} {r : Nat} {a : Acc} (hk : Keeps σ s) : AnsKeeps σ ((opMscRxRetire).run r a s) := by
  unfold opMscRxRetire
  try dsimp only
  repeat' first
    | with_reducible apply AnsKeeps.done
    | with_reducible exact hk
    | with_reducible apply keeps_saDrop

theorem keeps_opMkaSet {σ s : State} {r : Nat} {a : Acc} (hk : Keeps σ s) : AnsKeeps σ ((opMkaSet).run r a s) := by
  unfold opMkaSet
  try dsimp only
  repeat' first
    | with_reducible apply AnsKeeps.done
    | with_reducible exact hk
    | with_reducible apply Keeps.wrs
    | with_reducible apply keeps_mkaStart
    | ((with_reducible show List.all _ _ = true); rfl)
    | split

theorem keeps_opMkaDel {σ s : State} {r : Nat} {a : Acc} (hk : Keeps σ s) : AnsKeeps σ ((opMkaDel).run r a s) := by
  unfold opMkaDel
  try dsimp only
  repeat' first
    | with_reducible apply AnsKeeps.done
    | with_reducible exact hk
    | with_reducible apply keeps_mkaStop

theorem keeps_opCakInstall {σ s : State} {r : Nat} {a : Acc} (hk : Keeps σ s) : AnsKeeps σ ((opCakInstall).run r a s) := by
  unfold opCakInstall
  try dsimp only
  repeat' first
    | with_reducible apply AnsKeeps.done
    | with_reducible exact hk
    | with_reducible assumption
    | with_reducible exact tabPut_wf _ _ _
    | intro _
    | with_reducible apply keeps_audit
    | with_reducible apply keeps_keyStep
    | with_reducible apply keeps_mkaStart
    | with_reducible apply Keeps.foldl
    | split
    | with_reducible apply Keeps.caks

theorem keeps_opCakDelete {σ s : State} {r : Nat} {a : Acc} (hk : Keeps σ s) : AnsKeeps σ ((opCakDelete).run r a s) := by
  unfold opCakDelete
  try dsimp only
  repeat' first
    | with_reducible apply AnsKeeps.done
    | with_reducible apply AnsKeeps.ite
    | with_reducible exact hk
    | with_reducible assumption
    | with_reducible exact tabDel_wf _ _
    | intro _
    | with_reducible apply keeps_audit
    | with_reducible apply keeps_keyStep
    | with_reducible apply keeps_mkaStop
    | with_reducible apply Keeps.foldl
    | with_reducible apply Keeps.caks

theorem keeps_execPortAdmin {σ : State} {r : Ring} {s : State} (hk : Keeps σ s) : NextKeeps σ (execPortAdmin r s) := by
  unfold execPortAdmin
  try dsimp only
  repeat' first
    | with_reducible apply NextKeeps.mk
    | with_reducible exact hk
    | with_reducible assumption
    | intro _
    | with_reducible apply keeps_dispatch
    | with_reducible apply keeps_opPortAdmin

theorem keeps_execPortClr {σ : State} {r : Ring} {s : State} (hk : Keeps σ s) : NextKeeps σ (execPortClr r s) := by
  unfold execPortClr
  try dsimp only
  repeat' first
    | with_reducible apply NextKeeps.mk
    | with_reducible exact hk
    | with_reducible assumption
    | intro _
    | with_reducible apply keeps_dispatch
    | with_reducible apply keeps_opPortClr

theorem keeps_execMscChanSet {σ : State} {r : Ring} {s : State} (hk : Keeps σ s) : NextKeeps σ (execMscChanSet r s) := by
  unfold execMscChanSet
  try dsimp only
  repeat' first
    | with_reducible apply NextKeeps.mk
    | with_reducible exact hk
    | with_reducible assumption
    | intro _
    | with_reducible apply keeps_dispatch
    | with_reducible apply keeps_opMscChanSet

theorem keeps_execMscChanDel {σ : State} {r : Ring} {s : State} (hk : Keeps σ s) : NextKeeps σ (execMscChanDel r s) := by
  unfold execMscChanDel
  try dsimp only
  repeat' first
    | with_reducible apply NextKeeps.mk
    | with_reducible exact hk
    | with_reducible assumption
    | intro _
    | with_reducible apply keeps_dispatch
    | with_reducible apply keeps_opMscChanDel

theorem keeps_execMscTxAn {σ : State} {r : Ring} {s : State} (hk : Keeps σ s) : NextKeeps σ (execMscTxAn r s) := by
  unfold execMscTxAn
  try dsimp only
  repeat' first
    | with_reducible apply NextKeeps.mk
    | with_reducible exact hk
    | with_reducible assumption
    | intro _
    | with_reducible apply keeps_dispatch
    | with_reducible apply keeps_opMscTxAn

theorem keeps_execMscRxRetire {σ : State} {r : Ring} {s : State} (hk : Keeps σ s) : NextKeeps σ (execMscRxRetire r s) := by
  unfold execMscRxRetire
  try dsimp only
  repeat' first
    | with_reducible apply NextKeeps.mk
    | with_reducible exact hk
    | with_reducible assumption
    | intro _
    | with_reducible apply keeps_dispatch
    | with_reducible apply keeps_opMscRxRetire

theorem keeps_execMkaSet {σ : State} {r : Ring} {s : State} (hk : Keeps σ s) : NextKeeps σ (execMkaSet r s) := by
  unfold execMkaSet
  try dsimp only
  repeat' first
    | with_reducible apply NextKeeps.mk
    | with_reducible exact hk
    | with_reducible assumption
    | intro _
    | with_reducible apply keeps_dispatch
    | with_reducible apply keeps_opMkaSet

theorem keeps_execMkaDel {σ : State} {r : Ring} {s : State} (hk : Keeps σ s) : NextKeeps σ (execMkaDel r s) := by
  unfold execMkaDel
  try dsimp only
  repeat' first
    | with_reducible apply NextKeeps.mk
    | with_reducible exact hk
    | with_reducible assumption
    | intro _
    | with_reducible apply keeps_dispatch
    | with_reducible apply keeps_opMkaDel

theorem keeps_execCakInstall {σ : State} {r : Ring} {s : State} (hk : Keeps σ s) : NextKeeps σ (execCakInstall r s) := by
  unfold execCakInstall
  try dsimp only
  repeat' first
    | with_reducible apply NextKeeps.mk
    | with_reducible exact hk
    | with_reducible assumption
    | intro _
    | with_reducible apply keeps_dispatch
    | with_reducible apply keeps_opCakInstall

theorem keeps_execCakDelete {σ : State} {r : Ring} {s : State} (hk : Keeps σ s) : NextKeeps σ (execCakDelete r s) := by
  unfold execCakDelete
  try dsimp only
  repeat' first
    | with_reducible apply NextKeeps.mk
    | with_reducible exact hk
    | with_reducible assumption
    | intro _
    | with_reducible apply keeps_dispatch
    | with_reducible apply keeps_opCakDelete

/-! ## Images -/

theorem keeps_regroup {σ : State} {s : State} {p : Nat} (hk : Keeps σ s) : Keeps σ (regroup s p) := by
  unfold regroup
  try dsimp only
  repeat' first
    | with_reducible exact hk
    | with_reducible apply Keeps.ite
    | with_reducible apply Keeps.bumpBy
    | with_reducible apply keeps_perfPort
    | with_reducible apply keeps_portCut
    | ((with_reducible show offTime _ = true); rfl)

theorem keeps_portsTake {σ : State} {s : State} {old : Tab PortDef} (hk : Keeps σ s) : Keeps σ (portsTake s old) := by
  unfold portsTake
  try dsimp only
  repeat' first
    | with_reducible exact hk
    | with_reducible assumption
    | intro _
    | with_reducible apply Keeps.ite
    | with_reducible apply Keeps.forEach
    | with_reducible apply keeps_portEval
    | with_reducible apply keeps_portGone
    | with_reducible apply keeps_raise
    | with_reducible apply keeps_regroup

theorem keeps_queuesTake {σ : State} {s : State} {old : Tab QTarget} (hk : Keeps σ s) : Keeps σ (queuesTake s old) := by
  unfold queuesTake
  try dsimp only
  repeat' first
    | with_reducible exact hk
    | with_reducible exact filter_wf _ _
    | with_reducible apply Keeps.queues

theorem keeps_imgShow {σ : State} {s : State} {h : ImgHead} {slot : Nat} (hk : Keeps σ s) : Keeps σ (imgShow s h slot) := by
  unfold imgShow
  try dsimp only
  repeat' first
    | with_reducible exact hk
    | with_reducible apply Keeps.wrs
    | ((with_reducible show List.all _ _ = true); rfl)

theorem keeps_galRestart {σ : State} {s : State} {g : Nat} (hk : Keeps σ s) : Keeps σ (galRestart s g) := by
  unfold galRestart
  try dsimp only
  repeat' first
    | with_reducible exact hk
    | with_reducible apply Keeps.ite
    | with_reducible apply Keeps.wrs
    | with_reducible apply keeps_domMove
    | ((with_reducible show List.all _ _ = true); rfl)
    | split

theorem keeps_galHaltAll {σ : State} {s : State} (hk : Keeps σ s) : Keeps σ (galHaltAll s) := by
  unfold galHaltAll
  try dsimp only
  repeat' first
    | with_reducible exact hk
    | with_reducible assumption
    | intro _
    | with_reducible apply Keeps.ite
    | with_reducible apply Keeps.forEach
    | with_reducible apply Keeps.wr
    | with_reducible apply keeps_abortSlice
    | with_reducible apply keeps_raise
    | ((with_reducible show offTime _ = true); rfl)

theorem keeps_bothGens {σ : State} {s : State} {c : GenCopy} (hk : Keeps σ s) : Keeps σ (bothGens s c) := by
  unfold bothGens
  try dsimp only
  repeat' first
    | with_reducible exact hk
    | with_reducible exact Keeps.refl _
    | with_reducible exact id
    | with_reducible apply Keeps.record

theorem keeps_coldApply {σ : State} {s : State} {h : ImgHead} {rs : Tab Region} {slot : Nat} (hk : Keeps σ s) : Keeps σ (coldApply s h rs slot) := by
  unfold coldApply
  try dsimp only
  repeat' first
    | with_reducible exact hk
    | with_reducible assumption
    | with_reducible exact filter_wf _ _
    | intro _
    | with_reducible apply Keeps.ite
    | with_reducible apply Keeps.forEach
    | with_reducible apply Keeps.wr
    | with_reducible apply keeps_bothGens
    | with_reducible apply keeps_dropAll
    | with_reducible apply keeps_galHaltAll
    | with_reducible apply keeps_galRestart
    | with_reducible apply keeps_imgShow
    | with_reducible apply keeps_portsTake
    | with_reducible apply keeps_queuesTake
    | ((with_reducible show offTime _ = true); rfl)
    | with_reducible apply Keeps.poison

theorem keeps_imgAudit {σ : State} {s : State} {role : Nat} {cred : Nat} {handle : Nat} {opcode : Nat} {imageId : Nat} (hk : Keeps σ s) : Keeps σ (imgAudit s role cred handle opcode imageId) := by
  unfold imgAudit
  try dsimp only
  repeat' first
    | with_reducible exact hk
    | with_reducible apply keeps_audit

theorem keeps_cargoDropImage {σ : State} {s : State} {id : Option Nat} (hk : Keeps σ s) : Keeps σ (cargoDropImage s id) := by
  unfold cargoDropImage
  try dsimp only
  repeat' first
    | with_reducible exact hk
    | with_reducible exact tabPut_wf _ _ _
    | with_reducible apply Keeps.wrs
    | ((with_reducible show List.all _ _ = true); rfl)
    | split
    | with_reducible apply Keeps.cargo

theorem keeps_cargoAddImage {σ : State} {s : State} {x : SiCtx} {a : Acc} (hk : Keeps σ s) : Keeps σ (cargoAddImage s x a) := by
  unfold cargoAddImage
  try dsimp only
  repeat' first
    | with_reducible exact hk
    | with_reducible apply keeps_stageAt
    | split

theorem keeps_ctxEnd {σ : State} {s : State} {x : SiCtx} (hk : Keeps σ s) : Keeps σ (ctxEnd s x) := by
  unfold ctxEnd
  try dsimp only
  repeat' first
    | with_reducible exact hk
    | with_reducible apply keeps_cargoDropImage
    | with_reducible apply keeps_ctxDrop

theorem keeps_ctxFail {σ : State} {s : State} {x : SiCtx} {f : ImgFail} (hk : Keeps σ s) : Keeps σ (ctxFail s x f) := by
  unfold ctxFail
  try dsimp only
  repeat' first
    | with_reducible exact hk
    | with_reducible apply Keeps.wrs
    | with_reducible apply keeps_ctxEnd
    | ((with_reducible show List.all _ _ = true); rfl)

theorem keeps_ctxPass {σ : State} {s : State} {x : SiCtx} {a : Acc} {h : ImgHead} {rs : Tab Region} (hk : Keeps σ s) : Keeps σ (ctxPass s x a h rs) := by
  unfold ctxPass
  try dsimp only
  repeat' first
    | with_reducible exact hk
    | with_reducible exact Keeps.refl _
    | with_reducible exact id
    | with_reducible apply Keeps.wr
    | with_reducible apply keeps_coldApply
    | with_reducible apply keeps_ctxDrop
    | with_reducible apply keeps_imgAudit
    | ((with_reducible show offTime _ = true); rfl)
    | split
    | with_reducible apply Keeps.record

theorem keeps_opSiOpen {σ s : State} {r : Nat} {a : Acc} (hk : Keeps σ s) : AnsKeeps σ ((opSiOpen).run r a s) := by
  unfold opSiOpen
  try dsimp only
  repeat' first
    | with_reducible apply AnsKeeps.done
    | with_reducible apply AnsKeeps.wait
    | with_reducible apply AnsKeeps.ite
    | with_reducible exact hk
    | with_reducible apply Keeps.wrs
    | with_reducible apply keeps_stageItem
    | ((with_reducible show List.all _ _ = true); rfl)
    | split
    | with_reducible apply Keeps.siCtx

theorem keeps_execSiFlashReadDone {σ : State} {readOk : Bool} {s : State} (hk : Keeps σ s) : NextKeeps σ (execSiFlashReadDone readOk s) := by
  unfold execSiFlashReadDone
  try dsimp only
  repeat' first
    | with_reducible apply NextKeeps.mk
    | with_reducible exact hk
    | with_reducible apply keeps_ctxFail
    | with_reducible apply keeps_ctxPass
    | with_reducible apply keeps_dropRun
    | with_reducible apply keeps_finish
    | split

theorem keeps_opSiPut {σ s : State} {r : Nat} {a : Acc} (hk : Keeps σ s) : AnsKeeps σ ((opSiPut).run r a s) := by
  unfold opSiPut
  try dsimp only
  repeat' first
    | with_reducible apply AnsKeeps.done
    | with_reducible exact hk
    | with_reducible apply keeps_cargoAddImage
    | with_reducible apply keeps_ctxFail
    | split
    | with_reducible apply Keeps.siCtx

theorem keeps_opSiClose {σ s : State} {r : Nat} {a : Acc} (hk : Keeps σ s) : AnsKeeps σ ((opSiClose).run r a s) := by
  unfold opSiClose
  try dsimp only
  repeat' first
    | with_reducible apply AnsKeeps.done
    | with_reducible exact hk
    | with_reducible apply keeps_cargoAddImage
    | with_reducible apply keeps_ctxFail
    | with_reducible apply keeps_ctxPass
    | split

theorem keeps_opSiAbort {σ s : State} {r : Nat} {a : Acc} (hk : Keeps σ s) : AnsKeeps σ ((opSiAbort).run r a s) := by
  unfold opSiAbort
  try dsimp only
  repeat' first
    | with_reducible apply AnsKeeps.done
    | with_reducible exact hk
    | with_reducible apply keeps_complete
    | with_reducible apply keeps_ctxEnd
    | split

theorem keeps_execSiBootLoadDone {σ : State} {readOk : Bool} {s : State} (hk : Keeps σ s) : NextKeeps σ (execSiBootLoadDone readOk s) := by
  unfold execSiBootLoadDone
  try dsimp only
  repeat' first
    | with_reducible apply NextKeeps.mk
    | with_reducible exact hk
    | with_reducible apply Keeps.ite
    | with_reducible apply Keeps.wr
    | with_reducible apply Keeps.wrs
    | with_reducible apply keeps_coldApply
    | with_reducible apply keeps_faultK
    | with_reducible apply keeps_imgAudit
    | ((with_reducible show offTime _ = true); rfl)
    | ((with_reducible show List.all _ _ = true); rfl)
    | split

theorem keeps_opGalAssign {σ s : State} {r : Nat} {a : Acc} (hk : Keeps σ s) : AnsKeeps σ ((opGalAssign).run r a s) := by
  unfold opGalAssign
  try dsimp only
  repeat' first
    | with_reducible apply AnsKeeps.done
    | with_reducible exact hk

theorem keeps_holdRelease {σ : State} {s : State} {h : Nat} {sh : Nat} (hk : Keeps σ s) : Keeps σ (holdRelease s h sh) := by
  unfold holdRelease
  try dsimp only
  repeat' first
    | with_reducible exact hk
    | with_reducible exact Keeps.refl _
    | with_reducible exact id
    | with_reducible apply Keeps.wr
    | ((with_reducible show offTime _ = true); rfl)
    | with_reducible apply Keeps.record

theorem keeps_execSwitchMarkerRx {σ : State} {h : Hall} {s : Sheaf} {st : State} (hk : Keeps σ st) : NextKeeps σ (execSwitchMarkerRx h s st) := by
  unfold execSwitchMarkerRx
  try dsimp only
  repeat' first
    | with_reducible apply NextKeeps.mk
    | with_reducible exact hk
    | with_reducible apply keeps_holdRelease

theorem keeps_execSwitchHoldTimeout {σ : State} {h : Hall} {s : Sheaf} {st : State} (hk : Keeps σ st) : NextKeeps σ (execSwitchHoldTimeout h s st) := by
  unfold execSwitchHoldTimeout
  try dsimp only
  repeat' first
    | with_reducible apply NextKeeps.mk
    | with_reducible exact hk
    | with_reducible apply Keeps.ite
    | with_reducible apply Keeps.bump
    | with_reducible apply keeps_faultC
    | with_reducible apply keeps_holdRelease
    | ((with_reducible show offTime _ = true); rfl)

theorem keeps_opSiSlotWrite {σ s : State} {r : Nat} {a : Acc} (hk : Keeps σ s) : AnsKeeps σ ((opSiSlotWrite).run r a s) := by
  unfold opSiSlotWrite
  try dsimp only
  repeat' first
    | with_reducible apply AnsKeeps.done
    | with_reducible exact hk
    | with_reducible exact tabPut_wf _ _ _
    | with_reducible apply Keeps.flash

theorem keeps_opSiSlotActive {σ s : State} {r : Nat} {a : Acc} {readOk : Bool} (hk : Keeps σ s) : AnsKeeps σ ((opSiSlotActive readOk).run r a s) := by
  unfold opSiSlotActive
  try dsimp only
  repeat' first
    | with_reducible apply AnsKeeps.done
    | with_reducible exact hk
    | with_reducible apply Keeps.wr
    | with_reducible apply Keeps.wrs
    | with_reducible apply keeps_keyStep
    | ((with_reducible show offTime _ = true); rfl)
    | ((with_reducible show List.all _ _ = true); rfl)
    | split

theorem keeps_opSiKeySet {σ s : State} {r : Nat} {a : Acc} (hk : Keeps σ s) : AnsKeeps σ ((opSiKeySet).run r a s) := by
  unfold opSiKeySet
  try dsimp only
  repeat' first
    | with_reducible apply AnsKeeps.done
    | with_reducible apply AnsKeeps.ite
    | with_reducible exact hk
    | with_reducible exact tabPut_wf _ _ _
    | with_reducible apply keeps_audit
    | with_reducible apply keeps_keyStep
    | split
    | with_reducible apply Keeps.siVerify
    | with_reducible apply Keeps.siDecrypt

theorem keeps_opSiSvnCommit {σ s : State} {r : Nat} {a : Acc} (hk : Keeps σ s) : AnsKeeps σ ((opSiSvnCommit).run r a s) := by
  unfold opSiSvnCommit
  try dsimp only
  repeat' first
    | with_reducible apply AnsKeeps.done
    | with_reducible apply AnsKeeps.ite
    | with_reducible exact hk
    | with_reducible apply Keeps.wr
    | with_reducible apply keeps_keyStep
    | ((with_reducible show offTime _ = true); rfl)

theorem keeps_execSiOpen {σ : State} {r : Ring} {s : State} (hk : Keeps σ s) : NextKeeps σ (execSiOpen r s) := by
  unfold execSiOpen
  try dsimp only
  repeat' first
    | with_reducible apply NextKeeps.mk
    | with_reducible exact hk
    | with_reducible assumption
    | intro _
    | with_reducible apply keeps_dispatch
    | with_reducible apply keeps_opSiOpen

theorem keeps_execSiPut {σ : State} {r : Ring} {s : State} (hk : Keeps σ s) : NextKeeps σ (execSiPut r s) := by
  unfold execSiPut
  try dsimp only
  repeat' first
    | with_reducible apply NextKeeps.mk
    | with_reducible exact hk
    | with_reducible assumption
    | intro _
    | with_reducible apply keeps_dispatch
    | with_reducible apply keeps_opSiPut

theorem keeps_execSiClose {σ : State} {r : Ring} {s : State} (hk : Keeps σ s) : NextKeeps σ (execSiClose r s) := by
  unfold execSiClose
  try dsimp only
  repeat' first
    | with_reducible apply NextKeeps.mk
    | with_reducible exact hk
    | with_reducible assumption
    | intro _
    | with_reducible apply keeps_dispatch
    | with_reducible apply keeps_opSiClose

theorem keeps_execSiAbort {σ : State} {r : Ring} {s : State} (hk : Keeps σ s) : NextKeeps σ (execSiAbort r s) := by
  unfold execSiAbort
  try dsimp only
  repeat' first
    | with_reducible apply NextKeeps.mk
    | with_reducible exact hk
    | with_reducible assumption
    | intro _
    | with_reducible apply keeps_dispatch
    | with_reducible apply keeps_opSiAbort

theorem keeps_execGalAssign {σ : State} {r : Ring} {s : State} (hk : Keeps σ s) : NextKeeps σ (execGalAssign r s) := by
  unfold execGalAssign
  try dsimp only
  repeat' first
    | with_reducible apply NextKeeps.mk
    | with_reducible exact hk
    | with_reducible assumption
    | intro _
    | with_reducible apply keeps_dispatch
    | with_reducible apply keeps_opGalAssign

theorem keeps_execSiSlotWrite {σ : State} {r : Ring} {s : State} (hk : Keeps σ s) : NextKeeps σ (execSiSlotWrite r s) := by
  unfold execSiSlotWrite
  try dsimp only
  repeat' first
    | with_reducible apply NextKeeps.mk
    | with_reducible exact hk
    | with_reducible assumption
    | intro _
    | with_reducible apply keeps_dispatch
    | with_reducible apply keeps_opSiSlotWrite

theorem keeps_execSiSlotActive {σ : State} {r : Ring} {readOk : Bool} {s : State} (hk : Keeps σ s) : NextKeeps σ (execSiSlotActive r readOk s) := by
  unfold execSiSlotActive
  try dsimp only
  repeat' first
    | with_reducible apply NextKeeps.mk
    | with_reducible exact hk
    | with_reducible assumption
    | intro _
    | with_reducible apply keeps_dispatch
    | with_reducible apply keeps_opSiSlotActive

theorem keeps_execSiKeySet {σ : State} {r : Ring} {s : State} (hk : Keeps σ s) : NextKeeps σ (execSiKeySet r s) := by
  unfold execSiKeySet
  try dsimp only
  repeat' first
    | with_reducible apply NextKeeps.mk
    | with_reducible exact hk
    | with_reducible assumption
    | intro _
    | with_reducible apply keeps_dispatch
    | with_reducible apply keeps_opSiKeySet

theorem keeps_execSiSvnCommit {σ : State} {r : Ring} {s : State} (hk : Keeps σ s) : NextKeeps σ (execSiSvnCommit r s) := by
  unfold execSiSvnCommit
  try dsimp only
  repeat' first
    | with_reducible apply NextKeeps.mk
    | with_reducible exact hk
    | with_reducible assumption
    | intro _
    | with_reducible apply keeps_dispatch
    | with_reducible apply keeps_opSiSvnCommit

/-! ## Gallery -/

theorem keeps_perfGal {σ : State} {s : State} {g : Nat} {code : Nat} {qual : Nat} {amount : Nat} {k : Pkt} (hk : Keeps σ s) : Keeps σ (perfGal s g code qual amount k) := by
  unfold perfGal
  try dsimp only
  repeat' first
    | with_reducible exact hk
    | with_reducible apply keeps_perf

theorem keeps_plogWrite {σ : State} {s : State} {t : Nat} {block : Nat} {base : Nat} {plen : Nat} {sram : Bool} (hk : Keeps σ s) : Keeps σ (plogWrite s t block base plen sram) := by
  unfold plogWrite
  try dsimp only
  repeat' first
    | with_reducible exact hk
    | with_reducible apply Keeps.wrs
    | with_reducible apply keeps_tookNum
    | ((with_reducible show List.all _ _ = true); rfl)

theorem keeps_poisonBlock {σ : State} {s : State} {t : Nat} {block : Nat} {base : Nat} {plen : Nat} (hk : Keeps σ s) : Keeps σ (poisonBlock s t block base plen) := by
  unfold poisonBlock
  try dsimp only
  repeat' first
    | with_reducible exact hk
    | with_reducible exact tabPut_wf _ _ _
    | with_reducible apply Keeps.ite
    | with_reducible apply keeps_faultK
    | with_reducible apply keeps_plogWrite
    | with_reducible apply Keeps.poison

theorem keeps_poisonHit {σ : State} {s : State} {g : Nat} {k : Pkt} {t : Nat} (hk : Keeps σ s) : Keeps σ (poisonHit s g k t).1 := by
  unfold poisonHit
  try dsimp only
  try show FstKeeps σ _
  repeat' first
    | with_reducible exact hk
    | with_reducible apply Keeps.bump
    | with_reducible apply keeps_perfGal
    | ((with_reducible show offTime _ = true); rfl)

theorem keeps_sramRepair {σ : State} {s : State} {d : Nat} {t : Nat} {block : Nat} {base : Nat} {plen : Nat} (hk : Keeps σ s) : Keeps σ (sramRepair s d t block base plen) := by
  unfold sramRepair
  try dsimp only
  repeat' first
    | with_reducible exact hk
    | with_reducible apply Keeps.bump
    | with_reducible apply keeps_faultC
    | with_reducible apply keeps_plogWrite
    | ((with_reducible show offTime _ = true); rfl)

theorem keeps_lookIssue {σ : State} {s : State} {g : Nat} {egress : Bool} {t : Nat} {k : Pkt} (hk : Keeps σ s) : Keeps σ (lookIssue s g egress t k) := by
  unfold lookIssue
  try dsimp only
  repeat' first
    | with_reducible exact hk
    | with_reducible apply Keeps.stat
    | with_reducible apply keeps_peakUp
    | with_reducible apply keeps_perfDram
    | with_reducible apply keeps_perfGal
    | with_reducible apply keeps_setPkt
    | with_reducible apply keeps_trace
    | ((with_reducible show offTime _ = true); rfl)

theorem keeps_admitIngress {σ : State} {s : State} {g : Nat} {look : Option Nat} {k : Pkt} (hk : Keeps σ s) : Keeps σ (admitIngress s g look k) := by
  unfold admitIngress
  try dsimp only
  repeat' first
    | with_reducible exact hk
    | with_reducible apply Keeps.ite
    | with_reducible apply Keeps.stat
    | with_reducible apply keeps_lookIssue
    | with_reducible apply keeps_perfGal
    | with_reducible apply keeps_setPkt
    | with_reducible apply keeps_tagPkt
    | with_reducible apply keeps_tookNum
    | with_reducible apply keeps_trace
    | ((with_reducible show offTime _ = true); rfl)
    | split

theorem keeps_frameArrives {σ : State} {s : State} {g : Nat} {p : Nat} {look : Option Nat} {k : Pkt} (hk : Keeps σ s) : Keeps σ (frameArrives s g p look k) := by
  unfold frameArrives
  try dsimp only
  repeat' first
    | with_reducible exact hk
    | with_reducible apply Keeps.ite
    | with_reducible apply keeps_admitIngress
    | with_reducible apply keeps_galDrop
    | with_reducible apply keeps_setPkt
    | split

theorem keeps_execGalleryEntry {σ : State} {g : Gallery} {pkt : Nat} {look : Option (Fin 256)} {s : State} (hk : Keeps σ s) : NextKeeps σ (execGalleryEntry g pkt look s) := by
  unfold execGalleryEntry
  try dsimp only
  repeat' first
    | with_reducible apply NextKeeps.mk
    | with_reducible exact hk
    | with_reducible apply Keeps.ite
    | with_reducible apply keeps_admitIngress
    | with_reducible apply keeps_expire
    | with_reducible apply keeps_frameArrives
    | split

theorem keeps_lookUncorr {σ : State} {s : State} {g : Nat} {k : Pkt} {u : Nat × Nat × Nat} (hk : Keeps σ s) : Keeps σ (lookUncorr s g k u).1 := by
  unfold lookUncorr
  try dsimp only
  try show FstKeeps σ _
  repeat' first
    | with_reducible apply FstKeeps.mk
    | with_reducible exact hk
    | with_reducible apply Keeps.ite
    | with_reducible apply Keeps.bump
    | with_reducible apply Keeps.took
    | with_reducible apply keeps_perf
    | with_reducible apply keeps_poisonBlock
    | with_reducible apply keeps_poisonHit
    | ((with_reducible show offTime _ = true); rfl)

theorem keeps_lookResume {σ : State} {s : State} {g : Nat} {egress : Bool} {again : Option Nat} {k : Pkt} (hk : Keeps σ s) : Keeps σ (lookResume s g egress again k) := by
  unfold lookResume
  try dsimp only
  repeat' first
    | with_reducible exact hk
    | with_reducible apply keeps_lookIssue
    | with_reducible apply keeps_setPkt
    | split

theorem keeps_execGranaryResponse {σ : State} {g : Gallery} {pkt : Nat} {ns : Nat} {uncorr : Option (Nat × Nat × Nat)} {again : Option (Fin 256)} {s : State} (hk : Keeps σ s) : NextKeeps σ (execGranaryResponse g pkt ns uncorr again s) := by
  unfold execGranaryResponse
  try dsimp only
  repeat' first
    | with_reducible apply NextKeeps.mk
    | with_reducible exact hk
    | with_reducible apply Keeps.ite
    | with_reducible apply Keeps.bump
    | with_reducible apply keeps_expire
    | with_reducible apply keeps_galDrop
    | with_reducible apply keeps_lookResume
    | with_reducible apply keeps_lookUncorr
    | with_reducible apply keeps_perfGal
    | with_reducible apply keeps_trace
    | ((with_reducible show offTime _ = true); rfl)
    | split

theorem keeps_execLookupTimeout {σ : State} {g : Gallery} {pkt : Nat} {s : State} (hk : Keeps σ s) : NextKeeps σ (execLookupTimeout g pkt s) := by
  unfold execLookupTimeout
  try dsimp only
  repeat' first
    | with_reducible apply NextKeeps.mk
    | with_reducible exact hk
    | with_reducible apply Keeps.ite
    | with_reducible apply keeps_expire
    | with_reducible apply keeps_faultC
    | with_reducible apply keeps_galDrop
    | split

theorem keeps_cntWrap {σ : State} {s : State} {i : Nat} {old : Pair} {add : Pair} (hk : Keeps σ s) : Keeps σ (cntWrap s i old add) := by
  unfold cntWrap
  try dsimp only
  repeat' first
    | with_reducible exact hk
    | with_reducible apply Keeps.ite
    | with_reducible apply Keeps.wr
    | ((with_reducible show offTime _ = true); rfl)

theorem keeps_lineBack {σ s : State} {k : Key} {p : Pair} (hk : Keeps σ s) : Keeps σ (lineBack s k p) := by
  unfold lineBack
  dsimp only
  refine keeps_cntWrap (keeps_granaryWrite ?_)
  exact Keeps.pairs (u := { s with cache := tabDel s.cache k }) (hk.cache (tabDel_wf _ _)) (tabPut_wf _ _ _)

theorem keeps_cacheRoom {σ : State} {s : State} {d : Nat} (hk : Keeps σ s) : Keeps σ (cacheRoom s d) := by
  unfold cacheRoom
  try dsimp only
  repeat' first
    | with_reducible exact hk
    | with_reducible apply Keeps.ite
    | with_reducible apply Keeps.took
    | with_reducible apply keeps_lineBack
    | split

theorem keeps_counterHit {σ : State} {g : Nat} {k : Pkt} {s : State} {h : Nat × Nat} (hk : Keeps σ s) : Keeps σ (counterHit g k s h) := by
  unfold counterHit
  try dsimp only
  repeat' first
    | with_reducible exact hk
    | with_reducible exact tabPut_wf _ _ _
    | with_reducible apply Keeps.ite
    | with_reducible apply keeps_cacheRoom
    | with_reducible apply keeps_perfGal
    | split
    | with_reducible apply Keeps.cache

theorem keeps_poisonHits {σ : State} {g : Nat} {k : Pkt} {l : List (Nat × Nat)} :
    ∀ {s : State}, Keeps σ s → Keeps σ (poisonHits s g k l).1 := by
  induction l with
  | nil => exact fun h => h
  | cons e l ih =>
    intro s h
    unfold poisonHits
    split
    · exact ih h
    · exact ih (keeps_poisonHit h)

theorem keeps_sramHits {σ : State} {g : Nat} {k : Pkt} {l : List (Nat × Nat × Nat × Nat)} :
    ∀ {s : State}, Keeps σ s → Keeps σ (sramHits s g k l).1 := by
  induction l with
  | nil => exact fun h => h
  | cons e l ih =>
    intro s h
    unfold sramHits
    have h1 := keeps_poisonHit (g := g) (k := k) (t := e.1) (keeps_sramRepair (d := 8 + galDie g) (t := e.1) (block := e.2.1) (base := e.2.2.1) (plen := e.2.2.2) h)
    revert h1
    generalize poisonHit _ g k e.1 = x
    exact fun h1 => ih h1

theorem keeps_flightLookups {σ : State} {s : State} {g : Nat} {k : Pkt} {r : FlightResult} (hk : Keeps σ s) : Keeps σ (flightLookups s g k r).1 := by
  unfold flightLookups
  try dsimp only
  try show FstKeeps σ _
  repeat' first
    | with_reducible apply FstKeeps.mk
    | with_reducible exact hk
    | with_reducible assumption
    | intro _
    | with_reducible apply keeps_counterHit
    | with_reducible apply keeps_perfGal
    | with_reducible apply keeps_poisonHits
    | with_reducible apply keeps_sramHits
    | with_reducible apply Keeps.foldl

theorem keeps_puntCopy {σ : State} {s : State} {g : Nat} {r : FlightResult} {k : Pkt} (hk : Keeps σ s) : Keeps σ (puntCopy s g r k) := by
  unfold puntCopy
  try dsimp only
  repeat' first
    | with_reducible exact hk
    | with_reducible apply Keeps.ite
    | with_reducible apply keeps_galPunt

theorem keeps_recirculate {σ : State} {s : State} {g : Nat} {r : FlightResult} {v : Vec} {k : Pkt} (hk : Keeps σ s) : Keeps σ (recirculate s g r v k) := by
  unfold recirculate
  try dsimp only
  repeat' first
    | with_reducible exact hk
    | with_reducible apply Keeps.ite
    | with_reducible apply Keeps.stat
    | with_reducible apply keeps_galDrop
    | with_reducible apply keeps_perfGal
    | with_reducible apply keeps_puntCopy
    | with_reducible apply keeps_sendPkt
    | ((with_reducible show offTime _ = true); rfl)

theorem keeps_execIngressFlightEnd {σ : State} {g : Gallery} {pkt : Nat} {f : Flight} {s : State} (hk : Keeps σ s) : NextKeeps σ (execIngressFlightEnd g pkt f s) := by
  unfold execIngressFlightEnd
  try dsimp only
  repeat' first
    | with_reducible apply NextKeeps.mk
    | with_reducible exact hk
    | with_reducible apply Keeps.ite
    | with_reducible apply keeps_expire
    | with_reducible apply keeps_flightLookups
    | with_reducible apply keeps_galDrop
    | with_reducible apply keeps_galPunt
    | with_reducible apply keeps_losePkt
    | with_reducible apply keeps_puntCopy
    | with_reducible apply keeps_recirculate
    | with_reducible apply keeps_setPkt
    | split

theorem keeps_execEgressFlightEnd {σ : State} {g : Gallery} {pkt : Nat} {f : Flight} {s : State} (hk : Keeps σ s) : NextKeeps σ (execEgressFlightEnd g pkt f s) := by
  unfold execEgressFlightEnd
  try dsimp only
  repeat' first
    | with_reducible apply NextKeeps.mk
    | with_reducible exact hk
    | with_reducible apply Keeps.ite
    | with_reducible apply keeps_expire
    | with_reducible apply keeps_flightLookups
    | with_reducible apply keeps_galDrop
    | with_reducible apply keeps_galPunt
    | with_reducible apply keeps_losePkt
    | with_reducible apply keeps_puntCopy
    | with_reducible apply keeps_setPkt
    | split

theorem keeps_replicate {σ : State} {s : State} {g : Nat} {members : List Nat} {k : Pkt} (hk : Keeps σ s) : Keeps σ (replicate s g members k) := by
  unfold replicate
  try dsimp only
  repeat' first
    | with_reducible exact hk
    | with_reducible assumption
    | intro _
    | with_reducible apply keeps_losePkt
    | with_reducible apply keeps_newPkt
    | with_reducible apply keeps_perf
    | with_reducible apply Keeps.foldl

theorem keeps_mirrorCopy {σ : State} {s : State} {g : Nat} {r : FlightResult} {k : Pkt} (hk : Keeps σ s) : Keeps σ (mirrorCopy s g r k) := by
  unfold mirrorCopy
  try dsimp only
  repeat' first
    | with_reducible exact hk
    | with_reducible apply Keeps.ite
    | with_reducible apply keeps_newPkt
    | split

theorem keeps_sendToHalls {σ : State} {s : State} {g : Nat} {k : Pkt} (hk : Keeps σ s) : Keeps σ (sendToHalls s g k) := by
  unfold sendToHalls
  try dsimp only
  repeat' first
    | with_reducible exact hk
    | with_reducible apply keeps_mirrorCopy
    | with_reducible apply keeps_replicate
    | with_reducible apply keeps_sendPkt
    | split

theorem keeps_execReorderRelease {σ : State} {g : Gallery} {pkt : Nat} {s : State} (hk : Keeps σ s) : NextKeeps σ (execReorderRelease g pkt s) := by
  unfold execReorderRelease
  try dsimp only
  repeat' first
    | with_reducible apply NextKeeps.mk
    | with_reducible exact hk
    | with_reducible apply Keeps.ite
    | with_reducible apply keeps_expire
    | with_reducible apply keeps_sendPkt
    | with_reducible apply keeps_sendToHalls
    | with_reducible apply keeps_trace
    | split

theorem keeps_execGalleryFail {σ : State} {g : Gallery} {s : State} (hk : Keeps σ s) : NextKeeps σ (execGalleryFail g s) := by
  unfold execGalleryFail
  try dsimp only
  repeat' first
    | with_reducible apply NextKeeps.mk
    | with_reducible exact hk
    | with_reducible assumption
    | intro _
    | with_reducible apply keeps_galFail
    | with_reducible apply keeps_raise

theorem keeps_execGalleryPeakClear {σ : State} {g : Gallery} {s : State} (hk : Keeps σ s) : NextKeeps σ (execGalleryPeakClear g s) := by
  unfold execGalleryPeakClear
  try dsimp only
  repeat' first
    | with_reducible apply NextKeeps.mk
    | with_reducible exact hk
    | with_reducible apply Keeps.wr
    | ((with_reducible show offTime _ = true); rfl)

theorem keeps_hostToPort {σ : State} {s : State} {p : Nat} {len : Nat} {data : List Byte} (hk : Keeps σ s) : Keeps σ (hostToPort s p len data) := by
  unfold hostToPort
  try dsimp only
  repeat' first
    | with_reducible exact hk
    | with_reducible apply Keeps.ite
    | with_reducible apply keeps_galDrop
    | with_reducible apply keeps_newPkt
    | split

theorem keeps_hostToQueue {σ : State} {s : State} {q : Nat} {len : Nat} {data : List Byte} (hk : Keeps σ s) : Keeps σ (hostToQueue s q len data) := by
  unfold hostToQueue
  try dsimp only
  repeat' first
    | with_reducible exact hk
    | with_reducible apply keeps_newPkt

theorem keeps_execPuntFromHost {σ : State} {p : Fin 64} {d : PuntDesc} {ok : Bool} {s : State} (hk : Keeps σ s) : NextKeeps σ (execPuntFromHost p d ok s) := by
  unfold execPuntFromHost
  try dsimp only
  repeat' first
    | with_reducible apply NextKeeps.mk
    | with_reducible exact hk
    | with_reducible apply Keeps.ite
    | with_reducible apply Keeps.stat
    | with_reducible apply keeps_faultC
    | with_reducible apply keeps_hostToPort
    | with_reducible apply keeps_hostToQueue
    | with_reducible apply keeps_perf
    | with_reducible apply keeps_puntAdvance
    | ((with_reducible show offTime _ = true); rfl)
    | split

/-! ## Tables -/

theorem keeps_pairZero {σ : State} {s : State} {i : Nat} (hk : Keeps σ s) : Keeps σ (pairZero s i) := by
  unfold pairZero
  try dsimp only
  repeat' first
    | with_reducible exact hk
    | with_reducible exact Keeps.refl _
    | with_reducible exact id
    | with_reducible exact tabDel_wf _ _
    | with_reducible exact filter_wf _ _
    | with_reducible apply Keeps.record

theorem keeps_recPut {σ : State} {s : State} {c : GenCopy} {op0 : Nat} {r : TRec} (hk : Keeps σ s) : Keeps σ (recPut s c op0 r).1 := by
  unfold recPut
  try dsimp only
  try show FstKeeps σ _
  repeat' first
    | with_reducible apply FstKeeps.mk
    | with_reducible exact hk
    | with_reducible apply Keeps.took
    | split

theorem keeps_collided {σ : State} {s : State} {t : Nat} (hk : Keeps σ s) : Keeps σ (collided s t) := by
  unfold collided
  try dsimp only
  repeat' first
    | with_reducible exact hk
    | with_reducible apply Keeps.bump
    | with_reducible apply keeps_faultC
    | ((with_reducible show offTime _ = true); rfl)

theorem keeps_recStore {σ : State} {s : State} {d : Option TableDef} {role : Nat} {r : TRec} (hk : Keeps σ s) : Keeps σ (recStore s d role r) := by
  unfold recStore
  try dsimp only
  repeat' first
    | with_reducible exact hk
    | with_reducible apply Keeps.ite
    | with_reducible apply keeps_granaryWrite
    | split

theorem keeps_recApply {σ s : State} {g op role : Nat} {r : TRec} (hk : Keeps σ s) :
    Keeps σ (recApply s g op role r).1 := by
  unfold recApply
  have h1 := keeps_recPut (c := genOf s g) (op0 := op) (r := r) hk
  revert h1
  generalize recPut s (genOf s g) op r = x
  obtain ⟨s1, c, bad⟩ := x
  intro h1
  dsimp only at h1 ⊢
  split
  · exact keeps_collided h1
  · have h2 := Keeps.stat (f := TBL_UPD.APPLIED) (i := 0) (n := 1) (keeps_setGen (g := g) (c := c) h1) rfl
    refine keeps_perf (keeps_recStore ?_)
    split
    · exact keeps_pairZero h2
    · exact h2

theorem keeps_refused {σ : State} {s : State} (hk : Keeps σ s) : Keeps σ (refused s) := by
  unfold refused
  try dsimp only
  repeat' first
    | with_reducible exact hk
    | with_reducible apply Keeps.bump
    | ((with_reducible show offTime _ = true); rfl)

theorem keeps_applyAll {σ : State} {opcode role : Nat} {l : List TRec} :
    ∀ {n : Nat} {s : State}, Keeps σ s → Keeps σ (applyAll opcode role l n s).1 := by
  induction l with
  | nil => exact fun h => h
  | cons r l ih =>
    intro n s h
    unfold applyAll
    dsimp only
    split
    · exact keeps_refused h
    · have h1 := keeps_recApply (g := genNow s) (op := recOp opcode r) (role := role) (r := r) h
      split
      · rename_i e
        rw [e] at h1
        exact ih h1
      · rename_i e
        rw [e] at h1
        exact keeps_refused h1

theorem keeps_opRecords {σ s : State} {r : Nat} {a : Acc} {op : Nat} {ptr : Nat} (hk : Keeps σ s) : AnsKeeps σ ((opRecords op ptr).run r a s) := by
  unfold opRecords
  try dsimp only
  repeat' first
    | with_reducible apply AnsKeeps.done
    | with_reducible exact hk
    | with_reducible apply Keeps.ite
    | with_reducible apply keeps_sumNoteAll
    | split
    | (have e := congrArg Prod.fst ‹applyAll _ _ _ _ _ = _›; dsimp only at e; rw [← e]; apply keeps_applyAll)

theorem keeps_opTblInsert {σ s : State} {r : Nat} {a : Acc} (hk : Keeps σ s) : AnsKeeps σ ((opTblInsert).run r a s) := by
  unfold opTblInsert
  try dsimp only
  repeat' first
    | with_reducible exact hk
    | with_reducible apply keeps_opRecords

theorem keeps_opTblModify {σ s : State} {r : Nat} {a : Acc} (hk : Keeps σ s) : AnsKeeps σ ((opTblModify).run r a s) := by
  unfold opTblModify
  try dsimp only
  repeat' first
    | with_reducible exact hk
    | with_reducible apply keeps_opRecords

theorem keeps_opTblDelete {σ s : State} {r : Nat} {a : Acc} (hk : Keeps σ s) : AnsKeeps σ ((opTblDelete).run r a s) := by
  unfold opTblDelete
  try dsimp only
  repeat' first
    | with_reducible exact hk
    | with_reducible apply keeps_opRecords

theorem keeps_opTblBulk {σ s : State} {r : Nat} {a : Acc} (hk : Keeps σ s) : AnsKeeps σ ((opTblBulk).run r a s) := by
  unfold opTblBulk
  try dsimp only
  repeat' first
    | with_reducible exact hk
    | with_reducible apply keeps_opRecords

theorem keeps_opTblDefault {σ s : State} {r : Nat} {a : Acc} (hk : Keeps σ s) : AnsKeeps σ ((opTblDefault).run r a s) := by
  unfold opTblDefault
  try dsimp only
  repeat' first
    | with_reducible apply AnsKeeps.done
    | with_reducible exact hk
    | with_reducible apply keeps_setGen
    | with_reducible apply keeps_sumNoteAll

theorem keeps_opTblRead {σ s : State} {r : Nat} {a : Acc} (hk : Keeps σ s) : AnsKeeps σ ((opTblRead).run r a s) := by
  unfold opTblRead
  try dsimp only
  repeat' first
    | with_reducible apply AnsKeeps.done
    | with_reducible exact hk
    | with_reducible apply keeps_toHost
    | split

theorem keeps_opTblCntRead {σ s : State} {r : Nat} {a : Acc} (hk : Keeps σ s) : AnsKeeps σ ((opTblCntRead).run r a s) := by
  unfold opTblCntRead
  try dsimp only
  repeat' first
    | with_reducible apply AnsKeeps.done
    | with_reducible exact hk
    | with_reducible apply Keeps.ite
    | with_reducible apply keeps_toHost

theorem keeps_opTblCntClear {σ s : State} {r : Nat} {a : Acc} (hk : Keeps σ s) : AnsKeeps σ ((opTblCntClear).run r a s) := by
  unfold opTblCntClear
  try dsimp only
  repeat' first
    | with_reducible apply AnsKeeps.done
    | with_reducible exact Keeps.refl _
    | with_reducible exact id
    | with_reducible exact hk
    | with_reducible exact filter_wf _ _
    | with_reducible apply Keeps.record

theorem keeps_execCounterWriteback {σ : State} {d : Fin 4} {index : Nat} {uncorr : Bool} {s : State} (hk : Keeps σ s) : NextKeeps σ (execCounterWriteback d index uncorr s) := by
  unfold execCounterWriteback
  try dsimp only
  repeat' first
    | with_reducible apply NextKeeps.mk
    | with_reducible exact hk
    | with_reducible exact Keeps.refl _
    | with_reducible exact id
    | with_reducible exact tabPut_wf _ _ _
    | with_reducible exact tabDel_wf _ _
    | with_reducible apply Keeps.ite
    | with_reducible apply Keeps.bump
    | with_reducible apply Keeps.took
    | with_reducible apply keeps_faultK
    | with_reducible apply keeps_lineBack
    | with_reducible apply keeps_perf
    | ((with_reducible show offTime _ = true); rfl)
    | split
    | with_reducible apply Keeps.record

theorem keeps_opTblClear {σ s : State} {r : Nat} {a : Acc} (hk : Keeps σ s) : AnsKeeps σ ((opTblClear).run r a s) := by
  unfold opTblClear
  try dsimp only
  repeat' first
    | with_reducible apply AnsKeeps.done
    | with_reducible exact hk
    | with_reducible apply keeps_setGen
    | with_reducible apply keeps_sumNoteAll

theorem keeps_opTblRepair {σ s : State} {r : Nat} {a : Acc} (hk : Keeps σ s) : AnsKeeps σ ((opTblRepair).run r a s) := by
  unfold opTblRepair
  try dsimp only
  repeat' first
    | with_reducible apply AnsKeeps.done
    | with_reducible exact hk
    | with_reducible exact tabDel_wf _ _
    | with_reducible apply Keeps.wr
    | with_reducible apply keeps_setGen
    | with_reducible apply keeps_sumNoteAll
    | ((with_reducible show offTime _ = true); rfl)
    | split
    | (have e := congrArg Prod.fst ‹applyAll _ _ _ _ _ = _›; dsimp only at e; rw [← e]; apply keeps_applyAll)
    | with_reducible apply Keeps.poison

theorem keeps_execTblInsert {σ : State} {r : Ring} {s : State} (hk : Keeps σ s) : NextKeeps σ (execTblInsert r s) := by
  unfold execTblInsert
  try dsimp only
  repeat' first
    | with_reducible apply NextKeeps.mk
    | with_reducible exact hk
    | with_reducible assumption
    | intro _
    | with_reducible apply keeps_dispatch
    | with_reducible apply keeps_opTblInsert

theorem keeps_execTblModify {σ : State} {r : Ring} {s : State} (hk : Keeps σ s) : NextKeeps σ (execTblModify r s) := by
  unfold execTblModify
  try dsimp only
  repeat' first
    | with_reducible apply NextKeeps.mk
    | with_reducible exact hk
    | with_reducible assumption
    | intro _
    | with_reducible apply keeps_dispatch
    | with_reducible apply keeps_opTblModify

theorem keeps_execTblDelete {σ : State} {r : Ring} {s : State} (hk : Keeps σ s) : NextKeeps σ (execTblDelete r s) := by
  unfold execTblDelete
  try dsimp only
  repeat' first
    | with_reducible apply NextKeeps.mk
    | with_reducible exact hk
    | with_reducible assumption
    | intro _
    | with_reducible apply keeps_dispatch
    | with_reducible apply keeps_opTblDelete

theorem keeps_execTblBulk {σ : State} {r : Ring} {s : State} (hk : Keeps σ s) : NextKeeps σ (execTblBulk r s) := by
  unfold execTblBulk
  try dsimp only
  repeat' first
    | with_reducible apply NextKeeps.mk
    | with_reducible exact hk
    | with_reducible assumption
    | intro _
    | with_reducible apply keeps_dispatch
    | with_reducible apply keeps_opTblBulk

theorem keeps_execTblDefault {σ : State} {r : Ring} {s : State} (hk : Keeps σ s) : NextKeeps σ (execTblDefault r s) := by
  unfold execTblDefault
  try dsimp only
  repeat' first
    | with_reducible apply NextKeeps.mk
    | with_reducible exact hk
    | with_reducible assumption
    | intro _
    | with_reducible apply keeps_dispatch
    | with_reducible apply keeps_opTblDefault

theorem keeps_execTblRead {σ : State} {r : Ring} {s : State} (hk : Keeps σ s) : NextKeeps σ (execTblRead r s) := by
  unfold execTblRead
  try dsimp only
  repeat' first
    | with_reducible apply NextKeeps.mk
    | with_reducible exact hk
    | with_reducible assumption
    | intro _
    | with_reducible apply keeps_dispatch
    | with_reducible apply keeps_opTblRead

theorem keeps_execTblCntRead {σ : State} {r : Ring} {s : State} (hk : Keeps σ s) : NextKeeps σ (execTblCntRead r s) := by
  unfold execTblCntRead
  try dsimp only
  repeat' first
    | with_reducible apply NextKeeps.mk
    | with_reducible exact hk
    | with_reducible assumption
    | intro _
    | with_reducible apply keeps_dispatch
    | with_reducible apply keeps_opTblCntRead

theorem keeps_execTblCntClear {σ : State} {r : Ring} {s : State} (hk : Keeps σ s) : NextKeeps σ (execTblCntClear r s) := by
  unfold execTblCntClear
  try dsimp only
  repeat' first
    | with_reducible apply NextKeeps.mk
    | with_reducible exact hk
    | with_reducible assumption
    | intro _
    | with_reducible apply keeps_dispatch
    | with_reducible apply keeps_opTblCntClear

theorem keeps_execTblClear {σ : State} {r : Ring} {s : State} (hk : Keeps σ s) : NextKeeps σ (execTblClear r s) := by
  unfold execTblClear
  try dsimp only
  repeat' first
    | with_reducible apply NextKeeps.mk
    | with_reducible exact hk
    | with_reducible assumption
    | intro _
    | with_reducible apply keeps_dispatch
    | with_reducible apply keeps_opTblClear

theorem keeps_execTblRepair {σ : State} {r : Ring} {s : State} (hk : Keeps σ s) : NextKeeps σ (execTblRepair r s) := by
  unfold execTblRepair
  try dsimp only
  repeat' first
    | with_reducible apply NextKeeps.mk
    | with_reducible exact hk
    | with_reducible assumption
    | intro _
    | with_reducible apply keeps_dispatch
    | with_reducible apply keeps_opTblRepair

end Sys2Proof
end

