-- ==== Sys2Proof/Laws/Keeps3.lean ====
section
/-! SUPPORT. That each operation of Traffic to Fire keeps the queue, the free values, the canonical form and local time. -/

namespace Sys2Proof

open Sys2Proof.Machine

/-! ## Traffic -/

theorem keeps_queueSettle {σ : State} {s : State} {q : Nat} (hk : Keeps σ s) : Keeps σ (queueSettle s q) := by
  unfold queueSettle
  try dsimp only
  repeat' first
    | with_reducible exact hk
    | with_reducible apply Keeps.ite
    | with_reducible apply keeps_setQueue

theorem keeps_pfcSend {σ : State} {s : State} {p : Nat} {n : Nat} {quanta : Nat} (hk : Keeps σ s) : Keeps σ (pfcSend s p n quanta) := by
  unfold pfcSend
  try dsimp only
  repeat' first
    | with_reducible exact hk
    | with_reducible apply Keeps.ite
    | with_reducible apply Keeps.bump
    | with_reducible apply keeps_emit
    | with_reducible apply keeps_perfPort
    | ((with_reducible show offTime _ = true); rfl)

theorem keeps_pfcCheck {σ : State} {s : State} {p : Nat} {n : Nat} (hk : Keeps σ s) : Keeps σ (pfcCheck s p n) := by
  unfold pfcCheck
  try dsimp only
  repeat' first
    | with_reducible exact hk
    | with_reducible apply Keeps.ite
    | with_reducible apply Keeps.wr
    | with_reducible apply keeps_perf
    | with_reducible apply keeps_pfcSend
    | ((with_reducible show offTime _ = true); rfl)

theorem keeps_pfcAfter {σ : State} {s : State} {ks : List Pkt} (hk : Keeps σ s) : Keeps σ (pfcAfter s ks) := by
  unfold pfcAfter
  try dsimp only
  repeat' first
    | with_reducible exact hk
    | with_reducible assumption
    | intro _
    | with_reducible apply Keeps.ite
    | with_reducible apply keeps_pfcCheck
    | with_reducible apply Keeps.foldl

theorem keeps_execPfcRefresh {σ : State} {p : Port} {cls : Fin 8} {s : State} (hk : Keeps σ s) : NextKeeps σ (execPfcRefresh p cls s) := by
  unfold execPfcRefresh
  try dsimp only
  repeat' first
    | with_reducible apply NextKeeps.mk
    | with_reducible exact hk
    | with_reducible apply Keeps.ite
    | with_reducible apply keeps_pfcSend

theorem keeps_setNode {σ : State} {s : State} {id : Nat} {x : NodeS} (hk : Keeps σ s) : Keeps σ (setNode s id x) := by
  unfold setNode
  try dsimp only
  repeat' first
    | with_reducible exact hk
    | with_reducible exact tabPut_wf _ _ _
    | with_reducible apply Keeps.nodes

theorem keeps_putDeficit {σ : State} {s : State} {id : Nat} {n : Nat} (hk : Keeps σ s) : Keeps σ (putDeficit s id n) := by
  unfold putDeficit
  try dsimp only
  repeat' first
    | with_reducible exact hk
    | with_reducible apply Keeps.ite
    | with_reducible apply keeps_setNode
    | with_reducible apply keeps_setQueue

theorem keeps_chainSent {σ : State} {s : State} {q : Nat} {len : Nat} {charge : Nat} (hk : Keeps σ s) : Keeps σ (chainSent s q len charge) := by
  unfold chainSent
  try dsimp only
  repeat' first
    | with_reducible exact hk
    | with_reducible assumption
    | intro _
    | with_reducible apply keeps_setNode
    | with_reducible apply Keeps.foldl

theorem keeps_enqueue {σ : State} {s : State} {h : Nat} {q : Nat} {k : Pkt} {silo : Bool} (hk : Keeps σ s) : Keeps σ (enqueue s h q k silo) := by
  unfold enqueue
  try dsimp only
  repeat' first
    | with_reducible exact hk
    | with_reducible apply Keeps.ite
    | with_reducible apply keeps_perf
    | with_reducible apply keeps_perfDram
    | with_reducible apply keeps_pfcCheck
    | with_reducible apply keeps_sendPkt
    | with_reducible apply keeps_setQueue
    | with_reducible apply keeps_trace

theorem keeps_admitQueue {σ : State} {s : State} {h : Nat} {q : Nat} {k : Pkt} {busy : Bool} (hk : Keeps σ s) : Keeps σ (admitQueue s h q k busy) := by
  unfold admitQueue
  try dsimp only
  repeat' first
    | with_reducible exact hk
    | with_reducible apply Keeps.ite
    | with_reducible apply Keeps.took
    | with_reducible apply keeps_enqueue
    | with_reducible apply keeps_hallDrop
    | with_reducible apply keeps_perf
    | with_reducible apply keeps_queueSettle
    | with_reducible apply keeps_setQueue
    | split

theorem keeps_attachSettle {σ : State} {s : State} {q : Nat} (hk : Keeps σ s) : Keeps σ (attachSettle s q) := by
  unfold attachSettle
  try dsimp only
  repeat' first
    | with_reducible exact hk
    | with_reducible apply Keeps.ite
    | with_reducible apply keeps_setQueue

theorem keeps_bankWake {σ : State} {s : State} {h : Nat} (hk : Keeps σ s) : Keeps σ (bankWake s h) := by
  unfold bankWake
  try dsimp only
  repeat' first
    | with_reducible exact hk
    | with_reducible assumption
    | intro _
    | with_reducible apply Keeps.ite
    | with_reducible apply Keeps.forEach
    | with_reducible apply keeps_domMove

theorem keeps_execHallAdmit {σ : State} {h : Hall} {pkt : Nat} {siloBusy : Bool} {s : State} (hk : Keeps σ s) : NextKeeps σ (execHallAdmit h pkt siloBusy s) := by
  unfold execHallAdmit
  try dsimp only
  repeat' first
    | with_reducible apply NextKeeps.mk
    | with_reducible exact hk
    | with_reducible apply Keeps.ite
    | with_reducible apply keeps_admitQueue
    | with_reducible apply keeps_attachSettle
    | with_reducible apply keeps_bankWake
    | with_reducible apply keeps_hallDrop
    | with_reducible apply keeps_setPkt
    | split

theorem keeps_gateStart {σ : State} {s : State} {p : Nat} {l : List (Nat × Nat)} (hk : Keeps σ s) : Keeps σ (gateStart s p l) := by
  unfold gateStart
  try dsimp only
  repeat' first
    | with_reducible exact hk
    | with_reducible apply Keeps.bump
    | with_reducible apply Keeps.wrs
    | ((with_reducible show offTime _ = true); rfl)
    | ((with_reducible show List.all _ _ = true); rfl)

theorem keeps_gateCycle {σ : State} {s : State} {p : Nat} (hk : Keeps σ s) : Keeps σ (gateCycle s p) := by
  unfold gateCycle
  try dsimp only
  repeat' first
    | with_reducible exact hk
    | with_reducible exact tabPut_wf _ _ _
    | with_reducible apply Keeps.ite
    | with_reducible apply Keeps.wr
    | with_reducible apply keeps_gateStart
    | ((with_reducible show offTime _ = true); rfl)
    | split
    | with_reducible apply Keeps.gates

theorem keeps_execGateEntryAdvance {σ : State} {p : Port} {s : State} (hk : Keeps σ s) : NextKeeps σ (execGateEntryAdvance p s) := by
  unfold execGateEntryAdvance
  try dsimp only
  repeat' first
    | with_reducible apply NextKeeps.mk
    | with_reducible exact hk
    | with_reducible apply Keeps.ite
    | with_reducible apply Keeps.wrs
    | ((with_reducible show List.all _ _ = true); rfl)

theorem keeps_roundsRun {σ s t : State} {h q len c : Nat} (hk : Keeps σ t) : Keeps σ (roundsRun s h q len t c) :=
  keeps_putDeficit (Keeps.foldl hk fun _ _ h => keeps_putDeficit h)

theorem keeps_drrSent {σ : State} {s : State} {h : Nat} {q : Nat} {len : Nat} (hk : Keeps σ s) : Keeps σ (drrSent s h q len) := by
  unfold drrSent
  try dsimp only
  repeat' first
    | with_reducible exact hk
    | with_reducible assumption
    | intro _
    | with_reducible apply keeps_roundsRun
    | with_reducible apply Keeps.foldl

theorem keeps_drrIdle {σ : State} {s : State} {q : Nat} (hk : Keeps σ s) : Keeps σ (drrIdle s q) := by
  unfold drrIdle
  try dsimp only
  repeat' first
    | with_reducible exact hk
    | with_reducible assumption
    | intro _
    | with_reducible apply keeps_putDeficit
    | with_reducible apply Keeps.foldl

theorem keeps_queueAfter {σ : State} {s : State} {q : Nat} {ks : List Pkt} (hk : Keeps σ s) : Keeps σ (queueAfter s q ks) := by
  unfold queueAfter
  try dsimp only
  repeat' first
    | with_reducible exact hk
    | with_reducible apply keeps_drrIdle
    | with_reducible apply keeps_pfcAfter
    | with_reducible apply keeps_queueSettle

theorem keeps_headDrop {σ : State} {s : State} {h : Nat} {q : Nat} {code : Nat} {k : Pkt} (hk : Keeps σ s) : Keeps σ (headDrop s h q code k) := by
  unfold headDrop
  try dsimp only
  repeat' first
    | with_reducible exact hk
    | with_reducible apply keeps_hallDrop
    | with_reducible apply keeps_queueAfter

theorem keeps_leaveQueue {σ : State} {s : State} {h : Nat} {q : Nat} {k : Pkt} (hk : Keeps σ s) : Keeps σ (leaveQueue s h q k) := by
  unfold leaveQueue
  try dsimp only
  repeat' first
    | with_reducible exact hk
    | with_reducible apply Keeps.ite
    | with_reducible apply keeps_chainSent
    | with_reducible apply keeps_drrSent
    | with_reducible apply keeps_perf
    | with_reducible apply keeps_perfDram
    | with_reducible apply keeps_setQueue
    | with_reducible apply keeps_trace

theorem keeps_enterEgress {σ : State} {s : State} {q : Nat} {x : Nat} {look : Option Nat} {k : Pkt} (hk : Keeps σ s) : Keeps σ (enterEgress s q x look k) := by
  unfold enterEgress
  try dsimp only
  repeat' first
    | with_reducible exact hk
    | with_reducible apply Keeps.stat
    | with_reducible apply keeps_lookIssue
    | with_reducible apply keeps_perfGal
    | with_reducible apply keeps_sendPkt
    | with_reducible apply keeps_tookNum
    | with_reducible apply keeps_trace
    | ((with_reducible show offTime _ = true); rfl)
    | split

theorem keeps_dequeueTo {σ : State} {s : State} {h : Nat} {q : Nat} {look : Option Nat} {k : Pkt} (hk : Keeps σ s) : Keeps σ (dequeueTo s h q look k) := by
  unfold dequeueTo
  try dsimp only
  repeat' first
    | with_reducible exact hk
    | with_reducible apply Keeps.ite
    | with_reducible apply keeps_enterEgress
    | with_reducible apply keeps_galDrop
    | with_reducible apply keeps_leaveQueue
    | with_reducible apply keeps_queueAfter
    | with_reducible apply keeps_siloFreed
    | split

theorem keeps_execHallDequeue {σ : State} {h : Hall} {q : Fin 1048576} {uncorr : Bool} {look : Option (Fin 256)} {s : State} (hk : Keeps σ s) : NextKeeps σ (execHallDequeue h q uncorr look s) := by
  unfold execHallDequeue
  try dsimp only
  repeat' first
    | with_reducible apply NextKeeps.mk
    | with_reducible exact hk
    | with_reducible apply Keeps.ite
    | with_reducible apply keeps_attachSettle
    | with_reducible apply keeps_dequeueTo
    | with_reducible apply keeps_faultC
    | with_reducible apply keeps_headDrop
    | split

theorem keeps_execTmInternalError {σ : State} {h : Hall} {s : State} (hk : Keeps σ s) : NextKeeps σ (execTmInternalError h s) := by
  unfold execTmInternalError
  try dsimp only
  repeat' first
    | with_reducible apply NextKeeps.mk
    | with_reducible exact hk
    | with_reducible apply Keeps.wr
    | with_reducible apply keeps_faultK
    | ((with_reducible show offTime _ = true); rfl)

theorem keeps_queueApply {σ : State} {s : State} {a : Acc} (hk : Keeps σ s) : Keeps σ (queueApply s a) := by
  unfold queueApply
  try dsimp only
  repeat' first
    | with_reducible exact hk
    | with_reducible apply keeps_setQueue

theorem keeps_opTmgQSet {σ s : State} {r : Nat} {a : Acc} (hk : Keeps σ s) : AnsKeeps σ ((opTmgQSet).run r a s) := by
  unfold opTmgQSet
  try dsimp only
  repeat' first
    | with_reducible apply AnsKeeps.done
    | with_reducible exact hk
    | with_reducible apply keeps_queueApply

theorem keeps_nodeApply {σ : State} {s : State} {a : Acc} (hk : Keeps σ s) : Keeps σ (nodeApply s a) := by
  unfold nodeApply
  try dsimp only
  repeat' first
    | with_reducible exact hk
    | with_reducible apply keeps_setNode

theorem keeps_opTmgNodeSet {σ s : State} {r : Nat} {a : Acc} (hk : Keeps σ s) : AnsKeeps σ ((opTmgNodeSet).run r a s) := by
  unfold opTmgNodeSet
  try dsimp only
  repeat' first
    | with_reducible apply AnsKeeps.done
    | with_reducible exact hk
    | with_reducible apply keeps_nodeApply

theorem keeps_profileApply {σ : State} {s : State} {a : Acc} (hk : Keeps σ s) : Keeps σ (profileApply s a) := by
  unfold profileApply
  try dsimp only
  repeat' first
    | with_reducible exact hk
    | with_reducible apply Keeps.putFields
    | ((with_reducible show List.all _ _ = true); rfl)

theorem keeps_opTmgProfileSet {σ s : State} {r : Nat} {a : Acc} (hk : Keeps σ s) : AnsKeeps σ ((opTmgProfileSet).run r a s) := by
  unfold opTmgProfileSet
  try dsimp only
  repeat' first
    | with_reducible apply AnsKeeps.done
    | with_reducible exact hk
    | with_reducible apply keeps_profileApply

theorem keeps_gateApply {σ : State} {s : State} {a : Acc} (hk : Keeps σ s) : Keeps σ (gateApply s a) := by
  unfold gateApply
  try dsimp only
  repeat' first
    | with_reducible exact hk
    | with_reducible exact tabPut_wf _ _ _
    | with_reducible exact tabDel_wf _ _
    | with_reducible apply Keeps.ite
    | with_reducible apply Keeps.wrs
    | with_reducible apply keeps_gateStart
    | ((with_reducible show List.all _ _ = true); rfl)
    | with_reducible apply Keeps.gates

theorem keeps_opTmgGateSet {σ s : State} {r : Nat} {a : Acc} (hk : Keeps σ s) : AnsKeeps σ ((opTmgGateSet).run r a s) := by
  unfold opTmgGateSet
  try dsimp only
  repeat' first
    | with_reducible apply AnsKeeps.done
    | with_reducible exact hk
    | with_reducible apply keeps_gateApply

theorem keeps_opTmgReplSet {σ s : State} {r : Nat} {a : Acc} (hk : Keeps σ s) : AnsKeeps σ ((opTmgReplSet).run r a s) := by
  unfold opTmgReplSet
  try dsimp only
  repeat' first
    | with_reducible apply AnsKeeps.done
    | with_reducible exact hk
    | with_reducible apply keeps_setGen

theorem keeps_opTmgRead {σ s : State} {r : Nat} {a : Acc} (hk : Keeps σ s) : AnsKeeps σ ((opTmgRead).run r a s) := by
  unfold opTmgRead
  try dsimp only
  repeat' first
    | with_reducible apply AnsKeeps.done
    | with_reducible apply AnsKeeps.ite
    | with_reducible exact hk
    | with_reducible apply Keeps.ite
    | with_reducible apply keeps_setQueue
    | with_reducible apply keeps_toHost

theorem keeps_opTmgQFlush {σ s : State} {r : Nat} {a : Acc} (hk : Keeps σ s) : AnsKeeps σ ((opTmgQFlush).run r a s) := by
  unfold opTmgQFlush
  try dsimp only
  repeat' first
    | with_reducible apply AnsKeeps.done
    | with_reducible exact hk
    | with_reducible apply keeps_dropAll
    | with_reducible apply keeps_queueAfter

theorem keeps_execTmgQSet {σ : State} {r : Ring} {s : State} (hk : Keeps σ s) : NextKeeps σ (execTmgQSet r s) := by
  unfold execTmgQSet
  try dsimp only
  repeat' first
    | with_reducible apply NextKeeps.mk
    | with_reducible exact hk
    | with_reducible assumption
    | intro _
    | with_reducible apply keeps_dispatch
    | with_reducible apply keeps_opTmgQSet

theorem keeps_execTmgNodeSet {σ : State} {r : Ring} {s : State} (hk : Keeps σ s) : NextKeeps σ (execTmgNodeSet r s) := by
  unfold execTmgNodeSet
  try dsimp only
  repeat' first
    | with_reducible apply NextKeeps.mk
    | with_reducible exact hk
    | with_reducible assumption
    | intro _
    | with_reducible apply keeps_dispatch
    | with_reducible apply keeps_opTmgNodeSet

theorem keeps_execTmgProfileSet {σ : State} {r : Ring} {s : State} (hk : Keeps σ s) : NextKeeps σ (execTmgProfileSet r s) := by
  unfold execTmgProfileSet
  try dsimp only
  repeat' first
    | with_reducible apply NextKeeps.mk
    | with_reducible exact hk
    | with_reducible assumption
    | intro _
    | with_reducible apply keeps_dispatch
    | with_reducible apply keeps_opTmgProfileSet

theorem keeps_execTmgGateSet {σ : State} {r : Ring} {s : State} (hk : Keeps σ s) : NextKeeps σ (execTmgGateSet r s) := by
  unfold execTmgGateSet
  try dsimp only
  repeat' first
    | with_reducible apply NextKeeps.mk
    | with_reducible exact hk
    | with_reducible assumption
    | intro _
    | with_reducible apply keeps_dispatch
    | with_reducible apply keeps_opTmgGateSet

theorem keeps_execTmgReplSet {σ : State} {r : Ring} {s : State} (hk : Keeps σ s) : NextKeeps σ (execTmgReplSet r s) := by
  unfold execTmgReplSet
  try dsimp only
  repeat' first
    | with_reducible apply NextKeeps.mk
    | with_reducible exact hk
    | with_reducible assumption
    | intro _
    | with_reducible apply keeps_dispatch
    | with_reducible apply keeps_opTmgReplSet

theorem keeps_execTmgRead {σ : State} {r : Ring} {s : State} (hk : Keeps σ s) : NextKeeps σ (execTmgRead r s) := by
  unfold execTmgRead
  try dsimp only
  repeat' first
    | with_reducible apply NextKeeps.mk
    | with_reducible exact hk
    | with_reducible assumption
    | intro _
    | with_reducible apply keeps_dispatch
    | with_reducible apply keeps_opTmgRead

theorem keeps_execTmgQFlush {σ : State} {r : Ring} {s : State} (hk : Keeps σ s) : NextKeeps σ (execTmgQFlush r s) := by
  unfold execTmgQFlush
  try dsimp only
  repeat' first
    | with_reducible apply NextKeeps.mk
    | with_reducible exact hk
    | with_reducible assumption
    | intro _
    | with_reducible apply keeps_dispatch
    | with_reducible apply keeps_opTmgQFlush

/-! ## Drive -/

theorem keeps_presence {σ : State} {s : State} {k : Nat} {on : Nat} (hk : Keeps σ s) : Keeps σ (presence s k on) := by
  unfold presence
  try dsimp only
  repeat' first
    | with_reducible exact hk
    | with_reducible apply Keeps.wrs
    | ((with_reducible show List.all _ _ = true); rfl)

theorem keeps_execEngineArrive {σ : State} {k : Site} {s : State} (hk : Keeps σ s) : NextKeeps σ (execEngineArrive k s) := by
  unfold execEngineArrive
  try dsimp only
  repeat' first
    | with_reducible apply NextKeeps.mk
    | with_reducible exact hk
    | with_reducible apply Keeps.ite
    | with_reducible apply Keeps.wr
    | with_reducible apply keeps_presence
    | ((with_reducible show offTime _ = true); rfl)

theorem keeps_execEngineLeave {σ : State} {k : Site} {s : State} (hk : Keeps σ s) : NextKeeps σ (execEngineLeave k s) := by
  unfold execEngineLeave
  try dsimp only
  repeat' first
    | with_reducible apply NextKeeps.mk
    | with_reducible exact hk
    | with_reducible assumption
    | intro _
    | with_reducible apply Keeps.ite
    | with_reducible apply keeps_faultK
    | with_reducible apply keeps_presence
    | with_reducible apply keeps_raise
    | with_reducible apply keeps_siteToPads

theorem keeps_execIdMeasure {σ : State} {k : Site} {mv : BitVec 12} {s : State} (hk : Keeps σ s) : NextKeeps σ (execIdMeasure k mv s) := by
  unfold execIdMeasure
  try dsimp only
  repeat' first
    | with_reducible apply NextKeeps.mk
    | with_reducible exact hk
    | with_reducible apply Keeps.ite
    | with_reducible apply Keeps.wr
    | with_reducible apply Keeps.wrs
    | with_reducible apply keeps_faultC
    | ((with_reducible show offTime _ = true); rfl)
    | ((with_reducible show List.all _ _ = true); rfl)
    | split

theorem keeps_execDacClrAssert {σ : State} {s : State} (hk : Keeps σ s) : NextKeeps σ (execDacClrAssert s) := by
  unfold execDacClrAssert
  try dsimp only
  repeat' first
    | with_reducible apply NextKeeps.mk
    | with_reducible exact hk
    | with_reducible assumption
    | intro _
    | with_reducible apply Keeps.forEach
    | with_reducible apply Keeps.wrs
    | with_reducible apply keeps_siteClear
    | ((with_reducible show List.all _ _ = true); rfl)

theorem keeps_execDacClrRelease {σ : State} {s : State} (hk : Keeps σ s) : NextKeeps σ (execDacClrRelease s) := by
  unfold execDacClrRelease
  try dsimp only
  repeat' first
    | with_reducible apply NextKeeps.mk
    | with_reducible exact hk
    | with_reducible apply Keeps.wr
    | ((with_reducible show offTime _ = true); rfl)

theorem keeps_strobeWhere {σ : State} {s : State} {f : Fld} (hk : Keeps σ s) (hf : offTime f = true) : Keeps σ (strobeWhere s f) := by
  unfold strobeWhere
  try dsimp only
  repeat' first
    | with_reducible exact hk
    | with_reducible assumption
    | intro _
    | with_reducible apply Keeps.forEach
    | with_reducible apply keeps_raise
    | with_reducible apply keeps_strobe

theorem keeps_execDacLoadPin {σ : State} {s : State} (hk : Keeps σ s) : NextKeeps σ (execDacLoadPin s) := by
  unfold execDacLoadPin
  try dsimp only
  repeat' first
    | with_reducible apply NextKeeps.mk
    | with_reducible exact hk
    | with_reducible apply keeps_strobeWhere
    | ((with_reducible show offTime _ = true); rfl)

theorem keeps_execDeglitchHoldEnd {σ : State} {k : Site} {c : Fin 16} {s : State} (hk : Keeps σ s) : NextKeeps σ (execDeglitchHoldEnd k c s) := by
  unfold execDeglitchHoldEnd
  try dsimp only
  repeat' first
    | with_reducible apply NextKeeps.mk
    | with_reducible exact hk
    | with_reducible apply Keeps.ite
    | with_reducible apply Keeps.wrs
    | ((with_reducible show List.all _ _ = true); rfl)

theorem keeps_heaterStart {σ : State} {s : State} {k : Nat} {h : Nat} (hk : Keeps σ s) : Keeps σ (heaterStart s k h) := by
  unfold heaterStart
  try dsimp only
  repeat' first
    | with_reducible exact hk
    | with_reducible apply Keeps.wrs
    | ((with_reducible show List.all _ _ = true); rfl)

theorem keeps_execPwmPeriodStart {σ : State} {k : Site} {s : State} (hk : Keeps σ s) : NextKeeps σ (execPwmPeriodStart k s) := by
  unfold execPwmPeriodStart
  try dsimp only
  repeat' first
    | with_reducible apply NextKeeps.mk
    | with_reducible exact hk
    | with_reducible assumption
    | intro _
    | with_reducible apply Keeps.ite
    | with_reducible apply Keeps.forEach
    | with_reducible apply Keeps.wr
    | with_reducible apply keeps_heaterStart
    | ((with_reducible show offTime _ = true); rfl)

theorem keeps_execAlsPersistExpire {σ : State} {l : Lane} {s : State} (hk : Keeps σ s) : NextKeeps σ (execAlsPersistExpire l s) := by
  unfold execAlsPersistExpire
  try dsimp only
  repeat' first
    | with_reducible apply NextKeeps.mk
    | with_reducible exact hk
    | with_reducible assumption
    | intro _
    | with_reducible apply Keeps.ite
    | with_reducible apply keeps_raise
    | with_reducible apply keeps_setAls

theorem keeps_execAlsPeriodExpire {σ : State} {l : Lane} {s : State} (hk : Keeps σ s) : NextKeeps σ (execAlsPeriodExpire l s) := by
  unfold execAlsPeriodExpire
  try dsimp only
  repeat' first
    | with_reducible apply NextKeeps.mk
    | with_reducible exact hk
    | with_reducible assumption
    | intro _
    | with_reducible apply Keeps.ite
    | with_reducible apply keeps_raise
    | with_reducible apply keeps_setAls

theorem keeps_execAlsPulseExpire {σ : State} {l : Lane} {s : State} (hk : Keeps σ s) : NextKeeps σ (execAlsPulseExpire l s) := by
  unfold execAlsPulseExpire
  try dsimp only
  repeat' first
    | with_reducible apply NextKeeps.mk
    | with_reducible exact hk
    | with_reducible assumption
    | intro _
    | with_reducible apply Keeps.ite
    | with_reducible apply keeps_raise
    | with_reducible apply keeps_setAls

theorem keeps_execAlsRecover {σ : State} {l : Lane} {s : State} (hk : Keeps σ s) : NextKeeps σ (execAlsRecover l s) := by
  unfold execAlsRecover
  try dsimp only
  repeat' first
    | with_reducible apply NextKeeps.mk
    | with_reducible exact hk
    | with_reducible assumption
    | intro _
    | with_reducible apply Keeps.ite
    | with_reducible apply Keeps.wr
    | with_reducible apply keeps_raise
    | with_reducible apply keeps_setAls
    | ((with_reducible show offTime _ = true); rfl)

theorem keeps_execSignalDetectRestored {σ : State} {l : Lane} {s : State} (hk : Keeps σ s) : NextKeeps σ (execSignalDetectRestored l s) := by
  unfold execSignalDetectRestored
  try dsimp only
  repeat' first
    | with_reducible apply NextKeeps.mk
    | with_reducible exact hk
    | with_reducible apply Keeps.wr
    | ((with_reducible show offTime _ = true); rfl)

theorem keeps_siteFree {σ : State} {s : State} {k : Nat} (hk : Keeps σ s) : Keeps σ (siteFree s k) := by
  unfold siteFree
  try dsimp only
  repeat' first
    | with_reducible exact hk
    | with_reducible assumption
    | intro _
    | with_reducible apply Keeps.forEach
    | with_reducible apply Keeps.wr
    | with_reducible apply keeps_htrLow
    | with_reducible apply keeps_siteClear
    | ((with_reducible show offTime _ = true); rfl)

theorem keeps_opSiteRelease {σ s : State} {r : Nat} {a : Acc} (hk : Keeps σ s) : AnsKeeps σ ((opSiteRelease).run r a s) := by
  unfold opSiteRelease
  try dsimp only
  repeat' first
    | with_reducible apply AnsKeeps.done
    | with_reducible exact hk
    | with_reducible apply Keeps.ite
    | with_reducible apply keeps_siteFree

theorem keeps_opSiteHold {σ s : State} {r : Nat} {a : Acc} (hk : Keeps σ s) : AnsKeeps σ ((opSiteHold).run r a s) := by
  unfold opSiteHold
  try dsimp only
  repeat' first
    | with_reducible apply AnsKeeps.done
    | with_reducible exact hk
    | with_reducible assumption
    | intro _
    | with_reducible apply Keeps.ite
    | with_reducible apply keeps_raise
    | with_reducible apply keeps_siteHold

theorem keeps_dacPut {σ : State} {s : State} {a : Acc} (hk : Keeps σ s) : Keeps σ (dacPut s a) := by
  unfold dacPut
  try dsimp only
  repeat' first
    | with_reducible exact hk
    | with_reducible assumption
    | intro _
    | with_reducible apply Keeps.wr
    | with_reducible apply Keeps.foldl
    | ((with_reducible show offTime _ = true); rfl)

theorem keeps_opDacSet {σ s : State} {r : Nat} {a : Acc} (hk : Keeps σ s) : AnsKeeps σ ((opDacSet).run r a s) := by
  unfold opDacSet
  try dsimp only
  repeat' first
    | with_reducible apply AnsKeeps.done
    | with_reducible exact hk
    | with_reducible assumption
    | intro _
    | with_reducible apply Keeps.ite
    | with_reducible apply keeps_dacPut
    | with_reducible apply keeps_raise
    | with_reducible apply keeps_strobe

theorem keeps_opDacLoad {σ s : State} {r : Nat} {a : Acc} (hk : Keeps σ s) : AnsKeeps σ ((opDacLoad).run r a s) := by
  unfold opDacLoad
  try dsimp only
  repeat' first
    | with_reducible apply AnsKeeps.done
    | with_reducible exact hk
    | with_reducible assumption
    | intro _
    | with_reducible apply Keeps.ite
    | with_reducible apply keeps_raise
    | with_reducible apply keeps_strobe
    | with_reducible apply keeps_strobeWhere
    | ((with_reducible show offTime _ = true); rfl)

theorem keeps_pwmPut {σ : State} {s : State} {a : Acc} (hk : Keeps σ s) : Keeps σ (pwmPut s a) := by
  unfold pwmPut
  try dsimp only
  repeat' first
    | with_reducible exact hk
    | with_reducible assumption
    | intro _
    | with_reducible apply Keeps.ite
    | with_reducible apply Keeps.wr
    | with_reducible apply Keeps.foldl
    | ((with_reducible show offTime _ = true); rfl)

theorem keeps_opPwmSet {σ s : State} {r : Nat} {a : Acc} (hk : Keeps σ s) : AnsKeeps σ ((opPwmSet).run r a s) := by
  unfold opPwmSet
  try dsimp only
  repeat' first
    | with_reducible apply AnsKeeps.done
    | with_reducible exact hk
    | with_reducible assumption
    | intro _
    | with_reducible apply Keeps.ite
    | with_reducible apply keeps_pwmPut
    | with_reducible apply keeps_raise
    | with_reducible apply keeps_strobe

theorem keeps_opAlsRestart {σ s : State} {r : Nat} {a : Acc} (hk : Keeps σ s) : AnsKeeps σ ((opAlsRestart).run r a s) := by
  unfold opAlsRestart
  try dsimp only
  repeat' first
    | with_reducible apply AnsKeeps.done
    | with_reducible exact hk
    | with_reducible assumption
    | intro _
    | with_reducible apply Keeps.ite
    | with_reducible apply Keeps.forEach
    | with_reducible apply keeps_raise
    | with_reducible apply keeps_setAls

theorem keeps_ceilChan {σ : State} {s : State} {i : Nat} (hk : Keeps σ s) : Keeps σ (ceilChan s i) := by
  unfold ceilChan
  try dsimp only
  repeat' first
    | with_reducible exact hk
    | with_reducible assumption
    | intro _
    | with_reducible apply Keeps.ite
    | with_reducible apply keeps_countClamp
    | with_reducible apply keeps_moveOut
    | with_reducible apply keeps_raise
    | with_reducible apply keeps_toClear

theorem keeps_ceilTake {σ : State} {t : Tab CeilRec} {sites : List Nat} {s : State} (hk : Keeps σ s) : Keeps σ (ceilTake t sites s) := by
  unfold ceilTake
  try dsimp only
  repeat' first
    | with_reducible exact hk
    | with_reducible assumption
    | intro _
    | with_reducible apply Keeps.forEach
    | with_reducible apply Keeps.wr
    | with_reducible apply keeps_ceilChan
    | with_reducible apply keeps_loadCeil
    | ((with_reducible show offTime _ = true); rfl)

theorem keeps_opCeilWrite {σ s : State} {r : Nat} {a : Acc} {flashOk : Bool} (hk : Keeps σ s) : AnsKeeps σ ((opCeilWrite flashOk).run r a s) := by
  unfold opCeilWrite
  try dsimp only
  repeat' first
    | with_reducible apply AnsKeeps.done
    | with_reducible exact Keeps.refl _
    | with_reducible exact id
    | with_reducible apply AnsKeeps.doneThen
    | with_reducible apply AnsKeeps.ite
    | with_reducible exact hk
    | with_reducible assumption
    | intro _
    | with_reducible apply Keeps.wrs
    | with_reducible apply keeps_audit
    | with_reducible apply keeps_ceilTake
    | with_reducible apply keeps_faultC
    | with_reducible apply Keeps.foldl
    | ((with_reducible show List.all _ _ = true); rfl)
    | exact mapKeys_wf _ rfl _
    | with_reducible apply Keeps.record

theorem keeps_execSiteRelease {σ : State} {r : Ring} {s : State} (hk : Keeps σ s) : NextKeeps σ (execSiteRelease r s) := by
  unfold execSiteRelease
  try dsimp only
  repeat' first
    | with_reducible apply NextKeeps.mk
    | with_reducible exact hk
    | with_reducible assumption
    | intro _
    | with_reducible apply keeps_dispatch
    | with_reducible apply keeps_opSiteRelease

theorem keeps_execSiteHold {σ : State} {r : Ring} {s : State} (hk : Keeps σ s) : NextKeeps σ (execSiteHold r s) := by
  unfold execSiteHold
  try dsimp only
  repeat' first
    | with_reducible apply NextKeeps.mk
    | with_reducible exact hk
    | with_reducible assumption
    | intro _
    | with_reducible apply keeps_dispatch
    | with_reducible apply keeps_opSiteHold

theorem keeps_execDacSet {σ : State} {r : Ring} {s : State} (hk : Keeps σ s) : NextKeeps σ (execDacSet r s) := by
  unfold execDacSet
  try dsimp only
  repeat' first
    | with_reducible apply NextKeeps.mk
    | with_reducible exact hk
    | with_reducible assumption
    | intro _
    | with_reducible apply keeps_dispatch
    | with_reducible apply keeps_opDacSet

theorem keeps_execDacLoad {σ : State} {r : Ring} {s : State} (hk : Keeps σ s) : NextKeeps σ (execDacLoad r s) := by
  unfold execDacLoad
  try dsimp only
  repeat' first
    | with_reducible apply NextKeeps.mk
    | with_reducible exact hk
    | with_reducible assumption
    | intro _
    | with_reducible apply keeps_dispatch
    | with_reducible apply keeps_opDacLoad

theorem keeps_execPwmSet {σ : State} {r : Ring} {s : State} (hk : Keeps σ s) : NextKeeps σ (execPwmSet r s) := by
  unfold execPwmSet
  try dsimp only
  repeat' first
    | with_reducible apply NextKeeps.mk
    | with_reducible exact hk
    | with_reducible assumption
    | intro _
    | with_reducible apply keeps_dispatch
    | with_reducible apply keeps_opPwmSet

theorem keeps_execCeilWrite {σ : State} {r : Ring} {flashOk : Bool} {s : State} (hk : Keeps σ s) : NextKeeps σ (execCeilWrite r flashOk s) := by
  unfold execCeilWrite
  try dsimp only
  repeat' first
    | with_reducible apply NextKeeps.mk
    | with_reducible exact hk
    | with_reducible assumption
    | intro _
    | with_reducible apply keeps_dispatch
    | with_reducible apply keeps_opCeilWrite

theorem keeps_execAlsRestart {σ : State} {r : Ring} {s : State} (hk : Keeps σ s) : NextKeeps σ (execAlsRestart r s) := by
  unfold execAlsRestart
  try dsimp only
  repeat' first
    | with_reducible apply NextKeeps.mk
    | with_reducible exact hk
    | with_reducible assumption
    | intro _
    | with_reducible apply keeps_dispatch
    | with_reducible apply keeps_opAlsRestart

/-! ## Monitor -/

theorem keeps_setChain {σ : State} {s : State} {k : Nat} {n : Nat} {c : Chain} (hk : Keeps σ s) : Keeps σ (setChain s k n c) := by
  unfold setChain
  try dsimp only
  repeat' first
    | with_reducible exact hk
    | with_reducible exact tabPut_wf _ _ _
    | with_reducible apply Keeps.chains

theorem keeps_chainClear {σ : State} {s : State} {k : Nat} {n : Nat} (hk : Keeps σ s) : Keeps σ (chainClear s k n) := by
  unfold chainClear
  try dsimp only
  repeat' first
    | with_reducible exact hk
    | with_reducible apply Keeps.wr
    | with_reducible apply keeps_setChain
    | ((with_reducible show offTime _ = true); rfl)

theorem keeps_detClear {σ : State} {s : State} {k : Nat} {n : Nat} (hk : Keeps σ s) : Keeps σ (detClear s k n) := by
  unfold detClear
  try dsimp only
  repeat' first
    | with_reducible exact hk
    | with_reducible apply Keeps.wrs
    | with_reducible apply keeps_setChain
    | ((with_reducible show List.all _ _ = true); rfl)

theorem keeps_monEvent {σ : State} {s : State} {k : Nat} {n : Nat} {kind : Nat} {value : Nat} (hk : Keeps σ s) : Keeps σ (monEvent s k n kind value) := by
  unfold monEvent
  try dsimp only
  repeat' first
    | with_reducible exact hk
    | with_reducible apply keeps_event

theorem keeps_cmpSee {σ : State} {s : State} {k : Nat} {n : Nat} {c : Cmp} {x : Nat} (hk : Keeps σ s) (hst : offTime c.st = true) (hevt : offTime c.evt = true) : Keeps σ (cmpSee s k n c x) := by
  unfold cmpSee
  try dsimp only
  repeat' first
    | with_reducible exact hk
    | with_reducible assumption
    | with_reducible apply Keeps.ite
    | with_reducible apply Keeps.wr
    | with_reducible apply Keeps.wrs
    | with_reducible apply keeps_monEvent
    | with_reducible apply keeps_perf
    | ((with_reducible show List.all _ _ = true); simp only [List.all_cons, List.all_nil, hst, hevt, Bool.and_true, Bool.true_and]; try rfl)

theorem keeps_cmpRun {σ : State} {k : Nat} {n : Nat} {o : ChainOut} {s : State} {c : Cmp} (hk : Keeps σ s) (hst : offTime c.st = true) (hevt : offTime c.evt = true) : Keeps σ (cmpRun k n o s c) := by
  unfold cmpRun
  try dsimp only
  repeat' first
    | with_reducible exact hk
    | with_reducible assumption
    | with_reducible apply keeps_cmpSee
    | split

theorem keeps_detSee {σ : State} {s : State} {k : Nat} {n : Nat} {x : Nat} (hk : Keeps σ s) : Keeps σ (detSee s k n x) := by
  unfold detSee
  try dsimp only
  repeat' first
    | with_reducible exact hk
    | with_reducible apply Keeps.wrs
    | with_reducible apply keeps_setChain
    | ((with_reducible show List.all _ _ = true); rfl)

theorem keeps_cmpSettle {σ : State} {old : State} {i : Nat} {s : State} {c : Cmp} (hk : Keeps σ s) (hst : offTime c.st = true) (hevt : offTime c.evt = true) : Keeps σ (cmpSettle old i s c) := by
  unfold cmpSettle
  try dsimp only
  repeat' first
    | with_reducible exact hk
    | with_reducible assumption
    | with_reducible apply Keeps.ite
    | with_reducible apply Keeps.wr

theorem groupOvr_offTime (g : Nat) : offTime (groupOvr g) = true := by
  unfold groupOvr
  split <;> rfl

theorem cmps_offTime : (cmps.all fun c => offTime c.st && offTime c.evt) = true := rfl

theorem keeps_monInPut {σ s : State} {k n v : Nat} (hk : Keeps σ s) : Keeps σ (monInPut s k n v) := by
  unfold monInPut
  dsimp only
  refine Keeps.foldl_mem ?_ fun t c hc ht => keeps_cmpSettle ht
    (Bool.and_eq_true_iff.1 (List.all_eq_true.1 cmps_offTime c hc)).1 (Bool.and_eq_true_iff.1 (List.all_eq_true.1 cmps_offTime c hc)).2
  have h1 := hk.putFields (l := reg_EMG_MON_IN.flds) (i := 16 * k + n) (v := v) rfl
  exact Keeps.ite (keeps_detClear (keeps_chainClear h1)) h1

theorem keeps_monInTake {σ : State} {s : State} {k : Nat} {n : Nat} (hk : Keeps σ s) : Keeps σ (monInTake s k n) := by
  unfold monInTake
  try dsimp only
  repeat' first
    | with_reducible exact hk
    | with_reducible exact tabDel_wf _ _
    | with_reducible apply keeps_monInPut
    | split
    | with_reducible apply Keeps.monIn

theorem keeps_sampleIn {σ : State} {s : State} {k : Nat} {n : Nat} {x : Nat} (hk : Keeps σ s) : Keeps σ (sampleIn s k n x) := by
  unfold sampleIn
  try dsimp only
  repeat' first
    | with_reducible exact hk
    | with_reducible apply Keeps.ite
    | with_reducible apply Keeps.wr
    | with_reducible apply Keeps.wrs
    | with_reducible apply keeps_detSee
    | with_reducible apply keeps_monInTake
    | with_reducible apply keeps_setChain
    | refine Keeps.foldl_mem ?_ fun t c hc ht => keeps_cmpRun ht (Bool.and_eq_true_iff.1 (List.all_eq_true.1 cmps_offTime c hc)).1 (Bool.and_eq_true_iff.1 (List.all_eq_true.1 cmps_offTime c hc)).2
    | ((with_reducible show offTime _ = true); rfl)
    | ((with_reducible show List.all _ _ = true); rfl)
    | split

theorem keeps_scanStart {σ : State} {s : State} {k : Nat} {g : Nat} (hk : Keeps σ s) : Keeps σ (scanStart s k g) := by
  unfold scanStart
  try dsimp only
  repeat' first
    | with_reducible exact hk
    | with_reducible apply Keeps.ite
    | with_reducible apply Keeps.wrs
    | ((with_reducible show List.all _ _ = true); rfl)

theorem keeps_scanPend {σ : State} {k : Nat} {s : State} {g : Nat} (hk : Keeps σ s) : Keeps σ (scanPend k s g) := by
  unfold scanPend
  try dsimp only
  repeat' first
    | with_reducible exact hk
    | with_reducible apply Keeps.ite
    | with_reducible apply Keeps.wr
    | with_reducible apply keeps_scanStart
    | ((with_reducible show offTime _ = true); rfl)

theorem keeps_scanEnd {σ : State} {s : State} {k : Nat} (hk : Keeps σ s) : Keeps σ (scanEnd s k) := by
  unfold scanEnd
  try dsimp only
  repeat' first
    | with_reducible exact hk
    | with_reducible assumption
    | intro _
    | with_reducible apply Keeps.wrs
    | with_reducible apply keeps_monSiteTake
    | with_reducible apply keeps_scanPend
    | with_reducible apply Keeps.foldl
    | ((with_reducible show List.all _ _ = true); rfl)

theorem keeps_monTrigger {σ : State} {s : State} {k : Nat} {g : Nat} (hk : Keeps σ s) : Keeps σ (monTrigger s k g) := by
  unfold monTrigger
  try dsimp only
  repeat' first
    | with_reducible exact hk
    | with_reducible apply Keeps.ite
    | with_reducible apply Keeps.bump
    | with_reducible apply Keeps.wr
    | with_reducible apply keeps_scanStart
    | with_reducible exact groupOvr_offTime _
    | ((with_reducible show offTime _ = true); rfl)

theorem keeps_monTev {σ : State} {s : State} {n : Nat} (hk : Keeps σ s) : Keeps σ (monTev s n) := by
  unfold monTev
  try dsimp only
  repeat' first
    | with_reducible exact hk
    | with_reducible assumption
    | intro _
    | with_reducible apply Keeps.forEach
    | with_reducible apply keeps_monTrigger

theorem keeps_execMonPwmTrigger {σ : State} {k : Site} {s : State} (hk : Keeps σ s) : NextKeeps σ (execMonPwmTrigger k s) := by
  unfold execMonPwmTrigger
  try dsimp only
  repeat' first
    | with_reducible apply NextKeeps.mk
    | with_reducible exact hk
    | with_reducible apply Keeps.ite
    | with_reducible apply keeps_monTrigger

theorem keeps_convCount {σ : State} {s : State} {k : Nat} {n : Nat} (hk : Keeps σ s) : Keeps σ (convCount s k n) := by
  unfold convCount
  try dsimp only
  repeat' first
    | with_reducible exact hk
    | with_reducible apply Keeps.bumpBy
    | with_reducible apply keeps_perf
    | ((with_reducible show offTime _ = true); rfl)

theorem keeps_execMonConversionDone {σ : State} {k : Site} {code : BitVec 12} {s : State} (hk : Keeps σ s) : NextKeeps σ (execMonConversionDone k code s) := by
  unfold execMonConversionDone
  try dsimp only
  repeat' first
    | with_reducible apply NextKeeps.mk
    | with_reducible exact hk
    | with_reducible apply Keeps.ite
    | with_reducible apply Keeps.wr
    | with_reducible apply keeps_convCount
    | with_reducible apply keeps_sampleIn
    | with_reducible apply keeps_scanEnd
    | ((with_reducible show offTime _ = true); rfl)
    | split

theorem keeps_monSiteApply {σ : State} {s : State} {a : Acc} (hk : Keeps σ s) : Keeps σ (monSiteApply s a) := by
  unfold monSiteApply
  try dsimp only
  repeat' first
    | with_reducible exact hk
    | with_reducible exact tabPut_wf _ _ _
    | with_reducible apply Keeps.ite
    | with_reducible apply keeps_monSitePut
    | with_reducible apply Keeps.monSite

theorem keeps_opMonSiteSet {σ s : State} {r : Nat} {a : Acc} (hk : Keeps σ s) : AnsKeeps σ ((opMonSiteSet).run r a s) := by
  unfold opMonSiteSet
  try dsimp only
  repeat' first
    | with_reducible apply AnsKeeps.done
    | with_reducible exact hk
    | with_reducible apply keeps_monSiteApply

theorem keeps_monInApply {σ : State} {s : State} {a : Acc} (hk : Keeps σ s) : Keeps σ (monInApply s a) := by
  unfold monInApply
  try dsimp only
  repeat' first
    | with_reducible exact hk
    | with_reducible exact tabPut_wf _ _ _
    | with_reducible apply Keeps.ite
    | with_reducible apply keeps_monInPut
    | with_reducible apply Keeps.monIn

theorem keeps_opMonSet {σ s : State} {r : Nat} {a : Acc} (hk : Keeps σ s) : AnsKeeps σ ((opMonSet).run r a s) := by
  unfold opMonSet
  try dsimp only
  repeat' first
    | with_reducible apply AnsKeeps.done
    | with_reducible exact hk
    | with_reducible apply keeps_monInApply

theorem keeps_opMonConvert {σ s : State} {r : Nat} {a : Acc} (hk : Keeps σ s) : AnsKeeps σ ((opMonConvert).run r a s) := by
  unfold opMonConvert
  try dsimp only
  repeat' first
    | with_reducible apply AnsKeeps.done
    | with_reducible exact hk
    | with_reducible assumption
    | intro _
    | with_reducible apply Keeps.ite
    | with_reducible apply Keeps.forEach
    | with_reducible apply keeps_monTrigger

theorem keeps_opMonOwcheck {σ s : State} {r : Nat} {a : Acc} (hk : Keeps σ s) : AnsKeeps σ ((opMonOwcheck).run r a s) := by
  unfold opMonOwcheck
  try dsimp only
  repeat' first
    | with_reducible apply AnsKeeps.wait
    | with_reducible exact hk
    | with_reducible apply Keeps.wrs
    | ((with_reducible show List.all _ _ = true); rfl)

theorem keeps_owInput {σ : State} {k : Nat} {s : State} {n : Nat} {up : Nat} {down : Nat} (hk : Keeps σ s) : Keeps σ (owInput k s n up down) := by
  unfold owInput
  try dsimp only
  repeat' first
    | with_reducible exact hk
    | with_reducible apply Keeps.ite
    | with_reducible apply Keeps.wr
    | with_reducible apply Keeps.wrs
    | with_reducible apply keeps_faultC
    | with_reducible apply keeps_monEvent
    | ((with_reducible show offTime _ = true); rfl)
    | ((with_reducible show List.all _ _ = true); rfl)

theorem keeps_execMonOwcheckDone {σ : State} {k : Site} {codes : List (BitVec 12 × BitVec 12)} {s : State} (hk : Keeps σ s) : NextKeeps σ (execMonOwcheckDone k codes s) := by
  unfold execMonOwcheckDone
  try dsimp only
  repeat' first
    | with_reducible apply NextKeeps.mk
    | with_reducible exact hk
    | with_reducible assumption
    | intro _
    | with_reducible apply Keeps.ite
    | with_reducible apply keeps_complete
    | with_reducible apply keeps_convCount
    | with_reducible apply keeps_owInput
    | with_reducible apply keeps_scanEnd
    | with_reducible apply Keeps.foldl
    | split

theorem keeps_monClearOne {σ : State} {a : Acc} {n : Nat} {s : State} (hk : Keeps σ s) : Keeps σ (monClearOne a n s) := by
  unfold monClearOne
  try dsimp only
  repeat' first
    | with_reducible exact hk
    | with_reducible apply Keeps.ite
    | with_reducible apply keeps_chainClear
    | with_reducible apply keeps_detClear

theorem keeps_opMonClear {σ s : State} {r : Nat} {a : Acc} (hk : Keeps σ s) : AnsKeeps σ ((opMonClear).run r a s) := by
  unfold opMonClear
  try dsimp only
  repeat' first
    | with_reducible apply AnsKeeps.done
    | with_reducible exact hk
    | with_reducible assumption
    | intro _
    | with_reducible apply Keeps.forEach
    | with_reducible apply keeps_monClearOne

theorem keeps_execMonSiteSet {σ : State} {r : Ring} {s : State} (hk : Keeps σ s) : NextKeeps σ (execMonSiteSet r s) := by
  unfold execMonSiteSet
  try dsimp only
  repeat' first
    | with_reducible apply NextKeeps.mk
    | with_reducible exact hk
    | with_reducible assumption
    | intro _
    | with_reducible apply keeps_dispatch
    | with_reducible apply keeps_opMonSiteSet

theorem keeps_execMonSet {σ : State} {r : Ring} {s : State} (hk : Keeps σ s) : NextKeeps σ (execMonSet r s) := by
  unfold execMonSet
  try dsimp only
  repeat' first
    | with_reducible apply NextKeeps.mk
    | with_reducible exact hk
    | with_reducible assumption
    | intro _
    | with_reducible apply keeps_dispatch
    | with_reducible apply keeps_opMonSet

theorem keeps_execMonConvert {σ : State} {r : Ring} {s : State} (hk : Keeps σ s) : NextKeeps σ (execMonConvert r s) := by
  unfold execMonConvert
  try dsimp only
  repeat' first
    | with_reducible apply NextKeeps.mk
    | with_reducible exact hk
    | with_reducible assumption
    | intro _
    | with_reducible apply keeps_dispatch
    | with_reducible apply keeps_opMonConvert

theorem keeps_execMonOwcheck {σ : State} {r : Ring} {s : State} (hk : Keeps σ s) : NextKeeps σ (execMonOwcheck r s) := by
  unfold execMonOwcheck
  try dsimp only
  repeat' first
    | with_reducible apply NextKeeps.mk
    | with_reducible exact hk
    | with_reducible assumption
    | intro _
    | with_reducible apply keeps_dispatch
    | with_reducible apply keeps_opMonOwcheck

theorem keeps_execMonClear {σ : State} {r : Ring} {s : State} (hk : Keeps σ s) : NextKeeps σ (execMonClear r s) := by
  unfold execMonClear
  try dsimp only
  repeat' first
    | with_reducible apply NextKeeps.mk
    | with_reducible exact hk
    | with_reducible assumption
    | intro _
    | with_reducible apply keeps_dispatch
    | with_reducible apply keeps_opMonClear

/-! ## Power -/

theorem keeps_opPwrState {σ s : State} {r : Nat} {a : Acc} (hk : Keeps σ s) : AnsKeeps σ ((opPwrState).run r a s) := by
  unfold opPwrState
  try dsimp only
  repeat' first
    | with_reducible apply AnsKeeps.wait
    | with_reducible exact hk
    | with_reducible apply Keeps.ite
    | with_reducible apply Keeps.wrs
    | with_reducible apply keeps_pwrStart
    | ((with_reducible show List.all _ _ = true); rfl)

theorem keeps_opPadRelease {σ s : State} {r : Nat} {a : Acc} (hk : Keeps σ s) : AnsKeeps σ ((opPadRelease).run r a s) := by
  unfold opPadRelease
  try dsimp only
  repeat' first
    | with_reducible apply AnsKeeps.done
    | with_reducible exact hk
    | with_reducible apply Keeps.wr
    | ((with_reducible show offTime _ = true); rfl)

theorem keeps_opDomainReset {σ s : State} {r : Nat} {a : Acc} (hk : Keeps σ s) : AnsKeeps σ ((opDomainReset).run r a s) := by
  unfold opDomainReset
  try dsimp only
  repeat' first
    | with_reducible apply AnsKeeps.wait
    | with_reducible apply AnsKeeps.ite
    | with_reducible exact hk
    | with_reducible apply keeps_resetGo

theorem keeps_opIdlePolicy {σ s : State} {r : Nat} {a : Acc} (hk : Keeps σ s) : AnsKeeps σ ((opIdlePolicy).run r a s) := by
  unfold opIdlePolicy
  try dsimp only
  repeat' first
    | with_reducible apply AnsKeeps.done
    | with_reducible exact hk
    | with_reducible apply Keeps.ite
    | with_reducible apply Keeps.wr
    | with_reducible apply Keeps.wrs
    | ((with_reducible show offTime _ = true); rfl)
    | ((with_reducible show List.all _ _ = true); rfl)

theorem keeps_execIdleTimeout {σ : State} {d : Dom} {s : State} (hk : Keeps σ s) : NextKeeps σ (execIdleTimeout d s) := by
  unfold execIdleTimeout
  try dsimp only
  repeat' first
    | with_reducible apply NextKeeps.mk
    | with_reducible exact hk
    | with_reducible assumption
    | intro _
    | with_reducible apply Keeps.ite
    | with_reducible apply keeps_domGo
    | with_reducible apply keeps_raise

theorem keeps_loseContents {σ : State} {s : State} (hk : Keeps σ s) : Keeps σ (loseContents s) := by
  unfold loseContents
  try dsimp only
  repeat' first
    | with_reducible exact hk
    | with_reducible exact Keeps.refl _
    | with_reducible exact id
    | exact tabWf_nil
    | intro _
    | (rw [show inBlocks offBlocks _ = false from by
      rw [Bool.eq_false_iff]
      intro h
      obtain ⟨r, h1, h2⟩ := List.any_eq_true.1 h
      rw [any_offTime (List.all_eq_true.1 (show (offBlocks.all fun r => r.flds.all offTime) = true from rfl) r h1) ‹_›] at h2
      cases h2])
    | ((with_reducible show (!_) = true); rw []; simp)
    | with_reducible apply Keeps.filterRegs
    | with_reducible apply Keeps.record

theorem keeps_abortAll {σ : State} {s : State} (hk : Keeps σ s) : Keeps σ (abortAll s) := by
  unfold abortAll
  try dsimp only
  repeat' first
    | with_reducible exact hk
    | with_reducible assumption
    | intro _
    | with_reducible apply keeps_abortSlice
    | with_reducible apply keeps_raise
    | with_reducible apply Keeps.foldl

theorem keeps_standbyEnter {σ : State} {s : State} (hk : Keeps σ s) : Keeps σ (standbyEnter s) := by
  unfold standbyEnter
  try dsimp only
  repeat' first
    | with_reducible exact hk
    | with_reducible assumption
    | intro _
    | with_reducible apply Keeps.forEach
    | with_reducible apply Keeps.wrs
    | with_reducible apply keeps_abortAll
    | with_reducible apply keeps_ctxDrop
    | with_reducible apply keeps_domSleep
    | with_reducible apply keeps_event
    | with_reducible apply keeps_loseContents
    | with_reducible apply keeps_raise
    | with_reducible apply keeps_setDomSt
    | with_reducible apply keeps_siteHold
    | ((with_reducible show List.all _ _ = true); rfl)

theorem keeps_opStandby {σ s : State} {r : Nat} {a : Acc} (hk : Keeps σ s) : AnsKeeps σ ((opStandby).run r a s) := by
  unfold opStandby
  try dsimp only
  repeat' first
    | with_reducible apply AnsKeeps.done
    | with_reducible apply AnsKeeps.wait
    | with_reducible apply AnsKeeps.ite
    | with_reducible exact hk
    | with_reducible apply Keeps.ite
    | with_reducible apply Keeps.wrs
    | with_reducible apply keeps_complete
    | with_reducible apply keeps_leaveStandby
    | with_reducible apply keeps_standbyEnter
    | ((with_reducible show List.all _ _ = true); rfl)

theorem keeps_vrmOk {σ : State} {s : State} {n : Nat} {mv : Nat} (hk : Keeps σ s) : Keeps σ (vrmOk s n mv) := by
  unfold vrmOk
  try dsimp only
  repeat' first
    | with_reducible exact hk
    | with_reducible apply Keeps.ite
    | with_reducible apply Keeps.wrs
    | with_reducible apply keeps_levelEval
    | with_reducible apply keeps_levelNow
    | with_reducible apply keeps_vrmStep
    | ((with_reducible show List.all _ _ = true); rfl)

theorem keeps_vrmBad {σ : State} {s : State} {n : Nat} {stat : Nat} (hk : Keeps σ s) : Keeps σ (vrmBad s n stat) := by
  unfold vrmBad
  try dsimp only
  repeat' first
    | with_reducible exact hk
    | with_reducible apply Keeps.ite
    | with_reducible apply Keeps.wr
    | with_reducible apply Keeps.wrs
    | with_reducible apply keeps_emit
    | with_reducible apply keeps_faultK
    | with_reducible apply keeps_levelEval
    | ((with_reducible show offTime _ = true); rfl)
    | ((with_reducible show List.all _ _ = true); rfl)

theorem keeps_execVrmStepVerify {σ : State} {n : Fin 6} {vout : Option (BitVec 10)} {s : State} (hk : Keeps σ s) : NextKeeps σ (execVrmStepVerify n vout s) := by
  unfold execVrmStepVerify
  try dsimp only
  repeat' first
    | with_reducible apply NextKeeps.mk
    | with_reducible exact hk
    | with_reducible apply Keeps.ite
    | with_reducible apply keeps_idleUse
    | with_reducible apply keeps_vrmBad
    | with_reducible apply keeps_vrmOk
    | split

theorem keeps_vrmEnable {σ : State} {s : State} {n : Nat} (hk : Keeps σ s) : Keeps σ (vrmEnable s n) := by
  unfold vrmEnable
  try dsimp only
  repeat' first
    | with_reducible exact hk
    | with_reducible apply Keeps.ite
    | with_reducible apply Keeps.took
    | with_reducible apply Keeps.wrs
    | with_reducible apply keeps_idleUse
    | with_reducible apply keeps_levelEval
    | with_reducible apply keeps_vrmGo
    | ((with_reducible show List.all _ _ = true); rfl)

theorem keeps_vrmDisable {σ : State} {s : State} {n : Nat} (hk : Keeps σ s) : Keeps σ (vrmDisable s n) := by
  unfold vrmDisable
  try dsimp only
  repeat' first
    | with_reducible exact hk
    | with_reducible apply Keeps.wrs
    | with_reducible apply keeps_levelEval
    | ((with_reducible show List.all _ _ = true); rfl)

theorem keeps_execVrmSteerEnable {σ : State} {n : Fin 6} {s : State} (hk : Keeps σ s) : NextKeeps σ (execVrmSteerEnable n s) := by
  unfold execVrmSteerEnable
  try dsimp only
  repeat' first
    | with_reducible apply NextKeeps.mk
    | with_reducible exact hk
    | with_reducible apply keeps_vrmEnable

theorem keeps_execPmAlert {σ : State} {st : List (Fin 3)} {s : State} (hk : Keeps σ s) : NextKeeps σ (execPmAlert st s) := by
  unfold execPmAlert
  try dsimp only
  repeat' first
    | with_reducible apply NextKeeps.mk
    | with_reducible exact hk
    | with_reducible assumption
    | intro _
    | with_reducible apply Keeps.ite
    | with_reducible apply Keeps.forEach
    | with_reducible apply Keeps.wr
    | with_reducible apply keeps_idleUse
    | with_reducible apply keeps_raise
    | ((with_reducible show offTime _ = true); rfl)

theorem keeps_opPlSet {σ s : State} {r : Nat} {a : Acc} (hk : Keeps σ s) : AnsKeeps σ ((opPlSet).run r a s) := by
  unfold opPlSet
  try dsimp only
  repeat' first
    | with_reducible apply AnsKeeps.done
    | with_reducible exact hk
    | with_reducible apply Keeps.wr
    | with_reducible apply keeps_levelEval
    | ((with_reducible show offTime _ = true); rfl)

theorem keeps_setEff {σ : State} {s : State} {w : Nat} (hk : Keeps σ s) : Keeps σ (setEff s w) := by
  unfold setEff
  try dsimp only
  repeat' first
    | with_reducible exact hk
    | with_reducible apply Keeps.ite
    | with_reducible apply Keeps.wrs
    | with_reducible apply keeps_thermEvent
    | ((with_reducible show List.all _ _ = true); rfl)

theorem keeps_effFall {σ : State} {s : State} (hk : Keeps σ s) : Keeps σ (effFall s) := by
  unfold effFall
  try dsimp only
  repeat' first
    | with_reducible exact hk
    | with_reducible apply keeps_setEff

theorem keeps_opPwrPolicy {σ s : State} {r : Nat} {a : Acc} (hk : Keeps σ s) : AnsKeeps σ ((opPwrPolicy).run r a s) := by
  unfold opPwrPolicy
  try dsimp only
  repeat' first
    | with_reducible apply AnsKeeps.done
    | with_reducible exact hk
    | with_reducible apply Keeps.putFields
    | with_reducible apply keeps_setEff
    | ((with_reducible show List.all _ _ = true); rfl)

theorem keeps_execPowerSample {σ : State} {w : BitVec 11} {s : State} (hk : Keeps σ s) : NextKeeps σ (execPowerSample w s) := by
  unfold execPowerSample
  try dsimp only
  repeat' first
    | with_reducible apply NextKeeps.mk
    | with_reducible exact hk
    | with_reducible apply Keeps.ite
    | with_reducible apply Keeps.wr
    | with_reducible apply keeps_perf
    | ((with_reducible show offTime _ = true); rfl)

theorem keeps_setThr {σ : State} {s : State} {n : Nat} {l : Nat} (hk : Keeps σ s) : Keeps σ (setThr s n l) := by
  unfold setThr
  try dsimp only
  repeat' first
    | with_reducible exact hk
    | with_reducible apply Keeps.wr
    | with_reducible apply keeps_levelEval
    | ((with_reducible show offTime _ = true); rfl)

theorem keeps_execThrottleStep {σ : State} {raiseW : Nat} {s : State} (hk : Keeps σ s) : NextKeeps σ (execThrottleStep raiseW s) := by
  unfold execThrottleStep
  try dsimp only
  repeat' first
    | with_reducible apply NextKeeps.mk
    | with_reducible exact hk
    | with_reducible apply Keeps.ite
    | with_reducible apply Keeps.wr
    | with_reducible apply keeps_faultC
    | with_reducible apply keeps_setThr
    | with_reducible apply keeps_thermEvent
    | ((with_reducible show offTime _ = true); rfl)
    | split

theorem keeps_siteEvent {σ : State} {s : State} {kind : Nat} {i : Nat} (hk : Keeps σ s) : Keeps σ (siteEvent s kind i) := by
  unfold siteEvent
  try dsimp only
  repeat' first
    | with_reducible exact hk
    | with_reducible apply keeps_thermEvent

theorem keeps_thermSite {σ : State} {old : State} {t : List Int} {s : State} {i : Nat} (hk : Keeps σ s) : Keeps σ (thermSite old t s i) := by
  unfold thermSite
  try dsimp only
  repeat' first
    | with_reducible exact hk
    | with_reducible apply Keeps.ite
    | with_reducible apply Keeps.bump
    | with_reducible apply Keeps.wr
    | with_reducible apply Keeps.wrs
    | with_reducible apply keeps_faultC
    | with_reducible apply keeps_siteEvent
    | ((with_reducible show offTime _ = true); rfl)
    | ((with_reducible show List.all _ _ = true); rfl)
    | split

theorem keeps_thermDieStep {σ : State} {s : State} {D : Nat} (hk : Keeps σ s) : Keeps σ (thermDieStep s D) := by
  unfold thermDieStep
  try dsimp only
  repeat' first
    | with_reducible exact hk
    | with_reducible apply Keeps.ite
    | with_reducible apply Keeps.wr
    | with_reducible apply keeps_faultK
    | ((with_reducible show offTime _ = true); rfl)

theorem keeps_abandon {σ : State} {s : State} (hk : Keeps σ s) : Keeps σ (abandon s) := by
  unfold abandon
  try dsimp only
  repeat' first
    | with_reducible exact hk
    | with_reducible assumption
    | intro _
    | with_reducible apply Keeps.forEach
    | with_reducible apply Keeps.wrs
    | ((with_reducible show List.all _ _ = true); rfl)

theorem keeps_haltBringUp {σ : State} {s : State} (hk : Keeps σ s) : Keeps σ (haltBringUp s) := by
  unfold haltBringUp
  try dsimp only
  repeat' first
    | with_reducible exact hk
    | with_reducible apply Keeps.ite
    | with_reducible apply keeps_halt

theorem keeps_thermTrip {σ : State} {s : State} (hk : Keeps σ s) : Keeps σ (thermTrip s) := by
  unfold thermTrip
  try dsimp only
  repeat' first
    | with_reducible exact hk
    | with_reducible apply Keeps.ite
    | with_reducible apply Keeps.wr
    | with_reducible apply keeps_abandon
    | with_reducible apply keeps_complete
    | with_reducible apply keeps_faultF
    | with_reducible apply keeps_haltBringUp
    | with_reducible apply keeps_updFaultPin
    | ((with_reducible show offTime _ = true); rfl)

theorem keeps_execThermalSample {σ : State} {t : List (BitVec 16)} {s : State} (hk : Keeps σ s) : NextKeeps σ (execThermalSample t s) := by
  unfold execThermalSample
  try dsimp only
  repeat' first
    | with_reducible apply NextKeeps.mk
    | with_reducible exact hk
    | with_reducible assumption
    | intro _
    | with_reducible apply Keeps.ite
    | with_reducible apply Keeps.forEach
    | with_reducible apply Keeps.wr
    | with_reducible apply keeps_effFall
    | with_reducible apply keeps_thermDieStep
    | with_reducible apply keeps_thermSite
    | with_reducible apply keeps_thermTrip
    | with_reducible apply Keeps.foldl
    | ((with_reducible show offTime _ = true); rfl)
    | split

theorem keeps_execEffLimitStep {σ : State} {restore : Bool} {s : State} (hk : Keeps σ s) : NextKeeps σ (execEffLimitStep restore s) := by
  unfold execEffLimitStep
  try dsimp only
  repeat' first
    | with_reducible apply NextKeeps.mk
    | with_reducible exact hk
    | with_reducible apply Keeps.ite
    | with_reducible apply keeps_effFall
    | with_reducible apply keeps_setEff

theorem keeps_execDramTempSample {σ : State} {t : List (BitVec 16)} {s : State} (hk : Keeps σ s) : NextKeeps σ (execDramTempSample t s) := by
  unfold execDramTempSample
  try dsimp only
  repeat' first
    | with_reducible apply NextKeeps.mk
    | with_reducible exact hk
    | with_reducible assumption
    | intro _
    | with_reducible apply Keeps.ite
    | with_reducible apply Keeps.forEach
    | with_reducible apply Keeps.wr
    | ((with_reducible show offTime _ = true); rfl)

theorem keeps_execPwrState {σ : State} {r : Ring} {s : State} (hk : Keeps σ s) : NextKeeps σ (execPwrState r s) := by
  unfold execPwrState
  try dsimp only
  repeat' first
    | with_reducible apply NextKeeps.mk
    | with_reducible exact hk
    | with_reducible assumption
    | intro _
    | with_reducible apply keeps_dispatch
    | with_reducible apply keeps_opPwrState

theorem keeps_execPadRelease {σ : State} {r : Ring} {s : State} (hk : Keeps σ s) : NextKeeps σ (execPadRelease r s) := by
  unfold execPadRelease
  try dsimp only
  repeat' first
    | with_reducible apply NextKeeps.mk
    | with_reducible exact hk
    | with_reducible assumption
    | intro _
    | with_reducible apply keeps_dispatch
    | with_reducible apply keeps_opPadRelease

theorem keeps_execDomainReset {σ : State} {r : Ring} {s : State} (hk : Keeps σ s) : NextKeeps σ (execDomainReset r s) := by
  unfold execDomainReset
  try dsimp only
  repeat' first
    | with_reducible apply NextKeeps.mk
    | with_reducible exact hk
    | with_reducible assumption
    | intro _
    | with_reducible apply keeps_dispatch
    | with_reducible apply keeps_opDomainReset

theorem keeps_execPlSet {σ : State} {r : Ring} {s : State} (hk : Keeps σ s) : NextKeeps σ (execPlSet r s) := by
  unfold execPlSet
  try dsimp only
  repeat' first
    | with_reducible apply NextKeeps.mk
    | with_reducible exact hk
    | with_reducible assumption
    | intro _
    | with_reducible apply keeps_dispatch
    | with_reducible apply keeps_opPlSet

theorem keeps_execPwrPolicy {σ : State} {r : Ring} {s : State} (hk : Keeps σ s) : NextKeeps σ (execPwrPolicy r s) := by
  unfold execPwrPolicy
  try dsimp only
  repeat' first
    | with_reducible apply NextKeeps.mk
    | with_reducible exact hk
    | with_reducible assumption
    | intro _
    | with_reducible apply keeps_dispatch
    | with_reducible apply keeps_opPwrPolicy

theorem keeps_execIdlePolicy {σ : State} {r : Ring} {s : State} (hk : Keeps σ s) : NextKeeps σ (execIdlePolicy r s) := by
  unfold execIdlePolicy
  try dsimp only
  repeat' first
    | with_reducible apply NextKeeps.mk
    | with_reducible exact hk
    | with_reducible assumption
    | intro _
    | with_reducible apply keeps_dispatch
    | with_reducible apply keeps_opIdlePolicy

theorem keeps_execStandby {σ : State} {r : Ring} {s : State} (hk : Keeps σ s) : NextKeeps σ (execStandby r s) := by
  unfold execStandby
  try dsimp only
  repeat' first
    | with_reducible apply NextKeeps.mk
    | with_reducible exact hk
    | with_reducible assumption
    | intro _
    | with_reducible apply keeps_dispatch
    | with_reducible apply keeps_opStandby

/-! ## Faults -/

theorem keeps_opFltPolicy {σ s : State} {r : Nat} {a : Acc} (hk : Keeps σ s) : AnsKeeps σ ((opFltPolicy).run r a s) := by
  unfold opFltPolicy
  try dsimp only
  repeat' first
    | with_reducible apply AnsKeeps.done
    | with_reducible exact hk
    | with_reducible apply Keeps.wrs
    | ((with_reducible show List.all _ _ = true); rfl)

theorem keeps_execFltPolicy {σ : State} {r : Ring} {s : State} (hk : Keeps σ s) : NextKeeps σ (execFltPolicy r s) := by
  unfold execFltPolicy
  try dsimp only
  repeat' first
    | with_reducible apply NextKeeps.mk
    | with_reducible exact hk
    | with_reducible assumption
    | intro _
    | with_reducible apply keeps_dispatch
    | with_reducible apply keeps_opFltPolicy

theorem keeps_execEscalationWindowExpire {σ : State} {rule : Fin 64} {s : State} (hk : Keeps σ s) : NextKeeps σ (execEscalationWindowExpire rule s) := by
  unfold execEscalationWindowExpire
  try dsimp only
  repeat' first
    | with_reducible apply NextKeeps.mk
    | with_reducible exact hk
    | with_reducible apply Keeps.wr
    | ((with_reducible show offTime _ = true); rfl)

theorem keeps_holdEnd {σ : State} {s : State} {src : Nat} (hk : Keeps σ s) : Keeps σ (holdEnd s src) := by
  unfold holdEnd
  try dsimp only
  repeat' first
    | with_reducible exact hk
    | with_reducible assumption
    | intro _
    | with_reducible apply Keeps.ite
    | with_reducible apply Keeps.forEach
    | with_reducible apply Keeps.wr
    | with_reducible apply keeps_raise
    | with_reducible apply keeps_sheafPortsEval
    | ((with_reducible show offTime _ = true); rfl)

theorem keeps_stickyClear {σ : State} {s : State} {src : Nat} (hk : Keeps σ s) : Keeps σ (stickyClear s src) := by
  unfold stickyClear
  try dsimp only
  repeat' first
    | with_reducible exact hk
    | with_reducible apply Keeps.ite
    | with_reducible apply Keeps.wrs
    | with_reducible apply keeps_holdEnd
    | with_reducible apply keeps_updFaultPin
    | ((with_reducible show List.all _ _ = true); rfl)

theorem keeps_execFaultStickyClear {σ : State} {id : BitVec 12} {s : State} (hk : Keeps σ s) : NextKeeps σ (execFaultStickyClear id s) := by
  unfold execFaultStickyClear
  try dsimp only
  repeat' first
    | with_reducible apply NextKeeps.mk
    | with_reducible exact hk
    | with_reducible apply keeps_stickyClear

theorem keeps_opMemRetire {σ s : State} {r : Nat} {a : Acc} (hk : Keeps σ s) : AnsKeeps σ ((opMemRetire).run r a s) := by
  unfold opMemRetire
  try dsimp only
  repeat' first
    | with_reducible apply AnsKeeps.done
    | with_reducible apply AnsKeeps.wait
    | with_reducible apply AnsKeeps.ite
    | with_reducible exact hk
    | with_reducible apply keeps_retirePut
    | split

theorem keeps_execMemRetire {σ : State} {r : Ring} {s : State} (hk : Keeps σ s) : NextKeeps σ (execMemRetire r s) := by
  unfold execMemRetire
  try dsimp only
  repeat' first
    | with_reducible apply NextKeeps.mk
    | with_reducible exact hk
    | with_reducible assumption
    | intro _
    | with_reducible apply keeps_dispatch
    | with_reducible apply keeps_opMemRetire

theorem keeps_execRetireRowCopyDone {σ : State} {n : Fin 2} {row : Nat} {s : State} (hk : Keeps σ s) : NextKeeps σ (execRetireRowCopyDone n row s) := by
  unfold execRetireRowCopyDone
  try dsimp only
  repeat' first
    | with_reducible apply NextKeeps.mk
    | with_reducible exact hk
    | with_reducible apply Keeps.wrs
    | with_reducible apply keeps_complete
    | ((with_reducible show List.all _ _ = true); rfl)
    | split

theorem keeps_logEmpty {σ : State} {s : State} {i : Nat} (hk : Keeps σ s) : Keeps σ (logEmpty s i) := by
  unfold logEmpty
  try dsimp only
  repeat' first
    | with_reducible exact hk
    | with_reducible apply Keeps.wrs
    | ((with_reducible show List.all _ _ = true); rfl)

theorem keeps_opMemLogClear {σ s : State} {r : Nat} {a : Acc} (hk : Keeps σ s) : AnsKeeps σ ((opMemLogClear).run r a s) := by
  unfold opMemLogClear
  try dsimp only
  repeat' first
    | with_reducible apply AnsKeeps.done
    | with_reducible exact hk
    | with_reducible assumption
    | intro _
    | with_reducible apply Keeps.forEach
    | with_reducible apply keeps_logEmpty

theorem keeps_execMemLogClear {σ : State} {r : Ring} {s : State} (hk : Keeps σ s) : NextKeeps σ (execMemLogClear r s) := by
  unfold execMemLogClear
  try dsimp only
  repeat' first
    | with_reducible apply NextKeeps.mk
    | with_reducible exact hk
    | with_reducible assumption
    | intro _
    | with_reducible apply keeps_dispatch
    | with_reducible apply keeps_opMemLogClear

theorem keeps_logEntry {σ : State} {s : State} {n : Nat} {block : Nat} (hk : Keeps σ s) : Keeps σ (logEntry s n block).1 := by
  unfold logEntry
  try dsimp only
  try show FstKeeps σ _
  repeat' first
    | with_reducible apply FstKeeps.mk
    | with_reducible exact hk
    | with_reducible apply Keeps.bump
    | with_reducible apply Keeps.wrs
    | with_reducible apply keeps_logEmpty
    | with_reducible apply keeps_tookNum
    | ((with_reducible show offTime _ = true); rfl)
    | ((with_reducible show List.all _ _ = true); rfl)
    | split

theorem keeps_logCorr {σ : State} {s : State} {n : Nat} {block : Nat} {winnow : Bool} (hk : Keeps σ s) : Keeps σ (logCorr s n block winnow) := by
  unfold logCorr
  try dsimp only
  repeat' first
    | with_reducible exact hk
    | with_reducible apply Keeps.ite
    | with_reducible apply Keeps.bump
    | with_reducible apply Keeps.wr
    | with_reducible apply keeps_logEntry
    | with_reducible apply keeps_raise
    | ((with_reducible show offTime _ = true); rfl)

theorem keeps_dramCorr {σ : State} {s : State} {n : Nat} {block : Nat} {winnow : Bool} (hk : Keeps σ s) : Keeps σ (dramCorr s n block winnow) := by
  unfold dramCorr
  try dsimp only
  repeat' first
    | with_reducible exact hk
    | with_reducible apply Keeps.bump
    | with_reducible apply keeps_logCorr
    | with_reducible apply keeps_perf
    | with_reducible apply keeps_raise
    | ((with_reducible show offTime _ = true); rfl)

theorem keeps_execMergeBufferExpire {σ : State} {n : Fin 10} {block : Nat} {s : State} (hk : Keeps σ s) : NextKeeps σ (execMergeBufferExpire n block s) := by
  unfold execMergeBufferExpire
  try dsimp only
  repeat' first
    | with_reducible apply NextKeeps.mk
    | with_reducible exact hk
    | with_reducible exact tabDel_wf _ _
    | with_reducible apply Keeps.ite
    | with_reducible apply Keeps.bump
    | with_reducible apply keeps_perf
    | ((with_reducible show offTime _ = true); rfl)
    | split
    | with_reducible apply Keeps.merge

theorem keeps_pairsRestart {σ : State} {s : State} {first : Nat} (hk : Keeps σ s) : Keeps σ (pairsRestart s first) := by
  unfold pairsRestart
  try dsimp only
  repeat' first
    | with_reducible exact hk
    | with_reducible assumption
    | with_reducible exact Keeps.refl _
    | with_reducible exact id
    | with_reducible exact tabPut_wf _ _ _
    | with_reducible exact tabDel_wf _ _
    | with_reducible exact filter_wf _ _
    | intro _
    | with_reducible apply Keeps.forEach
    | with_reducible apply keeps_faultK
    | split
    | with_reducible apply Keeps.record

theorem keeps_pageWithheld {σ : State} {s : State} {n : Nat} {block : Nat} (hk : Keeps σ s) : Keeps σ (pageWithheld s n block) := by
  unfold pageWithheld
  try dsimp only
  repeat' first
    | with_reducible exact hk
    | with_reducible exact tabPut_wf _ _ _
    | with_reducible apply Keeps.wr
    | with_reducible apply keeps_logEntry
    | with_reducible apply keeps_raise
    | ((with_reducible show offTime _ = true); rfl)
    | with_reducible apply Keeps.withheld

theorem keeps_winnowDram {σ : State} {s : State} {n : Nat} {block : Nat} {place : WinnowPlace} {again : Bool} (hk : Keeps σ s) : Keeps σ (winnowDram s n block place again) := by
  unfold winnowDram
  try dsimp only
  repeat' first
    | with_reducible exact hk
    | with_reducible apply Keeps.ite
    | with_reducible apply Keeps.bump
    | with_reducible apply keeps_pageWithheld
    | with_reducible apply keeps_pairsRestart
    | with_reducible apply keeps_perf
    | with_reducible apply keeps_poisonBlock
    | with_reducible apply keeps_raise
    | ((with_reducible show offTime _ = true); rfl)
    | split

theorem keeps_winnowSram {σ : State} {s : State} {d : Nat} {block : Nat} {place : WinnowPlace} (hk : Keeps σ s) : Keeps σ (winnowSram s d block place) := by
  unfold winnowSram
  try dsimp only
  repeat' first
    | with_reducible exact hk
    | with_reducible assumption
    | intro _
    | with_reducible apply Keeps.bump
    | with_reducible apply keeps_galFail
    | with_reducible apply keeps_raise
    | with_reducible apply keeps_sramRepair
    | ((with_reducible show offTime _ = true); rfl)
    | split

theorem keeps_winnowFinds {σ : State} {s : State} {found : WinnowFound} {u : Nat} {block : Nat} {place : WinnowPlace} {again : Bool} (hk : Keeps σ s) : Keeps σ (winnowFinds s found u block place again) := by
  unfold winnowFinds
  try dsimp only
  repeat' first
    | with_reducible exact hk
    | with_reducible apply Keeps.ite
    | with_reducible apply Keeps.bump
    | with_reducible apply keeps_dramCorr
    | with_reducible apply keeps_raise
    | with_reducible apply keeps_winnowDram
    | with_reducible apply keeps_winnowSram
    | ((with_reducible show offTime _ = true); rfl)
    | split

theorem keeps_execWinnowRead {σ : State} {found : WinnowFound} {unit : Fin 24} {block : Nat} {place : WinnowPlace} {again : Bool} {progress : Fin 1001} {s : State} (hk : Keeps σ s) : NextKeeps σ (execWinnowRead found unit block place again progress s) := by
  unfold execWinnowRead
  try dsimp only
  repeat' first
    | with_reducible apply NextKeeps.mk
    | with_reducible exact hk
    | with_reducible apply Keeps.ite
    | with_reducible apply Keeps.bump
    | with_reducible apply Keeps.wr
    | with_reducible apply keeps_perf
    | with_reducible apply keeps_winnowFinds
    | ((with_reducible show offTime _ = true); rfl)

/-! ## Glean -/

theorem keeps_sliceOn {σ : State} {s : State} {cls : Nat} {k2 : Nat} {kind : Nat} (hk : Keeps σ s) : Keeps σ (sliceOn s cls k2 kind) := by
  unfold sliceOn
  try dsimp only
  repeat' first
    | with_reducible exact hk
    | with_reducible exact tabPut_wf _ _ _
    | with_reducible apply Keeps.ite
    | with_reducible apply Keeps.bump
    | with_reducible apply Keeps.wr
    | with_reducible apply Keeps.wrs
    | with_reducible apply keeps_perf
    | ((with_reducible show offTime _ = true); rfl)
    | ((with_reducible show List.all _ _ = true); rfl)
    | split
    | with_reducible apply Keeps.slices

theorem keeps_cycleEnd {σ : State} {s : State} (hk : Keeps σ s) : Keeps σ (cycleEnd s) := by
  unfold cycleEnd
  try dsimp only
  repeat' first
    | with_reducible exact hk
    | intro _
    | with_reducible apply Keeps.bump
    | with_reducible apply Keeps.wr
    | ((with_reducible show offTime _ = true); rfl)
    | ((with_reducible show (!_) = true); rw [beq_offTime' (f := HID.GLN_SKIP) rfl ‹_›, beq_offTime' (f := HID.GLN_PART) rfl ‹_›, beq_offTime' (f := HID.GLN_ACC) rfl ‹_›, beq_offTime' (f := GLN_GAL.DONE) rfl ‹_›]; simp)
    | with_reducible apply Keeps.filterRegs

theorem keeps_cycleAdd {σ : State} {s : State} {n : Nat} (hk : Keeps σ s) : Keeps σ (cycleAdd s n) := by
  unfold cycleAdd
  try dsimp only
  repeat' first
    | with_reducible exact hk
    | with_reducible apply Keeps.ite
    | with_reducible apply Keeps.wrs
    | with_reducible apply keeps_cycleEnd
    | ((with_reducible show List.all _ _ = true); rfl)

theorem keeps_targetOver {σ : State} {s : State} {cls : Nat} {k2 : Nat} (hk : Keeps σ s) : Keeps σ (targetOver s cls k2) := by
  unfold targetOver
  try dsimp only
  repeat' first
    | with_reducible exact hk
    | with_reducible apply Keeps.ite
    | with_reducible apply Keeps.wr
    | with_reducible apply keeps_cycleAdd
    | ((with_reducible show offTime _ = true); rfl)

theorem keeps_targetMissed {σ : State} {s : State} {cls : Nat} {k2 : Nat} (hk : Keeps σ s) : Keeps σ (targetMissed s cls k2) := by
  unfold targetMissed
  try dsimp only
  repeat' first
    | with_reducible exact hk
    | with_reducible apply Keeps.bump
    | with_reducible apply keeps_targetOver
    | ((with_reducible show offTime _ = true); rfl)

theorem keeps_gleanDown {σ : State} {s : State} {cls : Nat} {k2 : Nat} (hk : Keeps σ s) : Keeps σ (gleanDown s cls k2) := by
  unfold gleanDown
  try dsimp only
  repeat' first
    | with_reducible exact hk
    | with_reducible apply Keeps.ite
    | with_reducible apply Keeps.wr
    | with_reducible apply keeps_domMove
    | ((with_reducible show offTime _ = true); rfl)

theorem keeps_execGleanSliceStart {σ : State} {t : GleanTarget} {s : State} (hk : Keeps σ s) : NextKeeps σ (execGleanSliceStart t s) := by
  unfold execGleanSliceStart
  try dsimp only
  repeat' first
    | with_reducible apply NextKeeps.mk
    | with_reducible exact hk
    | with_reducible apply Keeps.ite
    | with_reducible apply Keeps.wr
    | with_reducible apply keeps_domMove
    | with_reducible apply keeps_sliceOn
    | with_reducible apply keeps_targetMissed
    | ((with_reducible show offTime _ = true); rfl)

theorem keeps_sliceReply {σ : State} {s : State} {cls : Nat} {k2 : Nat} {v : Nat} (hk : Keeps σ s) : Keeps σ (sliceReply s cls k2 v) := by
  unfold sliceReply
  try dsimp only
  repeat' first
    | with_reducible exact hk
    | with_reducible apply keeps_complete

theorem keeps_gleanAbort {σ : State} {s : State} {cls : Nat} {k2 : Nat} (hk : Keeps σ s) : Keeps σ (gleanAbort s cls k2) := by
  unfold gleanAbort
  try dsimp only
  repeat' first
    | with_reducible exact hk
    | with_reducible assumption
    | intro _
    | with_reducible apply Keeps.ite
    | with_reducible apply keeps_abortSlice
    | with_reducible apply keeps_calKick
    | with_reducible apply keeps_gleanDown
    | with_reducible apply keeps_raise

theorem keeps_sliceBack {σ : State} {s : State} {cls : Nat} {k2 : Nat} {kind : Nat} (hk : Keeps σ s) : Keeps σ (sliceBack s cls k2 kind) := by
  unfold sliceBack
  try dsimp only
  repeat' first
    | with_reducible exact hk
    | with_reducible apply Keeps.ite
    | with_reducible apply Keeps.wr
    | with_reducible apply Keeps.wrs
    | ((with_reducible show offTime _ = true); rfl)
    | ((with_reducible show List.all _ _ = true); rfl)
    | split

theorem keeps_slicePassed {σ : State} {s : State} {cls : Nat} {k2 : Nat} (hk : Keeps σ s) : Keeps σ (slicePassed s cls k2) := by
  unfold slicePassed
  try dsimp only
  repeat' first
    | with_reducible exact hk
    | with_reducible apply Keeps.ite
    | with_reducible apply Keeps.wr
    | with_reducible apply Keeps.wrs
    | with_reducible apply keeps_cycleAdd
    | with_reducible apply keeps_gleanDown
    | with_reducible apply keeps_targetOver
    | ((with_reducible show offTime _ = true); rfl)
    | ((with_reducible show List.all _ _ = true); rfl)
    | split

theorem keeps_sliceBad {σ : State} {s : State} {cls : Nat} {k2 : Nat} {kind : Nat} (hk : Keeps σ s) : Keeps σ (sliceBad s cls k2 kind) := by
  unfold sliceBad
  try dsimp only
  repeat' first
    | with_reducible exact hk
    | with_reducible assumption
    | intro _
    | with_reducible apply Keeps.ite
    | with_reducible apply Keeps.bump
    | with_reducible apply Keeps.wr
    | with_reducible apply keeps_faultK
    | with_reducible apply keeps_galFail
    | with_reducible apply keeps_raise
    | with_reducible apply keeps_sliceMark
    | with_reducible apply keeps_sliceOff
    | with_reducible apply keeps_targetOver
    | ((with_reducible show offTime _ = true); rfl)
    | split

theorem keeps_gleanFail {σ : State} {s : State} {cls : Nat} {k2 : Nat} {kind : Nat} (hk : Keeps σ s) : Keeps σ (gleanFail s cls k2 kind) := by
  unfold gleanFail
  try dsimp only
  repeat' first
    | with_reducible exact hk
    | with_reducible apply Keeps.ite
    | with_reducible apply keeps_calKick
    | with_reducible apply keeps_gleanDown
    | with_reducible apply keeps_sliceBad
    | with_reducible apply keeps_sliceReply

theorem keeps_gleanPass {σ : State} {s : State} {cls : Nat} {k2 : Nat} {kind : Nat} (hk : Keeps σ s) : Keeps σ (gleanPass s cls k2 kind) := by
  unfold gleanPass
  try dsimp only
  repeat' first
    | with_reducible exact hk
    | with_reducible apply Keeps.ite
    | with_reducible apply keeps_calKick
    | with_reducible apply keeps_sliceBack
    | with_reducible apply keeps_sliceOff
    | with_reducible apply keeps_slicePassed
    | with_reducible apply keeps_sliceReply

theorem keeps_execGleanSliceEnd {σ : State} {t : GleanTarget} {res : SliceEnd} {s : State} (hk : Keeps σ s) : NextKeeps σ (execGleanSliceEnd t res s) := by
  unfold execGleanSliceEnd
  try dsimp only
  repeat' first
    | with_reducible apply NextKeeps.mk
    | with_reducible exact hk
    | with_reducible apply Keeps.ite
    | with_reducible apply keeps_gleanAbort
    | with_reducible apply keeps_gleanFail
    | with_reducible apply keeps_gleanPass
    | split

theorem keeps_execGleanSliceWatchdog {σ : State} {t : GleanTarget} {s : State} (hk : Keeps σ s) : NextKeeps σ (execGleanSliceWatchdog t s) := by
  unfold execGleanSliceWatchdog
  try dsimp only
  repeat' first
    | with_reducible apply NextKeeps.mk
    | with_reducible exact hk
    | with_reducible apply Keeps.ite
    | with_reducible apply Keeps.wr
    | with_reducible apply keeps_gleanAbort
    | with_reducible apply keeps_gleanFail
    | ((with_reducible show offTime _ = true); rfl)
    | split

theorem keeps_opGlnRun {σ s : State} {r : Nat} {a : Acc} (hk : Keeps σ s) : AnsKeeps σ ((opGlnRun).run r a s) := by
  unfold opGlnRun
  try dsimp only
  repeat' first
    | with_reducible apply AnsKeeps.wait
    | with_reducible exact hk
    | with_reducible apply keeps_sliceOn

theorem keeps_opGlnRetest {σ s : State} {r : Nat} {a : Acc} (hk : Keeps σ s) : AnsKeeps σ ((opGlnRetest).run r a s) := by
  unfold opGlnRetest
  try dsimp only
  repeat' first
    | with_reducible apply AnsKeeps.wait
    | with_reducible exact hk
    | with_reducible apply keeps_sliceOn

theorem keeps_execGlnRun {σ : State} {r : Ring} {s : State} (hk : Keeps σ s) : NextKeeps σ (execGlnRun r s) := by
  unfold execGlnRun
  try dsimp only
  repeat' first
    | with_reducible apply NextKeeps.mk
    | with_reducible exact hk
    | with_reducible assumption
    | intro _
    | with_reducible apply keeps_dispatch
    | with_reducible apply keeps_opGlnRun

theorem keeps_execGlnRetest {σ : State} {r : Ring} {s : State} (hk : Keeps σ s) : NextKeeps σ (execGlnRetest r s) := by
  unfold execGlnRetest
  try dsimp only
  repeat' first
    | with_reducible apply NextKeeps.mk
    | with_reducible exact hk
    | with_reducible assumption
    | intro _
    | with_reducible apply keeps_dispatch
    | with_reducible apply keeps_opGlnRetest

theorem keeps_opCalRun {σ s : State} {r : Nat} {a : Acc} (hk : Keeps σ s) : AnsKeeps σ ((opCalRun).run r a s) := by
  unfold opCalRun
  try dsimp only
  repeat' first
    | with_reducible apply AnsKeeps.done
    | with_reducible apply AnsKeeps.wait
    | with_reducible apply AnsKeeps.ite
    | with_reducible exact hk
    | with_reducible apply Keeps.wrs
    | with_reducible apply keeps_calStart
    | ((with_reducible show List.all _ _ = true); rfl)

theorem keeps_opCalAbort {σ s : State} {r : Nat} {a : Acc} (hk : Keeps σ s) : AnsKeeps σ ((opCalAbort).run r a s) := by
  unfold opCalAbort
  try dsimp only
  repeat' first
    | with_reducible apply AnsKeeps.done
    | with_reducible apply AnsKeeps.ite
    | with_reducible exact hk
    | with_reducible assumption
    | intro _
    | with_reducible apply Keeps.ite
    | with_reducible apply Keeps.forEach
    | with_reducible apply Keeps.wr
    | with_reducible apply Keeps.wrs
    | with_reducible apply keeps_calLaneClear
    | with_reducible apply keeps_complete
    | ((with_reducible show offTime _ = true); rfl)
    | ((with_reducible show List.all _ _ = true); rfl)

theorem keeps_execCalRun {σ : State} {r : Ring} {s : State} (hk : Keeps σ s) : NextKeeps σ (execCalRun r s) := by
  unfold execCalRun
  try dsimp only
  repeat' first
    | with_reducible apply NextKeeps.mk
    | with_reducible exact hk
    | with_reducible assumption
    | intro _
    | with_reducible apply keeps_dispatch
    | with_reducible apply keeps_opCalRun

theorem keeps_execCalAbort {σ : State} {r : Ring} {s : State} (hk : Keeps σ s) : NextKeeps σ (execCalAbort r s) := by
  unfold execCalAbort
  try dsimp only
  repeat' first
    | with_reducible apply NextKeeps.mk
    | with_reducible exact hk
    | with_reducible assumption
    | intro _
    | with_reducible apply keeps_dispatch
    | with_reducible apply keeps_opCalAbort

theorem keeps_calStepOver {σ : State} {s : State} {l : Nat} {j : Nat} {failed : Bool} (hk : Keeps σ s) : Keeps σ (calStepOver s l j failed) := by
  unfold calStepOver
  try dsimp only
  repeat' first
    | with_reducible exact hk
    | with_reducible apply Keeps.ite
    | with_reducible apply Keeps.wrs
    | with_reducible apply keeps_faultC
    | with_reducible apply keeps_sliceMark
    | ((with_reducible show List.all _ _ = true); rfl)

theorem keeps_calRecord {σ : State} {s : State} {x : Nat} {temp : Nat} {mv : Nat} (hk : Keeps σ s) : Keeps σ (calRecord s x temp mv) := by
  unfold calRecord
  try dsimp only
  repeat' first
    | with_reducible exact hk
    | with_reducible apply Keeps.wrs
    | ((with_reducible show List.all _ _ = true); rfl)

theorem keeps_execCalStepDone {σ : State} {kind : Fin 3} {t : Fin 64} {comp : BitVec 4} {inRange : Bool} {temp : BitVec 16} {mv : BitVec 16} {s : State} (hk : Keeps σ s) : NextKeeps σ (execCalStepDone kind t comp inRange temp mv s) := by
  unfold execCalStepDone
  try dsimp only
  repeat' first
    | with_reducible apply NextKeeps.mk
    | with_reducible exact hk
    | with_reducible apply Keeps.ite
    | with_reducible apply Keeps.wr
    | with_reducible apply keeps_calEnd
    | with_reducible apply keeps_calKick
    | with_reducible apply keeps_calRecord
    | with_reducible apply keeps_calStepOver
    | with_reducible apply keeps_perf
    | ((with_reducible show offTime _ = true); rfl)
    | split

theorem keeps_calMissed {σ : State} {s : State} {x : Nat} (hk : Keeps σ s) : Keeps σ (calMissed s x) := by
  unfold calMissed
  try dsimp only
  repeat' first
    | with_reducible exact hk
    | with_reducible apply Keeps.bump
    | with_reducible apply Keeps.wr
    | with_reducible apply keeps_faultC
    | with_reducible apply keeps_perf
    | ((with_reducible show offTime _ = true); rfl)

theorem keeps_execCalStepTimeout {σ : State} {kind : Fin 3} {t : Fin 64} {s : State} (hk : Keeps σ s) : NextKeeps σ (execCalStepTimeout kind t s) := by
  unfold execCalStepTimeout
  try dsimp only
  repeat' first
    | with_reducible apply NextKeeps.mk
    | with_reducible exact hk
    | with_reducible apply Keeps.ite
    | with_reducible apply keeps_calEnd
    | with_reducible apply keeps_calKick
    | with_reducible apply keeps_calMissed
    | with_reducible apply keeps_calStepOver
    | split

theorem keeps_execCalAutoStart {σ : State} {kind : Fin 3} {t : Fin 64} {temp : BitVec 16} {s : State} (hk : Keeps σ s) : NextKeeps σ (execCalAutoStart kind t temp s) := by
  unfold execCalAutoStart
  try dsimp only
  repeat' first
    | with_reducible apply NextKeeps.mk
    | with_reducible exact hk
    | with_reducible apply Keeps.ite
    | with_reducible apply Keeps.wr
    | with_reducible apply keeps_calStart
    | ((with_reducible show offTime _ = true); rfl)

theorem keeps_ageOnce {σ : State} {s : State} {d : Nat} {bit : Nat} {g : State → State} (hk : Keeps σ s) (hg : ∀ t, Keeps σ t → Keeps σ (g t)) : Keeps σ (ageOnce s d bit g) := by
  unfold ageOnce
  try dsimp only
  repeat' first
    | with_reducible exact hk
    | with_reducible apply hg
    | with_reducible apply Keeps.ite
    | with_reducible apply Keeps.wr
    | ((with_reducible show offTime _ = true); rfl)

theorem keeps_ageNone {σ : State} {s : State} {d : Nat} (hk : Keeps σ s) : Keeps σ (ageNone s d) := by
  unfold ageNone
  try dsimp only
  repeat' first
    | with_reducible exact hk
    | with_reducible assumption
    | intro _
    | with_reducible apply keeps_ageOnce
    | with_reducible apply keeps_raise

theorem keeps_ageLower {σ : State} {s : State} {n : Nat} {l : Nat} (hk : Keeps σ s) : Keeps σ (ageLower s n l) := by
  unfold ageLower
  try dsimp only
  repeat' first
    | with_reducible exact hk
    | with_reducible apply Keeps.wrs
    | with_reducible apply keeps_faultC
    | with_reducible apply keeps_levelEval
    | with_reducible apply keeps_thermEvent
    | ((with_reducible show List.all _ _ = true); rfl)

theorem keeps_ageDie {σ : State} {n : Nat} {s : State} (hk : Keeps σ s) : Keeps σ (ageDie n s) := by
  unfold ageDie
  try dsimp only
  repeat' first
    | with_reducible exact hk
    | with_reducible apply Keeps.ite
    | with_reducible apply keeps_ageLower
    | with_reducible apply keeps_ageNone

theorem keeps_ageLine {σ : State} {d : Nat} {s : State} (hk : Keeps σ s) : Keeps σ (ageLine d s) := by
  unfold ageLine
  try dsimp only
  repeat' first
    | with_reducible exact hk
    | with_reducible assumption
    | intro _
    | with_reducible apply Keeps.ite
    | with_reducible apply keeps_ageNone
    | with_reducible apply keeps_ageOnce
    | with_reducible apply keeps_faultC

theorem keeps_wearHour {σ : State} {s : State} {tj : Nat} (hk : Keeps σ s) : Keeps σ (wearHour s tj) := by
  unfold wearHour
  try dsimp only
  repeat' first
    | with_reducible exact hk
    | with_reducible apply Keeps.wrs
    | ((with_reducible show List.all _ _ = true); rfl)

theorem keeps_execWearAccountWrite {σ : State} {shifts : List (BitVec 16)} {needs : List (List Nat)} {tj : BitVec 16} {s : State} (hk : Keeps σ s) : NextKeeps σ (execWearAccountWrite shifts needs tj s) := by
  unfold execWearAccountWrite
  try dsimp only
  repeat' first
    | with_reducible apply NextKeeps.mk
    | with_reducible exact hk
    | with_reducible assumption
    | intro _
    | with_reducible apply Keeps.forEach
    | with_reducible apply Keeps.wr
    | with_reducible apply keeps_ageDie
    | with_reducible apply keeps_ageLine
    | with_reducible apply keeps_idleUse
    | with_reducible apply keeps_wearHour
    | ((with_reducible show offTime _ = true); rfl)

theorem keeps_opAgeReport {σ s : State} {r : Nat} {a : Acc} (hk : Keeps σ s) : AnsKeeps σ ((opAgeReport).run r a s) := by
  unfold opAgeReport
  try dsimp only
  repeat' first
    | with_reducible apply AnsKeeps.done
    | with_reducible exact hk
    | with_reducible apply Keeps.ite
    | with_reducible apply Keeps.took
    | with_reducible apply keeps_toHost

theorem keeps_execAgeReport {σ : State} {r : Ring} {s : State} (hk : Keeps σ s) : NextKeeps σ (execAgeReport r s) := by
  unfold execAgeReport
  try dsimp only
  repeat' first
    | with_reducible apply NextKeeps.mk
    | with_reducible exact hk
    | with_reducible assumption
    | intro _
    | with_reducible apply keeps_dispatch
    | with_reducible apply keeps_opAgeReport

/-! ## Perf -/

theorem keeps_opPmuSet {σ s : State} {r : Nat} {a : Acc} (hk : Keeps σ s) : AnsKeeps σ ((opPmuSet).run r a s) := by
  unfold opPmuSet
  try dsimp only
  repeat' first
    | with_reducible apply AnsKeeps.done
    | with_reducible exact hk
    | with_reducible apply Keeps.putFields
    | ((with_reducible show List.all _ _ = true); rfl)

theorem keeps_pendShow {σ : State} {s : State} (hk : Keeps σ s) : Keeps σ (pendShow s) := by
  unfold pendShow
  try dsimp only
  repeat' first
    | with_reducible exact hk
    | with_reducible apply Keeps.wr
    | ((with_reducible show offTime _ = true); rfl)

theorem keeps_opPmuRun {σ s : State} {r : Nat} {a : Acc} (hk : Keeps σ s) : AnsKeeps σ ((opPmuRun).run r a s) := by
  unfold opPmuRun
  try dsimp only
  repeat' first
    | with_reducible apply AnsKeeps.done
    | with_reducible apply AnsKeeps.wait
    | with_reducible apply AnsKeeps.ite
    | with_reducible exact hk
    | intro _
    | with_reducible apply keeps_pendShow
    | exact foldl_wf ‹_› fun _ _ => tabPut_wf _ _ _
    | with_reducible apply Keeps.pmuRuns

theorem keeps_groupsZero {σ : State} {s : State} {m : Nat} (hk : Keeps σ s) : Keeps σ (groupsZero s m) := by
  unfold groupsZero
  try dsimp only
  repeat' first
    | with_reducible exact hk
    | with_reducible assumption
    | intro _
    | with_reducible apply Keeps.forEach
    | with_reducible apply Keeps.wrs
    | ((with_reducible show List.all _ _ = true); rfl)

theorem keeps_runSwitch {σ : State} {q : Nat} {s : State} (hk : Keeps σ s) : Keeps σ (runSwitch q s) := by
  unfold runSwitch
  try dsimp only
  repeat' first
    | with_reducible exact hk
    | intro _
    | with_reducible apply Keeps.ite
    | with_reducible apply Keeps.wr
    | with_reducible apply keeps_complete
    | with_reducible apply keeps_groupsZero
    | with_reducible apply keeps_pendShow
    | ((with_reducible show offTime _ = true); rfl)
    | split
    | exact foldl_wf ‹_› fun _ _ => tabDel_wf _ _
    | with_reducible apply Keeps.pmuRuns

theorem keeps_execPmuRunSwitch {σ : State} {group : Fin 16} {s : State} (hk : Keeps σ s) : NextKeeps σ (execPmuRunSwitch group s) := by
  unfold execPmuRunSwitch
  try dsimp only
  repeat' first
    | with_reducible apply NextKeeps.mk
    | with_reducible exact hk
    | with_reducible apply keeps_runSwitch

theorem keeps_counterPut {σ : State} {s0 : State} {n : Nat} {count : Option Nat} {ovf : Option Nat} {transit : Nat} (hk : Keeps σ s0) : Keeps σ (counterPut s0 n count ovf transit) := by
  unfold counterPut
  try dsimp only
  repeat' first
    | with_reducible exact hk
    | with_reducible apply Keeps.ite
    | with_reducible apply Keeps.wr
    | with_reducible apply keeps_counterRecord
    | with_reducible apply keeps_perfAdd
    | with_reducible apply keeps_runSwitch
    | ((with_reducible show offTime _ = true); rfl)
    | split

theorem keeps_execPmuCounterWrite {σ : State} {n : Fin 512} {count : Option (BitVec 48)} {ovf : Option (BitVec 8)} {transit : Nat} {s : State} (hk : Keeps σ s) : NextKeeps σ (execPmuCounterWrite n count ovf transit s) := by
  unfold execPmuCounterWrite
  try dsimp only
  repeat' first
    | with_reducible apply NextKeeps.mk
    | with_reducible exact hk
    | with_reducible apply keeps_counterPut

theorem keeps_opPmuTagSet {σ s : State} {r : Nat} {a : Acc} (hk : Keeps σ s) : AnsKeeps σ ((opPmuTagSet).run r a s) := by
  unfold opPmuTagSet
  try dsimp only
  repeat' first
    | with_reducible apply AnsKeeps.done
    | with_reducible exact hk
    | intro _
    | with_reducible apply Keeps.wrs
    | ((with_reducible show List.all _ _ = true); rfl)
    | ((with_reducible show (!_) = true); rw [beq_offTime' (f := HID.TAG_LEFT) rfl ‹_›]; simp)
    | with_reducible apply Keeps.filterRegs

theorem keeps_opTraceCtrl {σ s : State} {r : Nat} {a : Acc} (hk : Keeps σ s) : AnsKeeps σ ((opTraceCtrl).run r a s) := by
  unfold opTraceCtrl
  try dsimp only
  repeat' first
    | with_reducible apply AnsKeeps.done
    | with_reducible exact hk
    | intro _
    | with_reducible apply Keeps.ite
    | with_reducible apply Keeps.wrs
    | ((with_reducible show List.all _ _ = true); rfl)
    | ((with_reducible show (!_) = true); rw [beq_offTime' (f := PMU_TRACE.RECORD) rfl ‹_›]; simp)
    | with_reducible apply Keeps.filterRegs

theorem keeps_opBwSet {σ s : State} {r : Nat} {a : Acc} (hk : Keeps σ s) : AnsKeeps σ ((opBwSet).run r a s) := by
  unfold opBwSet
  try dsimp only
  repeat' first
    | with_reducible apply AnsKeeps.done
    | with_reducible exact hk
    | with_reducible apply Keeps.wrs
    | ((with_reducible show List.all _ _ = true); rfl)

theorem keeps_bwClear {σ : State} {p : Nat} {s : State} (hk : Keeps σ s) : Keeps σ (bwClear p s) := by
  unfold bwClear
  try dsimp only
  repeat' first
    | with_reducible exact hk
    | with_reducible apply Keeps.wrs
    | ((with_reducible show List.all _ _ = true); rfl)

theorem keeps_bwShow {σ : State} {s : State} {p : Nat} {v : Nat} {last : Fld} {lastQ : Fld} {lo : Fld} {loQ : Fld} {hi : Fld} {hiQ : Fld} (hk : Keeps σ s) (hlast : offTime last = true) (hlastQ : offTime lastQ = true) (hlo : offTime lo = true) (hloQ : offTime loQ = true) (hhi : offTime hi = true) (hhiQ : offTime hiQ = true) : Keeps σ (bwShow s p v last lastQ lo loQ hi hiQ) := by
  unfold bwShow
  try dsimp only
  repeat' first
    | with_reducible exact hk
    | with_reducible apply Keeps.ite
    | with_reducible apply Keeps.wrs
    | ((with_reducible show List.all _ _ = true); simp only [List.all_cons, List.all_nil, hlast, hlastQ, hlo, hloQ, hhi, hhiQ, Bool.and_true, Bool.true_and]; try rfl)

theorem keeps_windowEnd {σ : State} {i : Nat} {s : State} (hk : Keeps σ s) : Keeps σ (windowEnd i s) := by
  unfold windowEnd
  try dsimp only
  repeat' first
    | with_reducible exact hk
    | with_reducible apply Keeps.ite
    | with_reducible apply Keeps.wrs
    | with_reducible apply keeps_bwShow
    | ((with_reducible show offTime _ = true); rfl)
    | ((with_reducible show List.all _ _ = true); rfl)

theorem keeps_execBwWindowEnd {σ : State} {p : Port} {s : State} (hk : Keeps σ s) : NextKeeps σ (execBwWindowEnd p s) := by
  unfold execBwWindowEnd
  try dsimp only
  repeat' first
    | with_reducible apply NextKeeps.mk
    | with_reducible exact hk
    | with_reducible apply keeps_windowEnd

theorem keeps_opBwClear {σ s : State} {r : Nat} {a : Acc} (hk : Keeps σ s) : AnsKeeps σ ((opBwClear).run r a s) := by
  unfold opBwClear
  try dsimp only
  repeat' first
    | with_reducible apply AnsKeeps.done
    | with_reducible exact hk
    | with_reducible assumption
    | intro _
    | with_reducible apply Keeps.forEach
    | with_reducible apply keeps_bwClear
    | with_reducible apply keeps_windowEnd

theorem keeps_execPmuSet {σ : State} {r : Ring} {s : State} (hk : Keeps σ s) : NextKeeps σ (execPmuSet r s) := by
  unfold execPmuSet
  try dsimp only
  repeat' first
    | with_reducible apply NextKeeps.mk
    | with_reducible exact hk
    | with_reducible assumption
    | intro _
    | with_reducible apply keeps_dispatch
    | with_reducible apply keeps_opPmuSet

theorem keeps_execPmuRun {σ : State} {r : Ring} {s : State} (hk : Keeps σ s) : NextKeeps σ (execPmuRun r s) := by
  unfold execPmuRun
  try dsimp only
  repeat' first
    | with_reducible apply NextKeeps.mk
    | with_reducible exact hk
    | with_reducible assumption
    | intro _
    | with_reducible apply keeps_dispatch
    | with_reducible apply keeps_opPmuRun

theorem keeps_execPmuTagSet {σ : State} {r : Ring} {s : State} (hk : Keeps σ s) : NextKeeps σ (execPmuTagSet r s) := by
  unfold execPmuTagSet
  try dsimp only
  repeat' first
    | with_reducible apply NextKeeps.mk
    | with_reducible exact hk
    | with_reducible assumption
    | intro _
    | with_reducible apply keeps_dispatch
    | with_reducible apply keeps_opPmuTagSet

theorem keeps_execTraceCtrl {σ : State} {r : Ring} {s : State} (hk : Keeps σ s) : NextKeeps σ (execTraceCtrl r s) := by
  unfold execTraceCtrl
  try dsimp only
  repeat' first
    | with_reducible apply NextKeeps.mk
    | with_reducible exact hk
    | with_reducible assumption
    | intro _
    | with_reducible apply keeps_dispatch
    | with_reducible apply keeps_opTraceCtrl

theorem keeps_execBwSet {σ : State} {r : Ring} {s : State} (hk : Keeps σ s) : NextKeeps σ (execBwSet r s) := by
  unfold execBwSet
  try dsimp only
  repeat' first
    | with_reducible apply NextKeeps.mk
    | with_reducible exact hk
    | with_reducible assumption
    | intro _
    | with_reducible apply keeps_dispatch
    | with_reducible apply keeps_opBwSet

theorem keeps_execBwClear {σ : State} {r : Ring} {s : State} (hk : Keeps σ s) : NextKeeps σ (execBwClear r s) := by
  unfold execBwClear
  try dsimp only
  repeat' first
    | with_reducible apply NextKeeps.mk
    | with_reducible exact hk
    | with_reducible assumption
    | intro _
    | with_reducible apply keeps_dispatch
    | with_reducible apply keeps_opBwClear

/-! ## Corridor -/

theorem keeps_attemptFail {σ : State} {s : State} {c : Nat} (hk : Keeps σ s) : Keeps σ (attemptFail s c) := by
  unfold attemptFail
  try dsimp only
  repeat' first
    | with_reducible exact hk
    | with_reducible assumption
    | intro _
    | with_reducible apply Keeps.ite
    | with_reducible apply Keeps.wr
    | with_reducible apply Keeps.wrs
    | with_reducible apply keeps_holdCorridor
    | with_reducible apply keeps_raise
    | ((with_reducible show offTime _ = true); rfl)
    | ((with_reducible show List.all _ _ = true); rfl)

theorem keeps_startMap {σ : State} {dd : Nat} {s : State} {x : Nat} (hk : Keeps σ s) : Keeps σ (startMap dd s x) := by
  unfold startMap
  try dsimp only
  repeat' first
    | with_reducible exact hk
    | with_reducible apply Keeps.ite
    | with_reducible apply Keeps.wrs
    | ((with_reducible show List.all _ _ = true); rfl)
    | split

theorem keeps_dirStart {σ : State} {s : State} {dd : Nat} {failed : List Nat} {skew : Nat} {peak : Nat} (hk : Keeps σ s) : Keeps σ (dirStart s dd failed skew peak) := by
  unfold dirStart
  try dsimp only
  repeat' first
    | with_reducible exact hk
    | with_reducible assumption
    | intro _
    | with_reducible apply Keeps.wrs
    | with_reducible apply keeps_startMap
    | with_reducible apply Keeps.foldl
    | ((with_reducible show List.all _ _ = true); rfl)

theorem keeps_execCorridorStart {σ : State} {c : Corridor} {dir : Fin 2} {failed : List (Fin 1056)} {skew : BitVec 9} {peak : BitVec 5} {s : State} (hk : Keeps σ s) : NextKeeps σ (execCorridorStart c dir failed skew peak s) := by
  unfold execCorridorStart
  try dsimp only
  repeat' first
    | with_reducible apply NextKeeps.mk
    | with_reducible exact hk
    | with_reducible apply Keeps.ite
    | with_reducible apply keeps_attemptFail
    | with_reducible apply keeps_dirStart

theorem keeps_execCorridorStartTimeout {σ : State} {c : Corridor} {s : State} (hk : Keeps σ s) : NextKeeps σ (execCorridorStartTimeout c s) := by
  unfold execCorridorStartTimeout
  try dsimp only
  repeat' first
    | with_reducible apply NextKeeps.mk
    | with_reducible exact hk
    | with_reducible apply Keeps.ite
    | with_reducible apply keeps_attemptFail

theorem keeps_laneLost {σ : State} {s : State} {dd : Nat} {x : Nat} (hk : Keeps σ s) : Keeps σ (laneLost s dd x) := by
  unfold laneLost
  try dsimp only
  repeat' first
    | with_reducible exact hk
    | with_reducible apply Keeps.ite
    | with_reducible apply keeps_ddlNext
    | with_reducible assumption
    | intro _
    | with_reducible apply Keeps.wrs
    | with_reducible apply keeps_ddlReplace
    | with_reducible apply keeps_raise
    | ((with_reducible show List.all _ _ = true); rfl)
    | split

theorem keeps_laneErr {σ : State} {s : State} {dd : Nat} {x : Nat} (hk : Keeps σ s) : Keeps σ (laneErr s dd x) := by
  unfold laneErr
  try dsimp only
  repeat' first
    | with_reducible exact hk
    | with_reducible exact tabPut_wf _ _ _
    | with_reducible exact tabDel_wf _ _
    | with_reducible apply Keeps.ite
    | with_reducible apply Keeps.bump
    | with_reducible apply keeps_laneLost
    | with_reducible apply keeps_perf
    | ((with_reducible show offTime _ = true); rfl)
    | with_reducible apply Keeps.errTicks

theorem keeps_execCorridorMarkerRx {σ : State} {c : Corridor} {dir : Fin 2} {x : Fin 1056} {seen : Bool} {crcOk : Bool} {s : State} (hk : Keeps σ s) : NextKeeps σ (execCorridorMarkerRx c dir x seen crcOk s) := by
  unfold execCorridorMarkerRx
  try dsimp only
  repeat' first
    | with_reducible apply NextKeeps.mk
    | with_reducible exact hk
    | with_reducible apply Keeps.ite
    | with_reducible apply Keeps.bump
    | with_reducible apply Keeps.wr
    | with_reducible apply keeps_laneErr
    | with_reducible apply keeps_laneLost
    | ((with_reducible show offTime _ = true); rfl)

theorem keeps_execCorridorPacketRx {σ : State} {c : Corridor} {pkt : Nat} {crcOk : Bool} {s : State} (hk : Keeps σ s) : NextKeeps σ (execCorridorPacketRx c pkt crcOk s) := by
  unfold execCorridorPacketRx
  try dsimp only
  repeat' first
    | with_reducible apply NextKeeps.mk
    | with_reducible exact hk
    | with_reducible apply Keeps.ite
    | with_reducible apply Keeps.bump
    | with_reducible apply keeps_faultC
    | with_reducible apply keeps_losePkt
    | with_reducible apply keeps_perf
    | ((with_reducible show offTime _ = true); rfl)
    | split

theorem keeps_execCtrlMsgRetry {σ : State} {c : Corridor} {dir : Fin 2} {last : Bool} {s : State} (hk : Keeps σ s) : NextKeeps σ (execCtrlMsgRetry c dir last s) := by
  unfold execCtrlMsgRetry
  try dsimp only
  repeat' first
    | with_reducible apply NextKeeps.mk
    | with_reducible exact hk
    | with_reducible apply Keeps.ite
    | with_reducible apply Keeps.bump
    | with_reducible apply Keeps.wr
    | with_reducible apply keeps_emit
    | with_reducible apply keeps_faultK
    | with_reducible apply keeps_perf
    | ((with_reducible show offTime _ = true); rfl)

theorem keeps_replaceAsk {σ : State} {s : State} {dd : Nat} {x : Nat} (hk : Keeps σ s) : Keeps σ (replaceAsk s dd x) := by
  unfold replaceAsk
  try dsimp only
  repeat' first
    | with_reducible exact hk
    | with_reducible assumption
    | intro _
    | with_reducible apply Keeps.ite
    | with_reducible apply keeps_ddlReplace
    | with_reducible apply keeps_raise

theorem keeps_execCorridorLaneReplace {σ : State} {c : Corridor} {dir : Fin 2} {x : Fin 1056} {s : State} (hk : Keeps σ s) : NextKeeps σ (execCorridorLaneReplace c dir x s) := by
  unfold execCorridorLaneReplace
  try dsimp only
  repeat' first
    | with_reducible apply NextKeeps.mk
    | with_reducible exact hk
    | with_reducible apply keeps_replaceAsk

theorem keeps_execCorridorLaneSwitch {σ : State} {c : Corridor} {dir : Fin 2} {s : State} (hk : Keeps σ s) : NextKeeps σ (execCorridorLaneSwitch c dir s) := by
  unfold execCorridorLaneSwitch
  try dsimp only
  repeat' first
    | with_reducible apply NextKeeps.mk
    | with_reducible exact hk
    | with_reducible assumption
    | intro _
    | with_reducible apply Keeps.ite
    | with_reducible apply Keeps.bump
    | with_reducible apply Keeps.wrs
    | with_reducible apply keeps_ddlNext
    | with_reducible apply keeps_faultC
    | with_reducible apply keeps_perf
    | with_reducible apply keeps_raise
    | ((with_reducible show offTime _ = true); rfl)
    | ((with_reducible show List.all _ _ = true); rfl)

/-! ## Flags -/

/-! ## Regio -/

theorem keeps_woAct {σ : State} {s : State} {f : Fld} {i : Nat} (hk : Keeps σ s) : Keeps σ (woAct s f i) := by
  unfold woAct
  try dsimp only
  repeat' first
    | with_reducible exact hk
    | with_reducible apply Keeps.ite
    | with_reducible apply Keeps.wr
    | with_reducible apply keeps_captureStart
    | with_reducible apply keeps_discardBank
    | with_reducible apply keeps_fecClear
    | with_reducible apply keeps_replaceAsk
    | with_reducible apply keeps_shapeApply
    | with_reducible apply keeps_storeBank
    | ((with_reducible show offTime _ = true); rfl)

theorem keeps_fldWrite {σ s : State} {f : Fld} {i m v : Nat} (hk : Keeps σ s) (hf : (roField f || offTime f) = true) :
    Keeps σ (fldWrite s f i m v) := by
  cases ht : roField f with
  | true =>
    unfold fldWrite
    unfold roField at ht
    cases h : f.ty <;> simp_all
  | false =>
    rw [ht, Bool.false_or] at hf
    unfold fldWrite
    split
    · exact Keeps.ite hk (Keeps.ite (keeps_stickyClear hk) (hk.wr hf))
    · exact hk
    · exact hk
    · exact hk
    · exact hk.wr hf

theorem keeps_fldAct {σ s : State} {f : Fld} {i m v : Nat} (hk : Keeps σ s) : Keeps σ (fldAct s f i m v) :=
  Keeps.ite (keeps_woAct hk) hk

theorem keeps_laserRename {σ : State} {b : State} {s : State} {l : Nat} (hk : Keeps σ s) : Keeps σ (laserRename b s l) := by
  unfold laserRename
  try dsimp only
  repeat' first
    | with_reducible exact hk
    | with_reducible assumption
    | intro _
    | with_reducible apply Keeps.ite
    | with_reducible apply Keeps.forEach
    | with_reducible apply keeps_laserRestore
    | with_reducible apply keeps_raise
    | with_reducible apply keeps_toClear

theorem keeps_regAfter {σ : State} {base : Nat} {t : Fld → Bool} {b : State} {s : State} {i : Nat} (hk : Keeps σ s) : Keeps σ (regAfter base t b s i) := by
  unfold regAfter
  try dsimp only
  repeat' first
    | with_reducible exact hk
    | with_reducible assumption
    | intro _
    | with_reducible apply Keeps.ite
    | with_reducible apply Keeps.forEach
    | with_reducible apply Keeps.wr
    | with_reducible apply Keeps.wrs
    | with_reducible apply keeps_laserRename
    | with_reducible apply keeps_pfcCheck
    | with_reducible apply keeps_portEval
    | with_reducible apply keeps_raise
    | with_reducible apply keeps_rclkShow
    | with_reducible apply keeps_setAls
    | with_reducible apply keeps_sqNow
    | with_reducible apply keeps_updFaultPin
    | with_reducible apply keeps_vrmDisable
    | with_reducible apply keeps_vrmEnable
    | ((with_reducible show offTime _ = true); rfl)
    | ((with_reducible show List.all _ _ = true); rfl)

/-- No field that a register write reaches holds local time. -/
theorem registers_offTime : (registers.all fun r => r.flds.all fun f => roField f || offTime f) = true := by
  decide +kernel

theorem rwPlace_mem {a : Machine.Acc} {r : RegSpec} {i q : Nat} (h : rwPlace a = some (r, i, q)) : r ∈ registers := by
  unfold rwPlace regAccess at h
  split at h
  · split at h
    · rename_i e
      split at h
      · obtain ⟨rfl, _⟩ := Prod.mk.inj (Option.some.inj h)
        obtain ⟨x, hx, e⟩ := List.exists_of_findSome?_eq_some e
        obtain ⟨y, _, e⟩ := Option.map_eq_some_iff.1 e
        exact (Prod.mk.inj e).1 ▸ hx
      · cases h
    · cases h
  · cases h

theorem keeps_regPut {σ s : State} {a : Machine.Acc} (hk : Keeps σ s) : Keeps σ (regPut s a) := by
  unfold regPut
  split
  · exact hk
  · rename_i r i q e
    have hf : ∀ f ∈ touched a r q, (roField f || offTime f) = true := fun f h =>
      List.all_eq_true.1 (List.all_eq_true.1 registers_offTime r (rwPlace_mem e)) f (List.mem_filter.1 h).1
    dsimp only
    refine Keeps.foldl ?_ fun t f h => keeps_fldAct h
    have h1 := Keeps.foldl_mem hk fun (t : State) f hm h =>
      keeps_fldWrite (f := f) (i := i) (m := fldMask a q f) (v := fldValue a q f) h (hf f hm)
    exact Keeps.ite h1 (keeps_regAfter h1)

theorem keeps_pinLevels {σ : State} {s : State} (hk : Keeps σ s) : Keeps σ (pinLevels s) := by
  unfold pinLevels
  try dsimp only
  repeat' first
    | with_reducible exact hk
    | with_reducible apply Keeps.took
    | with_reducible apply Keeps.wrs
    | ((with_reducible show List.all _ _ = true); rfl)

theorem keeps_refresh {σ : State} {s : State} {r : RegSpec} {i : Nat} (hk : Keeps σ s) : Keeps σ (refresh s r i) := by
  unfold refresh
  try dsimp only
  repeat' first
    | with_reducible exact hk
    | with_reducible apply Keeps.ite
    | with_reducible apply keeps_adaptAfe
    | with_reducible apply keeps_adaptCdr
    | with_reducible apply keeps_adaptFfe
    | with_reducible apply keeps_clipTx
    | with_reducible apply keeps_pinLevels

theorem keeps_look {σ : State} {s0 : State} {r : RegSpec} {i : Nat} {q : Nat} {off : Nat} {width : Nat} (hk : Keeps σ s0) : Keeps σ (look s0 r i q off width).1 := by
  unfold look
  try dsimp only
  try show FstKeeps σ _
  repeat' first
    | with_reducible apply FstKeeps.mk
    | with_reducible exact hk
    | with_reducible apply Keeps.wr
    | with_reducible apply Keeps.wrs
    | with_reducible apply keeps_refresh
    | ((with_reducible show offTime _ = true); rfl)
    | ((with_reducible show List.all _ _ = true); rfl)
    | split

theorem keeps_rwLook {σ : State} {s : State} {a : Acc} (hk : Keeps σ s) : Keeps σ (rwLook s a).1 := by
  unfold rwLook
  try dsimp only
  try show FstKeeps σ _
  repeat' first
    | with_reducible apply FstKeeps.mk
    | with_reducible exact hk
    | with_reducible apply keeps_look
    | split

theorem keeps_opRegWrite {σ s : State} {r : Nat} {a : Acc} (hk : Keeps σ s) : AnsKeeps σ ((opRegWrite).run r a s) := by
  unfold opRegWrite
  try dsimp only
  repeat' first
    | with_reducible apply AnsKeeps.done
    | with_reducible exact hk
    | with_reducible apply Keeps.ite
    | with_reducible apply keeps_regPut
    | with_reducible apply keeps_rwLook
    | with_reducible apply keeps_stageItem

theorem keeps_execRegWrite {σ : State} {r : Ring} {s : State} (hk : Keeps σ s) : NextKeeps σ (execRegWrite r s) := by
  unfold execRegWrite
  try dsimp only
  repeat' first
    | with_reducible apply NextKeeps.mk
    | with_reducible exact hk
    | with_reducible assumption
    | intro _
    | with_reducible apply keeps_dispatch
    | with_reducible apply keeps_opRegWrite

theorem keeps_opRegRead {σ s : State} {r : Nat} {a : Acc} {uncorr : Bool} (hk : Keeps σ s) : AnsKeeps σ ((opRegRead uncorr).run r a s) := by
  unfold opRegRead
  try dsimp only
  repeat' first
    | with_reducible apply AnsKeeps.done
    | with_reducible apply AnsKeeps.ite
    | with_reducible exact hk
    | with_reducible apply keeps_rwLook
    | with_reducible apply keeps_storeErr

theorem keeps_execRegRead {σ : State} {r : Ring} {uncorr : Bool} {s : State} (hk : Keeps σ s) : NextKeeps σ (execRegRead r uncorr s) := by
  unfold execRegRead
  try dsimp only
  repeat' first
    | with_reducible apply NextKeeps.mk
    | with_reducible exact hk
    | with_reducible assumption
    | intro _
    | with_reducible apply keeps_dispatch
    | with_reducible apply keeps_opRegRead

/-! ## Mmio -/

theorem keeps_msixFlush {σ : State} {s : State} {v : Nat} (hk : Keeps σ s) : Keeps σ (msixFlush s v) := by
  unfold msixFlush
  try dsimp only
  repeat' first
    | with_reducible exact hk
    | with_reducible apply Keeps.ite
    | with_reducible apply Keeps.wr
    | with_reducible apply keeps_sendIrq
    | ((with_reducible show offTime _ = true); rfl)

theorem keeps_msixFlushAll {σ : State} {s : State} (hk : Keeps σ s) : Keeps σ (msixFlushAll s) := by
  unfold msixFlushAll
  try dsimp only
  repeat' first
    | with_reducible exact hk
    | with_reducible assumption
    | intro _
    | with_reducible apply Keeps.forEach
    | with_reducible apply keeps_msixFlush

theorem keeps_msixPut {σ : State} {s : State} {v : Nat} {k : Nat} {x : Nat} (hk : Keeps σ s) : Keeps σ (msixPut s v k x) := by
  unfold msixPut
  try dsimp only
  repeat' first
    | with_reducible exact hk
    | with_reducible apply Keeps.wr
    | with_reducible apply keeps_msixFlush
    | ((with_reducible show offTime _ = true); rfl)
    | split

theorem keeps_readPlace {σ : State} {s : State} {off : Nat} {width : Nat} (hk : Keeps σ s) : Keeps σ (readPlace s off width).1 := by
  unfold readPlace
  try dsimp only
  try show FstKeeps σ _
  repeat' first
    | with_reducible apply FstKeeps.mk
    | with_reducible exact hk
    | with_reducible apply keeps_look
    | split

theorem keeps_readBar0 {σ : State} {s : State} {off : Nat} {width : Nat} (hk : Keeps σ s) : Keeps σ (readBar0 s off width).1 := by
  unfold readBar0
  try dsimp only
  try show FstKeeps σ _
  repeat' first
    | with_reducible apply FstKeeps.mk
    | with_reducible exact hk
    | with_reducible apply keeps_readPlace
    | split

theorem keeps_plainRead {σ : State} {bar2 : Bool} {o : Nat} {width : Nat} {uncorr : Bool} {s : State} (hk : Keeps σ s) : Keeps σ (plainRead bar2 o width uncorr s) := by
  unfold plainRead
  try dsimp only
  repeat' first
    | with_reducible exact hk
    | with_reducible apply Keeps.ite
    | with_reducible apply keeps_emit
    | with_reducible apply keeps_onesRead
    | with_reducible apply keeps_perf
    | with_reducible apply keeps_readBar0
    | with_reducible apply keeps_storeErr
    | ((with_reducible show offTime _ = true); rfl)

theorem keeps_execMmioAllOnesRead {σ : State} {bar2 : Bool} {offset : BitVec 28} {width : Nat} {uncorr : Bool} {s : State} (hk : Keeps σ s) : NextKeeps σ (execMmioAllOnesRead bar2 offset width uncorr s) := by
  unfold execMmioAllOnesRead
  try dsimp only
  repeat' first
    | with_reducible apply NextKeeps.mk
    | with_reducible exact hk
    | with_reducible apply keeps_plainRead

theorem keeps_execCounterHalfRead {σ : State} {offset : BitVec 28} {s : State} (hk : Keeps σ s) : NextKeeps σ (execCounterHalfRead offset s) := by
  unfold execCounterHalfRead
  try dsimp only
  repeat' first
    | with_reducible apply NextKeeps.mk
    | with_reducible exact hk
    | with_reducible apply keeps_plainRead

theorem keeps_execTimNowRead {σ : State} {s : State} (hk : Keeps σ s) : NextKeeps σ (execTimNowRead s) := by
  unfold execTimNowRead
  try dsimp only
  repeat' first
    | with_reducible apply NextKeeps.mk
    | with_reducible exact hk
    | with_reducible apply keeps_plainRead

theorem keeps_mailWrite {σ : State} {s : State} {off : Nat} {width : Nat} {v : Nat} (hk : Keeps σ s) : Keeps σ (mailWrite s off width v) := by
  unfold mailWrite
  try dsimp only
  repeat' first
    | with_reducible exact hk
    | with_reducible apply Keeps.ite
    | with_reducible apply Keeps.vstReq

theorem keeps_plainWrite {σ : State} {bar2 : Bool} {o : Nat} {width : Nat} {v : Nat} {s : State} (hk : Keeps σ s) : Keeps σ (plainWrite bar2 o width v s) := by
  unfold plainWrite
  try dsimp only
  repeat' first
    | with_reducible exact hk
    | with_reducible apply Keeps.ite
    | with_reducible apply keeps_dropWrite
    | with_reducible apply keeps_emit
    | with_reducible apply keeps_mailWrite
    | with_reducible apply keeps_msixPut

theorem keeps_execMmioWriteDrop {σ : State} {bar2 : Bool} {offset : BitVec 28} {width : Nat} {v : BitVec 64} {s : State} (hk : Keeps σ s) : NextKeeps σ (execMmioWriteDrop bar2 offset width v s) := by
  unfold execMmioWriteDrop
  try dsimp only
  repeat' first
    | with_reducible apply NextKeeps.mk
    | with_reducible exact hk
    | with_reducible apply keeps_plainWrite

theorem keeps_cfgReset {σ : State} {kind : HostResetKind} {s : State} (hk : Keeps σ s) : Keeps σ (cfgReset kind s) := by
  unfold cfgReset
  try dsimp only
  repeat' first
    | with_reducible exact hk
    | with_reducible apply keeps_countHost
    | with_reducible apply keeps_hostReset

theorem keeps_cfgWrite {σ : State} {s : State} {r : CfgReg} {v : Nat} (hk : Keeps σ s) : Keeps σ (cfgWrite s r v) := by
  unfold cfgWrite
  try dsimp only
  repeat' first
    | with_reducible exact hk
    | with_reducible apply Keeps.ite
    | with_reducible apply Keeps.wr
    | with_reducible apply Keeps.wrs
    | with_reducible apply keeps_cfgReset
    | with_reducible apply keeps_msixFlushAll
    | ((with_reducible show offTime _ = true); rfl)
    | ((with_reducible show List.all _ _ = true); rfl)
    | split

theorem keeps_execPcieConfigRequest {σ : State} {q : CfgReq} {s : State} (hk : Keeps σ s) : NextKeeps σ (execPcieConfigRequest q s) := by
  unfold execPcieConfigRequest
  try dsimp only
  repeat' first
    | with_reducible apply NextKeeps.mk
    | with_reducible exact hk
    | with_reducible apply Keeps.ite
    | with_reducible apply keeps_cfgWrite
    | with_reducible apply keeps_emit
    | split

/-! ## Events -/

theorem keeps_tevNext {σ : State} {s : State} {n : Nat} (hk : Keeps σ s) : Keeps σ (tevNext s n) := by
  unfold tevNext
  try dsimp only
  repeat' first
    | with_reducible exact hk
    | with_reducible apply Keeps.ite
    | with_reducible apply Keeps.wr
    | with_reducible apply Keeps.bumpBy
    | ((with_reducible show offTime _ = true); rfl)

theorem keeps_tevGates {σ : State} {s : State} {n : Nat} (hk : Keeps σ s) : Keeps σ (tevGates s n) := by
  unfold tevGates
  try dsimp only
  repeat' first
    | with_reducible exact hk
    | with_reducible assumption
    | intro _
    | with_reducible apply Keeps.forEach
    | with_reducible apply keeps_gateCycle

theorem keeps_tevSites {σ : State} {s : State} {n : Nat} (hk : Keeps σ s) : Keeps σ (tevSites s n) := by
  unfold tevSites
  try dsimp only
  repeat' first
    | with_reducible exact hk
    | with_reducible assumption
    | intro _
    | with_reducible apply Keeps.forEach
    | with_reducible apply keeps_raise
    | with_reducible apply keeps_strobe

theorem keeps_tevPps {σ : State} {s : State} {n : Nat} {due : Nat} (hk : Keeps σ s) : Keeps σ (tevPps s n due) := by
  unfold tevPps
  try dsimp only
  repeat' first
    | with_reducible exact hk
    | with_reducible apply Keeps.ite
    | with_reducible apply Keeps.wr
    | ((with_reducible show offTime _ = true); rfl)

theorem keeps_tevWakes {σ : State} {s : State} {n : Nat} (hk : Keeps σ s) : Keeps σ (tevWakes s n) := by
  unfold tevWakes
  try dsimp only
  repeat' first
    | with_reducible exact hk
    | with_reducible assumption
    | intro _
    | with_reducible apply Keeps.ite
    | with_reducible apply Keeps.forEach
    | with_reducible apply keeps_domMove
    | with_reducible apply keeps_leaveStandby

theorem keeps_tevRecord {σ : State} {s : State} {n : Nat} (hk : Keeps σ s) : Keeps σ (tevRecord s n) := by
  unfold tevRecord
  try dsimp only
  repeat' first
    | with_reducible exact hk
    | with_reducible apply Keeps.ite
    | with_reducible apply keeps_event
    | with_reducible apply keeps_perf

theorem keeps_tevAct {σ : State} {s : State} {n : Nat} (hk : Keeps σ s) : Keeps σ (tevAct s n) := by
  unfold tevAct
  try dsimp only
  repeat' first
    | with_reducible exact hk
    | with_reducible apply keeps_calFire
    | with_reducible apply keeps_monTev
    | with_reducible apply keeps_tevGates
    | with_reducible apply keeps_tevNext
    | with_reducible apply keeps_tevPps
    | with_reducible apply keeps_tevRecord
    | with_reducible apply keeps_tevSites
    | with_reducible apply keeps_tevWakes

theorem keeps_tevFireDue {σ : State} {s : State} (hk : Keeps σ s) : Keeps σ (tevFireDue s) := by
  unfold tevFireDue
  try dsimp only
  repeat' first
    | with_reducible exact hk
    | with_reducible assumption
    | intro _
    | with_reducible apply Keeps.forEach
    | with_reducible apply keeps_tevAct

theorem keeps_execTevFire {σ : State} {n : Fin 64} {s : State} (hk : Keeps σ s) : NextKeeps σ (execTevFire n s) := by
  unfold execTevFire
  try dsimp only
  repeat' first
    | with_reducible apply NextKeeps.mk
    | with_reducible exact hk
    | with_reducible apply Keeps.ite
    | with_reducible apply keeps_tevAct

theorem keeps_opTevStop {σ s : State} {r : Nat} {a : Acc} (hk : Keeps σ s) : AnsKeeps σ ((opTevStop).run r a s) := by
  unfold opTevStop
  try dsimp only
  repeat' first
    | with_reducible apply AnsKeeps.done
    | with_reducible exact hk
    | with_reducible apply Keeps.ite
    | with_reducible apply Keeps.wr
    | with_reducible apply keeps_tevAct
    | ((with_reducible show offTime _ = true); rfl)

theorem keeps_execTevStop {σ : State} {r : Ring} {s : State} (hk : Keeps σ s) : NextKeeps σ (execTevStop r s) := by
  unfold execTevStop
  try dsimp only
  repeat' first
    | with_reducible apply NextKeeps.mk
    | with_reducible exact hk
    | with_reducible assumption
    | intro _
    | with_reducible apply keeps_dispatch
    | with_reducible apply keeps_opTevStop

/-! ## Fire -/

theorem keeps_skipItem {σ : State} {x : State × Skips} {n : Nat} (hk : Keeps σ x.1) : Keeps σ (skipItem x n).1 :=
  keeps_faultC hk

theorem keeps_fireRecs {σ : State} {g n opcode role : Nat} {l : List TRec} :
    ∀ {x : State × Skips}, Keeps σ x.1 → Keeps σ (fireRecs g n opcode role l x).1 := by
  induction l with
  | nil => exact fun h => h
  | cons r l ih =>
    intro x h
    unfold fireRecs
    dsimp only
    split
    · exact ih (keeps_skipItem (x := (refused x.1, x.2)) (keeps_refused h))
    · exact ih (Keeps.ite (keeps_recApply h) (keeps_refused (keeps_recApply h)))

theorem keeps_fireDefault {σ : State} {g n : Nat} {a : Machine.Acc} {x : State × Skips} (hk : Keeps σ x.1) :
    Keeps σ (fireDefault g n a x).1 := by
  unfold fireDefault
  split
  · exact keeps_skipItem hk
  · exact keeps_setGen hk

theorem keeps_fireImage {σ : State} {g : Nat} {s : State} (hk : Keeps σ s) : Keeps σ (fireImage g s) := by
  unfold fireImage
  try dsimp only
  repeat' first
    | with_reducible exact hk
    | with_reducible apply keeps_ctxDrop
    | with_reducible apply keeps_imgShow
    | with_reducible apply keeps_setGen
    | split

theorem keeps_moveEntry {σ : State} {s : State} {sh : Nat} {old : Nat} {g : Nat} (hk : Keeps σ s) : Keeps σ (moveEntry s sh old g) := by
  unfold moveEntry
  try dsimp only
  repeat' first
    | with_reducible exact hk
    | with_reducible exact Keeps.refl _
    | with_reducible exact id
    | with_reducible apply Keeps.record

theorem keeps_fireAssign {σ : State} {g n : Nat} {a : Machine.Acc} {x : State × Skips} (hk : Keeps σ x.1) :
    Keeps σ (fireAssign g n a x).1 := by
  unfold fireAssign
  dsimp only
  split
  · exact keeps_skipItem hk
  · have h1 : Keeps σ (if rd x.1 GAL_STAT.STATE (opdB a 0x11) == 4 then abortSlice raise x.1 0 (2 * opdB a 0x11) else x.1) :=
      Keeps.ite (keeps_abortSlice hk fun _ _ _ _ h => keeps_raise h) hk
    have h2 := fun c : GenCopy => (Keeps.bump (f := GLB_SI_ROT.MOVES) (i := 0) (keeps_setGen (g := g) (c := c) h1) rfl)
    split
    · exact (h2 _).wrs rfl
    · exact keeps_moveEntry (((h2 _).wrs rfl).wrs rfl)

theorem keeps_fireGen {σ : State} {g : Nat} {l : List (Nat × Machine.Acc × Bool)} :
    ∀ {x : State × Skips}, Keeps σ x.1 → Keeps σ (fireGen g l x).1 := by
  induction l with
  | nil => exact fun h => h
  | cons e l ih =>
    obtain ⟨n, a, skip⟩ := e
    intro x h
    unfold fireGen
    split
    · exact ih h
    · split
      · refine ih (keeps_skipItem ?_)
        split
        · exact keeps_ctxDrop h
        · exact h
      · refine ih ?_
        split
        · exact keeps_fireDefault h
        · exact keeps_fireImage h
        · exact h
        · exact h
        · split
          · exact h
          · exact keeps_fireAssign h
        · exact keeps_setGen h
        · exact keeps_setGen h
        · exact keeps_fireRecs h

theorem keeps_restamp {σ : State} {s : State} {g : Nat} (hk : Keeps σ s) : Keeps σ (restamp s g) := by
  unfold restamp
  try dsimp only
  repeat' first
    | with_reducible exact hk
    | with_reducible exact Keeps.refl _
    | with_reducible exact id
    | with_reducible apply Keeps.record

theorem keeps_keepAttach {σ : State} {s : State} {old : GenCopy} (hk : Keeps σ s) : Keeps σ (keepAttach s old) := by
  unfold keepAttach
  try dsimp only
  repeat' first
    | with_reducible exact hk
    | with_reducible assumption
    | intro _
    | with_reducible apply Keeps.ite
    | with_reducible apply keeps_setQueue
    | with_reducible apply Keeps.foldl
    | split

theorem keeps_profileShow {σ : State} {s : State} (hk : Keeps σ s) : Keeps σ (profileShow s) := by
  unfold profileShow
  try dsimp only
  repeat' first
    | with_reducible exact hk
    | with_reducible assumption
    | intro _
    | with_reducible apply Keeps.ite
    | with_reducible apply Keeps.forEach
    | with_reducible apply Keeps.wr
    | ((with_reducible show offTime _ = true); rfl)

theorem keeps_flipGen {σ : State} {s : State} {g : Nat} (hk : Keeps σ s) : Keeps σ (flipGen s g) := by
  unfold flipGen
  try dsimp only
  repeat' first
    | with_reducible exact hk
    | with_reducible apply Keeps.ite
    | with_reducible apply Keeps.wrs
    | with_reducible apply keeps_keepAttach
    | with_reducible apply keeps_portsTake
    | with_reducible apply keeps_profileShow
    | with_reducible apply keeps_queuesTake
    | with_reducible apply keeps_restamp
    | ((with_reducible show List.all _ _ = true); rfl)

theorem keeps_fireInstant {σ : State} {s : State} {a : Acc} (hk : Keeps σ s) : Keeps σ (fireInstant s a) := by
  unfold fireInstant
  try dsimp only
  repeat' first
    | with_reducible exact hk
    | with_reducible apply Keeps.ite
    | with_reducible apply keeps_dacPut
    | with_reducible apply keeps_gateApply
    | with_reducible apply keeps_monInApply
    | with_reducible apply keeps_monSiteApply
    | with_reducible apply keeps_nodeApply
    | with_reducible apply keeps_portAdminSet
    | with_reducible apply keeps_profileApply
    | with_reducible apply keeps_pwmPut
    | with_reducible apply keeps_queueApply
    | with_reducible apply keeps_regPut
    | with_reducible apply keeps_saDrop
    | split

theorem keeps_fireInst {σ : State} {l : List (Nat × Machine.Acc × Bool)} :
    ∀ {x : State × Skips}, Keeps σ x.1 → Keeps σ (fireInst l x).1 := by
  induction l with
  | nil => exact fun h => h
  | cons e l ih =>
    obtain ⟨n, a, skip⟩ := e
    intro x h
    unfold fireInst
    split
    · exact ih h
    · split
      · exact ih (keeps_skipItem h)
      · exact ih (keeps_fireInstant h)

theorem keeps_landAudit {σ : State} {s : State} {n : Nat} {st : Status} (hk : Keeps σ s) : Keeps σ (landAudit s n st) := by
  unfold landAudit
  try dsimp only
  repeat' first
    | with_reducible exact hk
    | with_reducible apply keeps_audit

theorem keeps_landFired {σ : State} {s : State} {n : Nat} {skips : Nat} {late : Bool} (hk : Keeps σ s) : Keeps σ (landFired s n skips late) := by
  unfold landFired
  try dsimp only
  repeat' first
    | with_reducible exact hk
    | with_reducible apply Keeps.ite
    | with_reducible apply Keeps.bump
    | with_reducible apply Keeps.wr
    | with_reducible apply keeps_complete
    | with_reducible apply keeps_event
    | with_reducible apply keeps_freeSlot
    | with_reducible apply keeps_landAudit
    | with_reducible apply keeps_perf
    | ((with_reducible show offTime _ = true); rfl)

theorem keeps_fireGroup {σ s : State} {late : Bool} {bad : List (Nat × Nat)} {ns : List Nat} (hk : Keeps σ s) :
    Keeps σ (fireGroup late bad s ns) := by
  unfold fireGroup
  dsimp only
  have h1 := keeps_tevFireDue hk
  refine Keeps.foldl (Keeps.forEach (keeps_fireInst ?_) fun _ _ h => keeps_strobe h fun _ _ _ _ h => keeps_raise h)
    fun _ _ h => keeps_landFired h
  split
  · exact keeps_flipGen (keeps_fireGen (keeps_setGen h1))
  · exact h1

theorem keeps_takeDue {σ : State} {l : List Nat} : ∀ {s : State}, Keeps σ s → Keeps σ (takeDue l s).1 := by
  induction l with
  | nil => exact fun h => h
  | cons n l ih =>
    intro s h
    unfold takeDue
    split
    · exact ih (h.wr rfl)
    · exact ih h

theorem keeps_execLandingFire {σ : State} {bad : List (Nat × Nat)} {s : State} (hk : Keeps σ s) : NextKeeps σ (execLandingFire bad s) := by
  unfold execLandingFire
  try dsimp only
  repeat' first
    | with_reducible apply NextKeeps.mk
    | with_reducible exact hk
    | with_reducible apply Keeps.ite
    | with_reducible apply keeps_fireGroup
    | with_reducible apply keeps_takeDue

theorem keeps_releaseGroups {σ : State} {bad : List (Nat × Nat)} {l : List (List Nat)} :
    ∀ {gen : Bool} {left : List Nat} {s : State}, Keeps σ s → Keeps σ (releaseGroups bad l gen left s) := by
  induction l with
  | nil => exact fun h => h
  | cons ns l ih =>
    intro gen left s h
    unfold releaseGroups
    dsimp only
    split
    · exact ih h
    · exact ih (keeps_fireGroup h)

theorem keeps_releaseWaiting {σ : State} {bad : List (Nat × Nat)} {s : State} (hk : Keeps σ s) : Keeps σ (releaseWaiting bad s) := by
  unfold releaseWaiting
  try dsimp only
  repeat' first
    | with_reducible exact hk
    | with_reducible apply keeps_releaseGroups

theorem keeps_releaseSas {σ : State} {s : State} (hk : Keeps σ s) : Keeps σ (releaseSas s) := by
  unfold releaseSas
  try dsimp only
  repeat' first
    | with_reducible exact hk
    | with_reducible assumption
    | intro _
    | with_reducible apply Keeps.ite
    | with_reducible apply keeps_saDrop
    | with_reducible apply Keeps.foldl

theorem keeps_releaseGals {σ : State} {s : State} (hk : Keeps σ s) : Keeps σ (releaseGals s) := by
  unfold releaseGals
  try dsimp only
  repeat' first
    | with_reducible exact hk
    | with_reducible assumption
    | intro _
    | with_reducible apply Keeps.ite
    | with_reducible apply Keeps.forEach
    | with_reducible apply Keeps.wrs
    | ((with_reducible show List.all _ _ = true); rfl)

theorem keeps_releasePoison {σ : State} {s : State} (hk : Keeps σ s) : Keeps σ (releasePoison s) := by
  unfold releasePoison
  try dsimp only
  repeat' first
    | with_reducible exact hk
    | with_reducible exact filter_wf _ _
    | with_reducible apply Keeps.poison

theorem keeps_drainDone {σ : State} {code : Nat} {bad : List (Nat × Nat)} {s : State} (hk : Keeps σ s) : Keeps σ (drainDone code bad s) := by
  unfold drainDone
  try dsimp only
  repeat' first
    | with_reducible exact hk
    | with_reducible assumption
    | intro _
    | with_reducible apply Keeps.forEach
    | with_reducible apply Keeps.wr
    | with_reducible apply keeps_event
    | with_reducible apply keeps_freeSlot
    | with_reducible apply keeps_releaseGals
    | with_reducible apply keeps_releasePoison
    | with_reducible apply keeps_releaseSas
    | with_reducible apply keeps_releaseWaiting
    | ((with_reducible show offTime _ = true); rfl)

theorem keeps_execGenerationDrained {σ : State} {bad : List (Nat × Nat)} {s : State} (hk : Keeps σ s) : NextKeeps σ (execGenerationDrained bad s) := by
  unfold execGenerationDrained
  try dsimp only
  repeat' first
    | with_reducible apply NextKeeps.mk
    | with_reducible exact hk
    | with_reducible apply Keeps.ite
    | with_reducible apply keeps_drainDone

theorem keeps_markExpired {σ : State} {s : State} {old : Pkt → Bool} (hk : Keeps σ s) : Keeps σ (markExpired s old) := by
  unfold markExpired
  try dsimp only
  repeat' first
    | with_reducible exact hk
    | with_reducible exact Keeps.refl _
    | with_reducible exact id
    | with_reducible apply Keeps.record

theorem keeps_execDrainExpired {σ : State} {bad : List (Nat × Nat)} {s : State} (hk : Keeps σ s) : NextKeeps σ (execDrainExpired bad s) := by
  unfold execDrainExpired
  try dsimp only
  repeat' first
    | with_reducible apply NextKeeps.mk
    | with_reducible exact hk
    | with_reducible apply Keeps.ite
    | with_reducible apply Keeps.bump
    | with_reducible apply keeps_drainDone
    | with_reducible apply keeps_faultC
    | with_reducible apply keeps_markExpired
    | ((with_reducible show offTime _ = true); rfl)

end Sys2Proof
end

