-- ==== Sys2Proof/Laws/KeepsExec.lean ====
section
/-! SUPPORT. That every command of the table, and a tick of the clock, keep the queue, the free values and the canonical form. -/

namespace Sys2Proof

open Sys2Proof.Machine

/-- Every command but the two that set local time answers a state that keeps all. -/
theorem keeps_exec (i : Instr) (s : State) (h1 : ∀ strap, i ≠ .porRelease strap) (h2 : ∀ r, i ≠ .timeStep r) :
    NextKeeps s (exec i s) := by
  cases i with
  | porRelease strap => exact absurd rfl (h1 strap)
  | resetNRise strap fuseOk katOk => exact @keeps_execResetNRise s strap fuseOk katOk s (Keeps.refl s)
  | warmReset => exact @keeps_execWarmReset s s (Keeps.refl s)
  | hostReset kind => exact @keeps_execHostReset s kind s (Keeps.refl s)
  | d3hotEntry => exact @keeps_execD3hotEntry s s (Keeps.refl s)
  | perstRelease => exact @keeps_execPerstRelease s s (Keeps.refl s)
  | pgFall p => exact @keeps_execPgFall s p s (Keeps.refl s)
  | pgWaitTimeout pg => exact @keeps_execPgWaitTimeout s pg s (Keeps.refl s)
  | refclkLineLoss j => exact @keeps_execRefclkLineLoss s j s (Keeps.refl s)
  | refclkCoreLoss => exact @keeps_execRefclkCoreLoss s s (Keeps.refl s)
  | pcieRefclkLoss => exact @keeps_execPcieRefclkLoss s s (Keeps.refl s)
  | fwSlotReadDone slot readOk => exact @keeps_execFwSlotReadDone s slot readOk s (Keeps.refl s)
  | ceilStoreOpen okA okB => exact @keeps_execCeilStoreOpen s okA okB s (Keeps.refl s)
  | corePllLock pg refs => exact @keeps_execCorePllLock s pg refs s (Keeps.refl s)
  | corePllTimeout => exact @keeps_execCorePllTimeout s s (Keeps.refl s)
  | sramFillDone => exact @keeps_execSramFillDone s s (Keeps.refl s)
  | dramTrainDone ok => exact @keeps_execDramTrainDone s ok s (Keeps.refl s)
  | dramFillDone => exact @keeps_execDramFillDone s s (Keeps.refl s)
  | siBootLoadDone readOk => exact @keeps_execSiBootLoadDone s readOk s (Keeps.refl s)
  | mmioWriteDrop bar2 offset width v => exact @keeps_execMmioWriteDrop s bar2 offset width v s (Keeps.refl s)
  | mmioAllOnesRead bar2 offset width uncorr => exact @keeps_execMmioAllOnesRead s bar2 offset width uncorr s (Keeps.refl s)
  | counterHalfRead offset => exact @keeps_execCounterHalfRead s offset s (Keeps.refl s)
  | timNowRead => exact @keeps_execTimNowRead s s (Keeps.refl s)
  | vstOpen msg => exact @keeps_execVstOpen s msg s (Keeps.refl s)
  | vstProve msg => exact @keeps_execVstProve s msg s (Keeps.refl s)
  | vstEnrol msg => exact @keeps_execVstEnrol s msg s (Keeps.refl s)
  | vstAbandon => exact @keeps_execVstAbandon s s (Keeps.refl s)
  | vstTimeout => exact @keeps_execVstTimeout s s (Keeps.refl s)
  | lockoutExpire role => exact @keeps_execLockoutExpire s role s (Keeps.refl s)
  | sessionIdleTimeout h => exact @keeps_execSessionIdleTimeout s h s (Keeps.refl s)
  | returnWindowExpire => exact @keeps_execReturnWindowExpire s s (Keeps.refl s)
  | cryptoSelftestFail => exact @keeps_execCryptoSelftestFail s s (Keeps.refl s)
  | sqDoorbell r idx es => exact @keeps_execSqDoorbell s r idx es s (Keeps.refl s)
  | cqDoorbell r idx => exact @keeps_execCqDoorbell s r idx s (Keeps.refl s)
  | ringGeometryWrite r reg v => exact @keeps_execRingGeometryWrite s r reg v s (Keeps.refl s)
  | evqHeadDoorbell q idx => exact @keeps_execEvqHeadDoorbell s q idx s (Keeps.refl s)
  | puntRxDoorbell p idx => exact @keeps_execPuntRxDoorbell s p idx s (Keeps.refl s)
  | puntTxDoorbell p idx => exact @keeps_execPuntTxDoorbell s p idx s (Keeps.refl s)
  | puntFromHost p d ok => exact @keeps_execPuntFromHost s p d ok s (Keeps.refl s)
  | ringIrqTimeout r => exact @keeps_execRingIrqTimeout s r s (Keeps.refl s)
  | evqIrqTimeout q => exact @keeps_execEvqIrqTimeout s q s (Keeps.refl s)
  | puntIrqTimeout p fromHost => exact @keeps_execPuntIrqTimeout s p fromHost s (Keeps.refl s)
  | ringFetchError r tag => exact @keeps_execRingFetchError s r tag s (Keeps.refl s)
  | ringCqWriteError r => exact @keeps_execRingCqWriteError s r s (Keeps.refl s)
  | opcodeUnassigned r => exact @keeps_execOpcodeUnassigned s r s (Keeps.refl s)
  | nop r => exact @keeps_execNop s r s (Keeps.refl s)
  | regWrite r => exact @keeps_execRegWrite s r s (Keeps.refl s)
  | regRead r uncorr => exact @keeps_execRegRead s r uncorr s (Keeps.refl s)
  | fence r => exact @keeps_execFence s r s (Keeps.refl s)
  | fenceRelease r => exact @keeps_execFenceRelease s r s (Keeps.refl s)
  | barrier r => exact @keeps_execBarrier s r s (Keeps.refl s)
  | barrierTimeout id h => exact @keeps_execBarrierTimeout s id h s (Keeps.refl s)
  | evqSetup r => exact @keeps_execEvqSetup s r s (Keeps.refl s)
  | evqClose r => exact @keeps_execEvqClose s r s (Keeps.refl s)
  | puntSetup r => exact @keeps_execPuntSetup s r s (Keeps.refl s)
  | sessionInfo r => exact @keeps_execSessionInfo s r s (Keeps.refl s)
  | sessionClose r => exact @keeps_execSessionClose s r s (Keeps.refl s)
  | ringBind r => exact @keeps_execRingBind s r s (Keeps.refl s)
  | opkeySet r => exact @keeps_execOpkeySet s r s (Keeps.refl s)
  | opkeyRevoke r => exact @keeps_execOpkeyRevoke s r s (Keeps.refl s)
  | instcredSet r => exact @keeps_execInstcredSet s r s (Keeps.refl s)
  | instcredRevoke r => exact @keeps_execInstcredRevoke s r s (Keeps.refl s)
  | lcTransition r b => exact @keeps_execLcTransition s r b s (Keeps.refl s)
  | returnApprove r => exact @keeps_execReturnApprove s r s (Keeps.refl s)
  | zeroize r b => exact @keeps_execZeroize s r b s (Keeps.refl s)
  | zeroizePin b => exact @keeps_execZeroizePin s b s (Keeps.refl s)
  | auditExport r => exact @keeps_execAuditExport s r s (Keeps.refl s)
  | attest r => exact @keeps_execAttest s r s (Keeps.refl s)
  | fwWrite r => exact @keeps_execFwWrite s r s (Keeps.refl s)
  | fwRestart r => exact @keeps_execFwRestart s r s (Keeps.refl s)
  | fwRestartTimeout => exact @keeps_execFwRestartTimeout s s (Keeps.refl s)
  | fwCommit r => exact @keeps_execFwCommit s r s (Keeps.refl s)
  | timeRate r => exact @keeps_execTimeRate s r s (Keeps.refl s)
  | timeStep r => exact absurd rfl (h2 r)
  | timeRearm r => exact @keeps_execTimeRearm s r s (Keeps.refl s)
  | tevArm r => exact @keeps_execTevArm s r s (Keeps.refl s)
  | tevStop r => exact @keeps_execTevStop s r s (Keeps.refl s)
  | tevFire n => exact @keeps_execTevFire s n s (Keeps.refl s)
  | timeWatchdogExpire => exact @keeps_execTimeWatchdogExpire s s (Keeps.refl s)
  | ppsInEdge => exact @keeps_execPpsInEdge s s (Keeps.refl s)
  | ppsInTimeout => exact @keeps_execPpsInTimeout s s (Keeps.refl s)
  | ppsOutPulseEnd => exact @keeps_execPpsOutPulseEnd s s (Keeps.refl s)
  | rclkSourceLost out => exact @keeps_execRclkSourceLost s out s (Keeps.refl s)
  | landingOpen r => exact @keeps_execLandingOpen s r s (Keeps.refl s)
  | landingSubmit r => exact @keeps_execLandingSubmit s r s (Keeps.refl s)
  | landingCancel r => exact @keeps_execLandingCancel s r s (Keeps.refl s)
  | landingQuery r => exact @keeps_execLandingQuery s r s (Keeps.refl s)
  | landingFire bad => exact @keeps_execLandingFire s bad s (Keeps.refl s)
  | generationDrained bad => exact @keeps_execGenerationDrained s bad s (Keeps.refl s)
  | drainExpired bad => exact @keeps_execDrainExpired s bad s (Keeps.refl s)
  | clipWindowEnd l count => exact @keeps_execClipWindowEnd s l count s (Keeps.refl s)
  | sliceFail l j => exact @keeps_execSliceFail s l j s (Keeps.refl s)
  | sliceSwap l => exact @keeps_execSliceSwap s l s (Keeps.refl s)
  | cdrLockLoss l abandoned temp live1ms => exact @keeps_execCdrLockLoss s l abandoned temp live1ms s (Keeps.refl s)
  | qualUpdate l snr pmLow minSc minScSnr => exact @keeps_execQualUpdate s l snr pmLow minSc minScSnr s (Keeps.refl s)
  | rxCaptureStart l => exact @keeps_execRxCaptureStart s l s (Keeps.refl s)
  | rxCaptureDone l bins => exact @keeps_execRxCaptureDone s l bins s (Keeps.refl s)
  | lossOfSignal l => exact @keeps_execLossOfSignal s l s (Keeps.refl s)
  | wakeFrameRx l bits => exact @keeps_execWakeFrameRx s l bits s (Keeps.refl s)
  | sheafWakeActivity l => exact @keeps_execSheafWakeActivity s l s (Keeps.refl s)
  | holdTrigger l stepDb abandoned temp live1ms => exact @keeps_execHoldTrigger s l stepDb abandoned temp live1ms s (Keeps.refl s)
  | holdFastReturn l snr => exact @keeps_execHoldFastReturn s l snr s (Keeps.refl s)
  | holdFastTimeout l => exact @keeps_execHoldFastTimeout s l s (Keeps.refl s)
  | holdFullReturn l => exact @keeps_execHoldFullReturn s l s (Keeps.refl s)
  | holdFail l training => exact @keeps_execHoldFail s l training s (Keeps.refl s)
  | rxBankStore l temp => exact @keeps_execRxBankStore s l temp s (Keeps.refl s)
  | rxBankDiscard l => exact @keeps_execRxBankDiscard s l s (Keeps.refl s)
  | synthCalDone sh => exact @keeps_execSynthCalDone s sh s (Keeps.refl s)
  | synthLocked sh lockUs => exact @keeps_execSynthLocked s sh lockUs s (Keeps.refl s)
  | synthAttemptTimeout sh => exact @keeps_execSynthAttemptTimeout s sh s (Keeps.refl s)
  | synthLockLost sh refPresent => exact @keeps_execSynthLockLost s sh refPresent s (Keeps.refl s)
  | synthRefReturn sh => exact @keeps_execSynthRefReturn s sh s (Keeps.refl s)
  | txEnable r => exact @keeps_execTxEnable s r s (Keeps.refl s)
  | txEnableTimeout r tag => exact @keeps_execTxEnableTimeout s r tag s (Keeps.refl s)
  | wakeSend r => exact @keeps_execWakeSend s r s (Keeps.refl s)
  | wakeSendDurationEnd l frames => exact @keeps_execWakeSendDurationEnd s l frames s (Keeps.refl s)
  | wakeSendPartner l frames => exact @keeps_execWakeSendPartner s l frames s (Keeps.refl s)
  | txTrainingTimeout l => exact @keeps_execTxTrainingTimeout s l s (Keeps.refl s)
  | txShapeApply l => exact @keeps_execTxShapeApply s l s (Keeps.refl s)
  | txBoundaryUpdate l blks => exact @keeps_execTxBoundaryUpdate s l blks s (Keeps.refl s)
  | laneMode r => exact @keeps_execLaneMode s r s (Keeps.refl s)
  | laneRestart r => exact @keeps_execLaneRestart s r s (Keeps.refl s)
  | formatFound l f => exact @keeps_execFormatFound s l f s (Keeps.refl s)
  | acqTimeout l envelope => exact @keeps_execAcqTimeout s l envelope s (Keeps.refl s)
  | backoffExpire l => exact @keeps_execBackoffExpire s l s (Keeps.refl s)
  | listenActivity l => exact @keeps_execListenActivity s l s (Keeps.refl s)
  | hello l h b => exact @keeps_execHello s l h b s (Keeps.refl s)
  | report l h snr nativeOk maxTier => exact @keeps_execReport s l h snr nativeOk maxTier s (Keeps.refl s)
  | shapeReq l h iter taps lut => exact @keeps_execShapeReq s l h iter taps lut s (Keeps.refl s)
  | shapeAck l h iter accept => exact @keeps_execShapeAck s l h iter accept s (Keeps.refl s)
  | shapeDone l h snr => exact @keeps_execShapeDone s l h snr s (Keeps.refl s)
  | bits l h seg tier b => exact @keeps_execBits s l h seg tier b s (Keeps.refl s)
  | switch l h last format tier => exact @keeps_execSwitch s l h last format tier s (Keeps.refl s)
  | abort l h reason => exact @keeps_execAbort s l h reason s (Keeps.refl s)
  | idle l h => exact @keeps_execIdle s l h s (Keeps.refl s)
  | probeComplete l snr maxTier => exact @keeps_execProbeComplete s l snr maxTier s (Keeps.refl s)
  | shapeMeasureDone l snr => exact @keeps_execShapeMeasureDone s l snr s (Keeps.refl s)
  | loadMeasureDone l b => exact @keeps_execLoadMeasureDone s l b s (Keeps.refl s)
  | trainPhaseTimeout l => exact @keeps_execTrainPhaseTimeout s l s (Keeps.refl s)
  | trainTotalTimeout l => exact @keeps_execTrainTotalTimeout s l s (Keeps.refl s)
  | confirmWindowEnd l cws symErrs uncorrs trainUs => exact @keeps_execConfirmWindowEnd s l cws symErrs uncorrs trainUs s (Keeps.refl s)
  | alignmentMarkerRx l m uncorr skew => exact @keeps_execAlignmentMarkerRx s l m uncorr skew s (Keeps.refl s)
  | fecLock l held => exact @keeps_execFecLock s l held s (Keeps.refl s)
  | fecLockLoss l abandoned temp live1ms => exact @keeps_execFecLockLoss s l abandoned temp live1ms s (Keeps.refl s)
  | codewordDecoded l c => exact @keeps_execCodewordDecoded s l c s (Keeps.refl s)
  | fecWindowEnd l => exact @keeps_execFecWindowEnd s l s (Keeps.refl s)
  | fecCounterClear l => exact @keeps_execFecCounterClear s l s (Keeps.refl s)
  | macRxFrame p f => exact @keeps_execMacRxFrame s p f s (Keeps.refl s)
  | macTxFrame p pkt => exact @keeps_execMacTxFrame s p pkt s (Keeps.refl s)
  | pfcFrameRx p quanta => exact @keeps_execPfcFrameRx s p quanta s (Keeps.refl s)
  | pfcPauseExpire p cls => exact @keeps_execPfcPauseExpire s p cls s (Keeps.refl s)
  | pfcRefresh p cls => exact @keeps_execPfcRefresh s p cls s (Keeps.refl s)
  | remoteFaultRx p on => exact @keeps_execRemoteFaultRx s p on s (Keeps.refl s)
  | mkpduRx p m => exact @keeps_execMkpduRx s p m s (Keeps.refl s)
  | mkaHelloTimer p => exact @keeps_execMkaHelloTimer s p s (Keeps.refl s)
  | mkaLifeExpire p peerSci => exact @keeps_execMkaLifeExpire s p peerSci s (Keeps.refl s)
  | portAdmin r => exact @keeps_execPortAdmin s r s (Keeps.refl s)
  | portClr r => exact @keeps_execPortClr s r s (Keeps.refl s)
  | mscChanSet r => exact @keeps_execMscChanSet s r s (Keeps.refl s)
  | mscChanDel r => exact @keeps_execMscChanDel s r s (Keeps.refl s)
  | mscTxAn r => exact @keeps_execMscTxAn s r s (Keeps.refl s)
  | mscRxRetire r => exact @keeps_execMscRxRetire s r s (Keeps.refl s)
  | mkaSet r => exact @keeps_execMkaSet s r s (Keeps.refl s)
  | mkaDel r => exact @keeps_execMkaDel s r s (Keeps.refl s)
  | cakInstall r => exact @keeps_execCakInstall s r s (Keeps.refl s)
  | cakDelete r => exact @keeps_execCakDelete s r s (Keeps.refl s)
  | siOpen r => exact @keeps_execSiOpen s r s (Keeps.refl s)
  | siFlashReadDone readOk => exact @keeps_execSiFlashReadDone s readOk s (Keeps.refl s)
  | siPut r => exact @keeps_execSiPut s r s (Keeps.refl s)
  | siClose r => exact @keeps_execSiClose s r s (Keeps.refl s)
  | siAbort r => exact @keeps_execSiAbort s r s (Keeps.refl s)
  | galAssign r => exact @keeps_execGalAssign s r s (Keeps.refl s)
  | siSlotWrite r => exact @keeps_execSiSlotWrite s r s (Keeps.refl s)
  | siSlotActive r readOk => exact @keeps_execSiSlotActive s r readOk s (Keeps.refl s)
  | siKeySet r => exact @keeps_execSiKeySet s r s (Keeps.refl s)
  | siSvnCommit r => exact @keeps_execSiSvnCommit s r s (Keeps.refl s)
  | switchMarkerRx h sh => exact @keeps_execSwitchMarkerRx s h sh s (Keeps.refl s)
  | switchHoldTimeout h sh => exact @keeps_execSwitchHoldTimeout s h sh s (Keeps.refl s)
  | galleryEntry g pkt look => exact @keeps_execGalleryEntry s g pkt look s (Keeps.refl s)
  | granaryResponse g pkt ns uncorr again => exact @keeps_execGranaryResponse s g pkt ns uncorr again s (Keeps.refl s)
  | lookupTimeout g pkt => exact @keeps_execLookupTimeout s g pkt s (Keeps.refl s)
  | ingressFlightEnd g pkt f => exact @keeps_execIngressFlightEnd s g pkt f s (Keeps.refl s)
  | egressFlightEnd g pkt f => exact @keeps_execEgressFlightEnd s g pkt f s (Keeps.refl s)
  | reorderRelease g pkt => exact @keeps_execReorderRelease s g pkt s (Keeps.refl s)
  | galleryFail g => exact @keeps_execGalleryFail s g s (Keeps.refl s)
  | tblInsert r => exact @keeps_execTblInsert s r s (Keeps.refl s)
  | tblModify r => exact @keeps_execTblModify s r s (Keeps.refl s)
  | tblDelete r => exact @keeps_execTblDelete s r s (Keeps.refl s)
  | tblBulk r => exact @keeps_execTblBulk s r s (Keeps.refl s)
  | tblDefault r => exact @keeps_execTblDefault s r s (Keeps.refl s)
  | tblRead r => exact @keeps_execTblRead s r s (Keeps.refl s)
  | tblCntRead r => exact @keeps_execTblCntRead s r s (Keeps.refl s)
  | tblCntClear r => exact @keeps_execTblCntClear s r s (Keeps.refl s)
  | tblClear r => exact @keeps_execTblClear s r s (Keeps.refl s)
  | tblRepair r => exact @keeps_execTblRepair s r s (Keeps.refl s)
  | counterWriteback d index uncorr => exact @keeps_execCounterWriteback s d index uncorr s (Keeps.refl s)
  | hallAdmit h pkt siloBusy => exact @keeps_execHallAdmit s h pkt siloBusy s (Keeps.refl s)
  | hallDequeue h q uncorr look => exact @keeps_execHallDequeue s h q uncorr look s (Keeps.refl s)
  | gateEntryAdvance p => exact @keeps_execGateEntryAdvance s p s (Keeps.refl s)
  | tmInternalError h => exact @keeps_execTmInternalError s h s (Keeps.refl s)
  | tmgQSet r => exact @keeps_execTmgQSet s r s (Keeps.refl s)
  | tmgNodeSet r => exact @keeps_execTmgNodeSet s r s (Keeps.refl s)
  | tmgProfileSet r => exact @keeps_execTmgProfileSet s r s (Keeps.refl s)
  | tmgGateSet r => exact @keeps_execTmgGateSet s r s (Keeps.refl s)
  | tmgReplSet r => exact @keeps_execTmgReplSet s r s (Keeps.refl s)
  | tmgRead r => exact @keeps_execTmgRead s r s (Keeps.refl s)
  | tmgQFlush r => exact @keeps_execTmgQFlush s r s (Keeps.refl s)
  | engineArrive k => exact @keeps_execEngineArrive s k s (Keeps.refl s)
  | engineLeave k => exact @keeps_execEngineLeave s k s (Keeps.refl s)
  | idMeasure k mv => exact @keeps_execIdMeasure s k mv s (Keeps.refl s)
  | dacClrAssert => exact @keeps_execDacClrAssert s s (Keeps.refl s)
  | dacClrRelease => exact @keeps_execDacClrRelease s s (Keeps.refl s)
  | dacLoadPin => exact @keeps_execDacLoadPin s s (Keeps.refl s)
  | deglitchHoldEnd k c => exact @keeps_execDeglitchHoldEnd s k c s (Keeps.refl s)
  | pwmPeriodStart k => exact @keeps_execPwmPeriodStart s k s (Keeps.refl s)
  | alsPersistExpire l => exact @keeps_execAlsPersistExpire s l s (Keeps.refl s)
  | alsPeriodExpire l => exact @keeps_execAlsPeriodExpire s l s (Keeps.refl s)
  | alsPulseExpire l => exact @keeps_execAlsPulseExpire s l s (Keeps.refl s)
  | alsRecover l => exact @keeps_execAlsRecover s l s (Keeps.refl s)
  | siteRelease r => exact @keeps_execSiteRelease s r s (Keeps.refl s)
  | siteHold r => exact @keeps_execSiteHold s r s (Keeps.refl s)
  | dacSet r => exact @keeps_execDacSet s r s (Keeps.refl s)
  | dacLoad r => exact @keeps_execDacLoad s r s (Keeps.refl s)
  | pwmSet r => exact @keeps_execPwmSet s r s (Keeps.refl s)
  | ceilWrite r flashOk => exact @keeps_execCeilWrite s r flashOk s (Keeps.refl s)
  | alsRestart r => exact @keeps_execAlsRestart s r s (Keeps.refl s)
  | monPwmTrigger k => exact @keeps_execMonPwmTrigger s k s (Keeps.refl s)
  | monConversionDone k code => exact @keeps_execMonConversionDone s k code s (Keeps.refl s)
  | monSiteSet r => exact @keeps_execMonSiteSet s r s (Keeps.refl s)
  | monSet r => exact @keeps_execMonSet s r s (Keeps.refl s)
  | monConvert r => exact @keeps_execMonConvert s r s (Keeps.refl s)
  | monOwcheck r => exact @keeps_execMonOwcheck s r s (Keeps.refl s)
  | monClear r => exact @keeps_execMonClear s r s (Keeps.refl s)
  | pwrState r => exact @keeps_execPwrState s r s (Keeps.refl s)
  | domainStateDone d => exact @keeps_execDomainStateDone s d s (Keeps.refl s)
  | powerGateTimeout d => exact @keeps_execPowerGateTimeout s d s (Keeps.refl s)
  | padRelease r => exact @keeps_execPadRelease s r s (Keeps.refl s)
  | domainReset r => exact @keeps_execDomainReset s r s (Keeps.refl s)
  | plSet r => exact @keeps_execPlSet s r s (Keeps.refl s)
  | pwrPolicy r => exact @keeps_execPwrPolicy s r s (Keeps.refl s)
  | idlePolicy r => exact @keeps_execIdlePolicy s r s (Keeps.refl s)
  | standby r => exact @keeps_execStandby s r s (Keeps.refl s)
  | idleTimeout d => exact @keeps_execIdleTimeout s d s (Keeps.refl s)
  | powerSample w => exact @keeps_execPowerSample s w s (Keeps.refl s)
  | thermalSample t => exact @keeps_execThermalSample s t s (Keeps.refl s)
  | effLimitStep restore => exact @keeps_execEffLimitStep s restore s (Keeps.refl s)
  | throttleStep raiseW => exact @keeps_execThrottleStep s raiseW s (Keeps.refl s)
  | vrmStepVerify n vout => exact @keeps_execVrmStepVerify s n vout s (Keeps.refl s)
  | pmAlert st => exact @keeps_execPmAlert s st s (Keeps.refl s)
  | vrmSteerEnable n => exact @keeps_execVrmSteerEnable s n s (Keeps.refl s)
  | dramTempSample t => exact @keeps_execDramTempSample s t s (Keeps.refl s)
  | fltPolicy r => exact @keeps_execFltPolicy s r s (Keeps.refl s)
  | escalationWindowExpire rule => exact @keeps_execEscalationWindowExpire s rule s (Keeps.refl s)
  | faultStickyClear id => exact @keeps_execFaultStickyClear s id s (Keeps.refl s)
  | memRetire r => exact @keeps_execMemRetire s r s (Keeps.refl s)
  | retireRowCopyDone n row => exact @keeps_execRetireRowCopyDone s n row s (Keeps.refl s)
  | memLogClear r => exact @keeps_execMemLogClear s r s (Keeps.refl s)
  | mergeBufferExpire n block => exact @keeps_execMergeBufferExpire s n block s (Keeps.refl s)
  | winnowRead found unit block place again progress => exact @keeps_execWinnowRead s found unit block place again progress s (Keeps.refl s)
  | gleanSliceStart t => exact @keeps_execGleanSliceStart s t s (Keeps.refl s)
  | gleanSliceEnd t res => exact @keeps_execGleanSliceEnd s t res s (Keeps.refl s)
  | gleanSliceWatchdog t => exact @keeps_execGleanSliceWatchdog s t s (Keeps.refl s)
  | glnRun r => exact @keeps_execGlnRun s r s (Keeps.refl s)
  | glnRetest r => exact @keeps_execGlnRetest s r s (Keeps.refl s)
  | calRun r => exact @keeps_execCalRun s r s (Keeps.refl s)
  | calStepDone kind t comp inRange temp mv => exact @keeps_execCalStepDone s kind t comp inRange temp mv s (Keeps.refl s)
  | calStepTimeout kind t => exact @keeps_execCalStepTimeout s kind t s (Keeps.refl s)
  | calAutoStart kind t temp => exact @keeps_execCalAutoStart s kind t temp s (Keeps.refl s)
  | calAbort r => exact @keeps_execCalAbort s r s (Keeps.refl s)
  | ageReport r => exact @keeps_execAgeReport s r s (Keeps.refl s)
  | wearAccountWrite shifts needs tj => exact @keeps_execWearAccountWrite s shifts needs tj s (Keeps.refl s)
  | pmuSet r => exact @keeps_execPmuSet s r s (Keeps.refl s)
  | pmuRun r => exact @keeps_execPmuRun s r s (Keeps.refl s)
  | pmuRunSwitch group => exact @keeps_execPmuRunSwitch s group s (Keeps.refl s)
  | pmuCounterWrite n count ovf transit => exact @keeps_execPmuCounterWrite s n count ovf transit s (Keeps.refl s)
  | pmuTagSet r => exact @keeps_execPmuTagSet s r s (Keeps.refl s)
  | traceCtrl r => exact @keeps_execTraceCtrl s r s (Keeps.refl s)
  | bwSet r => exact @keeps_execBwSet s r s (Keeps.refl s)
  | bwClear r => exact @keeps_execBwClear s r s (Keeps.refl s)
  | bwWindowEnd p => exact @keeps_execBwWindowEnd s p s (Keeps.refl s)
  | corridorStart c dir failed skew peak => exact @keeps_execCorridorStart s c dir failed skew peak s (Keeps.refl s)
  | corridorStartTimeout c => exact @keeps_execCorridorStartTimeout s c s (Keeps.refl s)
  | corridorMarkerRx c dir x seen crcOk => exact @keeps_execCorridorMarkerRx s c dir x seen crcOk s (Keeps.refl s)
  | corridorPacketRx c pkt crcOk => exact @keeps_execCorridorPacketRx s c pkt crcOk s (Keeps.refl s)
  | ctrlMsgRetry c dir last => exact @keeps_execCtrlMsgRetry s c dir last s (Keeps.refl s)
  | corridorLaneReplace c dir x => exact @keeps_execCorridorLaneReplace s c dir x s (Keeps.refl s)
  | corridorLaneSwitch c dir => exact @keeps_execCorridorLaneSwitch s c dir s (Keeps.refl s)
  | galleryPeakClear g => exact @keeps_execGalleryPeakClear s g s (Keeps.refl s)
  | pcieConfigRequest q => exact @keeps_execPcieConfigRequest s q s (Keeps.refl s)
  | fwRestartDone => exact @keeps_execFwRestartDone s s (Keeps.refl s)
  | monOwcheckDone k codes => exact @keeps_execMonOwcheckDone s k codes s (Keeps.refl s)
  | signalDetectRestored l => exact @keeps_execSignalDetectRestored s l s (Keeps.refl s)
  | hifRgIrqWrite r v => exact @keeps_execHifRgIrqWrite s r v s (Keeps.refl s)

/-- Every command answers a state that keeps all but local time. -/
theorem keeps0_exec (i : Instr) (s : State) : ∃ t, exec i s = .next t ∧ Keeps0 s t := by
  by_cases h1 : ∃ strap, i = .porRelease strap
  · obtain ⟨strap, rfl⟩ := h1
    exact keeps0_execPorRelease strap s
  · by_cases h2 : ∃ r, i = .timeStep r
    · obtain ⟨r, rfl⟩ := h2
      exact keeps0_execTimeStep r s
    · obtain ⟨t, e, h⟩ := nextKeeps_iff.1 (keeps_exec i s (fun x e => h1 ⟨x, e⟩) (fun x e => h2 ⟨x, e⟩))
      exact ⟨t, e, h.toKeeps0⟩

/-- A tick keeps all but local time. -/
theorem keeps0_tick (s : State) : Keeps0 s (tick s) := by
  unfold tick
  dsimp only
  have h0 : Keeps0 s (setFineTime s (fineTime s + increment s)) := Keeps0.wrs _ s
  refine h0.trans ?_
  generalize setFineTime s (fineTime s + increment s) = u
  have h := keeps_perf (e := perfE 0xF0 1) (Keeps.wr (f := HID.TICKS) (i := 0) (v := rd s HID.TICKS 0 + 1) (Keeps.refl u) rfl)
  revert h
  generalize perf (wr u HID.TICKS 0 (rd s HID.TICKS 0 + 1)) (perfE 0xF0 1) = v
  intro h
  refine Keeps.toKeeps0 (keeps_fetchEvery (keeps_ppsTick (keeps_flushOver ?_)))
  have h2 := Keeps.ite (c := flag s LND_STATUS.OLD_LIVE 0 = true) (keeps_perf (e := perfE 0x13 1) h) h
  exact Keeps.ite (keeps_perf h2) h2

end Sys2Proof
end

