-- ==== Sys2Proof/Tests/Slice0.lean ====
section
/-! SUPPORT. Tests: an ill-formed term for each check of WellFormed, a state and operands that meet the hypotheses of each
statement of Certificates/Slice0/Obligations.lean, and small results worked out by hand from the rules. -/

namespace Sys2Proof.Tests

open Sys2Proof Sys2Proof.Machine

-- One theorem at a time: many kernel evaluations at once need more threads than the limit on memory leaves.
set_option Elab.async false

/-! ## Small states and commands -/

/-- The state after reset with fields written. -/
def st (l : List (Fld × Nat × Nat)) : State := wrs State.reset l

/-- Bring-up has reached READY. -/
def up : List (Fld × Nat × Nat) := [(GLB_BOOT_STAT.STAGE, 0, 3), (GLB_BOOT_STAT.FILL_DONE, 0, 1)]

/-- READY, with fields written. -/
def on (l : List (Fld × Nat × Nat)) : State := st (up ++ l)

/-- n bytes, zero but those named by their place. -/
def bts (n : Nat) (l : List (Nat × Nat)) : List Byte := (List.range n).map (fun i => BitVec.ofNat 8 ((l.lookup i).getD 0))

/-- Payload bytes by their place in the entry (R134): the first is 0x10. -/
def pay (l : List (Nat × Nat)) : List Byte := bts 32 (l.map (fun e => (e.1 - 16, e.2)))

/-- An accepted command of an Installer, session 0. -/
def cmd (op : Nat) (l : List (Nat × Nat)) : Acc :=
  ⟨⟨op, false, false, false, false, 0, 1, 0, 0, 0, pay l, 0, []⟩, 0, 2, 0, 0, false⟩

/-- The same with a pointer buffer of n zero bytes, some of them set. -/
def cmdP (op : Nat) (l : List (Nat × Nat)) (n : Nat) (b : List (Nat × Nat)) : Acc :=
  { cmd op l with cmd := { (cmd op l).cmd with
    ptr := true, buf := bts n b, payload := pay (l ++ [(0x18, n % 256), (0x19, n / 256 % 256), (0x1A, n / 65536)]) } }

/-- The same with a pointer buffer of any bytes; its length stands in the payload already. -/
def withBuf (a : Acc) (b : List Byte) : Acc := { a with cmd := { a.cmd with ptr := true, buf := b } }

theorem ptrOk_withBuf (a : Acc) (b : List Byte) (h1 : leAt a.cmd.payload 0 8 % 8 = 0) (h2 : leAt a.cmd.payload 8 4 = b.length)
    (h3 : 8 ≤ b.length) (h4 : b.length ≤ 2 ^ 24) : ptrOk (withBuf a b).cmd = true := by
  simp [ptrOk, withBuf, h1, h2, h3]
  omega

/-- Ring 0 holds the command at its front. -/
def put (s : State) (a : Acc) : State :=
  setRing s 0 { RingS.init with bound := some 0, size := 1, accepted := [a] }

/-- A ring that is set up and bound to session 0. -/
def rg : RingS := { RingS.init with bound := some 0, size := 0x404 }

/-- A command that waits. -/
def waits (op : Nat) (ds : List Nat) : Run := ⟨0, cmd op [], .waiting ds⟩

/-- A packet of 64 bytes at the entry of port 0's gallery. -/
def pk (n : Nat) : Pkt :=
  { id := n, data := leBytes 64 0, vec := [], gen := 0, loc := .fromMac 0, inPort := 0, outPort := 0, queue := 0, len := 64,
    tc := 0, cls := 0, host := false, pass := 0, order := 0, seq := 0, silo := false, hold := false, hwDrop := 0, enqAt := 0,
    tag := 0, rxTs := 0, sec := 0, secFail := false, resNs := 0, depth := 0, look := 0, res := none }

/-- `Runs` and a hypothesis on the state and the command, in a form that evaluates. -/
abbrev Meets (o : OpSpec) (s : State) (a : Acc) (H : State → Acc → Prop) : Prop :=
  ((ready (put s a) 0 o.op = some a ∧ blockHeld o (put s a) 0 a = false) ∧
    refusal o (popFront (put s a) 0) 0 a = none ∧ a.cmd.stage = false ∧
    (a.woken = true ∨ wakeList o (popFront (put s a) 0) a = []) ∧ o.check (popFront (put s a) 0) a = none) ∧
  H (popFront (put s a) 0) a

theorem meets_runs {o : OpSpec} {s : State} {a : Acc} {H : State → Acc → Prop} (h : Meets o s a H) :
    Runs o (put s a) 0 a ∧ H (popFront (put s a) 0) a := h

/-- A copy of an image: one table of each kind, ports 0 and 511, queues 5 and 1048575, sheaf 63 served by gallery 67. -/
def img : GenCopy :=
  { GenCopy.empty with
    regions := [((256, 0), ⟨0, [], 0, []⟩)]
    tables := [((1, 0), ⟨1, 4, 0, 64, 8, 0, []⟩), ((2, 0), ⟨2, 4, 0, 64, 16, 0, []⟩), ((3, 0), ⟨3, 4, 0, 64, 64, 0, []⟩),
      ((255, 0), ⟨4, 4, 0, 64, 8, 0, []⟩)]
    entries := [⟨1, bytesOf [10, 0, 0, 0], [], 8, 0, 3, [], none, false⟩, ⟨3, bytesOf [1, 2, 3, 4], bytesOf [255, 255, 255, 255], 0, 7, 3, [], none, false⟩]
    cntN := 16
    ports := [((0, 0), ⟨1, 1⟩), ((511, 0), ⟨1, 1⟩)]
    queues := [((5, 0), .port 0), ((1048575, 0), .port 511)]
    assign := [((0, 0), 0), ((63, 0), 67)] }

/-- READY, with an image in force and fields written. -/
def onI (l : List (Fld × Nat × Nat)) : State := { on l with gen0 := img }

/-- The same with landing 5 open in slot 63. -/
def onL (l : List (Fld × Nat × Nat)) : State := onI ([(LND_SLOT.STATE, 63, 1), (LND_SLOT.ID, 63, 5)] ++ l)

/-- The command with STAGE set, for landing 5. -/
def staged (a : Acc) : Acc := { a with cmd := { a.cmd with stage := true, landing := 5 } }

/-- `StageRuns` in a form that evaluates. -/
abbrev MeetsStage (o : OpSpec) (s : State) (a : Acc) : Prop :=
  (ready (put s a) 0 o.op = some a ∧ blockHeld o (put s a) 0 a = false) ∧ refusal o (popFront (put s a) 0) 0 a = none ∧
    a.cmd.stage = true ∧ (stageCheck o (popFront (put s a) 0) a = none ∧
      (a.woken = true ∨ wakeList o (popFront (put s a) 0) a = [])) ∧ o.check (popFront (put s a) 0) a = none

theorem meets_stages {o : OpSpec} {s : State} {a : Acc} (h : MeetsStage o s a) : StageRuns o (put s a) 0 a := h

/-- A packet of 64 bytes in a place. -/
def pkAt (n : Nat) (l : Loc) : Pkt := { pk n with loc := l }

/-- Lane 511 is LIVE in format f. -/
def sending (f : Nat) : State := on [(SHF_LANE_STAT.STATE, 511, 4), (SHF_LANE_STAT.FORMAT, 511, f)]

/-- Lane 511 trains in phase p. -/
def training (p : Nat) (l : List (Fld × Nat × Nat)) : State :=
  on ([(SHF_LANE_STAT.STATE, 511, 3), (SHF_LANE_STAT.PHASE, 511, p)] ++ l)

/-- The header of a valid frame around a message and its body. -/
def hdr (seq msg : Nat) (body : List Byte) : TrnHdr :=
  ⟨BitVec.ofNat 64 trnMarker, 1, 0, 0, seq, 7, [], BitVec.ofNat 32 (crc32 (trnCore 1 0 0 seq 7 msg body []))⟩

theorem hdr_valid (seq msg : Nat) (body : List Byte) : trnValid (hdr seq msg body) msg body = true :=
  trnValid_of_crc _ _ _ rfl rfl

/-- Taps and look-up entries that change nothing. -/
def noShape : List Int × List Int := (List.replicate 3 0 ++ [256] ++ List.replicate 11 0, List.replicate 64 0)

/-- What a flight leaves where nothing is decided. -/
def fr : FlightResult :=
  ⟨0, 0, false, false, 0, 0, false, none, 5, 0, 0, [], 64, 0, 0, [], [], [], [], true⟩

/-- A flight whose program does nothing. -/
def fl : Flight := ⟨[], [], [], 0, false, 0, [], [], [], true⟩

/-- A flight whose one operation sets a container of the Result fields. -/
def flSet (c v : Nat) : Flight := { fl with steps := [⟨[], [], [⟨.set, [(.imm v, .imm 0, c)], 0, .always, none, none⟩]⟩] }

/-- A packet the drain's end has marked for its next step. -/
def pkOld (n : Nat) (l : Loc) : Pkt := { pkAt n l with hwDrop := 0x17 }
/-! ## States and operands that meet the hypotheses of the statements -/

theorem meets_StepRunsTheFrontCommand_1 : ({ State.reset with pending := [.timNowRead, .warmReset] }).pending = .timNowRead :: [.warmReset] := rfl

theorem hyp_EmptyQueueStepIsOneTick :
    (State.reset.pending = [] ∧ flag State.reset HID.POR_DONE 0 = false) ∧
    ((st [(HID.POR_DONE, 0, 1), (TIM_INCR.BASE, 0, 1407374883553)]).pending = [] ∧
      flag (st [(HID.POR_DONE, 0, 1), (TIM_INCR.BASE, 0, 1407374883553)]) HID.POR_DONE 0 = true ∧
      fineTime (st [(HID.POR_DONE, 0, 1), (TIM_NOW.SEC, 0, 281474976710655), (TIM_NOW.NS, 0, 999999998), (TIM_INCR.BASE, 0, 1407374883553)])
        + increment (st [(TIM_INCR.BASE, 0, 1407374883553)]) < 2 ^ 48 * (1000000000 * 1099511627776)) := by
  decide +kernel

theorem meets_EveryStepKeepsTheTablesCanonical_1 : ∃ t, Canonical { State.reset with pending := [.timNowRead] } = true ∧
  step { State.reset with pending := [.timNowRead] } = .next t := ⟨_, by decide +kernel, rfl⟩

theorem meets_LocalTimeNeverRunsBackward_1 : ∃ t, fineTime { st [(TIM_NOW.SEC, 0, 140737488355327)] with pending := [.timNowRead] } < 2 ^ 47 * (1000000000 * 1099511627776) ∧
  increment { st [(TIM_NOW.SEC, 0, 140737488355327)] with pending := [.timNowRead] } < 2 ^ 64 ∧
  (∀ strap rest, ([.timNowRead] : List Instr) ≠ .porRelease strap :: rest) ∧
  step { st [(TIM_NOW.SEC, 0, 140737488355327)] with pending := [.timNowRead] } = .next t :=
  ⟨_, by decide +kernel, by decide +kernel, fun _ _ h => by simp at h, rfl⟩

theorem hyp_FieldsReadBackAndLeaveOthersAlone :
    (Canonical (st [(TIM_NOW.SEC, 0, 3)]) = true) := by
  decide +kernel

theorem hyp_CountersWrapOrHoldByTheirKind :
    (rd (st [(PMU_CTR.COUNT, 511, 281474976710654)]) PMU_CTR.COUNT 511 + 1 < 2 ^ 48) ∧
    (511 < 512 ∧ 2 ^ 48 ≤ rd (st [(PMU_CTR.COUNT, 511, 281474976710655)]) PMU_CTR.COUNT 511 + 1) ∧
    (2 ^ PRT_MAC_ERR.RUNT.w - 1 ≤ rd (on [(PRT_MAC_ERR.RUNT, 511, 2 ^ PRT_MAC_ERR.RUNT.w - 2)]) PRT_MAC_ERR.RUNT 511 + 1 ∧
      2 ^ PRT_MAC_CNT.RX_FRAMES.w ≤ rd (on [(PRT_MAC_CNT.RX_FRAMES, 511, 2 ^ PRT_MAC_CNT.RX_FRAMES.w - 1)]) PRT_MAC_CNT.RX_FRAMES 511 + 1) := by
  decide +kernel

theorem hyp_RefusedCommandsHaveNoEffect_1 :
    (ready (put { onL [(PWR_DOM.STATE, sheafDom 63, 2)] with running := [⟨0, cmd 0x50 [(0x10, 63)], .waking [sheafDom 63]⟩] }
        (cmd 0x51 [(0x10, 63)])) 0 opLaneRestart.op = some (cmd 0x51 [(0x10, 63)]) ∧
      blockHeld opLaneRestart (put { onL [(PWR_DOM.STATE, sheafDom 63, 2)] with running :=
        [⟨0, cmd 0x50 [(0x10, 63)], .waking [sheafDom 63]⟩] } (cmd 0x51 [(0x10, 63)])) 0 (cmd 0x51 [(0x10, 63)]) = true) ∧
    (refusal opPwmSet (popFront (put (onL []) (staged (cmd 0x84 [(0x10, 63)]))) 0) 0 (staged (cmd 0x84 [(0x10, 63)])) = none ∧
      blockHeld opPwmSet (put (onL []) (staged (cmd 0x84 [(0x10, 63)]))) 0 (staged (cmd 0x84 [(0x10, 63)])) = false ∧
      stageCheck opPwmSet (popFront (put (onL []) (staged (cmd 0x84 [(0x10, 63)]))) 0) (staged (cmd 0x84 [(0x10, 63)])) = none ∧
      (opPwmSet.check (popFront (put (onL []) (staged (cmd 0x84 [(0x10, 63)]))) 0) (staged (cmd 0x84 [(0x10, 63)]))).isSome = true) ∧
    (ready (on []) 0 opNop.op = none) ∧
    (ready (put (on []) (cmd 0xC2 [])) 0 opNop.op = none) ∧
    (ready (put (on []) { cmd 0 [] with cmd := { (cmd 0 []).cmd with rsvd := 15 } }) 0 opNop.op =
        some { cmd 0 [] with cmd := { (cmd 0 []).cmd with rsvd := 15 } } ∧
      refusal opNop (popFront (put (on []) { cmd 0 [] with cmd := { (cmd 0 []).cmd with rsvd := 15 } }) 0) 0
        { cmd 0 [] with cmd := { (cmd 0 []).cmd with rsvd := 15 } } = some ⟨.invalid, 0, none, false⟩) := by
  decide +kernel

theorem hyp_RefusedCommandsHaveNoEffect_2 :
    (refusal opNop (popFront (put (on []) { cmd 0 [] with cmd := { (cmd 0 []).cmd with stage := true } }) 0) 0
        { cmd 0 [] with cmd := { (cmd 0 []).cmd with stage := true } } = none ∧
      stageCheck opNop (popFront (put (on []) { cmd 0 [] with cmd := { (cmd 0 []).cmd with stage := true } }) 0)
        { cmd 0 [] with cmd := { (cmd 0 []).cmd with stage := true } } = some ⟨.invalid, 0, none, false⟩) ∧
    (refusal opTimeStep (popFront (put (on [(TIM_STATUS.STEP_ARMED, 0, 0)]) (cmd 0xC1 [])) 0) 0 (cmd 0xC1 []) = none ∧
      blockHeld opTimeStep (put (on [(TIM_STATUS.STEP_ARMED, 0, 0)]) (cmd 0xC1 [])) 0 (cmd 0xC1 []) = false ∧
      opTimeStep.check (popFront (put (on [(TIM_STATUS.STEP_ARMED, 0, 0)]) (cmd 0xC1 [])) 0) (cmd 0xC1 []) = some ⟨.invalid, 0, none, false⟩) ∧
    (isSafe (st [(FLT_SUMMARY.FATAL, 0, 1)]) = true ∧ safeOp opTimeStep.op = false) ∧
    (isSafe (on []) = false ∧ rd (on []) GLB_BOOT_STAT.STAGE 0 ≠ 8 ∧ (cmd 0 []).cmd.rsvd = 0 ∧
      ((cmd 0 []).cmd.stage = true ∨ (cmd 0 []).cmd.landing = 0) ∧
      (opNop.ptr = 2 ∨ (cmd 0 []).cmd.ptr = decide (opNop.ptr = 1)) ∧ ((cmd 0 []).cmd.ptr = true → ptrOk (cmd 0 []).cmd = true) ∧
      dupTag { on [] with running := [⟨0, cmd 3 [], .waiting []⟩] } 0 (cmd 0 []) = true) ∧
    ((ringOf (on []) 0).resumed = [] ∧ ∃ x ∈ [(⟨0, cmd 3 [], .waiting []⟩ : Run)], x.ring = 0 ∧ (x.acc.cmd.opcode = 3 ∨ x.acc.cmd.opcode = 4)) := by
  decide +kernel

theorem meets_RefusedCommandsHaveNoEffect_1 : OpcodeRow (.nop, opNop) := Or.inl List.mem_cons_self

theorem hyp_CompletionsTouchOnlyTheirRing :
    (({ cmd 0 [] with role := 1 }).role < 2 ∧ (∀ x ∈ (put (on []) (cmd 0 [])).running, x.acc.cmd.opcode ≠ 4) ∧
      (ringOf (put (on []) (cmd 0 [])) 0).discard = false ∧ (ringOf (put (on []) (cmd 0 [])) 0).draining = false ∧
      (ringOf (put (on []) (cmd 0 [])) 0).cqWait = [] ∧ flag (put (on []) (cmd 0 [])) HID.D3HOT 0 = false ∧
      flag (put (on [(HID.D3HOT, 0, 1)]) (cmd 0 [])) HID.D3HOT 0 = true) ∧
    ((fun q : RingS => ringFull q.cqHead q.cqTail q.cqLog2 = false) { RingS.init with size := 0x404, cqTail := 14 } ∧
      (fun q : RingS => ringFull q.cqHead q.cqTail q.cqLog2 = true) { RingS.init with size := 0x404, cqTail := 15 }) := by
  decide +kernel

theorem hyp_FaultsLatchTheirSource_1 :
    (2 ≤ 3 ∧ rd (on []) FLT_SRC.CLASS 4095 ≤ 3) ∧
    (faultClass (on []) 0x301 1 ≠ 3 ∧ escPromotes (on []) (escRule (on []) 0x301 1) = false) ∧
    (faultClass (on []) 0x0F0 3 = 3 ∧ isSafe (on []) = false) ∧
    (escRule (on [(FLT_ESC.EN, 63, 1), (FLT_ESC.SRC, 63, 0x301), (FLT_ESC.MASK, 63, 0xFFF), (FLT_ESC.FROM, 63, 1), (FLT_ESC.N, 63, 1)]) 0x301 1
      = some 63 ∧
      rd (on [(FLT_ESC.EN, 63, 1), (FLT_ESC.N, 63, 1)]) FLT_ESC.N 63 ≤ rd (on [(FLT_ESC.EN, 63, 1), (FLT_ESC.N, 63, 1)]) FLT_ESC.COUNT 63 + 1) ∧
    (rd (on [(FLT_ESC.N, 63, 2)]) FLT_ESC.COUNT 63 + 1 < rd (on [(FLT_ESC.N, 63, 2)]) FLT_ESC.N 63) := by
  decide +kernel

theorem hyp_FaultsLatchTheirSource_2 :
    (escRule (on []) 0x301 1 = none) := by
  decide +kernel

theorem hyp_RateIsHeldAtItsLimit :
    (Meets opTimeRate (on [(TIM_INCR.BASE, 0, 1407374883553)]) (cmd 0xC0 [(0x17, 0x7F)])
      (fun s a => clampDelta s (sext 64 (opd a 0x10 8)) ≠ sext 64 (opd a 0x10 8))) ∧
    ((703687441 : Int).natAbs ≤ rd (on [(TIM_INCR.BASE, 0, 1407374883553)]) TIM_INCR.BASE 0 * 500 / 1000000) ∧
    ((rd (on [(TIM_INCR.BASE, 0, 1407374883553)]) TIM_INCR.BASE 0 * 500 / 1000000 : Nat) < (703687442 : Int) ∧
      (-703687442 : Int) < -((rd (on [(TIM_INCR.BASE, 0, 1407374883553)]) TIM_INCR.BASE 0 * 500 / 1000000 : Nat) : Int)) := by
  decide +kernel

theorem hyp_ClippingIsHeldAndFlagged :
    (receiving (on [(SHF_LANE_STAT.STATE, 511, 5)]) 511 = true ∧ 255 ≤ 255 ∧ 255 < 256) := by
  decide +kernel

theorem hyp_PpsInputIsStampedAndWatched :
    (flag (on [(TIM_CFG.PPS_IN_EN, 0, 1), (HID.PPS_WAIT, 0, 1)]) TIM_CFG.PPS_IN_EN 0 = true ∧
      flag (on [(TIM_CFG.PPS_IN_EN, 0, 1), (HID.PPS_WAIT, 0, 1)]) HID.PPS_WAIT 0 = true) := by
  decide +kernel

theorem hyp_PowerOnResetLeavesFusesAndFlash :
    (HID.POR_DONE.id ≠ GLB_PIN_STAT.PG.id ∧ SEC_STATUS.LIFECYCLE.id ≠ HID.POR_DONE.id ∧ idIn fuseFields SEC_STATUS.LIFECYCLE.id = true) := by
  decide +kernel

theorem hyp_BringUpAndSuppliesAct_1 :
    ((fun s : State => flag s HID.POR_DONE 0 = true ∧ flag s HID.RESET_HIGH 0 = false ∧ rd s FLT_SUMMARY.FATAL 0 = 0 ∧
      rd s FLT_SUMMARY.THERMAL 0 = 0) (st [(HID.POR_DONE, 0, 1)])) ∧
    ((fun s : State => rd s HID.BOOT_STEP 0 = 3 ∧ rd s GLB_BOOT_STAT.STAGE 0 = 0 ∧ fwNext s = some 0) (st [(HID.BOOT_STEP, 0, 3)])) ∧
    ((fun s : State => rd s HID.BOOT_STEP 0 = 3 ∧ rd s GLB_BOOT_STAT.STAGE 0 = 0 ∧ fwNext s = some 1)
      (st [(HID.BOOT_STEP, 0, 3), (HID.FW_TRIED, 0, 1)])) ∧
    (rd (st [(HID.BOOT_STEP, 0, 4)]) HID.BOOT_STEP 0 = 4 ∧ booting (st [(HID.BOOT_STEP, 0, 4)]) = true ∧ ceilPick (st [(HID.BOOT_STEP, 0, 4)]) false false = none) ∧
    ((fun s : State => rd s HID.BOOT_STEP 0 = 6 ∧ rd s GLB_BOOT_STAT.STAGE 0 < 8 ∧ flag s HID.REF_CORE_LOST 0 = false) (st [(HID.BOOT_STEP, 0, 6)])) := by
  decide +kernel

theorem hyp_BringUpAndSuppliesAct_2 :
    ((fun s : State => rd s HID.BOOT_STEP 0 = 4 ∧ booting s = true ∧ ceilPick s true false = some ([((63, 0), ⟨[], [], [], [], false⟩)], 4095) ∧
        4095 ≠ ceilUsed s + 1)
      { st [(HID.BOOT_STEP, 0, 4), (HID.SEAL_OK, 0, 1), (HID.CEIL_CNT_A, 0, 4095), (EMG_GLB_CFG.CEIL_LEFT, 0, 0)] with
        ceilA := [((63, 0), ⟨[], [], [], [], false⟩)] }) ∧
    (booting (st [(HID.BOOT_STEP, 0, 8)]) = true ∧ booting (st [(HID.BOOT_STEP, 0, 10)]) = true ∧ rd (st [(HID.BOOT_STEP, 0, 8)]) HID.BOOT_STEP 0 = 8 ∧ rd (st [(HID.BOOT_STEP, 0, 9)]) HID.BOOT_STEP 0 = 9) ∧
    (rd (st [(HID.BOOT_STEP, 0, 10)]) HID.BOOT_STEP 0 = 10 ∧ (st [(HID.BOOT_STEP, 0, 10)]).running = []) ∧
    (flag (st [(HID.POR_DONE, 0, 1)]) HID.POR_DONE 0 = true) ∧
    (6 ≤ rd (st [(HID.BOOT_STEP, 0, 6)]) HID.BOOT_STEP 0) := by
  decide +kernel

theorem hyp_BringUpAndSuppliesAct_3 :
    (rd (st [(HID.BOOT_STEP, 0, 5)]) HID.BOOT_STEP 0 < 6 ∧ rd (st [(HID.BOOT_STEP, 0, 5)]) GLB_BOOT_STAT.STAGE 0 < 8) ∧
    (flag (st [(HID.POR_DONE, 0, 1)]) HID.POR_DONE 0 = true) ∧
    ((6 : Fin 10).val ≠ 0 ∧ (6 : Fin 10).val ≠ 7 ∧ (6 : Fin 10).val ≠ 8 ∧ (6 : Fin 10).val ≠ 9 ∧
      bitOf (rd (st [(GLB_PIN_STAT.PG, 0, 1023)]) GLB_PIN_STAT.PG 0) (6 : Fin 10).val = true) ∧
    (booting (st [(HID.PG_WAITING, 0, 1)]) = true ∧ flag (st [(HID.PG_WAITING, 0, 1)]) HID.PG_WAITING 0 = true ∧ (st [(HID.PG_WAITING, 0, 1)]).running = []) ∧
    ((fun s : State => rd s HID.BOOT_STEP 0 = 6 ∧ rd s GLB_BOOT_STAT.STAGE 0 < 8 ∧ rd s HID.PLL_TRIES 0 < 2)
      (st [(HID.BOOT_STEP, 0, 6), (HID.PLL_TRIES, 0, 1)])) := by
  decide +kernel

theorem hyp_BringUpAndSuppliesAct_4 :
    (flag (st [(HID.RESET_HIGH, 0, 1)]) HID.RESET_HIGH 0 = true ∧ rd (st [(HID.RESET_HIGH, 0, 1)]) GLB_BOOT_STAT.STAGE 0 < 2) := by
  decide +kernel

theorem hyp_DoorbellsAndPlainAccessesAct_1 :
    ((fun s : State => (ringOf s 255).size ≠ 0 ∧ (63 : BitVec 16).toNat < 2 ^ (ringOf s 255).sqLog2 ∧ (ringOf s 255).cqWait = [])
      (setRing (on []) 255 { rg with size := 0x606 })) ∧
    ((ringOf (on []) 255).size = 0) ∧
    (¬ (ringOf (setRing (on []) 255 { rg with size := 0x606 }) 255).size = 0 ∧
      2 ^ (ringOf (setRing (on []) 255 { rg with size := 0x606 }) 255).sqLog2 ≤ (64 : BitVec 16).toNat) ∧
    ((ringOf (on []) 0).bound = none ∧ sizeBad ((0x606 : BitVec 64).toNat % 2 ^ 32) = false ∧ sizeBad ((0x1010 : BitVec 64).toNat % 2 ^ 32) = false) ∧
    ((ringOf (setRing (on []) 255 rg) 255).bound ≠ none) := by
  decide +kernel

theorem hyp_DoorbellsAndPlainAccessesAct_2 :
    ((0xFFFFF : BitVec 28).toNat < 0x100000) ∧
    (4096 ≤ outstanding { on [] with rings := [((255, 0), { rg with accepted := List.replicate 4096 (cmd 0 []) })] } 255) ∧
    ((fun s : State => (ringOf s 255).unread = [(cmd 0 []).cmd] ∧ fetches s 255 = true ∧ outstanding s 255 < 4096)
      { on [(HIF_STATUS.LINK_UP, 0, 1)] with rings := [((255, 0), { rg with unread := [(cmd 0 []).cmd] })] }) ∧
    (0x101000 ≤ (0xFFFFFFF : BitVec 28).toNat ∧ 0x100000 ≤ (0x1001FC : BitVec 28).toNat ∧ (0x1001FC : BitVec 28).toNat < 0x100200) ∧
    (accessOk ((0xFFFFFF8 : BitVec 28).toNat % 2 ^ 24) 8 = true ∧ bar2Command ((0xFFFFFF8 : BitVec 28).toNat % 2 ^ 24) = false ∧
      (0xFFFFFF8 : BitVec 28).toNat % 2 ^ 24 / 0x10000 ≠ 0) := by
  decide +kernel

theorem hyp_DoorbellsAndPlainAccessesAct_3 :
    ((0x8FFC : BitVec 28).toNat % 2 ^ 24 % 4 = 0 ∧ 0x8000 ≤ (0x8FFC : BitVec 28).toNat % 2 ^ 24 ∧ (0x8FFC : BitVec 28).toNat % 2 ^ 24 < 0x10000) ∧
    (accessOk ((0xFFFFFFC : BitVec 28).toNat % 2 ^ 24) 8 = false ∧ accessOk (0xFFFFFFC : BitVec 28).toNat 8 = false) ∧
    (anyAsleep (st []) (0x700000 : BitVec 28).toNat 8 = true ∧ accessOk (0x700000 : BitVec 28).toNat 8 = true) ∧
    (anyAsleep (on []) (0x30 : BitVec 28).toNat 8 = false ∧ accessOk (0x30 : BitVec 28).toNat 8 = true ∧
      anyAsleep (on []) reg_TIM_NOW.base 8 = false ∧ readAsleep (on []) (0xFFFFFFC : BitVec 28).toNat = false) ∧
    ((match regAccess 0x1000110 4 with
      | some (r, i, q) => decide (r.base ≠ reg_TIM_NOW.base ∧ counterLow r q = true ∧
          flag (refresh (on []) r i) HID.CNT_LATCHED 0x1000110 = false ∧
          flag (refresh (on [(HID.CNT_LATCHED, 0x1000114, 1)]) r i) HID.CNT_LATCHED 0x1000114 = true)
      | none => false) = true) := by
  decide +kernel

theorem hyp_DoorbellsAndPlainAccessesAct_4 :
    ((match regAccess 0x1000110 4 with | some (r, _, q) => counterLow r q | none => false) = true) := by
  decide +kernel

theorem hyp_QueuesAndHostEventsAct_1 :
    ((fun s : State => (ringOf s 255).irqEn = true ∧ (ringOf s 255).batch ≠ 0)
      (setRing (on []) 255 { rg with size := 0x80000404, batch := 1 })) ∧
    (tabGet ({ on [] with evqs := [((15, 0), ⟨0, 4, 1, true, 5, 0xFF, 0, 0, true, 0, false, true, []⟩)] }).evqs (15, 0)
      = some ⟨0, 4, 1, true, 5, 0xFF, 0, 0, true, 0, false, true, []⟩) ∧
    ((⟨true, 6, 1, 64, 0, 1, 1, 0, 0, 1⟩ : PuntRing).batch ≠ 0 ∧
      tabGet ({ on [] with punts := [((63, 1), ⟨true, 6, 1, 64, 0, 1, 1, 0, 0, 1⟩)] }).punts (63, b2n true)
        = some ⟨true, 6, 1, 64, 0, 1, 1, 0, 0, 1⟩) ∧
    ((fun s : State => (ringOf s 255).bound = some 0 ∧ (ringOf s 255).error = false ∧ (ringOf s 255).draining = false) (setRing (on []) 255 rg)) ∧
    ((fun s : State => flag s HID.MSIX_EN 0 = true ∧ flag s HID.MSIX_FMASK 0 = false ∧ flag s HID.MSIX_MASK 255 = false)
      (on [(HID.MSIX_EN, 0, 1), (HID.MSIX_MASK, 255, 0)])) := by
  decide +kernel

theorem hyp_QueuesAndHostEventsAct_2 :
    (flag (on [(HID.MSIX_EN, 0, 1)]) HID.MSIX_EN 0 = true ∧ flag (on [(HID.MSIX_EN, 0, 1)]) HID.MSIX_MASK 255 = true) ∧
    (Meets opEvqSetup (on []) (cmd 5 [(0x10, 15), (0x11, 16), (0x1D, 0x10)]) (fun _ _ => True)) ∧
    (Meets opEvqClose (on []) (cmd 6 [(0x10, 15)]) (fun _ _ => True)) ∧
    ((⟨0, 4, 1, true, 5, 0xFF, 0, 0, true, 0, false, true, []⟩ : EvQ).lost = 0 ∧ (15 : BitVec 32).toNat < 2 ^ 4) ∧
    (Meets opPuntSetup (on []) (cmd 0x5F [(0x10, 63), (0x11, 2), (0x12, 14), (0x17, 1), (0x20, 1)]) (fun _ a => opdBit a 0x11 1 = true)) := by
  decide +kernel

theorem hyp_QueuesAndHostEventsAct_3 :
    ((63 : BitVec 32).toNat < 2 ^ (⟨true, 6, 1, 64, 0, 1, 1, 0, 0, 1⟩ : PuntRing).log2) ∧
    ((⟨true, 6, 1, 64, 0, 1, 1, 0, 1, 1⟩ : PuntRing).en = true ∧ (⟨true, 6, 1, 64, 0, 1, 1, 0, 1, 1⟩ : PuntRing).head ≠ 1 ∧
      60 ≤ (⟨60, true, 0, []⟩ : PuntDesc).len ∧ (⟨16383, true, 0, []⟩ : PuntDesc).len ≤ 16383 ∧ flag (on []) HID.D3HOT 0 = false) ∧
    (flag (on [(HID.D3HOT, 0, 1)]) HID.D3HOT 0 = true) ∧
    (rd (on [(GLB_HOST_CNT.COUNT, 0, 4294967293)]) GLB_HOST_CNT.COUNT 0 < 2 ^ 32 - 2) := by
  decide +kernel

theorem hyp_RingControlOpcodesComplete_1 :
    (Meets opNop (on []) (cmd 0 []) (fun _ _ => True)) ∧
    (Meets opFence (on []) (cmd 3 []) (fun s _ => ∀ x ∈ s.running, x.ring ≠ 0)) ∧
    (waitsOn 3 [] (waits 3 []) = true ∧
      ({ on [] with running := [waits 3 []] }).running.filter (fun y => y.ring == 0) = [waits 3 []] ∧ (ringOf (on []) 0).resumed = []) ∧
    (Meets opBarrier (on []) (cmd 4 [(0x10, 1)]) (fun _ a => bitOf (leVal a.cmd.payload) 0 = true)) ∧
    (({ on [] with running := [waits 4 [63, 65535]] }).running.any (waitsOn 4 [63, 65535]) = true) := by
  decide +kernel

theorem hyp_RingControlOpcodesComplete_2 :
    (assigned (cmd 0x07 []).cmd.opcode = false ∧ assigned (cmd 0xF0 []).cmd.opcode = false ∧
      (fun s : State => (ringOf s 0).accepted = cmd 0xF0 [] :: [] ∧ (ringOf s 0).resumed = [] ∧ ringHeld s 0 = false ∧
        (ringOf s 0).error = false ∧ makerOnly s (cmd 0xF0 []).role 0xF0 = false) (put (on []) (cmd 0xF0 []))) ∧
    ((fun s : State => (ringOf s 0).accepted = { cmd 0xFF [] with role := 3 } :: [] ∧ (ringOf s 0).resumed = [] ∧ ringHeld s 0 = false ∧
        (ringOf s 0).error = false ∧ makerOnly s 3 0xFF = true) (put (on [(SEC_STATUS.LIFECYCLE, 0, 3)]) { cmd 0xFF [] with role := 3 })) ∧
    (Meets opRegWrite (on []) (cmd 1 [(0x10, 0x28), (0x12, 0x30), (0x14, 4), (0x1A, 1), (0x22, 1)]) (fun _ _ => True)) ∧
    (Meets (opRegRead false) (on []) (cmd 2 [(0x12, 0x30), (0x14, 8)]) (fun s _ => flag s HID.TIM_LATCHED 0 = false)) ∧
    (Meets (opRegRead true) (on []) (cmd 2 [(0x12, 0x30), (0x14, 8)]) (fun _ _ => True)) := by
  decide +kernel

theorem hyp_VestibuleAndTrustEventsAct_1 :
    ((fun s : State => vstUp s = true ∧ openStatus s (bts 72 [(0, 1), (1, 1), (2, 15)]) = 0 ∧
        credOf s (leAt (bts 72 [(0, 1), (1, 1), (2, 15)]) 1 1) (leAt (bts 72 [(0, 1), (1, 1), (2, 15)]) 2 1)
          (leAt (bts 72 [(0, 1), (1, 1), (2, 15)]) 3 1) = some (7, [], 0))
      { st [(HID.BOOT_STEP, 0, 6), (SEC_STATUS.LIFECYCLE, 0, 2)] with opKeys := [((15, 0), 7)] }) ∧
    ((fun s : State => vstUp s = true ∧ s.vst = some ⟨63, 1, 15, 0, [], 0, 0⟩ ∧ credOf s 1 15 0 = some (7, [], 0) ∧
        ringsFit s ⟨63, 1, 15, 0, [], 0, 0⟩ = true ∧ proveBad (bts 56 [(0, 2), (1, 63)]) ⟨63, 1, 15, 0, [], 0, 0⟩ = false)
      { st [(HID.BOOT_STEP, 0, 6)] with opKeys := [((15, 0), 7)], vst := some ⟨63, 1, 15, 0, [], 0, 0⟩ }) ∧
    ((fun s : State => vstUp s = true ∧ s.vst = some ⟨63, 2, 0, 2, [], 0, 0⟩ ∧ s.enrolKey = some 7 ∧ ringsFit s ⟨63, 2, 0, 2, [], 0, 0⟩ = true ∧
        proveBad (bts 160 [(0, 4), (1, 63)]) ⟨63, 2, 0, 2, [], 0, 0⟩ = false)
      { st [(HID.BOOT_STEP, 0, 6)] with enrolKey := some 7, vst := some ⟨63, 2, 0, 2, [], 0, 0⟩ }) ∧
    ((fun s : State => vstUp s = true ∧ s.vst = some ⟨63, 1, 15, 0, [], 0, 0⟩)
      { st [(HID.BOOT_STEP, 0, 6)] with vst := some ⟨63, 1, 15, 0, [], 0, 0⟩ }) ∧
    (vstUp (st [(HID.BOOT_STEP, 0, 6)]) = true ∧ (st [(HID.BOOT_STEP, 0, 6)]).vst = none ∧ vstUp (st [(GLB_BOOT_STAT.STAGE, 0, 8)]) = true) := by
  decide +kernel

theorem hyp_VestibuleAndTrustEventsAct_2 :
    (({ on [] with vst := some ⟨63, 1, 15, 0, [], 0, 0⟩ }).vst = some ⟨63, 1, 15, 0, [], 0, 0⟩) ∧
    (rd (on [(SEC_LOCKOUT.REMAIN_S, 2, 60)]) SEC_LOCKOUT.REMAIN_S 2 ≠ 0) ∧
    ((fun s : State => tabGet s.sessions (63, 0) = some ⟨1, 15, 0, 0, 0⟩ ∧ rd s SEC_POLICY.IDLE_S 0 * 1000 ≤ msSince s 0)
      { on [(SEC_POLICY.IDLE_S, 0, 10), (HID.TICKS, 0, 7812500000)] with sessions := [((63, 0), ⟨1, 15, 0, 0, 0⟩)] }) := by
  decide +kernel

theorem hyp_TrustOpcodesComplete_1 :
    (Meets opSessionInfo (on []) (cmd 0x10 []) (fun _ a => a.cmd.ptr = false)) ∧
    (Meets opSessionClose (on []) (cmd 0x11 [(0x11, 63)]) (fun _ a => opdBit a 0x10 0 = false)) ∧
    (Meets opRingBind { on [] with sessions := [((0, 0), ⟨1, 15, 0, 0, 0⟩)], rings := [((255, 0), { rg with bound := none })] }
      (cmd 0x12 [(0x2F, 128)]) (fun _ a => a.cmd.aux = 0)) ∧
    (Meets opOpkeySet (on [(SEC_STATUS.KS_LEFT, 0, 1)]) (cmdP 0x14 [(0x1C, 15)] 64 []) (fun _ _ => True)) ∧
    (Meets opOpkeyRevoke { on [(SEC_STATUS.KS_LEFT, 0, 1)] with opKeys := [((15, 0), 7)] } (cmd 0x15 [(0x10, 15)])
      (fun s a => (tabGet s.opKeys (opdB a 0x10, 0)).isSome = true)) := by
  decide +kernel

theorem hyp_TrustOpcodesComplete_2 :
    (Meets opInstcredSet (on [(SEC_STATUS.KS_LEFT, 0, 1)]) (cmdP 0x16 [(0x1C, 3)] 112 []) (fun _ _ => True)) ∧
    (Meets opInstcredRevoke { on [(SEC_STATUS.KS_LEFT, 0, 1)] with instCreds := [((0, 0), ⟨false, 0, 0, 7⟩), ((3, 0), ⟨false, 0, 0, 7⟩)] }
      (cmd 0x17 [(0x10, 3)]) (fun s a => (tabGet s.instCreds (opdB a 0x10, 0)).isSome = true)) ∧
    (Meets (opLcTransition .pass) { on [(HID.CERT_OK, 0, 1), (SEC_STATUS.LIFECYCLE, 0, 0)] with makerKey := some 1, attestKey := some 1, enrolKey := some 1 } (cmd 0x18 [(0x10, 1)])
      (fun s _ => rd s SEC_STATUS.LIFECYCLE 0 = 0)) ∧
    (Meets (opLcTransition .pass) (on [(SEC_STATUS.LIFECYCLE, 0, 2), (SEC_STATUS.RETURN_ARMED, 0, 1)]) (cmd 0x18 [(0x10, 3)])
      (fun s _ => rd s SEC_STATUS.LIFECYCLE 0 = 2)) ∧
    (Meets opReturnApprove (on []) (cmd 0x19 []) (fun _ _ => True)) := by
  decide +kernel

theorem hyp_TrustOpcodesComplete_3 :
    (Meets (opZeroize .pass) (on []) (cmd 0x1A [(0x10, 0x5A), (0x11, 0x45), (0x12, 0x52), (0x13, 0x4F)]) (fun _ _ => True)) ∧
    (Meets opAuditExport { on [] with audit := [⟨0, 0, 1, 0, 0, 0, 0, 0, [], 0, false⟩] } (cmdP 0x1B [] 320 []) (fun _ _ => True)) := by
  decide +kernel

theorem meets_TrustOpcodesComplete_1 (b : List Byte) (hb : b.length = 8192) :
    Meets opAttest (on []) (withBuf (cmd 0x1C [(0x19, 32)]) b) (fun _ _ => True) := by
  have hp : ptrOk (withBuf (cmd 0x1C [(0x19, 32)]) b).cmd = true :=
    ptrOk_withBuf _ _ (by decide +kernel) (by rw [hb]; decide +kernel) (by rw [hb]; decide) (by rw [hb]; decide)
  have h : opAttest.bad (popFront (put (on []) (withBuf (cmd 0x1C [(0x19, 32)]) b)) 0) (withBuf (cmd 0x1C [(0x19, 32)]) b) = none := by
    show badIf (decide (b.length < 8192)) = none
    rw [hb]
    rfl
  refine ⟨⟨⟨rfl, rfl⟩, ?_, rfl, Or.inr rfl, rfl⟩, trivial⟩
  unfold refusal check1
  rw [h]
  simp only [hp]
  rfl

theorem hyp_FirmwareUpdateActs :
    (Meets opFwRestart (on []) (cmd 0x1E []) (fun _ _ => True)) ∧
    (restartReady (on [(HID.RESTARTING, 0, 1)]) = true) ∧
    (Meets opFwCommit (on []) (cmd 0x1F []) (fun _ _ => True)) := by
  decide +kernel

theorem meets_FirmwareUpdateActs_1 (b : List Byte) (hb : b.length = 4096) :
    Meets opFwWrite (on []) (withBuf (cmd 0x1D [(0x19, 16)]) b) (fun _ a => opdBit a 0x1C 0 = false) := by
  have hp : ptrOk (withBuf (cmd 0x1D [(0x19, 16)]) b).cmd = true :=
    ptrOk_withBuf _ _ (by decide +kernel) (by rw [hb]; decide +kernel) (by rw [hb]; decide) (by rw [hb]; decide)
  refine ⟨⟨⟨rfl, rfl⟩, ?_, rfl, Or.inr rfl, ?_⟩, show opdBit (cmd 0x1D [(0x19, 16)]) 0x1C 0 = false by decide +kernel⟩
  · unfold refusal check1
    simp only [hp]
    rfl
  have e1 : opd (cmd 0x1D [(0x19, 16)]) 0x20 4 = 0 := by decide +kernel
  have e2 : opdBit (cmd 0x1D [(0x19, 16)]) 0x1C 0 = false := by decide +kernel
  show invIf (opd (cmd 0x1D [(0x19, 16)]) 0x20 4 % 4096 != 0 || decide (0x400000 < opd (cmd 0x1D [(0x19, 16)]) 0x20 4 + b.length)
    || (!opdBit (cmd 0x1D [(0x19, 16)]) 0x1C 0 && b.length % 4096 != 0) || (opd (cmd 0x1D [(0x19, 16)]) 0x20 4 != 0 && _)) = none
  rw [e1, e2, hb]
  rfl

theorem hyp_TimeUnitActs_1 :
    (Meets opTimeRate (on [(TIM_INCR.BASE, 0, 1407374883553)]) (cmd 0xC0 [(0x10, 5), (0x18, 2)])
      (fun s a => clampDelta s (sext 64 (opd a 0x10 8)) = sext 64 (opd a 0x10 8))) ∧
    (Meets opTimeStep (on [(TIM_STATUS.STEP_ARMED, 0, 1)]) (cmd 0xC1 [(0x10, 1)]) (fun _ _ => True)) ∧
    (Meets opTimeRearm (on []) (cmd 0xC2 []) (fun _ _ => True)) ∧
    (Meets opTevArm (on []) (cmd 0xC3 [(0x10, 63), (0x11, 1), (0x1C, 100)]) (fun _ _ => True)) ∧
    (Meets opTevStop (on []) (cmd 0xC4 [(0x10, 63)]) (fun s a => tevDue s (opdB a 0x10) = false)) := by
  decide +kernel

theorem hyp_TimeUnitActs_2 :
    (Meets opTevStop (on [(TIM_TEV_STAT.ARMED, 63, 1)]) (cmd 0xC4 [(0x10, 63)]) (fun s a => tevDue s (opdB a 0x10) = true)) ∧
    (tevDue (on [(TIM_TEV_STAT.ARMED, 63, 1)]) 63 = true ∧ flag (on [(TIM_TEV_STAT.ARMED, 63, 1)]) TIM_TEV_STAT.PERIODIC 63 = false) ∧
    (tevDue (on [(TIM_TEV_STAT.ARMED, 63, 1), (TIM_TEV_STAT.PERIODIC, 63, 1)]) 63 = true) ∧
    (rd (on [(TIM_STATUS.LOCK, 0, 1), (HID.WDOG_ON, 0, 1)]) TIM_STATUS.LOCK 0 = 1 ∧ flag (on [(HID.WDOG_ON, 0, 1)]) HID.WDOG_ON 0 = true) ∧
    (flag (on [(TIM_CFG.PPS_IN_EN, 0, 1), (HID.PPS_WAIT, 0, 1)]) TIM_CFG.PPS_IN_EN 0 = true ∧
      flag (on [(TIM_CFG.PPS_IN_EN, 0, 1), (HID.PPS_WAIT, 0, 1)]) HID.PPS_WAIT 0 = true) := by
  decide +kernel

theorem hyp_TimeUnitActs_3 :
    (flag (on []) TIM_TEV_STAT.PERIODIC (ppsTev (on [])) = false) ∧
    ((fun s : State => flag s TIM_RCLK.EN 1 = true ∧ rclkGone s 1 = true ∧ flag s TIM_RCLK.LOST 1 = false)
      (on [(TIM_RCLK.EN, 1, 1), (TIM_RCLK.SRC, 1, 511)])) := by
  decide +kernel

theorem hyp_PeriodicEventFirstFiringIsNotPast :
    (0 < 6553600 ∧ 5 ≤ 0 + 1 * 6553600) := by
  decide +kernel

theorem hyp_LandingsActFromOpenToDrain_1 :
    (Meets opLandingOpen (on [(LND_SLOT.STATE, 0, 2)]) (cmd 0x20 [(0x10, 0xFF), (0x11, 0xFF)]) (fun s _ => lndFree s = some 1)) ∧
    (Meets opLandingSubmit (on [(LND_SLOT.STATE, 63, 1), (LND_SLOT.ID, 63, 5)]) (cmd 0x21 [(0x10, 5), (0x15, 0x27), (0x14, 0x10)])
      (fun s a => slotOf s (opd a 0x10 2) = some 63 ∧ opdBit a 0x12 0 = false ∧ localTime s + 655360000 ≤ submitTime a)) ∧
    (Meets opLandingSubmit (on [(LND_SLOT.STATE, 63, 1), (LND_SLOT.ID, 63, 5)]) (cmd 0x21 [(0x10, 5), (0x15, 0x27), (0x14, 0x0F)])
      (fun s a => slotOf s (opd a 0x10 2) = some 63 ∧ opdBit a 0x12 0 = false ∧ submitTime a < localTime s + 655360000)) ∧
    (Meets opLandingCancel (on [(LND_SLOT.STATE, 63, 1), (LND_SLOT.ID, 63, 5)]) (cmd 0x22 [(0x10, 5)])
      (fun s a => slotOf s (opd a 0x10 2) = some 63 ∧ ctxBound s (opd a 0x10 2) = false)) ∧
    (Meets opLandingQuery (on [(LND_SLOT.STATE, 63, 1), (LND_SLOT.ID, 63, 5)]) (cmd 0x23 [(0x10, 5)])
      (fun s a => slotOf s (opd a 0x10 2) = some 63 ∧ rd s LND_SLOT.STATE 63 ≠ 4)) := by
  decide +kernel

theorem hyp_LandingsActFromOpenToDrain_2 :
    (sortSlots (timeLt (on [(LND_SLOT.STATE, 5, 2), (LND_SLOT.STATE, 9, 2), (LND_SLOT.ID, 5, 2), (LND_SLOT.ID, 9, 1)]))
      ((slotsIn (on [(LND_SLOT.STATE, 5, 2), (LND_SLOT.STATE, 9, 2), (LND_SLOT.ID, 5, 2), (LND_SLOT.ID, 9, 1)]) 2).filter
        (lndDue (on [(LND_SLOT.STATE, 5, 2), (LND_SLOT.STATE, 9, 2), (LND_SLOT.ID, 5, 2), (LND_SLOT.ID, 9, 1)]))) = [9, 5]) ∧
    (flag (on [(LND_STATUS.OLD_LIVE, 0, 1)]) LND_STATUS.OLD_LIVE 0 = true ∧ oldCount (on [(LND_STATUS.OLD_LIVE, 0, 1)]) = 0) ∧
    (oldCount { on [(LND_STATUS.OLD_LIVE, 0, 1)] with pkts := [{ pk 1 with gen := 1 }] } ≠ 0) ∧
    ([9, 5].any (flag (tevFireDue (on [(LND_SLOT.STATE, 5, 2), (TIM_TEV_STAT.ARMED, 63, 1)])) LND_SLOT.GENL) = false) := by
  decide +kernel

theorem meets_LandingsActFromOpenToDrain_1 : takeDue [9, 5] (on [(LND_SLOT.STATE, 5, 2), (LND_SLOT.STATE, 9, 2)]) = (on [(LND_SLOT.STATE, 5, 2), (LND_SLOT.STATE, 9, 2)], [9, 5]) := rfl

theorem hyp_ReceivePathAndHoldAct_1 :
    (receiving (on [(SHF_LANE_STAT.STATE, 511, 5)]) 511 = true ∧ receiving (on [(SHF_LANE_STAT.STATE, 511, 2)]) 511 = true ∧ 255 ≤ 255 ∧ 255 < 256) ∧
    (rd (on []) SHF_RX_SLICE.STATE (511 * 136 + 127) = 0 ∧ laneSt (on []) 511 ≠ laneHOLD) ∧
    ((fun s : State => rd s SHF_RX_SLICE.STATE (511 * 136 + 135) = 1 ∧ flag s HID.POWER_UP 0 = true ∧ rd s GLB_BOOT_STAT.STAGE 0 < 3)
      (st [(HID.POWER_UP, 0, 1), (GLB_BOOT_STAT.STAGE, 0, 2)])) ∧
    (receiving (on [(SHF_LANE_STAT.STATE, 511, 4), (SHF_LANE_STAT.FORMAT, 511, 2)]) 511 = true ∧
      rd (on [(SHF_LANE_STAT.FORMAT, 511, 2)]) SHF_LANE_STAT.FORMAT 511 = 2 ∧ rd (on [(SHF_LANE_STAT.FORMAT, 511, 1)]) SHF_LANE_STAT.FORMAT 511 ≠ 2) ∧
    ((fun s : State => laneSt s 511 = laneLIVE ∧ captureFits s 511 = true) (on [(SHF_LANE_STAT.STATE, 511, 4), (SHF_LANE_STAT.FORMAT, 511, 1)])) := by
  decide +kernel

theorem hyp_ReceivePathAndHoldAct_2 :
    ((fun s : State => rd s SHF_RX_CAPTURE.STAT 511 = 1 ∧ rd s HID.CAP_KIND 511 ≤ 1)
      (on [(SHF_RX_CAPTURE.STAT, 511, 1), (HID.CAP_KIND, 511, 1)])) ∧
    ((fun s : State => detects s 511 = true ∧ 3 ≤ laneSt s 511 ∧ laneSt s 511 ≤ 5) (on [(SHF_LANE_STAT.STATE, 511, 3), (EMG_SITE_CTRL.STATE, 63, 2)])) ∧
    ((fun s : State => detects s 511 = true ∧ 3 ≤ laneSt s 511 ∧ laneSt s 511 ≤ 5) (on [(SHF_LANE_STAT.STATE, 511, 5), (EMG_SITE_CTRL.STATE, 63, 2)])) ∧
    (laneSt (on [(SHF_LANE_STAT.STATE, 511, 4)]) 511 = laneLIVE ∧ laneSt (on [(SHF_LANE_STAT.STATE, 511, 5)]) 511 = laneHOLD) ∧
    ((fun s : State => laneSt s 511 = laneLIVE ∧ detects s 511 = true ∧ flag s HID.LOS_NOW 511 = false ∧
        rd s SHF_RX_HOLD_CFG.STEP_DB 511 ≠ 0 ∧ rd s SHF_RX_HOLD_CFG.STEP_DB 511 ≤ 12)
      (on [(SHF_LANE_STAT.STATE, 511, 4), (SHF_RX_HOLD_CFG.STEP_DB, 511, 12), (EMG_SITE_CTRL.STATE, 63, 2)])) := by
  decide +kernel

theorem hyp_ReceivePathAndHoldAct_3 :
    ((fun s : State => laneSt s 511 = laneHOLD ∧ flag s HID.HOLD_FAST 511 = true ∧ rd s SHF_RX_HOLD_CFG.SNR_MIN 511 ≤ (512 : BitVec 12).toNat)
      (on [(SHF_LANE_STAT.STATE, 511, 5), (HID.HOLD_FAST, 511, 1), (SHF_RX_HOLD_CFG.SNR_MIN, 511, 512)])) ∧
    ((511 : BitVec 12).toNat < rd (on [(SHF_RX_HOLD_CFG.SNR_MIN, 511, 512)]) SHF_RX_HOLD_CFG.SNR_MIN 511) ∧
    ((fun s : State => laneSt s 511 = laneHOLD ∧ flag s HID.HOLD_FAST 511 = false) (on [(SHF_LANE_STAT.STATE, 511, 5)])) := by
  decide +kernel

theorem hyp_FailedSliceIsMarkedAndReported :
    ((fun s : State => rd s SHF_RX_SLICE.STATE (511 * 136 + 0) = 0 ∧ (slicesDue s 511).length < (slicesIn s 511 1).length ∧
      (slicesDue (sliceMark s 511 0) 511).length < (slicesIn (sliceMark s 511 0) 511 1).length) (on [])) := by
  decide +kernel

theorem hyp_WakeSynthesiserAndTransmitAct_1 :
    ((fun s : State => wakeListens s 511 = true ∧ rd s SHF_WAKE.SRC 63 ≠ 1) (on [(GLB_PIN_STAT.PG, 0, 1), (PWR_DOM.STATE, sheafDom 63, 2),
      (SHF_LANE_STAT.STATE, 511, 1), (SHF_WAKE.LANES, 63, 128), (EMG_SITE_CTRL.STATE, 63, 2), (SHF_WAKE.SRC, 63, 2)])) ∧
    (rd (on []) PWR_DOM.HELD (sheafDom 63) = 0 ∧ rd (on [(HID.DOM_TGT, sheafDom 63, 1)]) HID.DOM_TGT (sheafDom 63) = 1) ∧
    (bitsOf (0xAAE5123400 + crc8 0x1234 16 0) 32 8 = 0xAA ∧ bitsOf (0xAAE5123400 + crc8 0x1234 16 0) 24 8 = 0xE5 ∧
      crc8 (bitsOf (0xAAE5123400 + crc8 0x1234 16 0) 8 16) 16 0 = bitsOf (0xAAE5123400 + crc8 0x1234 16 0) 0 8 ∧
      bitsOf (0xAAE5123400 + crc8 0x1234 16 0) 8 16 ≠ 0 ∧ rd (on [(SHF_WAKE.WORD, 63, 0x1234), (SHF_WAKE.SRC, 63, 1)]) SHF_WAKE.WORD 63 = 0x1234 ∧
      rd (on [(SHF_WAKE.SRC, 63, 1)]) SHF_WAKE.SRC 63 ≠ 0) ∧
    (synSt (on [(SHF_SYN_STAT.STATE, 63, 2)]) 63 = 2 ∧ synSt (on [(SHF_SYN_STAT.STATE, 63, 4)]) 63 = 4 ∧
      synSt (on [(SHF_SYN_STAT.STATE, 63, 1)]) 63 = 1) ∧
    ((fun s : State => synSt s 63 = 3 ∧ s.running = [] ∧ flag s HID.WAKE_SYN 63 = false) (on [(SHF_SYN_STAT.STATE, 63, 3)])) := by
  decide +kernel

theorem hyp_WakeSynthesiserAndTransmitAct_2 :
    (rd (on [(SHF_SYN_STAT.ATTEMPT, 63, 2)]) SHF_SYN_STAT.ATTEMPT 63 < 3 ∧ rd (on [(SHF_SYN_STAT.ATTEMPT, 63, 3)]) SHF_SYN_STAT.ATTEMPT 63 = 3) ∧
    (Meets opTxEnable (on []) (cmd 0x54 [(0x10, 63), (0x11, 255)]) (fun _ a => opdBit a 0x12 0 = false)) ∧
    (Meets opTxEnable (on []) (cmd 0x54 [(0x10, 63), (0x11, 255), (0x12, 1)]) (fun s a => opdBit a 0x12 0 = true ∧ synSt s (opdB a 0x10) ≠ 4)) ∧
    (({ on [] with running := [waits 0x54 [63, 255, 0]] }).running.find? (fun x => x.ring == 0 && x.acc.cmd.tag == 1 && waitsOn 0x54 [] x)
      = some (waits 0x54 [63, 255, 0])) ∧
    (Meets opWakeSend (on []) (cmd 0x55 [(0x10, 63), (0x11, 255), (0x12, 1), (0x14, 0x60), (0x15, 0xEA)]) (fun _ a => opd a 0x14 2 ≠ 0 ∧ opdB a 0x11 ≠ 0)) := by
  decide +kernel

theorem hyp_WakeSynthesiserAndTransmitAct_3 :
    ((fun s : State => flag s HID.WAKE_JOB 511 = true ∧ flag s HID.STOP_ON_RX 511 = true ∧ detects s 511 = true)
      (on [(HID.WAKE_JOB, 511, 1), (HID.STOP_ON_RX, 511, 1), (EMG_SITE_CTRL.STATE, 63, 2)])) ∧
    ((fun s : State => laneSt s 511 = laneTRAIN ∧ rd s SHF_LANE_STAT.MODE 511 ≠ 4 ∧ flag s SHF_TX_CTRL.EN 511 = true ∧
      flag s HID.TTX 511 = false ∧ rd s SHF_TX_STAT.ALS 511 ≠ 2) (on [(SHF_LANE_STAT.STATE, 511, 3), (SHF_TX_CTRL.EN, 511, 1)])) ∧
    ((fun s : State => sendsData (txBoundary s 511) 511 = false ∧ flag s SHF_TX_SHAPE.PEND 511 = true ∧ flag s HID.TX_APPLY 511 = false ∧
        tabGet s.shapes (511, 0) = none) (on [(SHF_TX_SHAPE.PEND, 511, 1)])) ∧
    ((fun s : State => sendsData (txBoundary s 511) 511 = true ∧ rd (txBoundary s 511) SHF_LANE_STAT.FORMAT 511 = 1) (sending 1)) ∧
    ((fun s : State => sendsData (txBoundary s 511) 511 = true ∧ rd (txBoundary s 511) SHF_LANE_STAT.FORMAT 511 = 2) (sending 2)) := by
  decide +kernel

theorem hyp_WakeSynthesiserAndTransmitAct_4 :
    ((fun s : State => sendsData (txBoundary s 511) 511 = false ∧ flag s SHF_TX_SHAPE.PEND 511 = true ∧ flag s HID.TX_APPLY 511 = true ∧
        fixedShape s 511 = true ∧ s.shapes = [])
      (on [(SHF_TX_SHAPE.PEND, 511, 1), (HID.TX_APPLY, 511, 1), (SHF_LANE_STAT.MODE, 511, 4)])) := by
  decide +kernel

theorem hyp_LanesAcquire_1 :
    (Meets opLaneMode (on []) (cmd 0x50 [(0x10, 63), (0x11, 255), (0x12, 4), (0x13, 1)]) (fun _ _ => True)) ∧
    (Meets opLaneRestart (on []) (cmd 0x51 [(0x10, 63), (0x11, 255)]) (fun _ _ => True)) ∧
    ((fun s : State => searching s 511 = true ∧ nativeFam (rd s SHF_LANE_STAT.MODE 511) = true) (on [(SHF_LANE_STAT.STATE, 511, 2), (SHF_LANE_STAT.MODE, 511, 1)])) ∧
    ((fun s : State => searching s 511 = true ∧ nativeFam (rd s SHF_LANE_STAT.MODE 511) = true) (on [(SHF_LANE_STAT.STATE, 511, 2), (SHF_LANE_STAT.MODE, 511, 3)])) ∧
    ((fun s : State => searching s 511 = true ∧ rd s SHF_LANE_STAT.MODE 511 = 4) (on [(SHF_LANE_STAT.STATE, 511, 2), (SHF_LANE_STAT.MODE, 511, 4)])) := by
  decide +kernel

theorem hyp_LanesAcquire_2 :
    (laneSt (on [(SHF_LANE_STAT.STATE, 511, 2)]) 511 = laneACQUIRE ∧ flag (on [(SHF_LANE_STAT.STATE, 511, 2)]) SHF_LANE_STAT.WAIT_SYNTH 511 = false) ∧
    ((fun s : State => laneSt s 511 = laneLISTEN ∧ flag s HID.BACKOFF 511 = true ∧ sheafAwake s 511 = true) (on [(SHF_LANE_STAT.STATE, 511, 1), (HID.BACKOFF, 511, 1)])) ∧
    ((fun s : State => laneSt s 511 = laneLISTEN ∧ sheafAwake s 511 = true ∧ detects s 511 = true ∧ flag s SHF_LANE_STAT.EXHAUSTED 511 = false)
      (on [(SHF_LANE_STAT.STATE, 511, 1), (EMG_SITE_CTRL.STATE, 63, 2)])) ∧
    ((fun s : State => laneSt s 511 = laneLISTEN ∧ sheafAwake s 511 = true ∧ detects s 511 = true ∧ flag s SHF_LANE_STAT.EXHAUSTED 511 = true)
      (on [(SHF_LANE_STAT.STATE, 511, 1), (SHF_LANE_STAT.EXHAUSTED, 511, 1), (EMG_SITE_CTRL.STATE, 63, 2)])) := by
  decide +kernel

theorem hyp_LanesTrain_1 :
    (shapeAccept (heard 511 (hdr 1 3 (shapeReqBytes 7 noShape.1 noShape.2)) (training 2 [])) 511 noShape.1 noShape.2 = true) ∧
    (shapeAccept (heard 511 (hdr 1 3 (shapeReqBytes 7 (List.replicate 15 511) noShape.2)) (training 2 [])) 511 (List.replicate 15 511) noShape.2 = false) ∧
    (trnValid { hdr 1 0 [] with marker := 0 } 0 [] = false) ∧
    ((fun s : State => exchanging s 511 = true ∧ tabGet s.trnMsgs (511, 0) = some (1, [])) { training 0 [] with trnMsgs := [((511, 0), (1, []))] }) ∧
    (4 ≤ 4 ∧ (fun s : State => laneSt s 511 = laneTRAIN ∧ rd s SHF_LANE_STAT.PHASE 511 = 1 ∧ trnHas s 511 tProbe = false)
      (on [(SHF_LANE_STAT.STATE, 511, 3), (SHF_LANE_STAT.PHASE, 511, 1)])) := by
  decide +kernel

theorem hyp_LanesTrain_2 :
    ((fun s : State => laneSt s 511 = laneTRAIN ∧ rd s SHF_LANE_STAT.PHASE 511 = 2 ∧ trnHas s 511 tReqOut = true ∧
      flag s HID.TRN_ACCEPTED 511 = true) (trnOn (training 2 [(HID.TRN_ACCEPTED, 511, 1)]) 511 tReqOut)) ∧
    ((fun s : State => laneSt s 511 = laneTRAIN ∧ rd s SHF_LANE_STAT.PHASE 511 = 3 ∧ trnHas s 511 tBitsWant = false)
      (on [(SHF_LANE_STAT.STATE, 511, 3), (SHF_LANE_STAT.PHASE, 511, 3)])) ∧
    (rd (on [(SHF_LANE_STAT.STATE, 511, 3), (SHF_LANE_STAT.PHASE, 511, 3)]) SHF_LANE_STAT.PHASE 511 ≤ 3 ∧
      rd (on [(SHF_LANE_STAT.STATE, 511, 3), (SHF_LANE_STAT.PHASE, 511, 4)]) SHF_LANE_STAT.PHASE 511 = 4) ∧
    ((fun s : State => flag s HID.LANE_CONFIRM 511 = true ∧ laneSt s 511 = laneACQUIRE ∧ flag s SHF_FEC_STAT.LOCK 511 = true ∧
      2 * 2 ^ rd s SHF_TRN_CFG.CONFIRM_LOG (511 / 8) ≤ 544 * 65536)
      (on [(HID.LANE_CONFIRM, 511, 1), (SHF_LANE_STAT.STATE, 511, 2), (SHF_FEC_STAT.LOCK, 511, 1), (SHF_TRN_CFG.CONFIRM_LOG, 63, 20)])) ∧
    (1 ≠ 0 ∧ flag (on [(HID.LANE_CONFIRM, 511, 1)]) HID.LANE_CONFIRM 511 = true) := by
  decide +kernel

theorem meets_LanesTrain_1 : NextMessage 511 (hdr 1 1 (helloBytes ⟨1, true, true, 0, 1, 0, 63, 7⟩)) 1 (helloBytes ⟨1, true, true, 0, 1, 0, 63, 7⟩) 0 (training 0 []) := by
  refine ⟨?_, hdr_valid .., ?_, ?_, ?_, rfl, ?_, ?_, ?_⟩ <;> decide +kernel

theorem meets_LanesTrain_2 : NextMessage 511 (hdr 0 1 (helloBytes ⟨1, true, true, 0, 1, 0, 63, 7⟩)) 1 (helloBytes ⟨1, true, true, 0, 1, 0, 63, 7⟩) 0 (training 0 [(HID.TRN_RX, 511, 65535)]) := by
  refine ⟨?_, hdr_valid .., ?_, ?_, ?_, rfl, ?_, ?_, ?_⟩ <;> decide +kernel

theorem meets_LanesTrain_3 : NextMessage 511 (hdr 1 2 (reportBytes 4095 true 4)) 2 (reportBytes 4095 true 4) 1 (training 1 []) := by
  refine ⟨?_, hdr_valid .., ?_, ?_, ?_, rfl, ?_, ?_, ?_⟩ <;> decide +kernel

theorem meets_LanesTrain_4 : NextMessage 511 (hdr 1 3 (shapeReqBytes 7 noShape.1 noShape.2)) 3 (shapeReqBytes 7 noShape.1 noShape.2) 2 (training 2 []) := by
  refine ⟨?_, hdr_valid .., ?_, ?_, ?_, rfl, ?_, ?_, ?_⟩ <;> decide +kernel

theorem meets_LanesTrain_5 : NextMessage 511 (hdr 1 3 (shapeReqBytes 7 (List.replicate 15 511) noShape.2)) 3 (shapeReqBytes 7 (List.replicate 15 511) noShape.2) 2 (training 2 []) := by
  refine ⟨?_, hdr_valid .., ?_, ?_, ?_, rfl, ?_, ?_, ?_⟩ <;> decide +kernel

theorem meets_LanesTrain_6 : NextMessage 511 (hdr 1 4 (shapeAckBytes 1 true)) 4 (shapeAckBytes 1 true) 2 (training 2 []) := by
  refine ⟨?_, hdr_valid .., ?_, ?_, ?_, rfl, ?_, ?_, ?_⟩ <;> decide +kernel

theorem meets_LanesTrain_7 : NextMessage 511 (hdr 1 4 (shapeAckBytes 1 false)) 4 (shapeAckBytes 1 false) 2 (training 2 []) := by
  refine ⟨?_, hdr_valid .., ?_, ?_, ?_, rfl, ?_, ?_, ?_⟩ <;> decide +kernel

theorem meets_LanesTrain_8 : NextMessage 511 (hdr 1 5 (shapeDoneBytes 4095)) 5 (shapeDoneBytes 4095) 2 (training 2 []) := by
  refine ⟨?_, hdr_valid .., ?_, ?_, ?_, rfl, ?_, ?_, ?_⟩ <;> decide +kernel

theorem meets_LanesTrain_9 : NextMessage 511 (hdr 1 6 (bitsBytes 1 4 (List.replicate 127 15))) 6 (bitsBytes 1 4 (List.replicate 127 15)) 3 (training 3 []) := by
  refine ⟨?_, hdr_valid .., ?_, ?_, ?_, rfl, ?_, ?_, ?_⟩ <;> decide +kernel

theorem meets_LanesTrain_10 : NextMessage 511 (hdr 1 7 (switchBytes 1 2 4)) 7 (switchBytes 1 2 4) 2 (training 2 []) := by
  refine ⟨?_, hdr_valid .., ?_, ?_, ?_, rfl, ?_, ?_, ?_⟩ <;> decide +kernel

theorem meets_LanesTrain_11 : NextMessage 511 (hdr 1 7 (switchBytes 1 2 4)) 7 (switchBytes 1 2 4) 3 (training 3 []) := by
  refine ⟨?_, hdr_valid .., ?_, ?_, ?_, rfl, ?_, ?_, ?_⟩ <;> decide +kernel

theorem meets_LanesTrain_12 : NextMessage 511 (hdr 1 0 ([])) 0 ([]) 3 (training 3 []) := by
  refine ⟨?_, hdr_valid .., ?_, ?_, ?_, rfl, ?_, ?_, ?_⟩ <;> decide +kernel

theorem meets_LanesTrain_13 : (fun s : State => NextMessage 511 (hdr 1 4 (shapeAckBytes 1 true)) 4 (shapeAckBytes 1 true) 2 s ∧
      trnHas (heard 511 (hdr 1 4 (shapeAckBytes 1 true)) s) 511 tReqOut = true ∧
      1 = rd (heard 511 (hdr 1 4 (shapeAckBytes 1 true)) s) HID.TRN_ITER 511 + 1) (trnOn (training 2 []) 511 tReqOut) := by
  refine ⟨⟨?_, hdr_valid .., ?_, ?_, ?_, rfl, ?_, ?_, ?_⟩, ?_, ?_⟩ <;> decide +kernel

theorem meets_LanesTrain_14 : (fun s : State => NextMessage 511 (hdr 1 4 (shapeAckBytes 1 false)) 4 (shapeAckBytes 1 false) 2 s ∧
      trnHas (heard 511 (hdr 1 4 (shapeAckBytes 1 false)) s) 511 tReqOut = true ∧
      1 = rd (heard 511 (hdr 1 4 (shapeAckBytes 1 false)) s) HID.TRN_ITER 511 + 1) (trnOn (training 2 []) 511 tReqOut) := by
  refine ⟨⟨?_, hdr_valid .., ?_, ?_, ?_, rfl, ?_, ?_, ?_⟩, ?_, ?_⟩ <;> decide +kernel

theorem meets_LanesTrain_15 : (fun s : State => exchanging s 511 = true ∧ trnValid (hdr 1 0xA (bytesOf [4])) 0xA (bytesOf [4]) = true ∧
      (hdr 1 0xA (bytesOf [4])).seq = (rd s HID.TRN_RX 511 + 1) % 65536) (training 3 []) := by
  refine ⟨?_, hdr_valid .., ?_⟩ <;> decide +kernel

theorem hyp_LineCodingActs :
    (amOk (leBytes 8 (amPattern - 1) ++ (bts 32 [(8, 7), (9, 248), (12, 255), (13, 255)]).drop 8) true = true ∧ receiving (on [(SHF_LANE_STAT.STATE, 511, 2)]) 511 = true ∧
      rd (on [(SHF_LANE_STAT.STATE, 511, 2)]) SHF_LANE_STAT.FORMAT 511 ≠ 3 ∧
      receiving (on [(SHF_LANE_STAT.STATE, 511, 5), (SHF_LANE_STAT.FORMAT, 511, 3)]) 511 = true ∧
      rd (on [(SHF_LANE_STAT.FORMAT, 511, 3)]) SHF_LANE_STAT.FORMAT 511 = 3) ∧
    (flag (on [(SHF_FEC_STAT.LOCK, 511, 1)]) SHF_FEC_STAT.LOCK 511 = true ∧ laneSt (on [(SHF_LANE_STAT.STATE, 511, 4)]) 511 = laneLIVE) ∧
    ((fun s : State => flag s SHF_FEC_STAT.LOCK 511 = true ∧ rd s HID.FEC_WIN_CW 511 ≥ 2 ^ rd s SHF_FEC_CFG.WIN_LOG2 511 ∧ rd s SHF_FEC_CFG.DEG_PPB 511 ≤ serPpb s 511)
      (on [(SHF_FEC_STAT.LOCK, 511, 1), (SHF_FEC_CFG.WIN_LOG2, 511, 16), (HID.FEC_WIN_CW, 511, 65536), (HID.FEC_WIN_SYM, 511, 35652), (SHF_FEC_CFG.DEG_PPB, 511, 1000000)])) ∧
    ((fun s : State => flag s SHF_FEC_STAT.LOCK 511 = true ∧ rd s HID.FEC_WIN_CW 511 ≥ 2 ^ rd s SHF_FEC_CFG.WIN_LOG2 511 ∧ 2 * serPpb s 511 < rd s SHF_FEC_CFG.DEG_PPB 511)
      (on [(SHF_FEC_STAT.LOCK, 511, 1), (SHF_FEC_CFG.WIN_LOG2, 511, 16), (HID.FEC_WIN_CW, 511, 65536), (HID.FEC_WIN_SYM, 511, 0), (SHF_FEC_CFG.DEG_PPB, 511, 1000000)])) ∧
    ((⟨false, 15, 150, 3⟩ : CwResult).uncorr = false ∧ (⟨true, 0, 0, 0⟩ : CwResult).uncorr = true) := by
  decide +kernel

theorem hyp_PortsAndMacFramesAct_1 :
    (portUp (onI [(PRT_STAT.STATE, 511, 4)]) 511 = true ∧ 64 ≤ 64 ∧ 63 < 64 ∧ rd (onI []) PRT_CFG.MAX_LEN 511 < 9217 ∧
      9216 ≤ rd (onI []) PRT_CFG.MAX_LEN 511) ∧
    (chansOf (onI [(PRT_STAT.STATE, 511, 4)]) 511 1 = []) ∧
    ((fun s : State => pktOf s 7 = some (pkAt 7 (.toMac 511)) ∧ (pkAt 7 (.toMac 511)).loc = .toMac 511 ∧ portUp s 511 = true ∧
      (pkAt 7 (.toMac 511)).len ≤ rd s PRT_CFG.MAX_LEN 511 ∧ txChan s 511 = none)
      { onI [(PRT_STAT.STATE, 511, 4)] with pkts := [pkAt 7 (.toMac 511)] }) ∧
    ((fun s : State => pktOf s 7 = some { pkAt 7 (.toMac 511) with len := 9217 } ∧ portUp s 511 = true ∧ rd s PRT_CFG.MAX_LEN 511 < 9217)
      { onI [(PRT_STAT.STATE, 511, 4)] with pkts := [{ pkAt 7 (.toMac 511) with len := 9217 }] }) ∧
    (txChan (onI [(MSC_CHAN.STATE, 8191, 1), (MSC_CHAN.DIR, 8191, 0), (MSC_CHAN.PORT, 8191, 511)]) 511 = some 8191) := by
  decide +kernel

theorem hyp_PortsAndMacFramesAct_2 :
    ((pkAt 7 (.toMac 511)).expired = false ∧ ({ pkAt 7 (.toMac 511) with hwDrop := 0x17 }).expired = true) ∧
    ((fun s : State => saOn s 8191 (txAnOf s 0 8191) = true ∧ rd s MSC_SA.PN (2 * 8191 + txAnOf s 0 8191) < pnLast)
      (onI [(MSC_SA.VALID, 2 * 8191, 1), (MSC_SA.PN, 2 * 8191, pnLast - 1)])) ∧
    ((fun s : State => saOn s 8191 (txAnOf s 0 8191) = true ∧ pnLast ≤ rd s MSC_SA.PN (2 * 8191 + txAnOf s 0 8191) ∧
      saOn s 8191 (1 - txAnOf s 0 8191) = false) (onI [(MSC_SA.VALID, 2 * 8191, 1), (MSC_SA.PN, 2 * 8191, pnLast)])) ∧
    ((portDef (onI []) 511).isSome = true) ∧
    ((fun s : State => txChan s 511 = some 8191 ∧ flag s HID.MKA_ON 511 = true ∧ portUp s 511 = true ∧
      flag s MSC_CHAN.KEY_SERVER 8191 = true ∧ needsSak s 511 8191 = true)
      { onI [(MSC_CHAN.STATE, 8191, 1), (MSC_CHAN.DIR, 8191, 0), (MSC_CHAN.PORT, 8191, 511), (HID.MKA_ON, 511, 1),
        (PRT_STAT.STATE, 511, 4), (MSC_CHAN.KEY_SERVER, 8191, 1)] with peers := [((511, 9), (1, 2, false))] }) := by
  decide +kernel

theorem hyp_PortsAndMacFramesAct_3 :
    ((fun s : State => txChan s 511 = some 8191 ∧ flag s HID.MKA_ON 511 = true ∧ portUp s 511 = true ∧ flag s MSC_CHAN.KEY_SERVER 8191 = false)
      (onI [(MSC_CHAN.STATE, 8191, 1), (MSC_CHAN.PORT, 8191, 511), (HID.MKA_ON, 511, 1), (PRT_STAT.STATE, 511, 4), (MSC_CHAN.KEY_SERVER, 8191, 0)])) ∧
    ((fun s : State => (peersOf s 511).find? (fun x => x.2.1 == 1) = some (9, 1, 2, false) ∧
      (chansOf { s with peers := tabDel s.peers (511, 9) } 511 1).find? (fun x => rd { s with peers := tabDel s.peers (511, 9) } MSC_CHAN.SCI x == 1) = none ∧
      txChan { s with peers := tabDel s.peers (511, 9) } 511 = none) { onI [] with peers := [((511, 9), (1, 2, false))] }) := by
  decide +kernel

theorem meets_PortsAndMacFramesAct_1 :
    (fun s : State => txChan s 511 = some 8191 ∧ flag s HID.MKA_ON 511 = true ∧ portUp s 511 = true ∧
      Config.mkaIcv (mkaKey s 511 txtIck) [] = (⟨[], Config.mkaIcv (mkaKey s 511 txtIck) [], 9, 1, true, none, false, false⟩ : Mkpdu).icv)
      (onI [(MSC_CHAN.STATE, 8191, 1), (MSC_CHAN.PORT, 8191, 511), (HID.MKA_ON, 511, 1), (PRT_STAT.STATE, 511, 4)]) := by
  refine ⟨?_, ?_, ?_, rfl⟩ <;> decide +kernel

theorem meets_PortsAndMacFramesAct_2 (s : State) : Config.mkaIcv (mkaKey s 511 txtIck) [] ≠
    (⟨[], Config.mkaIcv (mkaKey s 511 txtIck) [] + 1, 9, 1, true, none, false, false⟩ : Mkpdu).icv := by
  show Config.mkaIcv (mkaKey s 511 txtIck) [] ≠ Config.mkaIcv (mkaKey s 511 txtIck) [] + 1
  bv_omega

theorem hyp_ReceivedFramesAreCheckedByTheirChannel :
    (chansOf (onI [(MSC_CHAN.STATE, 8191, 1), (MSC_CHAN.DIR, 8191, 1), (MSC_CHAN.PORT, 8191, 511)]) 511 1 = 8191 :: []) ∧
    (rd (onI [(MSC_CHAN.VALIDATE, 8191, 2)]) MSC_CHAN.VALIDATE 8191 = 2 ∧ rxChan (onI []) (8191 :: [8190]) ⟨64, leBytes 64 0, true, false, false, false, none, 0, 0, true⟩ = none) ∧
    (rxChan (onI [(MSC_CHAN.SCI, 8191, 9)]) (8191 :: []) ⟨64, leBytes 64 0, true, false, false, true, some 9, 3, 5, true⟩ = some 8191 ∧ rxSa (onI []) 8191 3 = none) ∧
    (rxSa (onI [(MSC_SA.VALID, 2 * 8191 + 1, 1), (MSC_SA.AN, 2 * 8191 + 1, 3)]) 8191 3 = some 1 ∧
      4 < rd (onI [(MSC_SA.PN, 2 * 8191 + 1, 5)]) MSC_SA.PN (2 * 8191 + 1) ∧ rd (onI [(MSC_SA.PN, 2 * 8191 + 1, 5)]) MSC_SA.PN (2 * 8191 + 1) ≤ 5) ∧
    (rd (onI [(MSC_CHAN.VALIDATE, 8191, 1)]) MSC_CHAN.VALIDATE 8191 ≠ 2 ∧ (⟨64, leBytes 64 0, true, false, false, true, some 9, 3, 5, false⟩ : RxFrame).icvOk = false) := by
  decide +kernel

theorem hyp_PortAndMacsecOpcodesComplete_1 :
    (Meets opPortAdmin (onI []) (cmd 0x52 [(0x10, 255), (0x11, 1), (0x12, 1)]) (fun _ _ => True)) ∧
    (Meets opPortClr (onI []) (cmd 0x53 [(0x10, 255), (0x11, 1)]) (fun _ _ => True)) ∧
    (Meets opMscChanSet (onI [(MSC_CHAN.STATE, 8191, 1)]) (cmd 0x70 [(0x10, 255), (0x11, 31)]) (fun s a => rd s MSC_CHAN.STATE (opd a 0x10 2) = 1)) ∧
    (Meets opMscChanSet (onI []) (cmd 0x70 [(0x10, 255), (0x11, 31), (0x14, 255), (0x15, 1), (0x23, 64)])
      (fun s a => rd s MSC_CHAN.STATE (opd a 0x10 2) ≠ 1)) ∧
    (Meets opMscChanDel (onI []) (cmd 0x71 [(0x10, 255), (0x11, 31)]) (fun s a => boundTo s (rd s MSC_CHAN.PORT (opd a 0x10 2)) 0 (opd a 0x10 2) = false)) := by
  decide +kernel

theorem hyp_PortAndMacsecOpcodesComplete_2 :
    (Meets opMscTxAn (onI [(MSC_CHAN.STATE, 8191, 1), (MSC_SA.VALID, 16383, 1)]) (cmd 0x72 [(0x10, 255), (0x11, 31), (0x12, 1)]) (fun _ _ => True)) ∧
    (Meets opMscRxRetire (onI [(MSC_CHAN.STATE, 8191, 1), (MSC_CHAN.DIR, 8191, 1)]) (cmd 0x73 [(0x10, 255), (0x11, 31), (0x12, 1)]) (fun _ _ => True)) ∧
    (Meets opMkaSet { onI [(MSC_CHAN.STATE, 8191, 1), (MSC_CHAN.PORT, 8191, 511)] with caks := [((1023, 0), ⟨7, []⟩)] }
      (cmd 0x74 [(0x10, 255), (0x11, 1), (0x12, 255), (0x13, 3)]) (fun _ _ => True)) ∧
    (Meets opMkaDel (onI []) (cmd 0x75 [(0x10, 255), (0x11, 1)]) (fun _ _ => True)) ∧
    (Meets opCakInstall (onI [(SEC_STATUS.KS_LEFT, 0, 1)]) (cmdP 0x7E [] 88 [(0, 255), (1, 3), (2, 32)]) (fun _ _ => True)) := by
  decide +kernel

theorem hyp_PortAndMacsecOpcodesComplete_3 :
    (Meets opCakDelete { onI [(SEC_STATUS.KS_LEFT, 0, 1)] with caks := [((1023, 0), ⟨7, []⟩)] } (cmd 0x7F [(0x10, 255), (0x11, 3)])
      (fun s a => (tabGet s.caks (opd a 0x10 2, 0)).isSome = true)) := by
  decide +kernel

theorem hyp_StagedCommandsJoinTheirLanding_1 :
    (MeetsStage opGalAssign (onL []) (staged (cmd 0x44 [(0x10, 63), (0x11, 67)]))) ∧
    (MeetsStage opTblInsert (onL []) (staged (cmd 0x30 [(0x11, 1), (0x12, 4), (0x15, 32), (0x1B, 128)]))) ∧
    (MeetsStage opTblModify (onL []) (staged (cmd 0x31 [(0x11, 1), (0x12, 4), (0x15, 8), (0x1B, 128), (0x20, 10)]))) ∧
    (MeetsStage opTblDelete (onL []) (staged (cmd 0x32 [(0x11, 1), (0x12, 4), (0x15, 8), (0x1B, 128), (0x20, 10)]))) ∧
    (MeetsStage opTblBulk (onL []) (staged (cmdP 0x33 [] 24 [(0, 1), (1, 1), (2, 4), (5, 32), (11, 128)]))) := by
  decide +kernel

theorem hyp_StagedCommandsJoinTheirLanding_2 :
    (MeetsStage opTblDefault (onL []) (staged (cmd 0x34 [(0x10, 255), (0x1F, 128)]))) ∧
    (MeetsStage opPortAdmin (onL []) (staged (cmd 0x52 [(0x10, 255), (0x11, 1), (0x12, 1)]))) ∧
    (MeetsStage opMscTxAn (onL [(MSC_CHAN.STATE, 8191, 1), (MSC_SA.VALID, 16383, 1)]) (staged (cmd 0x72 [(0x10, 255), (0x11, 31), (0x12, 1)]))) ∧
    (MeetsStage opMscRxRetire (onL [(MSC_CHAN.STATE, 8191, 1), (MSC_CHAN.DIR, 8191, 1)]) (staged (cmd 0x73 [(0x10, 255), (0x11, 31), (0x12, 1)]))) ∧
    (MeetsStage opTmgQSet (onL []) (staged (cmd 0x60 [(0x10, 255), (0x11, 255), (0x12, 15), (0x14, 255), (0x15, 1), (0x16, 16), (0x18, 1)]))) := by
  decide +kernel

theorem hyp_StagedCommandsJoinTheirLanding_3 :
    (MeetsStage opTmgNodeSet (onL []) (staged (cmd 0x61 [(0x10, 255), (0x11, 31), (0x12, 32), (0x13, 255), (0x14, 1), (0x15, 16), (0x18, 1)]))) ∧
    (MeetsStage opTmgProfileSet (onL []) (staged (cmdP 0x62 [(0x1C, 255)] 32 [(0, 1), (4, 1)]))) ∧
    (MeetsStage opTmgGateSet (onL []) (staged (cmdP 0x63 [] 16 [(0, 255), (1, 1)]))) ∧
    (MeetsStage opTmgReplSet (onL []) (staged (cmdP 0x64 [(0x1C, 255)] 8 [(0, 5)]))) ∧
    (MeetsStage opDacSet (onL [(EMG_SITE_CTRL.STATE, 63, 2)]) (staged (cmd 0x82 [(0x10, 63)]))) := by
  decide +kernel

theorem hyp_StagedCommandsJoinTheirLanding_4 :
    (MeetsStage opPwmSet (onL [(EMG_SITE_CTRL.STATE, 63, 2)]) (staged (cmd 0x84 [(0x10, 63)]))) ∧
    (MeetsStage opMonSiteSet (onL [(EMG_SITE_CTRL.STATE, 63, 2)]) (staged (cmd 0x88 [(0x10, 63)]))) ∧
    (MeetsStage opMonSet (onL [(EMG_SITE_CTRL.STATE, 63, 2)]) (staged (cmdP 0x89 [(0x1C, 63), (0x1D, 15)] 32 [(24, 16)]))) := by
  decide +kernel

theorem hyp_ImageOpcodesComplete_1 :
    (Meets opSiOpen (on []) (cmd 0x40 [(0x10, 0)]) (fun _ a => opdB a 0x10 = 0)) ∧
    (Meets opSiOpen (on []) (cmd 0x40 [(0x10, 2)]) (fun _ a => opdB a 0x10 ≠ 0)) ∧
    (Meets opSiPut { on [(GLB_SI_STAT.CTX, 0, 1)] with siCtx := some ⟨0, none, 0, false, 0, [], none, [], none⟩ } (cmdP 0x41 [] 16 [])
      (fun s _ => s.siCtx = some ⟨0, none, 0, false, 0, [], none, [], none⟩)) ∧
    (Meets opSiClose { on [(GLB_SI_STAT.CTX, 0, 1)] with siCtx := some ⟨0, none, 0, false, 0, [], some ⟨false, 0, 0, 0, 0, 0, 0, [], 0, []⟩, [], none⟩ }
      (cmd 0x42 []) (fun s _ => s.siCtx = some ⟨0, none, 0, false, 0, [], some ⟨false, 0, 0, 0, 0, 0, 0, [], 0, []⟩, [], none⟩)) ∧
    (Meets opSiAbort (on []) (cmd 0x43 []) (fun s _ => s.siCtx = none)) := by
  decide +kernel

theorem hyp_ImageOpcodesComplete_2 :
    (Meets opSiAbort { on [(GLB_SI_STAT.CTX, 0, 1)] with siCtx := some ⟨0, none, 0, false, 0, [], none, [], none⟩ } (cmd 0x43 [])
      (fun s _ => s.siCtx = some ⟨0, none, 0, false, 0, [], none, [], none⟩)) ∧
    (Meets opSiSlotWrite (on []) (cmdP 0x45 [(0x1C, 1)] 16 []) (fun _ _ => True)) ∧
    (Meets (opSiSlotActive true) (on [(SEC_STATUS.KS_LEFT, 0, 1)]) (cmd 0x46 [(0x10, 1)]) (fun _ _ => True)) ∧
    (Meets (opSiSlotActive false) (on [(SEC_STATUS.KS_LEFT, 0, 1)]) (cmd 0x46 [(0x10, 1)]) (fun _ _ => True)) ∧
    (Meets opSiKeySet (on [(SEC_STATUS.KS_LEFT, 0, 1)]) (cmdP 0x47 [(0x1C, 3)] 96 []) (fun _ a => opdB a 0x1D = 0)) := by
  decide +kernel

theorem hyp_ImageOpcodesComplete_3 :
    (Meets opSiKeySet (on [(SEC_STATUS.KS_LEFT, 0, 1)]) (cmdP 0x47 [(0x1C, 3), (0x1D, 1)] 48 []) (fun _ a => opdB a 0x1D ≠ 0)) ∧
    (Meets opSiSvnCommit (on [(GLB_SI_INFO.SVN, 0, 3), (HID.SI_MIN_SVN, 0, 3)]) (cmd 0x48 []) (fun s _ => rd s GLB_SI_INFO.SVN 0 ≤ rd s HID.SI_MIN_SVN 0)) ∧
    (Meets opSiSvnCommit (on [(GLB_SI_INFO.SVN, 0, 4), (HID.SI_MIN_SVN, 0, 3), (SEC_STATUS.KS_LEFT, 0, 1)]) (cmd 0x48 [])
      (fun s _ => rd s HID.SI_MIN_SVN 0 < rd s GLB_SI_INFO.SVN 0)) := by
  decide +kernel

theorem hyp_ImageEventsAct :
    ((fun s : State => s.siCtx = some ⟨0, none, 1, false, 0, [], none, [], none⟩ ∧ s.running.find? (waitsOn 0x40 []) = some (waits 0x40 []))
      { on [] with siCtx := some ⟨0, none, 1, false, 0, [], none, [], none⟩, running := [waits 0x40 []] }) ∧
    ((fun s : State => bootLoading s 1 = true ∧
      rd s HID.SI_ACTIVE_SLOT 0 = 1) (on [(SEC_STATUS.LIFECYCLE, 0, 2), (HID.SI_ACTIVE_SLOT, 0, 1)])) ∧
    (flag (on [(HID.BOOT_LOADED, 0, 1)]) HID.BOOT_LOADED 0 = true) ∧
    (rd (on [(HID.SW_HOLD, 64 + 63, 68)]) HID.SW_HOLD (64 * 1 + 63) ≠ 0) := by
  decide +kernel

theorem hyp_GalleryEntryLookupsAndReleaseAct_1 :
    ((fun s : State => pktOf s 7 = some (pkAt 7 (.fromMac 511)) ∧ (pkAt 7 (.fromMac 511)).loc = .fromMac 511 ∧ servedBy s (genNow s) (511 / 8) = some 67 ∧
        rd s GAL_STAT.STATE 67 ≠ 5 ∧ rd s GAL_STAT.STATE 67 ≠ 0 ∧ 262144 < entryBytes s 67 + (pkAt 7 (.fromMac 511)).len)
      { onI [(GAL_STAT.STATE, 67, 2)] with pkts := [{ pkAt 8 (.entry 67) with len := 262081 }, pkAt 7 (.fromMac 511)] }) ∧
    ((fun s : State => rd s GAL_STAT.STATE 67 ≠ 5 ∧ rd s GAL_STAT.STATE 67 ≠ 0 ∧ entryBytes s 67 + (pkAt 7 (.fromMac 511)).len ≤ 262144)
      { onI [(GAL_STAT.STATE, 67, 2)] with pkts := [{ pkAt 8 (.entry 67) with len := 262080 }, pkAt 7 (.fromMac 511)] }) ∧
    (rd (onI [(GAL_STAT.STATE, 67, 0)]) GAL_STAT.STATE 67 = 0 ∧ servedBy (onI []) 0 (504 / 8) = some 67) ∧
    (servedBy (onI []) (genNow (onI [])) (8 / 8) = none ∧ imageOn (onI []) = true) ∧
    (pktOf { onI [] with pkts := [pkAt 7 (.entry 67)] } 7 = some (pkAt 7 (.entry 67)) ∧ pktOf (onI []) 7 = none) := by
  decide +kernel

theorem hyp_GalleryEntryLookupsAndReleaseAct_2 :
    ((pkAt 7 (.ingressPark 67)).loc = .ingressPark 67 ∧ (pkAt 7 (.egressPark 67)).loc = .egressPark 67) ∧
    ((fun s : State => pktOf s 7 = some (pkAt 7 (.ingressReorder 67)) ∧ mayRelease s 67 false (pkAt 7 (.ingressReorder 67)) = true)
      { onI [] with pkts := [pkAt 7 (.ingressReorder 67)] }) ∧
    ((fun s : State => pktOf s 7 = some (pkAt 7 (.egressReorder 67)) ∧ mayRelease s 67 true (pkAt 7 (.egressReorder 67)) = true)
      { onI [] with pkts := [pkAt 7 (.egressReorder 67)] }) ∧
    (mayRelease { onI [] with pkts := [pkAt 8 (.ingress 67), { pkAt 7 (.ingressReorder 67) with seq := 1 }] } 67 false { pkAt 7 (.ingressReorder 67) with seq := 1 } = false) ∧
    ((fun s : State => tabGet s.punts (puntKey 63 true) = some ⟨true, 6, 1, 0, 0, 1, 1, 0, 1, 0⟩ ∧ (⟨true, 6, 1, 0, 0, 1, 1, 0, 1, 0⟩ : PuntRing).head ≠ 1)
      { onI [] with punts := [((63, 1), ⟨true, 6, 1, 0, 0, 1, 1, 0, 1, 0⟩)] }) := by
  decide +kernel

theorem hyp_GalleryEntryLookupsAndReleaseAct_3 :
    (60 ≤ 60 ∧ 16383 ≤ 16383) ∧
    ((pkOld 7 (.entry 67)).expired = true ∧ (pkOld 7 (.ingressPark 67)).expired = true ∧ (pkAt 7 (.entry 67)).expired = false ∧
      pktOf { onI [] with pkts := [pkOld 7 (.ingressReorder 67)] } 7 = some (pkOld 7 (.ingressReorder 67))) ∧
    (galRuns (onI [(GAL_STAT.STATE, 67, 1)]) 67 = false ∧ flipDue (onI [(LND_SLOT.STATE, 63, 2), (LND_SLOT.GENL, 63, 1)]) = true) ∧
    (flag (onI []) HID.D3HOT 0 = false ∧ flag (onI [(HID.D3HOT, 0, 1)]) HID.D3HOT 0 = true) := by
  decide +kernel

theorem hyp_FlightsEndByTheirDisposition_1 :
    (pktOf { onI [] with pkts := [pkAt 7 (.ingress 67)] } 7 = some (pkAt 7 (.ingress 67)) ∧ (pkAt 7 (.ingress 67)).expired = false ∧
      fl.poison = [] ∧ fl.sramErr = [] ∧ fl.hwDrop = 0 ∧ ({ fl with hwDrop := 2 }).hwDrop = 2) ∧
    ((fun s : State => (fun r : FlightResult => r.drop % 256 = 0 ∧ r.punt = false ∧ r.recirc = false) (flightRes s fl false (pkAt 7 (.ingress 67))).1 ∧
      (flightRes s (flSet 27 255) false (pkAt 7 (.ingress 67))).1.drop % 256 ≠ 0 ∧
      (fun r : FlightResult => r.drop % 256 = 0 ∧ r.punt = true ∧ r.copy = false) (flightRes s (flSet 28 0x7F) false (pkAt 7 (.ingress 67))).1 ∧
      (fun r : FlightResult => r.drop % 256 = 0 ∧ r.punt = false ∧ r.recirc = true ∧ (pkAt 7 (.ingress 67)).pass < 3 ∧
        recircReason s 67 r (pkAt 7 (.ingress 67)) = 0 ∧ recircReason s 67 r { pkAt 7 (.ingress 67) with pass := 3 } = 5 ∧
        recircWaiting { s with pkts := List.replicate 64 { pkAt 8 (.entry 67) with pass := 1 } } 67 = 64)
        (flightRes s (flSet 33 1) false (pkAt 7 (.ingress 67))).1) (onI [])) ∧
    (pktOf { onI [] with pkts := [pkAt 7 (.egress 67)] } 7 = some (pkAt 7 (.egress 67)) ∧
      (fun s : State => (flightRes s (flSet 27 255) true (pkAt 7 (.egress 67))).1.drop % 256 ≠ 0 ∧
        (fun r : FlightResult => r.drop % 256 = 0 ∧ r.punt = false) (flightRes s fl true (pkAt 7 (.egress 67))).1) (onI [])) ∧
    ((fun s : State => portUp (flightLookups s 67 (pkAt 7 (.egress 67)) (flightRes s fl true (pkAt 7 (.egress 67))).1).1 0 = false)
      { onI [] with pkts := [pkAt 7 (.egress 67)] }) ∧
    ((fun s : State => portUp (flightLookups s 67 (pkAt 7 (.egress 67)) (flightRes s fl true (pkAt 7 (.egress 67))).1).1 0 = true)
      { onI [(PRT_STAT.STATE, 0, 4)] with pkts := [pkAt 7 (.egress 67)] }) := by
  decide +kernel

theorem hyp_FlightsEndByTheirDisposition_2 :
    (pktOf { onI [] with pkts := [pkOld 7 (.egress 67)] } 7 = some (pkOld 7 (.egress 67)) ∧ (pkOld 7 (.egress 67)).expired = true) ∧
    (condHolds [] [] (.bit 128 0 true) = false ∧ 129 ∉ [(AluSrc.imm 1, AluSrc.imm 0, 128)].map (·.2.2) ∧ fl.insert = [] ∧ fl.remove = 0 ∧
      3 ∉ [(128, 2)].map (·.2)) := by
  decide +kernel

theorem hyp_TableOpcodesComplete_1 :
    (Meets opTblInsert (onI []) (cmd 0x30 [(0x11, 1), (0x12, 4), (0x15, 32), (0x1B, 128)]) (fun s a => (applyAll 0x30 2 (cmdRecs s a) 0 s).2.2 = none)) ∧
    (Meets opTblModify (onI []) (cmd 0x31 [(0x11, 1), (0x12, 4), (0x15, 8), (0x1B, 128), (0x20, 10)]) (fun s a => (applyAll 0x31 2 (cmdRecs s a) 0 s).2.2 = none)) ∧
    (Meets opTblDelete (onI []) (cmd 0x32 [(0x11, 1), (0x12, 4), (0x15, 8), (0x1B, 128), (0x20, 10)]) (fun s a => (applyAll 0x32 2 (cmdRecs s a) 0 s).2.2 = none)) ∧
    (Meets opTblInsert (onI []) (cmd 0x30 [(0x11, 9)]) (fun s a => (applyAll 0x30 2 (cmdRecs s a) 0 s).2 = (0, some ⟨.invalid, 1, none, false⟩))) ∧
    (Meets opTblBulk (onI []) (cmdP 0x33 [] 48 [(0, 1), (1, 1), (2, 4), (5, 32), (11, 128), (25, 9)])
      (fun s a => (applyAll 0x33 2 (cmdRecs s a) 0 s).2 = (1, some ⟨.invalid, 1, none, false⟩))) := by
  decide +kernel

theorem hyp_TableOpcodesComplete_2 :
    (Meets opTblDefault (onI []) (cmd 0x34 [(0x10, 255), (0x1F, 128)]) (fun _ _ => True)) ∧
    (Meets opTblRead (onI []) (cmdP 0x35 [] 64 [(0, 1), (1, 1), (2, 4), (5, 8), (11, 128), (16, 10)])
      (fun s a => ((cmdRecs s a).head?.bind (fun r => (tableIn (curGen s) r.table).bind (fun d => entryOf (curGen s) d r))).isSome = true)) ∧
    (Meets opTblRead (onI []) (cmdP 0x35 [] 64 [(0, 1), (1, 1), (2, 4), (5, 32), (11, 128)])
      (fun s a => (cmdRecs s a).head?.map (fun r => (tableIn (curGen s) r.table).map (fun d => entryOf (curGen s) d r)) = some (some none))) ∧
    (Meets opTblCntRead (onI []) (cmd 0x36 [(0x10, 15)]) (fun _ a => a.cmd.ptr = false)) ∧
    (Meets opTblCntRead (onI []) (cmdP 0x36 [(0x1C, 15)] 16 []) (fun _ a => a.cmd.ptr = true)) := by
  decide +kernel

theorem hyp_TableOpcodesComplete_3 :
    (Meets opTblCntClear (onI []) (cmd 0x37 [(0x10, 0), (0x14, 16)]) (fun _ _ => True)) ∧
    (Meets opTblClear (onI []) (cmd 0x38 [(0x10, 1)]) (fun _ _ => True)) ∧
    (Meets opTblRepair (onI [(TBL_POISON_LOG.VALID, 31, 1), (TBL_POISON_LOG.TABLE, 31, 1), (TBL_POISON_LOG.PLEN, 31, 8), (TBL_POISON_LOG.BASE, 31, 10 * 2 ^ 24)])
      (cmdP 0x39 [(0x1C, 31)] 24 [(0, 1), (1, 1), (2, 4), (5, 24), (11, 128), (16, 10)])
      (fun s a => tableIn (curGen s) (rd s TBL_POISON_LOG.TABLE (opd a 0x1C 4)) = some ⟨1, 4, 0, 64, 8, 0, []⟩ ∧
        (repairRecs s a).length = 1 ∧ (applyAll 0x33 2 ((repairRecs s a).map (fun r => { r with op := 1, upsert := true })) 0
          (repairEmptied s ⟨1, 4, 0, 64, 8, 0, []⟩ 31)).2.2 = none)) ∧
    (tabGet ({ onI [] with cache := [((3, 15), (1, 64))] }).cache (3, 15) = some (1, 64)) ∧
    (15 < (genOf (onI []) 0).cntN ∧ tabGet ({ onI [] with cache := [((3, 15), (1, 64))] }).cache (galDie 67, 15) = some (1, 64) ∧
      ((onI []).cache.filter (fun e => Nat.beq e.1.1 3)).length < 65536) := by
  decide +kernel

theorem hyp_RecordsAreRefusedByCause :
    (tableIn img 9 = none ∧ tableIn img 1 = some ⟨1, 4, 0, 64, 8, 0, []⟩ ∧ tableIn img 3 = some ⟨3, 4, 0, 64, 64, 0, []⟩) ∧
    (keyWrong ⟨1, 4, 0, 64, 8, 0, []⟩ { (default : TRec) with table := 1, keyLen := 5 } = true ∧
      keyWrong ⟨1, 4, 0, 64, 8, 0, []⟩ { (default : TRec) with table := 1, keyLen := 4, plen := 32 } = false ∧
      keyWrong ⟨1, 4, 0, 64, 8, 0, []⟩ { (default : TRec) with table := 1, keyLen := 4, plen := 33 } = true ∧
      keyWrong ⟨1, 4, 0, 64, 8, 0, []⟩ (usedOf 3 { (default : TRec) with table := 1, keyLen := 4, data := leBytes 9 1 }) = false) ∧
    (counterWrong img 16 = true ∧ counterWrong img 15 = false) ∧
    (recPoisoned { onI [] with poison := [((1, 0), (0, 0))] } ⟨1, 4, 0, 64, 8, 0, []⟩ { (default : TRec) with table := 1, keyLen := 4, plen := 32, key := bytesOf [0, 0, 0, 0] } = true) ∧
    ((entryOf img ⟨1, 4, 0, 64, 8, 0, []⟩ { (default : TRec) with table := 1, keyLen := 4, plen := 8, key := bytesOf [10, 0, 0, 0] }).isSome = true ∧
      (entryOf img ⟨1, 4, 0, 64, 8, 0, []⟩ { (default : TRec) with table := 1, keyLen := 4, plen := 9, key := bytesOf [10, 0, 0, 0] }).isSome = false ∧
      prioTaken img ⟨1, 4, 0, 64, 8, 0, []⟩ { (default : TRec) with table := 1, keyLen := 4, plen := 8, key := bytesOf [10, 0, 0, 0] } = false) := by
  decide +kernel

theorem hyp_RecordsChangeTheirEntryOnly :
    ((⟨1, 4, 0, 64, 8, 0, []⟩ : TableDef).kind ≠ 2 ∧ (⟨3, 4, 0, 64, 64, 0, []⟩ : TableDef).kind ≠ 2 ∧ (⟨3, 4, 0, 64, 64, 0, []⟩ : TableDef).kind = 3) := by
  decide +kernel

theorem hyp_HallsAdmitAndDequeue_1 :
    ((fun s : State => pktOf s 7 = some (pkAt 7 (.toHall 1)) ∧ (pkAt 7 (.toHall 1)).hold = false ∧ flag s HID.HALL_ISO 1 = false ∧
      queueTarget s ((pkAt 7 (.toHall 1)).gen % 2) (pkAt 7 (.toHall 1)).queue = none) { onI [] with pkts := [pkAt 7 (.toHall 1)] }) ∧
    (({ pkAt 7 (.toHall 1) with hold := true }).hold = true) ∧
    (flag (onI []) TMG_PROFILE.RED_EN (queueOf (onI []) 1048575).profile = false ∧
      rd (onI []) TMG_PROFILE.MAX_KIB (queueOf (onI []) 1048575).profile * 1024 < depthOf (onI []) 1048575 + 67108865 ∧
      depthOf (onI []) 1048575 + 67108864 ≤ rd (onI []) TMG_PROFILE.MAX_KIB (queueOf (onI []) 1048575).profile * 1024) ∧
    ((queueOf (onI []) 1048575).spilled = false ∧ 256 * (hopperCells (queuePkts (onI []) 1048575) + cellsOf (pkAt 7 (.toHall 1))) ≤ hopperLimit (onI []) 1048575 ∧
      cellsOf (pkAt 7 (.toHall 1)) ≤ poolFree (onI []) 1) ∧
    ((fun s : State => queueTarget s ({ pkAt 7 (.toHall 1) with gen := 1, queue := 1048575 }.gen % 2) 1048575 = some (.port 511) ∧
      ({ pkAt 7 (.toHall 1) with gen := 1 }).gen % 2 ≠ genNow s) { onI [] with gen1 := img }) := by
  decide +kernel

theorem hyp_HallsAdmitAndDequeue_2 :
    ((pkAt 7 (.toHall 1)).host = false ∧ (pkAt 7 (.toHall 1)).expired = false ∧ (pkOld 7 (.toHall 1)).expired = true ∧
      queueTarget (onI []) 0 1048575 = some (.port 511)) ∧
    (hallOf 1048575 = 1 ∧ hallOf 5 = 0) ∧
    ((fun s : State => (queueOf s 1048575).attach = none ∧ headOfQueue s 1048575 = some (pkAt 7 (.queue 1048575)) ∧ flag s HID.HALL_ISO 1 = false ∧
      gateOversize s (queuePort s 1048575) (queueOf s 1048575).tc 64 = false ∧ schedules s 1 1048575 = true ∧
      rd s TMG_PROFILE.AGE_MS (queueOf s 1048575).profile = 0) { onI [(TMG_PORT.GATES, 511, 255)] with pkts := [pkAt 7 (.queue 1048575)] }) ∧
    ((fun s : State => schedules s 1 1048575 = false) { onI [(TMG_PORT.GATES, 511, 0)] with pkts := [pkAt 7 (.queue 1048575)] }) ∧
    ((fun s : State => gateOversize s (queuePort s 1048575) (queueOf s 1048575).tc 64 = true)
      { onI [(TMG_PORT.GATE_EN, 511, 1)] with gates := [((511, 0), ⟨[(255, 20)], none⟩)] }) := by
  decide +kernel

theorem hyp_HallsAdmitAndDequeue_3 :
    (headOfQueue { onI [] with pkts := [pkOld 7 (.queue 1048575)] } 1048575 = some (pkOld 7 (.queue 1048575))) ∧
    ((fun s : State => rd s TMG_PROFILE.AGE_MS (queueOf s 1048575).profile ≠ 0 ∧
      rd s TMG_PROFILE.AGE_MS (queueOf s 1048575).profile * 1000000 < residence s (pkAt 7 (.queue 1048575)))
      (onI [(TMG_PROFILE.AGE_MS, 0, 1), (HID.TICKS, 0, 781251)])) := by
  decide +kernel

theorem hyp_SchedulerObeysBucketsAndPriorities_1 :
    ((fun s : State => 1048575 ∈ rivals s 1 1048574 ∧ eligible s 1 1048575 = true ∧ queueParent s 1048575 = queueParent s 1048574 ∧
      (queueOf s 1048575).prio < (queueOf s 1048574).prio)
      { onI [(TMG_PORT.GATES, 511, 255)] with gen0 := { img with queues := [((1048574, 0), .port 511), ((1048575, 0), .port 511)] }, pkts := [pkAt 7 (.queue 1048575), pkAt 8 (.queue 1048574)] }) ∧
    ((fun s : State => 1048575 ∈ rivals s 1 1048574 ∧ eligible s 1 1048575 = true ∧ queueParent s 1048575 = queueParent s 1048574 ∧
      (queueOf s 1048575).prio = (queueOf s 1048574).prio ∧
      roundsOf s (queueNode 1048575) (headLen s 1048575) < roundsOf s (queueNode 1048574) (headLen s 1048574))
      { onI [(TMG_PORT.GATES, 511, 255)] with gen0 := { img with queues := [((1048574, 0), .port 511), ((1048575, 0), .port 511)] }, pkts := [pkAt 7 (.queue 1048575), { pkAt 8 (.queue 1048574) with len := 9000 }],
                                                queues := [((1048574, 0), { QueueS.init 1048574 511 with weight := 1 }), ((1048575, 0), { QueueS.init 1048575 511 with prio := 1, weight := 1 })] }) ∧
    ((fun s : State => headOfQueue s 1048575 = some (pkAt 7 (.queue 1048575)) ∧ maySend s 1 1048575 = true ∧ rivals s 1 1048575 = [] ∧
      flag s TMG_PORT.GATE_EN 511 = false ∧ ∀ id ∈ queuePath s 1048575, peakOpen s id = true)
      { onI [(TMG_PORT.GATES, 511, 255)] with pkts := [pkAt 7 (.queue 1048575)] }) ∧
    (bucketAt 5 2 16 3 = 29 ∧ bucketAt 5 100000 16 1000 = 51200000) ∧
    ((nodeFilled (onI []) (2 ^ 20 + 511)).committed = false ∧ nodePeak (onI []) (2 ^ 20 + 511) ≠ 0 ∧ nodePeak (onI []) (2 * 2 ^ 20) = 0) := by
  decide +kernel

theorem hyp_SchedulerObeysBucketsAndPriorities_2 :
    ((nodeFilled { onI [] with nodes := [((2 * 2 ^ 20, 0), { NodeS.init with cir := 1 })] } (2 * 2 ^ 20)).committed = true) := by
  decide +kernel

theorem hyp_TrafficActs_1 :
    (bitOf (rd (onI [(TMG_PORT.XOFF, 511, 128)]) TMG_PORT.XOFF 511) 7 = true ∧ bitOf (rd (onI []) TMG_PORT.XOFF 511) 7 = false) ∧
    ((fun s : State => flag s TMG_PORT.GATE_EN 511 = true ∧ rd s TMG_PORT.ENTRY 511 + 1 < (gatesOf s 511).active.length)
      { onI [(TMG_PORT.GATE_EN, 511, 1)] with gates := [((511, 0), ⟨[(255, 20), (1, 20)], none⟩)] }) ∧
    ((fun s : State => flag s TMG_PORT.GATE_EN 511 = true ∧ (gatesOf s 511).active.length ≤ rd s TMG_PORT.ENTRY 511 + 1)
      { onI [(TMG_PORT.GATE_EN, 511, 1), (TMG_PORT.ENTRY, 511, 1)] with gates := [((511, 0), ⟨[(255, 20), (1, 20)], none⟩)] }) ∧
    (Meets opTmgQSet (onI []) (cmd 0x60 [(0x10, 255), (0x11, 255), (0x12, 15), (0x14, 255), (0x15, 1), (0x16, 16), (0x18, 255), (0x19, 15)]) (fun _ _ => True)) ∧
    (Meets opTmgNodeSet (onI []) (cmd 0x61 [(0x10, 255), (0x11, 31), (0x12, 32), (0x13, 255), (0x14, 1), (0x15, 16), (0x18, 1)]) (fun _ _ => True)) := by
  decide +kernel

theorem hyp_TrafficActs_2 :
    (Meets opTmgProfileSet (onI []) (cmdP 0x62 [(0x1C, 255)] 32 [(0, 1), (4, 1)]) (fun _ _ => True)) ∧
    (Meets opTmgGateSet (onI []) (cmdP 0x63 [] 16 [(0, 255), (1, 1)]) (fun _ a => bitOf (opdBuf a 3 1) 0 = false)) ∧
    (Meets opTmgGateSet (onI [(TIM_TEV_STAT.ARMED, 63, 1), (TIM_TEV_STAT.PERIODIC, 63, 1), (HID.TEV_PERIOD, 63, 65536000)])
      (cmdP 0x63 [] 24 [(0, 255), (1, 1), (2, 63), (3, 3), (4, 1), (16, 255), (20, 20)]) (fun _ a => bitOf (opdBuf a 3 1) 0 = true ∧ bitOf (opdBuf a 3 1) 1 = true)) ∧
    (Meets opTmgReplSet (onI []) (cmdP 0x64 [(0x1C, 255), (0x1D, 255)] 8 [(0, 5), (4, 255), (5, 255), (6, 15)]) (fun _ _ => True)) ∧
    (Meets opTmgRead (onI []) (cmdP 0x65 [(0x1C, 255), (0x1D, 255), (0x1E, 15)] 96 []) (fun _ a => opdB a 0x1F = 0)) := by
  decide +kernel

theorem hyp_TrafficActs_3 :
    (Meets opTmgRead (onI []) (cmdP 0x65 [(0x1C, 255), (0x1D, 1), (0x1E, 16), (0x1F, 1)] 96 []) (fun _ a => opdB a 0x1F ≠ 0)) ∧
    (Meets opTmgQFlush (onI []) (cmd 0x66 [(0x10, 255), (0x11, 255), (0x12, 15)]) (fun _ _ => True)) := by
  decide +kernel

theorem hyp_EnginesPinsAndLasersAct_1 :
    (flag (on []) EMG_SITE_PRES.PRESENT 63 = false ∧ siteSt (on []) 63 = siteABSENT) ∧
    (flag (on [(EMG_SITE_PRES.PRESENT, 63, 1)]) EMG_SITE_PRES.PRESENT 63 = true ∧ siteSt (on [(EMG_SITE_CTRL.STATE, 63, 1)]) 63 = siteHELD ∧
      siteSt (on [(EMG_SITE_CTRL.STATE, 63, 2)]) 63 = siteRELEASED) ∧
    (1800 < (1801 : BitVec 16).toNat ∧ (1540 : BitVec 16).toNat ≤ 1800 ∧ idClass (1540 : BitVec 16).toNat = some 14 ∧ idClass (60 : BitVec 16).toNat = some 0 ∧
      idClass (1541 : BitVec 16).toNat = none ∧ idClass (59 : BitVec 16).toNat = none) ∧
    (flag (on [(EMG_DAC.HOLDING, 1023, 1)]) EMG_DAC.HOLDING (16 * 63 + 15) = true) ∧
    (alsCounts (on [(EMG_ALS_CFG.EN, 63, 255), (HID.LOS_NOW, 511, 1), (SHF_LANE_STAT.STATE, 511, 5)]) 511 = true) := by
  decide +kernel

theorem hyp_EnginesPinsAndLasersAct_2 :
    (rd (on [(SHF_TX_STAT.ALS, 511, 1)]) SHF_TX_STAT.ALS 511 = 1 ∧ rd (on [(SHF_TX_STAT.ALS, 511, 2)]) SHF_TX_STAT.ALS 511 = 2 ∧
      rd (on [(SHF_TX_STAT.ALS, 511, 1)]) SHF_TX_STAT.ALS 511 ≠ 0) := by
  decide +kernel

theorem hyp_DriveOpcodesComplete_1 :
    (Meets opSiteRelease (on [(EMG_SITE_CTRL.STATE, 63, 1)]) (cmd 0x80 [(0x10, 63)]) (fun s a => siteSt s (opdB a 0x10) = siteHELD)) ∧
    (Meets opSiteRelease (on [(EMG_SITE_CTRL.STATE, 63, 2)]) (cmd 0x80 [(0x10, 63)]) (fun s a => siteSt s (opdB a 0x10) = siteRELEASED)) ∧
    (Meets opSiteHold (on [(EMG_SITE_CTRL.STATE, 63, 2)]) (cmd 0x81 [(0x10, 63)]) (fun s a => siteSt s (opdB a 0x10) = siteRELEASED)) ∧
    (Meets opDacSet (on [(EMG_SITE_CTRL.STATE, 63, 2), (EMG_CEIL.CEIL, 1023, 1023)]) (cmd 0x82 [(0x10, 63), (0x13, 128)])
      (fun _ a => opdBit a (if a.cmd.ptr then 0x1D else 0x11) 0 = false)) ∧
    (Meets opDacSet (on [(EMG_SITE_CTRL.STATE, 63, 2)]) (cmdP 0x82 [(0x1C, 63), (0x1D, 1)] 32 [])
      (fun _ a => opdBit a (if a.cmd.ptr then 0x1D else 0x11) 0 = true)) := by
  decide +kernel

theorem hyp_DriveOpcodesComplete_2 :
    (Meets opDacLoad (on [(EMG_SITE_CTRL.STATE, 63, 2)]) (cmd 0x83 [(0x10, 63)]) (fun _ a => opdB a 0x10 < 64)) ∧
    (Meets opDacLoad (on []) (cmd 0x83 [(0x10, 255)]) (fun _ a => opdB a 0x10 = 0xFF)) ∧
    (Meets opPwmSet (on [(EMG_SITE_CTRL.STATE, 63, 2)]) (cmd 0x84 [(0x10, 63)]) (fun _ a => opdBit a 0x11 0 = false ∧ opdBit a 0x11 1 = false)) ∧
    (Meets opPwmSet (on [(EMG_SITE_CTRL.STATE, 63, 2)]) (cmd 0x84 [(0x10, 63), (0x11, 1)]) (fun _ a => opdBit a 0x11 0 = true)) ∧
    (Meets opAlsRestart (on []) (cmd 0x86 [(0x10, 63), (0x11, 255)]) (fun _ _ => True)) := by
  decide +kernel

theorem hyp_DriveOpcodesComplete_3 :
    (Meets (opCeilWrite true) (on [(HID.SEAL_OK, 0, 1), (EMG_GLB_CFG.CEIL_LEFT, 0, 1)]) (cmdP 0x85 [] 128 []) (fun s _ => flag s HID.SEAL_OK 0 = true)) ∧
    (Meets (opCeilWrite false) (on [(HID.SEAL_OK, 0, 1), (EMG_GLB_CFG.CEIL_LEFT, 0, 1)]) (cmdP 0x85 [] 128 []) (fun _ _ => True)) := by
  decide +kernel

theorem hyp_StrobeNeverPassesACeiling :
    ((fun s : State => siteClearCause s 63 = false ∧ alsShut s 63 15 = false ∧ rd s EMG_DAC.IN_CODE (16 * 63 + 15) ≤ chanCeil s (16 * 63 + 15))
      (on [(EMG_SITE_CTRL.STATE, 63, 2), (EMG_CEIL.CEIL, 1023, 1023), (EMG_DAC.IN_CODE, 1023, 1), (GLB_PIN_STAT.DAC_CLR, 0, 0)])) ∧
    (chanCeil (on [(EMG_DAC.IN_CODE, 1023, 4095), (EMG_CEIL.CEIL, 1023, 4094)]) 1023 < rd (on [(EMG_DAC.IN_CODE, 1023, 4095), (EMG_CEIL.CEIL, 1023, 4094)]) EMG_DAC.IN_CODE 1023) ∧
    (siteClearCause (on [(EMG_SITE_CTRL.STATE, 63, 1)]) 63 = true ∧ siteSt (on [(EMG_SITE_CTRL.STATE, 63, 1)]) 63 ≠ siteRELEASED) ∧
    (strobed (on [(HID.STROBE_AT, 63, 1)]) 63 = true) := by
  decide +kernel

theorem hyp_MonitoringActs_1 :
    ((fun s : State => flag s EMG_MON_SITE.PWM_EN 63 = true ∧ rd s EMG_PWM.OUT_DUTY (8 * 63 + rd s EMG_MON_SITE.PWM_H 63) ≠ 0 ∧
        rd s EMG_PWM.OUT_DUTY (8 * 63 + rd s EMG_MON_SITE.PWM_H 63) ≠ 0xFFFF ∧ monRuns s 63 = true ∧ flag s EMG_MON_STAT.RUNNING 63 = false ∧
        rd s EMG_MON_SITE.PWM_MASK 63 ≠ 0)
      (on [(EMG_SITE_CTRL.STATE, 63, 2), (EMG_MON_SITE.PWM_EN, 63, 1), (EMG_MON_SITE.PWM_H, 63, 7), (EMG_PWM.OUT_DUTY, 511, 65534), (EMG_MON_SITE.PWM_MASK, 63, 32768)])) ∧
    (flag (on [(EMG_MON_SITE.PWM_EN, 63, 1)]) EMG_MON_SITE.PWM_EN 63 = true ∧ rd (on []) EMG_PWM.OUT_DUTY (8 * 63 + 0) = 0) ∧
    ((fun s : State => monRuns s 63 = true ∧ flag s EMG_MON_STAT.RUNNING 63 = true ∧ bitOf (rd s EMG_MON_STAT.PEND 63) (3 - 1) = true ∧
      bitOf (rd s EMG_MON_STAT.PEND 63) (2 - 1) = false) (on [(EMG_SITE_CTRL.STATE, 63, 2), (EMG_MON_STAT.RUNNING, 63, 1), (EMG_MON_STAT.PEND, 63, 4)])) ∧
    ((fun s : State => (bitList (rd s HID.MON_LEFT 63) 16).head? = some 2 ∧ monRuns s 63 = true ∧ flag s EMG_MON_STAT.OWCHECK 63 = false ∧
      clrBit (rd s HID.MON_LEFT 63) 2 ≠ 0) (on [(EMG_SITE_CTRL.STATE, 63, 2), (HID.MON_LEFT, 63, 32772)])) ∧
    ((fun s : State => (bitList (rd s HID.MON_LEFT 63) 16).head? = some 15 ∧ monRuns s 63 = true ∧ clrBit (rd s HID.MON_LEFT 63) 15 = 0)
      (on [(EMG_SITE_CTRL.STATE, 63, 2), (HID.MON_LEFT, 63, 32768)])) := by
  decide +kernel

theorem hyp_MonitoringActs_2 :
    (owMask { on [] with running := [waits 0x8B [63, 32768]] } 63 = some 32768 ∧ [((0 : BitVec 16), (0 : BitVec 16))].length = (bitList 32768 16).length) ∧
    (Meets opMonSiteSet (on [(EMG_SITE_CTRL.STATE, 63, 2)]) (cmd 0x88 [(0x10, 63)]) (fun s a => flag s EMG_MON_STAT.RUNNING (opdB a 0x10) = false)) ∧
    (Meets opMonSiteSet (on [(EMG_SITE_CTRL.STATE, 63, 2), (EMG_MON_STAT.RUNNING, 63, 1)]) (cmd 0x88 [(0x10, 63)]) (fun s a => flag s EMG_MON_STAT.RUNNING (opdB a 0x10) = true)) ∧
    (Meets opMonSet (on [(EMG_SITE_CTRL.STATE, 63, 2)]) (cmdP 0x89 [(0x1C, 63), (0x1D, 15)] 32 [(24, 16)])
      (fun s a => atBoundary (chainOf s (opdB a 0x1C) (opdB a 0x1D)) = true)) ∧
    (Meets opMonSet { on [(EMG_SITE_CTRL.STATE, 63, 2)] with chains := [((63, 15), { Chain.clear with blk := 1 })] } (cmdP 0x89 [(0x1C, 63), (0x1D, 15)] 32 [(24, 16)])
      (fun s a => atBoundary (chainOf s (opdB a 0x1C) (opdB a 0x1D)) = false)) := by
  decide +kernel

theorem hyp_MonitoringActs_3 :
    (Meets opMonConvert (on []) (cmd 0x8A [(0x10, 63)]) (fun _ a => opdB a 0x10 < 64)) ∧
    (Meets opMonConvert (on []) (cmd 0x8A [(0x10, 255)]) (fun _ a => opdB a 0x10 = 0xFF)) ∧
    (Meets opMonOwcheck (on [(EMG_SITE_CTRL.STATE, 63, 2), (EMG_MON_IN.OW_CUR, 1023, 1)]) (cmd 0x8B [(0x10, 63), (0x13, 128)]) (fun _ _ => True)) ∧
    (Meets opMonClear (on []) (cmd 0x8C [(0x10, 63), (0x12, 255), (0x13, 255)]) (fun _ _ => True)) := by
  decide +kernel

theorem hyp_FilterStagesTruncateAndHold :
    ((0 : Int) ≤ 65535 ∧ (65535 : Int) < ((65536 * (1 * 2 ^ 0) : Nat) : Int) ∧ ((65536 * (1 * 2 ^ 0) : Nat) : Int) ≤ 65536 ∧ (-1 : Int) < 0 ∧ 0 < 1) ∧
    ((fun s : State => flag s EMG_MON_IN.CMP0_EN 1023 = true ∧ rd s EMG_MON_IN.CMP0_DIR 1023 = 0 ∧ flag s EMG_MON_RES.CMP0 1023 = false ∧
      5 ≤ rd s EMG_MON_IN.CMP0_LEVEL 1023 ∧ rd s EMG_MON_IN.CMP0_LEVEL 1023 < 6) (on [(EMG_MON_IN.CMP0_EN, 1023, 1), (EMG_MON_IN.CMP0_LEVEL, 1023, 5)])) ∧
    ((fun s : State => flag s EMG_MON_RES.CMP0 1023 = true ∧ rd s EMG_MON_IN.CMP0_LEVEL 1023 ≤ 4 + rd s EMG_MON_IN.CMP0_HYST 1023)
      (on [(EMG_MON_IN.CMP0_LEVEL, 1023, 5), (EMG_MON_IN.CMP0_HYST, 1023, 1), (EMG_MON_RES.CMP0, 1023, 1)])) := by
  decide +kernel

theorem meets_FilterStagesTruncateAndHold_1 : cmps.head? ≠ none := by decide +kernel

theorem hyp_DomainsChangeState_1 :
    (Meets opPwrState (on [(PWR_DOM.STATE, 1087, 2)]) (cmd 0x90 [(0x10, 63), (0x11, 4)]) (fun _ a => opdB a 0x12 = 0)) ∧
    (Meets opPwrState (on [(PWR_DOM.STATE, 63, 2)]) (cmd 0x90 [(0x10, 63), (0x11, 4), (0x12, 2)]) (fun _ a => opdB a 0x12 ≠ 0)) ∧
    ((fun s : State => domValid 1087 = true ∧ changeReady s 1087 = true ∧ rd s HID.DOM_TGT 1087 - 1 = 0) (on [(HID.DOM_TGT, 1087, 1)])) ∧
    ((fun s : State => domValid 1087 = true ∧ changeReady s 1087 = true ∧ rd s HID.DOM_TGT 1087 - 1 ≠ 0) (on [(HID.DOM_TGT, 1087, 3)])) ∧
    ((fun s : State => domValid 791 = true ∧ rd s HID.DOM_TGT 791 = 1 ∧ 2 ≤ domSt s 791 ∧ rd s HID.PG_TRIES 791 < 2)
      (on [(HID.DOM_TGT, 791, 1), (PWR_DOM.STATE, 791, 2), (HID.PG_TRIES, 791, 1)])) := by
  decide +kernel

theorem hyp_DomainsChangeState_2 :
    ((fun s : State => domValid 791 = true ∧ rd s HID.DOM_TGT 791 = 1 ∧ 2 ≤ domSt s 791 ∧ 2 ≤ rd s HID.PG_TRIES 791)
      (on [(HID.DOM_TGT, 791, 1), (PWR_DOM.STATE, 791, 2), (HID.PG_TRIES, 791, 2)])) ∧
    ((fun s : State => domValid 323 = true ∧ rd s PWR_IDLE.IDLE_MS (domKind 323) ≠ 0 ∧ domSt s 323 = 0 ∧ domChanging s 323 = false ∧
      domIdle s 323 = true ∧ pwrCheck s 323 (rd s PWR_IDLE.TARGET (domKind 323)) false = none)
      (on [(PWR_IDLE.IDLE_MS, 1, 1), (PWR_IDLE.TARGET, 1, 1), (GAL_STAT.STATE, 67, 1)])) ∧
    ((fun s : State => domIdle s 323 = true ∧ (pwrCheck s 323 (rd s PWR_IDLE.TARGET (domKind 323)) false).isSome = true)
      (on [(PWR_DOM.HELD, 323, 2), (PWR_IDLE.TARGET, 1, 1), (GAL_STAT.STATE, 67, 1)])) ∧
    (Meets opPadRelease (on [(EMG_SITE_CTRL.STATE, 63, 3)]) (cmd 0x91 [(0x10, 63)]) (fun _ _ => True)) ∧
    (Meets opDomainReset (on []) (cmd 0x92 [(0x10, 63)]) (fun s a => domChanging s (opd a 0x10 2) = false)) := by
  decide +kernel

theorem hyp_DomainsChangeState_3 :
    (Meets opDomainReset (on [(HID.DOM_TGT, 63, 1)]) (cmd 0x92 [(0x10, 63)]) (fun s a => domChanging s (opd a 0x10 2) = true)) ∧
    (Meets opIdlePolicy (on []) (cmd 0x95 [(0x10, 4), (0x11, 3)]) (fun _ a => opdB a 0x10 ≠ 2)) ∧
    (Meets opIdlePolicy (on []) (cmd 0x95 [(0x10, 2), (0x11, 2)]) (fun _ a => opdB a 0x10 = 2)) ∧
    (Meets opStandby (on []) (cmd 0x96 [(0x10, 1)]) (fun s a => opdBit a 0x10 0 = true ∧ rd s PWR_STATUS.DEV_STATE 0 ≠ 1)) ∧
    (Meets opStandby (on [(PWR_STATUS.DEV_STATE, 0, 1)]) (cmd 0x96 [(0x10, 1)]) (fun s a => opdBit a 0x10 0 = true ∧ rd s PWR_STATUS.DEV_STATE 0 = 1)) := by
  decide +kernel

theorem hyp_DomainsChangeState_4 :
    (Meets opStandby (on []) (cmd 0x96 []) (fun s a => opdBit a 0x10 0 = false ∧ rd s PWR_STATUS.DEV_STATE 0 ≠ 1)) ∧
    (Meets opStandby (on [(PWR_STATUS.DEV_STATE, 0, 1)]) (cmd 0x96 []) (fun s a => opdBit a 0x10 0 = false ∧ rd s PWR_STATUS.DEV_STATE 0 = 1)) ∧
    (rd (on [(PWR_DOM.HELD, 1087, 1)]) PWR_DOM.HELD 1087 ≠ 0) := by
  decide +kernel

theorem hyp_PerformanceLevelsAndRailsAct_1 :
    (Meets opPlSet (on []) (cmd 0x93 [(0x10, 5), (0x11, 3)]) (fun _ _ => True)) ∧
    (Meets opPwrPolicy (on []) (cmdP 0x94 [] 16 [(0, 188), (1, 2), (2, 80), (3, 1), (4, 228), (7, 70)]) (fun _ _ => True)) ∧
    ((fun s : State => ∀ v ∈ [(740 : BitVec 10), 760], rd s HID.VRM_CMD 5 ≠ 0 ∧ v.toNat ≤ rd s HID.VRM_CMD 5 + 10 ∧ rd s HID.VRM_CMD 5 ≤ v.toNat + 10)
      (on [(HID.VRM_CMD, 5, 750)])) ∧
    ((fun s : State => ∀ v ∈ [(739 : BitVec 10), 761], rd s HID.VRM_CMD 5 ≠ 0 ∧ (rd s HID.VRM_CMD 5 + 10 < v.toNat ∨ v.toNat + 10 < rd s HID.VRM_CMD 5))
      (on [(HID.VRM_CMD, 5, 750)])) ∧
    (rd (on [(HID.VRM_TRIES, 5, 1)]) HID.VRM_TRIES 5 < 2) := by
  decide +kernel

theorem hyp_PerformanceLevelsAndRailsAct_2 :
    (flag (on [(PWR_PL.CHANGING, 5, 1)]) PWR_PL.CHANGING 5 = true ∧ flag (on []) PWR_PL.CHANGING 5 = false) ∧
    (steered (on []) 5 = false ∧ railCap (on []) 5 ≠ 0) := by
  decide +kernel

theorem hyp_ThrottlingActs_1 :
    (flag (on [(PWR_STATUS.THROTTLE, 0, 1)]) PWR_STATUS.THROTTLE 0 = true ∧ flag (on []) PWR_STATUS.THROTTLE 0 = false) ∧
    ((List.replicate 10 (0 : BitVec 16)).length = 10 ∧ (List.replicate 212 (0 : BitVec 16)).length = 212) ∧
    (flag (on [(HID.TH_HOT, 0, 1)]) HID.TH_HOT 0 = true ∧ flag (on []) HID.TH_HOT 0 = false) ∧
    ((fun s : State => flag s HID.TH_HOT 0 = false ∧ rd s PWR_STATUS.EFF_W 0 < rd s PWR_POLICY.LIMIT_W 0 ∧
      tempOf (rd s PWR_STATUS.HOTTEST 0) ≤ (((rd s PWR_POLICY.THR_C 0 - 5) * 8 : Nat) : Int)) (on [(PWR_STATUS.EFF_W, 0, 1599), (PWR_STATUS.HOTTEST, 0, 760)])) ∧
    ((fun s : State => rd s PWR_STATUS.EFF_W 0 < rd s PWR_STATUS.EST_W 0 ∧ ladderDown s = some 0) (on [(PWR_STATUS.EFF_W, 0, 1000), (PWR_STATUS.EST_W, 0, 1001)])) := by
  decide +kernel

theorem hyp_ThrottlingActs_2 :
    ((fun s : State => rd s PWR_STATUS.EFF_W 0 < rd s PWR_STATUS.EST_W 0 ∧ ladderDown s = none ∧ allPl0 s = true ∧ flag s PWR_STATUS.LIMIT_UNMET 0 = false)
      (on ([(PWR_STATUS.EFF_W, 0, 1000), (PWR_STATUS.EST_W, 0, 1001)] ++ (List.range 6).map (fun n => (HID.PL_THR, n, 0))))) ∧
    ((fun s : State => rd s PWR_STATUS.EST_W 0 + 7 ≤ rd s PWR_STATUS.EFF_W 0 ∧ ladderUp (wr s PWR_STATUS.LIMIT_UNMET 0 0) = some 5)
      (on [(PWR_STATUS.EFF_W, 0, 1000), (PWR_STATUS.EST_W, 0, 993), (HID.PL_THR, 5, 1)])) := by
  decide +kernel

theorem hyp_FaultRulesAndMemoryServiceAct_1 :
    (Meets opFltPolicy (on []) (cmd 0xA0 [(0x10, 63)]) (fun _ _ => True)) ∧
    (rd (on [(FLT_SRC.CLASS, 3000, 3)]) FLT_SRC.CLASS 3000 = 3 ∧ 3000 / 256 ≠ 5 ∧ rd (on []) FLT_SRC.CLASS 3000 ≠ 3) ∧
    (Meets opMemRetire (on []) (cmd 0xA1 [(0x10, 7)]) (fun s a => opdB a 0x10 < 8 ∧ retireFree s (opdB a 0x10) = some 0)) ∧
    (Meets opMemRetire (on [(MEM_RETIRE_LIST.VALID, 4608, 1), (MEM_RETIRE_LIST.ADDR, 4608, 7)]) (cmd 0xA1 [(0x10, 9), (0x11, 1)])
      (fun s a => 8 ≤ opdB a 0x10 ∧ retireFree s (opdB a 0x10) = some 1)) ∧
    (copyEntry (on [(HID.COPY, 5119, 1), (MEM_RETIRE_LIST.ADDR, 5119, 77)]) (8 + 1) 77 = some 511) := by
  decide +kernel

theorem hyp_FaultRulesAndMemoryServiceAct_2 :
    (Meets opMemLogClear (on []) (cmd 0xA2 [(0x10, 9)]) (fun _ a => opdB a 0x10 ≠ 0xFF)) ∧
    (Meets opMemLogClear (on []) (cmd 0xA2 [(0x10, 255)]) (fun _ a => opdB a 0x10 = 0xFF)) ∧
    (64 ≤ 64 ∧ tabGet ({ on [] with merge := [((9, 5), 64)] }).merge (9, 5) = some 64) ∧
    (63 < 64 ∧ tabGet ({ on [] with merge := [((9, 5), 63)] }).merge (9, 5) = some 63) ∧
    (winnowReads (on [(MEM_WINNOW.EN, 0, 1)]) 23 5 = true ∧ poisonRead (on [(MEM_WINNOW.EN, 0, 1)]) 23 5 .plain = false) := by
  decide +kernel

theorem hyp_FaultRulesAndMemoryServiceAct_3 :
    ((fun s : State => winnowReads s 9 5 = true ∧ poisonRead (perf s { perfE 0x85 1 with qual := 9, role := 8, addr := 5 }) 9 5 .plain = false)
      (on [(MEM_WINNOW.EN, 0, 1), (MEM_CTRL_STAT.STATE, 9, 1)])) ∧
    ((999 : Fin 1001).val ≠ 1000 ∧ (1000 : Fin 1001).val = 1000) := by
  decide +kernel

theorem hyp_GleaningAndSelfTestAct_1 :
    ((fun s : State => targetOk 3 79 0 = true ∧ powered s = true ∧ bitOf (rd s GLN_CFG.EN 0) 3 = true ∧ tabGet s.slices (3, 2 * 79 + 0) = none ∧
      flag s HID.GLN_SKIP (glnMark 3 (2 * 79 + 0)) = false ∧ retryEarly s 3 (2 * 79 + 0) = false ∧ slicesDone s 3 (2 * 79 + 0) < sliceCount 3 79 ∧ outOfService s 3 (2 * 79 + 0) = true ∧
      sliceMay s 3 = true ∧ (3 ≠ 0 ∨ domSt s (galDom 79) = 0)) (on [(GLN_CFG.EN, 0, 31), (GLN_CFG.MAX_PAR, 0, 1)])) ∧
    ((fun s : State => targetOk 0 67 0 = true ∧ powered s = true ∧ bitOf (rd s GLN_CFG.EN 0) 0 = true ∧ tabGet s.slices (0, 2 * 67 + 0) = none ∧
      flag s HID.GLN_SKIP (glnMark 0 (2 * 67 + 0)) = false ∧ retryEarly s 0 (2 * 67 + 0) = false ∧ slicesDone s 0 (2 * 67 + 0) < sliceCount 0 67 ∧ outOfService s 0 (2 * 67 + 0) = true ∧
      sliceMay s 0 = true ∧ domSt s (galDom 67) ≠ 0 ∧ flag s GLN_CFG.WAKE 0 = true ∧ rd s PWR_DOM.HELD (galDom 67) = 0 ∧ domChanging s (galDom 67) = false)
      (on [(GLN_CFG.EN, 0, 31), (GLN_CFG.MAX_PAR, 0, 1), (GLN_CFG.WAKE, 0, 1), (GAL_STAT.STATE, 67, 1), (PWR_DOM.STATE, 323, 2)])) ∧
    ((fun s : State => targetOk 2 25343 1 = true ∧ powered s = true ∧ bitOf (rd s GLN_CFG.EN 0) 2 = true ∧ tabGet s.slices (2, 2 * 25343 + 1) = none ∧
      flag s HID.GLN_SKIP (glnMark 2 (2 * 25343 + 1)) = false ∧ retryEarly s 2 (2 * 25343 + 1) = false ∧ slicesDone s 2 (2 * 25343 + 1) < sliceCount 2 25343 ∧ outOfService s 2 (2 * 25343 + 1) = false)
      (on [(GLN_CFG.EN, 0, 31), (DDL_LANE.STATE, 50687, 3)])) ∧
    (retryEarly (on [(HID.GLN_ABORT_AT, glnMark 3 (2 * 79 + 0), 1)]) 3 (2 * 79 + 0) = true) ∧
    ((fun s : State => tabGet s.slices (3, 2 * 79 + 0) = some 5 ∧ idleBroken s 3 (5 / 4) = false) { on [] with slices := [((3, 158), 5)] }) := by
  decide +kernel

theorem hyp_GleaningAndSelfTestAct_2 :
    ((fun s : State => tabGet s.slices (4, 2 * 2 + 0) = some 40 ∧ idleBroken s 4 (40 / 4) = false) { on [(HID.IDLE_AT, 0, 10)] with slices := [((4, 4), 40)] }) ∧
    ((fun s : State => tabGet s.slices (3, 2 * 79 + 0) = some 5 ∧ flag s HID.GLN_WD (glnMark 3 (2 * 79 + 0)) = false) { on [] with slices := [((3, 158), 5)] }) ∧
    ((fun s : State => tabGet s.slices (3, 2 * 79 + 0) = some 5 ∧ flag s HID.GLN_WD (glnMark 3 (2 * 79 + 0)) = true)
      { on [(HID.GLN_WD, glnMark 3 158, 1)] with slices := [((3, 158), 5)] }) ∧
    (Meets opGlnRun (on [(GLN_CFG.MAX_PAR, 0, 1)]) (cmd 0xA6 [(0x10, 3), (0x12, 79)])
      (fun s a => bitOf (rd s GLN_CFG.EN 0) (runClass a) = true ∧
        ((opdB a 0x10 ≠ 0 ∧ opdB a 0x10 ≠ 4) ∨ opdB a 0x15 = slicesDone s (runClass a) (runKey a)))) ∧
    (Meets opGlnRun (on [(GLN_CFG.MAX_PAR, 0, 1), (HID.TICKS, 0, 781250)]) (cmd 0xA6 [(0x10, 4), (0x12, 2)])
      (fun s a => bitOf (rd s GLN_CFG.EN 0) (runClass a) = true ∧
        ((opdB a 0x10 ≠ 0 ∧ opdB a 0x10 ≠ 4) ∨ opdB a 0x15 = slicesDone s (runClass a) (runKey a)))) := by
  decide +kernel

theorem hyp_GleaningAndSelfTestAct_3 :
    (Meets opGlnRun (on [(GLN_CFG.MAX_PAR, 0, 1), (GAL_STAT.STATE, 67, 1)]) (cmd 0xA6 [(0x10, 0), (0x12, 67), (0x15, 199)])
      (fun s a => bitOf (rd s GLN_CFG.EN 0) (runClass a) = false ∨
        ((opdB a 0x10 = 0 ∨ opdB a 0x10 = 4) ∧ opdB a 0x15 ≠ slicesDone s (runClass a) (runKey a)))) ∧
    (Meets opGlnRetest (on [(GLN_CFG.MAX_PAR, 0, 1), (HID.GLN_SRAM_FAIL, 79, 1)]) (cmd 0xA7 [(0x10, 3), (0x12, 79)]) (fun _ _ => True)) ∧
    (Meets opCalRun (on [(EMG_SITE_CTRL.STATE, 63, 2)]) (cmd 0xA8 [(0x10, 2), (0x11, 63), (0x13, 1), (0x14, 63)]) (fun _ a => opdBit a 0x13 0 = true)) ∧
    (Meets opCalRun (on [(EMG_SITE_CTRL.STATE, 63, 2)]) (cmd 0xA8 [(0x10, 1), (0x11, 63)])
      (fun s a => opdBit a 0x13 0 = false ∧ rd (calStart s (calTarget a) (opdB a 0x12)) GLN_CAL.STATE (calTarget a) = 1)) ∧
    (Meets opCalRun (on []) (cmd 0xA8 [(0x10, 0), (0x11, 63)])
      (fun s a => opdBit a 0x13 0 = false ∧ rd (calStart s (calTarget a) (opdB a 0x12)) GLN_CAL.STATE (calTarget a) ≠ 1)) := by
  decide +kernel

theorem hyp_GleaningAndSelfTestAct_4 :
    (Meets opCalAbort (on [(GLN_CAL.STATE, 191, 1)]) (cmd 0xA9 [(0x10, 2), (0x11, 63)]) (fun s a => rd s GLN_CAL.STATE (calTarget a) = 1)) ∧
    (Meets opCalAbort (on []) (cmd 0xA9 [(0x10, 2), (0x11, 63)]) (fun s a => rd s GLN_CAL.STATE (calTarget a) ≠ 1)) ∧
    (Meets opAgeReport (on [(HID.WEAR_HOURS, 0, 1)]) (cmdP 0xAA [] 368 []) (fun s _ => rd s HID.WEAR_HOURS 0 ≠ 0)) ∧
    (Meets opAgeReport (on []) (cmdP 0xAA [] 368 []) (fun s _ => rd s HID.WEAR_HOURS 0 = 0)) := by
  decide +kernel

theorem hyp_CalibrationAndAgeingEventsAct :
    ((fun s : State => rd s GLN_CAL.STATE 63 = 1 ∧ calCurrent s 63 = some (511, 135))
      (on [(GLN_CAL.STATE, 63, 1), (HID.CAL_LANES, 63, 128), (HID.CAL_NOW, 511, 136), (SHF_LANE_STAT.STATE, 511, 5)])) ∧
    ((2 : Fin 3).val ≠ 0 ∧ rd (on [(GLN_CAL.STATE, 191, 1)]) GLN_CAL.STATE (2 * 64 + 63) = 1) ∧
    ((fun s : State => rd s GLN_CAL.STATE (2 * 64 + 63) = 2 ∧ calStale s (2 * 64 + 63) 81 = true ∧ flag s GLN_CFG.AUTO_RECAL 0 = false)
      (on [(GLN_CAL.STATE, 191, 2), (GLN_CFG.AUTO_RECAL, 0, 0)])) ∧
    ((fun s : State => rd s GLN_CAL.STATE (2 * 64 + 63) = 2 ∧ calStale s (2 * 64 + 63) 81 = true ∧ flag s GLN_CFG.AUTO_RECAL 0 = true ∧ calReady s (2 * 64 + 63) = true)
      (on [(GLN_CAL.STATE, 191, 2), (GLN_CFG.AUTO_RECAL, 0, 1), (EMG_SITE_CTRL.STATE, 63, 2)])) ∧
    (calStale (on []) (2 * 64 + 63) 80 = false) := by
  decide +kernel

theorem hyp_PerformanceMonitorActs_1 :
    (Meets opPmuSet (on []) (cmdP 0xB0 [(0x1C, 255), (0x1D, 1)] 16 [(2, 15)]) (fun _ _ => True)) ∧
    (Meets opPmuRun (on []) (cmd 0xB1 [(0x10, 255), (0x11, 255)]) (fun _ a => opd a 0x10 2 ≠ 0)) ∧
    (Meets opPmuRun (on []) (cmd 0xB1 []) (fun _ a => opd a 0x10 2 = 0)) ∧
    (Meets opPmuTagSet (on []) (cmd 0xB2 [(0x10, 7), (0x11, 24), (0x12, 255), (0x13, 1)]) (fun _ _ => True)) ∧
    (Meets opTraceCtrl (on []) (cmd 0xB3 [(0x10, 3)]) (fun _ a => opdBit a 0x10 2 = false)) := by
  decide +kernel

theorem hyp_PerformanceMonitorActs_2 :
    (Meets opTraceCtrl (on []) (cmd 0xB3 [(0x10, 4)]) (fun _ a => opdBit a 0x10 2 = true)) ∧
    (Meets opBwSet (on []) (cmd 0xB4 [(0x10, 255), (0x11, 1), (0x12, 1), (0x14, 1)]) (fun _ _ => True)) ∧
    (Meets opBwClear (on []) (cmd 0xB5 [(0x10, 255), (0x11, 1)]) (fun _ a => opd a 0x10 2 ≠ 0xFFFF)) ∧
    (Meets opBwClear (on []) (cmd 0xB5 [(0x10, 255), (0x11, 255)]) (fun _ a => opd a 0x10 2 = 0xFFFF)) ∧
    ((fun s : State => (⟨32768, true, false, 0⟩ : PmuRun).clear = false ∧ tabGet s.pmuRuns (15, 0) = some ⟨32768, true, false, 0⟩ ∧ 0 ≤ localTime s)
      { on [] with pmuRuns := [((15, 0), ⟨32768, true, false, 0⟩)] }) := by
  decide +kernel

theorem hyp_PerformanceMonitorActs_3 :
    ((fun s : State => (⟨32768, true, true, 0⟩ : PmuRun).clear = true ∧ tabGet s.pmuRuns (15, 0) = some ⟨32768, true, true, 0⟩ ∧ 0 ≤ localTime s)
      { on [] with pmuRuns := [((15, 0), ⟨32768, true, true, 0⟩)] }) ∧
    ((fun s : State => tabGet s.pmuRuns (15, 0) = some ⟨32768, true, false, 65536⟩ ∧ localTime s < 65536) { on [] with pmuRuns := [((15, 0), ⟨32768, true, false, 65536⟩)] }) ∧
    ((fun s : State => tabGet s.pmuRuns (rd s PMU_CFG.GROUP 511, 0) = none) (on [(PMU_CFG.GROUP, 511, 15)])) ∧
    (rd (on [(PMU_BW.W_US, 511, 0)]) PMU_BW.W_US 511 = 0) ∧
    ((fun s : State => (rd s HID.TICKS 0 - rd s HID.BW_AT 511) * 4 < rd s PMU_BW.W_US 511 * 3125)
      (on [(PMU_BW.W_US, 511, 4), (HID.TICKS, 0, 3124)])) := by
  decide +kernel

theorem hyp_PerformanceMonitorActs_4 :
    ((fun s : State => rd s PMU_BW.W_US 511 ≠ 0 ∧ rd s PMU_BW.W_US 511 * 3125 ≤ (rd s HID.TICKS 0 - rd s HID.BW_AT 511) * 4)
      (on [(PMU_BW.W_US, 511, 4), (HID.TICKS, 0, 3126), (HID.BW_AT, 511, 1)])) := by
  decide +kernel

theorem hyp_CorridorsAct_1 :
    ((256 : BitVec 9).toNat ≤ 256 ∧ 256 < (257 : BitVec 9).toNat ∧ rd (on [(DDL_STAT.STATE, 47, 1)]) DDL_STAT.STATE (2 * 23 + 1) = 1) ∧
    ((fun s : State => rd s DDL_STAT.STATE (2 * 23) = 1 ∧ rd s HID.DDL_TRIES 23 < 2) (on [(DDL_STAT.STATE, 46, 1), (HID.DDL_TRIES, 23, 1)])) ∧
    ((fun s : State => rd s DDL_STAT.STATE (2 * 23) = 1 ∧ 2 ≤ rd s HID.DDL_TRIES 23) (on [(DDL_STAT.STATE, 46, 1), (HID.DDL_TRIES, 23, 2)])) ∧
    ((fun s : State => dirUp s (2 * 23 + 1) = true ∧ rd s DDL_LANE.STATE ((2 * 23 + 1) * 1056 + 1055) = 0 ∧ rd s HID.DDL_MISS ((2 * 23 + 1) * 1056 + 1055) = 0)
      (on [(DDL_STAT.STATE, 47, 3), (DDL_LANE.STATE, 50687, 0)])) ∧
    ((fun s : State => dirUp s (2 * 23 + 1) = true ∧ rd s DDL_LANE.STATE ((2 * 23 + 1) * 1056 + 1055) = 0 ∧ rd s HID.DDL_MISS ((2 * 23 + 1) * 1056 + 1055) = 1)
      (on [(DDL_STAT.STATE, 47, 4), (DDL_LANE.STATE, 50687, 0), (HID.DDL_MISS, 50687, 1)])) := by
  decide +kernel

theorem hyp_CorridorsAct_2 :
    ((fun s : State => pktOf s 7 = some (pkAt 7 (.fromMac 511)) ∧ crosses 7 (pkAt 7 (.fromMac 511)) = some 0) { on [] with pkts := [pkAt 7 (.fromMac 511)] }) ∧
    (crosses 23 { pkAt 7 (.egress 67) with queue := 1048575 } = some 1) ∧
    (rd (on [(HID.DDL_RETRY, 47, 14)]) HID.DDL_RETRY (2 * 23 + 1) < 15 ∧ 15 ≤ rd (on [(HID.DDL_RETRY, 47, 15)]) HID.DDL_RETRY (2 * 23 + 1)) ∧
    (ddlSpare (on ((List.range 32).map (fun n => (DDL_LANE.STATE, 47 * 1056 + 1024 + n, 3)))) (2 * 23 + 1) = none ∧ (ddlSpare (on []) (2 * 23 + 1)).isSome = true) ∧
    ((fun s : State => rd s HID.DDL_FROM (2 * 23 + 1) = 1055 + 1 ∧ rd s HID.DDL_TO (2 * 23 + 1) = 1024 + 1) (on [(HID.DDL_FROM, 47, 1056), (HID.DDL_TO, 47, 1025)])) := by
  decide +kernel

theorem hyp_LaneAndCeilingRowsAnswerNext_1 :
    (rd (st [(HID.BOOT_STEP, 0, 4)]) HID.BOOT_STEP 0 = 4 ∧ booting (st [(HID.BOOT_STEP, 0, 4)]) = true) ∧
    ((fun s : State => rd s HID.BOOT_STEP 0 = 4 ∧ booting s = true ∧ ceilPick s true false = some ([((63, 0), ⟨[], [], [], [], false⟩)], 4095) ∧
      4095 = ceilUsed s + 1)
      { st [(HID.BOOT_STEP, 0, 4), (HID.SEAL_OK, 0, 1), (HID.CEIL_CNT_A, 0, 4095), (EMG_GLB_CFG.CEIL_LEFT, 0, 1)] with
        ceilA := [((63, 0), ⟨[], [], [], [], false⟩)] }) ∧
    (Meets opLaneMode (on []) (cmd 0x50 [(0x10, 63), (0x11, 255), (0x12, 4), (0x13, 1)]) (fun _ _ => True)) ∧
    (Meets opLaneRestart (on []) (cmd 0x51 [(0x10, 63), (0x11, 255)]) (fun _ _ => True)) ∧
    ((fun s : State => laneSt s 511 = laneACQUIRE ∧ flag s SHF_LANE_STAT.WAIT_SYNTH 511 = false ∧ flag s HID.LANE_CONFIRM 511 = false ∧
      rd s SHF_LANE_STAT.MODE 511 = 3) (on [(SHF_LANE_STAT.STATE, 511, 2), (SHF_LANE_STAT.MODE, 511, 3)])) := by
  decide +kernel

theorem hyp_LaneAndCeilingRowsAnswerNext_2 :
    ((fun s : State => laneSt s 511 = laneACQUIRE ∧ flag s SHF_LANE_STAT.WAIT_SYNTH 511 = false ∧ flag s HID.LANE_CONFIRM 511 = false ∧
      rd s SHF_LANE_STAT.MODE 511 = 4) (on [(SHF_LANE_STAT.STATE, 511, 2), (SHF_LANE_STAT.MODE, 511, 4)])) ∧
    ((fun s : State => laneSt s 511 = laneACQUIRE ∧ ¬ (Format.standard = Format.training ∧ nativeFam (rd s SHF_LANE_STAT.MODE 511) = true) ∧
      ¬ (Format.standard = Format.standard ∧ rd s SHF_LANE_STAT.MODE 511 = 4)) (on [(SHF_LANE_STAT.STATE, 511, 2), (SHF_LANE_STAT.MODE, 511, 2)])) ∧
    ((fun s : State => laneSt s 511 = laneLISTEN ∧ flag s HID.BACKOFF 511 = true ∧ domSt s (sheafDom (511 / 8)) = 0)
      (on [(SHF_LANE_STAT.STATE, 511, 1), (HID.BACKOFF, 511, 1)])) ∧
    ((fun s : State => laneSt s 511 = laneLISTEN ∧ domSt s (sheafDom (511 / 8)) = 0 ∧ detects s 511 = true)
      (on [(SHF_LANE_STAT.STATE, 511, 1), (EMG_SITE_CTRL.STATE, 63, 2)])) := by
  decide +kernel


/-! ## Ill-formed commands, one for each check of WellFormed -/

/-- A command entry that is well formed. -/
def good : Cmd := (cmd 0 []).cmd

theorem test_wf_entry : good.wf = true ∧ Instr.wf (.sqDoorbell 0 1 [good]) = true ∧ Instr.wf (.sqDoorbell 0 1 [{ good with opcode := 256 }]) = false ∧
    ({ good with rsvd := 16 }).wf = false ∧ ({ good with tag := 65536 }).wf = false ∧ ({ good with landing := 65536 }).wf = false ∧
    ({ good with aux := 65536 }).wf = false ∧ ({ good with seq := 18446744073709551616 }).wf = false ∧
    ({ good with payload := [] }).wf = false ∧ ({ good with buf := [0] }).wf = false ∧ ({ good with ptr := true, buf := bts 7 [] }).wf = false ∧
    ({ good with ptr := true, buf := bts 8 [] }).wf = true := by decide +kernel

theorem test_wf_buffer (b : List Byte) (h : b.length = 16777217) : ({ good with ptr := true, buf := b }).wf = false := by simp [Cmd.wf, h]

theorem test_wf_host : Instr.wf (.puntFromHost 0 ⟨65536, false, 0, []⟩ true) = false ∧ Instr.wf (.puntFromHost 0 ⟨0, false, 4294967296, []⟩ true) = false ∧
    Instr.wf (.puntFromHost 0 ⟨0, false, 0, []⟩ true) = true ∧ Instr.wf (.mmioWriteDrop false 0 65 0) = false ∧
    Instr.wf (.mmioAllOnesRead false 0 65 false) = false ∧
    Instr.wf (.vstOpen []) = false ∧ Instr.wf (.vstProve []) = false ∧ Instr.wf (.vstEnrol []) = false ∧
    Instr.wf (.landingFire [(65536, 0)]) = false ∧ Instr.wf (.generationDrained [(65536, 0)]) = false ∧
    Instr.wf (.drainExpired [(65536, 0)]) = false := by decide +kernel

theorem test_wf_punt_frame (n : Nat) (h : 16384 < n) : Instr.wf (.puntFromHost 0 ⟨0, false, 0, List.replicate n 0⟩ true) = false := by
  simp [Instr.wf, PuntDesc.wf, h]

theorem test_wf_lane : Instr.wf (.clipWindowEnd 0 16777217) = false ∧ Instr.wf (.qualUpdate 0 0 4294967296 0 0) = false ∧
    Instr.wf (.rxCaptureDone 0 []) = false ∧ Instr.wf (.probeComplete 0 65536 0) = false ∧ Instr.wf (.probeComplete 0 0 5) = false ∧
    Instr.wf (.probeComplete 0 0 255) = true ∧ Instr.wf (.shapeMeasureDone 0 65536) = false ∧ Instr.wf (.loadMeasureDone 0 []) = false ∧
    Instr.wf (.loadMeasureDone 0 (List.replicate 255 16)) = false ∧ Instr.wf (.confirmWindowEnd 0 1 0 2 0) = false ∧
    Instr.wf (.confirmWindowEnd 0 1 545 0 0) = false ∧ Instr.wf (.alignmentMarkerRx 0 [] false 0) = false := by decide +kernel

theorem test_wf_training : (hdr 0 0 []).wf = true ∧ { hdr 0 0 [] with version := 256 }.wf = false ∧ { hdr 0 0 [] with phase := 256 }.wf = false ∧
    { hdr 0 0 [] with probe := 256 }.wf = false ∧ { hdr 0 0 [] with ack := 65536 }.wf = false ∧
    { hdr 0 0 [] with fill := bts 161 [] }.wf = false ∧ Instr.wf (.idle 0 (hdr 65536 0 [])) = false ∧
    Instr.wf (.hello 0 (hdr 65536 0 []) ⟨0, false, false, 0, 0, 0, 0, 0⟩) = false ∧ Instr.wf (.hello 0 (hdr 0 0 []) ⟨256, false, false, 0, 0, 0, 0, 0⟩) = false ∧
    Instr.wf (.hello 0 (hdr 0 0 []) ⟨0, false, false, 256, 0, 0, 0, 0⟩) = false ∧ Instr.wf (.hello 0 (hdr 0 0 []) ⟨0, false, false, 0, 256, 0, 0, 0⟩) = false ∧
    Instr.wf (.hello 0 (hdr 0 0 []) ⟨0, false, false, 0, 0, 4294967296, 0, 0⟩) = false ∧
    Instr.wf (.hello 0 (hdr 0 0 []) ⟨0, false, false, 0, 0, 0, 256, 0⟩) = false ∧ Instr.wf (.hello 0 (hdr 0 0 []) ⟨0, false, false, 0, 0, 0, 0, 256⟩) = false ∧
    Instr.wf (.report 0 (hdr 0 0 []) 65536 false 0) = false ∧ Instr.wf (.report 0 (hdr 0 0 []) 0 false 5) = false ∧
    Instr.wf (.shapeReq 0 (hdr 0 0 []) 256 (List.replicate 15 0) (List.replicate 64 0)) = false ∧
    Instr.wf (.shapeReq 0 (hdr 0 0 []) 0 [] (List.replicate 64 0)) = false ∧ Instr.wf (.shapeReq 0 (hdr 0 0 []) 0 (List.replicate 15 0) []) = false ∧
    Instr.wf (.shapeReq 0 (hdr 0 0 []) 0 (List.replicate 15 512) (List.replicate 64 0)) = false ∧
    Instr.wf (.shapeReq 0 (hdr 0 0 []) 0 (List.replicate 15 (-512)) (List.replicate 64 (-129))) = false ∧
    Instr.wf (.shapeReq 0 (hdr 0 0 []) 0 (List.replicate 15 511) (List.replicate 64 127)) = true := by decide +kernel

theorem test_wf_training_end : Instr.wf (.shapeAck 0 (hdr 0 0 []) 256 true) = false ∧ Instr.wf (.shapeDone 0 (hdr 0 0 []) 65536) = false ∧
    Instr.wf (.bits 0 (hdr 0 0 []) 0 256 (List.replicate 128 0)) = false ∧ Instr.wf (.bits 0 (hdr 0 0 []) 1 0 (List.replicate 128 0)) = false ∧
    Instr.wf (.bits 0 (hdr 0 0 []) 1 0 (List.replicate 127 16)) = false ∧ Instr.wf (.bits 0 (hdr 0 0 []) 1 0 (List.replicate 127 15)) = true ∧
    Instr.wf (.switch 0 (hdr 0 0 []) 65536 0 0) = false ∧ Instr.wf (.switch 0 (hdr 0 0 []) 0 256 0) = false ∧ Instr.wf (.switch 0 (hdr 0 0 []) 0 0 256) = false ∧
    Instr.wf (.abort 0 (hdr 0 0 []) 256) = false ∧
    Instr.wf (.txBoundaryUpdate 0 (List.replicate 513 ⟨true, 0⟩)) = false := by decide +kernel

theorem test_wf_coding : Instr.wf (.codewordDecoded 0 ⟨true, 1, 0, 0⟩) = false ∧ Instr.wf (.codewordDecoded 0 ⟨true, 0, 1, 0⟩) = false ∧
    Instr.wf (.codewordDecoded 0 ⟨false, 16, 16, 0⟩) = false ∧ Instr.wf (.codewordDecoded 0 ⟨false, 2, 1, 0⟩) = false ∧
    Instr.wf (.codewordDecoded 0 ⟨false, 2, 21, 0⟩) = false ∧ Instr.wf (.codewordDecoded 0 ⟨false, 15, 150, 0⟩) = true := by decide +kernel

/-- A frame of 64 bytes, in the clear. -/
def rx : RxFrame := ⟨64, [], true, false, false, false, none, 0, 0, true⟩

theorem test_wf_ports : rx.wf = true ∧ { rx with data := bts 65 [] }.wf = false ∧ { rx with tagged := true }.wf = false ∧
    { rx with an := 4 }.wf = false ∧ { rx with pn := 18446744073709551616 }.wf = false ∧ { rx with sci := some 18446744073709551616 }.wf = false ∧
    Instr.wf (.pfcFrameRx 0 [(1, 0), (1, 5)]) = false ∧ Instr.wf (.mkpduRx 0 ⟨[], 0, 18446744073709551616, 0, true, none, true, true⟩) = false ∧
    Instr.wf (.mkpduRx 0 ⟨[], 0, 0, 256, true, none, true, true⟩) = false ∧ Instr.wf (.mkpduRx 0 ⟨[], 0, 0, 0, true, some (1, 4, bts 40 []), true, true⟩) = false ∧
    Instr.wf (.mkpduRx 0 ⟨[], 0, 0, 0, true, some (1, 3, []), true, true⟩) = false ∧ Instr.wf (.mkaLifeExpire 0 18446744073709551616) = false := by
  decide +kernel

/-- An operation of one unit on a container. -/
def unit1 (c : Nat) : AluChain := ⟨.copy, [(.imm 0, .imm 0, c)], 0, .always, none, none⟩

theorem test_wf_units : (unit1 128).wf = true ∧ (unit1 127).wf = false ∧ (unit1 1024).wf = false ∧ (unit1 24).wf = true ∧
    { unit1 128 with units := [] }.wf = false ∧ { unit1 128 with units := List.replicate 9 (.imm 0, .imm 0, 128) }.wf = false ∧
    { unit1 128 with sh := 8 }.wf = false ∧ unitsOk [unit1 128, unit1 128] = false ∧ unitsOk [unit1 128, unit1 129] = true ∧
    unitsOk ((List.range 129).map (fun n => unit1 (128 + n))) = false := by decide +kernel

theorem test_wf_flight : fl.wf 24 = true ∧ { fl with hwDrop := 256 }.wf 24 = false ∧ { fl with insert := List.replicate 129 0 }.wf 24 = false ∧
    { fl with remove := 129 }.wf 24 = false ∧ { fl with steps := List.replicate 17 ⟨[], [], []⟩ }.wf 16 = false ∧
    { fl with parser := List.replicate 257 ⟨[], [], []⟩ }.wf 24 = false ∧
    { fl with parser := [⟨[], [0, 1, 2, 3, 4], []⟩] }.wf 24 = false ∧ { fl with parser := [⟨[(0, 0)], [], []⟩] }.wf 24 = false ∧
    { fl with steps := [⟨List.replicate 5 ⟨0, [], [], []⟩, [], []⟩] }.wf 24 = false ∧
    { fl with steps := [⟨[⟨256, [], [], []⟩], [], []⟩] }.wf 24 = false ∧ { fl with steps := [⟨[⟨0, [], [], List.replicate 65 []⟩], [], []⟩] }.wf 24 = false ∧
    { fl with steps := [⟨[], List.replicate 3 ⟨.crc32, 0, [], 128⟩, []⟩] }.wf 24 = false ∧
    { fl with steps := [⟨[], [⟨.crc32, 0, [], 1021⟩], []⟩] }.wf 24 = false := by decide +kernel

theorem test_wf_service : Instr.wf (.thermalSample []) = false ∧ Instr.wf (.pmAlert []) = false ∧ Instr.wf (.dramTempSample []) = false ∧
    Instr.wf (.retireRowCopyDone 0 46875000) = false ∧ (⟨5, 0, 0⟩ : GleanTarget).wf = false ∧ (⟨2, 0, 2⟩ : GleanTarget).wf = false ∧
    Instr.wf (.gleanSliceStart ⟨5, 0, 0⟩) = false ∧ Instr.wf (.wearAccountWrite [] [] 0) = false ∧
    Instr.wf (.wearAccountWrite (List.replicate 68 0) [] 0) = false ∧ Instr.wf (.corridorStart 0 0 [5, 5] 0 0) = false ∧
    Instr.wf (.monOwcheckDone 0 (List.replicate 17 (0, 0))) = false := by decide +kernel

/-! ## Results worked out from the rules and the spec's own worked examples -/

/-- The state a command leaves. -/
def nx (o : Host.Outcome State Fault Refusal) : State :=
  match o with
  | .next s => s
  | _ => State.reset

/-- A step on an empty queue is one clock tick once power-on reset has been released (log entries 1 and 2). -/
theorem test_step_idle : rd (nx (step (on [(HID.POR_DONE, 0, 1)]))) HID.TICKS 0 = 1 ∧ rd (nx (step (on []))) HID.TICKS 0 = 0 := by
  decide +kernel

/-- The command at the front runs, and the rest of the queue stays. -/
theorem test_step_front :
    rd (nx (step { on [] with pending := [.fecWindowEnd 1, .escalationWindowExpire 3] })) HID.TICKS 0 = 0 ∧
    (nx (step { on [(FLT_ESC.COUNT, 3, 7)] with pending := [.escalationWindowExpire 3] })).pending = [] ∧
    rd (nx (step { on [(FLT_ESC.COUNT, 3, 7)] with pending := [.escalationWindowExpire 3] })) FLT_ESC.COUNT 3 = 0 := by decide +kernel

/-- No row of the table has bits. -/
theorem test_no_word : decodeTableWord 32 0 = none ∧ (on []).withFetchWord 32 0 = on [] := ⟨rfl, rfl⟩

/-- The example of chapter 18: CEIL 36 000 at gain 2 is code 2 949; code 0xC00 is refused INVALID, DETAIL 0; 0x99A passes. -/
theorem test_ceiling_of_site_9 :
    ceilCode 36000 true = 2949 ∧
    opDacSet.check (on [(EMG_SITE_CTRL.STATE, 9, 2), (EMG_CEIL.CEIL, 144, 36000), (EMG_CEIL.GAIN2, 144, 1)])
      (cmd 0x82 [(0x10, 9), (0x12, 1), (0x14, 0), (0x15, 0xC)]) = some ⟨.invalid, 0, none, false⟩ ∧
    opDacSet.check (on [(EMG_SITE_CTRL.STATE, 9, 2), (EMG_CEIL.CEIL, 144, 36000), (EMG_CEIL.GAIN2, 144, 1)])
      (cmd 0x82 [(0x10, 9), (0x12, 1), (0x14, 0x9A), (0x15, 0x9)]) = none := by decide +kernel

/-- The example of chapter 7: -537 ppm of BASE is held at -703 687 441; -37 ppm is -52 072 871 and passes. -/
theorem test_rate_clamp : clampDelta (on [(TIM_INCR.BASE, 0, 1407374883553)]) (-755760312) = -703687441 ∧
    clampDelta (on [(TIM_INCR.BASE, 0, 1407374883553)]) (-52072871) = -52072871 := by decide +kernel

/-- The window of the example of chapter 12: 2 924 517 corrected symbols in 67 108 864 codewords. SER_PPB is rounded down
(R283; the example rounds SER first and prints 80 108); TAIL reads 6, and DEG stays 0. -/
theorem test_fec_window :
    let s := nx (exec (.fecWindowEnd 137) (on [(SHF_FEC_STAT.LOCK, 137, 1), (HID.FEC_WIN_CW, 137, 67108864),
      (HID.FEC_WIN_SYM, 137, 2924517), (HID.FEC_WIN_TAIL, 137, 6), (SHF_FEC_CFG.DEG_PPB, 137, 500000)]))
    rd s SHF_FEC_WIN.SER_PPB 137 = 80107 ∧ rd s SHF_FEC_WIN.TAIL 137 = 6 ∧ rd s SHF_FEC_WIN.DEG 137 = 0 := by decide +kernel

/-- The example of chapter 24: lane 517 of corridor 14, direction 0, is replaced by spare 1024. -/
theorem test_corridor_switch :
    let s := nx (exec (.corridorLaneSwitch 14 0) (on [(HID.DDL_FROM, 28, 518), (HID.DDL_TO, 28, 1025), (DDL_STAT.SPARES_FREE, 28, 32)]))
    rd s DDL_LANE.STATE (28 * 1056 + 517) = 3 ∧ rd s DDL_LANE.STATE (28 * 1056 + 1024) = 0 ∧ rd s DDL_CNT.REPLACED 28 = 1 ∧
      rd s DDL_STAT.SPARES_FREE 28 = 31 ∧ flag s FLT_SRC.STICKY 0xA4E = true := by decide +kernel

/-- The example of chapter 21: a corrected error of Granary stack 8 at block 0x00A3_4F2C raises 0x918 and takes log entry 0. -/
theorem test_winnow_corrected :
    let s := nx (exec (.winnowRead .corrected 8 0xA34F2C .plain false 0) (on [(MEM_WINNOW.EN, 0, 1), (MEM_CTRL_STAT.STATE, 8, 1)]))
    flag s FLT_SRC.STICKY 0x918 = true ∧ rd s FLT_SRC.CLASS 0x918 = 1 ∧ rd s MEM_CE_LOG.BLOCK 256 = 0xA34F2C ∧
      rd s MEM_CE_LOG.COUNT 256 = 1 := by decide +kernel

/-- R55, R56: an engine's identity resistor of class 3 reads 400 mV, within 40 mV; outside every window the class stays. -/
theorem test_engine_class : idClass 400 = some 3 ∧ idClass 440 = some 3 ∧ idClass 441 = none ∧ idClass 460 = some 4 := by decide +kernel

/-- The example of chapter 2: DAC_CLR_N low puts every output at its clear code and sets DAC_CLR_SEEN, which stays when it
goes high (R57). -/
theorem test_dac_clear_site (s : State) (k : Nat) : siteClear s k = (siteChans k).foldl (fun t i => toClear t i) s := rfl

theorem test_dac_clear_channel :
    let s := toClear (on [(EMG_DAC.OUT_CODE, 144, 0x99A), (EMG_CEIL.CLEAR, 144, 0x123)]) 144
    rd s EMG_DAC.OUT_CODE 144 = 0x123 ∧ rd s EMG_DAC.CLEARED 144 = 1 := by decide +kernel

/-- R34, R366: a packet takes ceil(L / 256) cells. -/
theorem test_cells : cellsOf { pk 1 with len := 256 } = 1 ∧ cellsOf { pk 1 with len := 257 } = 2 := by decide +kernel

/-- R14: the low half of a 64-bit counter latches the high half that the next read returns. -/
theorem test_counter_half :
    let s := nx (exec (.counterHalfRead (BitVec.ofNat 28 reg_SHF_FEC_CNT.base)) (on [(SHF_FEC_CNT.CW_TOTAL, 0, 0x2FFFFFFF0)]))
    let t := nx (exec (.counterHalfRead (BitVec.ofNat 28 (reg_SHF_FEC_CNT.base + 4))) (wr s SHF_FEC_CNT.CW_TOTAL 0 0x300000000))
    s.out.head? = some (.mmio false reg_SHF_FEC_CNT.base 4 0xFFFFFFF0) ∧
      t.out.head? = some (.mmio false (reg_SHF_FEC_CNT.base + 4) 4 2) := by decide +kernel

/-- The check value of CRC-32, of the bytes 123456789 (R249, R329). -/
theorem test_crc32 : crc32 (bytesOf [0x31, 0x32, 0x33, 0x34, 0x35, 0x36, 0x37, 0x38, 0x39]) = 0xCBF43926 := by decide +kernel

/-- R126: configuration space answers Vendor ID 0xB17C and Device ID 0x0512. -/
theorem test_config_ids : (nx (exec (.pcieConfigRequest (.read .ids)) (on [(HID.BOOT_STEP, 0, 6)]))).out.head? = some (.cfg false 0x0512B17C) := by decide +kernel

/-- R325, R327: a flight that takes the frame's first byte into c128 and adds 1 to it leaves 0x42 where 0x41 stood. -/
theorem test_flight_frame :
    (flightRes (on []) { fl with
      parser := [⟨[(0, 128)], [], []⟩], steps := [⟨[], [], [⟨.add, [(.cont 128, .imm 1, 128)], 0, .always, none, none⟩]⟩] } false
      { pk 7 with data := bts 64 [(0, 0x41)] }).1.frame.head? = some 0x42 := by decide +kernel

/-- R269: the pairs 00, 01, 11, 10 are the levels 0 to 3. -/
theorem test_gray : pam4 [false, false, false, true, true, true, true, false] = [0, 1, 2, 3] := by decide +kernel

end Sys2Proof.Tests
end

/-! PROOFS. The scope of the model: what a write of the register store does, what each kind of counter does, what reset
leaves, and that every step keeps the tables canonical. -/

namespace Sys2Proof

open Sys2Proof.Machine

/-! ## Writes of the register store (R9, R10) -/

/-- Writes change nothing but the places they name. -/
theorem onlyAt_wrs {s : State} {l : List (Fld × Nat × Nat)} {k : List (Fld × Nat)}
    (hl : ∀ e ∈ l, (e.1, e.2.1) ∈ k) : OnlyAt k s (wrs s l) :=
  ⟨wrs_eq l s, fun f i hk => rd_wrs_other l s f i fun e he => hk _ (hl e he)⟩

/-- Settles O7: one write reads back by `rd_wr_same`; its frame is that of a list of one write. -/
theorem fieldsReadBackAndLeaveOthersAlone : Obligations.FieldsReadBackAndLeaveOthersAlone := by
  refine ⟨rd_wr_same, fun s f i v => ?_, fun s f i v => (Keeps0.wr s f i v).canon, fun s l => ?_⟩
  · exact onlyAt_wrs (l := [(f, i, v)]) (by simp)
  · exact onlyAt_wrs fun e he => List.mem_map_of_mem he

/-! ## Counters (R13, R482) -/

/-- The writes of a counter that takes the value v, and whose mark g is set when c holds. -/
def countWrites (g f : Fld) (i v : Nat) (c : Prop) [Decidable c] : List (Fld × Nat × Nat) :=
  (f, i, v) :: if c then [(g, cntPart f i, 1)] else []

theorem bumpBy_eq_countWrites (s : State) (f : Fld) (i n : Nat) : bumpBy s f i n =
    wrs s (countWrites HID.SAT f i (min (rd s f i + n) (2 ^ f.w - 1)) (2 ^ f.w - 1 ≤ rd s f i + n)) := by
  unfold bumpBy countWrites
  by_cases h : 2 ^ f.w - 1 ≤ rd s f i + n
  · simp [h]
  · have hm : min (rd s f i + n) (2 ^ f.w - 1) ≠ 2 ^ f.w - 1 := by omega
    simp [h, hm]

theorem stat_eq_countWrites (s : State) (f : Fld) (i n : Nat) : stat s f i n =
    wrs s (countWrites HID.WRAP f i (rd s f i + n) (2 ^ f.w ≤ rd s f i + n)) := by
  unfold stat countWrites
  by_cases h : 2 ^ f.w ≤ rd s f i + n <;> simp [h]

/-- The mark of a counter, whose part holds the counter's number, is not the counter itself. -/
theorem cntPart_apart {g : Fld} (hg : g.id ≠ 0) (f : Fld) (i : Nat) : g.id ≠ f.id ∨ cntPart f i ≠ i := by
  unfold cntPart
  omega

section
variable {g f : Fld} {i v : Nat} {c : Prop} [Decidable c] (s : State)

theorem rd_countWrites_counter (hg : g.id ≠ 0) : rd (wrs s (countWrites g f i v c)) f i = v % 2 ^ f.w := by
  unfold countWrites
  rw [wrs_cons, rd_wrs_other, rd_wr_same]
  intro e he
  split at he
  · rw [List.mem_singleton.1 he]
    exact cntPart_apart hg f i
  · cases he

theorem rd_countWrites_mark (hg : g.id ≠ 0) (hw : g.w = 1) :
    rd (wrs s (countWrites g f i v c)) g (cntPart f i) = if c then 1 else rd s g (cntPart f i) := by
  unfold countWrites
  split
  · simp [hw]
  · exact rd_wr_other _ _ _ _ _ _ ((cntPart_apart hg f i).imp Ne.symm Ne.symm)

theorem onlyAt_countWrites : OnlyAt [(f, i), (g, cntPart f i)] s (wrs s (countWrites g f i v c)) := by
  refine onlyAt_wrs fun e he => ?_
  unfold countWrites at he
  split at he
  · rcases List.mem_pair.1 he with rfl | rfl <;> simp
  · rw [List.mem_singleton.1 he]
    simp

end

/-- A performance counter that does not pass its maximum is written, and nothing else. -/
theorem perfAdd_of_lt {s : State} {n amount : Nat} (h : rd s PMU_CTR.COUNT n + amount < 2 ^ 48) :
    perfAdd amount s n = wrs s [(PMU_CTR.COUNT, n, rd s PMU_CTR.COUNT n + amount)] := if_pos h

/-- A performance counter that passes its maximum counts its overflows and sets its bit of PMU_OVF. -/
theorem perfAdd_of_le {s : State} {n amount : Nat} (h : 2 ^ 48 ≤ rd s PMU_CTR.COUNT n + amount) :
    perfAdd amount s n = wrs s [(PMU_CTR.COUNT, n, rd s PMU_CTR.COUNT n + amount),
      (PMU_CTR.OVF, n, min 255 (rd s PMU_CTR.OVF n + (rd s PMU_CTR.COUNT n + amount) / 2 ^ 48)),
      (PMU_OVF.OVF, 0, setBit (rd s PMU_OVF.OVF 0) n)] := if_neg (Nat.not_lt.2 h)

theorem rd_perfAdd_count (s : State) (n amount : Nat) :
    rd (perfAdd amount s n) PMU_CTR.COUNT n = (rd s PMU_CTR.COUNT n + amount) % 2 ^ 48 := by
  rcases Nat.lt_or_ge (rd s PMU_CTR.COUNT n + amount) (2 ^ 48) with h | h
  · rw [perfAdd_of_lt h]
    exact rd_wr_same _ _ _ _
  · rw [perfAdd_of_le h]
    simp only [wrs_cons, wrs_nil]
    rw [rd_wr_id _ _ _ _ _ _ (by decide), rd_wr_id _ _ _ _ _ _ (by decide)]
    exact rd_wr_same _ _ _ _

theorem bitOf_eq_testBit (v k : Nat) : bitOf v k = v.testBit k := by
  rw [Nat.testBit_eq_decide_div_mod_eq]
  rfl

theorem bitOf_setBit_same (v k : Nat) : bitOf (setBit v k) k = true := by
  unfold setBit
  split
  · assumption
  · rename_i h
    rw [bitOf_eq_testBit] at h ⊢
    simpa [Nat.add_comm v, Nat.testBit_two_pow_add_eq] using h

theorem rd_perfAdd_wrap {s : State} {n amount : Nat} (hn : n < 512) (h : 2 ^ 48 ≤ rd s PMU_CTR.COUNT n + amount) :
    rd (perfAdd amount s n) PMU_CTR.OVF n = min 255 (rd s PMU_CTR.OVF n + (rd s PMU_CTR.COUNT n + amount) / 2 ^ 48) ∧
      bitOf (rd (perfAdd amount s n) PMU_OVF.OVF 0) n = true := by
  rw [perfAdd_of_le h]
  simp only [wrs_cons, wrs_nil]
  constructor
  · rw [rd_wr_id _ _ _ _ _ _ (by decide), rd_wr_same]
    exact Nat.mod_eq_of_lt (Nat.lt_of_le_of_lt (Nat.min_le_left _ _) (by decide))
  · rw [rd_wr_same, bitOf_eq_testBit, Nat.testBit_mod_two_pow, ← bitOf_eq_testBit, bitOf_setBit_same]
    exact Bool.and_eq_true_iff.2 ⟨decide_eq_true hn, rfl⟩

/-- Settles O8: a counter that stays or wraps is a write of its value and perhaps of its mark; a performance counter is
taken by whether it passes its maximum. -/
theorem countersWrapOrHoldByTheirKind : Obligations.CountersWrapOrHoldByTheirKind := by
  refine ⟨fun s f i n => ?_, fun s f i n => ?_, fun s f i n => ?_, fun s f i n => ?_, fun s f i n => ?_,
    fun s f i n => ?_, rd_perfAdd_count, fun s n amount h => ?_, fun s n amount hn h => rd_perfAdd_wrap hn h⟩
  · rw [bumpBy_eq_countWrites, rd_countWrites_counter s (by decide)]
    have : 0 < 2 ^ f.w := Nat.two_pow_pos _
    exact Nat.mod_eq_of_lt (by omega)
  · rw [bumpBy_eq_countWrites, rd_countWrites_mark s (by decide) rfl]
  · rw [bumpBy_eq_countWrites]
    exact onlyAt_countWrites s
  · rw [stat_eq_countWrites, rd_countWrites_counter s (by decide)]
  · rw [stat_eq_countWrites, rd_countWrites_mark s (by decide) rfl]
  · rw [stat_eq_countWrites]
    exact onlyAt_countWrites s
  · rw [perfAdd_of_lt h]
    exact onlyAt_wrs (by simp)

/-! ## Reset (R10) -/

theorem rd_reset (f : Fld) (i : Nat) : rd State.reset f i = resetOf f i := rfl

theorem canonical_reset : Canonical State.reset = true := rfl

theorem resetOf_const {f : Fld} {v : Nat} (h : f.reset = .const v) (i : Nat) : resetOf f i = v := by
  unfold resetOf
  rw [h]

theorem resetOf_sliceState (l : Nat) {j : Nat} (h : j < 136) :
    resetOf SHF_RX_SLICE.STATE (l * 136 + j) = if j < 128 then 0 else 1 := by
  have hm : (l * 136 + j) % 136 = j := by omega
  simp [resetOf, SHF_RX_SLICE.STATE, hm]

theorem resetOf_slicePos (l : Nat) {j : Nat} (h : j < 128) : resetOf SHF_RX_SLICE.POS (l * 136 + j) = j := by
  have hm : (l * 136 + j) % 136 = j := by omega
  simp [resetOf, SHF_RX_SLICE.POS, hm, h]

theorem resetOf_txTap (l : Nat) {k : Nat} (h : k < 15) :
    resetOf SHF_TX_TAP.COEF (l * 15 + k) = if k = 3 then 256 else 0 := by
  have hm : (l * 15 + k) % 15 = k := by omega
  simp [resetOf, SHF_TX_TAP.COEF, hm]

theorem resetOf_ddlState (d : Nat) {x : Nat} (h : x < 1056) :
    resetOf DDL_LANE.STATE (d * 1056 + x) = if x < 1024 then 0 else 1 := by
  have hm : (d * 1056 + x) % 1056 = x := by omega
  simp [resetOf, DDL_LANE.STATE, hm]

theorem resetOf_ddlPos (d : Nat) {x : Nat} (h : x < 1024) : resetOf DDL_LANE.POS (d * 1056 + x) = x := by
  have hm : (d * 1056 + x) % 1056 = x := by omega
  simp [resetOf, DDL_LANE.POS, hm, h]

/-- Settles O3: at reset no field is listed, so each reads its reset value: the column's, or the rule's for its part. -/
theorem resetLeavesTheSpecValues : Obligations.ResetLeavesTheSpecValues := by
  refine ⟨canonical_reset, rfl, rfl, rfl, rfl, rd_reset, fun e he i => ?_, fun l j => ⟨?_, fun h => ?_⟩,
    fun l k => ?_, fun d x => ⟨?_, fun h => ?_⟩⟩
  · have hc : e.1.reset = .const e.2 := by
      revert e
      decide
    rw [rd_reset, resetOf_const hc]
  · rw [rd_reset, resetOf_sliceState l.val j.isLt]
  · rw [rd_reset, resetOf_slicePos l.val h]
  · rw [rd_reset, resetOf_txTap l.val k.isLt]
  · rw [rd_reset, resetOf_ddlState d.val x.isLt]
  · rw [rd_reset, resetOf_ddlPos d.val h]

/-! ## Every step -/

/-- The queue of commands is no table: a step's choice of its front changes no table. -/
theorem canonical_pending (s : State) (q : List Instr) : Canonical { s with pending := q } = Canonical s := rfl

theorem keeps0_idle (s : State) : Keeps0 s (idle s) := by
  unfold idle
  exact Keeps0.ite (keeps0_tick s) (Keeps0.refl s)

/-- Settles O4: a step is a command, of which `keeps0_exec` says that it keeps the tables canonical, or a tick. -/
theorem everyStepKeepsTheTablesCanonical : Obligations.EveryStepKeepsTheTablesCanonical := by
  intro s t hs hst
  unfold step at hst
  split at hst
  case h_1 c rest _ =>
    obtain ⟨u, hu, hk⟩ := keeps0_exec c { s with pending := rest }
    rw [hu] at hst
    obtain rfl := Host.Outcome.next.inj hst
    exact hk.canon ((canonical_pending s rest).trans hs)
  case h_2 =>
    obtain rfl := Host.Outcome.next.inj hst
    exact (keeps0_idle s).canon hs

end Sys2Proof

/-! PROOFS. Doorbells, ring geometry, and plain reads and writes of BAR0 and BAR2. -/

namespace Sys2Proof

open Sys2Proof.Machine

/-- A command acts as F when its meaning answers a state that equals F's wherever H holds. -/
theorem Acts.of_next {i : Instr} {H : State → Prop} {F G : State → State} (he : ∀ s, exec i s = .next (G s))
    (hg : ∀ s, H s → G s = F s) : Acts i H F := fun s h => (he s).trans (congrArg _ (hg s h))

/-! ## Doorbells and ring geometry (R131, R132, R133, R500) -/

theorem badIndex_eq_false {idx log2 : Nat} {up : Bool} (hu : up = true) (hi : idx < 2 ^ log2) :
    badIndex idx log2 up = false := by
  simp [badIndex, hu, hi]

theorem badIndex_eq_true {idx log2 : Nat} {up : Bool} (h : up = false ∨ 2 ^ log2 ≤ idx) :
    badIndex idx log2 up = true := by
  rcases h with h | h <;> simp [badIndex, h]

theorem acts_sqDoorbell (r : Ring) (idx : BitVec 32) (es : List Cmd) : Acts (.sqDoorbell r idx es)
    (fun s => (ringOf s r.val).size ≠ 0 ∧ idx.toNat < 2 ^ (ringOf s r.val).sqLog2)
    (fun s => fetchMore (setRing s r.val { ringOf s r.val with
      sqTail := idx.toNat, unread := es.take ((idx.toNat + 2 ^ (ringOf s r.val).sqLog2 - (ringOf s r.val).sqHead)
        % 2 ^ (ringOf s r.val).sqLog2) }) r.val) :=
  .of_next (fun _ => rfl) fun _ ⟨hs, hi⟩ => by rw [badIndex_eq_false (bne_iff_ne.2 hs) hi]; rfl

theorem acts_sqDoorbell_badIndex (r : Ring) (idx : BitVec 32) (es : List Cmd) : Acts (.sqDoorbell r idx es)
    (fun s => (ringOf s r.val).size = 0 ∨ 2 ^ (ringOf s r.val).sqLog2 ≤ idx.toNat)
    (fun s => dropWrite 1 (r.val * 0x10000) s) :=
  .of_next (fun _ => rfl) fun _ h => by rw [badIndex_eq_true (h.imp_left (bne_eq_false_iff_eq.2 ·))]; rfl

/-- With no completion held back, consuming completions writes none. -/
theorem acts_cqDoorbell (r : Ring) (idx : BitVec 32) : Acts (.cqDoorbell r idx)
    (fun s => (ringOf s r.val).size ≠ 0 ∧ idx.toNat < 2 ^ (ringOf s r.val).cqLog2 ∧ (ringOf s r.val).cqWait = [])
    (fun s => let q := ringOf s r.val
      let n := (idx.toNat + 2 ^ q.cqLog2 - q.cqHead) % 2 ^ q.cqLog2
      fetchMore (settleRing (setRing s r.val { q with cqHead := idx.toNat, cq := q.cq.drop n }) r.val) r.val) :=
  .of_next (fun _ => rfl) fun _ ⟨hs, hi, hw⟩ => by
    rw [badIndex_eq_false (bne_iff_ne.2 hs) hi, List.length_eq_zero_iff.2 hw]
    rfl

theorem fetchAll_full {s : State} {r : Nat} (n : Nat) (h : 4096 ≤ outstanding s r) : fetchAll r n s = s := by
  cases n with
  | zero => rfl
  | succ n =>
    unfold fetchAll
    split
    · rfl
    · simp [Nat.not_lt.2 h]

theorem fetchAll_cons {s : State} {r : Nat} {c : Cmd} {l : List Cmd} (n : Nat) (hu : (ringOf s r).unread = c :: l)
    (hf : fetches s r = true) (ho : outstanding s r < 4096) : fetchAll r (n + 1) s =
      fetchAll r n (fetchOne r (setRing (idleUse s) r { ringOf (idleUse s) r with unread := l }) c) := by
  rw [fetchAll, hu]
  simp [hf, ho]

theorem acts_ringGeometryWrite_sqBase (r : Ring) (v : BitVec 64) : Acts (.ringGeometryWrite r .sqBase v)
    (fun s => (ringOf s r.val).bound = none)
    (fun s => setRing s r.val { ringOf s r.val with sqBase := v.toNat / 4096 * 4096 }) :=
  .of_next (fun _ => rfl) fun _ h => by simp [h]

theorem acts_ringGeometryWrite_cqBase (r : Ring) (v : BitVec 64) : Acts (.ringGeometryWrite r .cqBase v)
    (fun s => (ringOf s r.val).bound = none)
    (fun s => setRing s r.val { ringOf s r.val with cqBase := v.toNat / 4096 * 4096 }) :=
  .of_next (fun _ => rfl) fun _ h => by simp [h]

theorem acts_ringGeometryWrite_size (r : Ring) (v : BitVec 64) : Acts (.ringGeometryWrite r .size v)
    (fun s => (ringOf s r.val).bound = none ∧ sizeBad (v.toNat % 2 ^ 32) = false)
    (fun s => setRing s r.val { ringOf s r.val with size := sizeBits v.toNat }) :=
  .of_next (fun _ => rfl) fun _ ⟨h, hb⟩ => by simp [-Nat.reducePow, h, hb]

theorem acts_ringGeometryWrite_bound (r : Ring) (reg : GeoReg) (v : BitVec 64) : Acts (.ringGeometryWrite r reg v)
    (fun s => (ringOf s r.val).bound ≠ none)
    (fun s => dropWrite 1
      (r.val * 0x10000 + (match reg with | .sqBase => 0x100 | .cqBase => 0x108 | .size => 0x110)) s) :=
  .of_next (fun _ => rfl) fun _ h => by
    have hb := Option.isSome_iff_ne_none.2 h
    cases reg <;> simp [hb]

/-! ## Plain writes (R109, R130, R131) -/

theorem plainWrite_bar0_dropped {o : Nat} (w v : Nat) (s : State) (h : o < 0x100000 ∨ 0x101000 ≤ o) :
    plainWrite false o w v s = dropWrite 0 o s := by
  have hw : ¬(0x100000 ≤ o ∧ o < 0x101000) := by omega
  simp [plainWrite, hw]

theorem plainWrite_request {o : Nat} (w v : Nat) (s : State) (hlo : 0x100000 ≤ o) (hhi : o < 0x100200) :
    plainWrite false o w v s =
      (let q := (s.vstReq ++ leBytes 512 0).take 512
       { s with vstReq := (q.take (o - 0x100000) ++ leBytes w (v % 2 ^ (8 * w)) ++
          q.drop (o - 0x100000 + w)).take 512 }) := by
  have hw : o < 0x101000 := by omega
  simp [plainWrite, mailWrite, hlo, hhi, hw]

theorem plainWrite_bar2_dropped {o w : Nat} (v : Nat) (s : State) (ha : accessOk (o % 2 ^ 24) w = true)
    (hc : bar2Command (o % 2 ^ 24) = false) (ht : o % 2 ^ 24 / 0x10000 ≠ 0 ∨ o % 2 ^ 24 < 0x8000) :
    plainWrite true o w v s = dropWrite 1 (o % 2 ^ 24) s := by
  have hm : ¬(o % 2 ^ 24 < 0x10000 ∧ 0x8000 ≤ o % 2 ^ 24) := by omega
  simp [-Nat.reducePow, plainWrite, ha, hc, hm]

theorem accessOk_four {o : Nat} (h : o % 4 = 0) : accessOk o 4 = true := by simp [accessOk, h]

theorem plainWrite_msix {o : Nat} (v : Nat) (s : State) (ha : o % 2 ^ 24 % 4 = 0) (hlo : 0x8000 ≤ o % 2 ^ 24)
    (hhi : o % 2 ^ 24 < 0x10000) : plainWrite true o 4 v s =
      msixPut s ((o % 2 ^ 24 - 0x8000) / 16) (o % 2 ^ 24 / 4 % 4) (v % 2 ^ 32) := by
  have hm : o % 2 ^ 24 / 0x10000 = 0 := Nat.div_eq_of_lt hhi
  simp [-Nat.reducePow, plainWrite, accessOk_four ha, hlo, hm]

theorem plainWrite_unsupported {o w : Nat} (v : Nat) (s : State) (ha : accessOk (o % 2 ^ 24) w = false) :
    plainWrite true o w v s = emit s (.unsupported true (o % 2 ^ 24)) := by
  simp [-Nat.reducePow, plainWrite, ha]

/-! ## Plain reads (R14, R129, R131, R156) -/

theorem plainRead_asleep {o w : Nat} (u : Bool) {s : State} (ha : accessOk o w = true) (hs : anyAsleep s o w = true) :
    plainRead false o w u s = emit (onesRead s o HIF_STATUS.ONES_READ 0) (.mmio false o w (allOnes w)) := by
  simp [plainRead, ha, hs]

theorem plainRead_awake {o w : Nat} {s : State} (ha : accessOk o w = true) (hs : anyAsleep s o w = false) :
    plainRead false o w false s =
      emit (readBar0 (perf s { perfE 0x03 1 with addr := o }) o w).1
        (.mmio false o w (readBar0 (perf s { perfE 0x03 1 with addr := o }) o w).2) := by
  simp [plainRead, ha, hs]

theorem plainRead_unsupported {o w : Nat} (u : Bool) (s : State) (ha : accessOk o w = false) :
    plainRead false o w u s = emit s (.unsupported false o) := by
  simp [plainRead, ha]

theorem plainRead_bar2 {o : Nat} (u : Bool) (s : State) (ha : o % 2 ^ 24 % 4 = 0) :
    plainRead true o 4 u s = emit s (.mmio true (o % 2 ^ 24) 4 (readBar2 s (o % 2 ^ 24))) := by
  simp [-Nat.reducePow, plainRead, accessOk_four ha]

theorem anyAsleep_four (s : State) (o : Nat) : anyAsleep s o 4 = readAsleep s o := by simp [anyAsleep]

/-- The first 4-byte read of a wide counter's low half latches its high half. -/
theorem look_latches_high_half {s : State} {r : RegSpec} {i q off : Nat} (ht : r.base ≠ reg_TIM_NOW.base)
    (hc : counterLow r q = true) (hl : flag (refresh s r i) HID.CNT_LATCHED off = false) :
    look s r i q off 4 = (wrs (refresh s r i) [(HID.CNT_LATCH, off + 4, readPart (refresh s r i) r i (q + 4) 4),
      (HID.CNT_LATCHED, off + 4, 1)], readPart (refresh s r i) r i q 4) := by
  simp [look, ht, hc, hl]

theorem look_uses_latch_up {s : State} {r : RegSpec} {i off : Nat} (q : Nat) (ht : r.base ≠ reg_TIM_NOW.base)
    (hl : flag (refresh s r i) HID.CNT_LATCHED off = true) :
    look s r i q off 4 = (wr (refresh s r i) HID.CNT_LATCHED off 0, rd (refresh s r i) HID.CNT_LATCH off) := by
  simp [look, ht, hl]

/-- TIM_NOW is one register of 16 bytes, which an 8-byte read at its offset names. -/
theorem plainPlace_timNow : plainPlace reg_TIM_NOW.base 8 = some (reg_TIM_NOW, 0, 0) := by decide +kernel

theorem readBar0_timNow (s : State) : readBar0 s reg_TIM_NOW.base 8 =
    (wrs s [(HID.TIM_LATCH, 0, timeNowField (localTime s) / 2 ^ 64), (HID.TIM_LATCHED, 0, 1)],
      readPart s reg_TIM_NOW 0 0 8) := by
  unfold readBar0 readPlace
  rw [plainPlace_timNow]
  rfl

/-- Settles O17: each access by the lemma above for its kind. -/
theorem doorbellsAndPlainAccessesAct : Obligations.DoorbellsAndPlainAccessesAct := by
  refine ⟨⟨acts_sqDoorbell, fun s r n h => fetchAll_full n h, fun s r c l n => fetchAll_cons n,
    acts_sqDoorbell_badIndex, acts_cqDoorbell, acts_ringGeometryWrite_sqBase, acts_ringGeometryWrite_cqBase,
    acts_ringGeometryWrite_size, acts_ringGeometryWrite_bound, fun r v s _ => rfl⟩,
    fun off w v h => ?_, fun off w v hlo hhi => ?_, fun off w v ha hc ht => ?_, fun off v ha hlo hhi => ?_,
    fun off w v ha => ?_, fun off w u ha => ?_, fun off w ha => ?_, fun off u ha => ?_, fun off w u ha => ?_,
    fun off ha => ?_, fun s r i q off ht hc hl => look_latches_high_half ht hc hl,
    fun s r i q off ht hl => look_uses_latch_up q ht hl, ?_⟩
  · exact .of_next (fun _ => rfl) fun s _ => plainWrite_bar0_dropped w v.toNat s h
  · exact .of_next (fun _ => rfl) fun s _ => plainWrite_request w v.toNat s hlo hhi
  · exact .of_next (fun _ => rfl) fun s _ => plainWrite_bar2_dropped v.toNat s ha hc ht
  · exact .of_next (fun _ => rfl) fun s _ => plainWrite_msix v.toNat s ha hlo hhi
  · exact .of_next (fun _ => rfl) fun s _ => plainWrite_unsupported v.toNat s ha
  · exact .of_next (fun _ => rfl) fun s h => plainRead_asleep u ha h
  · exact .of_next (fun _ => rfl) fun s h => plainRead_awake ha h
  · exact .of_next (fun _ => rfl) fun s _ => plainRead_bar2 u s ha
  · exact .of_next (fun _ => rfl) fun s _ => plainRead_unsupported u s ha
  · exact .of_next (fun _ => rfl) fun s h => plainRead_awake (accessOk_four ha) ((anyAsleep_four s _).trans h)
  · refine .of_next (fun _ => rfl) fun s h => ?_
    rw [plainRead_awake (by decide) h, readBar0_timNow]

end Sys2Proof

/-! PROOFS. Power domains: the start and the end of a change, missed power-gates, the idle policy, pads, resets and
STANDBY. -/

namespace Sys2Proof

open Sys2Proof.Machine

/-! ## Changes of state (R425 to R427) -/

/-- A change to S0 writes neither the wake's time event nor its enable. -/
theorem startsWait_pwrState_wake : StartsWait .pwrState opPwrState (fun _ a => opdB a 0x12 = 0)
    (fun s a => (pwrStart s (opd a 0x10 2) 0).1) (fun s a => [opd a 0x10 2, (pwrStart s (opd a 0x10 2) 0).2]) :=
  startsWait_of (fun _ _ => rfl) fun _ _ a _ h => by simp [opPwrState, pwrTarget, domArg, h]

theorem startsWait_pwrState_sleep : StartsWait .pwrState opPwrState (fun _ a => opdB a 0x12 ≠ 0)
    (fun s a => (pwrStart (wrs s [(PWR_DOM.TEV_EN, opd a 0x10 2, b2n (opdBit a 0x13 0)),
      (PWR_DOM.TEV, opd a 0x10 2, opdB a 0x14)]) (opd a 0x10 2) (opdB a 0x12)).1)
    (fun s a => [opd a 0x10 2, (pwrStart (wrs s [(PWR_DOM.TEV_EN, opd a 0x10 2, b2n (opdBit a 0x13 0)),
      (PWR_DOM.TEV, opd a 0x10 2, opdB a 0x14)]) (opd a 0x10 2) (opdB a 0x12)).2]) :=
  startsWait_of (fun _ _ => rfl) fun _ _ a _ h => by
    simp [-wrs_cons, -wrs_nil, opPwrState, pwrTarget, domArg, h]

/-- A change that may end leads to its target; what follows it begins, and then what waited for its end goes on. -/
theorem domEnd_of_ready {s : State} {d : Nat} (h : changeReady s d = true) : domEnd s d =
    (let s1 := domFollow (if rd s HID.DOM_TGT d - 1 = 0 then domUp s d else domDown s d (rd s HID.DOM_TGT d - 1)) d
     s1.running.foldl (resume d) s1) := by
  simp [domEnd, h]

theorem acts_domainStateDone_up (d : Dom) : Acts (.domainStateDone d)
    (fun s => domValid d.val = true ∧ changeReady s d.val = true ∧ rd s HID.DOM_TGT d.val - 1 = 0)
    (fun s => (domFollow (domUp s d.val) d.val).running.foldl (resume d.val) (domFollow (domUp s d.val) d.val)) :=
  .of_next (fun _ => rfl) fun _ ⟨hv, hr, ht⟩ => by rw [if_pos hv, domEnd_of_ready hr, if_pos ht]

theorem acts_domainStateDone_down (d : Dom) : Acts (.domainStateDone d)
    (fun s => domValid d.val = true ∧ changeReady s d.val = true ∧ rd s HID.DOM_TGT d.val - 1 ≠ 0)
    (fun s => (domFollow (domDown s d.val (rd s HID.DOM_TGT d.val - 1)) d.val).running.foldl (resume d.val)
      (domFollow (domDown s d.val (rd s HID.DOM_TGT d.val - 1)) d.val)) :=
  .of_next (fun _ => rfl) fun _ ⟨hv, hr, ht⟩ => by rw [if_pos hv, domEnd_of_ready hr, if_neg ht]

theorem domMove_held {s : State} {d : Nat} (st cause : Nat) (h : rd s PWR_DOM.HELD d ≠ 0) :
    domMove s d st cause = s := by
  simp [domMove, h]

/-! ## Missed power-gates (R429) -/

/-- The power-gate of domain d may miss its time: the domain wakes from a state in which it is closed. -/
def GateWaits (s : State) (d : Nat) : Prop := domValid d = true ∧ rd s HID.DOM_TGT d = 1 ∧ 2 ≤ domSt s d

theorem execPowerGateTimeout_of_gateWaits {s : State} {d : Dom} (h : GateWaits s d.val) :
    execPowerGateTimeout d s = .next (if 2 ≤ rd s HID.PG_TRIES d.val then wakeFail d.val false s
      else wrs s [(HID.PG_TRIES, d.val, rd s HID.PG_TRIES d.val + 1),
        (PWR_DOM.ATTEMPT, d.val, rd s HID.PG_TRIES d.val + 2)]) := by
  obtain ⟨hv, ht, hs⟩ := h
  simp [-wrs_cons, -wrs_nil, execPowerGateTimeout, hv, ht, Nat.not_lt.2 hs]

theorem acts_powerGateTimeout_retry (d : Dom) : Acts (.powerGateTimeout d)
    (fun s => domValid d.val = true ∧ rd s HID.DOM_TGT d.val = 1 ∧ 2 ≤ domSt s d.val ∧ rd s HID.PG_TRIES d.val < 2)
    (fun s => wrs s [(HID.PG_TRIES, d.val, rd s HID.PG_TRIES d.val + 1),
      (PWR_DOM.ATTEMPT, d.val, rd s HID.PG_TRIES d.val + 2)]) := fun _ ⟨hv, ht, hs, hn⟩ =>
  (execPowerGateTimeout_of_gateWaits ⟨hv, ht, hs⟩).trans (by rw [if_neg (Nat.not_le.2 hn)])

theorem acts_powerGateTimeout_third (d : Dom) : Acts (.powerGateTimeout d)
    (fun s => domValid d.val = true ∧ rd s HID.DOM_TGT d.val = 1 ∧ 2 ≤ domSt s d.val ∧ 2 ≤ rd s HID.PG_TRIES d.val)
    (fun s => wakeFail d.val false s) := fun _ ⟨hv, ht, hs, hn⟩ =>
  (execPowerGateTimeout_of_gateWaits ⟨hv, ht, hs⟩).trans (by rw [if_pos hn])

/-! ## Idle policy (R431) -/

theorem acts_idleTimeout (d : Dom) : Acts (.idleTimeout d)
    (fun s => domValid d.val = true ∧ rd s PWR_IDLE.IDLE_MS (domKind d.val) ≠ 0 ∧ domSt s d.val = 0 ∧
      domChanging s d.val = false ∧ domIdle s d.val = true ∧
      pwrCheck s d.val (rd s PWR_IDLE.TARGET (domKind d.val)) false = none)
    (fun s => domGo raise s d.val (rd s PWR_IDLE.TARGET (domKind d.val)) 1) :=
  .of_next (fun _ => rfl) fun _ ⟨hv, hm, hs, hc, hi, hp⟩ => by simp [hv, hm, hs, hc, hi, hp]

/-- An idle domain that a check of R425 holds back stays as it is, and nothing is raised. -/
theorem acts_idleTimeout_refused (d : Dom) : Acts (.idleTimeout d)
    (fun s => domIdle s d.val = true ∧
      (pwrCheck s d.val (rd s PWR_IDLE.TARGET (domKind d.val)) false).isSome = true) (fun s => s) :=
  .of_next (fun _ => rfl) fun _ ⟨_, hp⟩ => if_pos (Bool.or_eq_true_iff.2 (.inr hp))

theorem completes_idlePolicy : Completes .idlePolicy opIdlePolicy (fun _ a => opdB a 0x10 ≠ 2)
    (fun s a => wrs s [(PWR_IDLE.IDLE_MS, opdB a 0x10, opd a 0x14 4), (PWR_IDLE.TARGET, opdB a 0x10, opdB a 0x11)])
    (fun _ _ => rOk) :=
  completes_of (fun _ _ => rfl) fun _ _ a _ h => by simp [opIdlePolicy, h]

/-- The policy of Hopper banks also sets FREE_KIB, by which the free pool of their hall is judged. -/
theorem completes_idlePolicy_hopper : Completes .idlePolicy opIdlePolicy (fun _ a => opdB a 0x10 = 2)
    (fun s a => wrs s [(PWR_IDLE.IDLE_MS, 2, opd a 0x14 4), (PWR_IDLE.TARGET, 2, opdB a 0x11),
      (PWR_IDLE.FREE_KIB, 2, opd a 0x18 4)]) (fun _ _ => rOk) :=
  completes_of (fun _ _ => rfl) fun _ _ a _ h => by simp [opIdlePolicy, h]

/-! ## Pads and resets (R95, R430) -/

theorem completes_padRelease : Completes .padRelease opPadRelease (fun _ _ => True)
    (fun s a => wr s EMG_SITE_CTRL.STATE (opdB a 0x10) siteRELEASED) (fun _ _ => rOk) :=
  completes_of (fun _ _ => rfl) fun _ _ _ _ _ => rfl

theorem startsWait_domainReset : StartsWait .domainReset opDomainReset
    (fun s a => domChanging s (opd a 0x10 2) = false)
    (fun s a => resetGo s (opd a 0x10 2)) (fun _ a => [opd a 0x10 2, 0]) :=
  startsWait_of (fun _ _ => rfl) fun _ _ a _ h => by simp [opDomainReset, domArg, h]

/-- A reset of a domain that is changing waits until the change has ended. -/
theorem startsWait_domainReset_changing : StartsWait .domainReset opDomainReset
    (fun s a => domChanging s (opd a 0x10 2) = true) (fun s _ => s) (fun _ a => [opd a 0x10 2, 8]) :=
  startsWait_of (fun _ _ => rfl) fun _ _ a _ h => by simp [opDomainReset, domArg, h]

/-! ## STANDBY (R432) -/

theorem completes_standby_enter : Completes .standby opStandby
    (fun s a => opdBit a 0x10 0 = true ∧ rd s PWR_STATUS.DEV_STATE 0 ≠ 1)
    (fun s a => complete (fun x => needsPower x.acc) ⟨.aborted, 0, none, false⟩
      (wrs (standbyEnter s) [(HID.STBY_TEV_EN, 0, b2n (opdBit a 0x11 0)), (HID.STBY_TEV, 0, opdB a 0x12)]))
    (fun _ _ => rOk) :=
  completes_of (fun _ _ => rfl) fun _ _ a _ ⟨hb, hd⟩ => by simp [-wrs_cons, -wrs_nil, opStandby, rStat, hb, hd]

/-- STANDBY in STANDBY names a new time event, and enters nothing again. -/
theorem completes_standby_again : Completes .standby opStandby
    (fun s a => opdBit a 0x10 0 = true ∧ rd s PWR_STATUS.DEV_STATE 0 = 1)
    (fun s a => complete (fun x => needsPower x.acc) ⟨.aborted, 0, none, false⟩
      (wrs s [(HID.STBY_TEV_EN, 0, b2n (opdBit a 0x11 0)), (HID.STBY_TEV, 0, opdB a 0x12)])) (fun _ _ => rOk) :=
  completes_of (fun _ _ => rfl) fun _ _ a _ ⟨hb, hd⟩ => by simp [-wrs_cons, -wrs_nil, opStandby, rStat, hb, hd]

theorem completes_standby_not_in : Completes .standby opStandby
    (fun s a => opdBit a 0x10 0 = false ∧ rd s PWR_STATUS.DEV_STATE 0 ≠ 1) (fun s _ => s) (fun _ _ => rOk) :=
  completes_of (fun _ _ => rfl) fun _ _ a _ ⟨hb, hd⟩ => by simp [opStandby, hb, hd]

theorem startsWait_standby_leave : StartsWait .standby opStandby
    (fun s a => opdBit a 0x10 0 = false ∧ rd s PWR_STATUS.DEV_STATE 0 = 1)
    (fun s _ => leaveStandby s 0) (fun _ _ => []) :=
  startsWait_of (fun _ _ => rfl) fun _ _ a _ ⟨hb, hd⟩ => by simp [opStandby, hb, hd]

/-- Settles O52: each command and event by the lemma above for its case. -/
theorem domainsChangeState : Obligations.DomainsChangeState :=
  ⟨⟨startsWait_pwrState_wake, startsWait_pwrState_sleep, acts_domainStateDone_up, acts_domainStateDone_down,
    acts_powerGateTimeout_retry, acts_powerGateTimeout_third, acts_idleTimeout, acts_idleTimeout_refused,
    fun _ _ st cause => domMove_held st cause⟩,
   completes_padRelease, startsWait_domainReset, startsWait_domainReset_changing, completes_idlePolicy,
    completes_idlePolicy_hopper, completes_standby_enter, completes_standby_again, completes_standby_not_in,
    startsWait_standby_leave⟩

end Sys2Proof

/-! PROOFS. Engine drive: what a load strobe does to a channel, engines that come and go, the control pins, the heaters'
period and laser shutdown. -/

namespace Sys2Proof

open Sys2Proof.Machine

/-! ## Repetition over a list of parts -/

/-- What no step of a repetition changes, the whole repetition does not change. -/
theorem forEach_same {α : Type} (p : State → α) {g : Nat → State → State} (h : ∀ a t, p (g a t) = p t)
    (l : List Nat) (s : State) : p (forEach l s g) = p s := by
  induction l generalizing s with
  | nil => rfl
  | cons a t ih => exact (ih (g a s)).trans (h a s)

/-! ## Load strobes (R58, R391, R392, R399) -/

theorem loadCode_le_chanCeil (s : State) (i : Nat) : loadCode s i ≤ chanCeil s i := Nat.min_le_right _ _

theorem strobeChan_clearCause {R : Raise} {landing again : Bool} {s : State} {k : Nat} (c : Nat)
    (h : siteClearCause s k = true) : strobeChan R landing again s k c = s := if_pos h

/-- With no clear cause and no shutdown, a strobe puts the load code out and counts what it clamped. -/
theorem strobeChan_driven {R : Raise} {landing again : Bool} {s : State} {k c : Nat}
    (hc : siteClearCause s k = false) (ha : alsShut s k c = false) : strobeChan R landing again s k c =
      if chanCeil s (16 * k + c) < rd s EMG_DAC.IN_CODE (16 * k + c) ∧ again = false then
        countClamp R (moveOut s (16 * k + c) (loadCode s (16 * k + c))) k
      else moveOut s (16 * k + c) (loadCode s (16 * k + c)) := by
  simp [strobeChan, hc, ha]

theorem strobeChan_withinCeiling {R : Raise} {landing : Bool} (again : Bool) {s : State} {k c : Nat}
    (hc : siteClearCause s k = false) (ha : alsShut s k c = false)
    (hi : rd s EMG_DAC.IN_CODE (16 * k + c) ≤ chanCeil s (16 * k + c)) :
    strobeChan R landing again s k c = moveOut s (16 * k + c) (rd s EMG_DAC.IN_CODE (16 * k + c)) := by
  rw [strobeChan_driven hc ha, if_neg fun h => Nat.not_lt.2 hi h.1, loadCode, Nat.min_eq_left hi]

theorem strobeChan_clamped {R : Raise} {landing : Bool} {s : State} {k c : Nat}
    (hc : siteClearCause s k = false) (ha : alsShut s k c = false)
    (hi : chanCeil s (16 * k + c) < rd s EMG_DAC.IN_CODE (16 * k + c)) :
    strobeChan R landing false s k c = countClamp R (moveOut s (16 * k + c) (chanCeil s (16 * k + c))) k ∧
    strobeChan R landing true s k c = moveOut s (16 * k + c) (chanCeil s (16 * k + c)) := by
  have hl : loadCode s (16 * k + c) = chanCeil s (16 * k + c) := Nat.min_eq_right hi.le
  simp [strobeChan_driven hc ha, hl, hi]

/-- The fields of a channel's output that a strobe may write beside OUT_CODE. -/
def padFields : List Fld := [EMG_DAC.CLEARED, EMG_DAC.HOLDING, HID.EMG_PAD]

/-- A channel's output moves by one write of OUT_CODE and writes of the fields that go with it. -/
theorem moveOut_writes (s : State) (i code : Nat) :
    ∃ l, moveOut s i code = wrs s ((EMG_DAC.OUT_CODE, i, code) :: l) ∧ ∀ e ∈ l, e.1 ∈ padFields := by
  by_cases h : (code / 256 != rd s EMG_DAC.OUT_CODE i / 256 || flag s EMG_DAC.HOLDING i) = true
  · exact ⟨[(EMG_DAC.CLEARED, i, 0), (EMG_DAC.HOLDING, i, _)], if_pos h, by simp [padFields]⟩
  · exact ⟨[(EMG_DAC.CLEARED, i, 0), (EMG_DAC.HOLDING, i, _), (HID.EMG_PAD, i, code)], if_neg h,
      by simp [padFields]⟩

theorem rd_moveOut_outCode (s : State) (i code : Nat) :
    rd (moveOut s i code) EMG_DAC.OUT_CODE i = code % 2 ^ EMG_DAC.OUT_CODE.w := by
  have hp : ∀ g ∈ padFields, g.id ≠ EMG_DAC.OUT_CODE.id := by decide
  obtain ⟨l, hl, hf⟩ := moveOut_writes s i code
  rw [hl, wrs_cons, rd_wrs_other _ _ _ _ fun e he => .inl (hp _ (hf e he)), rd_wr_same]

theorem rd_moveOut_other (s : State) (i code : Nat) {f : Fld} (j : Nat) (ho : EMG_DAC.OUT_CODE.id ≠ f.id)
    (hp : ∀ g ∈ padFields, g.id ≠ f.id) : rd (moveOut s i code) f j = rd s f j := by
  obtain ⟨l, hl, hf⟩ := moveOut_writes s i code
  rw [hl, wrs_cons, rd_wrs_other _ _ _ _ fun e he => .inl (hp _ (hf e he)), rd_wr_id _ _ _ _ _ _ ho]

/-- A channel of a site that has been strobed on this tick counts nothing. -/
theorem rd_strobeChan_again (R : Raise) (landing : Bool) (s : State) (k c j : Nat) :
    rd (strobeChan R landing true s k c) EMG_SITE_STAT.STROBES j = rd s EMG_SITE_STAT.STROBES j := by
  by_cases hc : siteClearCause s k = true
  · rw [strobeChan_clearCause c hc]
  · rw [Bool.not_eq_true] at hc
    cases ha : alsShut s k c with
    | false =>
      rw [strobeChan_driven hc ha, if_neg (by simp)]
      exact rd_moveOut_other _ _ _ _ (by decide) (by decide)
    | true =>
      cases landing with
      | false => simp [strobeChan, hc, ha]
      | true =>
        rw [strobeChan, if_neg (by simp [hc]), if_pos ha, if_pos rfl]
        exact rd_wr_id _ _ _ _ _ _ (by decide)

theorem rd_strobeHeater_again (R : Raise) (s : State) (k h j : Nat) :
    rd (strobeHeater R true s k h) EMG_SITE_STAT.STROBES j = rd s EMG_SITE_STAT.STROBES j := by
  unfold strobeHeater
  split
  · rfl
  · simp only [Bool.not_true, Bool.and_false, Bool.false_eq_true, if_false]
    exact rd_wr_id _ _ _ _ _ _ (by decide)

theorem strobe_not_released {R : Raise} {landing : Bool} {s : State} {k : Nat} (h : siteSt s k ≠ siteRELEASED) :
    strobe R landing s k = s := if_pos (bne_iff_ne.2 h)

/-- A second strobe on one tick loads the input registers again and counts nothing. -/
theorem strobe_again {R : Raise} {landing : Bool} {s : State} {k : Nat} (hr : siteSt s k = siteRELEASED)
    (hs : strobed s k = true) : strobe R landing s k =
      forEach (List.range 8) (forEach (List.range 16) (wr s HID.STROBE_AT k (rd s HID.TICKS 0 + 1))
        (fun c t => strobeChan R landing true t k c)) (fun h t => strobeHeater R true t k h) := by
  simp [strobe, hr, hs]

theorem rd_strobe_strobed {s : State} {k : Nat} (R : Raise) (landing : Bool) (h : strobed s k = true) :
    rd (strobe R landing s k) EMG_SITE_STAT.STROBES k = rd s EMG_SITE_STAT.STROBES k := by
  by_cases hr : siteSt s k = siteRELEASED
  · rw [strobe_again hr h]
    calc _ = _ := forEach_same (rd · EMG_SITE_STAT.STROBES k) (fun n t => rd_strobeHeater_again R t k n k) _ _
      _ = _ := forEach_same (rd · EMG_SITE_STAT.STROBES k) (fun c t => rd_strobeChan_again R landing t k c k) _ _
      _ = _ := rd_wr_id _ _ _ _ _ _ (by decide)
  · rw [strobe_not_released hr]

/-- Settles O49: a strobe's clauses by the lemma above for what holds the channel. -/
theorem strobeNeverPassesACeiling : Obligations.StrobeNeverPassesACeiling :=
  ⟨loadCode_le_chanCeil, fun _ again _ _ hc ha hi => strobeChan_withinCeiling again hc ha hi,
    fun _ _ _ hc ha hi => strobeChan_clamped hc ha hi, fun _ _ _ c h => strobeChan_clearCause c h,
    rd_moveOut_outCode, fun _ _ h => rd_strobe_strobed raise false h, fun _ _ h => strobe_not_released h⟩

/-! ## Engines (R54 to R56, R394) -/

theorem acts_engineArrive (k : Site) : Acts (.engineArrive k)
    (fun s => flag s EMG_SITE_PRES.PRESENT k.val = false ∧ siteSt s k.val = siteABSENT)
    (fun s => wrs s [(EMG_SITE_PRES.PRESENT, k.val, 1), (EMG_SITE_PRES.PRES_CHG, k.val, 1),
      (EMG_SITE_CTRL.STATE, k.val, 1)]) :=
  .of_next (fun _ => rfl) fun _ ⟨hp, hs⟩ => by
    rw [hp, hs]
    rfl

theorem acts_engineLeave_held (k : Site) : Acts (.engineLeave k)
    (fun s => flag s EMG_SITE_PRES.PRESENT k.val = true ∧ siteSt s k.val = siteHELD)
    (fun s => siteToPads raise (presence s k.val 0) k.val siteABSENT) :=
  .of_next (fun _ => rfl) fun _ ⟨hp, hs⟩ => by rw [hp, hs]; rfl

theorem acts_engineLeave_released (k : Site) : Acts (.engineLeave k)
    (fun s => flag s EMG_SITE_PRES.PRESENT k.val = true ∧ siteSt s k.val = siteRELEASED)
    (fun s => faultK (0xC00 + k.val) (siteToPads raise (presence s k.val 0) k.val siteABSENT)) :=
  .of_next (fun _ => rfl) fun _ ⟨hp, hs⟩ => by
    rw [hp, hs, if_neg (by decide)]
    exact if_pos rfl

/-- Above 1.80 V there is no resistor: class 15. -/
theorem acts_idMeasure_noResistor (k : Site) {mv : BitVec 12} (hm : 1800 < mv.toNat) : Acts (.idMeasure k mv)
    (fun s => flag s EMG_SITE_PRES.PRESENT k.val = true)
    (fun s => wrs s [(EMG_SITE_PRES.ID_MV, k.val, mv.toNat), (EMG_SITE_PRES.ID_CODE, k.val, 15),
      (EMG_SITE_PRES.ID_STAT, k.val, 2)]) :=
  .of_next (fun _ => rfl) fun _ hp => by rw [hp, if_neg (by decide), if_pos hm]; rfl

theorem acts_idMeasure_class (k : Site) {mv : BitVec 12} {n : Nat} (hm : mv.toNat ≤ 1800)
    (hn : idClass mv.toNat = some n) : Acts (.idMeasure k mv) (fun s => flag s EMG_SITE_PRES.PRESENT k.val = true)
    (fun s => wrs s [(EMG_SITE_PRES.ID_MV, k.val, mv.toNat), (EMG_SITE_PRES.ID_CODE, k.val, n),
      (EMG_SITE_PRES.ID_STAT, k.val, 1)]) :=
  .of_next (fun _ => rfl) fun _ hp => by rw [hp, if_neg (by decide), if_neg (Nat.not_lt.2 hm), hn]; rfl

theorem acts_idMeasure_noClass (k : Site) {mv : BitVec 12} (hm : mv.toNat ≤ 1800) (hn : idClass mv.toNat = none) :
    Acts (.idMeasure k mv) (fun s => flag s EMG_SITE_PRES.PRESENT k.val = true)
    (fun s => faultC (0xC00 + k.val) (wrs s [(EMG_SITE_PRES.ID_MV, k.val, mv.toNat),
      (EMG_SITE_PRES.ID_STAT, k.val, 3)])) :=
  .of_next (fun _ => rfl) fun _ hp => by rw [hp, if_neg (by decide), if_neg (Nat.not_lt.2 hm), hn]; rfl

/-- A class is one of 15, and its voltage lies within 40 mV of the measured one. -/
theorem idClass_window {mv n : Nat} (h : idClass mv = some n) :
    n ≤ 14 ∧ (n + 1) * 100 ≤ mv + 40 ∧ mv ≤ (n + 1) * 100 + 40 := by
  have hr : n < 15 := List.mem_range.1 (List.mem_of_find?_eq_some h)
  have hw := List.find?_some h
  simp only [Bool.and_eq_true, decide_eq_true_eq] at hw
  exact ⟨Nat.le_of_lt_succ hr, hw⟩

/-! ## Pins and heaters (R57, R58, R391, R396 to R398) -/

theorem acts_deglitchHoldEnd (k : Site) (c : Fin 16) : Acts (.deglitchHoldEnd k c)
    (fun s => flag s EMG_DAC.HOLDING (16 * k.val + c.val) = true)
    (fun s => wrs s [(EMG_DAC.HOLDING, 16 * k.val + c.val, 0),
      (HID.EMG_PAD, 16 * k.val + c.val, rd s EMG_DAC.OUT_CODE (16 * k.val + c.val))]) :=
  .of_next (fun _ => rfl) fun _ h => if_pos h

theorem acts_pwmPeriodStart (k : Site) : Acts (.pwmPeriodStart k) (fun s => siteSt s k.val = siteRELEASED)
    (fun s => forEach (List.range 8) (wr s EMG_SITE_CTRL.PERIOD_TICKS k.val (rd s HID.PWM_PERIOD_NEXT k.val))
      (fun h t => heaterStart t k.val h)) :=
  .of_next (fun _ => rfl) fun _ h => if_pos (beq_iff_eq.2 h)

/-! ## Laser shutdown (R403) -/

theorem acts_alsPersistExpire (l : Lane) : Acts (.alsPersistExpire l) (fun s => alsCounts s l.val = true)
    (fun s => setAls raise s l.val 1) :=
  .of_next (fun _ => rfl) fun _ h => if_pos h

theorem acts_alsPeriodExpire (l : Lane) : Acts (.alsPeriodExpire l) (fun s => rd s SHF_TX_STAT.ALS l.val = 1)
    (fun s => setAls raise s l.val 2) :=
  .of_next (fun _ => rfl) fun _ h => if_pos (beq_iff_eq.2 h)

theorem acts_alsPulseExpire (l : Lane) : Acts (.alsPulseExpire l) (fun s => rd s SHF_TX_STAT.ALS l.val = 2)
    (fun s => setAls raise s l.val 1) :=
  .of_next (fun _ => rfl) fun _ h => if_pos (beq_iff_eq.2 h)

theorem acts_alsRecover (l : Lane) : Acts (.alsRecover l) (fun s => rd s SHF_TX_STAT.ALS l.val ≠ 0)
    (fun s => setAls raise (wr s HID.LOS_NOW l.val 0) l.val 0) :=
  .of_next (fun _ => rfl) fun _ h => if_neg (mt beq_iff_eq.1 h)

/-- Settles O47: each event by the lemma above for its case; the clear and load pins act in every state. -/
theorem enginesPinsAndLasersAct : Obligations.EnginesPinsAndLasersAct :=
  ⟨⟨acts_engineArrive, acts_engineLeave_held, acts_engineLeave_released,
    fun k _ hm => acts_idMeasure_noResistor k hm, fun k _ _ hm hn => acts_idMeasure_class k hm hn,
    fun k _ hm hn => acts_idMeasure_noClass k hm hn, fun _ _ h => idClass_window h⟩,
   ⟨fun _ _ => rfl, fun _ _ => rfl, fun _ _ => rfl, acts_deglitchHoldEnd, acts_pwmPeriodStart⟩,
   fun _ _ _ => rfl, acts_alsPersistExpire, acts_alsPeriodExpire, acts_alsPulseExpire, acts_alsRecover⟩

end Sys2Proof

/-! PROOFS. Bring-up, resets, supplies, references and configuration requests. -/

namespace Sys2Proof

open Sys2Proof.Machine

/-! ## Lists of writes, latches that do not hold, and commands that do not wait -/

theorem wrs_append (s : State) (l m : List (Fld × Nat × Nat)) : wrs (wrs s l) m = wrs s (l ++ m) := by
  induction l generalizing s with
  | nil => rfl
  | cons e t ih => exact ih _

theorem isSafe_eq_false {s : State} (hf : rd s FLT_SUMMARY.FATAL 0 = 0) (ht : rd s FLT_SUMMARY.THERMAL 0 = 0) :
    isSafe s = false := by
  simp [isSafe, flag, hf, ht]

theorem wrN_running (s : State) (f : Fld) (v n : Nat) : (wrN s f v n).running = s.running := by
  induction n with
  | zero => rfl
  | succ n ih => exact ih

/-- With no command dispatched none goes on when a change ends, and none completes. -/
theorem complete_wakeDone_of_idle {s : State} (p : Run → Bool) (q : Reply) (d : Nat) (h : s.running = []) :
    complete p q (wakeDone s d) = s := by
  simp [complete, completeWhere, wakeDone, h]

/-! ## Bring-up (R82) -/

/-- The step after the fuses, when they can be read, no latch of R94 holds and the known-answer tests pass. -/
theorem acts_resetNRise (strap : BitVec 4) : Acts (.resetNRise strap true true)
    (fun s => flag s HID.POR_DONE 0 = true ∧ flag s HID.RESET_HIGH 0 = false ∧ rd s FLT_SUMMARY.FATAL 0 = 0 ∧
      rd s FLT_SUMMARY.THERMAL 0 = 0)
    (fun s => readHeaders (loadAgeMax (wrs (updFaultPin s) [(HID.RESET_HIGH, 0, 1), (GLB_STRAP.STRAP, 0, strap.toNat),
      (GLB_BOOT_STAT.STAGE, 0, 0), (HID.BOOT_STEP, 0, 1), (HID.KAT_OK, 0, 1), (HID.BOOT_STEP, 0, 3)]))) :=
  .of_next (fun _ => rfl) fun s ⟨hp, hr, hf, ht⟩ => by
    simp only [hp, hr, isSafe_eq_false hf ht, wrs_append, Bool.not_true, Bool.or_self, Bool.false_eq_true, if_false,
      List.cons_append, List.nil_append]

theorem acts_fwSlotReadDone (slot : Fin 2) (readOk : Bool) : Acts (.fwSlotReadDone slot readOk)
    (fun s => rd s HID.BOOT_STEP 0 = 3 ∧ rd s GLB_BOOT_STAT.STAGE 0 = 0 ∧ fwNext s = some slot.val)
    (fun s =>
      if fwFail s (fwSlot s slot.val) readOk = 0 then
        bootFirst (faultC 0x103) (wrs s [(GLB_BOOT_STAT.FW_SLOT, 0, slot.val),
          (GLB_BOOT_STAT.FW_SVN, 0, fwSvn (fwSlot s slot.val)), (HID.FW_SVN_FULL, 0, fwSvn (fwSlot s slot.val)),
          (GLB_BOOT_STAT.STAGE, 0, 1), (HID.BOOT_STEP, 0, 4)])
      else fwAbandon s slot.val (fwFail s (fwSlot s slot.val) readOk)) :=
  .of_next (fun _ => rfl) fun s ⟨hb, hg, hn⟩ => by
    simp only [hb, hg, hn, fwRun, wrs_append, bne_self_eq_false, Bool.or_self, Bool.false_eq_true, if_false, beq_iff_eq,
      List.cons_append, List.nil_append]

theorem acts_ceilStoreOpen_none (okA okB : Bool) : Acts (.ceilStoreOpen okA okB)
    (fun s => rd s HID.BOOT_STEP 0 = 4 ∧ booting s = true ∧ ceilPick s okA okB = none)
    (fun s => wrs (faultK 0xCFF (wr s GLB_BOOT_STAT.CEIL_BAD 0 1))
      [(HID.BOOT_STEP, 0, 6), (HIF_STATUS.LINK_UP, 0, rd s HID.PERST_HIGH 0)]) :=
  .of_next (fun _ => rfl) fun s ⟨hb, hg, hn⟩ => by
    simp [-wrs_cons, -wrs_nil, hb, hg, hn]

/-- A copy that carries the fuse value itself burns no step. -/
theorem acts_ceilStoreOpen_some (okA okB : Bool) (tab : Tab CeilRec) (cnt : Nat) : Acts (.ceilStoreOpen okA okB)
    (fun s => rd s HID.BOOT_STEP 0 = 4 ∧ booting s = true ∧ ceilPick s okA okB = some (tab, cnt) ∧ cnt ≠ ceilUsed s + 1)
    (fun s => wrs (forEach (List.range 64) (loadCeil (wr s GLB_BOOT_STAT.CEIL_BAD 0 0) tab) (fun k w => siteClear w k))
      [(HID.BOOT_STEP, 0, 6), (HIF_STATUS.LINK_UP, 0, rd s HID.PERST_HIGH 0)]) :=
  .of_next (fun _ => rfl) fun s ⟨hb, hg, hn, hc⟩ => by
    simp [-wrs_cons, -wrs_nil, hb, hg, hn, hc]

theorem acts_corePllLock (pg : BitVec 10) (refs : BitVec 8) : Acts (.corePllLock pg refs)
    (fun s => rd s HID.BOOT_STEP 0 = 6 ∧ rd s GLB_BOOT_STAT.STAGE 0 < 8 ∧ flag s HID.REF_CORE_LOST 0 = false)
    (fun s =>
      let u := forEach (List.range 64) (wrs s [(GLB_PIN_STAT.PG, 0, pg.toNat), (HID.REF_LINE_LOST, 0, 255 - refs.toNat),
        (HID.BOOT_STEP, 0, 7)]) (fun sh v => if bitOf (rd v HID.REF_LINE_LOST 0) (sh / 8)
          then faultK (0x480 + sh) (wr v SHF_SYN_STAT.STATE sh 1) else synthStart v sh)
      if pgLow u = [] then bringUpFill u else wr u HID.PG_WAITING 0 1) :=
  .of_next (fun _ => rfl) fun s ⟨hb, hg, hr⟩ => by
    simp only [hb, hr, Nat.not_le.2 hg, bne_self_eq_false, decide_false, Bool.or_self, Bool.false_eq_true, if_false,
      List.isEmpty_iff]

theorem acts_sramFillDone : Acts .sramFillDone (fun s => rd s HID.BOOT_STEP 0 = 8 ∧ booting s = true)
    (fun s => wr s HID.BOOT_STEP 0 9) :=
  .of_next (fun _ => rfl) fun s ⟨hb, hg⟩ => by simp [hb, hg]

theorem acts_dramTrainDone (ok : BitVec 10) : Acts (.dramTrainDone ok)
    (fun s => rd s HID.BOOT_STEP 0 = 9 ∧ booting s = true)
    (fun s => forEach (List.range 10) (wr s HID.BOOT_STEP 0 10) (fun n u =>
      if bitOf ok.toNat n || rd u MEM_CTRL_STAT.STATE n == 2 then u
      else faultK (0x900 + n) (wr u MEM_CTRL_STAT.STATE n 2))) :=
  .of_next (fun _ => rfl) fun s ⟨hb, hg⟩ => by simp [hb, hg]

/-- With no command dispatched none waits for READY or for the end of STANDBY. -/
theorem acts_dramFillDone : Acts .dramFillDone
    (fun s => rd s HID.BOOT_STEP 0 = 10 ∧ booting s = true ∧ s.running = [])
    (fun s => wrN (forEach (List.range 10) (wrs s [(HID.BOOT_STEP, 0, 11), (GLB_BOOT_STAT.FILL_DONE, 0, 1),
      (GLB_BOOT_STAT.STAGE, 0, 3), (TBL_STATUS.FILL, 0, 1)]) (fun n v =>
        if rd v MEM_CTRL_STAT.STATE n == 0 then wr v MEM_CTRL_STAT.STATE n 1 else v)) HID.SQ_SAFE 0 64) :=
  .of_next (fun _ => rfl) fun s ⟨hb, hg, hr⟩ => by
    refine (if_neg (by simp [hb, hg])).trans (complete_wakeDone_of_idle _ _ _ ?_)
    rw [wrN_running, forEach_same State.running fun n v => by split <;> rfl, wrs_running, hr]

/-! ## Resets and configuration requests (R1, R82, R83, R92, R93, R126, R127) -/

theorem acts_warmReset : Acts .warmReset (fun s => flag s HID.POR_DONE 0 = true)
    (fun s => wr (countWarm (warmCore s)) HID.RESET_HIGH 0 0) :=
  .of_next (fun _ => rfl) fun _ h => if_pos h

theorem acts_perstRelease_link : Acts .perstRelease (fun s => 6 ≤ rd s HID.BOOT_STEP 0)
    (fun s => wrs s [(HID.PERST_HIGH, 0, 1), (HIF_STATUS.LINK_UP, 0, 1)]) :=
  .of_next (fun _ => rfl) fun _ h => if_pos (by simp [h])

theorem acts_perstRelease_early : Acts .perstRelease
    (fun s => rd s HID.BOOT_STEP 0 < 6 ∧ rd s GLB_BOOT_STAT.STAGE 0 < 8) (fun s => wr s HID.PERST_HIGH 0 1) :=
  .of_next (fun _ => rfl) fun s ⟨hb, hg⟩ => if_neg (by simp; omega)

theorem acts_pcieConfigRequest_retry (q : CfgReq) : Acts (.pcieConfigRequest q)
    (fun s => rd s HID.BOOT_STEP 0 < 6 ∧ rd s GLB_BOOT_STAT.STAGE 0 < 8)
    (fun s => { s with out := .cfg true 0 :: s.out }) :=
  .of_next (fun _ => rfl) fun _ ⟨hb, hg⟩ => if_pos (by simp [hb, hg])

theorem acts_pcieConfigRequest_read (x : CfgReg) : Acts (.pcieConfigRequest (.read x))
    (fun s => 6 ≤ rd s HID.BOOT_STEP 0) (fun s => { s with out := .cfg false (cfgRead s x) :: s.out }) :=
  .of_next (fun _ => rfl) fun _ h => if_neg (by simp [Nat.not_lt.2 h])

theorem acts_pcieConfigRequest_write (x : CfgReg) (v : BitVec 32) : Acts (.pcieConfigRequest (.write x v))
    (fun s => 6 ≤ rd s HID.BOOT_STEP 0)
    (fun s => { cfgWrite s x v.toNat with out := .cfg false 0 :: (cfgWrite s x v.toNat).out }) :=
  .of_next (fun _ => rfl) fun _ h => if_neg (by simp [Nat.not_lt.2 h])

/-! ## Supplies and references (R50, R88, R91) -/

theorem acts_pgFall_aux : Acts (.pgFall 7) (fun s => flag s HID.POR_DONE 0 = true)
    (fun s => wrs s [(GLB_PIN_STAT.PG, 0, clrBit (rd s GLB_PIN_STAT.PG 0) 7), (HID.POR_DONE, 0, 0), (HID.RESET_HIGH, 0, 0),
      (HIF_STATUS.LINK_UP, 0, 0)]) :=
  .of_next (fun _ => rfl) fun s h => by rw [h]; rfl

/-- An input that feeds neither the pads, nor the DRAM stacks, nor the power-on reset holds the domains it feeds. -/
theorem acts_pgFall_domains {p : Fin 10} (h0 : p.val ≠ 0) (h7 : p.val ≠ 7) (h8 : p.val ≠ 8) (h9 : p.val ≠ 9) :
    Acts (.pgFall p) (fun s => bitOf (rd s GLB_PIN_STAT.PG 0) p.val = true)
    (fun s => faultK (0xB00 + p.val) (forEach (pgFeeds p.val)
      (wr s GLB_PIN_STAT.PG 0 (clrBit (rd s GLB_PIN_STAT.PG 0) p.val))
      (fun d t => if domSt t d == 0 then holdDom raise t d 1 else t))) :=
  .of_next (fun _ => rfl) fun s hb => by
    simp only [beq_eq_false_iff_ne.2 h0, beq_eq_false_iff_ne.2 h7, beq_eq_false_iff_ne.2 h8, beq_eq_false_iff_ne.2 h9, hb,
      Bool.false_and, Bool.not_true, Bool.and_false, Bool.or_self, Bool.false_eq_true, if_false]

theorem acts_pgWaitTimeout (pg : BitVec 10) : Acts (.pgWaitTimeout pg)
    (fun s => flag s HID.PG_WAITING 0 = true ∧ booting s = true ∧ s.running = [])
    (fun s => let u := bringUpFill ((pgLow (wr s GLB_PIN_STAT.PG 0 pg.toNat)).foldl pgHold (wr s GLB_PIN_STAT.PG 0 pg.toNat))
      u.running.foldl pgRecheck u) :=
  .of_next (fun _ => rfl) fun s ⟨hw, hg, _⟩ => by simp only [hw, hg, Bool.and_self, if_true]

/-- The first two attempts that miss their time are counted. -/
theorem acts_corePllTimeout : Acts .corePllTimeout
    (fun s => rd s HID.BOOT_STEP 0 = 6 ∧ rd s GLB_BOOT_STAT.STAGE 0 < 8 ∧ rd s HID.PLL_TRIES 0 < 2)
    (fun s => wr s HID.PLL_TRIES 0 (rd s HID.PLL_TRIES 0 + 1)) :=
  .of_next (fun _ => rfl) fun s ⟨hb, hg, hn⟩ => by
    have hlow : ¬ 3 ≤ rd (wr s HID.PLL_TRIES 0 (rd s HID.PLL_TRIES 0 + 1)) HID.PLL_TRIES 0 := by
      have hle := Nat.mod_le (rd s HID.PLL_TRIES 0 + 1) (2 ^ HID.PLL_TRIES.w)
      rw [rd_wr_same]
      omega
    rw [if_neg (by simp [hb, hg]), if_neg hlow]

theorem acts_refclkCoreLoss : Acts .refclkCoreLoss
    (fun s => flag s HID.RESET_HIGH 0 = true ∧ rd s GLB_BOOT_STAT.STAGE 0 < 2)
    (fun s => wrs (faultF 0x0F0 (wr s HID.REF_CORE_LOST 0 1)) [(GLB_BOOT_STAT.STAGE, 0, 9),
      (HIF_STATUS.LINK_UP, 0, rd (faultF 0x0F0 (wr s HID.REF_CORE_LOST 0 1)) HID.PERST_HIGH 0)]) :=
  .of_next (fun _ => rfl) fun _ ⟨hr, hg⟩ => if_pos (by simp [hr, hg])

/-- Settles O16: each step, reset and supply by the lemma above for it; the configuration values are constants. -/
theorem bringUpAndSuppliesAct : Obligations.BringUpAndSuppliesAct :=
  ⟨⟨acts_resetNRise, acts_fwSlotReadDone, acts_ceilStoreOpen_none, acts_ceilStoreOpen_some, acts_corePllLock,
    acts_sramFillDone, acts_dramTrainDone, acts_dramFillDone⟩,
   acts_warmReset, acts_perstRelease_link, acts_perstRelease_early, acts_pcieConfigRequest_retry,
    acts_pcieConfigRequest_read, acts_pcieConfigRequest_write, fun _ => ⟨rfl, rfl, rfl, rfl, rfl⟩,
    acts_pgFall_aux, fun _ h0 h7 h8 h9 => acts_pgFall_domains h0 h7 h8 h9, acts_pgWaitTimeout, acts_corePllTimeout,
    acts_refclkCoreLoss⟩

end Sys2Proof

/-! PROOFS. Interrupts, errors of a ring, event and punt queues, host resets and the references of the links. -/

namespace Sys2Proof

open Sys2Proof.Machine

/-! ## Interrupts (R131, R147, R149, R151) -/

theorem sendIrq_unmasked {s : State} {v : Nat} (he : flag s HID.MSIX_EN 0 = true) (hd : flag s HID.D3HOT 0 = false)
    (hf : flag s HID.MSIX_FMASK 0 = false) (hm : flag s HID.MSIX_MASK v = false) :
    sendIrq s v = emit s (.irq v (rd s HID.MSIX_ADDR v) (rd s HID.MSIX_DATA v)) := by
  simp [sendIrq, he, hd, hf, hm]

theorem sendIrq_masked {s : State} {v : Nat} (he : flag s HID.MSIX_EN 0 = true) (hd : flag s HID.D3HOT 0 = false)
    (hm : flag s HID.MSIX_FMASK 0 = true ∨ flag s HID.MSIX_MASK v = true) : sendIrq s v = wr s HID.MSIX_PEND v 1 := by
  simp [sendIrq, he, hd, hm]

theorem acts_ringIrqTimeout (r : Ring) : Acts (.ringIrqTimeout r)
    (fun s => (ringOf s r.val).irqEn = true ∧ (ringOf s r.val).batch ≠ 0)
    (fun s => sendIrq (setRing s r.val { ringOf s r.val with batch := 0 }) (ringOf s r.val).vector) :=
  .of_next (fun _ => rfl) fun _ ⟨he, hb⟩ => if_pos (by simp [he, hb])

theorem acts_evqIrqTimeout (q : Fin 16) (e : EvQ) : Acts (.evqIrqTimeout q)
    (fun s => tabGet s.evqs (q.val, 0) = some e)
    (fun s => let u := { s with evqs := tabPut s.evqs (q.val, 0) { e with held := e.owed, owed := false } }
      if e.owed then sendIrq u e.vector else u) :=
  .of_next (fun _ => rfl) fun _ h => by rw [h]; rfl

theorem acts_puntIrqTimeout (p : Fin 64) (d : Bool) {q : PuntRing} (hb : q.batch ≠ 0) :
    Acts (.puntIrqTimeout p d) (fun s => tabGet s.punts (p.val, b2n d) = some q)
    (fun s => sendIrq { s with punts := tabPut s.punts (p.val, b2n d) { q with batch := 0 } } q.vector) :=
  .of_next (fun _ => rfl) fun s (h : tabGet s.punts (puntKey p.val d) = some q) => by
    rw [h]
    exact if_neg (mt beq_iff_eq.1 hb)

/-! ## Errors of a ring (R146) -/

theorem acts_ringFetchError (r : Ring) (tag : BitVec 16) (h : Nat) : Acts (.ringFetchError r tag)
    (fun s => (ringOf s r.val).bound = some h ∧ (ringOf s r.val).error = false ∧ (ringOf s r.val).draining = false)
    (fun s => faultC 0x301 (finish (setRing s r.val { ringOf s r.val with error := true, unread := [] }) r.val
      (unaccepted { (default : Cmd) with tag := tag.toNat } h 0 0) (rStat .aborted))) :=
  .of_next (fun _ => rfl) fun _ ⟨hb, he, hd⟩ => by
    simp only [hb, he, hd, Option.isNone_some, Bool.or_self, Bool.false_eq_true, if_false, Option.getD_some]

theorem acts_ringCqWriteError (r : Ring) (h : Nat) : Acts (.ringCqWriteError r)
    (fun s => (ringOf s r.val).bound = some h ∧ (ringOf s r.val).error = false)
    (fun s => faultC 0x302 (setRing s r.val { ringOf s r.val with error := true })) :=
  .of_next (fun _ => rfl) fun _ ⟨hb, he⟩ => if_neg (by simp [hb, he])

/-! ## Event queues (R148, R149, R500) -/

theorem completes_evqSetup : Completes .evqSetup opEvqSetup (fun _ _ => True)
    (fun s a => wr { s with evqs := tabPut s.evqs (opdB a 0x10, 0) (evqOf a) } HIF_EVQ_STAT.ACTIVE (opdB a 0x10) 1)
    (fun _ _ => rOk) :=
  completes_of (fun _ _ => rfl) fun _ _ _ _ _ => rfl

theorem completes_evqClose : Completes .evqClose opEvqClose (fun _ _ => True)
    (fun s a => wr { s with evqs := tabDel s.evqs (opdB a 0x10, 0) } HIF_EVQ_STAT.ACTIVE (opdB a 0x10) 0)
    (fun _ _ => rOk) :=
  completes_of (fun _ _ => rfl) fun _ _ _ _ _ => rfl

/-- A queue that has lost no record owes no notice. -/
theorem evqLost_of_none_lost {s : State} {q : Nat} {e : EvQ} (h : tabGet s.evqs (q, 0) = some e) (hl : e.lost = 0) :
    evqLost s q = s := by
  simp [evqLost, h, hl]

theorem acts_evqHeadDoorbell (q : Fin 16) {idx : BitVec 32} {e : EvQ} (hl : e.lost = 0) (hi : idx.toNat < 2 ^ e.log2) :
    Acts (.evqHeadDoorbell q idx) (fun s => tabGet s.evqs (q.val, 0) = some e)
    (fun s => let n := (idx.toNat + 2 ^ e.log2 - e.head) % 2 ^ e.log2
      { s with evqs := tabPut s.evqs (q.val, 0) { e with head := idx.toNat, recs := e.recs.drop n } }) :=
  .of_next (fun _ => rfl) fun _ h => by
    rw [h]
    exact (if_neg (by simp [badIndex_eq_false rfl hi])).trans (evqLost_of_none_lost (tabGet_tabPut_same _ _ _) hl)

/-! ## Punt rings (R150, R151, R500) -/

theorem completes_puntSetup : Completes .puntSetup opPuntSetup (fun _ a => opdBit a 0x11 1 = true)
    (fun s a =>
      let q : PuntRing := ⟨true, opdB a 0x12, opd a 0x14 2, opd a 0x16 2, opd a 0x18 8, opdB a 0x20, opd a 0x22 2, 0, 0, 0⟩
      { s with punts := tabPut s.punts (opdB a 0x10, b2n (opdBit a 0x11 0)) q }) (fun _ _ => rOk) :=
  completes_of (fun _ _ => rfl) fun _ _ _ _ h => if_pos h

theorem puntDoorbell_of_ring {s : State} {p : Nat} {d : Bool} {idx : Nat} {q : PuntRing} (off add : Nat)
    (h : tabGet s.punts (puntKey p d) = some q) (hi : idx < 2 ^ q.log2) : puntDoorbell s p d off idx add =
      putPunt s (puntKey p d) { q with tail := (idx + add) % 2 ^ q.log2 } := by
  simp [puntDoorbell, h, badIndex_eq_false rfl hi]

theorem acts_puntRxDoorbell (p : Fin 64) {idx : BitVec 32} {q : PuntRing} (hi : idx.toNat < 2 ^ q.log2) :
    Acts (.puntRxDoorbell p idx) (fun s => tabGet s.punts (p.val, 0) = some q)
    (fun s => { s with punts := tabPut s.punts (p.val, 0) { q with tail := (idx.toNat + 1) % 2 ^ q.log2 } }) :=
  .of_next (fun _ => rfl) fun _ h => puntDoorbell_of_ring (d := false) _ _ h hi

theorem acts_puntTxDoorbell (p : Fin 64) {idx : BitVec 32} {q : PuntRing} (hi : idx.toNat < 2 ^ q.log2) :
    Acts (.puntTxDoorbell p idx) (fun s => tabGet s.punts (p.val, 1) = some q)
    (fun s => { s with punts := tabPut s.punts (p.val, 1) { q with tail := idx.toNat } }) :=
  .of_next (fun _ => rfl) fun _ h => by
    rw [puntDoorbell_of_ring (d := true) _ _ h hi, Nat.add_zero, Nat.mod_eq_of_lt hi]
    rfl

/-- A from-host descriptor is taken: its flags byte is written back, and its frame is sent when the transfer and the
length are good. -/
theorem acts_puntFromHost_queue (p : Fin 64) {d : PuntDesc} {q : PuntRing} (he : q.en = true) (ht : q.head ≠ q.tail)
    (hm : d.mode = true) (hlo : 60 ≤ d.len) (hhi : d.len ≤ 16383) : Acts (.puntFromHost p d true)
    (fun s => tabGet s.punts (p.val, 1) = some q ∧ flag s HID.D3HOT 0 = false)
    (fun s => hostToQueue (perf (perf (stat (puntAdvance s (p.val, 1) q 0x0A [3]) HIF_PUNT_STAT.FROM_HOST p.val 1)
      (perfE 0x07 1)) (perfE 0x05 (d.len + 16))) (d.target % 1048576) (d.len + 4)
      (d.frame.take d.len ++ leBytes 4 (crc32 (d.frame.take d.len)))) :=
  .of_next (fun _ => rfl) fun s ⟨(hq : tabGet s.punts (puntKey p.val true) = some q), hd⟩ => by
    rw [hq, hm]
    exact (if_neg (by simp [he, ht, hd])).trans ((if_neg (by decide)).trans ((if_neg (by simp; omega)).trans (if_pos rfl)))

theorem puntTaken_failed (mode : Bool) : puntTaken mode false = [if mode then 11 else 9] := by cases mode <;> rfl

theorem acts_puntFromHost_failed (p : Fin 64) (d : PuntDesc) {q : PuntRing} (he : q.en = true) (ht : q.head ≠ q.tail) :
    Acts (.puntFromHost p d false) (fun s => tabGet s.punts (p.val, 1) = some q ∧ flag s HID.D3HOT 0 = false)
    (fun s => faultC 0x303 (puntAdvance s (p.val, 1) q 0x0A [if d.mode then 11 else 9])) :=
  .of_next (fun _ => rfl) fun s ⟨(hq : tabGet s.punts (puntKey p.val true) = some q), hd⟩ => by
    rw [hq, puntTaken_failed]
    exact (if_neg (by simp [he, ht, hd])).trans (if_pos rfl)

/-! ## Host resets and references (R50, R98, R152) -/

theorem acts_hostReset_d3hotExit : Acts (.hostReset .d3hotExit) (fun s => flag s HID.D3HOT 0 = true)
    (fun s => countHost (hostReset s) .d3hotExit) :=
  .of_next (fun _ => rfl) fun _ h => if_pos h

/-- A counter two short of its maximum counts up, and its mark stays as it is. -/
theorem bump_of_lt {s : State} {f : Fld} {i : Nat} (h : rd s f i + 1 < 2 ^ f.w - 1) :
    bump s f i = wr s f i (rd s f i + 1) := by
  simp [bump, bumpBy, Nat.min_eq_left h.le, h.ne]

/-- A host reset whose count is not near its maximum counts up and is recorded, by its kind, as the last reset. -/
theorem countHost_of_lt {s : State} (h : rd s GLB_HOST_CNT.COUNT 0 < 2 ^ 32 - 2) :
    countHost s .flr = wr (wr s GLB_HOST_CNT.COUNT 0 (rd s GLB_HOST_CNT.COUNT 0 + 1)) GLB_RESET_CAUSE.LAST 0 3 ∧
    countHost s .perst = wr (wr s GLB_HOST_CNT.COUNT 0 (rd s GLB_HOST_CNT.COUNT 0 + 1)) GLB_RESET_CAUSE.LAST 0 2 := by
  have hlt : rd s GLB_HOST_CNT.COUNT 0 + 1 < 2 ^ GLB_HOST_CNT.COUNT.w - 1 := Nat.add_lt_of_lt_sub h
  have hne : ¬ (rd (wr s GLB_HOST_CNT.COUNT 0 (rd s GLB_HOST_CNT.COUNT 0 + 1)) GLB_HOST_CNT.COUNT 0 == 2 ^ 32 - 1) =
      true := by
    rw [rd_wr_same, Nat.mod_eq_of_lt (Nat.lt_of_lt_pred hlt), beq_iff_eq]
    exact hlt.ne
  constructor <;> simp only [countHost, bump_of_lt hlt, if_neg hne]

/-- A table from which every entry of a key is filtered reads as empty there. -/
theorem tabGet_filter_none {α : Type} (t : Tab α) (p : Key × α → Bool) (j : Key) (h : ∀ e ∈ t, e.1 = j → p e = false) :
    tabGet (t.filter p) j = none := by
  induction t with
  | nil => rfl
  | cons e t ih =>
    have ih' := ih fun x hx => h x (List.mem_cons_of_mem e hx)
    cases hp : p e with
    | false => rwa [List.filter_cons_of_neg (by simp [hp])]
    | true =>
      have he : keyEq e.1 j = false := (keyEq_false_iff _ _).2 fun hj => by simp [h e List.mem_cons_self hj] at hp
      rw [List.filter_cons_of_pos hp, tabGet, he]
      exact ih'

theorem rd_unwrAll {l : List Fld} {f : Fld} (s : State) (i : Nat) (hf : idIn l f.id = true) :
    rd (unwrAll s l) f i = resetOf f i := by
  have hn : tabGet (unwrAll s l).regs (f.id, i) = none :=
    tabGet_filter_none _ _ _ fun e _ he => by simp [he, hf]
  unfold rd
  rw [hn]

theorem rd_hostReset_msix {f : Fld} (s : State) (v : Nat) (hf : f ∈ msixFields) :
    rd (hostReset s) f v = resetOf f v := by
  have hout : ∀ g ∈ msixFields, idIn msixFields g.id = true ∧
      ∀ w ∈ [SEC_VST_STAT.STATE, SEC_VST_STAT.RESULT, HID.D3HOT], w.id ≠ g.id := by decide
  obtain ⟨hin, hw⟩ := hout f hf
  exact (rd_wrs_other _ _ _ _ fun e he => .inl (hw e.1 (List.mem_map_of_mem he))).trans (rd_unwrAll _ v hin)

/-- Settles O18: each interrupt, ring error, queue command and host event by the lemma above for it. -/
theorem queuesAndHostEventsAct : Obligations.QueuesAndHostEventsAct :=
  ⟨⟨acts_ringIrqTimeout, fun _ _ he hd => ⟨sendIrq_unmasked he hd, sendIrq_masked he hd⟩, acts_evqIrqTimeout,
    fun p d _ hb => acts_puntIrqTimeout p d hb, acts_ringFetchError, acts_ringCqWriteError⟩,
   ⟨completes_evqSetup, completes_evqClose, fun q _ _ hl hi => acts_evqHeadDoorbell q hl hi, completes_puntSetup,
    fun p _ _ hi => acts_puntRxDoorbell p hi, fun p _ _ hi => acts_puntTxDoorbell p hi,
    fun p _ _ he ht hm hlo hhi => acts_puntFromHost_queue p he ht hm hlo hhi,
    fun p d _ he ht => acts_puntFromHost_failed p d he ht⟩,
   fun _ _ => rfl, fun _ _ => rfl, acts_hostReset_d3hotExit, fun _ h => countHost_of_lt h,
    fun s _ v hf => rd_hostReset_msix s v hf, fun _ _ => rfl, fun _ _ => rfl, fun _ _ _ => rfl⟩

end Sys2Proof

/-! PROOFS. The vestibule's exchanges, and the events of roles, sessions and self-tests. -/

namespace Sys2Proof

open Sys2Proof.Machine

/-! ## Exchanges (R107, R109 to R111) -/

theorem acts_vstOpen (msg : List Byte) (k : BitVec 384) (salt : List Byte) (iter : Nat) : Acts (.vstOpen msg)
    (fun s => vstUp s = true ∧ openStatus s msg = 0 ∧
      credOf s (leAt msg 1 1) (leAt msg 2 1) (leAt msg 3 1) = some (k, salt, iter))
    (fun s =>
      let h := (freeHandle s).getD 0
      let x : VstX := ⟨h, leAt msg 1 1, leAt msg 2 1, leAt msg 3 1, sliceOf msg 8 32, Config.random s.freeCnt, leAt msg 0x28 32⟩
      let u := { s with vstReq := msg, vst := some x, freeCnt := s.freeCnt + 1 }
      challenge (wrs u [(HID.VST_AT, 0, rd s HID.TICKS 0)]) 0 h iter
        (leBytes 32 (Config.random s.freeCnt).toNat) salt 0) :=
  .of_next (fun _ => rfl) fun s ⟨hu, ho, hc⟩ => by
    simp only [hu, ho, hc]
    rfl

theorem acts_vstProve (msg : List Byte) {x : VstX} (k : BitVec 384) (salt : List Byte) (iter : Nat)
    (hm : x.method ≠ 2) (hp : proveBad msg x = false) : Acts (.vstProve msg)
    (fun s => vstUp s = true ∧ s.vst = some x ∧ credOf s x.role x.cred x.method = some (k, salt, iter) ∧
      ringsFit s x = true)
    (fun s => if sliceOf msg 8 48 = vstProof k 72 x then openSession { s with vstReq := msg } x k
      else accept (badProof (endExchange { s with vstReq := msg }) x.role x.cred) 5 x.handle []) :=
  .of_next (fun _ => rfl) fun s ⟨hu, hx, hc, hr⟩ => by
    by_cases hk : sliceOf msg 8 48 = vstProof k 72 x
    · simp [hu, hx, hc, hr, hm, hp, hk]
    · simp [hu, hx, hc, hm, hp, hk]

theorem acts_vstEnrol (msg : List Byte) {x : VstX} (k : BitVec 384)
    (hm : x.method = 2) (hp : proveBad msg x = false) : Acts (.vstEnrol msg)
    (fun s => vstUp s = true ∧ s.vst = some x ∧ s.enrolKey = some k ∧ ringsFit s x = true)
    (fun s =>
      let u := { s with vstReq := msg }
      match (if sliceOf msg 8 48 == vstProof k 72 x then Config.gcmOpen (vstKeys k x).2
          ((leBytes 32 x.nonceD.toNat).take 12) [] (sliceOf msg 0x60 48) (sliceOf msg 0x90 16) else none) with
      | none => accept (badProof (endExchange u) 2 x.cred) 5 x.handle []
      | some key =>
        let pw := leAt msg 0x38 1 == 1
        let cred : InstCred := ⟨pw, if pw then leAt msg 0x3C 4 else 0,
          if pw then BitVec.ofNat 256 (leAt msg 0x40 32) else 0, BitVec.ofNat 384 (leVal key)⟩
        let v := closeAll u
        let w := keyStep (wr { v with instCreds := tabPut v.instCreds (0, 0) cred, enrolKey := none }
          SEC_STATUS.LIFECYCLE 0 2)
        openSession (audit w 8 2 0 x.handle 0 0 (bytesOf [1, 2])) x k) :=
  .of_next (fun _ => rfl) fun s ⟨hu, hx, he, hr⟩ => by
    simp only [hu, hx, he, hr, hm, hp]
    rfl

theorem acts_vstAbandon_held (x : VstX) : Acts .vstAbandon (fun s => vstUp s = true ∧ s.vst = some x)
    (fun s => wr { s with vst := none } SEC_VST_STAT.STATE 0 0) :=
  .of_next (fun _ => rfl) fun s ⟨hu, hx⟩ => (if_pos hu).trans (if_pos (by rw [hx]; rfl))

theorem acts_vstAbandon_none : Acts .vstAbandon (fun s => vstUp s = true ∧ s.vst = none) (fun s => s) :=
  .of_next (fun _ => rfl) fun s ⟨hu, hx⟩ => (if_pos hu).trans (if_neg (by simp [hx]))

theorem acts_vstTimeout (x : VstX) : Acts .vstTimeout (fun s => s.vst = some x)
    (fun s => accept { s with vst := none } 6 x.handle []) :=
  .of_next (fun _ => rfl) fun s hx => by rw [hx]; rfl

/-! ## Lockout and sessions (R111, R114) -/

theorem acts_lockoutExpire (role : Fin 3) : Acts (.lockoutExpire role) (fun s => rd s SEC_LOCKOUT.REMAIN_S role.val ≠ 0)
    (fun s => wrs s [(SEC_LOCKOUT.REMAIN_S, role.val, 0), (SEC_LOCKOUT.FAILS, role.val, 0)]) :=
  .of_next (fun _ => rfl) fun _ h => if_neg (mt beq_iff_eq.1 h)

theorem acts_sessionIdleTimeout (h : Fin 64) (x : Sess) : Acts (.sessionIdleTimeout h)
    (fun s => tabGet s.sessions (h.val, 0) = some x ∧ rd s SEC_POLICY.IDLE_S 0 * 1000 ≤ msSince s x.lastTick)
    (fun s => closeSession s h.val) :=
  .of_next (fun _ => rfl) fun _ ⟨hx, ht⟩ => by
    rw [hx]
    exact if_pos ht

/-- Settles O20: each exchange and event by the lemma above for its case; the return window, the self-test and the
zeroise pin act in every state. -/
theorem vestibuleAndTrustEventsAct : Obligations.VestibuleAndTrustEventsAct :=
  ⟨⟨acts_vstOpen, fun msg _ k salt iter hm hp => acts_vstProve msg k salt iter hm hp,
    fun msg _ k hm hp => acts_vstEnrol msg k hm hp, acts_vstAbandon_held, acts_vstAbandon_none, acts_vstTimeout⟩,
   acts_lockoutExpire, acts_sessionIdleTimeout, fun _ _ => rfl, fun _ _ => rfl, fun _ _ _ => rfl⟩

end Sys2Proof

/-! PROOFS. Performance levels and rails: commands, steps of a rail, steering, what an unsteered rail allows and the
PMBus alert. -/

namespace Sys2Proof

open Sys2Proof.Machine

/-! ## Commands (R424, R435, R441) -/

theorem completes_plSet : Completes .plSet opPlSet (fun _ _ => True)
    (fun s a => levelEval (wr s PWR_PL.CEIL (opdB a 0x10) (opdB a 0x11)) (opdB a 0x10)) (fun _ _ => rOk) :=
  completes_of (fun _ _ => rfl) fun _ _ _ _ _ => rfl

theorem completes_pwrPolicy : Completes .pwrPolicy opPwrPolicy (fun _ _ => True)
    (fun s a =>
      let s1 := putFields s reg_PWR_POLICY.flds 0 (leVal a.cmd.buf)
      setEff s1 (min (rd s1 PWR_STATUS.EFF_W 0) (rd s1 PWR_POLICY.LIMIT_W 0))) (fun _ _ => rOk) :=
  completes_of (fun _ _ => rfl) fun _ _ _ _ _ => rfl

/-! ## Steps of a rail (R69) -/

/-- A read-back within 10 mV of the commanded voltage verifies the step. -/
theorem acts_vrmStepVerify_near (n : Fin 6) (v : BitVec 10) : Acts (.vrmStepVerify n (some v))
    (fun s => rd s HID.VRM_CMD n.val ≠ 0 ∧ v.toNat ≤ rd s HID.VRM_CMD n.val + 10 ∧ rd s HID.VRM_CMD n.val ≤ v.toNat + 10)
    (fun s => vrmOk (idleUse s) n.val v.toNat) :=
  .of_next (fun _ => rfl) fun _ ⟨hc, hlo, hhi⟩ => (if_neg (mt beq_iff_eq.1 hc)).trans (if_pos (by simp [hlo, hhi]))

theorem acts_vrmStepVerify_far (n : Fin 6) (v : BitVec 10) : Acts (.vrmStepVerify n (some v))
    (fun s => rd s HID.VRM_CMD n.val ≠ 0 ∧
      (rd s HID.VRM_CMD n.val + 10 < v.toNat ∨ v.toNat + 10 < rd s HID.VRM_CMD n.val))
    (fun s => vrmBad (idleUse s) n.val 3) :=
  .of_next (fun _ => rfl) fun _ ⟨hc, hv⟩ =>
    (if_neg (mt beq_iff_eq.1 hc)).trans (if_neg (by simp only [Bool.and_eq_true, decide_eq_true_eq]; omega))

theorem acts_vrmStepVerify_noAcknowledge (n : Fin 6) : Acts (.vrmStepVerify n none)
    (fun s => rd s HID.VRM_CMD n.val ≠ 0) (fun s => vrmBad (idleUse s) n.val 2) :=
  .of_next (fun _ => rfl) fun _ hc => if_neg (mt beq_iff_eq.1 hc)

/-- The first and the second failure of a step command it again. -/
theorem vrmBad_retry {s : State} {n : Nat} (stat : Nat) (h : rd s HID.VRM_TRIES n < 2) :
    vrmBad s n stat = emit (wr s HID.VRM_TRIES n (rd s HID.VRM_TRIES n + 1)) (.vout n (rd s HID.VRM_CMD n)) :=
  if_pos (Nat.succ_le_of_lt h)

/-! ## Steering (R68, R71) -/

/-- Steering enabled during a change of the rail leaves the change to go on. -/
theorem acts_vrmSteerEnable_changing (n : Fin 6) : Acts (.vrmSteerEnable n)
    (fun s => flag s PWR_PL.CHANGING n.val = true)
    (fun s => wrs (took (idleUse s)) [(HID.VOUT_MODE, n.val, freeNat s % 256), (PWR_VRM_CFG.EN, n.val, 1),
      (PWR_VRM_CFG.STAT, n.val, 0), (HID.VRM_TRIES, n.val, 0)]) :=
  .of_next (fun _ => rfl) fun _ h => if_pos h

theorem acts_vrmSteerEnable_settled (n : Fin 6) : Acts (.vrmSteerEnable n)
    (fun s => flag s PWR_PL.CHANGING n.val = false)
    (fun s => levelEval (vrmGo (wrs (took (idleUse s)) [(HID.VOUT_MODE, n.val, freeNat s % 256),
      (PWR_VRM_CFG.EN, n.val, 1), (PWR_VRM_CFG.STAT, n.val, 0), (HID.VRM_TRIES, n.val, 0)]) n.val
      (levelMv (rd s PWR_PL.NOW n.val)) 0) n.val) :=
  .of_next (fun _ => rfl) fun _ h => if_neg (Bool.eq_false_iff.1 h)

/-! ## What a rail allows (R71, R424) -/

/-- The level of a die never lies above what its rail allows. -/
theorem levelGoal_le_railCap (s : State) (n : Nat) : levelGoal s n ≤ railCap s n :=
  (Nat.min_le_right _ _).trans (Nat.min_le_right _ _)

/-- A running maximum from 0 is 0 or one of the values it was taken over. -/
theorem foldl_max_zero_eq_or_mem (l : List Nat) : l.foldl max 0 = 0 ∨ l.foldl max 0 ∈ l :=
  List.mem_cons.1 (List.max?_mem List.max?_cons')

/-- The cap of a rail that is not steered is the lowest level, or one whose voltage the rail reaches. -/
theorem railCap_unsteered {s : State} {n : Nat} (h : steered s n = false) :
    railCap s n = 0 ∨ levelMv (railCap s n) ≤ rd s HID.RAIL_MV n := by
  rw [railCap, if_neg (Bool.eq_false_iff.1 h)]
  refine (foldl_max_zero_eq_or_mem _).imp_right fun hm => ?_
  exact of_decide_eq_true (List.mem_filter.1 hm).2

/-! ## The PMBus alert (R70) -/

/-- Each enabled regulator that reports a warning or a fault condition raises it, in order. -/
theorem acts_pmAlert (st : List (Fin 3)) : Acts (.pmAlert st) (fun _ => True) (fun s =>
    forEach (List.range 6) (wr (idleUse s) GLB_PIN_STAT.PM_ALERT 0 1) (fun n t =>
      if flag t PWR_VRM_CFG.EN n = false ∨ st.getD n 0 = 0 then t else raise (0xB10 + n) (st.getD n 0).val [] t)) :=
  .of_next (fun _ => rfl) fun s _ => by
    refine congrArg (forEach (List.range 6) (wr (idleUse s) GLB_PIN_STAT.PM_ALERT 0 1)) (funext₂ fun n t => ?_)
    simp only [Bool.or_eq_true, Bool.not_eq_true', beq_iff_eq, Fin.val_eq_zero_iff]

/-- Settles O53: each command and event by the lemma above for its case; the cap of an unsteered rail is the maximum of
the levels its voltage reaches. -/
theorem performanceLevelsAndRailsAct : Obligations.PerformanceLevelsAndRailsAct :=
  ⟨completes_plSet, completes_pwrPolicy, acts_vrmStepVerify_near, acts_vrmStepVerify_far,
    acts_vrmStepVerify_noAcknowledge, fun _ _ stat h => vrmBad_retry stat h, acts_vrmSteerEnable_changing,
    acts_vrmSteerEnable_settled, fun s n => ⟨levelGoal_le_railCap s n, railCap_unsteered⟩, acts_pmAlert⟩

end Sys2Proof

/-! PROOFS. The release of the power-on reset. -/

namespace Sys2Proof

open Sys2Proof.Machine

/-! ## The mark of a power-up (R93, R203) -/

/-- From whatever state, the release leaves the mark by which the power-up calibration is known. -/
theorem rd_porRelease_powerUp {strap : BitVec 4} {s t : State} (h : exec (.porRelease strap) s = .next t) :
    rd t HID.POWER_UP 0 = 1 := by
  obtain rfl := Host.Outcome.next.inj h
  rw [wrs_cons, wrs_cons, rd_wrs_other _ _ _ _ (by simp only [List.forall_mem_cons]; decide)]
  exact rd_wr_same _ _ _ _

/-- Refutes O15: the mark of a power-up is neither in fuses or flash nor one of the four excepted fields, its reset value
is 0, and a release from the reset state itself leaves it 1. -/
theorem not_powerOnResetLeavesFusesAndFlash : ¬ Obligations.PowerOnResetLeavesFusesAndFlash := by
  unfold Obligations.PowerOnResetLeavesFusesAndFlash
  intro h
  obtain ⟨t, ht, -, -, -, -, -, -, -, -, -, -, -, -, -, -, -, -, hrest⟩ := h 0 State.reset
  have hreset : rd t HID.POWER_UP 0 = 0 :=
    (hrest HID.POWER_UP 0 (by decide) (by decide) (by decide) (by decide)).trans (by decide)
  have hset : rd t HID.POWER_UP 0 = 1 := rd_porRelease_powerUp ht
  omega

end Sys2Proof

/-! PROOFS. Structure images: what the end of a read of a slot does, at boot and for a command, and what a hall that held
a sheaf's packets does. -/

namespace Sys2Proof

open Sys2Proof.Machine

/-! ## Slots that were read (R87, R309, R311) -/

theorem acts_siFlashReadDone_read (x : SiCtx) (w : Run) : Acts (.siFlashReadDone true)
    (fun s => s.siCtx = some x ∧ s.running.find? (waitsOn 0x40 []) = some w) (fun s =>
      let s1 := dropRun s w.ring w.acc.cmd.tag
      match imgCheckAll s1 x.landing.isSome (slotImage s (x.source - 1)) with
      | .inr f => finish (ctxFail s1 x f) w.ring w.acc ⟨.invalid, f.1 + 256 * f.2, none, false⟩
      | .inl (h, rs) => finish (ctxPass s1 { x with bytes := slotImage s (x.source - 1) } w.acc h rs) w.ring w.acc rOk) :=
  .of_next (fun _ => rfl) fun _ ⟨hx, hw⟩ => by rw [hx, hw]; rfl

theorem acts_siFlashReadDone_unreadable (x : SiCtx) (w : Run) : Acts (.siFlashReadDone false)
    (fun s => s.siCtx = some x ∧ s.running.find? (waitsOn 0x40 []) = some w)
    (fun s => finish (ctxFail (dropRun s w.ring w.acc.cmd.tag) x (6, 0xFF)) w.ring w.acc
      ⟨.invalid, 0xFF06, none, false⟩) :=
  .of_next (fun _ => rfl) fun _ ⟨hx, hw⟩ => by rw [hx, hw]; rfl

theorem acts_siBootLoadDone_read (slot : Nat) : Acts (.siBootLoadDone true)
    (fun s => bootLoading s slot = true ∧ rd s HID.SI_ACTIVE_SLOT 0 = slot) (fun s =>
      let s0 := wr s HID.BOOT_LOADED 0 1
      match imgCheckAll s0 false (slotImage s0 slot) with
      | .inl (h, rs) => imgAudit (coldApply s0 h rs slot) 0 0 0xFF 0 h.imageId
      | .inr f => faultK (0x1E0 + slot) (if slot = 0 then wrs s0 [(GLB_BOOT_STAT.SIA_BAD, 0, 1), (GLB_BOOT_FAIL.SI_A, 0, f.1)]
          else wrs s0 [(GLB_BOOT_STAT.SIB_BAD, 0, 1), (GLB_BOOT_FAIL.SI_B, 0, f.1)])) :=
  .of_next (fun _ => rfl) fun _ ⟨hb, hs⟩ => by
    subst hs
    rw [hb]
    simp only [Bool.not_true, Bool.false_eq_true, if_false, if_true, beq_iff_eq] <;> rfl

/-- There is one load at boot: once it has ended none is in progress. -/
theorem bootLoading_of_loaded {s : State} (slot : Nat) (h : flag s HID.BOOT_LOADED 0 = true) :
    bootLoading s slot = false := by
  simp [bootLoading, h]

theorem acts_siBootLoadDone_loaded (readOk : Bool) :
    Acts (.siBootLoadDone readOk) (fun s => flag s HID.BOOT_LOADED 0 = true) id :=
  .of_next (fun _ => rfl) fun _ h => if_pos (by rw [bootLoading_of_loaded _ h]; rfl)

/-! ## Packets held at a hall (R317) -/

theorem acts_switchHoldTimeout (h : Hall) (sh : Sheaf) : Acts (.switchHoldTimeout h sh)
    (fun s => rd s HID.SW_HOLD (64 * h.val + sh.val) ≠ 0)
    (fun s => faultC (0x680 + (rd s HID.SW_HOLD (64 * h.val + sh.val) - 1))
      (bump (holdRelease s h.val sh.val) GLB_SI_ROT.HOLD_TMO 0)) :=
  .of_next (fun _ => rfl) fun _ h => if_neg (mt beq_iff_eq.1 h)

/-- Settles O38: each end of a read and the hall's limit by the lemma above for it; the marker acts in every state. -/
theorem imageEventsAct : Obligations.ImageEventsAct :=
  ⟨acts_siFlashReadDone_read, acts_siFlashReadDone_unreadable, acts_siBootLoadDone_read, acts_siBootLoadDone_loaded,
    fun _ _ _ _ => rfl, acts_switchHoldTimeout⟩

end Sys2Proof

/-! PROOFS. The ceiling store's read, the lane opcodes, and the events of a lane that searches or listens. -/

namespace Sys2Proof

open Sys2Proof.Machine

/-! ## The ceiling store (R82, R88, R400) -/

/-- Whether or not the store opens, its read ends step 5. -/
theorem ceilStoreOpen_ends {s : State} (okA okB : Bool) (hb : rd s HID.BOOT_STEP 0 = 4) (hg : booting s = true) :
    ∃ u, exec (.ceilStoreOpen okA okB) s =
      .next (wrs u [(HID.BOOT_STEP, 0, 6), (HIF_STATUS.LINK_UP, 0, rd s HID.PERST_HIGH 0)]) :=
  ⟨_, congrArg _ (if_neg (by simp [hb, hg]))⟩

theorem rd_wrs_bootStep_linkUp (u : State) (n v : Nat) :
    rd (wrs u [(HID.BOOT_STEP, 0, n), (HIF_STATUS.LINK_UP, 0, v)]) HID.BOOT_STEP 0 = n % 16 ∧
      rd (wrs u [(HID.BOOT_STEP, 0, n), (HIF_STATUS.LINK_UP, 0, v)]) HIF_STATUS.LINK_UP 0 = v % 2 :=
  ⟨(rd_wr_id _ HIF_STATUS.LINK_UP _ _ _ _ (by decide)).trans (rd_wr_same _ _ _ _), rd_wr_same _ _ _ _⟩

/-- A copy one step ahead of the fuses burns that step. -/
theorem acts_ceilStoreOpen_ahead (okA okB : Bool) (tab : Tab CeilRec) (cnt : Nat) : Acts (.ceilStoreOpen okA okB)
    (fun s => rd s HID.BOOT_STEP 0 = 4 ∧ booting s = true ∧ ceilPick s okA okB = some (tab, cnt) ∧ cnt = ceilUsed s + 1)
    (fun s =>
      let u := loadCeil (wr s GLB_BOOT_STAT.CEIL_BAD 0 0) tab
      wrs (forEach (List.range 64) (wr u EMG_GLB_CFG.CEIL_LEFT 0 (rd u EMG_GLB_CFG.CEIL_LEFT 0 - 1))
          (fun k w => siteClear w k))
        [(HID.BOOT_STEP, 0, 6), (HIF_STATUS.LINK_UP, 0, rd s HID.PERST_HIGH 0)]) :=
  .of_next (fun _ => rfl) fun s ⟨hb, hg, hn, hc⟩ => by
    simp [-wrs_cons, -wrs_nil, hb, hg, hn, hc]

/-! ## Lane opcodes (R243) -/

theorem completes_laneMode : Completes .laneMode opLaneMode (fun _ _ => True)
    (fun s a => (maskLanes (opdB a 0x10) (opdB a 0x11)).foldl (laneModeOne (opdB a 0x12) (opdBit a 0x13 0))
      (synthMode s (opdB a 0x10) (opdB a 0x11) (opdB a 0x12))) (fun _ _ => rOk) :=
  completes_of (fun _ _ => rfl) fun _ _ _ _ _ => rfl

theorem completes_laneRestart : Completes .laneRestart opLaneRestart (fun _ _ => True)
    (fun s a => (maskLanes (opdB a 0x10) (opdB a 0x11)).foldl laneRestartOne s) (fun _ _ => rOk) :=
  completes_of (fun _ _ => rfl) fun _ _ _ _ _ => rfl

/-! ## What a training frame leaves unchanged (R230 to R234, R249) -/

/-- The fields a training frame may write as it leaves at its lane's transmit boundary. -/
def frameFields : List Fld :=
  [SHF_TX_TAP.COEF, SHF_TX_LUT.OFS, SHF_TX_SHAPE.SRC_NOW, SHF_TX_SHAPE.SHAPE_ERR, SHF_TX_CTRL.SWING_NOW,
   SHF_TX_SHAPE.PEND, HID.TX_APPLY, HID.SQ_OUT, HID.TRN_FRAMES]

section
variable {f : Fld} (h : ∀ g ∈ frameFields, g.id ≠ f.id)
include h

theorem rd_wr_frameField {g : Fld} (hg : g ∈ frameFields) (s : State) (i j v : Nat) :
    rd (wr s g i v) f j = rd s f j := rd_wr_id _ _ _ _ _ _ (h g hg)

theorem rd_wrs_frameFields {l : List (Fld × Nat × Nat)} (hl : ∀ e ∈ l, e.1 ∈ frameFields) (s : State) (j : Nat) :
    rd (wrs s l) f j = rd s f j := rd_wrs_other l s f j fun e he => .inl (h e.1 (hl e he))

theorem rd_putShape_other (s : State) (l : Nat) (taps lut : List Int) (j : Nat) :
    rd (putShape s l taps lut) f j = rd s f j := by
  unfold putShape
  rw [forEach_same (rd · f j) fun _ t => rd_wr_frameField h (by simp [frameFields]) t _ _ _,
    forEach_same (rd · f j) fun _ t => rd_wr_frameField h (by simp [frameFields]) t _ _ _]

theorem rd_applyFixed_other (s : State) (l j : Nat) : rd (applyFixed s l) f j = rd s f j := by
  unfold applyFixed
  split
  · rw [rd_wr_frameField h (by simp [frameFields]), rd_putShape_other h]
  · exact rd_wr_frameField h (by simp [frameFields]) _ _ _ _

theorem rd_txBoundary_other (s : State) (l j : Nat) : rd (txBoundary s l) f j = rd s f j := by
  unfold txBoundary
  extract_lets t pended shaped
  have hpended : rd pended f j = rd s f j := by
    have ht : rd t f j = rd s f j := rd_wrs_frameFields h (by simp [frameFields]) s j
    unfold pended
    split
    · rfl
    · split
      · rw [rd_applyFixed_other h, ht]
      · exact ht
  have hshaped : rd shaped f j = rd pended f j := by
    unfold shaped
    split
    · split
      · rfl
      · rw [rd_wr_frameField h (by simp [frameFields]), rd_putShape_other h]
        rfl
    · rfl
  rw [rd_wr_frameField h (by simp [frameFields]), hshaped, hpended]

theorem rd_trnEmit_other (s : State) (l type seq : Nat) (body : List Byte) (j : Nat) :
    rd (trnEmit s l type seq body) f j = rd s f j := by
  unfold trnEmit
  simp only
  split
  · exact rd_txBoundary_other h s l j
  · rw [rd_emit, rd_wr_frameField h (by simp [frameFields]), rd_took, rd_txBoundary_other h]

theorem rd_trnShow_other (s : State) (l j : Nat) : rd (trnShow s l) f j = rd s f j := by
  unfold trnShow
  split
  · rfl
  · split
    · split <;> exact rd_trnEmit_other h _ _ _ _ _ _
    · exact rd_trnEmit_other h _ _ _ _ _ _

end

theorem rd_trnSend_msg (s : State) (l type : Nat) (body : List Byte) :
    rd (trnSend s l type body) HID.TRN_MSG l = type % 16 := rd_wr_same _ _ _ _

/-! ## The search (R244, R246 to R248, R258) -/

theorem searching_eq_true {s : State} {l : Nat} (ha : laneSt s l = laneACQUIRE)
    (hw : flag s SHF_LANE_STAT.WAIT_SYNTH l = false) (hc : flag s HID.LANE_CONFIRM l = false) :
    searching s l = true := by
  simp [searching, ha, hw, hc]

theorem nativeFam_iff (m : Nat) : nativeFam m = true ↔ m = 1 ∨ m = 2 ∨ m = 3 := by
  simp only [nativeFam, Bool.and_eq_true, decide_eq_true_eq]
  omega

/-- A training frame starts training, which begins with this side's HELLO. -/
theorem acts_formatFound_training (l : Lane) : Acts (.formatFound l .training)
    (fun s => searching s l.val = true ∧ nativeFam (rd s SHF_LANE_STAT.MODE l.val) = true)
    (fun s =>
      let s1 := wrs s [(SHF_LANE_STAT.FOUND, l.val, 4), (HID.SAW_FORMAT, l.val, setBit (rd s HID.SAW_FORMAT l.val) 0)]
      let s2 := wr (setLane raise (clearTraining s1 l.val) l.val laneTRAIN 0) SHF_LANE_STAT.PHASE l.val 0
      trnShow (trnSend (wr s2 SHF_RX_CDR.LOCK l.val 1) l.val 1 (helloBytes (helloBody s2 l.val))) l.val) :=
  .of_next (fun _ => rfl) fun _ ⟨hs, hm⟩ => by
    have hallowed : modeAllows _ .training = true := hm
    rw [if_neg (by simp [hs]), if_pos (by simp [hm]), hallowed]
    rfl

theorem acts_formatFound_standard (l : Lane) : Acts (.formatFound l .standard)
    (fun s => searching s l.val = true ∧ rd s SHF_LANE_STAT.MODE l.val = 4)
    (fun s => wrs s [(SHF_LANE_STAT.FOUND, l.val, 1), (HID.SAW_FORMAT, l.val, setBit (rd s HID.SAW_FORMAT l.val) 0),
      (HID.LANE_CONFIRM, l.val, 1), (SHF_LANE_STAT.FORMAT, l.val, 3), (SHF_RX_CDR.LOCK, l.val, 1)]) :=
  .of_next (fun _ => rfl) fun _ ⟨hs, hm⟩ => by
    rw [hs, hm]
    rfl

/-- A format the lane does not settle on is counted. -/
theorem acts_formatFound_other (l : Lane) (f : Format) : Acts (.formatFound l f)
    (fun s => searching s l.val = true ∧ ¬ (f = .training ∧ nativeFam (rd s SHF_LANE_STAT.MODE l.val) = true) ∧
      ¬ (f = .standard ∧ rd s SHF_LANE_STAT.MODE l.val = 4))
    (fun s => bump (wrs s [(SHF_LANE_STAT.FOUND, l.val, foundCode f), (HID.SAW_FORMAT, l.val,
      setBit (rd s HID.SAW_FORMAT l.val) (if modeAllows (rd s SHF_LANE_STAT.MODE l.val) f = true then 0 else 1))])
      SHF_LANE_CNT.MISMATCH l.val) :=
  .of_next (fun _ => rfl) fun _ ⟨hs, ht, hd⟩ => by
    rw [if_neg (by simp [hs]), if_neg (by simpa using ht), if_neg (by simpa using hd)]

theorem acts_acqTimeout (l : Lane) (env : Bool) : Acts (.acqTimeout l env)
    (fun s => laneSt s l.val = laneACQUIRE ∧ flag s SHF_LANE_STAT.WAIT_SYNTH l.val = false)
    (fun s => failAttempt raise s l.val
      (if env = false ∨ detects s l.val = false then 1 else if rd s HID.SAW_FORMAT l.val = 2 then 3 else 2)) :=
  .of_next (fun _ => rfl) fun s ⟨ha, hw⟩ => by
    rw [if_neg (by simp [ha, hw])]
    simp only [Bool.not_eq_true', Bool.and_eq_false_iff, beq_iff_eq]

theorem acts_backoffExpire (l : Lane) : Acts (.backoffExpire l)
    (fun s => laneSt s l.val = laneLISTEN ∧ flag s HID.BACKOFF l.val = true ∧ sheafAwake s l.val = true)
    (fun s => startAttempt raise s l.val (rd s SHF_LANE_STAT.ATTEMPT l.val + 1)) :=
  .of_next (fun _ => rfl) fun _ ⟨hl, hb, ha⟩ => if_pos (by simp [hl, hb, ha])

theorem acts_listenActivity (l : Lane) : Acts (.listenActivity l)
    (fun s => laneSt s l.val = laneLISTEN ∧ sheafAwake s l.val = true ∧ detects s l.val = true)
    (fun s => startAttempt raise s l.val
      (if flag s SHF_LANE_STAT.EXHAUSTED l.val = true then 1 else rd s SHF_LANE_STAT.ATTEMPT l.val + 1)) :=
  .of_next (fun _ => rfl) fun _ ⟨hl, ha, hd⟩ => if_neg (by simp [hl, ha, hd])

/-- The message on its way after a training frame was found is the HELLO. -/
theorem formatFound_training_sends_hello (l : Lane) {s : State} (hs : searching s l.val = true)
    (hm : nativeFam (rd s SHF_LANE_STAT.MODE l.val) = true) :
    ∃ t, exec (.formatFound l .training) s = .next t ∧ rd t HID.TRN_MSG l.val = 1 :=
  ⟨_, acts_formatFound_training l s ⟨hs, hm⟩,
    (rd_trnShow_other (by decide) _ _ _).trans (rd_trnSend_msg _ _ _ _)⟩

theorem formatFound_standard_locks (l : Lane) {s : State} (hs : searching s l.val = true)
    (hm : rd s SHF_LANE_STAT.MODE l.val = 4) : ∃ t, exec (.formatFound l .standard) s = .next t ∧
      rd t SHF_LANE_STAT.FORMAT l.val = 3 ∧ rd t SHF_RX_CDR.LOCK l.val = 1 :=
  ⟨_, acts_formatFound_standard l s ⟨hs, hm⟩,
    (rd_wr_id _ SHF_RX_CDR.LOCK _ _ _ _ (by decide)).trans (rd_wr_same _ _ _ _), rd_wr_same _ _ _ _⟩

/-- Settles O60: each row by the lemma above for it; LANE_RESTART has no check of its own. -/
theorem laneAndCeilingRowsAnswerNext : Obligations.LaneAndCeilingRowsAnswerNext := by
  refine ⟨fun okA okB s hb hg => ?_,
    fun okA okB s tab cnt hb hg hn hc => acts_ceilStoreOpen_ahead okA okB tab cnt s ⟨hb, hg, hn, hc⟩,
    fun r s a hr hh hf hs hw hk => completes_laneMode r s a ⟨⟨hr, hh⟩, hf, hs, hw, hk⟩ trivial,
    fun r s a hr hh hf hs hw => completes_laneRestart r s a ⟨⟨hr, hh⟩, hf, hs, hw, rfl⟩ trivial,
    fun l f s ha hw hc => ?_,
    fun l env s ha hw => acts_acqTimeout l env s ⟨ha, hw⟩,
    fun l s hl hb hd => acts_backoffExpire l s ⟨hl, hb, beq_iff_eq.2 hd⟩,
    fun l s hl hd ht => acts_listenActivity l s ⟨hl, beq_iff_eq.2 hd, ht⟩⟩
  · obtain ⟨u, hu⟩ := ceilStoreOpen_ends okA okB hb hg
    exact ⟨_, hu, rd_wrs_bootStep_linkUp u 6 _⟩
  · have hs := searching_eq_true ha hw hc
    refine ⟨?_, ?_, fun ht hd => acts_formatFound_other l f s ⟨hs, ht, hd⟩⟩
    · rintro rfl hm
      exact formatFound_training_sends_hello l hs ((nativeFam_iff _).2 hm)
    · rintro rfl hm
      exact formatFound_standard_locks l hs hm

end Sys2Proof

/-! PROOFS. Zeroisation: from the warm reset on, no operation brings back a key or opens a session. -/

namespace Sys2Proof

open Sys2Proof.Machine

/-! ## A machine at rest after a warm reset (R93, R115, R449) -/

/-- The keys of the key store and of the key fuses. -/
def keysOf (s : State) := (s.opKeys, s.instCreds, s.caks, s.siVerify, s.siDecrypt, s.makerKey, s.enrolKey, s.attestKey)

/-- No session is open, no command is dispatched and no escalation rule is enabled, and the keys are those of σ. With no
rule a fault keeps its class, and with no command its reaction completes none. -/
structure Dormant (σ s : State) : Prop where
  keys : keysOf s = keysOf σ
  sessions : s.sessions = []
  running : s.running = []
  rules : ∀ r, rd s FLT_ESC.EN r = 0

section
variable {σ s t : State}

theorem Dormant.ite {c : Prop} [Decidable c] (h : Dormant σ s) (k : Dormant σ t) : Dormant σ (if c then s else t) := by
  split
  · exact h
  · exact k

theorem Dormant.foldl {α : Type} {g : State → α → State} (h : Dormant σ s)
    (hg : ∀ t x, Dormant σ t → Dormant σ (g t x)) (l : List α) : Dormant σ (l.foldl g s) := by
  induction l generalizing s with
  | nil => exact h
  | cons a l ih => exact ih (hg s a h)

theorem Dormant.forEach {g : Nat → State → State} (h : Dormant σ s)
    (hg : ∀ x t, Dormant σ t → Dormant σ (g x t)) (l : List Nat) : Dormant σ (Machine.forEach l s g) := by
  induction l generalizing s with
  | nil => exact h
  | cons a l ih => exact ih (hg a s h)

/-! ## Writes, records and counters -/

theorem dormant_wr (h : Dormant σ s) (f : Fld) (i v : Nat) (hf : f.id ≠ FLT_ESC.EN.id := by decide) :
    Dormant σ (wr s f i v) :=
  ⟨h.keys, h.sessions, h.running, fun r => (rd_wr_id s f FLT_ESC.EN i r v hf).trans (h.rules r)⟩

theorem dormant_wrs (h : Dormant σ s) (l : List (Fld × Nat × Nat))
    (hl : l.all (fun e => e.1.id != FLT_ESC.EN.id) = true := by rfl) : Dormant σ (wrs s l) := by
  induction l generalizing s with
  | nil => exact h
  | cons e l ih =>
    obtain ⟨he, hl⟩ := Bool.and_eq_true_iff.1 hl
    exact ih (dormant_wr h e.1 e.2.1 e.2.2 (bne_iff_ne.1 he)) hl

theorem dormant_wrN (h : Dormant σ s) (f : Fld) (v n : Nat) (hf : f.id ≠ FLT_ESC.EN.id := by decide) :
    Dormant σ (wrN s f v n) := by
  induction n with
  | zero => exact h
  | succ n ih => exact dormant_wr ih f n v hf

theorem dormant_bump (h : Dormant σ s) (f : Fld) (i : Nat) (hf : f.id ≠ FLT_ESC.EN.id := by decide) :
    Dormant σ (bump s f i) :=
  .ite (dormant_wr (dormant_wr h f i _ hf) HID.SAT _ _) (dormant_wr h f i _ hf)

theorem dormant_emit (h : Dormant σ s) (o : Out) : Dormant σ (emit s o) := ⟨h.keys, h.sessions, h.running, h.rules⟩

theorem dormant_took (h : Dormant σ s) : Dormant σ (took s) := ⟨h.keys, h.sessions, h.running, h.rules⟩

theorem dormant_audit_entries (h : Dormant σ s) (x : List AuditEntry) : Dormant σ { s with audit := x } :=
  ⟨h.keys, h.sessions, h.running, h.rules⟩

theorem dormant_evqs (h : Dormant σ s) (x : Tab EvQ) : Dormant σ { s with evqs := x } :=
  ⟨h.keys, h.sessions, h.running, h.rules⟩

theorem dormant_sendIrq (h : Dormant σ s) (v : Nat) : Dormant σ (sendIrq s v) :=
  .ite h (.ite (dormant_wr h HID.MSIX_PEND v 1) (dormant_emit h _))

theorem dormant_evqPush (h : Dormant σ s) (q : Nat) (r : EvRec) : Dormant σ (evqPush s q r) := by
  unfold evqPush
  split
  · exact h
  · exact .ite h (.ite (dormant_bump (dormant_evqs h _) _ _)
      (.ite (dormant_sendIrq (dormant_emit (dormant_evqs h _) _) _) (dormant_emit (dormant_evqs h _) _)))

theorem dormant_evqAll (h : Dormant σ s) (type source cls : Nat) (data : List Byte) :
    Dormant σ (evqAll s type source cls data) :=
  h.forEach (fun _ _ h => dormant_evqPush h _ _) _

theorem dormant_perfAdd (h : Dormant σ s) (amount n : Nat) : Dormant σ (perfAdd amount s n) :=
  .ite (dormant_wr h PMU_CTR.COUNT n _) (dormant_wrs (dormant_wr h PMU_CTR.COUNT n _) _)

theorem dormant_counterRecord (h : Dormant σ s) (n : Nat) : Dormant σ (counterRecord s n) :=
  .ite (dormant_evqAll h _ _ _ _) h

theorem dormant_perf (h : Dormant σ s) (e : PerfEv) : Dormant σ (perf s e) :=
  (h.foldl (fun _ _ h => dormant_perfAdd h _ _) _).foldl (fun _ _ h => dormant_counterRecord h _) _

theorem dormant_event (h : Dormant σ s) (type source cls : Nat) (data : List Byte) :
    Dormant σ (event s type source cls data) :=
  dormant_perf (dormant_perf (dormant_wr (dormant_evqAll h _ _ _ _) HID.IDLE_AT 0 _) _) _

/-! ## Faults (R446, R447, R449) -/

theorem Dormant.escRule_eq_none (h : Dormant σ s) (src cls : Nat) : escRule s src cls = none :=
  List.find?_eq_none.2 fun r _ => by simp [escMatches, flag, h.rules r]

theorem Dormant.faultClass_eq (h : Dormant σ s) (src cls : Nat) : faultClass s src cls = cls := by
  rw [faultClass, h.escRule_eq_none]
  rfl

theorem dormant_updFaultPin (h : Dormant σ s) : Dormant σ (updFaultPin s) := dormant_wr h GLB_PIN_STAT.FAULT 0 _

theorem dormant_faultRecord (h : Dormant σ s) (src cls : Nat) (esc new : Bool) (rule : Option Nat) (d : List Byte) :
    Dormant σ (faultRecord s src cls esc new rule d) :=
  .ite h (dormant_event (.ite (dormant_wr h HID.FLT_REC_AT src _) h) _ _ _ _)

theorem dormant_recordFault (h : Dormant σ s) (src cls : Nat) (d : List Byte) :
    Dormant σ (recordFault s src cls d) := by
  have hcount : Dormant σ (escCount s (escRule s src cls)) := by rwa [h.escRule_eq_none]
  exact dormant_updFaultPin (dormant_faultRecord (dormant_bump (dormant_wrs (dormant_perf hcount _) _) _ _) _ _ _ _ _ _)

/-- What a fault does beyond its record depends on the class it takes. -/
theorem raise_eq (src cls : Nat) (d : List Byte) (s : State) : raise src cls d s =
    if faultClass s src cls == 3 then
      if isSafe s then updFaultPin (wr (recordFault s src cls d) FLT_SUMMARY.FATAL 0 1)
      else enterSafe (raiseN 3) (recordFault s src cls d)
    else if faultClass s src cls == 2 && cls == 1 then isolate (raiseN 3) src d (recordFault s src cls d)
    else recordFault s src cls d := rfl

/-- A corrected or contained fault is not promoted, so it is recorded and nothing else. -/
theorem Dormant.raise_eq_recordFault (h : Dormant σ s) {cls : Nat} (hc : cls = 1 ∨ cls = 2) (src : Nat)
    (d : List Byte) : raise src cls d s = recordFault s src cls d := by
  rw [raise_eq, h.faultClass_eq]
  rcases hc with rfl | rfl <;> rfl

theorem dormant_faultC (h : Dormant σ s) (src : Nat) : Dormant σ (faultC src s) := by
  rw [faultC, h.raise_eq_recordFault (.inl rfl)]
  exact dormant_recordFault h _ _ _

theorem dormant_faultK (h : Dormant σ s) (src : Nat) : Dormant σ (faultK src s) := by
  rw [faultK, h.raise_eq_recordFault (.inr rfl)]
  exact dormant_recordFault h _ _ _

/-! ## The safe state (R446, R447) -/

theorem dormant_siteClear (h : Dormant σ s) (k : Nat) : Dormant σ (siteClear s k) :=
  h.forEach (fun _ _ h => dormant_wrs h _) _

theorem dormant_htrLow (h : Dormant σ s) (k : Nat) : Dormant σ (htrLow s k) :=
  h.forEach (fun _ _ h => dormant_wrs h _) _

theorem dormant_stopWake (h : Dormant σ s) (R : Raise) (l reason : Nat) (n : Option Nat) :
    Dormant σ (stopWake R l reason n s) := by
  unfold stopWake
  extract_lets frames s0 s1 s2 s3
  have h0 : Dormant σ s0 := dormant_emit (dormant_wr h HID.WAKE_JOB l 0) _
  have h1 : Dormant σ s1 :=
    .ite (dormant_wr (dormant_wr h0 SHF_TX_STAT.WAKE_FRAMES l _) HID.SAT _ _) (dormant_wr h0 SHF_TX_STAT.WAKE_FRAMES l _)
  have h2 : Dormant σ s2 := .ite h1 (dormant_took h1)
  have hr : s3.running = [] := by simp [s3, h2.running]
  have h3 : Dormant σ s3 := ⟨h2.keys, h2.sessions, hr, h2.rules⟩
  rw [hr]
  exact .ite h h3

theorem dormant_ctxDrop (h : Dormant σ s) : Dormant σ (ctxDrop s) :=
  dormant_wrs (s := { s with siCtx := none }) ⟨h.keys, h.sessions, h.running, h.rules⟩ _

theorem dormant_freeSlot (h : Dormant σ s) (n : Nat) : Dormant σ (freeSlot s n) := by
  unfold freeSlot
  extract_lets s0 s1
  have h0 : Dormant σ s0 := .ite (dormant_ctxDrop h) h
  exact dormant_wrs (s := s1) ⟨h0.keys, h0.sessions, h0.running, h0.rules⟩ _

theorem Dormant.completeWhere_eq (h : Dormant σ s) (R : Raise) (p : Run → Bool) (q : Reply) :
    completeWhere R p q s = s := by
  simp [completeWhere, h.running]

theorem dormant_enterSafe (h : Dormant σ s) (R : Raise) : Dormant σ (enterSafe R s) := by
  unfold enterSafe
  extract_lets s1 s2 s3 s4
  have h1 : Dormant σ s1 := dormant_updFaultPin (dormant_wr h FLT_SUMMARY.FATAL 0 1)
  have h2 : Dormant σ s2 := h1.forEach (fun _ _ h => dormant_htrLow (dormant_siteClear h _) _) _
  have h3 : Dormant σ s3 := dormant_wrN (dormant_wrN h2 HID.SQ_OUT 1 512) GAL_STAT.STATE 0 68
  have h4 : Dormant σ s4 := h3.forEach (fun _ _ h => dormant_stopWake h _ _ _ _) _
  have h5 : Dormant σ (discardLandings s4) := h4.forEach (fun _ _ h => dormant_freeSlot h _) _
  rwa [h5.completeWhere_eq]

theorem dormant_faultF (h : Dormant σ s) (src : Nat) : Dormant σ (faultF src s) := by
  have hr : Dormant σ (recordFault s src 3 []) := dormant_recordFault h _ _ _
  rw [faultF, raise_eq, h.faultClass_eq, if_pos (beq_self_eq_true 3)]
  exact .ite (dormant_updFaultPin (dormant_wr hr FLT_SUMMARY.FATAL 0 1)) (dormant_enterSafe hr _)

/-! ## Audit entries (R119) -/

theorem dormant_auditAppend {R : State → State} (h : Dormant σ s) (hR : ∀ t, Dormant σ t → Dormant σ (R t))
    (type role cred handle opcode status : Nat) (d : List Byte) :
    Dormant σ (auditAppend R s type role cred handle opcode status d) := by
  unfold auditAppend
  extract_lets seq e e' s1
  have h1 : Dormant σ s1 := dormant_wr h SEC_AUDIT_STAT.HEAD_SEQ 0 _
  split
  · exact .ite (dormant_audit_entries h1 _) (.ite (dormant_audit_entries h1 _)
      (hR _ (dormant_bump (dormant_audit_entries h1 _) SEC_AUDIT_STAT.LOST 0)))
  · exact dormant_audit_entries h1 _

theorem dormant_audit (h : Dormant σ s) (type role cred handle opcode status : Nat) (d : List Byte) :
    Dormant σ (audit s type role cred handle opcode status d) :=
  have hR : ∀ t, Dormant σ t → Dormant σ (faultC 0x103 t) := fun _ h => dormant_faultC h _
  dormant_auditAppend (.ite (dormant_auditAppend (dormant_took h) hR _ _ _ _ _ _ _) h) hR _ _ _ _ _ _ _

/-! ## Bring-up from step 2 (R81, R82, R88) -/

theorem dormant_halt (h : Dormant σ s) : Dormant σ (halt s) := dormant_wrs h _

theorem dormant_loadAgeMax (h : Dormant σ s) : Dormant σ (loadAgeMax s) :=
  h.forEach (fun n _ h => dormant_wr h PWR_PL.AGE_MAX n _) _

theorem dormant_fwAbandon (h : Dormant σ s) (n code : Nat) : Dormant σ (fwAbandon s n code) := by
  unfold fwAbandon
  extract_lets s1 s2
  have h1 : Dormant σ s1 := .ite (dormant_wrs h _) (dormant_wrs h _)
  have h2 : Dormant σ s2 := dormant_faultC (dormant_wr h1 HID.FW_TRIED 0 _) _
  exact .ite (dormant_faultK (dormant_wrs h2 _) _) h2

theorem dormant_readHeaders (h : Dormant σ s) : Dormant σ (readHeaders s) :=
  h.forEach (fun _ _ h => .ite (dormant_fwAbandon h _ _) h) _

theorem dormant_resumeBoot (h : Dormant σ s) (b : BootTest) : Dormant σ (resumeBoot b s) :=
  .ite h (.ite (dormant_halt (dormant_faultF h _)) (.ite (dormant_halt h) (.ite (dormant_halt (dormant_faultF h _))
    (dormant_readHeaders (dormant_loadAgeMax (dormant_wrs h _))))))

/-! ## The warm reset (R93) -/

theorem dormant_levelNow (h : Dormant σ s) (n l : Nat) : Dormant σ (levelNow s n l) := by
  unfold levelNow thermEvent
  exact dormant_event (dormant_perf (dormant_wr h PWR_PL.NOW n l) _) _ _ _ _

theorem dormant_vrmGo (h : Dormant σ s) (n mv up : Nat) : Dormant σ (vrmGo s n mv up) := by
  unfold vrmGo
  extract_lets s1
  have h1 : Dormant σ s1 := dormant_wrs h _
  exact .ite (.ite (dormant_levelNow h1 _ _) h1) (dormant_emit (dormant_wrs h1 _) _)

theorem dormant_levelStep (h : Dormant σ s) (n : Nat) : Dormant σ (levelStep s n) := by
  unfold levelStep
  extract_lets now goal s1
  have h1 : Dormant σ s1 := dormant_levelNow h _ _
  exact .ite h (.ite (.ite (dormant_vrmGo h _ _ _) (dormant_levelNow h _ _)) (.ite (dormant_vrmGo h1 _ _ _) h1))

theorem dormant_levelEval (h : Dormant σ s) (n : Nat) : Dormant σ (levelEval s n) :=
  dormant_levelStep (dormant_levelStep (dormant_levelStep h n) n) n

end

/-- No escalation rule outlives a warm reset: its enable is neither in fuses nor among what the reset keeps. -/
theorem tabGet_warmRegs_escEn (s : State) (r : Nat) : tabGet (warmRegs s) (FLT_ESC.EN.id, r) = none := by
  refine tabGet_filter_none _ _ _ fun e _ he => ?_
  have hown : ownKey (FLT_ESC.EN.id, r) = (FLT_ESC.EN.id, r) := rfl
  have hkept : (idIn fuseFields FLT_ESC.EN.id || idIn warmFields FLT_ESC.EN.id || isRos FLT_ESC.EN.id) = false := by
    decide +kernel
  rw [he, hown, hkept]
  rfl

/-- The lists a warm reset leaves, whatever its scalars. -/
theorem dormant_resetLists (s : State) : Dormant s (resetLists s (warmRegs s)) := by
  refine ⟨rfl, rfl, rfl, fun r => ?_⟩
  have hnone : tabGet (resetLists s (warmRegs s)).regs (FLT_ESC.EN.id, r) = none := tabGet_warmRegs_escEn s r
  rw [rd, hnone]
  rfl

theorem dormant_warmCore (s : State) : ∃ σ, Dormant σ (warmCore s) := by
  unfold warmCore
  extract_lets s1 s2
  have h2 : Dormant s1 s2 := (dormant_resetLists s1).foldl (fun _ _ h => dormant_wr h SHF_RX_SLICE.STATE _ 1) _
  have h3 : Dormant s1 (siteStates s2) := h2.forEach (fun _ _ h => dormant_wr h EMG_SITE_CTRL.STATE _ _) _
  exact ⟨s1, (dormant_wrN h3 HID.SQ_SAFE 1 64).forEach (fun _ _ h => dormant_levelEval h _) _⟩

/-! ## Zeroisation (R115) -/

theorem keysOf_wipeKeys (s : State) : keysOf (wipeKeys s) = ([], [], [], [], [], none, none, none) := rfl

theorem dormant_wipeKeys {σ s : State} (h : Dormant σ s) : Dormant (wipeKeys s) (wipeKeys s) :=
  ⟨rfl, h.sessions, h.running, fun r =>
    (rd_wrs_other _ _ _ _ fun e he => .inl (by revert e; decide)).trans (h.rules r)⟩

/-- What follows the wipe writes audit entries and resumes boot, and leaves the keys as the wipe left them. -/
theorem dormant_zeroise (b : BootTest) (role cred handle : Nat) (s : State) :
    Dormant (wipeKeys (warmCore s)) (zeroise b role cred handle s) := by
  obtain ⟨σ, hwarm⟩ := dormant_warmCore s
  unfold zeroise
  extract_lets lc s1 s2
  have h1 : Dormant (wipeKeys (warmCore s)) s1 := dormant_wr (dormant_wipeKeys hwarm) SEC_STATUS.CRYPTO_ERR 0 _
  have h2 : Dormant (wipeKeys (warmCore s)) s2 :=
    .ite h1 (dormant_audit (dormant_wr h1 SEC_STATUS.LIFECYCLE 0 3) _ _ _ _ _ _ _)
  exact dormant_resumeBoot (dormant_audit h2 _ _ _ _ _ _ _) b

/-- Settles O21: the warm reset leaves no session, the wipe no key, and what follows the wipe neither opens a session nor
writes a key. -/
theorem zeroisationLeavesNoKey : Obligations.ZeroisationLeavesNoKey := by
  intro b role cred handle s
  have h := dormant_zeroise b role cred handle s
  have hkeys := h.keys.trans (keysOf_wipeKeys _)
  simp only [keysOf, Prod.mk.injEq] at hkeys
  obtain ⟨hop, hinst, hcak, hverify, hdecrypt, hmaker, henrol, hattest⟩ := hkeys
  exact ⟨hop, hinst, hcak, hverify, hdecrypt, hmaker, henrol, hattest, h.sessions⟩

end Sys2Proof

/-! PROOFS. The opcodes of ring control and the register commands. -/

namespace Sys2Proof

open Sys2Proof.Machine

/-! ## Ring control (R140, R141, R145) -/

/-- What leaves a ring's queue is not dispatched by that alone. -/
theorem popFront_running (s : State) (r : Nat) : (popFront s r).running = s.running := by
  unfold popFront
  dsimp only
  split <;> rfl

theorem completes_nop : Completes .nop opNop (fun _ _ => True) (fun s _ => s) (fun _ _ => rOk) :=
  completes_of (fun _ _ => rfl) fun _ _ _ _ _ => rfl

theorem opFence_run_idle {s : State} {r : Nat} (a : Acc) (h : ∀ x ∈ s.running, x.ring ≠ r) : opFence.run r a s =
    .doneThen s (fenceReply s r) (fun t => setRing t r { ringOf t r with nonOk := 0 }) :=
  if_neg (by simpa using h)

theorem exec_fence_idle {r : Ring} {s : State} {a : Acc} (h : Runs opFence s r a)
    (hi : ∀ x ∈ s.running, x.ring ≠ r.val) : exec (.fence r) s = .next (
      let t := finish (popFront s r.val) r.val a ⟨.ok, (ringOf (popFront s r.val) r.val).nonOk, none, false⟩
      setRing t r.val { ringOf t r.val with nonOk := 0 }) :=
  congrArg _ (h.doneThen (opFence_run_idle a (by rwa [popFront_running])))

theorem acts_fenceRelease (r : Ring) {x : Run} (hw : waitsOn 3 [] x = true) : Acts (.fenceRelease r)
    (fun s => s.running.filter (fun y => y.ring == r.val) = [x] ∧ (ringOf s r.val).resumed = [])
    (fun s => let t := finish (dropRun s r.val x.acc.cmd.tag) r.val x.acc ⟨.ok, (ringOf s r.val).nonOk, none, false⟩
      setRing t r.val { ringOf t r.val with nonOk := 0 }) :=
  .of_next (fun _ => rfl) fun _ ⟨hf, hr⟩ => by
    rw [hf]
    exact if_pos (by simp [hw, hr])

/-- A BARRIER of a set that names its ring is dispatched, and then sets that are complete are settled. -/
theorem exec_barrier_waits {r : Ring} {s : State} {a : Acc} (h : Runs opBarrier s r a)
    (hb : bitOf (leVal a.cmd.payload) r.val = true) : exec (.barrier r) s =
      .next (settleBarriers (faultC 0x103) { popFront s r.val with
        running := s.running ++ [⟨r.val, a, .waiting [a.handle, a.cmd.aux, leVal a.cmd.payload]⟩] }) := by
  have hrun : opBarrier.run r.val a (popFront s r.val) =
      .wait (popFront s r.val) [a.handle, a.cmd.aux, leVal a.cmd.payload] := if_pos hb
  rw [← popFront_running s r.val]
  exact congrArg (fun t => Host.Outcome.next (settleBarriers (faultC 0x103) t)) (h.waits hrun)

/-! ## Opcodes the table does not assign (R113, R138) -/

/-- The front command of a ring that is neither held nor stopped by an error. -/
def RingFront (s : State) (r : Nat) (a : Acc) (l : List Acc) : Prop :=
  (ringOf s r).accepted = a :: l ∧ (ringOf s r).resumed = [] ∧ ringHeld s r = false ∧ (ringOf s r).error = false

theorem exec_opcodeUnassigned {r : Ring} {s : State} {a : Acc} {l : List Acc} (h : RingFront s r.val a l)
    (ha : assigned a.cmd.opcode = false) : exec (.opcodeUnassigned r) s = .next (
      if makerOnly s a.role a.cmd.opcode then finish (took (took (popFront s r.val))) r.val a
        ⟨freeStatus (freeNat s), Config.freeValue (s.freeCnt + 1) % 65536, some (freeNat s % 2 ^ 64), false⟩
      else finish (popFront s r.val) r.val a (rStat .denied)) := by
  obtain ⟨hfront, hres, hheld, herr⟩ := h
  show execOpcodeUnassigned r s = _
  unfold execOpcodeUnassigned
  rw [hres, hfront]
  exact congrArg _ (if_neg (by simp [ha, hheld, herr]))

theorem acts_opcodeUnassigned_denied (r : Ring) {a : Acc} (l : List Acc) (ha : assigned a.cmd.opcode = false) :
    Acts (.opcodeUnassigned r)
    (fun s => (ringOf s r.val).accepted = a :: l ∧ (ringOf s r.val).resumed = [] ∧ ringHeld s r.val = false ∧
      (ringOf s r.val).error = false ∧ makerOnly s a.role a.cmd.opcode = false)
    (fun s => finish (popFront s r.val) r.val a ⟨.denied, 0, none, false⟩) := fun _ ⟨hf, hr, hh, he, hm⟩ => by
  rw [exec_opcodeUnassigned ⟨hf, hr, hh, he⟩ ha, hm]
  rfl

theorem acts_opcodeUnassigned_maker (r : Ring) {a : Acc} (l : List Acc) (ha : assigned a.cmd.opcode = false) :
    Acts (.opcodeUnassigned r)
    (fun s => (ringOf s r.val).accepted = a :: l ∧ (ringOf s r.val).resumed = [] ∧ ringHeld s r.val = false ∧
      (ringOf s r.val).error = false ∧ makerOnly s a.role a.cmd.opcode = true)
    (fun s => finish (took (took (popFront s r.val))) r.val a
      ⟨freeStatus (freeNat s), Config.freeValue (s.freeCnt + 1) % 65536, some (freeNat s % 2 ^ 64), false⟩) :=
  fun _ ⟨hf, hr, hh, he, hm⟩ => by
    rw [exec_opcodeUnassigned ⟨hf, hr, hh, he⟩ ha, hm]
    rfl

/-! ## Register commands (R142, R143) -/

/-- A write that runs is not staged, so it takes effect at once. -/
theorem completes_regWrite : Completes .regWrite opRegWrite (fun _ _ => True) (fun s a => (rwLook (regPut s a) a).1)
    (fun s a => ⟨.ok, 0, some (rwLook (regPut s a) a).2, false⟩) := fun r s a h _ => by
  have ⟨_, _, hstage, _⟩ := h
  exact congrArg _ (h.done (by simp only [opRegWrite, hstage, Bool.false_eq_true, if_false, rData]))

theorem completes_regRead : Completes (fun r => .regRead r false) (opRegRead false) (fun _ _ => True)
    (fun s a => (rwLook s a).1) (fun s a => ⟨.ok, 0, some (rwLook s a).2, false⟩) :=
  completes_of (fun _ _ => rfl) fun _ _ _ _ _ => rfl

theorem completes_regRead_uncorr : Completes (fun r => .regRead r true) (opRegRead true) (fun _ _ => True)
    (fun s a => faultK (0x950 + storeDie (regOff a)) (bump s MEM_SRAM_STAT.UNCORR (storeDie (regOff a))))
    (fun _ _ => ⟨.uncorr, 0, none, false⟩) :=
  completes_of (fun _ _ => rfl) fun _ _ _ _ _ => rfl

/-- Settles O19: each opcode by the lemma above for its case; the timeout of a barrier acts in every state. -/
theorem ringControlOpcodesComplete : Obligations.RingControlOpcodesComplete :=
  ⟨completes_nop, fun _ _ _ h hi => exec_fence_idle h hi, fun r _ hw _ => acts_fenceRelease r hw,
    fun _ _ _ h hb => exec_barrier_waits h hb, fun _ _ _ _ => rfl, fun r _ l ha => acts_opcodeUnassigned_denied r l ha,
    fun r _ l ha => acts_opcodeUnassigned_maker r l ha, completes_regWrite, completes_regRead, completes_regRead_uncorr⟩

end Sys2Proof

/-! PROOFS. The opcodes of sessions, credentials, the lifecycle and the audit record, and the update of firmware. -/

namespace Sys2Proof

open Sys2Proof.Machine

/-! ## Sessions (R104, R114) -/

theorem completes_sessionInfo : Completes .sessionInfo opSessionInfo (fun _ a => a.cmd.ptr = false) (fun s _ => s)
    (fun s a => ⟨.ok, 0, some (infoData s a), false⟩) :=
  completes_of (fun _ _ => rfl) fun _ _ _ _ h => by simp [opSessionInfo, rData, h]

theorem completesThen_sessionClose : CompletesThen .sessionClose opSessionClose (fun _ a => opdBit a 0x10 0 = false)
    (fun s _ => s) (fun _ _ => rOk) (fun _ a t => closeSession t a.handle) :=
  completesThen_of (fun _ _ => rfl) fun _ _ _ _ h => by simp [opSessionClose, h]

theorem completes_ringBind : Completes .ringBind opRingBind (fun _ a => a.cmd.aux = 0)
    (fun s a => (ringBits (leVal a.cmd.payload)).foldl (bindRing a.handle) s) (fun _ _ => rOk) :=
  completes_of (fun _ _ => rfl) fun _ _ _ _ h => by simp [opRingBind, h]

/-! ## Credentials (R103, R105, R116) -/

/-- A key that does not open under the session's transport key is refused; one that does is stored. -/
theorem exec_opkeySet {r : Ring} {s : State} {a : Acc} (h : Runs opOpkeySet s r a) : exec (.opkeySet r) s = .next (
    let s1 := popFront s r.val
    match openSecret r.val a (sliceOf a.cmd.buf 0 48) (sliceOf a.cmd.buf 48 16) with
    | none => finish s1 r.val a ⟨.invalid, 0xFFFF, none, false⟩
    | some key =>
      let k : BitVec 384 := BitVec.ofNat 384 (leVal key)
      closeCred (finish (audit (keyStep { s1 with opKeys := tabPut s1.opKeys (opdB a 0x1C, 0) k }) 7 a.role a.cred
        a.handle 0x14 0 (bytesOf [opdB a 0x1C])) r.val a rOk) 1 (opdB a 0x1C)) := by
  refine congrArg Host.Outcome.next (h.dispatch_eq.trans ?_)
  simp only [opOpkeySet]
  cases openSecret r.val a (sliceOf a.cmd.buf 0 48) (sliceOf a.cmd.buf 48 16) <;> rfl

theorem completesThen_opkeyRevoke : CompletesThen .opkeyRevoke opOpkeyRevoke
    (fun s a => (tabGet s.opKeys (opdB a 0x10, 0)).isSome = true)
    (fun s a => audit (keyStep { s with opKeys := tabDel s.opKeys (opdB a 0x10, 0) }) 7 a.role a.cred a.handle 0x15 0
      (bytesOf [opdB a 0x10])) (fun _ _ => rOk) (fun _ a t => closeCred t 1 (opdB a 0x10)) :=
  completesThen_of (fun _ _ => rfl) fun _ _ _ _ h => if_neg (by simpa [Option.isSome_iff_ne_none] using h)

theorem exec_instcredSet {r : Ring} {s : State} {a : Acc} (h : Runs opInstcredSet s r a) :
    exec (.instcredSet r) s = .next (
    let s1 := popFront s r.val
    match openSecret r.val a (sliceOf a.cmd.buf 0x28 48) (sliceOf a.cmd.buf 0x58 16) with
    | none => finish s1 r.val a ⟨.invalid, 0xFFFF, none, false⟩
    | some key =>
      let c : InstCred := ⟨opdBuf a 0 1 == 1, opdBuf a 4 4, BitVec.ofNat 256 (opdBuf a 8 32),
        BitVec.ofNat 384 (leVal key)⟩
      closeCred (finish (audit (keyStep { s1 with instCreds := tabPut s1.instCreds (opdB a 0x1C, 0) c }) 7 a.role a.cred
        a.handle 0x16 0 (bytesOf [opdB a 0x1C])) r.val a rOk) 2 (opdB a 0x1C)) := by
  refine congrArg Host.Outcome.next (h.dispatch_eq.trans ?_)
  simp only [opInstcredSet]
  cases openSecret r.val a (sliceOf a.cmd.buf 0x28 48) (sliceOf a.cmd.buf 0x58 16) <;> rfl

theorem completesThen_instcredRevoke : CompletesThen .instcredRevoke opInstcredRevoke
    (fun s a => (tabGet s.instCreds (opdB a 0x10, 0)).isSome = true)
    (fun s a => audit (keyStep { s with instCreds := tabDel s.instCreds (opdB a 0x10, 0) }) 7 a.role a.cred a.handle
      0x17 0 (bytesOf [opdB a 0x10])) (fun _ _ => rOk) (fun _ a t => closeCred t 2 (opdB a 0x10)) :=
  completesThen_of (fun _ _ => rfl) fun _ _ _ _ h => if_neg (by simpa [Option.isSome_iff_ne_none] using h)

/-! ## The lifecycle (R106, R108, R115) -/

theorem completesThen_lcTransition_factory (b : BootTest) : CompletesThen (.lcTransition · b) (opLcTransition b)
    (fun s _ => rd s SEC_STATUS.LIFECYCLE 0 = 0) (fun s _ => s) (fun _ _ => rOk)
    (fun _ a t => audit (closeAll (wr t SEC_STATUS.LIFECYCLE 0 1)) 8 a.role a.cred a.handle 0x18 0 (bytesOf [0, 1])) :=
  completesThen_of (fun _ _ => rfl) fun _ _ _ _ h => if_pos (beq_iff_eq.2 h)

theorem completesThen_lcTransition_installed (b : BootTest) : CompletesThen (.lcTransition · b) (opLcTransition b)
    (fun s _ => rd s SEC_STATUS.LIFECYCLE 0 = 2) (fun s _ => s) (fun _ _ => rOk)
    (fun _ a t => zeroise b a.role a.cred a.handle t) :=
  completesThen_of (fun _ _ => rfl) fun _ _ _ _ h => if_neg (by simp [h])

theorem completes_returnApprove : Completes .returnApprove opReturnApprove (fun _ _ => True)
    (fun s _ => wrs s [(SEC_STATUS.RETURN_ARMED, 0, 1), (HID.RETURN_AT, 0, rd s HID.TICKS 0)]) (fun _ _ => rOk) :=
  completes_of (fun _ _ => rfl) fun _ _ _ _ _ => rfl

theorem completesThen_zeroize (b : BootTest) : CompletesThen (.zeroize · b) (opZeroize b) (fun _ _ => True)
    (fun s _ => s) (fun _ _ => rOk) (fun _ a t => zeroise b a.role a.cred a.handle t) :=
  completesThen_of (fun _ _ => rfl) fun _ _ _ _ _ => rfl

/-! ## The audit record and the report leave the device (R120 to R122) -/

theorem completes_auditExport : Completes .auditExport opAuditExport (fun _ _ => True)
    (fun s a =>
      let es := exportEntries s a
      let last := (es.getLast?.map (·.seq)).getD 0
      let head := serialBytes ++ leBytes 8 (opd a 0x20 8) ++ leBytes 8 last ++ leBytes 4 (rd s SEC_AUDIT_STAT.LOST 0)
        ++ leBytes 12 0 ++ leBytes 48 ((es.getLast?.map (·.chain.toNat)).getD 0)
      wr (markExported (toHost (took s) (opd a 0x10 8) (es.flatMap auditEntryBytes ++ head ++ signWith s head))
        (es.map (·.seq))) SEC_AUDIT_STAT.EXPORT_SEQ 0 last)
    (fun s a => ⟨.ok, 0, some (exportEntries s a).length, false⟩) :=
  completes_of (fun _ _ => rfl) fun _ _ _ _ _ => rfl

theorem completes_attest : Completes .attest opAttest (fun _ _ => True)
    (fun s a => toHost (took s) (opd a 0x10 8) (attestReport s (a.cmd.buf.take 32)))
    (fun s a => ⟨.ok, 0, some (attestReport s (a.cmd.buf.take 32)).length, false⟩) :=
  completes_of (fun _ _ => rfl) fun _ _ _ _ _ => rfl

/-- Settles O22: each opcode by the lemma above for its case. -/
theorem trustOpcodesComplete : Obligations.TrustOpcodesComplete :=
  ⟨⟨completes_sessionInfo, completesThen_sessionClose, completes_ringBind, fun _ _ _ => exec_opkeySet,
    completesThen_opkeyRevoke, fun _ _ _ => exec_instcredSet, completesThen_instcredRevoke⟩,
   completesThen_lcTransition_factory, completesThen_lcTransition_installed, completes_returnApprove,
    completesThen_zeroize, completes_auditExport, completes_attest⟩

/-! ## Firmware (R104, R117) -/

/-- A piece that is not the last extends the slot, or starts it anew at offset 0. -/
theorem completes_fwWrite_piece : Completes .fwWrite opFwWrite (fun _ a => opdBit a 0x1C 0 = false)
    (fun s a =>
      let old := if opd a 0x20 4 == 0 then [] else fwSlot s (fwTarget s)
      wrs { s with flash := tabPut s.flash (fwTarget s, 0) (old ++ a.cmd.buf) }
        [(HID.FW_WR_ON, 0, 1), (HID.FW_WR_END, 0, opd a 0x20 4 + a.cmd.buf.length)]) (fun _ _ => rOk) :=
  completes_of (fun _ _ => rfl) fun _ _ _ _ h => by
    simp only [opFwWrite, h, Bool.not_false, if_true]
    rfl

theorem startsWait_fwRestart : StartsWait .fwRestart opFwRestart (fun _ _ => True)
    (fun s _ => wr s HID.RESTARTING 0 1) (fun _ _ => []) :=
  startsWait_of (fun _ _ => rfl) fun _ _ _ _ _ => rfl

theorem acts_fwRestartDone : Acts .fwRestartDone (fun s => restartReady s = true)
    (fun s => if fwFail s (fwSlot s (fwTarget s)) true = 0 then restartEnd (fwRun s (fwTarget s)) rOk else s) :=
  .of_next (fun _ => rfl) fun _ h => by simp only [h, Bool.true_and, beq_iff_eq]

theorem acts_fwRestartTimeout : Acts .fwRestartTimeout (fun s => restartReady s = true)
    (fun s => complete (waitsOn 0x1E []) ⟨.timeout, 0, none, false⟩ (closeAll (wr s HID.RESTARTING 0 0))) :=
  .of_next (fun _ => rfl) fun _ h => if_pos h

theorem completes_fwCommit : Completes .fwCommit opFwCommit (fun _ _ => True)
    (fun s _ => wr s HID.MIN_FW_SVN 0 (max (rd s HID.MIN_FW_SVN 0) (rd s HID.FW_SVN_FULL 0))) (fun _ _ => rOk) :=
  completes_of (fun _ _ => rfl) fun _ _ _ _ _ => rfl

/-- Settles O23: each command and event by the lemma above for its case. -/
theorem firmwareUpdateActs : Obligations.FirmwareUpdateActs :=
  ⟨completes_fwWrite_piece, startsWait_fwRestart, acts_fwRestartDone, acts_fwRestartTimeout, completes_fwCommit⟩

end Sys2Proof

/-! PROOFS. Frames at the MAC of a port, its flow control and faults, and its MKA participant. -/

namespace Sys2Proof

open Sys2Proof.Machine

/-! ## Received frames (R290, R293) -/

theorem acts_macRxFrame_code (p : Port) {f : RxFrame} (hc : f.codeErr = true) : Acts (.macRxFrame p f)
    (fun s => portUp s p.val = true) (fun s => macDrop s PRT_MAC_ERR.CODE 3 p.val) :=
  .of_next (fun _ => rfl) fun _ hu => by simp [hu, hc]

theorem acts_macRxFrame_runt (p : Port) {f : RxFrame} (hc : f.codeErr = false) (hl : f.len < 64) :
    Acts (.macRxFrame p f) (fun s => portUp s p.val = true) (fun s => macDrop s PRT_MAC_ERR.RUNT 1 p.val) :=
  .of_next (fun _ => rfl) fun _ hu => by simp [hu, hc, hl]

theorem acts_macRxFrame_oversize (p : Port) {f : RxFrame} (hc : f.codeErr = false) (hl : 64 ≤ f.len) :
    Acts (.macRxFrame p f) (fun s => portUp s p.val = true ∧ rd s PRT_CFG.MAX_LEN p.val < f.len)
    (fun s => macDrop s PRT_MAC_ERR.OVERSIZE 2 p.val) :=
  .of_next (fun _ => rfl) fun _ ⟨hu, hm⟩ => by simp [hu, hc, hm, Nat.not_lt.2 hl]

theorem acts_macRxFrame_fcs (p : Port) {f : RxFrame} (hc : f.codeErr = false) (hl : 64 ≤ f.len) (hf : f.fcsOk = false) :
    Acts (.macRxFrame p f) (fun s => portUp s p.val = true ∧ f.len ≤ rd s PRT_CFG.MAX_LEN p.val)
    (fun s => macDrop s PRT_MAC_ERR.FCS 0 p.val) :=
  .of_next (fun _ => rfl) fun _ ⟨hu, hm⟩ => by simp [hu, hc, hf, Nat.not_lt.2 hl, Nat.not_lt.2 hm]

/-- A frame that passes every check of the MAC and is no MKPDU goes to the port's receive channels. -/
theorem acts_macRxFrame_passed (p : Port) {f : RxFrame} (hc : f.codeErr = false) (hl : 64 ≤ f.len) (hf : f.fcsOk = true)
    (hk : f.mkpdu = false) : Acts (.macRxFrame p f)
    (fun s => portUp s p.val = true ∧ f.len ≤ rd s PRT_CFG.MAX_LEN p.val) (fun s => secRx s p.val f) :=
  .of_next (fun _ => rfl) fun _ ⟨hu, hm⟩ => by simp [hu, hc, hf, hk, Nat.not_lt.2 hl, Nat.not_lt.2 hm]

theorem secRx_of_no_channel {s : State} {p : Nat} (f : RxFrame) (h : chansOf s p 1 = []) :
    secRx s p f = deliver s p f 0 false := by
  unfold secRx
  dsimp only
  rw [h]

theorem acts_macRxFrame_no_channel (p : Port) {f : RxFrame} (hc : f.codeErr = false) (hl : 64 ≤ f.len)
    (hf : f.fcsOk = true) (hk : f.mkpdu = false) : Acts (.macRxFrame p f)
    (fun s => portUp s p.val = true ∧ f.len ≤ rd s PRT_CFG.MAX_LEN p.val ∧ chansOf s p.val 1 = [])
    (fun s => deliver s p.val f 0 false) := fun s ⟨hu, hm, hn⟩ => by
  rw [acts_macRxFrame_passed p hc hl hf hk s ⟨hu, hm⟩]
  exact congrArg Host.Outcome.next (secRx_of_no_channel f hn)

/-! ## Sent frames (R290, R294) -/

/-- Packet k stands as number n at the MAC of port p, which is UP. -/
def AtMac (s : State) (p n : Nat) (k : Pkt) : Prop := pktOf s n = some k ∧ k.loc = .toMac p ∧ portUp s p = true

/-- The checks of a packet at the MAC, in their order; what passes them goes out plain, or by the transmit channel. -/
theorem exec_macTxFrame {s : State} {p : Port} {n : Nat} {k : Pkt} (h : AtMac s p.val n k) :
    exec (.macTxFrame p n) s = .next (
      if k.expired then expire s k
      else if rd s PRT_CFG.MAX_LEN p.val < k.len then losePkt (macDrop s PRT_MAC_ERR.OVERSIZE 2 p.val) k
      else (txChan s p.val).elim (macSend s p.val (max 64 k.len) k id) (secTx s p.val (max 64 k.len) · k)) := by
  obtain ⟨hk, hl, hu⟩ := h
  show execMacTxFrame p n s = _
  have hhere : (k.loc != .toMac p.val || !portUp s p.val) = false := by simp [hl, hu]
  rw [execMacTxFrame, hk]
  dsimp only
  rw [hhere, if_neg Bool.false_ne_true]
  cases txChan s p.val <;> rfl

theorem acts_macTxFrame_expired (p : Port) (n : Nat) (k : Pkt) : Acts (.macTxFrame p n)
    (fun s => pktOf s n = some k ∧ k.loc = .toMac p.val ∧ portUp s p.val = true ∧ k.expired = true)
    (fun s => expire s k) := fun _ ⟨hk, hl, hu, he⟩ => by
  rw [exec_macTxFrame ⟨hk, hl, hu⟩, if_pos he]

theorem acts_macTxFrame_oversize (p : Port) (n : Nat) (k : Pkt) : Acts (.macTxFrame p n)
    (fun s => pktOf s n = some k ∧ k.loc = .toMac p.val ∧ portUp s p.val = true ∧ k.expired = false ∧
      rd s PRT_CFG.MAX_LEN p.val < k.len)
    (fun s => losePkt (macDrop s PRT_MAC_ERR.OVERSIZE 2 p.val) k) := fun _ ⟨hk, hl, hu, he, hm⟩ => by
  rw [exec_macTxFrame ⟨hk, hl, hu⟩, he, if_neg Bool.false_ne_true, if_pos hm]

theorem acts_macTxFrame_plain (p : Port) (n : Nat) (k : Pkt) : Acts (.macTxFrame p n)
    (fun s => pktOf s n = some k ∧ k.loc = .toMac p.val ∧ portUp s p.val = true ∧ k.expired = false ∧
      k.len ≤ rd s PRT_CFG.MAX_LEN p.val ∧ txChan s p.val = none)
    (fun s => macSend s p.val (max 64 k.len) k id) := fun _ ⟨hk, hl, hu, he, hm, hc⟩ => by
  rw [exec_macTxFrame ⟨hk, hl, hu⟩, he, if_neg Bool.false_ne_true, if_neg (Nat.not_lt.2 hm), hc]
  rfl

theorem acts_macTxFrame_secured (p : Port) (n : Nat) (k : Pkt) (c : Nat) : Acts (.macTxFrame p n)
    (fun s => pktOf s n = some k ∧ k.loc = .toMac p.val ∧ portUp s p.val = true ∧ k.expired = false ∧
      k.len ≤ rd s PRT_CFG.MAX_LEN p.val ∧ txChan s p.val = some c)
    (fun s => secTx s p.val (max 64 k.len) c k) := fun _ ⟨hk, hl, hu, he, hm, hc⟩ => by
  rw [exec_macTxFrame ⟨hk, hl, hu⟩, he, if_neg Bool.false_ne_true, if_neg (Nat.not_lt.2 hm), hc]
  rfl

/-- An association whose PN is not spent protects the frame: it is counted, and sent longer by SecTAG and ICV. -/
theorem secTx_protects {s : State} (p len : Nat) {c : Nat} {k : Pkt} (hon : saOn s c (txAnOf s (k.gen % 2) c) = true)
    (hpn : rd s MSC_SA.PN (2 * c + txAnOf s (k.gen % 2) c) < pnLast) : ∃ t,
    secTx s p len c k = macSend t p (len + secAdds s c) k
      (Config.macsecSeal ((tabGet s.saks (c, txAnOf s (k.gen % 2) c)).getD 0) (rd s MSC_CHAN.SCI c)
        (rd s MSC_SA.PN (2 * c + txAnOf s (k.gen % 2) c)) (rd s MSC_SA.AN (2 * c + txAnOf s (k.gen % 2) c))
        (coffBytes (rd s MSC_CHAN.COFF c)) (flag s HID.MSC_INC_SCI c)) :=
  ⟨_, (if_neg (by simp [hon])).trans (if_neg (by simp [Nat.not_le.2 hpn]))⟩

/-- A spent association without a successor stops: the frame is lost, with a contained fault of the sheaf. -/
theorem secTx_stops {s : State} (p len : Nat) {c : Nat} {k : Pkt} (hon : saOn s c (txAnOf s (k.gen % 2) c) = true)
    (hpn : pnLast ≤ rd s MSC_SA.PN (2 * c + txAnOf s (k.gen % 2) c))
    (hnext : saOn s c (1 - txAnOf s (k.gen % 2) c) = false) :
    secTx s p len c k = raise (0x580 + p / 8) 2 [] (losePkt (perfPort (bump s MSC_CNT.NO_SA c) p 0x37 2 1) k) :=
  (if_neg (by simp [hon])).trans (if_pos (by simp [hpn, hnext]))

/-! ## Flow control and faults (R289, R290) -/

theorem acts_pfcFrameRx (p : Port) (q : List (Fin 8 × BitVec 16)) : Acts (.pfcFrameRx p q)
    (fun s => portUp s p.val = true) (fun s => q.foldl (pfcClass p.val) (bump s PRT_MAC_ERR.PFC_RX p.val)) :=
  .of_next (fun _ => rfl) fun _ hu => if_neg (by simp [hu])

theorem acts_remoteFaultRx (p : Port) (on : Bool) : Acts (.remoteFaultRx p on)
    (fun s => (portDef s p.val).isSome = true)
    (fun s => portEval raise false (wr s HID.PRT_REMOTE p.val (b2n on)) p.val) :=
  .of_next (fun _ => rfl) fun _ hd => if_neg (by simpa [Option.isSome_iff_ne_none] using hd)

/-! ## MKA (R118, R296) -/

/-- The participant of port p runs over transmit channel c, and the port is UP. -/
def MkaRuns (s : State) (p c : Nat) : Prop := txChan s p = some c ∧ flag s HID.MKA_ON p = true ∧ portUp s p = true

theorem exec_mkaHelloTimer {s : State} {p : Port} {c : Nat} (h : MkaRuns s p.val c) : exec (.mkaHelloTimer p) s =
    .next (if flag s MSC_CHAN.KEY_SERVER c && needsSak s p.val c then sakNew s p.val c else emit s (.mkpdu c none)) := by
  obtain ⟨hc, hon, hu⟩ := h
  show execMkaHelloTimer p s = _
  unfold execMkaHelloTimer
  rw [hc]
  exact congrArg _ (if_neg (by simp [hon, hu]))

theorem acts_mkaHelloTimer_newSak (p : Port) (c : Nat) : Acts (.mkaHelloTimer p)
    (fun s => txChan s p.val = some c ∧ flag s HID.MKA_ON p.val = true ∧ portUp s p.val = true ∧
      flag s MSC_CHAN.KEY_SERVER c = true ∧ needsSak s p.val c = true) (fun s => sakNew s p.val c) :=
  fun _ ⟨hc, hon, hu, hk, hn⟩ => by
    rw [exec_mkaHelloTimer ⟨hc, hon, hu⟩, hk, hn]
    rfl

theorem acts_mkaHelloTimer_notServer (p : Port) (c : Nat) : Acts (.mkaHelloTimer p)
    (fun s => txChan s p.val = some c ∧ flag s HID.MKA_ON p.val = true ∧ portUp s p.val = true ∧
      flag s MSC_CHAN.KEY_SERVER c = false) (fun s => emit s (.mkpdu c none)) := fun _ ⟨hc, hon, hu, hk⟩ => by
  rw [exec_mkaHelloTimer ⟨hc, hon, hu⟩, hk]
  rfl

theorem acts_mkpduRx (p : Port) (m : Mkpdu) (c : Nat) : Acts (.mkpduRx p m)
    (fun s => txChan s p.val = some c ∧ flag s HID.MKA_ON p.val = true ∧ portUp s p.val = true ∧
      Config.mkaIcv (mkaKey s p.val txtIck) m.body = m.icv) (fun s => mkpduTake s p.val c m) :=
  .of_next (fun _ => rfl) fun _ ⟨hc, hon, hu, hi⟩ => by
    rw [hc]
    exact if_neg (by simp [hon, hu, hi])

theorem acts_mkpduRx_badIcv (p : Port) (m : Mkpdu) : Acts (.mkpduRx p m)
    (fun s => Config.mkaIcv (mkaKey s p.val txtIck) m.body ≠ m.icv) id :=
  .of_next (fun _ => rfl) fun s hi => by
    cases txChan s p.val with
    | none => rfl
    | some c => exact if_pos (by simp [hi])

/-- A peer without a receive channel, of a port without a transmit channel, is dropped and nothing else. -/
theorem acts_mkaLifeExpire (p : Port) (sci : Nat) (e : Nat × Nat × Nat × Bool) : Acts (.mkaLifeExpire p sci)
    (fun s => (peersOf s p.val).find? (fun x => x.2.1 == sci) = some e ∧
      (chansOf { s with peers := tabDel s.peers (p.val, e.1) } p.val 1).find? (fun x =>
        rd { s with peers := tabDel s.peers (p.val, e.1) } MSC_CHAN.SCI x == sci) = none ∧
      txChan { s with peers := tabDel s.peers (p.val, e.1) } p.val = none)
    (fun s => { s with peers := tabDel s.peers (p.val, e.1) }) :=
  .of_next (fun _ => rfl) fun s ⟨he, hch, hc⟩ => by
    rw [he]
    dsimp only
    rw [hch]
    dsimp only
    rw [hc]

/-- Settles O33: each frame and event by the lemma above for its case; the end of a pause acts in every state. -/
theorem portsAndMacFramesAct : Obligations.PortsAndMacFramesAct :=
  ⟨⟨fun p _ hc => acts_macRxFrame_code p hc, fun p _ hc hl => acts_macRxFrame_runt p hc hl,
    fun p _ hc hl => acts_macRxFrame_oversize p hc hl, fun p _ hc hl hf => acts_macRxFrame_fcs p hc hl hf,
    fun p _ hc hl hf hk => acts_macRxFrame_no_channel p hc hl hf hk, acts_macTxFrame_oversize, acts_macTxFrame_plain,
    acts_macTxFrame_secured, acts_macTxFrame_expired,
    fun _ p _ _ hon => ⟨fun hpn => secTx_protects p.val _ hon hpn, fun hpn hn => secTx_stops p.val _ hon hpn hn⟩⟩,
   acts_pfcFrameRx, fun _ _ _ _ => rfl, acts_remoteFaultRx, acts_mkaHelloTimer_newSak, acts_mkaHelloTimer_notServer,
    acts_mkpduRx, acts_mkpduRx_badIcv, acts_mkaLifeExpire⟩

end Sys2Proof

/-! PROOFS. The command engine: every command answers, and a command that does not run has no effect but its completion. -/

namespace Sys2Proof

open Sys2Proof.Machine

/-! ## Every command answers (R138) -/

/-- Settles O5: of each command `keeps0_exec` says that it answers, keeps the queue and gives no free value back. -/
theorem everyCommandAnswersAndKeepsTheQueue : Obligations.EveryCommandAnswersAndKeepsTheQueue := fun c s =>
  have ⟨t, he, hk⟩ := keeps0_exec c s
  ⟨t, he, hk.pending, hk.free⟩

/-! ## Dispatch (R138, R139, R185, R193) -/

/-- A row with nothing around it is its opcode's dispatch. -/
theorem exec_opcodeRow {e : (Ring → Instr) × OpSpec} (h : OpcodeRow e) (r : Ring) (s : State) :
    exec (e.1 r) s = .next (dispatch e.2 r.val s) := by
  rcases h with h | h | h | h <;> fin_cases h <;> rfl

section
variable {o : OpSpec} {s : State} {r : Nat} {a : Acc} {p : Reply}

theorem dispatch_of_not_ready (h : ready s r o.op = none) : dispatch o r s = s := by
  unfold dispatch
  rw [h]

theorem dispatch_of_held (h : ready s r o.op = some a) (hb : blockHeld o s r a = true) : dispatch o r s = s := by
  unfold dispatch
  rw [h]
  exact if_pos hb

theorem dispatch_of_ready (h : ready s r o.op = some a) (hb : blockHeld o s r a = false) :
    dispatch o r s = execOp o r a (popFront s r) := by
  unfold dispatch
  rw [h]
  exact if_neg (Bool.eq_false_iff.1 hb)

theorem execOp_of_refusal (h : refusal o s r a = some p) : execOp o r a s = finish s r a p := by
  unfold execOp
  rw [h]

theorem execOp_of_stageCheck (hr : refusal o s r a = none) (hs : a.cmd.stage = true)
    (h : stageCheck o s a = some p) : execOp o r a s = finish s r a p := by
  unfold execOp
  rw [hr, if_pos hs, h]

theorem execOp_of_check (hr : refusal o s r a = none) (hs : a.cmd.stage = true → stageCheck o s a = none)
    (h : o.check s a = some p) : execOp o r a s = finish s r a p := by
  have hnone : (if a.cmd.stage then stageCheck o s a else none) = none := by
    split
    · exact hs ‹_›
    · rfl
  unfold execOp
  rw [hr, hnone, h]

theorem refusal_of_safe (hs : isSafe s = true) (ho : safeOp o.op = false) : refusal o s r a = some (rInv 0xFFFD) :=
  if_pos (by rw [hs, ho]; rfl)

theorem check1_of_dupTag (hrsvd : a.cmd.rsvd = 0) (hlnd : a.cmd.stage = true ∨ a.cmd.landing = 0)
    (hptr : o.ptr = 2 ∨ a.cmd.ptr = decide (o.ptr = 1)) (hok : a.cmd.ptr = true → ptrOk a.cmd = true)
    (hd : dupTag s r a = true) : check1 o s r a = some (rInv 0xFFFF) := by
  have hl : (!a.cmd.stage && a.cmd.landing != 0) = false := by rcases hlnd with h | h <;> simp [h]
  have ⟨htakes, hneeds⟩ : (a.cmd.ptr && o.ptr == 0) = false ∧ (!a.cmd.ptr && o.ptr == 1) = false := by
    rcases hptr with h | h
    · simp [h]
    · by_cases h1 : o.ptr = 1 <;> simp [h, h1]
  have hbuf : (a.cmd.ptr && !ptrOk a.cmd) = false := by simpa using hok
  unfold check1
  simp only [hrsvd, hl, htakes, hneeds, hbuf, hd]
  rfl

theorem refusal_of_check1 (hsafe : isSafe s = false) (hb : rd s GLB_BOOT_STAT.STAGE 0 ≠ 8)
    (h : check1 o s r a = some p) : refusal o s r a = some p := by
  unfold refusal
  rw [h, hsafe]
  exact (if_neg Bool.false_ne_true).trans ((if_neg (by simp [hb])).trans rfl)

theorem ready_of_ringHeld {op : Nat} (hq : (ringOf s r).resumed = []) (h : ringHeld s r = true) : ready s r op = none := by
  unfold ready
  dsimp only
  rw [hq, h]
  cases (ringOf s r).accepted <;> simp

end

/-- Settles O9: a row is its opcode's dispatch, of which the lemmas above name each outcome before the opcode's own rules. -/
theorem refusedCommandsHaveNoEffect : Obligations.RefusedCommandsHaveNoEffect := by
  refine ⟨fun e he r s => ?_, fun o s r a => refusal_of_safe, fun o s r a hsafe hb hrsvd hlnd hptr hok hd =>
    refusal_of_check1 hsafe hb (check1_of_dupTag hrsvd hlnd hptr hok hd), fun s r op hq ⟨x, hx, hr, ho⟩ =>
    ready_of_ringHeld hq (List.any_eq_true.2 ⟨x, hx, by simp [hr, ho]⟩)⟩
  rw [exec_opcodeRow he]
  refine ⟨fun h => by rw [dispatch_of_not_ready h], fun a ha => ⟨fun hb => by rw [dispatch_of_held ha hb], fun hb => ?_⟩⟩
  rw [dispatch_of_ready ha hb]
  exact ⟨fun p h => congrArg _ (execOp_of_refusal h), fun hr => ⟨fun hs p h => congrArg _ (execOp_of_stageCheck hr hs h),
    fun _ hn p h => congrArg _ (execOp_of_check hr (fun _ => hn) h),
    fun hs p h => congrArg _ (execOp_of_check hr (fun ht => by simp [hs] at ht) h)⟩⟩

end Sys2Proof

/-! PROOFS. A completion: what the traffic it makes can change, and what becomes of its ring. -/

namespace Sys2Proof

open Sys2Proof.Machine

/-! ## What traffic with the host changes (R13, R147, R148, R468, R481, R482) -/

/-- The fields that monitor the device's traffic with the host, and the pending bits of masked vectors. -/
def trafficFields : List Fld :=
  [HID.IDLE_AT, PMU_CTR.COUNT, PMU_CTR.OVF, PMU_OVF.OVF, HIF_EVQ_STAT.LOST, HID.MSIX_PEND, HID.SAT]

/-- From s to t only traffic with the host has passed: what leaves the device, the event queues and the fields that
monitor it may differ. -/
structure TrafficOnly (s t : State) : Prop where
  parts : t = { s with out := t.out, evqs := t.evqs, regs := t.regs }
  fields : ∀ f i, (∀ g ∈ trafficFields, g.id ≠ f.id) → rd t f i = rd s f i

theorem TrafficOnly.refl (s : State) : TrafficOnly s s := ⟨rfl, fun _ _ _ => rfl⟩

section
variable {s t u : State}

theorem TrafficOnly.trans (h : TrafficOnly s t) (k : TrafficOnly t u) : TrafficOnly s u :=
  ⟨k.parts.trans (by rw [h.parts]), fun f i hf => (k.fields f i hf).trans (h.fields f i hf)⟩

theorem TrafficOnly.ite {c : Prop} [Decidable c] (h : TrafficOnly s t) (k : TrafficOnly s u) :
    TrafficOnly s (if c then t else u) := by
  split
  · exact h
  · exact k

theorem TrafficOnly.foldl {α : Type} {g : State → α → State} (hg : ∀ t x, TrafficOnly t (g t x)) (l : List α)
    (s : State) : TrafficOnly s (l.foldl g s) := by
  induction l generalizing s with
  | nil => exact .refl s
  | cons a l ih => exact (hg s a).trans (ih (g s a))

theorem TrafficOnly.forEach {g : Nat → State → State} (hg : ∀ x t, TrafficOnly t (g x t)) (l : List Nat) (s : State) :
    TrafficOnly s (Machine.forEach l s g) := by
  induction l generalizing s with
  | nil => exact .refl s
  | cons a l ih => exact (hg a s).trans (ih (g a s))

theorem TrafficOnly.ringOf_eq (h : TrafficOnly s t) (r : Nat) : ringOf t r = ringOf s r := by
  unfold ringOf
  rw [h.parts]

end

theorem trafficOnly_wr {f : Fld} (hf : f ∈ trafficFields) (s : State) (i v : Nat) : TrafficOnly s (wr s f i v) :=
  ⟨rfl, fun g j hg => rd_wr_id s f g i j v (hg f hf)⟩

theorem trafficOnly_wrs {l : List (Fld × Nat × Nat)} (hl : ∀ e ∈ l, e.1 ∈ trafficFields) (s : State) :
    TrafficOnly s (wrs s l) :=
  ⟨by rw [wrs_eq l s], fun g j hg => rd_wrs_other l s g j fun e he => .inl (hg e.1 (hl e he))⟩

theorem trafficOnly_emit (s : State) (o : Out) : TrafficOnly s (emit s o) := ⟨rfl, fun _ _ _ => rfl⟩

theorem trafficOnly_evqs (s : State) (x : Tab EvQ) : TrafficOnly s { s with evqs := x } := ⟨rfl, fun _ _ _ => rfl⟩

/-- A counter of the traffic is written, and perhaps its mark. -/
theorem trafficOnly_bump {f : Fld} (hf : f ∈ trafficFields) (s : State) (i : Nat) : TrafficOnly s (bump s f i) :=
  .ite ((trafficOnly_wr hf s i _).trans (trafficOnly_wr (by simp [trafficFields]) _ _ _)) (trafficOnly_wr hf s i _)

theorem trafficOnly_hostDma (s : State) : TrafficOnly s (hostDma s) := trafficOnly_wr (by simp [trafficFields]) s _ _

/-- An interrupt is sent, leaves its pending bit, or does not come at all. -/
theorem trafficOnly_sendIrq (s : State) (v : Nat) : TrafficOnly s (sendIrq s v) :=
  .ite (.refl s) (.ite (trafficOnly_wr (by simp [trafficFields]) s _ _) (trafficOnly_emit s _))

/-- A record is not taken, lost and counted, or written with its interrupt. -/
theorem trafficOnly_evqPush (s : State) (q : Nat) (r : EvRec) : TrafficOnly s (evqPush s q r) := by
  unfold evqPush
  split
  · exact .refl s
  · have hwritten := fun x o => (trafficOnly_evqs s x).trans (trafficOnly_emit _ o)
    exact .ite (.refl s) (.ite ((trafficOnly_evqs s _).trans (trafficOnly_bump (by simp [trafficFields]) _ q))
      (.ite ((hwritten _ _).trans (trafficOnly_sendIrq _ _)) (hwritten _ _)))

theorem trafficOnly_counterRecord (s : State) (n : Nat) : TrafficOnly s (counterRecord s n) :=
  .ite (.forEach (fun q t => trafficOnly_evqPush t q _) _ s) (.refl s)

theorem trafficOnly_perfAdd (amount : Nat) (s : State) (n : Nat) : TrafficOnly s (perfAdd amount s n) := by
  have hcount := trafficOnly_wr (f := PMU_CTR.COUNT) (by simp [trafficFields]) s n
  exact .ite (hcount _) ((hcount _).trans (trafficOnly_wrs (by simp [trafficFields]) _))

/-- The counters of an occurrence count it, and those that wrap record it. -/
theorem trafficOnly_perf (s : State) (e : PerfEv) : TrafficOnly s (perf s e) :=
  (TrafficOnly.foldl (trafficOnly_perfAdd e.amount) _ s).trans (.foldl trafficOnly_counterRecord _ _)

/-! ## What a completion changes (R133, R136, R140, R147) -/

@[simp] theorem ringOf_setRing_same (s : State) (r : Nat) (q : RingS) : ringOf (setRing s r q) r = q := by
  unfold ringOf setRing
  split_ifs with h <;> simp [h]

theorem ringOf_setRing_other (s : State) {r k : Nat} (q : RingS) (h : k ≠ r) : ringOf (setRing s r q) k = ringOf s k := by
  have hk : ((r, 0) : Key) ≠ (k, 0) := fun e => h (congrArg Prod.fst e).symm
  unfold ringOf setRing
  split_ifs <;> simp [tabGet_tabDel_other _ hk, tabGet_tabPut_other _ _ hk]

/-- From s to t only ring r has changed, and traffic with the host has passed. -/
structure RingOnly (r : Nat) (s t : State) : Prop where
  parts : t = { s with rings := t.rings, out := t.out, evqs := t.evqs, regs := t.regs }
  others : ∀ q, q ≠ r → ringOf t q = ringOf s q
  fields : ∀ f i, (∀ g ∈ trafficFields, g.id ≠ f.id) → rd t f i = rd s f i

theorem TrafficOnly.ringOnly {s t : State} (h : TrafficOnly s t) (r : Nat) : RingOnly r s t :=
  ⟨by rw [h.parts], fun q _ => h.ringOf_eq q, h.fields⟩

section
variable {r : Nat} {s t u : State}

theorem RingOnly.trans (h : RingOnly r s t) (k : RingOnly r t u) : RingOnly r s u :=
  ⟨k.parts.trans (by rw [h.parts]), fun q hq => (k.others q hq).trans (h.others q hq),
    fun f i hf => (k.fields f i hf).trans (h.fields f i hf)⟩

theorem RingOnly.ite {c : Prop} [Decidable c] (h : RingOnly r s t) (k : RingOnly r s u) :
    RingOnly r s (if c then t else u) := by
  split
  · exact h
  · exact k

theorem RingOnly.running_eq (h : RingOnly r s t) : t.running = s.running := by rw [h.parts]

end

theorem ringOnly_setRing (s : State) (r : Nat) (q : RingS) : RingOnly r s (setRing s r q) :=
  ⟨rfl, fun _ hk => ringOf_setRing_other s q hk, fun _ _ _ => rfl⟩

/-- An entry written to a completion queue is traffic after the change of its ring. -/
theorem cqPut_trafficOnly (s : State) (r : Nat) (q : RingS) (c : Cpl) :
    TrafficOnly (setRing s r (cqWrite q c)) (cqPut s r q c) := by
  have h := fun o e => ((trafficOnly_emit (setRing s r (cqWrite q c)) o).trans (trafficOnly_hostDma _)).trans
    (trafficOnly_perf _ e)
  exact .ite ((h _ _).trans (trafficOnly_sendIrq _ _)) (h _ _)

theorem ringOnly_post (s : State) (r : Nat) (c : Cpl) : RingOnly r s (post s r c) :=
  .ite ((TrafficOnly.refl s).ringOnly r) (.ite (ringOnly_setRing s r _)
    ((ringOnly_setRing s r _).trans ((cqPut_trafficOnly s r _ c).ringOnly r)))

theorem ringOnly_settleRing (s : State) (r : Nat) : RingOnly r s (settleRing s r) :=
  .ite (.ite (ringOnly_setRing s r _) (ringOnly_setRing s r _)) ((TrafficOnly.refl s).ringOnly r)

theorem settleRing_of_not_draining {s : State} {r : Nat} (h : (ringOf s r).draining = false) : settleRing s r = s :=
  if_neg (by simp [h])

/-! ## What becomes of the entry (R133, R152) -/

/-- No entry of ring r is written now: others wait before it, no slot is free, or the device may not master the bus. -/
def EntryWaits (s : State) (r : Nat) : Prop :=
  (ringOf s r).cqWait ≠ [] ∨ ringFull (ringOf s r).cqHead (ringOf s r).cqTail (ringOf s r).cqLog2 = true ∨
    flag s HID.D3HOT 0 = true

section
variable {s : State} {r : Nat}

theorem ringOf_post_of_waits (c : Cpl) (hd : (ringOf s r).discard = false) (hw : EntryWaits s r) :
    ringOf (post s r c) r = { ringOf s r with cqWait := (ringOf s r).cqWait ++ [c] } := by
  unfold post
  dsimp only
  rw [hd, if_neg Bool.false_ne_true, if_pos (by simpa [EntryWaits, or_assoc] using hw), ringOf_setRing_same]

theorem ringOf_post_of_not_waits (c : Cpl) (hd : (ringOf s r).discard = false) (hw : ¬ EntryWaits s r) :
    ringOf (post s r c) r = cqWrite (ringOf s r) c := by
  unfold post
  dsimp only
  rw [hd, if_neg Bool.false_ne_true, if_neg (by simpa [EntryWaits, or_assoc] using hw),
    (cqPut_trafficOnly s r _ c).ringOf_eq, ringOf_setRing_same]

end

/-! ## A completion -/

/-- A completion counted at its ring and, when it is not OK, by the performance monitor. -/
def completionCounted (s : State) (r : Nat) (a : Acc) (p : Reply) : State :=
  if p.status = .ok then countNonOk s r p
  else perf (countNonOk s r p) { perfE 0x02 1 with qual := p.status.code, role := 2 ^ a.role / 2, kind := 1, index := r }

section
variable {s : State} {r : Nat} {a : Acc} {p : Reply}

theorem completionCounted_trafficOnly (s : State) (r : Nat) (a : Acc) (p : Reply) :
    TrafficOnly (countNonOk s r p) (completionCounted s r a p) :=
  .ite (.refl _) (trafficOnly_perf _ _)

theorem ringOf_completionCounted (s : State) (r : Nat) (a : Acc) (p : Reply) : ringOf (completionCounted s r a p) r =
    { ringOf s r with
      nonOk := if p.status = .ok then (ringOf s r).nonOk else min 0xFFFF ((ringOf s r).nonOk + 1)
      badMac := if p.status = .badMac then (ringOf s r).badMac + 1 else 0 } :=
  ((completionCounted_trafficOnly s r a p).ringOf_eq r).trans (ringOf_setRing_same s r _)

theorem ringOnly_completionCounted (s : State) (r : Nat) (a : Acc) (p : Reply) :
    RingOnly r s (completionCounted s r a p) :=
  (ringOnly_setRing s r _).trans ((completionCounted_trafficOnly s r a p).ringOnly r)

/-- Counting a completion does not decide whether its entry waits. -/
theorem entryWaits_completionCounted (s : State) (r : Nat) (a : Acc) (p : Reply) :
    EntryWaits (completionCounted s r a p) r ↔ EntryWaits s r := by
  have hflag : flag (completionCounted s r a p) HID.D3HOT 0 = flag s HID.D3HOT 0 :=
    congrArg (· != 0) ((ringOnly_completionCounted s r a p).fields _ _ (by decide))
  unfold EntryWaits
  rw [hflag, ringOf_completionCounted]
  exact Iff.rfl

theorem barrierSet_of_not_barrier {x : Run} (h : x.acc.cmd.opcode ≠ 4) : barrierSet x = none := by
  unfold barrierSet
  split
  · exact absurd ‹_› h
  · rfl

theorem settleBarriers_of_none (R : State → State) (h : ∀ x ∈ s.running, x.acc.cmd.opcode ≠ 4) :
    settleBarriers R s = s := by
  have hdue : barrierDue s = none := List.findSome?_eq_none_iff.2 fun x hx => by
    rw [barrierSet_of_not_barrier (h x hx)]
  unfold settleBarriers
  rw [hdue]

/-- With no barrier waiting, an Operator's command completes by its count, its entry and the settling of its ring. -/
theorem finish_of_operator (ha : a.role < 2) (hb : ∀ x ∈ s.running, x.acc.cmd.opcode ≠ 4) :
    finish s r a p = settleRing (post (completionCounted s r a p) r (cplOf r a p)) r := by
  have hfin : finishWith (fun t => raise 0x103 1 [] t) s r a p =
      settleRing (post (completionCounted s r a p) r (cplOf r a p)) r := by
    unfold finishWith
    exact congrArg (settleRing · r) (if_neg (Nat.not_le.2 ha))
  have hrun := (((ringOnly_completionCounted s r a p).trans (ringOnly_post _ r (cplOf r a p))).trans
    (ringOnly_settleRing _ r)).running_eq
  unfold finish fin
  rw [hfin]
  exact settleBarriers_of_none _ (by rwa [hrun])

theorem ringOnly_finish (ha : a.role < 2) (hb : ∀ x ∈ s.running, x.acc.cmd.opcode ≠ 4) :
    RingOnly r s (finish s r a p) := by
  rw [finish_of_operator ha hb]
  exact ((ringOnly_completionCounted s r a p).trans (ringOnly_post _ r _)).trans (ringOnly_settleRing _ r)

/-- The ring of a completed command, unless a host reset or its session's close lets it go. -/
theorem ringOf_finish (ha : a.role < 2) (hb : ∀ x ∈ s.running, x.acc.cmd.opcode ≠ 4)
    (hd : (ringOf s r).discard = false) (hn : (ringOf s r).draining = false) :
    (EntryWaits s r → ringOf (finish s r a p) r =
      { ringOf (completionCounted s r a p) r with cqWait := (ringOf s r).cqWait ++ [cplOf r a p] }) ∧
    (¬ EntryWaits s r → ringOf (finish s r a p) r = cqWrite (ringOf (completionCounted s r a p) r) (cplOf r a p)) := by
  have hring := ringOf_completionCounted s r a p
  have hd' : (ringOf (completionCounted s r a p) r).discard = false := by rw [hring]; exact hd
  rw [finish_of_operator ha hb, ← entryWaits_completionCounted s r a p]
  constructor <;> intro hw
  · have hpost := ringOf_post_of_waits (cplOf r a p) hd' hw
    rw [settleRing_of_not_draining (by rw [hpost, hring]; exact hn), hpost, hring]
  · have hpost := ringOf_post_of_not_waits (cplOf r a p) hd' hw
    rw [settleRing_of_not_draining (by rw [hpost, hring]; exact hn), hpost]

end

/-- Settles O10: the frame is that of `ringOnly_finish`; the ring is taken by whether its entry waits. -/
theorem completionsTouchOnlyTheirRing : Obligations.CompletionsTouchOnlyTheirRing := by
  intro s r a p ha hb
  have honly : RingOnly r s (finish s r a p) := ringOnly_finish ha hb
  refine ⟨⟨_, _, _, _, honly.parts⟩, honly.others, honly.fields, fun hd hn => ?_⟩
  obtain ⟨hwaits, hwritten⟩ := ringOf_finish (p := p) ha hb hd hn
  refine ⟨fun hq hf hm => ?_, fun hw => ?_, ?_⟩
  · rw [hwritten (by simp [EntryWaits, hq, hf, hm]), ringOf_completionCounted]
    exact ⟨rfl, rfl⟩
  · rw [hwaits hw]
  · by_cases hw : EntryWaits s r
    · rw [hwaits hw, ringOf_completionCounted]
    · rw [hwritten hw, ringOf_completionCounted]
      rfl

end Sys2Proof

/-! PROOFS. Galleries: entry, parked lookups, the reorder stages and frames from the host. -/

namespace Sys2Proof

open Sys2Proof.Machine

/-! ## Entry (R193, R331, R332, R334) -/

/-- A frame just received from port p is offered to the gallery. -/
theorem execGalleryEntry_fromMac {s : State} {n p : Nat} {k : Pkt} (g : Gallery) (look : Option (Fin 256))
    (hk : pktOf s n = some k) (hl : k.loc = .fromMac p) :
    execGalleryEntry g n look s = .next (frameArrives s g.val p (look.map (·.val)) k) := by
  unfold execGalleryEntry
  simp only [hk, hl]

/-- A packet in the gallery's entry buffer is admitted, or expires. -/
theorem execGalleryEntry_entry {s : State} {n : Nat} {k : Pkt} (g : Gallery) (look : Option (Fin 256))
    (hk : pktOf s n = some k) (hl : k.loc = .entry g.val) : execGalleryEntry g n look s =
      .next (if k.expired then expire s k else admitIngress s g.val (look.map (·.val)) k) := by
  unfold execGalleryEntry
  simp [hk, hl]

section
variable {s : State} {g p : Nat} {look : Option Nat} {k : Pkt}

theorem frameArrives_unserved (hs : servedBy s (genNow s) (p / 8) = none) (hi : imageOn s = true) :
    frameArrives s g p look k = galDrop s (p / 8) 0x08 k := by
  simp [frameArrives, hs, hi]

theorem frameArrives_halted (hs : servedBy s (genNow s) (p / 8) = some g) (h0 : rd s GAL_STAT.STATE g = 0) :
    frameArrives s g p look k = galDrop s g 0x02 k := by
  simp [frameArrives, hs, h0]

theorem frameArrives_served (hs : servedBy s (genNow s) (p / 8) = some g) (h5 : rd s GAL_STAT.STATE g ≠ 5)
    (h0 : rd s GAL_STAT.STATE g ≠ 0) : frameArrives s g p look k =
      if 262144 < entryBytes s g + k.len then galDrop s g 0x01 k
      else admitIngress (setPkt s { k with loc := .entry g }) g look { k with loc := .entry g } := by
  simp [frameArrives, hs, h5, h0]

theorem admitIngress_held (h : galRuns s g = false ∨ flipDue s = true) : admitIngress s g look k = s :=
  if_pos (by rcases h with h | h <;> simp [entryHeld, h])

end

theorem acts_galleryEntry_full (g : Gallery) (n : Nat) (look : Option (Fin 256)) (k : Pkt) (p : Nat) :
    Acts (.galleryEntry g n look)
    (fun s => pktOf s n = some k ∧ k.loc = .fromMac p ∧ servedBy s (genNow s) (p / 8) = some g.val ∧
      rd s GAL_STAT.STATE g.val ≠ 5 ∧ rd s GAL_STAT.STATE g.val ≠ 0 ∧ 262144 < entryBytes s g.val + k.len)
    (fun s => galDrop s g.val 0x01 k) := fun _ ⟨hk, hl, hs, h5, h0, hf⟩ =>
  (execGalleryEntry_fromMac g look hk hl).trans (congrArg _ ((frameArrives_served hs h5 h0).trans (if_pos hf)))

theorem acts_galleryEntry_halted (g : Gallery) (n : Nat) (look : Option (Fin 256)) (k : Pkt) (p : Nat) :
    Acts (.galleryEntry g n look)
    (fun s => pktOf s n = some k ∧ k.loc = .fromMac p ∧ servedBy s (genNow s) (p / 8) = some g.val ∧
      rd s GAL_STAT.STATE g.val = 0) (fun s => galDrop s g.val 0x02 k) := fun _ ⟨hk, hl, hs, h0⟩ =>
  (execGalleryEntry_fromMac g look hk hl).trans (congrArg _ (frameArrives_halted hs h0))

theorem acts_galleryEntry_unserved (g : Gallery) (n : Nat) (look : Option (Fin 256)) (k : Pkt) (p : Nat) :
    Acts (.galleryEntry g n look)
    (fun s => pktOf s n = some k ∧ k.loc = .fromMac p ∧ servedBy s (genNow s) (p / 8) = none ∧ imageOn s = true)
    (fun s => galDrop s (p / 8) 0x08 k) := fun _ ⟨hk, hl, hs, hi⟩ =>
  (execGalleryEntry_fromMac g look hk hl).trans (congrArg _ (frameArrives_unserved hs hi))

theorem acts_galleryEntry_arrives (g : Gallery) (n : Nat) (k : Pkt) (p : Nat) : Acts (.galleryEntry g n none)
    (fun s => pktOf s n = some k ∧ k.loc = .fromMac p ∧ servedBy s (genNow s) (p / 8) = some g.val ∧
      rd s GAL_STAT.STATE g.val ≠ 5 ∧ rd s GAL_STAT.STATE g.val ≠ 0 ∧ entryBytes s g.val + k.len ≤ 262144)
    (fun s => admitIngress (setPkt s { k with loc := .entry g.val }) g.val none { k with loc := .entry g.val }) :=
  fun _ ⟨hk, hl, hs, h5, h0, hf⟩ => (execGalleryEntry_fromMac g none hk hl).trans
    (congrArg _ ((frameArrives_served hs h5 h0).trans (if_neg (Nat.not_lt.2 hf))))

theorem acts_galleryEntry_waiting (g : Gallery) (n : Nat) (look : Option (Fin 256)) (k : Pkt) :
    Acts (.galleryEntry g n look) (fun s => pktOf s n = some k ∧ k.loc = .entry g.val ∧ k.expired = false)
    (fun s => admitIngress s g.val (look.map (·.val)) k) := fun _ ⟨hk, hl, he⟩ =>
  (execGalleryEntry_entry g look hk hl).trans (congrArg _ (if_neg (Bool.eq_false_iff.1 he)))

theorem acts_galleryEntry_expired (g : Gallery) (n : Nat) (look : Option (Fin 256)) (k : Pkt) :
    Acts (.galleryEntry g n look) (fun s => pktOf s n = some k ∧ k.loc = .entry g.val ∧ k.expired = true)
    (fun s => expire s k) := fun _ ⟨hk, hl, he⟩ =>
  (execGalleryEntry_entry g look hk hl).trans (congrArg _ (if_pos he))

/-! ## Parked lookups (R331, R333) -/

theorem parkedIn_ingress {g : Nat} {k : Pkt} (h : k.loc = .ingressPark g) : parkedIn g k = some false := by
  simp [parkedIn, h]

theorem parkedIn_egress {g : Nat} {k : Pkt} (h : k.loc = .egressPark g) : parkedIn g k = some true := by
  simp [parkedIn, h]

theorem acts_granaryResponse_late (g : Gallery) (n ns : Nat) (u : Option (Nat × Nat × Nat)) (again : Option (Fin 256)) :
    Acts (.granaryResponse g n ns u again) (fun s => pktOf s n = none) (fun s => bump s GAL_ERR.LATE_RESP g.val) :=
  .of_next (fun _ => rfl) fun _ h => by rw [h]; rfl

theorem acts_granaryResponse_resumes (g : Gallery) (n ns : Nat) (k : Pkt) : Acts (.granaryResponse g n ns none none)
    (fun s => pktOf s n = some k ∧ k.loc = .ingressPark g.val ∧ k.expired = false)
    (fun s => setPkt (perfGal (trace s k 3 g.val k.inPort k.look 0) g.val 0x5A 0 ns k) { k with loc := .ingress g.val }) :=
  .of_next (fun _ => rfl) fun _ ⟨hk, hl, he⟩ => by
    rw [hk, Option.bind_some, parkedIn_ingress hl]
    exact if_neg (Bool.eq_false_iff.1 he)

theorem acts_granaryResponse_expired (g : Gallery) (n ns : Nat) (u : Option (Nat × Nat × Nat))
    (again : Option (Fin 256)) (k : Pkt) : Acts (.granaryResponse g n ns u again)
    (fun s => pktOf s n = some k ∧ k.loc = .ingressPark g.val ∧ k.expired = true) (fun s => expire s k) :=
  .of_next (fun _ => rfl) fun _ ⟨hk, hl, he⟩ => by
    rw [hk, Option.bind_some, parkedIn_ingress hl]
    exact if_pos he

theorem acts_lookupTimeout (g : Gallery) (n : Nat) (k : Pkt) : Acts (.lookupTimeout g n)
    (fun s => pktOf s n = some k ∧ k.expired = false ∧ (k.loc = .ingressPark g.val ∨ k.loc = .egressPark g.val))
    (fun s => faultC (0x6C4 + galDie g.val) (galDrop s g.val 0x03 k)) :=
  .of_next (fun _ => rfl) fun s ⟨hk, he, hl⟩ => by
    obtain ⟨e, hp⟩ : ∃ e, parkedIn g.val k = some e := hl.elim (⟨_, parkedIn_ingress ·⟩) (⟨_, parkedIn_egress ·⟩)
    rw [hk, Option.bind_some, hp]
    exact congrArg (faultC _) (if_neg (Bool.eq_false_iff.1 he))

/-! ## Reorder stages (R180, R332) -/

theorem acts_reorderRelease_ingress (g : Gallery) (n : Nat) (k : Pkt) : Acts (.reorderRelease g n)
    (fun s => pktOf s n = some k ∧ k.loc = .ingressReorder g.val ∧ k.expired = false ∧ mayRelease s g.val false k = true)
    (fun s => sendToHalls (trace s k 4 g.val k.inPort 0 0) g.val k) :=
  .of_next (fun _ => rfl) fun _ ⟨hk, hl, he, hm⟩ => by
    rw [hk]
    exact (if_neg (by simp [he])).trans (if_pos (by simp [hl, hm]))

theorem acts_reorderRelease_egress (g : Gallery) (n : Nat) (k : Pkt) : Acts (.reorderRelease g n)
    (fun s => pktOf s n = some k ∧ k.loc = .egressReorder g.val ∧ k.expired = false ∧ mayRelease s g.val true k = true)
    (fun s => sendPkt (trace s k 8 g.val k.outPort 0 0) { k with loc := .toMac k.outPort }) :=
  .of_next (fun _ => rfl) fun _ ⟨hk, hl, he, hm⟩ => by
    rw [hk]
    exact (if_neg (by simp [he])).trans ((if_neg (by simp [hl])).trans (if_pos (by simp [hl, hm])))

theorem acts_reorderRelease_waits (g : Gallery) (n : Nat) (k : Pkt) : Acts (.reorderRelease g n)
    (fun s => pktOf s n = some k ∧ k.loc = .ingressReorder g.val ∧ k.expired = false ∧ mayRelease s g.val false k = false)
    (fun s => s) :=
  .of_next (fun _ => rfl) fun _ ⟨hk, hl, he, hm⟩ => by
    rw [hk]
    exact (if_neg (by simp [he])).trans ((if_neg (by simp [hm])).trans (if_neg (by simp [hl])))

theorem acts_reorderRelease_expired (g : Gallery) (n : Nat) (k : Pkt) : Acts (.reorderRelease g n)
    (fun s => pktOf s n = some k ∧ k.loc = .ingressReorder g.val ∧ k.expired = true) (fun s => expire s k) :=
  .of_next (fun _ => rfl) fun _ ⟨hk, hl, he⟩ => by
    rw [hk]
    exact if_pos (by simp [hl, he])

/-! ## Frames from the host (R150, R152) -/

/-- A from-host descriptor that asks for the ingress flight of a port is taken, and its frame offered there. -/
theorem acts_puntFromHost_port (p : Fin 64) {d : PuntDesc} (q : PuntRing) (hlo : 60 ≤ d.len) (hhi : d.len ≤ 16383)
    (hm : d.mode = false) : Acts (.puntFromHost p d true)
    (fun s => tabGet s.punts (puntKey p.val true) = some q ∧ q.en = true ∧ q.head ≠ q.tail ∧ flag s HID.D3HOT 0 = false)
    (fun s => hostToPort (perf (perf (stat (puntAdvance s (puntKey p.val true) q 0x0A [1]) HIF_PUNT_STAT.FROM_HOST p.val 1)
      (perfE 0x07 1)) (perfE 0x05 (d.len + 16))) (d.target % 512) (d.len + 4)
      (d.frame.take d.len ++ leBytes 4 (crc32 (d.frame.take d.len)))) :=
  .of_next (fun _ => rfl) fun _ ⟨hq, he, ht, hd⟩ => by
    rw [hq, hm]
    exact (if_neg (by simp [he, ht, hd])).trans
      ((if_neg (by decide)).trans ((if_neg (by simp; omega)).trans (if_neg Bool.false_ne_true)))

theorem acts_puntFromHost_d3hot (p : Fin 64) (d : PuntDesc) (ok : Bool) :
    Acts (.puntFromHost p d ok) (fun s => flag s HID.D3HOT 0 = true) id :=
  .of_next (fun _ => rfl) fun s hd => by
    cases tabGet s.punts (puntKey p.val true) with
    | none => rfl
    | some q => exact if_pos (by simp [hd])

/-- Settles O39: each clause by the lemma above for it; the failure of a gallery and the clear of its peak act in every
state. -/
theorem galleryEntryLookupsAndReleaseAct : Obligations.GalleryEntryLookupsAndReleaseAct :=
  ⟨⟨acts_galleryEntry_full, acts_galleryEntry_halted, acts_galleryEntry_unserved, acts_galleryEntry_arrives,
    acts_galleryEntry_waiting, acts_granaryResponse_late, acts_granaryResponse_resumes, acts_lookupTimeout,
    acts_galleryEntry_expired, acts_granaryResponse_expired, fun _ _ _ _ => admitIngress_held⟩,
   acts_reorderRelease_ingress, acts_reorderRelease_egress, acts_reorderRelease_waits, acts_reorderRelease_expired,
    fun _ _ _ => rfl, fun _ _ _ => rfl,
    fun p _ _ hlo hhi hm s ⟨hq, he, ht, hd⟩ => acts_puntFromHost_queue p he ht hm hlo hhi s ⟨hq, hd⟩,
    fun p _ q hlo hhi hm => acts_puntFromHost_port p q hlo hhi hm, acts_puntFromHost_d3hot⟩

end Sys2Proof

/-! PROOFS. Local time: what setting it leaves, what a tick adds, and that no command but the release of the power-on
reset moves it back. -/

namespace Sys2Proof

open Sys2Proof.Machine

/-! ## Setting and keeping local time (R154) -/

/-- How many 2^-40 ns the 48 bits of seconds hold (R154). -/
def timeSpan : Nat := 2 ^ 48 * (1000000000 * 1099511627776)

theorem rd_setFineTime (s : State) (t : Nat) :
    rd (setFineTime s t) HID.TIM_RESID 0 = t % 16777216 ∧ rd (setFineTime s t) TIM_NOW.FRAC 0 = t / 16777216 % 65536 ∧
      rd (setFineTime s t) TIM_NOW.NS 0 = t / 1099511627776 % 1000000000 ∧
      rd (setFineTime s t) TIM_NOW.SEC 0 = t / 1099511627776 / 1000000000 % 2 ^ 48 := by
  have hns : t / 1099511627776 % 1000000000 < 2 ^ 32 := by omega
  unfold setFineTime
  simp only [wrs_cons, wrs_nil]
  refine ⟨?_, ?_, ?_, rd_wr_same _ _ _ _⟩
  · iterate 3 rw [rd_wr_id _ _ _ _ _ _ (by decide)]
    exact (rd_wr_same _ _ _ _).trans (Nat.mod_mod _ _)
  · iterate 2 rw [rd_wr_id _ _ _ _ _ _ (by decide)]
    exact (rd_wr_same _ _ _ _).trans (Nat.mod_mod _ _)
  · rw [rd_wr_id _ _ _ _ _ _ (by decide)]
    exact (rd_wr_same _ _ _ _).trans (Nat.mod_eq_of_lt hns)

theorem fineTime_setFineTime (s : State) {t : Nat} (h : t < timeSpan) : fineTime (setFineTime s t) = t := by
  obtain ⟨hresid, hfrac, hns, hsec⟩ := rd_setFineTime s t
  unfold timeSpan at h
  unfold fineTime
  rw [hresid, hfrac, hns, hsec]
  omega

theorem Keeps.fineTime_eq {s t : State} (h : Keeps s t) : fineTime t = fineTime s := by
  unfold fineTime
  rw [h.time TIM_NOW.SEC 0 rfl, h.time TIM_NOW.NS 0 rfl, h.time TIM_NOW.FRAC 0 rfl, h.time HID.TIM_RESID 0 rfl]

/-- After local time has gained the increment, the rest of a tick keeps it. -/
theorem keeps_tick (s : State) : Keeps (setFineTime s (fineTime s + increment s)) (tick s) := by
  unfold tick
  extract_lets s1 s2 s3 s4
  have h2 : Keeps s1 s2 := keeps_perf (.wr (.refl s1) rfl)
  have h3 : Keeps s1 s3 := .ite (keeps_perf h2) h2
  have h4 : Keeps s1 s4 := .ite (keeps_perf h3) h3
  exact keeps_fetchEvery (keeps_ppsTick (keeps_flushOver h4))

theorem fineTime_tick {s : State} (h : fineTime s + increment s < timeSpan) :
    fineTime (tick s) = fineTime s + increment s :=
  (keeps_tick s).fineTime_eq.trans (fineTime_setFineTime s h)

/-! ## What a dispatch can do (R138, R139) -/

section
variable {o : OpSpec} {s : State} {r : Nat} {a : Acc} {P : State → Prop}

/-- A command completes without its own rules, wakes a domain or is staged, all of which keep local time; or it passes
every check and its own rules answer. -/
theorem execOp_cases (hkeep : ∀ t, Keeps s t → P t)
    (hrun : refusal o s r a = none → o.check s a = none → P (answered a r (o.run r a s))) :
    P (execOp o r a s) := by
  have hfinish : ∀ p, P (finish s r a p) := fun _ => hkeep _ (keeps_finish (.refl s))
  unfold execOp
  extract_lets ws
  split
  · exact hfinish _
  next hrefusal =>
    split
    · exact hfinish _
    · split
      · exact hfinish _
      next hcheck =>
        split
        · exact hkeep _ (keeps_wakeFirst (Keeps.refl s).running)
        · split
          · exact hkeep _ (keeps_finish (keeps_stageItem (.refl s)))
          · have h := hrun hrefusal hcheck
            revert h
            cases o.run r a s <;> exact id

/-- A dispatch does nothing, keeps local time, or runs its opcode's own rules on a command that passed every check. -/
theorem dispatch_cases (hkeep : ∀ t, Keeps s t → P t)
    (hrun : ∀ a, refusal o (popFront s r) r a = none → o.check (popFront s r) a = none →
      P (answered a r (o.run r a (popFront s r)))) : P (dispatch o r s) := by
  unfold dispatch
  split
  · exact hkeep _ (.refl s)
  · split
    · exact hkeep _ (.refl s)
    · exact execOp_cases (fun t h => hkeep t ((keeps_popFront (.refl s)).trans h)) (hrun _)

theorem bad_eq_none_of_refusal (h : refusal o s r a = none) : o.bad s a = none := by
  unfold refusal at h
  split at h
  · cases h
  · split at h
    · cases h
    · cases hc : check1 o s r a with
      | some p => simp [hc, firstOf] at h
      | none =>
        unfold check1 at hc
        dsimp only at hc
        split at hc
        · cases hc
        · split at hc
          · cases hc
          · exact Option.map_eq_none_iff.1 hc

end

theorem badIf_eq_none {b : Bool} : badIf b = none ↔ b = false := by cases b <;> simp [badIf]

theorem invIf_eq_none {b : Bool} : invIf b = none ↔ b = false := by cases b <;> simp [invIf]

/-! ## TIME_STEP (R157) -/

theorem leVal_take (l : List Byte) (n : Nat) : leVal (l.take n) = leVal l % 256 ^ n := by
  induction l generalizing n with
  | nil => simp [leVal]
  | cons b l ih =>
    cases n with
    | zero => simp [leVal, Nat.mod_one]
    | succ n =>
      have hb : b.toNat < 256 := b.isLt
      rw [List.take_succ_cons, leVal, leVal, ih, Nat.pow_succ', Nat.mod_mul, Nat.add_mul_mod_self_left,
        Nat.mod_eq_of_lt hb, Nat.add_mul_div_left _ _ (by decide), Nat.div_eq_of_lt hb, Nat.zero_add]

theorem opd_eq_mod (a : Acc) (off : Nat) {m n : Nat} (h : m ≤ n) : opd a off m = opd a off n % 256 ^ m := by
  unfold opd leAt sliceOf
  rw [← leVal_take, List.take_take, Nat.min_eq_left h]

theorem opd_lt (a : Acc) (off n : Nat) : opd a off n < 256 ^ n := by
  rw [opd_eq_mod a off (Nat.le_refl n)]
  exact Nat.mod_lt _ (Nat.pow_pos (by decide))

/-- A payload of TIME_STEP that is not malformed asks for a time that the counter holds. -/
theorem stepTo_lt {s : State} {a : Acc} (hbad : opTimeStep.bad s a = none)
    (hs : fineTime s < 2 ^ 47 * (1000000000 * 1099511627776)) : stepTo s a < (timeSpan : Nat) := by
  have hns : opdB a 0x10 = 0 → opd a 0x12 4 < 1000000000 := by
    have hb := badIf_eq_none.1 hbad
    simp only [Bool.or_eq_false_iff, Bool.and_eq_false_iff, beq_eq_false_iff_ne, decide_eq_false_iff_not] at hb
    omega
  have hlow : opd a 0x12 4 = opd a 0x12 10 % 256 ^ 4 := opd_eq_mod a 0x12 (by decide)
  have hwide := opd_lt a 0x12 10
  have hdelta := opd_lt a 0x12 8
  unfold timeSpan stepTo
  split
  next h =>
    have := hns (beq_iff_eq.1 h)
    unfold timeOfField
    omega
  next =>
    unfold sext
    split <;> omega

theorem le_stepTo {s : State} {a : Acc} (h : opTimeStep.check s a = none) : (fineTime s : Int) ≤ stepTo s a := by
  have hb := invIf_eq_none.1 h
  simp only [Bool.or_eq_false_iff, decide_eq_false_iff_not, Int.not_lt] at hb
  exact hb.2

/-- A TIME_STEP that runs sets the time it asks for. -/
theorem fineTime_answered_timeStep {s : State} {r : Nat} {a : Acc} (h0 : 0 ≤ stepTo s a)
    (hlt : stepTo s a < (timeSpan : Nat)) :
    (fineTime (answered a r (opTimeStep.run r a s)) : Int) = stepTo s a := by
  have hk : Keeps (setFineTime (bwDiscard s) (stepTo s a).toNat) (answered a r (opTimeStep.run r a s)) :=
    keeps_finish (((Keeps.refl _).wr rfl).bump rfl)
  rw [hk.fineTime_eq, fineTime_setFineTime _ (by omega), Int.toNat_of_nonneg h0]

theorem fineTime_le_timeStep {s : State} (r : Nat) (hs : fineTime s < 2 ^ 47 * (1000000000 * 1099511627776)) :
    fineTime s ≤ fineTime (dispatch opTimeStep r s) := by
  have hpop : fineTime (popFront s r) = fineTime s := (keeps_popFront (.refl s)).fineTime_eq
  refine dispatch_cases (P := fun t => fineTime s ≤ fineTime t) (fun t h => h.fineTime_eq.ge) fun a hrefusal hcheck => ?_
  have hlow := le_stepTo hcheck
  have hhigh := stepTo_lt (bad_eq_none_of_refusal hrefusal) (hpop.trans_lt hs)
  have hset := fineTime_answered_timeStep (r := r) ((Int.natCast_nonneg _).trans hlow) hhigh
  omega

/-! ## Every step (R160) -/

/-- A command other than POR_RELEASE keeps local time, or is TIME_STEP, which never moves it back. -/
theorem fineTime_le_exec {c : Instr} {s t : State} (hc : ∀ strap, c ≠ .porRelease strap)
    (hs : fineTime s < 2 ^ 47 * (1000000000 * 1099511627776)) (h : exec c s = .next t) : fineTime s ≤ fineTime t := by
  by_cases hstep : ∃ r, c = .timeStep r
  · obtain ⟨r, rfl⟩ := hstep
    obtain rfl := Host.Outcome.next.inj h
    exact fineTime_le_timeStep r.val hs
  · obtain ⟨u, hu, hk⟩ := nextKeeps_iff.1 (keeps_exec c s hc fun r e => hstep ⟨r, e⟩)
    obtain rfl := Host.Outcome.next.inj (hu.symm.trans h)
    exact hk.fineTime_eq.ge

theorem fineTime_le_idle {s : State} (h : fineTime s + increment s < timeSpan) : fineTime s ≤ fineTime (idle s) := by
  unfold idle
  split
  · exact (Nat.le_add_right _ _).trans_eq (fineTime_tick h).symm
  · exact Nat.le_refl _

/-- Settles O6: a step is a command, which is not POR_RELEASE, or on an empty queue a tick. -/
theorem localTimeNeverRunsBackward : Obligations.LocalTimeNeverRunsBackward := by
  intro s t hs hi hpor hst
  unfold step at hst
  split at hst
  case h_1 c rest hq =>
    exact fineTime_le_exec (s := { s with pending := rest }) (fun strap e => hpor strap rest (e ▸ hq)) hs hst
  case h_2 =>
    obtain rfl := Host.Outcome.next.inj hst
    exact fineTime_le_idle (by unfold timeSpan; omega)

end Sys2Proof

/-! PROOFS. The time unit: its commands, time events, PPS and recovered clocks. -/

namespace Sys2Proof

open Sys2Proof.Machine

/-! ## The first firing of a periodic event (R171) -/

/-- The first firing is the first time of START + k PERIOD from the check on, counted by a rounded-up quotient. -/
theorem firstDue_eq (start now : Nat) {period : Nat} (hp : 0 < period) :
    firstDue start period now = start + ((now - start) ⌈/⌉ period) * period := by
  unfold firstDue
  rw [Nat.ceilDiv_eq_add_pred_div]
  split
  next h =>
    have hq : (now - start + period - 1) / period = 0 := Nat.div_eq_of_lt (by omega)
    rw [hq, Nat.zero_mul, Nat.add_zero]
  next => rfl

/-- Settles O25: START + k PERIOD is not past exactly when k is at least the rounded-up quotient. -/
theorem periodicEventFirstFiringIsNotPast : Obligations.PeriodicEventFirstFiringIsNotPast := by
  intro start period now hp
  have hle : ∀ k, (now - start) ⌈/⌉ period ≤ k ↔ now ≤ start + k * period := fun k => by
    rw [ceilDiv_le_iff_le_mul hp, Nat.mul_comm]
    omega
  rw [firstDue_eq start now hp]
  exact ⟨(hle _).1 (Nat.le_refl _), ⟨_, rfl⟩, fun k hk =>
    Nat.add_le_add_left (Nat.mul_le_mul_right period ((hle k).2 hk)) start⟩

/-! ## PPS_IN (R163) -/

theorem OnlyAt.trans {l : List (Fld × Nat)} {s t u : State} (h : OnlyAt l s t) (k : OnlyAt l t u) : OnlyAt l s u :=
  ⟨k.1.trans (by rw [h.1]), fun f i hf => (k.2 f i hf).trans (h.2 f i hf)⟩

theorem OnlyAt.mono {l m : List (Fld × Nat)} {s t : State} (h : OnlyAt l s t) (hl : l ⊆ m) : OnlyAt m s t :=
  ⟨h.1, fun f i hf => h.2 f i fun e he => hf e (hl he)⟩

theorem onlyAt_bump (s : State) (f : Fld) (i : Nat) : OnlyAt [(f, i), (HID.SAT, cntPart f i)] s (bump s f i) := by
  unfold bump
  rw [bumpBy_eq_countWrites]
  exact onlyAt_countWrites s

theorem rd_bump_same (s : State) (f : Fld) (i : Nat) : rd (bump s f i) f i = min (rd s f i + 1) (2 ^ f.w - 1) := by
  have hpos : 0 < 2 ^ f.w := Nat.two_pow_pos _
  unfold bump
  rw [bumpBy_eq_countWrites, rd_countWrites_counter s (by decide)]
  exact Nat.mod_eq_of_lt (by omega)

theorem acts_ppsInEdge : Acts .ppsInEdge (fun s => flag s TIM_CFG.PPS_IN_EN 0 = true)
    (fun s => bump (wrs s [(TIM_PPS_IN.TIME, 0, timeNowField (localTime s)), (HID.PPS_WAIT, 0, 1)]) TIM_PPS_IN.COUNT 0) :=
  .of_next (fun _ => rfl) fun _ h => if_pos h

theorem acts_ppsInTimeout : Acts .ppsInTimeout
    (fun s => flag s TIM_CFG.PPS_IN_EN 0 = true ∧ flag s HID.PPS_WAIT 0 = true)
    (fun s => faultC 0x201 (wrs s [(TIM_STATUS.PPS_LOST, 0, 1), (HID.PPS_WAIT, 0, 0)])) :=
  .of_next (fun _ => rfl) fun _ ⟨he, hw⟩ => if_pos (by rw [he, hw]; rfl)

/-- Settles O14: an edge is two writes and a count, a missing one two writes before the fault. -/
theorem ppsInputIsStampedAndWatched : Obligations.PpsInputIsStampedAndWatched := by
  refine ⟨fun s he => ⟨_, acts_ppsInEdge s he, ?_, ?_, ?_⟩, fun s he hw => ⟨_, acts_ppsInTimeout s ⟨he, hw⟩, ?_, ?_⟩⟩
  · rw [(onlyAt_bump _ _ _).2 _ _ (by decide), wrs_cons, wrs_cons, wrs_nil, rd_wr_id _ _ _ _ _ _ (by decide)]
    exact rd_wr_same _ _ _ _
  · rw [rd_bump_same, rd_wrs_other _ _ _ _ (by simp only [List.forall_mem_cons]; decide)]
  · exact (onlyAt_wrs (by simp)).trans ((onlyAt_bump _ _ _).mono (by simp))
  · rw [wrs_cons, wrs_cons, wrs_nil, rd_wr_id _ _ _ _ _ _ (by decide)]
    exact rd_wr_same _ _ _ _
  · exact onlyAt_wrs (by simp)

/-! ## Commands (R155, R157 to R159, R169, R171) -/

theorem completes_timeRate : Completes .timeRate opTimeRate
    (fun s a => clampDelta s (sext 64 (opd a 0x10 8)) = sext 64 (opd a 0x10 8))
    (fun s a => wrs s [(TIM_INCR.DELTA, 0, wrapI 64 (sext 64 (opd a 0x10 8))),
      (TIM_STATUS.LOCK, 0, lockAfter (rd s TIM_STATUS.LOCK 0) (opdB a 0x18)),
      (HID.WDOG_ON, 0, b2n (lockAfter (rd s TIM_STATUS.LOCK 0) (opdB a 0x18) == 1))]) (fun _ _ => rOk) :=
  completes_of (fun _ _ => rfl) fun _ _ _ _ h => (if_pos h).trans (by rw [h])

/-- A value that the limit holds also sets RATE_CLAMP. -/
theorem completes_timeRate_clamped : Completes .timeRate opTimeRate
    (fun s a => clampDelta s (sext 64 (opd a 0x10 8)) ≠ sext 64 (opd a 0x10 8))
    (fun s a => wrs s [(TIM_INCR.DELTA, 0, wrapI 64 (clampDelta s (sext 64 (opd a 0x10 8)))),
      (TIM_STATUS.LOCK, 0, lockAfter (rd s TIM_STATUS.LOCK 0) (opdB a 0x18)),
      (HID.WDOG_ON, 0, b2n (lockAfter (rd s TIM_STATUS.LOCK 0) (opdB a 0x18) == 1)), (TIM_STATUS.RATE_CLAMP, 0, 1)])
    (fun _ _ => ⟨.ok, 1, none, false⟩) :=
  completes_of (fun _ _ => rfl) fun _ _ _ _ h => if_neg h

theorem completes_timeStep : Completes .timeStep opTimeStep (fun _ _ => True)
    (fun s a => bump (wr (setFineTime (bwDiscard s) (stepTo s a).toNat) TIM_STATUS.STEP_ARMED 0 0) TIM_STATUS.STEPS 0)
    (fun _ _ => rOk) :=
  completes_of (fun _ _ => rfl) fun _ _ _ _ _ => rfl

theorem completes_timeRearm : Completes .timeRearm opTimeRearm (fun _ _ => True)
    (fun s _ => wr s TIM_STATUS.STEP_ARMED 0 1) (fun _ _ => rOk) :=
  completes_of (fun _ _ => rfl) fun _ _ _ _ _ => rfl

theorem completes_tevArm : Completes .tevArm opTevArm (fun _ _ => True)
    (fun s a => wrs s [(TIM_TEV_STAT.ARMED, opdB a 0x10, 1), (TIM_TEV_STAT.PERIODIC, opdB a 0x10, b2n (opdBit a 0x11 0)),
      (TIM_TEV_STAT.NEXT, opdB a 0x10, timeNowField (if opdBit a 0x11 0
        then firstDue (tevStart a) (tevPeriod a) (localTime s) else tevStart a)),
      (HID.TEV_PERIOD, opdB a 0x10, tevPeriod a), (HID.TEV_IRQ, opdB a 0x10, b2n (opdBit a 0x11 1))])
    (fun _ _ => rOk) :=
  completes_of (fun _ _ => rfl) fun _ _ _ _ _ => rfl

theorem completes_tevStop_notDue : Completes .tevStop opTevStop (fun s a => tevDue s (opdB a 0x10) = false)
    (fun s a => wr s TIM_TEV_STAT.ARMED (opdB a 0x10) 0) (fun _ _ => rOk) :=
  completes_of (fun _ _ => rfl) fun _ _ _ _ h => by simp [opTevStop, h]

theorem completes_tevStop_due : Completes .tevStop opTevStop (fun s a => tevDue s (opdB a 0x10) = true)
    (fun s a => wr (tevAct s (opdB a 0x10)) TIM_TEV_STAT.ARMED (opdB a 0x10) 0) (fun _ _ => rOk) :=
  completes_of (fun _ _ => rfl) fun _ _ _ _ h => by simp [opTevStop, h]

/-! ## Events (R161, R162, R164, R165, R169) -/

theorem acts_tevFire (n : Fin 64) : Acts (.tevFire n) (fun s => tevDue s n.val = true) (fun s => tevAct s n.val) :=
  .of_next (fun _ => rfl) fun _ h => if_pos h

/-- An event that fires once is disarmed before its consumers act. -/
theorem tevAct_of_not_periodic {s : State} {n : Nat} (h : flag s TIM_TEV_STAT.PERIODIC n = false) : tevAct s n =
    tevWakes (tevPps (calFire (monTev (tevSites (tevGates (tevRecord (wr s TIM_TEV_STAT.ARMED n 0) n) n) n) n) n) n
      (timeOfNow (rd s TIM_TEV_STAT.NEXT n))) n := by
  have hnext : tevNext s n = wr s TIM_TEV_STAT.ARMED n 0 := if_neg (Bool.eq_false_iff.1 h)
  unfold tevAct
  rw [hnext]

theorem acts_timeWatchdogExpire : Acts .timeWatchdogExpire
    (fun s => rd s TIM_STATUS.LOCK 0 = 1 ∧ flag s HID.WDOG_ON 0 = true)
    (fun s => event (faultC 0x200 (wrs s [(TIM_STATUS.LOCK, 0, 2), (HID.WDOG_ON, 0, 0)])) 2 0x200 0 (bytesOf [1])) :=
  .of_next (fun _ => rfl) fun _ ⟨hl, hw⟩ => if_pos (by rw [hl, hw]; rfl)

theorem acts_ppsOutPulseEnd : Acts .ppsOutPulseEnd (fun s => flag s TIM_TEV_STAT.PERIODIC (ppsTev s) = false)
    (fun s => wr s HID.PPS_OUT 0 0) :=
  .of_next (fun _ => rfl) fun _ h => if_neg (by rw [h]; exact Bool.false_ne_true)

theorem acts_rclkSourceLost (r : Fin 2) : Acts (.rclkSourceLost r)
    (fun s => flag s TIM_RCLK.EN r.val = true ∧ rclkGone s r.val = true ∧ flag s TIM_RCLK.LOST r.val = false)
    (fun s => faultC (0x202 + r.val) (rclkShow (wr s TIM_RCLK.LOST r.val 1) r.val)) :=
  .of_next (fun _ => rfl) fun _ ⟨he, hg, hl⟩ => if_pos (by rw [he, hg, hl]; rfl)

/-- Settles O24: each command and event by the lemma above for its case. -/
theorem timeUnitActs : Obligations.TimeUnitActs :=
  ⟨⟨completes_timeRate, completes_timeStep, completes_timeRearm, completes_tevArm, completes_tevStop_notDue,
    completes_tevStop_due⟩,
   fun n s ⟨hd, hp⟩ => (acts_tevFire n s hd).trans (congrArg _ (tevAct_of_not_periodic hp)),
    fun n s ⟨hd, _⟩ => acts_tevFire n s hd, acts_timeWatchdogExpire, acts_ppsInEdge, acts_ppsInTimeout,
    acts_ppsOutPulseEnd, acts_rclkSourceLost⟩

end Sys2Proof

/-! PROOFS. The clock's own fields: whatever a fault, a completion or a fetch does, the tick counter and the increment stay
as they are. -/

namespace Sys2Proof

open Sys2Proof.Machine

/-! ## The fields by which the clock runs (R154, R155) -/

/-- The tick counter and the two parts of the increment. -/
def clockFields : List Fld := [HID.TICKS, TIM_INCR.BASE, TIM_INCR.DELTA]

/-- A field is none of those by which the clock runs. -/
def offClock (f : Fld) : Bool := clockFields.all fun g => f.id != g.id

/-- The tick counter and the increment of s are those of σ. -/
structure SameClock (σ s : State) : Prop where
  fields : ∀ g ∈ clockFields, ∀ i, rd s g i = rd σ g i

theorem offClock_ne {f g : Fld} (hf : offClock f = true) (hg : g ∈ clockFields) : f.id ≠ g.id :=
  bne_iff_ne.1 (List.all_eq_true.1 hf g hg)

/-- No field of the traffic with the host is one by which the clock runs. -/
theorem trafficFields_offClock {f g : Fld} (hf : f ∈ trafficFields) (hg : g ∈ clockFields) : f.id ≠ g.id :=
  offClock_ne ((by decide : ∀ f ∈ trafficFields, offClock f = true) f hf) hg

theorem SameClock.refl (s : State) : SameClock s s := ⟨fun _ _ _ => rfl⟩

section
variable {σ s t : State}

theorem SameClock.of_regs (h : SameClock σ s) (hr : t.regs = s.regs) : SameClock σ t :=
  ⟨fun g hg i => by
    have hrd : rd t g i = rd s g i := by unfold rd; rw [hr]
    rw [hrd, h.fields g hg i]⟩

theorem SameClock.of_trafficOnly (h : SameClock σ s) (k : TrafficOnly s t) : SameClock σ t :=
  ⟨fun g hg i => (k.fields g i fun _ hf => trafficFields_offClock hf hg).trans (h.fields g hg i)⟩

theorem SameClock.of_ringOnly {r : Nat} (h : SameClock σ s) (k : RingOnly r s t) : SameClock σ t :=
  ⟨fun g hg i => (k.fields g i fun _ hf => trafficFields_offClock hf hg).trans (h.fields g hg i)⟩

theorem SameClock.ite {c : Prop} [Decidable c] (h : SameClock σ s) (k : SameClock σ t) :
    SameClock σ (if c then s else t) := by
  split
  · exact h
  · exact k

theorem SameClock.foldl {α : Type} {g : State → α → State} (h : SameClock σ s)
    (hg : ∀ t x, SameClock σ t → SameClock σ (g t x)) (l : List α) : SameClock σ (l.foldl g s) := by
  induction l generalizing s with
  | nil => exact h
  | cons a l ih => exact ih (hg s a h)

theorem SameClock.forEach {g : Nat → State → State} (h : SameClock σ s)
    (hg : ∀ x t, SameClock σ t → SameClock σ (g x t)) (l : List Nat) : SameClock σ (Machine.forEach l s g) := by
  induction l generalizing s with
  | nil => exact h
  | cons a l ih => exact ih (hg a s h)

/-! ## Writes and counters -/

theorem sameClock_wr {f : Fld} {i v : Nat} (h : SameClock σ s) (hf : offClock f = true) : SameClock σ (wr s f i v) :=
  ⟨fun g hg j => (rd_wr_id s f g i j v (offClock_ne hf hg)).trans (h.fields g hg j)⟩

theorem sameClock_wrs {l : List (Fld × Nat × Nat)} (h : SameClock σ s)
    (hl : l.all (fun e => offClock e.1) = true) : SameClock σ (wrs s l) := by
  induction l generalizing s with
  | nil => exact h
  | cons e l ih =>
    obtain ⟨he, hl⟩ := Bool.and_eq_true_iff.1 hl
    exact ih (sameClock_wr h he) hl

theorem sameClock_wrN {f : Fld} {v n : Nat} (h : SameClock σ s) (hf : offClock f = true) :
    SameClock σ (wrN s f v n) := by
  induction n with
  | zero => exact h
  | succ n ih => exact sameClock_wr ih hf

theorem sameClock_wrFrom {f : Fld} {b v n : Nat} (h : SameClock σ s) (hf : offClock f = true) :
    SameClock σ (wrFrom s f b v n) := by
  induction n with
  | zero => exact h
  | succ n ih => exact sameClock_wr ih hf

theorem sameClock_bumpBy {f : Fld} {i n : Nat} (h : SameClock σ s) (hf : offClock f = true) :
    SameClock σ (bumpBy s f i n) :=
  .ite (sameClock_wr (sameClock_wr h hf) rfl) (sameClock_wr h hf)

/-- Values at no field of the clock may be dropped from the register store. -/
theorem sameClock_filter (h : SameClock σ s) (p : Key × Nat → Bool)
    (hp : ∀ g ∈ clockFields, ∀ e, e.1.1 = g.id → p e = true) : SameClock σ { s with regs := s.regs.filter p } :=
  ⟨fun g hg i => by
    have hget : tabGet (s.regs.filter p) (g.id, i) = tabGet s.regs (g.id, i) :=
      tabGet_filter _ _ _ fun e _ he => hp g hg e (congrArg Prod.fst he)
    rw [← h.fields g hg i]
    unfold rd
    dsimp only
    rw [hget]⟩

theorem sameClock_resetUnit {rs : List RegSpec} {keep : List Fld} {per u : Nat} (h : SameClock σ s)
    (hr : (rs.all fun r => r.flds.all offClock) = true) : SameClock σ (resetUnit s rs keep per u) := by
  refine sameClock_filter h _ fun g hg e he => ?_
  rw [Bool.not_eq_true']
  have hown : ownKey e.1 = e.1 := if_neg (by
    have hmark : ∀ f ∈ clockFields, Nat.beq f.id HID.SAT.id = false ∧ Nat.beq f.id HID.WRAP.id = false := by decide
    obtain ⟨hsat, hwrap⟩ := hmark g hg
    simp [he, hsat, hwrap])
  refine Bool.and_eq_false_imp.2 fun hany => ?_
  obtain ⟨r, hrs, hin⟩ := List.any_eq_true.1 hany
  obtain ⟨f, hf, hid⟩ := List.any_eq_true.1 (Bool.and_eq_true_iff.1 hin).1
  rw [hown, he] at hid
  exact absurd (Nat.eq_of_beq_eq_true hid) (offClock_ne (List.all_eq_true.1 (List.all_eq_true.1 hr r hrs) f hf) hg)

/-! ## Traffic and recording of faults (R148, R445 to R450) -/

theorem trafficOnly_event (s : State) (type source cls : Nat) (data : List Byte) :
    TrafficOnly s (event s type source cls data) :=
  (((TrafficOnly.forEach (fun q t => trafficOnly_evqPush t q _) _ s).trans (trafficOnly_hostDma _)).trans
    (trafficOnly_perf _ _)).trans (trafficOnly_perf _ _)

theorem sameClock_event (h : SameClock σ s) (type source cls : Nat) (data : List Byte) :
    SameClock σ (event s type source cls data) := h.of_trafficOnly (trafficOnly_event _ _ _ _ _)

theorem sameClock_perf (h : SameClock σ s) (e : PerfEv) : SameClock σ (perf s e) :=
  h.of_trafficOnly (trafficOnly_perf _ _)

theorem sameClock_updFaultPin (h : SameClock σ s) : SameClock σ (updFaultPin s) := sameClock_wr h rfl

theorem sameClock_escCount (h : SameClock σ s) (rule : Option Nat) : SameClock σ (escCount s rule) := by
  cases rule with
  | none => exact h
  | some r => exact .ite (sameClock_bumpBy (sameClock_wr h rfl) rfl) (sameClock_wr h rfl)

theorem sameClock_faultRecord (h : SameClock σ s) (src cls : Nat) (esc new : Bool) (rule : Option Nat) (d : List Byte) :
    SameClock σ (faultRecord s src cls esc new rule d) :=
  .ite h (sameClock_event (.ite (sameClock_wr h rfl) h) _ _ _ _)

theorem sameClock_recordFault (h : SameClock σ s) (src cls : Nat) (d : List Byte) :
    SameClock σ (recordFault s src cls d) :=
  sameClock_updFaultPin (sameClock_faultRecord (sameClock_bumpBy (sameClock_wrs
    (sameClock_perf (sameClock_escCount h _) _) rfl) rfl) _ _ _ _ _ _)

/-! ## Parts of the state outside the register store -/

theorem sameClock_took (h : SameClock σ s) : SameClock σ (took s) := .of_regs h rfl

theorem sameClock_running (h : SameClock σ s) (x : List Run) : SameClock σ { s with running := x } := .of_regs h rfl

theorem sameClock_sessions (h : SameClock σ s) (x : Tab Sess) : SameClock σ { s with sessions := x } :=
  .of_regs h rfl

theorem sameClock_chains (h : SameClock σ s) (x : Tab Chain) : SameClock σ { s with chains := x } := .of_regs h rfl

theorem sameClock_tblSums (h : SameClock σ s) (x : Tab TblSum) : SameClock σ { s with tblSums := x } := .of_regs h rfl

theorem sameClock_emit (h : SameClock σ s) (o : Out) : SameClock σ (emit s o) := .of_regs h rfl

theorem sameClock_assignBoth (h : SameClock σ s) (sh : Nat) (g : Option Nat) : SameClock σ (assignBoth s sh g) :=
  .of_regs h rfl

theorem sameClock_dropRun (h : SameClock σ s) (r tag : Nat) : SameClock σ (dropRun s r tag) := sameClock_running h _

/-! ## Completions (R119, R133, R136, R141) -/

theorem sameClock_auditAppend {F : State → State} (h : SameClock σ s) (hF : ∀ t, SameClock σ t → SameClock σ (F t))
    (type role cred handle opcode status : Nat) (d : List Byte) :
    SameClock σ (auditAppend F s type role cred handle opcode status d) := by
  unfold auditAppend
  extract_lets seq e e' s1
  have h1 : SameClock σ s1 := sameClock_wr h rfl
  split
  · exact .ite (.of_regs h1 rfl) (.ite (.of_regs h1 rfl) (hF _ (sameClock_bumpBy (.of_regs h1 rfl) rfl)))
  · exact .of_regs h1 rfl

theorem sameClock_bootFirst {F : State → State} (h : SameClock σ s) (hF : ∀ t, SameClock σ t → SameClock σ (F t)) :
    SameClock σ (bootFirst F s) :=
  .ite (sameClock_auditAppend (sameClock_took h) hF _ _ _ _ _ _ _) h

theorem sameClock_auditWith {F : State → State} (h : SameClock σ s) (hF : ∀ t, SameClock σ t → SameClock σ (F t))
    (type role cred handle opcode status : Nat) (d : List Byte) :
    SameClock σ (auditWith F s type role cred handle opcode status d) :=
  sameClock_auditAppend (sameClock_bootFirst h hF) hF _ _ _ _ _ _ _

theorem sameClock_finishWith {F : State → State} (h : SameClock σ s) (hF : ∀ t, SameClock σ t → SameClock σ (F t))
    (r : Nat) (a : Acc) (p : Reply) : SameClock σ (finishWith F s r a p) := by
  have hcount : SameClock σ (completionCounted s r a p) := h.of_ringOnly (ringOnly_completionCounted s r a p)
  have hpost := hcount.of_ringOnly (ringOnly_post _ r (cplOf r a p))
  exact (SameClock.ite (sameClock_auditWith hpost hF _ _ _ _ _ _ _) hpost).of_ringOnly (ringOnly_settleRing _ r)

/-- The faults that R raises leave the clock as it is. -/
def RaisesOffClock (R : Raise) : Prop :=
  ∀ {σ s : State} (src cls : Nat) (d : List Byte), SameClock σ s → SameClock σ (R src cls d s)

theorem sameClock_settleBarriers {F : State → State} (h : SameClock σ s) (hF : ∀ t, SameClock σ t → SameClock σ (F t)) :
    SameClock σ (settleBarriers F s) := by
  unfold settleBarriers
  split
  · exact h
  · exact h.foldl (fun _ _ h => sameClock_finishWith (sameClock_dropRun h _ _) hF _ _ _) _

end

section
variable {σ s : State} {R : Raise} (hR : RaisesOffClock R)
include hR

theorem sameClock_fin (h : SameClock σ s) (r : Nat) (a : Acc) (p : Reply) : SameClock σ (fin R s r a p) :=
  sameClock_settleBarriers (sameClock_finishWith h (fun _ h => hR _ _ _ h) _ _ _) fun _ h => hR _ _ _ h

theorem sameClock_completeWhere (h : SameClock σ s) (p : Run → Bool) (q : Reply) :
    SameClock σ (completeWhere R p q s) :=
  h.foldl (fun _ _ h => sameClock_fin hR (sameClock_dropRun h _ _) _ _ _) _

end

/-! ## Sites (R53, R391 to R405, R412) -/

section
variable {σ s : State}

theorem sameClock_toClear (h : SameClock σ s) (i : Nat) : SameClock σ (toClear s i) := sameClock_wrs h rfl

theorem sameClock_siteClear (h : SameClock σ s) (k : Nat) : SameClock σ (siteClear s k) :=
  h.forEach (fun _ _ h => sameClock_toClear h _) _

theorem sameClock_htrLow (h : SameClock σ s) (k : Nat) : SameClock σ (htrLow s k) :=
  h.forEach (fun _ _ h => sameClock_wrs h rfl) _

theorem sameClock_moveOut (h : SameClock σ s) (i code : Nat) : SameClock σ (moveOut s i code) :=
  .ite (sameClock_wrs h rfl) (sameClock_wr (sameClock_wrs h rfl) rfl)

theorem sameClock_monSiteTake (h : SameClock σ s) (k : Nat) : SameClock σ (monSiteTake s k) := by
  unfold monSiteTake
  split
  · exact h
  · exact sameClock_wrs (.of_regs h rfl) rfl

theorem sameClock_portCut (h : SameClock σ s) (p : Nat) : SameClock σ (portCut s p) := .of_regs h rfl

theorem sameClock_freeBuf (h : SameClock σ s) (l : Nat) : SameClock σ (freeBuf s l) :=
  sameClock_took (h.forEach (fun _ _ h => sameClock_wr h rfl) _)

theorem sameClock_sqSheaf (h : SameClock σ s) (k : Nat) : SameClock σ (sqSheaf s k) :=
  h.forEach (fun _ _ h => sameClock_wr h rfl) _

end

section
variable {σ s : State} {R : Raise} (hR : RaisesOffClock R)
include hR

theorem sameClock_countClamp (h : SameClock σ s) (k : Nat) : SameClock σ (countClamp R s k) :=
  hR _ _ _ (sameClock_perf (sameClock_wr (sameClock_bumpBy h rfl) rfl) _)

theorem sameClock_monStop (h : SameClock σ s) (k : Nat) : SameClock σ (monStop R s k) :=
  sameClock_completeWhere hR (sameClock_monSiteTake (sameClock_wrs h rfl) _) _ _

theorem sameClock_siteHold (h : SameClock σ s) (k : Nat) : SameClock σ (siteHold R s k) :=
  .ite (sameClock_htrLow (sameClock_siteClear (sameClock_sqSheaf
    (sameClock_wr (sameClock_monStop hR h k) rfl) _) _) _) h

theorem sameClock_laserRestore (h : SameClock σ s) (k c : Nat) : SameClock σ (laserRestore R s k c) := by
  unfold laserRestore
  extract_lets i s1
  have h1 : SameClock σ s1 := sameClock_wr (sameClock_moveOut h _ _) rfl
  exact .ite h (.ite (sameClock_countClamp hR h1 _) h1)

theorem sameClock_setAls (h : SameClock σ s) (l st : Nat) : SameClock σ (setAls R s l st) := by
  unfold setAls
  extract_lets k old s1
  have h1 : SameClock σ s1 := sameClock_event (sameClock_wr h rfl) _ _ _ _
  exact .ite h (.ite
    ((sameClock_bumpBy (sameClock_wr h1 rfl) rfl).forEach (fun _ _ h => .ite (sameClock_toClear h _) h) _)
    (.ite (h1.forEach (fun _ _ h => sameClock_laserRestore hR h _ _) _) h1))

/-! ## Lanes and ports (R165, R204, R213, R222, R238, R241, R289) -/

theorem sameClock_portEval (h : SameClock σ s) (held : Bool) (p : Nat) : SameClock σ (portEval R held s p) := by
  unfold portEval
  extract_lets old new s1 s2
  have h1 : SameClock σ s1 := sameClock_event (sameClock_wr h rfl) _ _ _ _
  have h2 : SameClock σ s2 := sameClock_portCut (sameClock_bumpBy h1 rfl) _
  exact .ite h (.ite (sameClock_wrs h1 rfl) (.ite (.ite h2 (hR _ _ _ h2)) (.ite (sameClock_bumpBy h1 rfl) h1)))

theorem sameClock_portOfLaneEval (h : SameClock σ s) (l : Nat) : SameClock σ (portOfLaneEval R s l) := by
  unfold portOfLaneEval
  split
  · exact h
  · exact sameClock_portEval hR h _ _

theorem sameClock_stopWake (h : SameClock σ s) (l reason : Nat) (n : Option Nat) :
    SameClock σ (stopWake R l reason n s) := by
  unfold stopWake
  extract_lets frames s0 s1 s2 s3
  have h1 : SameClock σ s1 := sameClock_bumpBy (sameClock_emit (sameClock_wr h rfl) _) rfl
  have h2 : SameClock σ s2 := .ite h1 (sameClock_took h1)
  have h3 : SameClock σ s3 := sameClock_running h2 _
  refine .ite h ?_
  split
  · exact sameClock_fin hR (sameClock_dropRun h3 _ _) _ _ _
  · exact h3

omit hR in
theorem sameClock_rclkBack (h : SameClock σ s) (l : Nat) : SameClock σ (rclkBack s l) :=
  h.forEach (fun _ _ h => .ite (.ite (sameClock_wr (sameClock_wr (sameClock_wr h rfl) rfl) rfl)
    (sameClock_wr (sameClock_wr h rfl) rfl)) h) _

omit hR in
theorem sameClock_captureAbort (h : SameClock σ s) (l : Nat) : SameClock σ (captureAbort s l) :=
  .ite (sameClock_freeBuf (sameClock_wr h rfl) _) h

omit hR in
theorem sameClock_holdTime (h : SameClock σ s) (l st : Nat) : SameClock σ (holdTime s l st) :=
  .ite (sameClock_wr h rfl) (.ite (sameClock_bumpBy h rfl) h)

omit hR in
theorem sameClock_clearTraining (h : SameClock σ s) (l : Nat) : SameClock σ (clearTraining s l) :=
  sameClock_wrs (.of_regs h rfl) rfl

theorem sameClock_setLane (h : SameClock σ s) (l st reason : Nat) : SameClock σ (setLane R s l st reason) := by
  unfold setLane
  extract_lets sq s0 s1 s2 s3 s4
  have hq : SameClock σ sq := .ite (sameClock_wr (sameClock_holdTime h l st) rfl) (sameClock_holdTime h l st)
  have h0 : SameClock σ s0 := sameClock_perf (sameClock_wr hq rfl) _
  have h1 : SameClock σ s1 := .ite (sameClock_rclkBack h0 l) (.ite h0 (sameClock_wrs (sameClock_wrs h0 rfl) rfl))
  have h2 : SameClock σ s2 := .ite h1 (sameClock_wr h1 rfl)
  have h3 : SameClock σ s3 := sameClock_captureAbort (.ite h2 (sameClock_stopWake hR h2 _ _ _)) _
  have h4 : SameClock σ s4 := sameClock_event h3 _ _ _ _
  exact .ite h (sameClock_portOfLaneEval hR (.ite (sameClock_setAls hR h4 _ _) h4) _)

theorem sameClock_failLane (h : SameClock σ s) (l : Nat) : SameClock σ (failLane R s l) :=
  hR _ _ _ (sameClock_setLane hR (sameClock_wrs (sameClock_clearTraining h l) rfl) _ _ _)

/-! ## Domains (R88 to R90, R426 to R433) -/

omit hR in
theorem sameClock_bumpEntry (h : SameClock σ s) (d st : Nat) : SameClock σ (bumpEntry s d st) :=
  .ite h (sameClock_wr h rfl)

omit hR in
theorem sameClock_setDomSt (h : SameClock σ s) (d st : Nat) : SameClock σ (setDomSt s d st) := by
  unfold setDomSt
  extract_lets old s1
  have hacc : SameClock σ (domAccum s d) := sameClock_wrs h rfl
  have h1 : SameClock σ s1 := sameClock_bumpEntry (sameClock_wr hacc rfl) _ _
  exact sameClock_event h1 _ _ _ _

theorem sameClock_sheafSleep (h : SameClock σ s) (sh st : Nat) : SameClock σ (sheafSleep R s sh st) := by
  unfold sheafSleep
  extract_lets s1
  have h1 : SameClock σ s1 := h.forEach (fun l t h => by
    have hw : SameClock σ (wr t HID.WAS_AWAKE l (b2n (laneSt t l != laneDARK))) := sameClock_wr h rfl
    exact .ite hw (sameClock_setLane hR (sameClock_wrs (sameClock_clearTraining hw l) rfl) _ _ _)) _
  exact .ite (sameClock_wr h1 rfl) h1

omit hR in
theorem sameClock_eraseSaks (h : SameClock σ s) (j : Nat) : SameClock σ (eraseSaks s j) :=
  .of_regs (sameClock_filter h
    (fun e => !(Nat.beq e.1.1 MSC_SA.VALID.id && Nat.beq (e.1.2 / 2048) j)) fun g hg e he => by
      have hid : ∀ g ∈ clockFields, Nat.beq g.id MSC_SA.VALID.id = false := by decide
      simp [he, hid g hg]) rfl

theorem sameClock_domSleep (h : SameClock σ s) (d st : Nat) : SameClock σ (domSleep R s d st) := by
  unfold domSleep
  extract_lets i s1 s0 sH s2
  split
  · exact sameClock_sheafSleep hR h _ _
  · have h1 : SameClock σ s1 := sameClock_wrs h rfl
    exact .ite (.ite (sameClock_eraseSaks h1 _) h1) h
  · have h0 : SameClock σ s0 := sameClock_monStop hR (.ite (sameClock_wr (sameClock_sqSheaf h _) rfl) h) _
    have hH : SameClock σ sH :=
      (h0.forEach (fun _ _ h => sameClock_wr h rfl) _).forEach (fun _ _ h => sameClock_wr h rfl) _
    have h2 : SameClock σ s2 := sameClock_resetUnit hH rfl
    exact .ite (sameClock_monStop hR h _) (.ite (sameClock_chains h2 _) hH)
  · exact h

omit hR in
theorem sameClock_resetCorridor (h : SameClock σ s) (c : Nat) : SameClock σ (resetCorridor s c) := by
  unfold resetCorridor
  extract_lets s1 s2 lanes dirs
  have h1 : SameClock σ s1 := sameClock_resetUnit h rfl
  have h2 : SameClock σ s2 := sameClock_resetUnit h1 rfl
  refine .of_regs (sameClock_filter h2 (fun e => !((Nat.beq (e.1.2 / 2112) c && lanes.any (fun f => Nat.beq f.id e.1.1))
    || (Nat.beq (e.1.2 / 2) c && dirs.any (fun f => Nat.beq f.id e.1.1)))) fun g hg e he => ?_) rfl
  have hout : ∀ g ∈ clockFields, lanes.any (fun f => Nat.beq f.id g.id) = false ∧
      dirs.any (fun f => Nat.beq f.id g.id) = false := by decide
  obtain ⟨hl, hd⟩ := hout g hg
  rw [he, hl, hd, Bool.and_false, Bool.and_false]
  rfl

omit hR in
theorem sameClock_corStart (h : SameClock σ s) (c : Nat) : SameClock σ (corStart s c) :=
  sameClock_wrs (sameClock_wr h rfl) rfl

omit hR in
theorem sameClock_domMove (h : SameClock σ s) (d st cause : Nat) : SameClock σ (domMove s d st cause) := by
  unfold domMove
  extract_lets cur s1 s2
  have h1 : SameClock σ s1 := sameClock_wrs h rfl
  have h2 : SameClock σ s2 := sameClock_wrs h1 rfl
  exact .ite h (.ite (.ite (.ite (sameClock_wr h rfl) h) (sameClock_wrs h rfl)) (.ite h
    (.ite (.ite (sameClock_corStart (.ite (sameClock_resetCorridor h2 _) h2) _) h2) (sameClock_wr h1 rfl))))

theorem sameClock_holdDom (h : SameClock σ s) (d held : Nat) : SameClock σ (holdDom R s d held) := by
  unfold holdDom
  extract_lets s1 s2
  have h1 : SameClock σ s1 := sameClock_wrs h rfl
  have h2 : SameClock σ s2 := .ite h1 (sameClock_domSleep hR h1 _ _)
  exact sameClock_wr (.ite h2 (sameClock_setDomSt h2 _ _)) rfl

theorem sameClock_holdCorridor (h : SameClock σ s) (c : Nat) : SameClock σ (holdCorridor R s c) := by
  unfold holdCorridor
  extract_lets s1 s2
  have h1 : SameClock σ s1 := sameClock_wrs (sameClock_holdDom hR h _ _) rfl
  have h2 : SameClock σ s2 := h1.forEach (fun _ _ h => sameClock_holdDom hR h _ _) _
  exact hR _ _ _ (.ite h2 (sameClock_wr (sameClock_wrFrom h2 rfl) rfl))

/-! ## Galleries, corridor lanes and retirement (R340, R341, R459, R468, R496, R497) -/

omit hR in
theorem sameClock_sliceOff (h : SameClock σ s) (cls k : Nat) : SameClock σ (sliceOff s cls k) :=
  sameClock_wrs (.of_regs h rfl) rfl

omit hR in
theorem sameClock_sliceRestore (h : SameClock σ s) (cls k : Nat) : SameClock σ (sliceRestore s cls k) := by
  unfold sliceRestore
  extract_lets idx i
  split
  · exact sameClock_wrs h rfl
  · exact .ite (sameClock_wr h rfl) h
  · exact .ite (sameClock_wr (sameClock_wr h rfl) rfl) h
  · exact sameClock_wrs h rfl
  · exact h

theorem sameClock_abortSlice (h : SameClock σ s) (cls k : Nat) : SameClock σ (abortSlice R s cls k) := by
  unfold abortSlice
  split
  · exact h
  · exact sameClock_completeWhere hR (sameClock_wr
      (sameClock_bumpBy (sameClock_sliceRestore (sameClock_sliceOff h _ _) _ _) rfl) rfl) _ _

omit hR in
theorem sameClock_dropInGallery (h : SameClock σ s) (g code : Nat) : SameClock σ (dropInGallery s g code) := by
  unfold dropInGallery
  extract_lets n s1
  have h1 : SameClock σ s1 := .of_regs h rfl
  exact .ite h1 (sameClock_bumpBy h1 rfl)

theorem sameClock_galTake (h : SameClock σ s) (sh g : Nat) : SameClock σ (galTake R s sh g) := by
  unfold galTake
  extract_lets s1 s2
  have h1 : SameClock σ s1 := .ite (sameClock_abortSlice hR h _ _) h
  have h2 : SameClock σ s2 := sameClock_wrs h1 rfl
  exact sameClock_assignBoth (sameClock_bumpBy h2 rfl) _ _

theorem sameClock_galSwap (h : SameClock σ s) (sh d : Nat) : SameClock σ (galSwap R s sh d) := by
  unfold galSwap
  split
  · exact sameClock_wr h rfl
  · exact .ite (sameClock_galTake hR h _ _) (sameClock_domMove (sameClock_wr h rfl) _ _ _)

theorem sameClock_galFail (h : SameClock σ s) (g : Nat) : SameClock σ (galFail R s g) := by
  unfold galFail
  extract_lets st sh s0 s1 s2 s3
  have h0 : SameClock σ s0 := .ite (sameClock_sliceOff h _ _) h
  have h1 : SameClock σ s1 := sameClock_wrs (sameClock_dropInGallery h0 _ _) rfl
  have h2 : SameClock σ s2 := .ite (sameClock_assignBoth h1 _ _) h1
  have h3 : SameClock σ s3 := hR _ _ _ h2
  exact .ite h (.ite (sameClock_galSwap hR h3 _ _) h3)

theorem sameClock_ddlDegrade (h : SameClock σ s) (dd x : Nat) : SameClock σ (ddlDegrade R s dd x) := by
  unfold ddlDegrade
  extract_lets i gs s1 s2
  have h2 : SameClock σ s2 := hR _ _ _ (sameClock_wrs h rfl)
  exact .ite (sameClock_holdCorridor hR h2 _) h2

theorem sameClock_ddlNext (h : SameClock σ s) (dd : Nat) : SameClock σ (ddlNext R s dd) := by
  unfold ddlNext
  refine .ite h ?_
  split
  · exact h
  · split
    · exact sameClock_ddlDegrade hR h _ _
    · exact sameClock_wrs (.ite (sameClock_abortSlice hR h _ _) h) rfl

theorem sameClock_ddlIsolate (h : SameClock σ s) (c : Nat) : SameClock σ (ddlIsolate R s c) :=
  .ite (.ite h (sameClock_ddlNext hR (sameClock_wr h rfl) _)) h

omit hR in
theorem sameClock_retirePut (h : SameClock σ s) (n x kind addr : Nat) (auto : Bool) :
    SameClock σ (retirePut s n x kind addr auto) := by
  unfold retirePut
  extract_lets i s1 held s2 s3
  have h1 : SameClock σ s1 := sameClock_wrs h rfl
  have h2 : SameClock σ s2 := .ite (sameClock_took h1) h1
  have h3 : SameClock σ s3 := sameClock_wrs h2 rfl
  exact .ite (sameClock_wr h1 rfl) (.ite (sameClock_wr (.of_regs h3 rfl) rfl) h3)

omit hR in
theorem sameClock_autoRetire (h : SameClock σ s) (n b : Nat) : SameClock σ (autoRetire s n b) := by
  unfold autoRetire
  extract_lets addr
  refine .ite h ?_
  split
  · exact h
  · exact sameClock_retirePut h _ _ _ _ _

/-! ## Faults and their reactions (R446 to R448) -/

omit hR in
theorem sameClock_ctxDrop (h : SameClock σ s) : SameClock σ (ctxDrop s) := sameClock_wrs (.of_regs h rfl) rfl

omit hR in
theorem sameClock_freeSlot (h : SameClock σ s) (n : Nat) : SameClock σ (freeSlot s n) := by
  unfold freeSlot
  extract_lets s0 s1
  have h0 : SameClock σ s0 := .ite (sameClock_ctxDrop h) h
  have h1 : SameClock σ s1 := .of_regs h0 rfl
  exact sameClock_wrs h1 rfl

theorem sameClock_enterSafe (h : SameClock σ s) : SameClock σ (enterSafe R s) := by
  unfold enterSafe
  extract_lets s1 s2 s3 s4
  have h1 : SameClock σ s1 := sameClock_updFaultPin (sameClock_wr h rfl)
  have h2 : SameClock σ s2 := h1.forEach (fun _ _ h => sameClock_htrLow (sameClock_siteClear h _) _) _
  have h3 : SameClock σ s3 := sameClock_wrN (sameClock_wrN h2 rfl) rfl
  have h4 : SameClock σ s4 := h3.forEach (fun _ _ h => sameClock_stopWake hR h _ _ _) _
  exact sameClock_completeWhere hR (h4.forEach (fun _ _ h => sameClock_freeSlot h _) _) _ _

theorem sameClock_isolate (h : SameClock σ s) (src : Nat) (d : List Byte) : SameClock σ (isolate R src d s) := by
  unfold isolate
  extract_lets i s1
  split
  · exact h.forEach (fun _ _ h => .ite h (sameClock_failLane hR h _)) _
  · have h1 : SameClock σ s1 := h.forEach (fun _ _ h => sameClock_wr h rfl) _
    exact h1.forEach (fun _ _ h => sameClock_portEval hR h _ _) _
  · exact .ite (sameClock_galFail hR h _) (.ite (sameClock_galFail hR h _) h)
  · exact .ite (sameClock_autoRetire h _ _) h
  · exact sameClock_ddlIsolate hR h _
  · exact sameClock_siteHold hR h _
  · exact h

end

/-- However deep reactions raise further faults, none touches the clock. -/
theorem raisesOffClock_raiseN (n : Nat) : RaisesOffClock (raiseN n) := by
  induction n with
  | zero => exact fun _ _ _ h => sameClock_recordFault h _ _ _
  | succ n ih =>
    intro σ s src cls d h
    have hrec : SameClock σ (recordFault s src cls d) := sameClock_recordFault h _ _ _
    exact .ite (.ite (sameClock_updFaultPin (sameClock_wr hrec rfl)) (sameClock_enterSafe ih hrec))
      (.ite (sameClock_isolate ih hrec _ _) hrec)

theorem raisesOffClock_raise : RaisesOffClock raise := raisesOffClock_raiseN 4

/-! ## Sessions and fetching (R113, R114, R119, R133, R164) -/

section
variable {σ s : State}

theorem sameClock_finish (h : SameClock σ s) (r : Nat) (a : Acc) (p : Reply) : SameClock σ (finish s r a p) :=
  sameClock_fin raisesOffClock_raise h _ _ _

theorem sameClock_complete (h : SameClock σ s) (p : Run → Bool) (q : Reply) : SameClock σ (complete p q s) :=
  sameClock_completeWhere raisesOffClock_raise h _ _

theorem sameClock_audit (h : SameClock σ s) (type role cred handle opcode status : Nat) (d : List Byte) :
    SameClock σ (audit s type role cred handle opcode status d) :=
  sameClock_auditWith h (fun _ h => raisesOffClock_raise _ _ _ h) _ _ _ _ _ _ _

theorem sameClock_idleUse (h : SameClock σ s) : SameClock σ (idleUse s) :=
  (h.foldl (fun _ _ h => sameClock_abortSlice raisesOffClock_raise h _ _) _).of_trafficOnly (trafficOnly_hostDma _)

theorem sameClock_writeSummary (h : SameClock σ s) (k t : Nat) (w : TblSum) : SameClock σ (writeSummary s k t w) :=
  sameClock_audit (sameClock_tblSums h _) _ _ _ _ _ _ _

theorem sameClock_flushOver (h : SameClock σ s) : SameClock σ (flushOver s) :=
  h.foldl (fun _ _ h => sameClock_writeSummary h _ _ _) _

theorem sameClock_ctxClose (h : SameClock σ s) (k : Nat) : SameClock σ (ctxClose s k) := by
  unfold ctxClose
  split
  · exact .ite (sameClock_complete (sameClock_ctxDrop h) _ _) h
  · exact h

theorem sameClock_dropOpen (h : SameClock σ s) (k : Nat) : SameClock σ (dropOpen s k) :=
  h.forEach (fun _ _ h => .ite (sameClock_freeSlot h _) (sameClock_wr h rfl)) _

theorem sameClock_drainRing (h : SameClock σ s) (r : Nat) : SameClock σ (drainRing s r) :=
  (h.of_ringOnly (ringOnly_setRing s r _)).of_ringOnly (ringOnly_settleRing _ r)

theorem sameClock_auditDropped (h : SameClock σ s) (x : Run) : SameClock σ (auditDropped s x) :=
  .ite (sameClock_audit h _ _ _ _ _ _ _) h

theorem sameClock_closeSession (h : SameClock σ s) (k : Nat) : SameClock σ (closeSession s k) := by
  unfold closeSession
  split
  · exact h
  next x _ =>
    extract_lets s0 s1 s2 s3 s4
    have h0 : SameClock σ s0 := h.foldl (fun _ x h => sameClock_auditDropped h x) _
    have h1 : SameClock σ s1 := sameClock_running h0 _
    have h2 : SameClock σ s2 := sameClock_complete h1 _ _
    have h3 : SameClock σ s3 :=
      (sameClock_dropOpen (sameClock_ctxClose h2 _) _).foldl (fun _ _ h => sameClock_writeSummary h _ _ _) _
    have h4 : SameClock σ s4 := sameClock_audit (sameClock_sessions h3 _) _ _ _ _ _ _ _
    exact h4.forEach (fun _ _ h => sameClock_drainRing h _) _

theorem sameClock_badMacClose (h : SameClock σ s) (r k : Nat) : SameClock σ (badMacClose s r k) :=
  .ite (sameClock_closeSession (raisesOffClock_raise _ _ _ (sameClock_audit h _ _ _ _ _ _ _)) _) h

theorem sameClock_fetchOne (h : SameClock σ s) (r : Nat) (c : Cmd) : SameClock σ (fetchOne r s c) := by
  unfold fetchOne
  extract_lets q0 e s0 s1
  have h0 : SameClock σ s0 := sameClock_perf h _
  have h1 : SameClock σ s1 := h0.of_ringOnly (ringOnly_setRing s0 r _)
  have hrefused := fun a p => sameClock_finish h1 r a p
  split
  · exact hrefused _ _
  · split
    · exact hrefused _ _
    · split
      · exact hrefused _ _
      · extract_lets s2 q1 s3 a
        have h2 : SameClock σ s2 := sameClock_sessions h1 _
        have h3 : SameClock σ s3 := sameClock_perf (h2.of_ringOnly (ringOnly_setRing s2 r _)) _
        refine .ite (hrefused _ _) (.ite (sameClock_badMacClose (hrefused _ _) _ _)
          (.ite (sameClock_finish h3 _ _ _) ?_))
        split
        · exact sameClock_finish h3 _ _ _
        · exact h3.of_ringOnly (ringOnly_setRing s3 r _)

theorem sameClock_fetchAll (h : SameClock σ s) (r n : Nat) : SameClock σ (fetchAll r n s) := by
  induction n generalizing s with
  | zero => exact h
  | succ n ih =>
    unfold fetchAll
    split
    · exact h
    · exact .ite (ih (sameClock_fetchOne ((sameClock_idleUse h).of_ringOnly (ringOnly_setRing _ r _)) _ _)) h

theorem sameClock_fetchEvery (h : SameClock σ s) : SameClock σ (fetchEvery s) :=
  h.foldl (fun _ _ h => sameClock_fetchAll h _ _) _

theorem sameClock_ppsTick (h : SameClock σ s) : SameClock σ (ppsTick s) :=
  .ite h (.ite (sameClock_wrs h rfl) (.ite (sameClock_wrs h rfl) h))

end

end Sys2Proof

/-! PROOFS. The clock's rate: one tick with nothing to run, and TIME_RATE's limit. -/

namespace Sys2Proof

open Sys2Proof.Machine

/-! ## One tick (R154, R155) -/

/-- Past the increment and the tick counter, the rest of a tick leaves the clock as it is. -/
theorem sameClock_tick (s : State) :
    SameClock (wr (setFineTime s (fineTime s + increment s)) HID.TICKS 0 (rd s HID.TICKS 0 + 1)) (tick s) := by
  unfold tick
  extract_lets s1 s2 s3 s4
  have h2 : SameClock (wr s1 HID.TICKS 0 (rd s HID.TICKS 0 + 1)) s2 := sameClock_perf (.refl _) _
  have h3 : SameClock (wr s1 HID.TICKS 0 (rd s HID.TICKS 0 + 1)) s3 := .ite (sameClock_perf h2 _) h2
  have h4 : SameClock (wr s1 HID.TICKS 0 (rd s HID.TICKS 0 + 1)) s4 := .ite (sameClock_perf h3 _) h3
  exact sameClock_fetchEvery (sameClock_ppsTick (sameClock_flushOver h4))

theorem rd_ticks_tick (s : State) : rd (tick s) HID.TICKS 0 = (rd s HID.TICKS 0 + 1) % 2 ^ HID.TICKS.w :=
  ((sameClock_tick s).fields HID.TICKS (by decide) 0).trans (rd_wr_same _ _ _ _)

theorem sameClock_setFineTime (s : State) (t : Nat) : SameClock s (setFineTime s t) := sameClock_wrs (.refl s) rfl

theorem rd_increment_tick {s : State} {f : Fld} (hf : f ∈ clockFields) (hne : HID.TICKS.id ≠ f.id) :
    rd (tick s) f 0 = rd s f 0 :=
  calc rd (tick s) f 0 = _ := (sameClock_tick s).fields f hf 0
    _ = rd (setFineTime s (fineTime s + increment s)) f 0 := rd_wr_id _ _ _ _ _ _ hne
    _ = rd s f 0 := (sameClock_setFineTime s _).fields f hf 0

theorem rd_ns_tick_lt (s : State) : rd (tick s) TIM_NOW.NS 0 < 1000000000 := by
  obtain ⟨-, -, hns, -⟩ := rd_setFineTime s (fineTime s + increment s)
  rw [(keeps_tick s).time TIM_NOW.NS 0 rfl, hns]
  exact Nat.mod_lt _ (by decide)

theorem step_of_empty {s : State} (h : s.pending = []) : step s = .next (idle s) := by
  unfold step
  rw [h]

/-- Settles O2: an empty queue leaves one tick to run, or before the release of the reset nothing. -/
theorem emptyQueueStepIsOneTick : Obligations.EmptyQueueStepIsOneTick := by
  intro s hq
  rw [step_of_empty hq]
  refine ⟨fun hpor => congrArg _ (if_neg (Bool.eq_false_iff.1 hpor)), fun hpor hspan => ⟨tick s,
    congrArg _ (if_pos hpor), fineTime_tick hspan, rd_ns_tick_lt s, rd_ticks_tick s, ?_, ?_⟩⟩
  · exact rd_increment_tick (by decide) (by decide)
  · exact rd_increment_tick (by decide) (by decide)

/-! ## The limit of TIME_RATE (R155, R158) -/

theorem clampDelta_cases (s : State) (d : Int) : 0 ≤ clampDelta s d + (deltaLimit s : Nat) ∧
    clampDelta s d ≤ (deltaLimit s : Nat) ∧ (d.natAbs ≤ deltaLimit s → clampDelta s d = d) ∧
    ((deltaLimit s : Nat) < d → clampDelta s d = (deltaLimit s : Nat)) ∧
    (d < -((deltaLimit s : Nat) : Int) → clampDelta s d = -((deltaLimit s : Nat) : Int)) := by
  unfold clampDelta
  omega

theorem rd_popFront (s : State) (r : Nat) (f : Fld) (i : Nat) : rd (popFront s r) f i = rd s f i := by
  unfold popFront
  dsimp only
  split <;> rfl

theorem clampDelta_popFront (s : State) (r : Nat) (d : Int) : clampDelta (popFront s r) d = clampDelta s d := by
  unfold clampDelta deltaLimit
  rw [rd_popFront]

/-- A completed command that writes DELTA, and else only fields off the clock and off time, leaves local time, DELTA as
written and BASE. -/
theorem finish_wrs_delta (s : State) (r : Nat) (a : Acc) (p : Reply) (v : Nat) {l : List (Fld × Nat × Nat)}
    (hclock : l.all (fun e => offClock e.1) = true) (htime : l.all (fun e => offTime e.1) = true) :
    fineTime (finish (wrs (popFront s r) ((TIM_INCR.DELTA, 0, v) :: l)) r a p) = fineTime s ∧
      rd (finish (wrs (popFront s r) ((TIM_INCR.DELTA, 0, v) :: l)) r a p) TIM_INCR.DELTA 0 = v % 2 ^ 64 ∧
      rd (finish (wrs (popFront s r) ((TIM_INCR.DELTA, 0, v) :: l)) r a p) TIM_INCR.BASE 0 = rd s TIM_INCR.BASE 0 := by
  rw [wrs_cons]
  have hkeeps : Keeps s (finish (wrs (wr (popFront s r) TIM_INCR.DELTA 0 v) l) r a p) :=
    keeps_finish (((keeps_popFront (.refl s)).wr rfl).wrs htime)
  have hsame : SameClock (wr (popFront s r) TIM_INCR.DELTA 0 v)
      (finish (wrs (wr (popFront s r) TIM_INCR.DELTA 0 v) l) r a p) :=
    sameClock_finish (sameClock_wrs (.refl _) hclock) _ _ _
  refine ⟨hkeeps.fineTime_eq, ?_, ?_⟩
  · exact (hsame.fields TIM_INCR.DELTA (by decide) 0).trans (rd_wr_same _ _ _ _)
  · rw [hsame.fields TIM_INCR.BASE (by decide) 0, rd_wr_id _ _ _ _ _ _ (by decide), rd_popFront]

theorem wrapI_lt (w : Nat) (x : Int) : wrapI w x < 2 ^ w := by
  have hpos : (0 : Int) < 2 ^ w := Int.pow_pos (by decide)
  have hlt := Int.emod_lt_of_pos x hpos
  unfold wrapI
  rw [Int.toNat_lt (Int.emod_nonneg x hpos.ne')]
  exact_mod_cast hlt

/-- Settles O12: the two completions of TIME_RATE write the value as the limit holds it. -/
theorem rateIsHeldAtItsLimit : Obligations.RateIsHeldAtItsLimit := by
  refine ⟨completes_timeRate_clamped, clampDelta_cases, fun r s a h => ?_⟩
  rw [← Nat.mod_eq_of_lt (wrapI_lt 64 (clampDelta s _)), ← clampDelta_popFront s r.val]
  by_cases hin : clampDelta (popFront s r.val) (sext 64 (opd a 0x10 8)) = sext 64 (opd a 0x10 8)
  · rw [hin]
    exact ⟨_, completes_timeRate r s a h hin, finish_wrs_delta _ _ _ _ _ rfl rfl⟩
  · exact ⟨_, completes_timeRate_clamped r s a h hin, finish_wrs_delta _ _ _ _ _ rfl rfl⟩

end Sys2Proof

/-! PROOFS. Landings: from their opening to the end of their drain, and the commands that join their cargo. -/

namespace Sys2Proof

open Sys2Proof.Machine

/-! ## Commands (R183 to R186, R189, R195) -/

theorem completes_landingOpen (n : Nat) : Completes .landingOpen opLandingOpen (fun s _ => lndFree s = some n)
    (fun s a => wrs (freeSlot s n) [(LND_SLOT.ID, n, opd a 0x10 2), (LND_SLOT.STATE, n, 1), (LND_SLOT.OWNER, n, a.role),
      (LND_SLOT.HANDLE, n, a.handle)]) (fun _ _ => rOk) :=
  completes_of (fun _ _ => rfl) fun _ _ _ _ h => by simp [-wrs_cons, -wrs_nil, opLandingOpen, lndId, h]

/-- A landing whose time leaves the lead of R189 takes that time as it is asked for. -/
theorem startsWait_landingSubmit (n : Nat) : StartsWait .landingSubmit opLandingSubmit
    (fun s a => slotOf s (opd a 0x10 2) = some n ∧ opdBit a 0x12 0 = false ∧ localTime s + 655360000 ≤ submitTime a)
    (fun s a => wrs s [(LND_SLOT.STATE, n, 2), (LND_SLOT.ASAP, n, 0), (LND_SLOT.TIME, n, timeField (submitTime a)),
      (LND_SLOT.DIGEST, n, cargoDigest s n)]) (fun _ a => [opd a 0x10 2]) :=
  startsWait_of (fun _ _ => rfl) fun _ _ _ _ ⟨hn, hp, ht⟩ => by
    simp [-wrs_cons, -wrs_nil, opLandingSubmit, lndId, landLead, b2n, hn, hp, Nat.not_lt.2 ht]

theorem completes_landingSubmit_late (n : Nat) : Completes .landingSubmit opLandingSubmit
    (fun s a => slotOf s (opd a 0x10 2) = some n ∧ opdBit a 0x12 0 = false ∧ submitTime a < localTime s + 655360000)
    (fun s _ => bump s LND_STAT.LATE 0) (fun _ _ => ⟨.late, 0, none, false⟩) :=
  completes_of (fun _ _ => rfl) fun _ _ _ _ ⟨hn, hp, ht⟩ => by
    simp [opLandingSubmit, lndId, landLead, rStat, hn, hp, ht]

theorem completes_landingCancel (n : Nat) : Completes .landingCancel opLandingCancel
    (fun s a => slotOf s (opd a 0x10 2) = some n ∧ ctxBound s (opd a 0x10 2) = false)
    (fun s a => complete (waitsOn 0x21 [opd a 0x10 2]) ⟨.aborted, 0, none, false⟩ (freeSlot s n)) (fun _ _ => rOk) :=
  completes_of (fun _ _ => rfl) fun _ _ _ _ ⟨hn, hc⟩ => by simp [opLandingCancel, lndId, rStat, hn, hc]

theorem completes_landingQuery (n : Nat) : Completes .landingQuery opLandingQuery
    (fun s a => slotOf s (opd a 0x10 2) = some n ∧ rd s LND_SLOT.STATE n ≠ 4) (fun s _ => s)
    (fun s _ => ⟨.ok, 0, some (rd s LND_SLOT.STATE n + 2 ^ 8 * (rd s LND_SLOT.ITEMS n % 2 ^ 24)), false⟩) :=
  completes_of (fun _ _ => rfl) fun _ _ _ _ ⟨hn, hd⟩ => by simp [opLandingQuery, lndId, rData, hn, hd]

/-! ## Firing and draining (R178, R180, R190 to R192) -/

theorem insertSlot_eq_orderedInsert (lt : Nat → Nat → Bool) (n : Nat) (ns : List Nat) :
    insertSlot lt n ns = ns.orderedInsert (lt · ·) n := by
  induction ns with
  | nil => rfl
  | cons m t ih => rw [insertSlot, ih]; rfl

/-- Slots are put in order by an insertion sort, which loses and repeats none. -/
theorem sortSlots_perm (lt : Nat → Nat → Bool) (ns : List Nat) : (sortSlots lt ns).Perm ns := by
  have hsort : sortSlots lt ns = ns.insertionSort (lt · ·) :=
    congrArg (ns.foldr · []) (funext₂ (insertSlot_eq_orderedInsert lt))
  exact hsort ▸ ns.perm_insertionSort _

theorem acts_landingFire (bad : List (Nat × Nat)) {ns : List Nat} (hns : ns ≠ []) : Acts (.landingFire bad)
    (fun s => takeDue (sortSlots (timeLt s) ((slotsIn s 2).filter (lndDue s))) s = (s, ns))
    (fun s => fireGroup false bad s ns) :=
  .of_next (fun _ => rfl) fun _ h => by simp [h, hns]

theorem acts_generationDrained (bad : List (Nat × Nat)) : Acts (.generationDrained bad)
    (fun s => flag s LND_STATUS.OLD_LIVE 0 = true ∧ oldCount s = 0) (fun s => drainDone 0x11 bad s) :=
  .of_next (fun _ => rfl) fun _ ⟨hl, hc⟩ => by simp [hl, hc]

theorem acts_drainExpired (bad : List (Nat × Nat)) : Acts (.drainExpired bad)
    (fun s => flag s LND_STATUS.OLD_LIVE 0 = true ∧ oldCount s ≠ 0)
    (fun s => drainDone 0x12 bad (faultC 0x221 (bump
      { s with pkts := s.pkts.map (fun k => if k.gen != genNow s then { k with hwDrop := 0x17 } else k) }
      LND_STAT.EXPIRED 0))) :=
  .of_next (fun _ => rfl) fun _ ⟨hl, hc⟩ => by simp [hl, hc, markExpired]

/-- A group without a generational landing flips nothing: only its instant items take effect. -/
theorem fireGroup_of_instant {s : State} {ns : List Nat} (late : Bool) (bad : List (Nat × Nat))
    (h : ns.any (flag (tevFireDue s) LND_SLOT.GENL) = false) : fireGroup late bad s ns =
      (let u := tevFireDue s
       let ks := sortSlots (idLt u) ns
       let items := skipImages (groupItems bad u ks)
       let x := fireInst items (u, [])
       ks.foldl (fun t n => landFired t n ((tabGet x.2 (n, 0)).getD 0) late)
         (forEach (loadSites items) x.1 (fun k t => strobe raise true t k))) := by
  have hsorted : (sortSlots (idLt (tevFireDue s)) ns).any (flag (tevFireDue s) LND_SLOT.GENL) = false :=
    ((sortSlots_perm _ ns).any_eq).trans h
  unfold fireGroup
  simp only [hsorted, Bool.false_eq_true, if_false]

/-- Settles O26: each command and event by the lemma above for its case. -/
theorem landingsActFromOpenToDrain : Obligations.LandingsActFromOpenToDrain :=
  ⟨completes_landingOpen, startsWait_landingSubmit, completes_landingSubmit_late, completes_landingCancel,
    completes_landingQuery, fun bad _ hns => acts_landingFire bad hns, acts_generationDrained, acts_drainExpired,
    fun _ bad _ h => fireGroup_of_instant false bad h⟩

/-! ## Staging (R185, R316) -/

/-- Settles O36: each row is its opcode's dispatch, and none is SI_OPEN or REG_WRITE, which stage themselves. -/
theorem stagedCommandsJoinTheirLanding : Obligations.StagedCommandsJoinTheirLanding := by
  unfold Obligations.StagedCommandsJoinTheirLanding
  and_intros <;> exact stages_of (fun _ _ => rfl) (by decide) (by decide)

end Sys2Proof

/-! PROOFS. The receive path of a lane: its front end, its converter slices, its measurements, and HOLD with its banks. -/

namespace Sys2Proof

open Sys2Proof.Machine

/-! ## Front end (R199) -/

theorem acts_clipWindowEnd (l : Lane) {n : Nat} (hn : n ≤ 255) : Acts (.clipWindowEnd l n)
    (fun s => receiving s l.val = true) (fun s => wr s SHF_RX_AFE.CLIP l.val n) :=
  .of_next (fun _ => rfl) fun _ h => by simp [h, hn, Nat.not_lt.2 hn]

theorem acts_clipWindowEnd_over (l : Lane) {n : Nat} (hn : 255 < n) : Acts (.clipWindowEnd l n)
    (fun s => receiving s l.val = true)
    (fun s => wrs s [(SHF_RX_AFE.CLIP, l.val, 255), (SHF_RX_EVT.CLIP, l.val, 1)]) :=
  .of_next (fun _ => rfl) fun _ h => by simp [h, hn, Nat.min_eq_right hn.le]

/-- Settles O13: a window writes its count, and one that counts more than CLIP can hold the event bit too. -/
theorem clippingIsHeldAndFlagged : Obligations.ClippingIsHeldAndFlagged := by
  intro l n s hr
  refine ⟨fun hn => ⟨_, acts_clipWindowEnd l hn s hr, ?_, ?_⟩, fun hn => ⟨_, acts_clipWindowEnd_over l hn s hr, ?_, ?_, ?_⟩⟩
  · rw [rd_wr_same]
    exact Nat.mod_eq_of_lt (Nat.lt_succ_of_le hn)
  · exact onlyAt_wrs (l := [(SHF_RX_AFE.CLIP, l.val, n)]) (by simp)
  · exact (rd_wr_id _ SHF_RX_EVT.CLIP _ _ _ _ (by decide)).trans (rd_wr_same _ _ _ _)
  · exact rd_wr_same _ _ _ _
  · exact onlyAt_wrs (by simp)

/-! ## Converter slices (R201 to R203) -/

theorem acts_sliceFail_active (l : Lane) (j : Fin 136) : Acts (.sliceFail l j)
    (fun s => rd s SHF_RX_SLICE.STATE (l.val * 136 + j.val) = 0) (fun s => sliceFailed s l.val j.val) :=
  .of_next (fun _ => rfl) fun _ h => if_pos (beq_iff_eq.2 h)

theorem acts_sliceFail_spare (l : Lane) (j : Fin 136) : Acts (.sliceFail l j)
    (fun s => rd s SHF_RX_SLICE.STATE (l.val * 136 + j.val) = 1 ∧ flag s HID.POWER_UP 0 = true ∧
      rd s GLB_BOOT_STAT.STAGE 0 < 3)
    (fun s => faultC (0x400 + l.val / 8) (sliceMark s l.val j.val)) :=
  .of_next (fun _ => rfl) fun _ ⟨h, hp, hb⟩ => by simp [powerUpTest, h, hp, hb]

/-- With a SPARE slice left for each position that waits, before and after the mark, gleaning is asked for none and the
lane goes on: the position waits for its successor. -/
theorem sliceFailed_of_spare {s : State} {l j : Nat} (h : (slicesDue s l).length < (slicesIn s l 1).length)
    (hm : (slicesDue (sliceMark s l j) l).length < (slicesIn (sliceMark s l j) l 1).length) :
    sliceFailed s l j = faultC (0x400 + l / 8)
      (wr (sliceMark s l j) HID.SLICE_POS (l * 136 + j) (rd s SHF_RX_SLICE.POS (l * 136 + j) + 1)) := by
  simp [sliceFailed, Nat.not_le.2 h, Nat.not_le.2 hm]

theorem rd_sliceMark (s : State) (l j : Nat) : rd (sliceMark s l j) SHF_RX_SLICE.STATE (l * 136 + j) = 3 ∧
    rd (sliceMark s l j) SHF_RX_SLICE.FAIL (l * 136 + j) = 1 ∧
    rd (sliceMark s l j) SHF_RX_SLICE.POS (l * 136 + j) = 0xFF ∧
    rd (sliceMark s l j) SHF_RX_EVT.SLICE_FAIL l = 1 := by
  unfold sliceMark
  refine ⟨?_, ?_, ?_, ?_⟩ <;> simp (disch := decide) only [wrs_cons, wrs_nil, rd_wr_id, rd_wr_same] <;> rfl

theorem onlyAt_sliceMark (s : State) (l j : Nat) : OnlyAt [(SHF_RX_SLICE.STATE, l * 136 + j),
    (SHF_RX_SLICE.FAIL, l * 136 + j), (SHF_RX_SLICE.POS, l * 136 + j), (SHF_RX_ADC.FAILED, l),
    (SHF_RX_EVT.SLICE_FAIL, l)] s (sliceMark s l j) := onlyAt_wrs (by simp)

/-- Settles O28: the fault is raised in the state of the mark, to which only the waiting position is added. -/
theorem failedSliceIsMarkedAndReported : Obligations.FailedSliceIsMarkedAndReported := by
  intro l j s hs h hm
  obtain ⟨hstate, hfail, hpos, hevt⟩ := rd_sliceMark s l.val j.val
  have hwait : OnlyAt [(HID.SLICE_POS, l.val * 136 + j.val)] (sliceMark s l.val j.val) (wr (sliceMark s l.val j.val)
      HID.SLICE_POS (l.val * 136 + j.val) (rd s SHF_RX_SLICE.POS (l.val * 136 + j.val) + 1)) :=
    onlyAt_wrs (l := [(HID.SLICE_POS, _, _)]) (by simp)
  refine ⟨_, (acts_sliceFail_active l j s hs).trans (congrArg _ (sliceFailed_of_spare h hm)),
    (rd_wr_id _ _ _ _ _ _ (by decide)).trans hstate, (rd_wr_id _ _ _ _ _ _ (by decide)).trans hfail,
    (rd_wr_id _ _ _ _ _ _ (by decide)).trans hpos, (rd_wr_id _ _ _ _ _ _ (by decide)).trans hevt, ?_⟩
  exact ((onlyAt_sliceMark _ _ _).mono (by simp)).trans (hwait.mono (by simp))

theorem acts_sliceSwap (l : Lane) : Acts (.sliceSwap l) (fun s => laneSt s l.val ≠ laneHOLD)
    (fun s => calKick (sliceRotate ((slicesDue s l.val).foldl (sliceReplace l.val) s) l.val) (l.val / 8)) :=
  .of_next (fun _ => rfl) fun _ h => if_neg (mt beq_iff_eq.1 h)

/-! ## Quality and capture (R212 to R214) -/

theorem acts_qualUpdate_loaded (l : Lane) (snr : BitVec 12) (pm : Nat) (sc sn : BitVec 8) :
    Acts (.qualUpdate l snr pm sc sn)
      (fun s => receiving s l.val = true ∧ rd s SHF_LANE_STAT.FORMAT l.val = 2)
      (fun s => wrs s [(SHF_RX_QUAL.SNR, l.val, snr.toNat), (SHF_RX_QUAL.MIN_SC, l.val, sc.toNat),
        (SHF_RX_QUAL.MIN_SC_SNR, l.val, sn.toNat)]) :=
  .of_next (fun _ => rfl) fun _ ⟨hr, hf⟩ => by rw [hr, hf]; rfl

theorem acts_qualUpdate (l : Lane) (snr : BitVec 12) (pm : Nat) (sc sn : BitVec 8) :
    Acts (.qualUpdate l snr pm sc sn)
      (fun s => receiving s l.val = true ∧ rd s SHF_LANE_STAT.FORMAT l.val ≠ 2)
      (fun s => wrs s [(SHF_RX_QUAL.SNR, l.val, snr.toNat), (SHF_RX_QUAL.PM_LOW, l.val, min pm 0xFFFF)]) :=
  .of_next (fun _ => rfl) fun _ ⟨hr, hf⟩ => by simp [-wrs_cons, -wrs_nil, hr, hf]

theorem acts_rxCaptureStart (l : Lane) : Acts (.rxCaptureStart l)
    (fun s => laneSt s l.val = laneLIVE ∧ captureFits s l.val = true)
    (fun s => wrs s [(SHF_RX_CAPTURE.STAT, l.val, 1), (HID.CAP_KIND, l.val, rd s SHF_RX_CAPTURE.KIND l.val)]) :=
  .of_next (fun _ => rfl) fun _ ⟨hl, hf⟩ => if_pos (by rw [hl, hf]; rfl)

/-- A histogram capture, of LEVEL or PATH_METRIC, writes every entry. -/
theorem acts_rxCaptureDone_histogram (l : Lane) (bins : List Nat) : Acts (.rxCaptureDone l bins)
    (fun s => rd s SHF_RX_CAPTURE.STAT l.val = 1 ∧ rd s HID.CAP_KIND l.val ≤ 1)
    (fun s => forEach (List.range 256) (wr s SHF_RX_CAPTURE.STAT l.val 2) (fun b t =>
      wr t SHF_RX_HISTBUF.VALUE (l.val * 256 + b) (min (bins.getD b 0) (2 ^ 32 - 1)))) :=
  .of_next (fun _ => rfl) fun _ ⟨hr, hk⟩ => by simp [captureEntry, hr, hk]

theorem acts_lossOfSignal (l : Lane) : Acts (.lossOfSignal l)
    (fun s => detects s l.val = true ∧ 3 ≤ laneSt s l.val ∧ laneSt s l.val ≤ 5)
    (fun s => wrs s [(SHF_RX_EVT.LOS, l.val, 1), (HID.LOS_NOW, l.val, 1)]) :=
  .of_next (fun _ => rfl) fun s ⟨hd, hlo, hhi⟩ => by
    have hacq : laneSt s l.val ≠ 2 := by omega
    have hrecv : 2 ≤ laneSt s l.val := by omega
    simp [-wrs_cons, -wrs_nil, hd, hhi, hacq, hrecv]

/-! ## HOLD (R204, R217 to R221, R244) -/

theorem receiving_of_laneLIVE {s : State} {l : Nat} (h : laneSt s l = laneLIVE) : receiving s l = true := by
  rw [receiving, h]; rfl

theorem holdable_of_laneLIVE {s : State} {l : Nat} (h : laneSt s l = laneLIVE) : holdable s l = true := by
  rw [holdable, h]; rfl

theorem acts_cdrLockLoss (l : Lane) (ab tp : Nat) (lv : Bool) : Acts (.cdrLockLoss l ab tp lv)
    (fun s => laneSt s l.val = laneLIVE)
    (fun s => enterHold (wrs s [(SHF_RX_EVT.LOL, l.val, 1), (SHF_RX_CDR.LOCK, l.val, 0)]) l.val ab tp lv) :=
  .of_next (fun _ => rfl) fun _ h => by rw [receiving_of_laneLIVE h, holdable_of_laneLIVE h]; rfl

theorem acts_holdTrigger (l : Lane) (db ab tp : Nat) (lv : Bool) : Acts (.holdTrigger l db ab tp lv)
    (fun s => laneSt s l.val = laneLIVE ∧ detects s l.val = true ∧ flag s HID.LOS_NOW l.val = false ∧
      rd s SHF_RX_HOLD_CFG.STEP_DB l.val ≠ 0 ∧ rd s SHF_RX_HOLD_CFG.STEP_DB l.val ≤ db)
    (fun s => enterHold s l.val ab tp lv) :=
  .of_next (fun _ => rfl) fun _ ⟨hl, hd, hs, h0, hdb⟩ => by simp [holdable_of_laneLIVE hl, hd, hs, h0, hdb]

theorem acts_holdFastReturn (l : Lane) (snr : BitVec 12) : Acts (.holdFastReturn l snr)
    (fun s => laneSt s l.val = laneHOLD ∧ flag s HID.HOLD_FAST l.val = true ∧
      rd s SHF_RX_HOLD_CFG.SNR_MIN l.val ≤ snr.toNat)
    (fun s => holdReturn s l.val SHF_RX_HOLD_STAT.FAST) :=
  .of_next (fun _ => rfl) fun _ ⟨hl, hf, hm⟩ => if_pos (by rw [hl, hf, decide_eq_true hm]; rfl)

theorem acts_holdFastReturn_low (l : Lane) (snr : BitVec 12) : Acts (.holdFastReturn l snr)
    (fun s => snr.toNat < rd s SHF_RX_HOLD_CFG.SNR_MIN l.val) (fun s => s) :=
  .of_next (fun _ => rfl) fun _ h => by simp [Nat.not_le.2 h]

theorem acts_holdFastTimeout (l : Lane) : Acts (.holdFastTimeout l)
    (fun s => laneSt s l.val = laneHOLD ∧ flag s HID.HOLD_FAST l.val = true)
    (fun s => holdLoad (wr s HID.HOLD_FAST l.val 0) l.val) :=
  .of_next (fun _ => rfl) fun _ ⟨hl, hf⟩ => if_pos (by rw [hl, hf]; rfl)

theorem acts_holdFullReturn (l : Lane) : Acts (.holdFullReturn l)
    (fun s => laneSt s l.val = laneHOLD ∧ flag s HID.HOLD_FAST l.val = false)
    (fun s => holdReturn s l.val SHF_RX_HOLD_STAT.FULL) :=
  .of_next (fun _ => rfl) fun _ ⟨hl, hf⟩ => if_pos (by rw [hl, hf]; rfl)

theorem acts_holdFail (l : Lane) : Acts (.holdFail l false)
    (fun s => laneSt s l.val = laneHOLD ∧ flag s HID.HOLD_FAST l.val = false)
    (fun s => startFor raise (bump (wr s SHF_LANE_STAT.REASON l.val 13) SHF_LANE_CNT.FAILS l.val) l.val 1 13) :=
  .of_next (fun _ => rfl) fun _ ⟨hl, hf⟩ => if_neg (by rw [hl, hf]; decide)

theorem acts_rxBankStore (l : Lane) (tp : Nat) : Acts (.rxBankStore l tp) (fun s => laneSt s l.val = laneLIVE)
    (fun s => bankStore s l.val tp) :=
  .of_next (fun _ => rfl) fun _ h => if_pos (beq_iff_eq.2 h)

/-- Settles O27: each event by the lemma above for its case; a snapshot is `bankStore` written out, and a DISCARD acts in
every state. -/
theorem receivePathAndHoldAct : Obligations.ReceivePathAndHoldAct :=
  ⟨⟨fun l _ => acts_clipWindowEnd l, fun l _ => acts_clipWindowEnd_over l, acts_sliceFail_active, acts_sliceFail_spare,
    acts_sliceSwap, acts_qualUpdate_loaded, acts_qualUpdate, acts_rxCaptureStart, acts_rxCaptureDone_histogram,
    acts_lossOfSignal⟩,
   acts_cdrLockLoss, acts_holdTrigger, acts_holdFastReturn, acts_holdFastReturn_low, acts_holdFastTimeout,
   acts_holdFullReturn, acts_holdFail, acts_rxBankStore, fun _ _ _ => rfl⟩

end Sys2Proof

/-! PROOFS. A sheaf's wake receiver and its synthesiser, and the transmit path of its lanes. -/

namespace Sys2Proof

open Sys2Proof.Machine

/-! ## Wake receiver (R215, R216) -/

/-- Forty bits start as a wake frame does, with its preamble and its sync byte (R215). -/
def WakeFramed (b : BitVec 40) : Prop := bitsOf b.toNat 32 8 = 0xAA ∧ bitsOf b.toNat 24 8 = 0xE5

theorem acts_wakeFrameRx_match (l : Lane) {b : BitVec 40} (hframed : WakeFramed b)
    (hcrc : crc8 (bitsOf b.toNat 8 16) 16 0 = bitsOf b.toNat 0 8) (hword : bitsOf b.toNat 8 16 ≠ 0) :
    Acts (.wakeFrameRx l b)
      (fun s => wakeListens s l.val = true ∧ rd s SHF_WAKE.WORD (l.val / 8) = bitsOf b.toNat 8 16 ∧
        rd s SHF_WAKE.SRC (l.val / 8) ≠ 0)
      (fun s => sheafWakeUp (bump (wr s SHF_WAKE_STAT.LAST_WORD (l.val / 8) (bitsOf b.toNat 8 16)) SHF_WAKE_STAT.MATCH
        (l.val / 8)) l.val 4) :=
  .of_next (fun _ => rfl) fun _ ⟨hl, hw, hsrc⟩ => by
    obtain ⟨hsync, haddr⟩ := hframed
    simp [hl, hsync, haddr, hcrc, hword, hw, hsrc]

theorem acts_wakeFrameRx_badCrc (l : Lane) {b : BitVec 40} (hframed : WakeFramed b)
    (hcrc : crc8 (bitsOf b.toNat 8 16) 16 0 ≠ bitsOf b.toNat 0 8) :
    Acts (.wakeFrameRx l b) (fun s => wakeListens s l.val = true) (fun s => bump s SHF_WAKE_STAT.BAD_CRC (l.val / 8)) :=
  .of_next (fun _ => rfl) fun _ hl => by
    obtain ⟨hsync, haddr⟩ := hframed
    simp [hl, hsync, haddr, hcrc]

theorem acts_sheafWakeActivity (l : Lane) : Acts (.sheafWakeActivity l)
    (fun s => wakeListens s l.val = true ∧ rd s SHF_WAKE.SRC (l.val / 8) ≠ 1) (fun s => sheafWakeUp s l.val 3) :=
  .of_next (fun _ => rfl) fun _ ⟨hl, hsrc⟩ => by simp [hl, hsrc]

/-- Activity on a sheaf that wakes already changes nothing: only a pattern may take its place. -/
theorem sheafWakeUp_activity_of_waking {s : State} {l : Nat} (hh : rd s PWR_DOM.HELD (sheafDom (l / 8)) = 0)
    (ht : rd s HID.DOM_TGT (sheafDom (l / 8)) = 1) : sheafWakeUp s l 3 = s := by
  simp [sheafWakeUp, hh, ht]

/-! ## Synthesiser (R224, R227, R244, R245) -/

theorem acts_synthCalDone (sh : Sheaf) : Acts (.synthCalDone sh) (fun s => synSt s sh.val = 2)
    (fun s => wr s SHF_SYN_STAT.STATE sh.val 3) :=
  .of_next (fun _ => rfl) fun _ h => if_pos (beq_iff_eq.2 h)

/-- A lock serves who waited for it, in this order: the lanes' attempts, the TX_ENABLEs, the sheaf's wake. -/
theorem acts_synthLocked (sh : Sheaf) (us : BitVec 16) : Acts (.synthLocked sh us) (fun s => synSt s sh.val = 3)
    (fun s =>
      let u := forEach (sheafLanes sh.val) (wrs s [(SHF_SYN_STAT.STATE, sh.val, 4), (SHF_SYN_STAT.LOCK_US, sh.val, us.toNat)])
        (fun l t => if flag t SHF_LANE_STAT.WAIT_SYNTH l then trnAcquire (wr t SHF_LANE_STAT.WAIT_SYNTH l 0) l else t)
      wakeLocked (u.running.foldl (txEnabled sh.val) u) sh.val) :=
  .of_next (fun _ => rfl) fun _ h => if_neg (by rw [h]; decide)

theorem acts_synthAttemptTimeout_retry (sh : Sheaf) : Acts (.synthAttemptTimeout sh)
    (fun s => synSt s sh.val = 3 ∧ rd s SHF_SYN_STAT.ATTEMPT sh.val < 3)
    (fun s => wrs s [(SHF_SYN_STAT.STATE, sh.val, 2),
      (SHF_SYN_STAT.ATTEMPT, sh.val, rd s SHF_SYN_STAT.ATTEMPT sh.val + 1)]) :=
  .of_next (fun _ => rfl) fun _ ⟨hst, hn⟩ => (if_neg (by rw [hst]; decide)).trans (if_pos hn)

theorem acts_synthAttemptTimeout_failed (sh : Sheaf) : Acts (.synthAttemptTimeout sh)
    (fun s => synSt s sh.val = 3 ∧ rd s SHF_SYN_STAT.ATTEMPT sh.val = 3 ∧ flag s HID.WAKE_SYN sh.val = false)
    (fun s => synthRaise (sqSheaf (wr s SHF_SYN_STAT.STATE sh.val 5) sh.val) sh.val) :=
  .of_next (fun _ => rfl) fun _ ⟨hst, hn, hw⟩ => by simp [hst, hn, hw]

theorem acts_synthLockLost (sh : Sheaf) : Acts (.synthLockLost sh true) (fun s => synSt s sh.val = 4)
    (fun s => synthRaise (synthLeft (bump (wrs s [(SHF_SYN_STAT.STATE, sh.val, 2), (SHF_SYN_STAT.ATTEMPT, sh.val, 1)])
      SHF_SYN_STAT.LOSSES sh.val) sh.val) sh.val) :=
  .of_next (fun _ => rfl) fun _ h => if_pos (beq_iff_eq.2 h)

/-- The mark of the line die's reference is not the synthesiser's state, so the writes are one list. -/
theorem acts_synthRefReturn (sh : Sheaf) : Acts (.synthRefReturn sh) (fun s => synSt s sh.val = 1)
    (fun s => wrs s [(HID.REF_LINE_LOST, 0, clrBit (rd s HID.REF_LINE_LOST 0) (sh.val / 8)),
      (SHF_SYN_STAT.STATE, sh.val, 2), (SHF_SYN_STAT.ATTEMPT, sh.val, 1)]) :=
  .of_next (fun _ => rfl) fun _ h =>
    if_pos (beq_iff_eq.2 ((rd_wr_id _ HID.REF_LINE_LOST SHF_SYN_STAT.STATE _ _ _ (by decide)).trans h))

/-! ## Transmit enable (R226, R227) -/

theorem completes_txEnable_off : Completes .txEnable opTxEnable (fun _ a => opdBit a 0x12 0 = false)
    (fun s a => forEach (maskLanes (opdB a 0x10) (opdB a 0x11)) s (fun l t => wr t SHF_TX_CTRL.EN l 0))
    (fun _ _ => rOk) :=
  completes_of (fun _ _ => rfl) fun _ _ _ _ h => by simp [opTxEnable, opSheaf, b2n, h]

/-- Until the synthesiser locks the command waits, with the fault count from which its timeout tells a raise since. -/
theorem startsWait_txEnable : StartsWait .txEnable opTxEnable
    (fun s a => opdBit a 0x12 0 = true ∧ synSt s (opdB a 0x10) ≠ 4)
    (fun s a => forEach (maskLanes (opdB a 0x10) (opdB a 0x11)) s
      (fun l t => wr t SHF_TX_CTRL.EN l (b2n (laneSt t l != laneFAILED))))
    (fun s a => [opdB a 0x10, opdB a 0x11, rd s HID.SYN_RAISED (opdB a 0x10)]) :=
  startsWait_of (fun _ _ => rfl) fun _ _ _ _ ⟨he, hs⟩ => by simp [opTxEnable, opSheaf, he, hs]

theorem acts_txEnableTimeout (r : Ring) (tag : BitVec 16) (a : Acc) (sh mask n : Nat) : Acts (.txEnableTimeout r tag)
    (fun s => s.running.find? (fun x => x.ring == r.val && x.acc.cmd.tag == tag.toNat && waitsOn 0x54 [] x)
      = some ⟨r.val, a, .waiting [sh, mask, n]⟩)
    (fun s =>
      let s1 := forEach (maskLanes sh mask) (bump s SHF_SYN_STAT.TIMEOUTS sh) (fun l t => wr t SHF_TX_CTRL.EN l 0)
      let s2 := if rd s HID.SYN_RAISED sh = n then faultK (0x480 + sh) s1 else s1
      finish (dropRun s2 r.val a.cmd.tag) r.val a ⟨.timeout, 0, none, false⟩) :=
  .of_next (fun _ => rfl) fun _ h => by simp [h, rStat]

/-! ## Wake pattern (R238) -/

/-- A WAKE_SEND that stops nothing waits for its lanes, with no frame counted and no reason yet. -/
theorem startsWait_wakeSend : StartsWait .wakeSend opWakeSend (fun _ a => opd a 0x14 2 ≠ 0 ∧ opdB a 0x11 ≠ 0)
    (fun s a => forEach (maskLanes (opdB a 0x10) (opdB a 0x11))
      (if synSt s (opdB a 0x10) == 0 then synthStart s (opdB a 0x10) else s) (fun l t =>
        wrs t [(HID.WAKE_JOB, l, 1), (HID.WAKE_WORD, l, opd a 0x12 2), (HID.STOP_ON_RX, l, b2n (opdBit a 0x16 0))]))
    (fun _ a => [opdB a 0x10, opdB a 0x11, 0, 0]) :=
  startsWait_of (fun _ _ => rfl) fun _ _ _ _ ⟨hd, hm⟩ => by
    simp [-wrs_cons, -wrs_nil, opWakeSend, opSheaf, wakeLanes, hd, hm]

theorem acts_wakeSendDurationEnd (l : Lane) (n : Nat) : Acts (.wakeSendDurationEnd l n)
    (fun s => flag s HID.WAKE_JOB l.val = true) (fun s => stopWake raise l.val 0 (some n) s) :=
  .of_next (fun _ => rfl) fun _ _ => rfl

theorem acts_wakeSendPartner (l : Lane) (n : Nat) : Acts (.wakeSendPartner l n)
    (fun s => flag s HID.WAKE_JOB l.val = true ∧ flag s HID.STOP_ON_RX l.val = true ∧ detects s l.val = true)
    (fun s => stopWake raise l.val 1 (some n) s) :=
  .of_next (fun _ => rfl) fun _ ⟨_, hs, hd⟩ => if_pos (by rw [hs, hd]; rfl)

/-! ## Training-transmit timeout (R235) -/

theorem acts_txTrainingTimeout (l : Lane) : Acts (.txTrainingTimeout l)
    (fun s => laneSt s l.val = laneTRAIN ∧ rd s SHF_LANE_STAT.MODE l.val ≠ 4 ∧ flag s SHF_TX_CTRL.EN l.val = true ∧
      flag s HID.TTX l.val = false ∧ rd s SHF_TX_STAT.ALS l.val ≠ 2)
    (fun s => bump (sqNow (wr s HID.TTX l.val 1) l.val) SHF_TX_STAT.TTX_CNT l.val) :=
  .of_next (fun _ => rfl) fun _ ⟨hl, hm, he, ht, ha⟩ => by simp [hl, hm, he, ht, ha]

/-! ## The transmit boundary (R226, R230, R232 to R234, R239) -/

theorem putShape_shapes (s : State) (l : Nat) (taps lut : List Int) : (putShape s l taps lut).shapes = s.shapes := by
  unfold putShape
  rw [forEach_same State.shapes fun _ _ => wr_shapes _ _ _ _, forEach_same State.shapes fun _ _ => wr_shapes _ _ _ _]

/-- Shaping put in force from the fixed set leaves what the partner asked for as it is. -/
theorem applyFixed_shapes (s : State) (l : Nat) : (applyFixed s l).shapes = s.shapes := by
  unfold applyFixed
  split
  · rw [wr_shapes, putShape_shapes]
  · rw [wr_shapes]

/-- A pending swing, with no APPLY and nothing accepted from the partner, is all that a boundary puts in force. -/
theorem txBoundary_swing {s : State} {l : Nat} (hp : flag s SHF_TX_SHAPE.PEND l = true)
    (ha : flag s HID.TX_APPLY l = false) (hs : tabGet s.shapes (l, 0) = none) : txBoundary s l =
      (let u := wrs s [(SHF_TX_CTRL.SWING_NOW, l, rd s SHF_TX_CTRL.SWING l), (SHF_TX_SHAPE.PEND, l, 0), (HID.TX_APPLY, l, 0)]
       wr u HID.SQ_OUT l (b2n (sqCause u l != 0))) := by
  simp [txBoundary, hp, ha, hs]

theorem txBoundary_applied {s : State} {l : Nat} (hp : flag s SHF_TX_SHAPE.PEND l = true)
    (ha : flag s HID.TX_APPLY l = true) (hf : fixedShape s l = true) (hs : s.shapes = []) : txBoundary s l =
      (let u := applyFixed (wrs s [(SHF_TX_CTRL.SWING_NOW, l, rd s SHF_TX_CTRL.SWING l), (SHF_TX_SHAPE.PEND, l, 0),
        (HID.TX_APPLY, l, 0)]) l
       wr u HID.SQ_OUT l (b2n (sqCause u l != 0))) := by
  simp [txBoundary, hp, ha, hf, hs, applyFixed_shapes]

theorem txSend_silent {s : State} {l : Nat} (blks : List PcsBlock) (h : sendsData (txBoundary s l) l = false) :
    txSend l blks s = txBoundary s l := by
  simp [txSend, h]

theorem acts_txBoundaryUpdate_swing (l : Lane) (blks : List PcsBlock) : Acts (.txBoundaryUpdate l blks)
    (fun s => sendsData (txBoundary s l.val) l.val = false ∧ flag s SHF_TX_SHAPE.PEND l.val = true ∧
      flag s HID.TX_APPLY l.val = false ∧ tabGet s.shapes (l.val, 0) = none)
    (fun s =>
      let u := wrs s [(SHF_TX_CTRL.SWING_NOW, l.val, rd s SHF_TX_CTRL.SWING l.val), (SHF_TX_SHAPE.PEND, l.val, 0),
        (HID.TX_APPLY, l.val, 0)]
      wr u HID.SQ_OUT l.val (b2n (sqCause u l.val != 0))) :=
  .of_next (fun _ => rfl) fun _ ⟨hd, hp, ha, hs⟩ => (txSend_silent blks hd).trans (txBoundary_swing hp ha hs)

theorem acts_txBoundaryUpdate_applied (l : Lane) (blks : List PcsBlock) : Acts (.txBoundaryUpdate l blks)
    (fun s => sendsData (txBoundary s l.val) l.val = false ∧ flag s SHF_TX_SHAPE.PEND l.val = true ∧
      flag s HID.TX_APPLY l.val = true ∧ fixedShape s l.val = true ∧ s.shapes = [])
    (fun s =>
      let u := applyFixed (wrs s [(SHF_TX_CTRL.SWING_NOW, l.val, rd s SHF_TX_CTRL.SWING l.val),
        (SHF_TX_SHAPE.PEND, l.val, 0), (HID.TX_APPLY, l.val, 0)]) l.val
      wr u HID.SQ_OUT l.val (b2n (sqCause u l.val != 0))) :=
  .of_next (fun _ => rfl) fun _ ⟨hd, hp, ha, hf, hs⟩ => (txSend_silent blks hd).trans (txBoundary_applied hp ha hf hs)

theorem acts_txBoundaryUpdate_native (l : Lane) (blks : List PcsBlock) : Acts (.txBoundaryUpdate l blks)
    (fun s => sendsData (txBoundary s l.val) l.val = true ∧ rd (txBoundary s l.val) SHF_LANE_STAT.FORMAT l.val = 1)
    (fun s => sendNative s (txBoundary s l.val) l.val blks) :=
  .of_next (fun _ => rfl) fun _ ⟨hd, hf⟩ => by simp [txSend, hd, hf]

theorem acts_txBoundaryUpdate_loaded (l : Lane) (blks : List PcsBlock) : Acts (.txBoundaryUpdate l blks)
    (fun s => sendsData (txBoundary s l.val) l.val = true ∧ rd (txBoundary s l.val) SHF_LANE_STAT.FORMAT l.val = 2)
    (fun s => sendLoaded (txBoundary s l.val) l.val blks) :=
  .of_next (fun _ => rfl) fun _ ⟨hd, hf⟩ => by simp [txSend, hd, hf]

/-- Settles O29: each command and event by the lemma above for its case; an APPLY acts in every state. -/
theorem wakeSynthesiserAndTransmitAct : Obligations.WakeSynthesiserAndTransmitAct :=
  ⟨⟨fun l _ hsync haddr => acts_wakeFrameRx_match l ⟨hsync, haddr⟩,
    fun l _ hsync haddr => acts_wakeFrameRx_badCrc l ⟨hsync, haddr⟩, acts_sheafWakeActivity,
    fun _ _ => sheafWakeUp_activity_of_waking⟩,
   ⟨acts_synthCalDone, acts_synthLocked, acts_synthAttemptTimeout_retry, acts_synthAttemptTimeout_failed,
    acts_synthLockLost, acts_synthRefReturn⟩,
   completes_txEnable_off, startsWait_txEnable, acts_txEnableTimeout, startsWait_wakeSend, acts_wakeSendDurationEnd,
   acts_wakeSendPartner, acts_txTrainingTimeout, fun _ _ _ => rfl, acts_txBoundaryUpdate_swing,
   acts_txBoundaryUpdate_applied, acts_txBoundaryUpdate_native, acts_txBoundaryUpdate_loaded⟩

end Sys2Proof

/-! PROOFS. Lanes that search, and lanes that train: each message of the partner in its phase, each measurement of this
side, and what ends training. -/

namespace Sys2Proof

open Sys2Proof.Machine

/-- What a command does, said for fewer states and by an equal state. -/
theorem Acts.of_acts {i : Instr} {H H' : State → Prop} {F F' : State → State} (ha : Acts i H F)
    (hH : ∀ s, H' s → H s) (hF : ∀ s, H' s → F s = F' s) : Acts i H' F' :=
  fun s h => (ha s (hH s h)).trans (congrArg _ (hF s h))

/-! ## The search (R247, R258) -/

theorem modeAllows_standard_of_nativeFam {m : Nat} (h : nativeFam m = true) : modeAllows m .standard = false := by
  rw [nativeFam_iff] at h
  exact beq_eq_false_iff_ne.2 (by omega)

theorem acts_formatFound_standard_mismatch (l : Lane) : Acts (.formatFound l .standard)
    (fun s => searching s l.val = true ∧ nativeFam (rd s SHF_LANE_STAT.MODE l.val) = true)
    (fun s => bump (wrs s [(SHF_LANE_STAT.FOUND, l.val, 1),
      (HID.SAW_FORMAT, l.val, setBit (rd s HID.SAW_FORMAT l.val) 1)]) SHF_LANE_CNT.MISMATCH l.val) :=
  (acts_formatFound_other l .standard).of_acts
    (fun _ ⟨hs, hm⟩ =>
      ⟨hs, by simp, fun h => beq_eq_false_iff_ne.1 (modeAllows_standard_of_nativeFam hm) h.2⟩)
    fun _ ⟨_, hm⟩ => by rw [modeAllows_standard_of_nativeFam hm]; rfl

theorem acts_listenActivity_next (l : Lane) : Acts (.listenActivity l)
    (fun s => laneSt s l.val = laneLISTEN ∧ sheafAwake s l.val = true ∧ detects s l.val = true ∧
      flag s SHF_LANE_STAT.EXHAUSTED l.val = false)
    (fun s => startAttempt raise s l.val (rd s SHF_LANE_STAT.ATTEMPT l.val + 1)) :=
  (acts_listenActivity l).of_acts (fun _ ⟨hl, ha, hd, _⟩ => ⟨hl, ha, hd⟩) fun _ ⟨_, _, _, he⟩ => by
    rw [if_neg (Bool.eq_false_iff.1 he)]

theorem acts_listenActivity_exhausted (l : Lane) : Acts (.listenActivity l)
    (fun s => laneSt s l.val = laneLISTEN ∧ sheafAwake s l.val = true ∧ detects s l.val = true ∧
      flag s SHF_LANE_STAT.EXHAUSTED l.val = true)
    (fun s => startAttempt raise s l.val 1) :=
  (acts_listenActivity l).of_acts (fun _ ⟨hl, ha, hd, _⟩ => ⟨hl, ha, hd⟩) fun _ ⟨_, _, _, he⟩ => by rw [if_pos he]

/-- Settles O30: each command and event by the lemma about its effect; activity takes the attempt that EXHAUSTED names. -/
theorem lanesAcquire : Obligations.LanesAcquire :=
  ⟨⟨completes_laneMode, completes_laneRestart⟩, acts_formatFound_training, acts_formatFound_standard,
    acts_formatFound_standard_mismatch, acts_acqTimeout, acts_backoffExpire, acts_listenActivity_next,
    acts_listenActivity_exhausted⟩

/-! ## Messages of the partner (R244, R249 to R257) -/

/-- Nothing of the frame but its message acts: its body is taken in `heard`, then training goes on and a frame goes out. -/
theorem trnRx_of_nextMessage {l : Lane} {h : TrnHdr} {msg : Nat} {bytes : List Byte} {p : Nat} {s : State}
    (hn : NextMessage l h msg bytes p s) (body : State → State) :
    trnRx l.val h msg bytes body s = trnShow (trnAdvance (body (heard l h s)) l.val) l.val := by
  obtain ⟨hex, hvalid, -, hnew, hack, hstep, hseen, -, hseq⟩ := hn
  have hfirst : wrs s [(HID.TRN_HEARD, l.val, 1), (SHF_RX_CDR.LOCK, l.val, 1)] = frameSeen l s := rfl
  simp [-wrs_cons, -wrs_nil, trnRx, heard, hfirst, hex, hvalid, hnew, hack, hstep, hseen, ← hseq]

theorem rd_phase_heard {l : Lane} {h : TrnHdr} {msg : Nat} {bytes : List Byte} {p : Nat} {s : State}
    (hn : NextMessage l h msg bytes p s) : rd (heard l h s) SHF_LANE_STAT.PHASE l.val = p := by
  obtain ⟨-, -, -, -, -, -, -, hphase, -⟩ := hn
  exact hphase

/-- A message that belongs to the phase it comes in takes effect. -/
theorem trnRx_inPhase {l : Lane} {h : TrnHdr} {msg : Nat} {bytes : List Byte} {p : Nat} {s : State}
    (hn : NextMessage l h msg bytes p s) (body : State → State) :
    trnRx l.val h msg bytes (inPhase p l.val body) s = trnShow (trnAdvance (body (heard l h s)) l.val) l.val := by
  rw [trnRx_of_nextMessage hn, inPhase, if_pos (beq_iff_eq.2 (rd_phase_heard hn))]

theorem acts_hello (l : Lane) (h : TrnHdr) (b : HelloBody) : Acts (.hello l h b)
    (NextMessage l h 1 (helloBytes b) 0)
    (fun s => trnShow (trnAdvance (takeHello l.val b (heard l h s)) l.val) l.val) :=
  .of_next (fun _ => rfl) fun _ hn => trnRx_inPhase hn _

theorem acts_report (l : Lane) (h : TrnHdr) (snr : Nat) (ok : Bool) (tier : Nat) : Acts (.report l h snr ok tier)
    (NextMessage l h 2 (reportBytes snr ok tier) 1)
    (fun s => trnShow (trnAdvance (trnOn (wrs (heard l h s) [(HID.TRN_P_OK, l.val, b2n ok),
      (HID.TRN_P_TIER, l.val, min tier 0xFF)]) l.val tReportRx) l.val) l.val) :=
  .of_next (fun _ => rfl) fun _ hn => trnRx_inPhase hn _

theorem acts_shapeReq_accepted (l : Lane) (h : TrnHdr) (it : Nat) (taps lut : List Int) :
    Acts (.shapeReq l h it taps lut)
      (fun s => NextMessage l h 3 (shapeReqBytes it taps lut) 2 s ∧ shapeAccept (heard l h s) l.val taps lut = true)
      (fun s =>
        let u := trnOn (wr (heard l h s) HID.TRN_ACK_IT l.val it) l.val tAckOwed
        trnShow (trnAdvance (trnOff { u with shapes := tabPut u.shapes (l.val, 0) (taps, lut) } l.val tAckRefuse)
          l.val) l.val) :=
  .of_next (fun _ => rfl) fun _ ⟨hn, ha⟩ => by rw [trnRx_inPhase hn, if_pos ha]

theorem acts_shapeReq_refused (l : Lane) (h : TrnHdr) (it : Nat) (taps lut : List Int) :
    Acts (.shapeReq l h it taps lut)
      (fun s => NextMessage l h 3 (shapeReqBytes it taps lut) 2 s ∧ shapeAccept (heard l h s) l.val taps lut = false)
      (fun s => trnShow (trnAdvance (trnOn (bump (trnOn (wr (heard l h s) HID.TRN_ACK_IT l.val it) l.val tAckOwed)
        SHF_LANE_CNT.SHAPE_REFUSED l.val) l.val tAckRefuse) l.val) l.val) :=
  .of_next (fun _ => rfl) fun _ ⟨hn, ha⟩ => by rw [trnRx_inPhase hn, if_neg (by simp [ha])]

theorem acts_shapeAck_accept (l : Lane) (h : TrnHdr) (it : Nat) : Acts (.shapeAck l h it true)
    (fun s => NextMessage l h 4 (shapeAckBytes it true) 2 s ∧ trnHas (heard l h s) l.val tReqOut = true ∧
      it = rd (heard l h s) HID.TRN_ITER l.val + 1)
    (fun s => trnShow (trnAdvance (wr (heard l h s) HID.TRN_ACCEPTED l.val 1) l.val) l.val) :=
  .of_next (fun _ => rfl) fun _ ⟨hn, hout, hit⟩ => by
    rw [trnRx_inPhase hn, if_neg (by simp [hout, ← hit]), if_pos rfl]

theorem acts_shapeAck_refuse (l : Lane) (h : TrnHdr) (it : Nat) : Acts (.shapeAck l h it false)
    (fun s => NextMessage l h 4 (shapeAckBytes it false) 2 s ∧ trnHas (heard l h s) l.val tReqOut = true ∧
      it = rd (heard l h s) HID.TRN_ITER l.val + 1)
    (fun s => trnShow (trnAdvance (iterEnd (heard l h s) l.val 0) l.val) l.val) :=
  .of_next (fun _ => rfl) fun _ ⟨hn, hout, hit⟩ => by
    rw [trnRx_inPhase hn, if_neg (by simp [hout, ← hit]), if_neg Bool.false_ne_true]

theorem acts_shapeDone (l : Lane) (h : TrnHdr) (snr : Nat) : Acts (.shapeDone l h snr)
    (NextMessage l h 5 (shapeDoneBytes snr) 2)
    (fun s => trnShow (trnAdvance (trnOn (heard l h s) l.val tDoneRx) l.val) l.val) :=
  .of_next (fun _ => rfl) fun _ hn => trnRx_inPhase hn _

theorem acts_bits (l : Lane) (h : TrnHdr) (seg : Fin 2) (tier : Nat) (b : List Nat) : Acts (.bits l h seg tier b)
    (NextMessage l h 6 (bitsBytes seg.val tier b) 3)
    (fun s => trnShow (trnAdvance (takeBits l.val seg.val tier b (heard l h s)) l.val) l.val) :=
  .of_next (fun _ => rfl) fun _ hn => trnRx_inPhase hn _

/-- SWITCH is taken from T2 on. -/
theorem acts_switch_of_phase {l : Lane} {h : TrnHdr} {last f t p : Nat} (hp : 2 ≤ p) : Acts (.switch l h last f t)
    (NextMessage l h 7 (switchBytes last f t) p)
    (fun s => trnShow (trnAdvance (trnOn (wr (heard l h s) HID.TRN_LAST l.val last) l.val tSwitchRx) l.val) l.val) :=
  .of_next (fun _ => rfl) fun _ hn => by
    rw [trnRx_of_nextMessage hn, if_pos (by rwa [rd_phase_heard hn])]

theorem acts_switch (l : Lane) (h : TrnHdr) (last f t : Nat) : Acts (.switch l h last f t)
    (fun s => NextMessage l h 7 (switchBytes last f t) 2 s ∨ NextMessage l h 7 (switchBytes last f t) 3 s)
    (fun s => trnShow (trnAdvance (trnOn (wr (heard l h s) HID.TRN_LAST l.val last) l.val tSwitchRx) l.val) l.val) :=
  fun s hn => hn.elim (acts_switch_of_phase (by decide) s) (acts_switch_of_phase (by decide) s)

theorem acts_abort_next (l : Lane) (h : TrnHdr) (reason : Nat) : Acts (.abort l h reason)
    (fun s => exchanging s l.val = true ∧ trnValid h 0xA (bytesOf [reason]) = true ∧
      h.seq = (rd s HID.TRN_RX l.val + 1) % 65536)
    (fun s => trnFail (wr s HID.TRN_HEARD l.val 1) l.val 12) :=
  .of_next (fun _ => rfl) fun _ ⟨hex, hv, hq⟩ => by
    rw [if_neg (by simp [hex, hv]), if_pos (by simp [← hq])]

theorem acts_idle (l : Lane) (h : TrnHdr) (p : Nat) : Acts (.idle l h) (NextMessage l h 0 [] p)
    (fun s => trnShow (trnAdvance (heard l h s) l.val) l.val) :=
  .of_next (fun _ => rfl) fun _ hn => trnRx_of_nextMessage hn _

/-- A frame whose marker or CRC is wrong is no frame, whatever its message. -/
theorem trnRx_of_not_valid {h : TrnHdr} {msg : Nat} {bytes : List Byte} (hv : trnValid h msg bytes = false) (l : Nat)
    (body : State → State) (s : State) : trnRx l h msg bytes body s = s :=
  if_pos (by simp [hv])

theorem acts_idle_not_valid (l : Lane) {h : TrnHdr} (hv : trnValid h 0 [] = false) :
    Acts (.idle l h) (fun _ => True) (fun s => s) :=
  .of_next (fun _ => rfl) fun s _ => trnRx_of_not_valid hv _ _ s

/-- The newest message goes out until it is acknowledged, and an IDLE with its number after. -/
theorem trnShow_of_message {s : State} {l : Nat} {m : Nat × List Byte} (hex : exchanging s l = true)
    (hm : tabGet s.trnMsgs (l, 0) = some m) :
    trnShow s l = if rd s HID.TRN_SEQ l = rd s HID.TRN_ACKED l then trnEmit s l 0 (rd s HID.TRN_SEQ l) []
      else trnEmit s l m.1 (rd s HID.TRN_SEQ l) m.2 := by
  simp [trnShow, hex, hm]

/-! ## Measurements (R254 to R256) -/

theorem acts_probeComplete (l : Lane) (snr : Nat) {tier : Nat} (ht : tier ≤ 4) : Acts (.probeComplete l snr tier)
    (fun s => laneSt s l.val = laneTRAIN ∧ rd s SHF_LANE_STAT.PHASE l.val = 1 ∧ trnHas s l.val tProbe = false)
    (fun s =>
      let ok := decide (rd s SHF_TRN_CFG.AUTO_SNR (l.val / 8) ≤ snr)
      trnShow (trnAdvance (trnSend (trnOn (trnOn (wrs s [(HID.TRN_OWN, l.val, min snr 4095 + 4096 * b2n ok),
        (HID.TRN_OWN_TIER, l.val, tier)]) l.val tProbe) l.val tReportTx) l.val 2 (reportBytes snr ok tier))
        l.val) l.val) :=
  .of_next (fun _ => rfl) fun _ ⟨hl, hp, hno⟩ => by rw [if_neg (by simp [hl, hp, hno]), if_pos ht]

theorem acts_shapeMeasureDone (l : Lane) (snr : Nat) : Acts (.shapeMeasureDone l snr)
    (fun s => laneSt s l.val = laneTRAIN ∧ rd s SHF_LANE_STAT.PHASE l.val = 2 ∧ trnHas s l.val tReqOut = true ∧
      flag s HID.TRN_ACCEPTED l.val = true)
    (fun s => trnShow (trnAdvance (iterEnd (wr s HID.TRN_SNR l.val (min snr 4095)) l.val
      ((snr : Int) - (rd s HID.TRN_SNR l.val : Int))) l.val) l.val) :=
  .of_next (fun _ => rfl) fun _ ⟨hl, hp, hout, hacc⟩ => if_neg (by simp [hl, hp, hout, hacc])

theorem acts_loadMeasureDone (l : Lane) (b : List Nat) : Acts (.loadMeasureDone l b)
    (fun s => laneSt s l.val = laneTRAIN ∧ rd s SHF_LANE_STAT.PHASE l.val = 3 ∧ trnHas s l.val tBitsWant = false)
    (fun s => trnShow (trnAdvance (trnOn { s with bits := tabPut s.bits (l.val, otherBank s l.val) (b.take 255) }
      l.val tBitsWant) l.val) l.val) :=
  .of_next (fun _ => rfl) fun _ ⟨hl, hp, hno⟩ => if_neg (by simp [hl, hp, hno])

/-! ## The end of training (R248, R252, R257, R260) -/

/-- The reason a phase's timeout gives: 4 to 7 for T0 to T3, which exchange frames, and 8 for T4. -/
theorem acts_trainPhaseTimeout (l : Lane) : Acts (.trainPhaseTimeout l) (fun s => laneSt s l.val = laneTRAIN)
    (fun s => trnFail s l.val
      (if rd s SHF_LANE_STAT.PHASE l.val ≤ 3 then 4 + rd s SHF_LANE_STAT.PHASE l.val else 8)) :=
  .of_next (fun _ => rfl) fun _ h => if_pos (beq_iff_eq.2 h)

theorem acts_trainPhaseTimeout_exchange (l : Lane) : Acts (.trainPhaseTimeout l)
    (fun s => laneSt s l.val = laneTRAIN ∧ rd s SHF_LANE_STAT.PHASE l.val ≤ 3)
    (fun s => trnFail s l.val (4 + rd s SHF_LANE_STAT.PHASE l.val)) :=
  (acts_trainPhaseTimeout l).of_acts (fun _ h => h.1) fun _ h => by rw [if_pos h.2]

theorem acts_trainPhaseTimeout_confirm (l : Lane) : Acts (.trainPhaseTimeout l)
    (fun s => laneSt s l.val = laneTRAIN ∧ rd s SHF_LANE_STAT.PHASE l.val = 4)
    (fun s => trnFail s l.val 8) :=
  (acts_trainPhaseTimeout l).of_acts (fun _ h => h.1) fun _ ⟨_, hp⟩ => by rw [if_neg (by omega)]

theorem acts_trainTotalTimeout (l : Lane) : Acts (.trainTotalTimeout l) (fun s => laneSt s l.val = laneTRAIN)
    (fun s => trnFail s l.val 11) :=
  .of_next (fun _ => rfl) fun _ h => if_pos (beq_iff_eq.2 h)

theorem confirmPass_eq_true {s : State} {l cws sym : Nat} (hlock : flag s SHF_FEC_STAT.LOCK l = true)
    (hsym : sym * 2 ^ rd s SHF_TRN_CFG.CONFIRM_LOG (l / 8) ≤ 544 * cws) : confirmPass s l cws sym 0 = true := by
  simp [confirmPass, hlock, hsym]

theorem confirmPass_eq_false_of_uncorr {unc : Nat} (h : unc ≠ 0) (s : State) (l cws sym : Nat) :
    confirmPass s l cws sym unc = false := by
  simp [confirmPass, h]

theorem acts_confirmWindowEnd_live (l : Lane) (cws us sym : Nat) : Acts (.confirmWindowEnd l cws sym 0 us)
    (fun s => flag s HID.LANE_CONFIRM l.val = true ∧ laneSt s l.val = laneACQUIRE ∧
      flag s SHF_FEC_STAT.LOCK l.val = true ∧ sym * 2 ^ rd s SHF_TRN_CFG.CONFIRM_LOG (l.val / 8) ≤ 544 * cws)
    (fun s => setLane raise (bump (wrs s [(HID.LANE_CONFIRM, l.val, 0), (SHF_RX_CDR.LOCK, l.val, 1)])
      SHF_LANE_CNT.LIVE_ENTRIES l.val) l.val laneLIVE 0) :=
  .of_next (fun _ => rfl) fun _ ⟨hc, hacq, hlock, hsym⟩ => by
    rw [if_neg (by simp [hc]), if_pos (confirmPass_eq_true hlock hsym)]
    exact congrArg (setLane raise · l.val laneLIVE 0) (if_neg (by rw [hacq]; decide))

theorem acts_confirmWindowEnd_uncorr (l : Lane) (cws us sym : Nat) {unc : Nat} (hu : unc ≠ 0) :
    Acts (.confirmWindowEnd l cws sym unc us) (fun s => flag s HID.LANE_CONFIRM l.val = true)
      (fun s => failAttempt raise s l.val 8) :=
  .of_next (fun _ => rfl) fun s hc => by
    rw [if_neg (by simp [hc]), if_neg (by simp [confirmPass_eq_false_of_uncorr hu])]

/-- Settles O31: each message, measurement and end of a window by the lemma above for its case. -/
theorem lanesTrain : Obligations.LanesTrain :=
  ⟨⟨acts_hello, acts_report, acts_shapeReq_accepted, acts_shapeReq_refused, acts_shapeAck_accept, acts_shapeAck_refuse,
    acts_shapeDone, acts_bits, acts_switch, acts_abort_next, acts_idle, fun l _ => acts_idle_not_valid l,
    fun _ _ _ => trnShow_of_message⟩,
   ⟨fun l snr _ => acts_probeComplete l snr, acts_shapeMeasureDone, acts_loadMeasureDone⟩,
   acts_trainPhaseTimeout_exchange, acts_trainPhaseTimeout_confirm, acts_trainTotalTimeout, acts_confirmWindowEnd_live,
   fun l cws us sym _ => acts_confirmWindowEnd_uncorr l cws us sym⟩

end Sys2Proof

/-! PROOFS. One step with a command in the queue. -/

namespace Sys2Proof

open Sys2Proof.Machine

/-- Settles O1: the queue's front decides the step. -/
theorem stepRunsTheFrontCommand : Obligations.StepRunsTheFrontCommand := fun c rest s h => by
  unfold step
  rw [h]

end Sys2Proof

/-! PROOFS. Line coding: markers, FEC lock, windows and codewords of a receiving lane, and the codes of the transmit side. -/

namespace Sys2Proof

open Sys2Proof.Machine

/-! ## Markers and lock (R272 to R276) -/

theorem amRead_native {s : State} {l : Nat} {m : List Byte} {unc : Bool} (hm : amOk m unc = true)
    (hf : rd s SHF_LANE_STAT.FORMAT l ≠ 3) : amRead s l m unc = some (leAt m 8 1 % 8, leAt m 0xA 2) := by
  simp [amRead, isStd, hm, hf]

theorem acts_alignmentMarkerRx_native (l : Lane) {m : List Byte} {unc : Bool} (skew : Nat) (hm : amOk m unc = true) :
    Acts (.alignmentMarkerRx l m unc skew)
      (fun s => receiving s l.val = true ∧ rd s SHF_LANE_STAT.FORMAT l.val ≠ 3) (fun s =>
        deskew (wrs s [(SHF_FEC_STAT.AM_LANE, l.val, leAt m 8 1 % 8), (SHF_FEC_STAT.AM_COUNT, l.val, leAt m 0xA 2),
          (SHF_FEC_STAT.SKEW, l.val, min skew 4095), (SHF_FEC_STAT.HELD, l.val, 0)]) l.val (leAt m 8 1 % 8)
          (decide (3000 < skew))) :=
  .of_next (fun _ => rfl) fun s ⟨hr, hf⟩ => by
    simp [-wrs_cons, -wrs_nil, amRead_native hm hf, hr, skewLimit, isStd, hf]

theorem acts_alignmentMarkerRx_standard (l : Lane) (m : List Byte) (unc : Bool) (skew : Nat) :
    Acts (.alignmentMarkerRx l m unc skew)
      (fun s => receiving s l.val = true ∧ rd s SHF_LANE_STAT.FORMAT l.val = 3) (fun s =>
        match Config.stdMarker m unc with
        | none => s
        | some (am, n) => deskew (wrs s [(SHF_FEC_STAT.AM_LANE, l.val, am), (SHF_FEC_STAT.AM_COUNT, l.val, n),
          (SHF_FEC_STAT.SKEW, l.val, min skew 4095), (SHF_FEC_STAT.HELD, l.val, 0)]) l.val am
          (decide (Config.stdSkew < skew))) :=
  .of_next (fun _ => rfl) fun s ⟨hr, hf⟩ => by
    cases hm : Config.stdMarker m unc <;> simp [-wrs_cons, -wrs_nil, amRead, skewLimit, isStd, hr, hf, hm]

theorem acts_fecLock (l : Lane) (held : Bool) : Acts (.fecLock l held) (fun s => receiving s l.val = true)
    (fun s => wrs s [(SHF_FEC_STAT.LOCK, l.val, 1), (SHF_FEC_STAT.HELD, l.val, b2n (held && laneSt s l.val == laneHOLD)),
      (SHF_RX_CDR.LOCK, l.val, 1)]) :=
  .of_next (fun _ => rfl) fun _ hr => if_pos hr

theorem acts_fecLockLoss_live (l : Lane) (ab tp : Nat) (lv : Bool) : Acts (.fecLockLoss l ab tp lv)
    (fun s => flag s SHF_FEC_STAT.LOCK l.val = true ∧ laneSt s l.val = laneLIVE)
    (fun s => enterHold (bump (wr (windowReset (wrs s [(SHF_FEC_STAT.LOCK, l.val, 0), (SHF_FEC_STAT.HELD, l.val, 0)]) l.val)
      SHF_FEC_EVT.LOCK_LOST l.val 1) SHF_FEC_CNT.LOCK_LOSS l.val) l.val ab tp lv) :=
  .of_next (fun _ => rfl) fun s ⟨hl, hs⟩ => by
    rw [if_neg (by simp [hl]), if_pos (holdable_of_laneLIVE hs)]

/-! ## Windows and codewords (R281 to R284) -/

theorem fecWindow_of_full {s : State} {l : Nat} (hl : flag s SHF_FEC_STAT.LOCK l = true)
    (hn : 2 ^ rd s SHF_FEC_CFG.WIN_LOG2 l ≤ rd s HID.FEC_WIN_CW l) : fecWindow s l =
      (let s1 := windowReset (wrs s [(SHF_FEC_WIN.SER_PPB, l, serPpb s l), (SHF_FEC_WIN.TAIL, l, rd s HID.FEC_WIN_TAIL l),
        (SHF_FEC_WIN.UNCORR_SEEN, l, rd s HID.FEC_WIN_UNC l)]) l
       if rd s SHF_FEC_CFG.DEG_PPB l ≤ serPpb s l then
         faultC (0x5C0 + l / 8) (wrs s1 [(SHF_FEC_WIN.DEG, l, 1), (SHF_FEC_EVT.DEG, l, 1)])
       else if 2 * serPpb s l < rd s SHF_FEC_CFG.DEG_PPB l then wr s1 SHF_FEC_WIN.DEG l 0 else s1) := by
  have hf : fecWindowFull s l = true := by simp [fecWindowFull, hl, hn]
  simp only [fecWindow, hf, Bool.not_true, Bool.false_eq_true, if_false]

theorem acts_fecWindowEnd_degraded (l : Lane) : Acts (.fecWindowEnd l)
    (fun s => flag s SHF_FEC_STAT.LOCK l.val = true ∧ 2 ^ rd s SHF_FEC_CFG.WIN_LOG2 l.val ≤ rd s HID.FEC_WIN_CW l.val ∧
      rd s SHF_FEC_CFG.DEG_PPB l.val ≤ serPpb s l.val)
    (fun s => faultC (0x5C0 + l.val / 8) (wrs (windowReset (wrs s [(SHF_FEC_WIN.SER_PPB, l.val, serPpb s l.val),
      (SHF_FEC_WIN.TAIL, l.val, rd s HID.FEC_WIN_TAIL l.val), (SHF_FEC_WIN.UNCORR_SEEN, l.val, rd s HID.FEC_WIN_UNC l.val)]) l.val)
      [(SHF_FEC_WIN.DEG, l.val, 1), (SHF_FEC_EVT.DEG, l.val, 1)])) :=
  .of_next (fun _ => rfl) fun _ ⟨hl, hn, hd⟩ => by rw [fecWindow_of_full hl hn]; exact if_pos hd

theorem acts_fecWindowEnd_good (l : Lane) : Acts (.fecWindowEnd l)
    (fun s => flag s SHF_FEC_STAT.LOCK l.val = true ∧ 2 ^ rd s SHF_FEC_CFG.WIN_LOG2 l.val ≤ rd s HID.FEC_WIN_CW l.val ∧
      2 * serPpb s l.val < rd s SHF_FEC_CFG.DEG_PPB l.val)
    (fun s => wr (windowReset (wrs s [(SHF_FEC_WIN.SER_PPB, l.val, serPpb s l.val),
      (SHF_FEC_WIN.TAIL, l.val, rd s HID.FEC_WIN_TAIL l.val), (SHF_FEC_WIN.UNCORR_SEEN, l.val, rd s HID.FEC_WIN_UNC l.val)]) l.val)
      SHF_FEC_WIN.DEG l.val 0) :=
  .of_next (fun _ => rfl) fun s ⟨hl, hn, hd⟩ => by
    have hlow : ¬ rd s SHF_FEC_CFG.DEG_PPB l.val ≤ serPpb s l.val := by omega
    rw [fecWindow_of_full hl hn]
    exact (if_neg hlow).trans (if_pos hd)

theorem b2n_one_le (n : Nat) : b2n (1 ≤ n) = if n = 0 then 0 else 1 := by
  cases n <;> simp [b2n]

theorem acts_codewordDecoded_corrected (l : Lane) {c : CwResult} (hc : c.uncorr = false) :
    Acts (.codewordDecoded l c) (fun s => flag s SHF_FEC_STAT.LOCK l.val = true) (fun s =>
      let n := min c.symbols 15
      let s0 := perfLane (perfLane s l.val 0x20 0 1) l.val 0x27 0 c.innerFlip
      let s1 := perfLane (stat (stat s0 SHF_FEC_CNT.CW_TOTAL l.val 1) SHF_FEC_CNT.INNER_FLIP l.val c.innerFlip) l.val 0x21 0 n
      let s2 := stat (stat (stat s1 SHF_FEC_HIST.COUNT (l.val * 16 + n) 1) SHF_FEC_CNT.SYM_CORR l.val n) SHF_FEC_CNT.BIT_CORR l.val c.bits
      windowAdd (stat s2 SHF_FEC_CNT.CW_CORR l.val (if n = 0 then 0 else 1)) l.val c) :=
  .of_next (fun _ => rfl) fun s hl => by simp only [hl, hc, b2n_one_le, Bool.not_true, Bool.false_eq_true, if_false]

theorem acts_codewordDecoded_uncorrectable (l : Lane) {c : CwResult} (hc : c.uncorr = true) :
    Acts (.codewordDecoded l c) (fun s => flag s SHF_FEC_STAT.LOCK l.val = true) (fun s =>
      let s0 := perfLane (perfLane s l.val 0x20 0 1) l.val 0x27 0 c.innerFlip
      let s1 := perfLane (stat (stat s0 SHF_FEC_CNT.CW_TOTAL l.val 1) SHF_FEC_CNT.INNER_FLIP l.val c.innerFlip) l.val 0x22 0 1
      windowAdd (wr (bump s1 SHF_FEC_CNT.CW_UNCORR l.val) SHF_FEC_EVT.UNCORR l.val 1) l.val c) :=
  .of_next (fun _ => rfl) fun s hl => by simp only [hl, hc, Bool.not_true, Bool.false_eq_true, if_false, if_true]

/-! ## Transcoding and interleaving (R264, R266) -/

@[simp] theorem length_natBits (n v : Nat) : (natBits n v).length = n := by simp [natBits]

theorem firstControl_le (l : List PcsBlock) : firstControl l ≤ 4 := by
  unfold firstControl
  cases h : (List.range 4).find? (fun j => !(l.getD j idleBlock).data) with
  | none => exact Nat.le_refl 4
  | some j => exact (List.mem_range.1 (List.mem_of_find?_eq_some h)).le

/-- Four blocks have 256 bits of payload: with the header 257, and less half a type byte for four marks again 257. -/
theorem length_transcode {l : List PcsBlock} (hl : l.length = 4) : (transcode l).length = 257 := by
  have hpay : (l.flatMap (fun b => natBits 64 b.payload.toNat)).length = 256 := by
    simp [List.length_flatMap, hl]
  have hc := firstControl_le l
  unfold transcode
  dsimp only
  split
  · simp only [List.length_cons, hpay]
  · rename_i h4
    have hlt : firstControl l < 4 := lt_of_le_of_ne hc (by simpa using h4)
    simp only [List.length_append, List.length_cons, List.length_map, List.length_take, List.length_drop, hpay, hl]
    omega

theorem interleave_cons (x y : Nat) (a b : List Nat) :
    interleave (x :: a) (y :: b) = natBits 10 x ++ natBits 10 y ++ interleave a b := by
  simp [interleave]

/-- Symbol i of either codeword stands in the i-th stretch of 20 bits, that of the first codeword before the other's. -/
theorem interleave_at (a b : List Nat) (i : Nat) (hab : a.length = b.length) (hi : i < a.length) :
    ((interleave a b).drop (20 * i)).take 20 = natBits 10 (a.getD i 0) ++ natBits 10 (b.getD i 0) := by
  induction a generalizing b i with
  | nil => exact absurd hi (Nat.not_lt_zero i)
  | cons x a ih =>
    obtain ⟨y, b, rfl⟩ := List.exists_cons_of_length_eq_add_one hab.symm
    have hlen : (natBits 10 x ++ natBits 10 y).length = 20 := by simp
    rw [interleave_cons]
    cases i with
    | zero => exact List.take_left' hlen
    | succ i =>
      rw [show 20 * (i + 1) = 20 + 20 * i by omega, ← List.drop_drop, List.drop_left' hlen]
      exact ih b i (Nat.succ.inj hab) (Nat.lt_of_succ_lt_succ hi)

/-! ## Inner code (R268) -/

theorem innerEncode_cons (r p : Nat) (u : Bool) (l : List Bool) : innerEncode r p (u :: l) =
    (let x1 := u != (bitOf r 0 != bitOf r 2)
     let y := innerEncode (r * 2 % 8 + b2n u) ((p + 1) % 15) l
     (y.1, y.2.1, if p == 0 then x1 :: (x1 != bitOf r 1) :: y.2.2 else x1 :: y.2.2)) := rfl

theorem phase_innerEncode (r p : Nat) (l : List Bool) (hp : p < 15) :
    (innerEncode r p l).2.1 = (p + l.length) % 15 := by
  induction l generalizing r p with
  | nil => exact (Nat.mod_eq_of_lt hp).symm
  | cons u l ih =>
    rw [innerEncode_cons, List.length_cons]
    dsimp only
    rw [ih _ _ (Nat.mod_lt _ (by decide))]
    omega

/-- One coded bit for each bit, and one more at each bit of phase 0. -/
theorem length_innerEncode (r p : Nat) (l : List Bool) (hp : p < 15) :
    (innerEncode r p l).2.2.length + (p + 14) / 15 = l.length + (p + l.length + 14) / 15 := by
  induction l generalizing r p with
  | nil => simp [innerEncode]
  | cons u l ih =>
    have hih := ih (r * 2 % 8 + b2n u) ((p + 1) % 15) (Nat.mod_lt _ (by decide))
    rw [innerEncode_cons, List.length_cons]
    dsimp only
    by_cases h0 : p = 0
    · subst h0
      rw [if_pos (beq_self_eq_true 0), List.length_cons, List.length_cons]
      omega
    · rw [if_neg (by simpa using h0), List.length_cons]
      omega

theorem innerEncode_blocks (r : Nat) {l : List Bool} (hl : l.length % 15 = 0) :
    (innerEncode r 0 l).2.1 = 0 ∧ (innerEncode r 0 l).2.2.length * 15 = l.length * 16 := by
  have hp := phase_innerEncode r 0 l (by decide)
  have hn := length_innerEncode r 0 l (by decide)
  omega

theorem innerEncode_append (r p : Nat) (l m : List Bool) : innerEncode r p (l ++ m) =
    (let x := innerEncode r p l
     let y := innerEncode x.1 x.2.1 m
     (y.1, y.2.1, x.2.2 ++ y.2.2)) := by
  induction l generalizing r p with
  | nil => rfl
  | cons u l ih =>
    simp only [List.cons_append, innerEncode_cons, ih]
    by_cases h0 : (p == 0) = true <;> simp [h0]

/-- Settles O32: each event and code by the lemma above for it; a clear acts in every state, the four levels are computed. -/
theorem lineCodingActs : Obligations.LineCodingActs :=
  ⟨⟨fun l _ _ skew hm => acts_alignmentMarkerRx_native l skew hm, acts_alignmentMarkerRx_standard, acts_fecLock,
    acts_fecLockLoss_live, acts_fecWindowEnd_degraded, acts_fecWindowEnd_good, fun _ => .of_next (fun _ => rfl) fun _ _ => rfl⟩,
   ⟨fun l _ hc => acts_codewordDecoded_corrected l hc, fun l _ hc => acts_codewordDecoded_uncorrectable l hc⟩,
   fun _ hl => length_transcode hl, interleave_at, fun r _ hl => innerEncode_blocks r hl, innerEncode_append,
   rfl, rfl, rfl, rfl⟩

end Sys2Proof

/-! PROOFS. Received frames at the channels of their port, and the commands of ports, channels and CAKs. -/

namespace Sys2Proof

open Sys2Proof.Machine

/-! ## Receive channels (R292, R293) -/

/-- Frame f passes the checks of the MAC of port p, which is UP, and is no MKPDU. -/
def MacPasses (s : State) (p : Port) (f : RxFrame) : Prop :=
  (portUp s p.val = true ∧ f.len ≤ rd s PRT_CFG.MAX_LEN p.val) ∧ f.codeErr = false ∧ 64 ≤ f.len ∧ f.fcsOk = true ∧
    f.mkpdu = false

/-- A frame that validates is delivered with its channel and AN. -/
theorem exec_macRxFrame_valid {s : State} {p : Port} {f : RxFrame} {c0 : Nat} {cs : List Nat} {a : Nat}
    (h : MacPasses s p f) (hcs : chansOf s p.val 1 = c0 :: cs) (hr : secCheck s (c0 :: cs) f = .valid a) :
    exec (.macRxFrame p f) s = .next (
      let c := (rxChan s (c0 :: cs) f).getD c0
      deliver (secValid s p.val c a f) p.val f (c + 8192 * (f.an % 4) + 32768) false) := by
  obtain ⟨hu, hc, hl, hf, hk⟩ := h
  rw [acts_macRxFrame_passed p hc hl hf hk s hu]
  unfold secRx
  dsimp only
  rw [hcs]
  dsimp only
  rw [hr]

/-- A frame that a check fails is counted by its cause, at its channel or the port's first, and discarded as VALIDATE
has it. -/
theorem exec_macRxFrame_failed {s : State} {p : Port} {f : RxFrame} {c0 : Nat} {cs : List Nat} {r : SecResult}
    (h : MacPasses s p f) (hcs : chansOf s p.val 1 = c0 :: cs) (hr : secCheck s (c0 :: cs) f = r)
    (hv : ∀ a, r ≠ .valid a) : exec (.macRxFrame p f) s = .next (
      let c := (rxChan s (c0 :: cs) f).getD c0
      if secDiscards s c r then secCount s p.val c r
      else deliver (secCount s p.val c r) p.val f (if f.tagged then c + 8192 * (f.an % 4) else c)
        (rd s MSC_CHAN.VALIDATE c == 1)) := by
  obtain ⟨hu, hc, hl, hf, hk⟩ := h
  rw [acts_macRxFrame_passed p hc hl hf hk s hu]
  unfold secRx
  dsimp only
  rw [hcs]
  dsimp only
  rw [hr]
  cases r with
  | valid a => exact absurd rfl (hv a)
  | late => rfl
  | notValid => rfl
  | noSa => rfl
  | untagged => rfl

theorem secCheck_untagged {f : RxFrame} (s : State) (cs : List Nat) (ht : f.tagged = false) :
    secCheck s cs f = .untagged := by
  simp [secCheck, ht]

theorem secCheck_noSa {s : State} {cs : List Nat} {f : RxFrame} {c : Nat} (ht : f.tagged = true)
    (hc : rxChan s cs f = some c) (ha : rxSa s c f.an = none) : secCheck s cs f = .noSa := by
  simp [secCheck, ht, hc, ha]

/-- The PN and the ICV decide over a frame of a known association, the PN first. -/
theorem secCheck_sa {s : State} {cs : List Nat} {f : RxFrame} {c a : Nat} (ht : f.tagged = true)
    (hc : rxChan s cs f = some c) (ha : rxSa s c f.an = some a) : secCheck s cs f =
      if f.pn < rd s MSC_SA.PN (2 * c + a) then .late else if f.icvOk then .valid a else .notValid := by
  cases hi : f.icvOk <;> simp [secCheck, ht, hc, ha, hi]

/-- Settles O34: each clause by the result of the frame's check and what its cause counts and discards. -/
theorem receivedFramesAreCheckedByTheirChannel : Obligations.ReceivedFramesAreCheckedByTheirChannel := by
  intro p f s c0 cs hu hcode hlen hfcs hk hmax hcs
  have hp : MacPasses s p f := ⟨⟨hu, hmax⟩, hcode, hlen, hfcs, hk⟩
  refine ⟨fun ht hv hc => ?_, fun ht c hc => ⟨fun ha hv => ?_, fun a ha => ?_⟩⟩
  · rw [exec_macRxFrame_failed hp hcs (secCheck_untagged s _ ht) (fun _ => SecResult.noConfusion), hc]
    simp [secDiscards, secCount, hv]
  · rw [exec_macRxFrame_failed hp hcs (secCheck_noSa ht hc ha) (fun _ => SecResult.noConfusion), hc]
    simp [secDiscards, secCount, hv]
  have hsa := secCheck_sa ht hc ha
  refine ⟨fun hpn hv => ?_, fun hpn hi hv => ?_, fun hpn hi => ?_, fun hpn hi hv => ?_⟩
  · rw [if_pos hpn] at hsa
    rw [exec_macRxFrame_failed hp hcs hsa (fun _ => SecResult.noConfusion), hc]
    simp [secDiscards, secCount, hv]
  · rw [if_neg (Nat.not_lt.2 hpn), hi, if_neg Bool.false_ne_true] at hsa
    rw [exec_macRxFrame_failed hp hcs hsa (fun _ => SecResult.noConfusion), hc]
    simp [secDiscards, secCount, hv]
  · rw [if_neg (Nat.not_lt.2 hpn), if_pos hi] at hsa
    rw [exec_macRxFrame_valid hp hcs hsa, hc]
    rfl
  · rw [if_neg (Nat.not_lt.2 hpn), hi, if_neg Bool.false_ne_true] at hsa
    rw [exec_macRxFrame_failed hp hcs hsa (fun _ => SecResult.noConfusion), hc]
    simp [secDiscards, secCount, hv, ht]

/-! ## Commands of ports and channels (R289, R292, R297, R298) -/

theorem completes_mscChanSet_bound : Completes .mscChanSet opMscChanSet (fun s a => rd s MSC_CHAN.STATE (opd a 0x10 2) = 1)
    (fun s a => wrs s [(MSC_CHAN.COFF, opd a 0x10 2, chanCoff a), (MSC_CHAN.VALIDATE, opd a 0x10 2, chanValidate a),
      (MSC_CHAN.WINDOW, opd a 0x10 2, opd a 0x20 4)]) (fun _ _ => rOk) :=
  completes_of (fun _ _ => rfl) fun _ _ _ _ h => congrArg (Ans.done · rOk) (if_pos (beq_iff_eq.2 h))

/-- A channel that is not BOUND is bound, and takes what a bound one may not change. -/
theorem completes_mscChanSet_new : Completes .mscChanSet opMscChanSet (fun s a => rd s MSC_CHAN.STATE (opd a 0x10 2) ≠ 1)
    (fun s a => wrs s [(MSC_CHAN.COFF, opd a 0x10 2, chanCoff a), (MSC_CHAN.VALIDATE, opd a 0x10 2, chanValidate a),
      (MSC_CHAN.WINDOW, opd a 0x10 2, opd a 0x20 4), (MSC_CHAN.STATE, opd a 0x10 2, 1), (MSC_CHAN.DIR, opd a 0x10 2, chanDir a),
      (MSC_CHAN.PORT, opd a 0x10 2, opd a 0x14 2), (MSC_CHAN.SCI, opd a 0x10 2, opd a 0x18 8),
      (HID.MSC_INC_SCI, opd a 0x10 2, b2n (opdBit a 0x12 5))]) (fun _ _ => rOk) :=
  completes_of (fun _ _ => rfl) fun _ _ _ _ h => congrArg (Ans.done · rOk) (if_neg (mt beq_iff_eq.1 h))

theorem completes_mscChanDel : Completes .mscChanDel opMscChanDel
    (fun s a => boundTo s (rd s MSC_CHAN.PORT (opd a 0x10 2)) 0 (opd a 0x10 2) = false)
    (fun s a => chanFree s (opd a 0x10 2)) (fun _ _ => rOk) :=
  completes_of (fun _ _ => rfl) fun _ _ _ _ h =>
    congrArg (fun t => Ans.done (chanFree t _) rOk) (if_neg (Bool.eq_false_iff.1 h))

/-- The transmit channel of a port whose participant starts takes what its MKA offers. -/
theorem run_mkaSet (r : Nat) (a : Acc) {s u : State} (hu : mkaStart (wrs s [(HID.MKA_CAK, opd a 0x10 2, opd a 0x12 2),
      (HID.MKA_PRIO, opd a 0x10 2, opdB a 0x14)]) (opd a 0x10 2) = u) : opMkaSet.run r a s =
    .done ((txChan u (opd a 0x10 2)).elim u fun c =>
      wrs u [(MSC_CHAN.COFF, c, bitsOf (opdB a 0x15) 0 2), (MSC_CHAN.ROLL, c, b2n (opdBit a 0x15 2))]) rOk := by
  simp only [opMkaSet, opPort, mkaSlot, hu]
  cases txChan u (opd a 0x10 2) <;> rfl

/-! ## CAKs (R299) -/

/-- Ports that use the slot start anew once the key is there; a key that does not open changes nothing. -/
theorem cakInstall_runs (r : Ring) (s : State) (a : Acc) (h : Runs opCakInstall s r a) : exec (.cakInstall r) s = .next (
    let s1 := popFront s r.val
    match openSecret r.val a (sliceOf a.cmd.buf 0x24 32) (sliceOf a.cmd.buf 0x44 16) with
    | none => finish s1 r.val a ⟨.invalid, 0, none, false⟩
    | some key =>
      let c : Cak := ⟨BitVec.ofNat 256 (leVal key), sliceOf a.cmd.buf 4 (opdBuf a 2 1)⟩
      let s2 := keyStep { s1 with caks := tabPut s1.caks (opdBuf a 0 2, 0) c }
      finish (audit ((cakUsers s1 (opdBuf a 0 2)).foldl mkaStart s2) 7 a.role a.cred a.handle 0x7E 0 (leBytes 2 (opdBuf a 0 2)))
        r.val a rOk) := by
  have hrun := h.dispatch_eq
  cases hk : openSecret r.val a (sliceOf a.cmd.buf 0x24 32) (sliceOf a.cmd.buf 0x44 16) with
  | none =>
    simp only [opCakInstall, hk] at hrun
    exact congrArg Host.Outcome.next hrun
  | some key =>
    simp only [opCakInstall, hk] at hrun
    exact congrArg Host.Outcome.next hrun

theorem completes_cakDelete : Completes .cakDelete opCakDelete
    (fun s a => (tabGet s.caks (opd a 0x10 2, 0)).isSome = true)
    (fun s a =>
      let s1 := keyStep { s with caks := tabDel s.caks (opd a 0x10 2, 0) }
      audit ((cakUsers s (opd a 0x10 2)).foldl mkaStop s1) 7 a.role a.cred a.handle 0x7F 0 (leBytes 2 (opd a 0x10 2)))
    (fun _ _ => rOk) :=
  completes_of (fun _ _ => rfl) fun _ _ _ _ h => if_neg (by simpa [Option.isSome_iff_ne_none] using h)

/-- Settles O35: the rows whose run has cases by the lemmas above, the others by their run. -/
theorem portAndMacsecOpcodesComplete : Obligations.PortAndMacsecOpcodesComplete := by
  refine ⟨completes_of (fun _ _ => rfl) fun _ _ _ _ _ => rfl, completes_of (fun _ _ => rfl) fun _ _ _ _ _ => rfl,
    completes_mscChanSet_bound, completes_mscChanSet_new, completes_mscChanDel,
    completes_of (fun _ _ => rfl) fun _ _ _ _ _ => rfl, completes_of (fun _ _ => rfl) fun _ _ _ _ _ => rfl,
    completes_of (fun _ _ => rfl) fun r s a _ _ => ?_, completes_of (fun _ _ => rfl) fun _ _ _ _ _ => rfl,
    cakInstall_runs, completes_cakDelete⟩
  rw [run_mkaSet r.val a rfl]
  dsimp only
  generalize mkaStart _ (opd a 0x10 2) = u
  cases txChan u (opd a 0x10 2) <;> rfl

end Sys2Proof

/-! PROOFS. The load context, and the commands of image slots and keys. -/

namespace Sys2Proof

open Sys2Proof.Machine

/-- When an opcode runs, its row leaves what the opcode's own rules answer. -/
theorem Runs.exec_eq {o : OpSpec} {s : State} {r : Ring} {a : Acc} {c : Instr} (h : Runs o s r a)
    (hc : exec c s = .next (dispatch o r.val s)) :
    exec c s = .next (answered a r.val (o.run r.val a (popFront s r.val))) := by
  rw [hc, h.dispatch_eq]

/-! ## The load context (R309 to R313) -/

theorem siOpen_host (r : Ring) (s : State) (a : Acc) (h : Runs opSiOpen s r a) (hs : opdB a 0x10 = 0) :
    exec (.siOpen r) s = .next (
      let s1 := popFront s r.val
      let x : SiCtx := ⟨a.handle, none, 0, opdBit a 0x11 0, r.val, [], none, [], none⟩
      finish (wrs { s1 with siCtx := some x } [(GLB_SI_STAT.CTX, 0, 1), (GLB_SI_STAT.SOURCE, 0, 0), (GLB_SI_STAT.LANDING, 0, 0)])
        r.val a rOk) := by
  obtain ⟨-, -, hst, -⟩ := id h
  rw [h.exec_eq rfl]
  simp only [opSiOpen, hst, hs, Bool.false_eq_true, if_false, beq_self_eq_true, if_true]
  rfl

/-- A load from flash waits for its slot to be read. -/
theorem siOpen_flash (r : Ring) (s : State) (a : Acc) (h : Runs opSiOpen s r a) (hs : opdB a 0x10 ≠ 0) :
    exec (.siOpen r) s = .next (
      let s1 := popFront s r.val
      let x : SiCtx := ⟨a.handle, none, opdB a 0x10, opdBit a 0x11 0, r.val, [], none, [], none⟩
      let s2 := wrs { s1 with siCtx := some x }
        [(GLB_SI_STAT.CTX, 0, 2), (GLB_SI_STAT.SOURCE, 0, opdB a 0x10), (GLB_SI_STAT.LANDING, 0, 0)]
      { s2 with running := s2.running ++ [⟨r.val, a, .waiting []⟩] }) := by
  obtain ⟨-, -, hst, -⟩ := id h
  have hs' : (opdB a 0x10 == 0) = false := beq_false_of_ne hs
  rw [h.exec_eq rfl]
  simp only [opSiOpen, hst, hs', Bool.false_eq_true, if_false]
  rfl

theorem siPut_runs (r : Ring) (s : State) (a : Acc) (x : SiCtx) (h : Runs opSiPut s r a)
    (hx : (popFront s r.val).siCtx = some x) : exec (.siPut r) s = .next (
      let s1 := popFront s r.val
      match ctxTake s1 { x with bytes := x.bytes ++ a.cmd.buf } with
      | .inr f => finish (ctxFail s1 x f) r.val a ⟨.invalid, f.1 + 256 * f.2, none, false⟩
      | .inl z => finish { cargoAddImage s1 x a with siCtx := some z } r.val a rOk) := by
  rw [h.exec_eq rfl]
  simp only [opSiPut, hx]
  cases ctxTake (popFront s r.val) { x with bytes := x.bytes ++ a.cmd.buf } <;> rfl

theorem siClose_runs (r : Ring) (s : State) (a : Acc) (x : SiCtx) (i : ImgHead) (h : Runs opSiClose s r a)
    (hx : (popFront s r.val).siCtx = some x) (hi : x.head = some i) : exec (.siClose r) s = .next (
      let s1 := popFront s r.val
      match imgCheckResult s1 x.landing.isSome i x.bodies with
      | .inr f => finish (ctxFail s1 x f) r.val a ⟨.invalid, f.1 + 256 * f.2, none, false⟩
      | .inl rs => finish (ctxPass (cargoAddImage s1 x a) x a i rs) r.val a rOk) := by
  rw [h.exec_eq rfl]
  simp only [opSiClose, hx, hi]
  cases imgCheckResult (popFront s r.val) x.landing.isSome i x.bodies <;> rfl

theorem completes_siAbort_none : Completes .siAbort opSiAbort (fun s _ => s.siCtx = none) (fun s _ => s) (fun _ _ => rOk) :=
  completes_of (fun _ _ => rfl) fun _ _ _ _ h => by simp only [opSiAbort, h]

/-- An SI_OPEN that still reads its slot ends ABORTED with the context. -/
theorem siAbort_held (r : Ring) (s : State) (a : Acc) (x : SiCtx) (h : Runs opSiAbort s r a)
    (hx : (popFront s r.val).siCtx = some x) : exec (.siAbort r) s = .next (
      finish (complete (waitsOn 0x40 []) ⟨.aborted, 0, none, false⟩ (ctxEnd (popFront s r.val) x)) r.val a rOk) := by
  rw [h.exec_eq rfl]
  simp only [opSiAbort, hx]
  rfl

/-! ## Image slots, keys and versions (R306, R307, R315) -/

theorem siSlotActive_read (r : Ring) (s : State) (a : Acc) (h : Runs (opSiSlotActive true) s r a) :
    exec (.siSlotActive r true) s = .next (
      let s1 := popFront s r.val
      match imgCheckAll s1 false (slotImage s1 (opdB a 0x10)) with
      | .inr f => finish (wrs s1 [(GLB_SI_STAT.REASON, 0, f.1), (GLB_SI_STAT.REGION, 0, f.2)]) r.val a
          ⟨.invalid, f.1 + 256 * f.2, none, false⟩
      | .inl _ => finish (keyStep (wr s1 HID.SI_ACTIVE_SLOT 0 (opdB a 0x10))) r.val a rOk) := by
  rw [h.exec_eq rfl]
  simp only [opSiSlotActive, if_true]
  cases imgCheckAll (popFront s r.val) false (slotImage (popFront s r.val) (opdB a 0x10)) <;> rfl

theorem siSlotActive_unread (r : Ring) (s : State) (a : Acc) (h : Runs (opSiSlotActive false) s r a) :
    exec (.siSlotActive r false) s = .next (
      finish (wrs (popFront s r.val) [(GLB_SI_STAT.REASON, 0, 6), (GLB_SI_STAT.REGION, 0, 0xFF)]) r.val a
        ⟨.invalid, 0xFF06, none, false⟩) :=
  h.exec_eq rfl

theorem siKeySet_verify (r : Ring) (s : State) (a : Acc) (h : Runs opSiKeySet s r a) (hk : opdB a 0x1D = 0) :
    exec (.siKeySet r) s = .next (
      let s1 := popFront s r.val
      if Config.onCurve a.cmd.buf = true then
        finish (audit (keyStep { s1 with siVerify := tabPut s1.siVerify (opdB a 0x1C, 0) a.cmd.buf }) 7 a.role a.cred a.handle 0x47 0
          (bytesOf [opdB a 0x1C, 0])) r.val a rOk
      else finish s1 r.val a ⟨.invalid, 0, none, false⟩) := by
  rw [h.exec_eq rfl]
  simp only [opSiKeySet, hk, beq_self_eq_true, if_true]
  cases Config.onCurve a.cmd.buf <;> rfl

theorem siKeySet_decrypt (r : Ring) (s : State) (a : Acc) (h : Runs opSiKeySet s r a) (hk : opdB a 0x1D ≠ 0) :
    exec (.siKeySet r) s = .next (
      let s1 := popFront s r.val
      match openSecret r.val a (a.cmd.buf.take 32) (a.cmd.buf.drop 32) with
      | some key =>
        finish (audit (keyStep { s1 with siDecrypt := tabPut s1.siDecrypt (opdB a 0x1C, 0) (BitVec.ofNat 256 (leVal key)) }) 7
          a.role a.cred a.handle 0x47 0 (bytesOf [opdB a 0x1C, opdB a 0x1D])) r.val a rOk
      | none => finish s1 r.val a ⟨.invalid, 0, none, false⟩) := by
  have hk' : (opdB a 0x1D == 0) = false := beq_false_of_ne hk
  rw [h.exec_eq rfl]
  simp only [opSiKeySet, hk', Bool.false_eq_true, if_false]
  cases openSecret r.val a (a.cmd.buf.take 32) (a.cmd.buf.drop 32) <;> rfl

theorem completes_siSvnCommit_held : Completes .siSvnCommit opSiSvnCommit
    (fun s _ => rd s GLB_SI_INFO.SVN 0 ≤ rd s HID.SI_MIN_SVN 0) (fun s _ => s) (fun _ _ => rOk) :=
  completes_of (fun _ _ => rfl) fun _ _ _ _ h => if_pos h

theorem completes_siSvnCommit_raised : Completes .siSvnCommit opSiSvnCommit
    (fun s _ => rd s HID.SI_MIN_SVN 0 < rd s GLB_SI_INFO.SVN 0)
    (fun s _ => keyStep (wr s HID.SI_MIN_SVN 0 (rd s GLB_SI_INFO.SVN 0))) (fun _ _ => rOk) :=
  completes_of (fun _ _ => rfl) fun _ _ _ _ h => if_neg (Nat.not_le.2 h)

/-- Settles O37: each command by the lemma above for its case; a slot write has one case. -/
theorem imageOpcodesComplete : Obligations.ImageOpcodesComplete :=
  ⟨⟨siOpen_host, siOpen_flash, siPut_runs, siClose_runs, completes_siAbort_none, siAbort_held⟩,
   completes_of (fun _ _ => rfl) fun _ _ _ _ _ => rfl, siSlotActive_read, siSlotActive_unread, siKeySet_verify,
   siKeySet_decrypt, completes_siSvnCommit_held, completes_siSvnCommit_raised⟩

end Sys2Proof

/-! PROOFS. The ends of the flights: what a program's operations and its deparser leave unchanged, and the order in which the
fate of a packet is settled. -/

namespace Sys2Proof

open Sys2Proof.Machine

/-! ## Operations of a step (R323, R327) -/

theorem vget_vput_other (v : Vec) {c x : Nat} (n : Nat) (h : c ≠ x) : vget (vput v c n) x = vget v x := by
  have hk : ((c, 0) : Key) ≠ (x, 0) := fun he => h (congrArg Prod.fst he)
  unfold vget vput
  by_cases hn : (n % 256 == 0) = true
  · rw [if_pos hn, tabGet_tabDel_other _ hk]
  · rw [if_neg hn, tabGet_tabPut_other _ _ hk]

theorem vget_foldl_vput_other (l : List (Nat × Nat)) (v : Vec) {x : Nat} (h : ∀ e ∈ l, e.1 ≠ x) :
    vget (l.foldl (fun u e => vput u e.1 e.2) v) x = vget v x := by
  induction l generalizing v with
  | nil => rfl
  | cons e l ih =>
    rw [List.foldl_cons, ih _ fun e' he' => h e' (List.mem_cons_of_mem e he'),
      vget_vput_other _ _ (h e List.mem_cons_self)]

theorem runChain_of_not_cond {v0 : Vec} {ps : List Bool} {c : AluChain} (fs : List Found) (v : Vec)
    (h : condHolds v0 ps c.cond = false) : (runChain v0 fs (v, ps) c).1 = v := by
  simp [runChain, h]

/-- An operation writes its destinations and the container of its carry bit, and no other. -/
theorem vget_runChain_other (v0 : Vec) (fs : List Found) (v : Vec) (ps : List Bool) (c : AluChain) {x : Nat}
    (hx : x ∉ c.units.map (·.2.2)) (hc : c.carryOut.all (fun e => e.1 != x) = true) :
    vget (runChain v0 fs (v, ps) c).1 x = vget v x := by
  cases hcond : condHolds v0 ps c.cond with
  | false => rw [runChain_of_not_cond fs v hcond]
  | true =>
    have hdst : ∀ l : List Nat, ∀ e ∈ (c.units.map (·.2.2)).zip l, e.1 ≠ x := fun l e he hex =>
      hx (hex ▸ (List.of_mem_zip he).1)
    unfold runChain
    rw [hcond, if_neg (by decide)]
    cases ho : c.carryOut with
    | none => exact vget_foldl_vput_other _ _ (hdst _)
    | some e =>
      rw [ho] at hc
      exact (vget_vput_other _ _ (bne_iff_ne.1 hc)).trans (vget_foldl_vput_other _ _ (hdst _))

/-! ## The frame a flight leaves (R325) -/

theorem getD_leBytes_zero (n o : Nat) : (leBytes n 0).getD o 0 = 0 := by
  induction n generalizing o with
  | zero => rfl
  | succ n ih =>
    cases o with
    | zero => rfl
    | succ o => exact ih o

theorem getD_append_zeros (d : List Byte) (n o : Nat) : (d ++ leBytes n 0).getD o 0 = d.getD o 0 := by
  induction d generalizing o with
  | nil => exact getD_leBytes_zero n o
  | cons b d ih =>
    cases o with
    | zero => rfl
    | succ o => exact ih o

theorem getD_listSet_other {α : Type} (d : List α) {i o : Nat} (x z : α) (h : i ≠ o) :
    (listSet d i x).getD o z = d.getD o z := by
  induction d generalizing i o with
  | nil => rfl
  | cons b d ih =>
    cases i with
    | zero =>
      cases o with
      | zero => exact absurd rfl h
      | succ o => rfl
    | succ i =>
      cases o with
      | zero => rfl
      | succ o => exact ih (fun he => h (congrArg (· + 1) he))

theorem getD_setByte_other (d : List Byte) {i o : Nat} (x : Nat) (h : i ≠ o) :
    (setByte d i x).getD o 0 = d.getD o 0 :=
  (getD_listSet_other _ _ _ h).trans (getD_append_zeros d _ o)

/-- Of a frame to which no header is put and from which none is taken, only the extracted bytes are rewritten. -/
theorem getD_deparse_other {f : Flight} (k : Pkt) {p : Parsed} (v : Vec) {o : Nat} (hi : f.insert = [])
    (hr : f.remove = 0) (ho : o ∉ p.taken.map (·.2)) : (deparse f k p v).getD o 0 = k.data.getD o 0 := by
  unfold deparse
  rw [hi, hr, List.drop_zero]
  show (p.taken.foldl (fun d e => setByte d e.2 (vget v e.1)) k.data).getD o 0 = _
  generalize k.data = d
  revert d ho
  induction p.taken with
  | nil => exact fun _ _ => rfl
  | cons e l ih =>
    intro ho d
    rw [List.map_cons, List.mem_cons, not_or] at ho
    rw [List.foldl_cons, ih ho.2, getD_setByte_other _ _ (Ne.symm ho.1)]

/-! ## Results and lookups of a flight (R324, R362, R363) -/

/-- A flight carries the hardware drop reason and the errors its lookups met into its results. -/
theorem flightRes_reports {s : State} {f : Flight} {egress : Bool} {k : Pkt} {r : FlightResult} {v : Vec}
    (h : flightRes s f egress k = (r, v)) : r.hwDrop = f.hwDrop ∧ r.poison = f.poison ∧ r.sramErr = f.sramErr := by
  obtain rfl : (flightRes s f egress k).1 = r := congrArg Prod.fst h
  exact ⟨rfl, rfl, rfl⟩

theorem flightLookups_clean (s : State) (g : Nat) (k : Pkt) {r : FlightResult} (hp : r.poison = [])
    (hs : r.sramErr = []) : (flightLookups s g k r).2 = false := by
  simp [flightLookups, hp, hs, sramHits, poisonHits]

/-! ## Ingress (R336 to R338) -/

/-- The flight of packet k, whose number is n, ends without poison with the results r and the vector v. -/
def FlightEnds (s : State) (f : Flight) (egress : Bool) (n : Nat) (k : Pkt) (r : FlightResult) (v : Vec) : Prop :=
  (pktOf s n = some k ∧ k.expired = false) ∧ flightRes s f egress k = (r, v) ∧ f.poison = [] ∧ f.sramErr = []

theorem FlightEnds.noPoison {s : State} {f : Flight} {egress : Bool} {n : Nat} {k : Pkt} {r : FlightResult} {v : Vec}
    (h : FlightEnds s f egress n k r v) (g : Nat) : (flightLookups s g k r).2 = false := by
  obtain ⟨-, hr, hp, hs⟩ := h
  obtain ⟨-, hrp, hrs⟩ := flightRes_reports hr
  exact flightLookups_clean s g k (hrp.trans hp) (hrs.trans hs)

/-- The steps of R336 at the end of an ingress flight, in their order. -/
theorem exec_ingressFlightEnd {s : State} {g : Gallery} {f : Flight} {n : Nat} {k : Pkt} {r : FlightResult} {v : Vec}
    (h : FlightEnds s f false n k r v) (hl : k.loc = .ingress g.val) : exec (.ingressFlightEnd g n f) s = .next (
      let s1 := (flightLookups s g.val k r).1
      if ingressReason s g.val r false k ≠ 0 then galDrop s1 g.val (ingressReason s g.val r false k) k
      else if r.drop % 256 ≠ 0 then galDrop s1 g.val (dropCode r) k
      else if r.punt = true ∧ r.copy = false then galPunt (losePkt s1 k) g.val r k
      else if r.recirc = true then recirculate s1 g.val r v k
      else setPkt (puntCopy s1 g.val r k) { carry k r with loc := .ingressReorder g.val }) := by
  have hpoison := h.noPoison g.val
  obtain ⟨⟨hk, he⟩, hr, -⟩ := h
  show execIngressFlightEnd g n f s = _
  unfold execIngressFlightEnd
  rw [hk]
  simp [hl, he, hr, hpoison]

theorem ingressReason_of_clean {s : State} {g : Nat} {r : FlightResult} {k : Pkt} (h : r.hwDrop = 0) :
    ingressReason s g r false k = recircReason s g r k := by
  simp [ingressReason, hwReason, h]

theorem hwReason_of_corrupt {r : FlightResult} (h : r.hwDrop = 2) : hwReason r false = 2 := by
  simp [hwReason, h]

theorem recircReason_of_none {r : FlightResult} (s : State) (g : Nat) (k : Pkt) (h : r.recirc = false) :
    recircReason s g r k = 0 := by
  simp [recircReason, h]

theorem recircReason_limit {s : State} {g : Nat} {r : FlightResult} {k : Pkt} (hr : r.recirc = true) (hp : 3 ≤ k.pass) :
    recircReason s g r k = 5 := by
  simp [recircReason, hr, hp]

/-- A packet that may have another pass is dropped only for a full recirculation queue. -/
theorem recircReason_pass {s : State} {g : Nat} {r : FlightResult} {k : Pkt} (hr : r.recirc = true) (hp : k.pass < 3) :
    recircReason s g r k = if 64 ≤ recircWaiting s g then 6 else 0 := by
  simp [recircReason, hr, Nat.not_le.2 hp]

theorem ingressFlightEnd_fate {s : State} {g : Gallery} {f : Flight} {n : Nat} {k : Pkt} {r : FlightResult} {v : Vec}
    (h : FlightEnds s f false n k r v) (hl : k.loc = .ingress g.val) :
    (f.hwDrop = 2 → exec (.ingressFlightEnd g n f) s = .next (galDrop (flightLookups s g.val k r).1 g.val 2 k)) ∧
    (f.hwDrop = 0 → r.recirc = true → 3 ≤ k.pass →
      exec (.ingressFlightEnd g n f) s = .next (galDrop (flightLookups s g.val k r).1 g.val 5 k)) ∧
    (f.hwDrop = 0 → r.recirc = true → k.pass < 3 → 64 ≤ recircWaiting s g.val →
      exec (.ingressFlightEnd g n f) s = .next (galDrop (flightLookups s g.val k r).1 g.val 6 k)) ∧
    (f.hwDrop = 0 → recircReason s g.val r k = 0 → r.drop % 256 ≠ 0 →
      exec (.ingressFlightEnd g n f) s = .next (galDrop (flightLookups s g.val k r).1 g.val (dropCode r) k)) ∧
    (f.hwDrop = 0 → recircReason s g.val r k = 0 → r.drop % 256 = 0 → r.punt = true →
      r.copy = false → exec (.ingressFlightEnd g n f) s = .next (galPunt (losePkt (flightLookups s g.val k r).1 k) g.val r k)) ∧
    (f.hwDrop = 0 → r.drop % 256 = 0 → r.punt = false → r.recirc = true → k.pass < 3 →
      recircWaiting s g.val < 64 → exec (.ingressFlightEnd g n f) s = .next (recirculate (flightLookups s g.val k r).1 g.val r v k)) ∧
    (f.hwDrop = 0 → r.drop % 256 = 0 → r.punt = false → r.recirc = false →
      exec (.ingressFlightEnd g n f) s = .next
        (setPkt (flightLookups s g.val k r).1 { carry k r with loc := .ingressReorder g.val })) := by
  have hhw : r.hwDrop = f.hwDrop := (flightRes_reports h.2.1).1
  rw [exec_ingressFlightEnd h hl]
  dsimp only
  refine ⟨fun hd => ?_, fun hd hr hp => ?_, fun hd hr hp hw => ?_, fun hd hr hn => ?_, fun hd hr hn hp hc => ?_,
    fun hd hn hp hr hs hw => ?_, fun hd hn hp hr => ?_⟩
  · have hi : ingressReason s g.val r false k = 2 := by simp [ingressReason, hwReason_of_corrupt (hhw.trans hd)]
    rw [hi, if_pos (by decide)]
  all_goals rw [ingressReason_of_clean (hhw.trans hd)]
  · rw [recircReason_limit hr hp, if_pos (by decide)]
  · rw [recircReason_pass hr hp, if_pos hw, if_pos (by decide)]
  · rw [if_neg (not_not.2 hr), if_pos hn]
  · rw [if_neg (not_not.2 hr), if_neg (not_not.2 hn), if_pos ⟨hp, hc⟩]
  · rw [recircReason_pass hr hs, if_neg (Nat.not_le.2 hw), if_neg (by decide), if_neg (not_not.2 hn), if_neg (by simp [hp]),
      if_pos hr]
  · rw [recircReason_of_none s g.val k hr, if_neg (by decide), if_neg (not_not.2 hn), if_neg (by simp [hp]), if_neg (by simp [hr])]
    simp [puntCopy, hp]

/-! ## Egress (R336, R337) -/

/-- The steps of R336 at the end of an egress flight, in their order; it has no other pass. -/
theorem exec_egressFlightEnd {s : State} {g : Gallery} {f : Flight} {n : Nat} {k : Pkt} {r : FlightResult} {v : Vec}
    (h : FlightEnds s f true n k r v) (hl : k.loc = .egress g.val) : exec (.egressFlightEnd g n f) s = .next (
      let s1 := (flightLookups s g.val k r).1
      if hwReason r false ≠ 0 then galDrop s1 g.val (hwReason r false) k
      else if portUp s1 k.outPort = false then galDrop s1 g.val 0x07 k
      else if r.drop % 256 ≠ 0 then galDrop s1 g.val (dropCode r) k
      else if r.punt = true ∧ r.copy = false then galPunt (losePkt s1 k) g.val r k
      else setPkt (puntCopy s1 g.val r k) { k with loc := .egressReorder g.val, len := r.len, data := r.frame, res := some r }) := by
  have hpoison := h.noPoison g.val
  obtain ⟨⟨hk, he⟩, hr, -⟩ := h
  show execEgressFlightEnd g n f s = _
  unfold execEgressFlightEnd
  rw [hk]
  simp [hl, he, hr, hpoison]

theorem egressFlightEnd_fate {s : State} {g : Gallery} {f : Flight} {n : Nat} {k : Pkt} {r : FlightResult} {v : Vec}
    (h : FlightEnds s f true n k r v) (hl : k.loc = .egress g.val) :
    (f.hwDrop = 2 → exec (.egressFlightEnd g n f) s = .next (galDrop (flightLookups s g.val k r).1 g.val 2 k)) ∧
    (f.hwDrop = 0 → portUp (flightLookups s g.val k r).1 k.outPort = false →
      exec (.egressFlightEnd g n f) s = .next (galDrop (flightLookups s g.val k r).1 g.val 0x07 k)) ∧
    (f.hwDrop = 0 → portUp (flightLookups s g.val k r).1 k.outPort = true → r.drop % 256 ≠ 0 →
      exec (.egressFlightEnd g n f) s = .next (galDrop (flightLookups s g.val k r).1 g.val (dropCode r) k)) ∧
    (f.hwDrop = 0 → portUp (flightLookups s g.val k r).1 k.outPort = true → r.drop % 256 = 0 → r.punt = false →
      exec (.egressFlightEnd g n f) s = .next (setPkt (flightLookups s g.val k r).1
        { k with loc := .egressReorder g.val, len := r.len, data := r.frame, res := some r })) := by
  have hhw : r.hwDrop = f.hwDrop := (flightRes_reports h.2.1).1
  have hclean : f.hwDrop = 0 → hwReason r false = 0 := fun hd => by simp [hwReason, hhw, hd]
  rw [exec_egressFlightEnd h hl]
  dsimp only
  refine ⟨fun hd => ?_, fun hd hu => ?_, fun hd hu hn => ?_, fun hd hu hn hp => ?_⟩
  · rw [hwReason_of_corrupt (hhw.trans hd), if_pos (by decide)]
  · rw [hclean hd, if_neg (by decide), if_pos hu]
  · rw [hclean hd, if_neg (by decide), if_neg (by simp [hu]), if_pos hn]
  · rw [hclean hd, if_neg (by decide), if_neg (by simp [hu]), if_neg (not_not.2 hn), if_neg (by simp [hp])]
    simp [puntCopy, hp]

/-! ## Expired packets (R192) -/

theorem ingressFlightEnd_expired {s : State} {g : Gallery} {n : Nat} {k : Pkt} (f : Flight) (hk : pktOf s n = some k)
    (he : k.expired = true) (hl : k.loc = .ingress g.val) : exec (.ingressFlightEnd g n f) s = .next (expire s k) := by
  show execIngressFlightEnd g n f s = _
  unfold execIngressFlightEnd
  rw [hk]
  simp [hl, he]

theorem egressFlightEnd_expired {s : State} {g : Gallery} {n : Nat} {k : Pkt} (f : Flight) (hk : pktOf s n = some k)
    (he : k.expired = true) (hl : k.loc = .egress g.val) : exec (.egressFlightEnd g n f) s = .next (expire s k) := by
  show execEgressFlightEnd g n f s = _
  unfold execEgressFlightEnd
  rw [hk]
  simp [hl, he]

/-- Settles O40: the fates of a flight by the order of R336's steps, and what operations and deparser leave unchanged. -/
theorem flightsEndByTheirDisposition : Obligations.FlightsEndByTheirDisposition :=
  ⟨fun _ _ _ _ _ _ _ hk hl he hp hs hr => ingressFlightEnd_fate ⟨⟨hk, he⟩, hr, hp, hs⟩ hl,
   fun _ _ _ _ _ _ _ hk hl he hp hs hr => egressFlightEnd_fate ⟨⟨hk, he⟩, hr, hp, hs⟩ hl,
   fun _ _ f _ _ hk he => ⟨ingressFlightEnd_expired f hk he, egressFlightEnd_expired f hk he⟩,
   fun v0 fs v ps c => ⟨runChain_of_not_cond fs v, fun _ => vget_runChain_other v0 fs v ps c⟩,
   fun _ k _ v _ hi hr ho => getD_deparse_other k v hi hr ho⟩

end Sys2Proof

/-! PROOFS. Tables: what a record is refused for and changes, the commands that apply records, and the counters. -/

namespace Sys2Proof

open Sys2Proof.Machine

/-! ## Refusals (R361) -/

theorem opWith_of_no_upsert {r : TRec} (c : GenCopy) (d : TableDef) (op : Nat) (h : r.upsert = false) :
    opWith c d op r = op := by
  simp [opWith, h]

/-- The checks of a record that does not upsert, in the model's order (log entry 33). -/
theorem recCheck_of_table {s : State} {c : GenCopy} {op : Nat} {r : TRec} {d : TableDef}
    (ht : tableIn c r.table = some d) (hu : r.upsert = false) : recCheck s c op r =
      if keyWrong d (usedOf op r) || op == 0 then some (rInv 5)
      else if op != 3 && counterWrong c r.counter then some (rInv 6)
      else if recPoisoned s d r then some (rStat .uncorr)
      else if op == 1 && (entryOf c d r).isSome then some (rInv 3)
      else if op != 1 && !(entryOf c d r).isSome then some (rInv 4)
      else if op != 3 && prioTaken c d r then some (rInv 3)
      else if op == 1 && recFull c d r then some (rInv 2)
      else if op == 1 && decide (d.capacity ≤ liveEntries c r.table + stagedEntries s r.table) then some (rStat .busy)
      else none := by
  simp only [recCheck, ht, opWith_of_no_upsert c d op hu]

/-- A record of an operation whose key and counter fit and whose blocks are not poisoned. -/
theorem recCheck_of_fits {s : State} {c : GenCopy} {op : Nat} {r : TRec} {d : TableDef}
    (ht : tableIn c r.table = some d) (hu : r.upsert = false) (h0 : op ≠ 0) (hk : keyWrong d (usedOf op r) = false)
    (hc : op = 3 ∨ counterWrong c r.counter = false) : recCheck s c op r =
      if recPoisoned s d r then some (rStat .uncorr)
      else if op == 1 && (entryOf c d r).isSome then some (rInv 3)
      else if op != 1 && !(entryOf c d r).isSome then some (rInv 4)
      else if op != 3 && prioTaken c d r then some (rInv 3)
      else if op == 1 && recFull c d r then some (rInv 2)
      else if op == 1 && decide (d.capacity ≤ liveEntries c r.table + stagedEntries s r.table) then some (rStat .busy)
      else none := by
  have hcount : (op != 3 && counterWrong c r.counter) = false := by
    rcases hc with h3 | hc
    · simp [h3]
    · simp [hc]
  rw [recCheck_of_table ht hu, if_neg (by simp [hk, h0]), hcount, if_neg Bool.false_ne_true]

theorem recCheck_no_table {s : State} {c : GenCopy} {op : Nat} {r : TRec} (h : tableIn c r.table = none) :
    recCheck s c op r = some ⟨.invalid, 1, none, false⟩ := by
  simp only [recCheck, h]
  rfl

/-- Settles O42: each cause by the checks that stand before it. -/
theorem recordsAreRefusedByCause : Obligations.RecordsAreRefusedByCause := by
  refine ⟨fun _ _ _ _ => recCheck_no_table, fun s c op r d ht hop hu => ?_⟩
  have h0 : op ≠ 0 := by omega
  refine ⟨fun hk => ?_, fun hk h3 hc => ?_, fun hk hc hp => ?_, fun hk hc hp => ?_⟩
  · rw [recCheck_of_table ht hu, hk]
    rfl
  · rw [recCheck_of_table ht hu, if_neg (by simp [hk, h0]), if_pos (by simp [h3, hc])]
    rfl
  · rw [recCheck_of_fits ht hu h0 hk hc, if_pos hp]
    rfl
  · have hfits := recCheck_of_fits (s := s) ht hu h0 hk hc
    rw [hp, if_neg Bool.false_ne_true] at hfits
    refine ⟨fun h1 hs => ?_, fun h1 hs => ?_, fun h3 hs _ => ?_⟩
    · rw [hfits, if_pos (by simp [h1, hs])]
      rfl
    · rw [hfits, if_neg (by simp [h1]), if_pos (by simp [h1, hs])]
      rfl
    · subst h3
      simpa [hs] using hfits

/-! ## Entries (R356) -/

theorem recPut_insert {s : State} {c : GenCopy} {d : TableDef} {r : TRec} (ht : tableIn c r.table = some d)
    (hd : d.kind ≠ 2) (hu : r.upsert = false) (he : (entryOf c d r).isSome = false) :
    recPut s c 1 r = (s, { c with entries := c.entries ++ [entryFrom d r false] }, false) := by
  simp [recPut, ht, opWith_of_no_upsert c d 1 hu, mayStash, hd, putEntry, he]

theorem recPut_delete {c : GenCopy} {d : TableDef} {r : TRec} (s : State) (ht : tableIn c r.table = some d)
    (hu : r.upsert = false) :
    recPut s c 3 r = (s, { c with entries := c.entries.filter (fun e => !sameKey d r e) }, false) := by
  simp only [recPut, ht, opWith_of_no_upsert c d 3 hu]

/-- After a delete no lookup by its key finds an entry. -/
theorem entryOf_filter_sameKey (c : GenCopy) (d : TableDef) (r : TRec) :
    entryOf { c with entries := c.entries.filter (fun e => !sameKey d r e) } d r = none := by
  refine List.find?_eq_none.2 fun e he => ?_
  have := (List.mem_filter.1 he).2
  simpa using this

theorem data_entryFrom {d : TableDef} {r : TRec} (st : Bool) (h2 : d.kind ≠ 2) (h4 : d.kind ≠ 4) :
    (entryFrom d r st).data = r.data := by
  simp [entryFrom, h2, h4, leBytes]

/-- Settles O43: the entry an insert adds is `entryFrom`'s, which pads the data of EXACT and INDEX tables only. -/
theorem recordsChangeTheirEntryOnly : Obligations.RecordsChangeTheirEntryOnly := by
  intro s c d r ht hd hu
  refine ⟨fun he => ⟨entryFrom d r false, recPut_insert ht hd hu he, rfl, rfl, rfl, rfl, rfl, fun h1 => ⟨?_, ?_⟩,
    fun h3 => ⟨?_, ?_⟩⟩, recPut_delete s ht hu, entryOf_filter_sameKey c d r⟩
  · simp [entryFrom, h1]
  · exact data_entryFrom false hd (by omega)
  · simp [entryFrom, h3]
  · exact data_entryFrom false hd (by omega)

/-! ## Commands that apply records (R355, R357, R359, R360) -/

/-- Records that all apply. -/
theorem opRecords_applied {op ptr : Nat} {i : Instr} {r : Ring} {s : State} {a : Acc} {t : State} {n : Nat}
    (hi : exec i s = .next (dispatch (opRecords op ptr) r.val s)) (h : Runs (opRecords op ptr) s r a)
    (hr : applyAll op (2 ^ a.role / 2) (cmdRecs (popFront s r.val) a) 0 (popFront s r.val) = (t, n, none)) :
    exec i s = .next (finish (sumNoteAll t a) r.val a rOk) := by
  rw [hi, h.dispatch_eq]
  simp only [opRecords, hr]
  rfl

/-- Records of which one fails: those before it stand, and the table's sum takes them. -/
theorem opRecords_failed {op ptr : Nat} {i : Instr} {r : Ring} {s : State} {a : Acc} {t : State} {n : Nat} {p : Reply}
    (hi : exec i s = .next (dispatch (opRecords op ptr) r.val s)) (h : Runs (opRecords op ptr) s r a)
    (hr : applyAll op (2 ^ a.role / 2) (cmdRecs (popFront s r.val) a) 0 (popFront s r.val) = (t, n, some p)) :
    exec i s = .next (finish (if n = 0 then t else sumNoteAll t a) r.val a
      (if op = 0x33 then { p with data := some n } else p)) := by
  rw [hi, h.dispatch_eq]
  simp only [opRecords, hr, beq_iff_eq]
  rfl

theorem opRecords_completes (op ptr : Nat) (i : Instr) (r : Ring) (s : State) (a : Acc)
    (hi : exec i s = .next (dispatch (opRecords op ptr) r.val s)) (h : Runs (opRecords op ptr) s r a) :
    (∀ t n, applyAll op (2 ^ a.role / 2) (cmdRecs (popFront s r.val) a) 0 (popFront s r.val) = (t, n, none) →
      exec i s = .next (finish (sumNoteAll t a) r.val a rOk)) ∧
    (∀ t p, op ≠ 0x33 → applyAll op (2 ^ a.role / 2) (cmdRecs (popFront s r.val) a) 0 (popFront s r.val) = (t, 0, some p) →
      exec i s = .next (finish t r.val a p)) ∧
    (∀ t n p, op = 0x33 → n ≠ 0 →
      applyAll op (2 ^ a.role / 2) (cmdRecs (popFront s r.val) a) 0 (popFront s r.val) = (t, n, some p) →
      exec i s = .next (finish (sumNoteAll t a) r.val a { p with data := some n })) := by
  refine ⟨fun t n hr => opRecords_applied hi h hr, fun t p hop hr => ?_, fun t n p hop hn hr => ?_⟩
  · rw [opRecords_failed hi h hr, if_pos rfl, if_neg hop]
  · rw [opRecords_failed hi h hr, if_neg hn, if_pos hop]

/-! ## The other table commands (R355, R363) -/

theorem completes_tblRead_found (r : TRec) (d : TableDef) (e : Entry) : Completes .tblRead opTblRead
    (fun s a => (cmdRecs s a).head? = some r ∧ tableIn (curGen s) r.table = some d ∧ entryOf (curGen s) d r = some e)
    (fun s a => toHost s (opd a 0x10 8) ((entryBytesOf d e).take a.cmd.buf.length)) (fun _ _ => rOk) :=
  completes_of (fun _ _ => rfl) fun _ _ _ _ ⟨hr, hd, he⟩ => by simp only [opTblRead, hr, hd, he]

theorem completes_tblRead_absent (r : TRec) (d : TableDef) : Completes .tblRead opTblRead
    (fun s a => (cmdRecs s a).head? = some r ∧ tableIn (curGen s) r.table = some d ∧ entryOf (curGen s) d r = none)
    (fun s _ => s) (fun _ _ => ⟨.ok, 4, none, false⟩) :=
  completes_of (fun _ _ => rfl) fun _ _ _ _ ⟨hr, hd, he⟩ => by simp only [opTblRead, hr, hd, he]

theorem completes_tblCntRead_plain : Completes .tblCntRead opTblCntRead (fun _ a => a.cmd.ptr = false) (fun s _ => s)
    (fun s a => ⟨.ok, 0, some (pairNow s (opd a 0x10 4)).1, false⟩) :=
  completes_of (fun _ _ => rfl) fun _ _ _ _ h => by
    simp only [opTblCntRead, cntIndex, h, Bool.false_eq_true, if_false]
    rfl

theorem completes_tblCntRead_buffer : Completes .tblCntRead opTblCntRead (fun _ a => a.cmd.ptr = true)
    (fun s a => toHost s (opd a 0x10 8) (leBytes 8 (pairNow s (opd a 0x1C 4)).1 ++ leBytes 8 (pairNow s (opd a 0x1C 4)).2))
    (fun s a => ⟨.ok, 0, some (pairNow s (opd a 0x1C 4)).1, false⟩) :=
  completes_of (fun _ _ => rfl) fun _ _ _ _ h => by
    simp only [opTblCntRead, cntIndex, h, if_true]
    rfl

theorem run_tblRepair (r : Nat) {a : Acc} {s u : State} {d : TableDef} {n : Nat} {p : Option Reply}
    (hd : tableIn (curGen s) (rd s TBL_POISON_LOG.TABLE (opd a 0x1C 4)) = some d)
    (hu : applyAll 0x33 (2 ^ a.role / 2) ((repairRecs s a).map (fun r => { r with op := 1, upsert := true })) 0
      (repairEmptied s d (opd a 0x1C 4)) = (u, n, p)) :
    opTblRepair.run r a s = .done (sumNoteAll u a) (p.elim rOk fun q => { q with data := some n }) := by
  unfold repairEmptied at hu
  simp only [opTblRepair, hd, hu]
  cases p <;> rfl

/-! ## Counters (R353, R354) -/

theorem acts_counterWriteback (d : Fin 4) (i : Nat) (p : Pair) : Acts (.counterWriteback d i false)
    (fun s => tabGet s.cache (d.val, i) = some p) (fun s =>
      let s1 := { s with cache := tabDel s.cache (d.val, i) }
      let s2 := { s1 with pairs := tabPut s1.pairs (i, 0) (pairAdd (pairOf s1 i) p) }
      cntWrap (granaryWrite s2 16 8) i (pairOf s1 i) p) :=
  .of_next (fun _ => rfl) fun _ h => by
    rw [h]
    rfl

theorem counterHit_cached {s : State} {g : Nat} {k : Pkt} {t i : Nat} {v : Pair} (hi : i < (genOf s (k.gen % 2)).cntN)
    (hv : tabGet s.cache (galDie g, i) = some v) :
    counterHit g k s (t, i) = { s with cache := tabPut s.cache (galDie g, i) (v.1 + 1, v.2 + k.len) } := by
  simp [counterHit, Nat.not_le.2 hi, hv]

theorem cacheRoom_of_lt {s : State} {d : Nat} (h : (s.cache.filter (fun e => Nat.beq e.1.1 d)).length < 65536) :
    cacheRoom s d = s := if_pos h

/-- Settles O41: the four record commands are one opcode's rules, each other command by the lemma above for its case. -/
theorem tableOpcodesComplete : Obligations.TableOpcodesComplete := by
  refine ⟨fun c o hco r s a h => ?_, completes_of (fun _ _ => rfl) fun _ _ _ _ _ => rfl, completes_tblRead_found,
    completes_tblRead_absent, completes_tblCntRead_plain, completes_tblCntRead_buffer,
    completes_of (fun _ _ => rfl) fun _ _ _ _ _ => rfl, completes_of (fun _ _ => rfl) fun _ _ _ _ _ => rfl,
    fun d u n p => completes_of (fun _ _ => rfl) fun r s a _ ⟨hd, hu⟩ => ?_, acts_counterWriteback,
    fun _ _ _ _ _ _ => counterHit_cached, fun _ _ => cacheRoom_of_lt⟩
  · simp only [List.mem_cons, List.not_mem_nil, or_false, Prod.mk.injEq] at hco
    obtain ⟨rfl, rfl⟩ | ⟨rfl, rfl⟩ | ⟨rfl, rfl⟩ | ⟨rfl, rfl⟩ := hco
    · exact opRecords_completes 0x30 2 _ r s a rfl h
    · exact opRecords_completes 0x31 2 _ r s a rfl h
    · exact opRecords_completes 0x32 2 _ r s a rfl h
    · exact opRecords_completes 0x33 1 _ r s a rfl h
  · rw [run_tblRepair r.val hd hu]
    cases p <;> rfl

end Sys2Proof

/-! PROOFS. Halls: admission and dequeue, what the scheduler may choose, and the traffic events and commands. -/

namespace Sys2Proof

open Sys2Proof.Machine

/-! ## Admission (R317, R374) -/

theorem acts_hallAdmit_held (h : Hall) (n : Nat) (b : Bool) (k : Pkt) : Acts (.hallAdmit h n b)
    (fun s => pktOf s n = some k ∧ k.hold = true) (fun s => s) :=
  .of_next (fun _ => rfl) fun _ ⟨hk, hh⟩ => by
    rw [hk]
    exact if_pos (by simp [hh])

/-- Packet k, not from the host, stands as number n before hall h, which is not isolated, and no marker holds it. -/
def AtHall (s : State) (h n : Nat) (k : Pkt) : Prop :=
  k.host = false ∧ pktOf s n = some k ∧ k.loc = .toHall h ∧ k.hold = false ∧ flag s HID.HALL_ISO h = false

theorem AtHall.passes {s : State} {h n : Nat} {k : Pkt} (hk : AtHall s h n k) : pktOf s n = some k ∧
    (k.loc != .toHall h || k.hold || flag s HID.HALL_ISO h) = false ∧ stampAt s k = k := by
  obtain ⟨hhost, hp, hloc, hhold, hiso⟩ := hk
  simp [stampAt, hhost, hp, hloc, hhold, hiso]

theorem hallAdmit_unmapped {s : State} {h : Hall} {n : Nat} {k : Pkt} (b : Bool) (hk : AtHall s h.val n k)
    (hq : queueTarget s (k.gen % 2) k.queue = none) : exec (.hallAdmit h n b) s =
      .next (if k.expired then hallDrop s h.val 0x17 none k else hallDrop s h.val 0x10 none k) := by
  obtain ⟨hp, hhere, hstamp⟩ := hk.passes
  show execHallAdmit h n b s = _
  unfold execHallAdmit
  rw [hp]
  dsimp only
  rw [hhere, if_neg Bool.false_ne_true, hstamp, hq]

/-- A packet for a queue of a port is dropped if it has expired, and else admitted. -/
theorem hallAdmit_port {s : State} {h : Hall} {n p : Nat} {k : Pkt} (b : Bool) (hk : AtHall s h.val n k)
    (hq : queueTarget s (k.gen % 2) k.queue = some (.port p)) : exec (.hallAdmit h n b) s =
      .next (if k.expired then hallDrop s h.val 0x17 (some k.queue) k
        else bankWake (admitQueue (if k.gen % 2 == genNow s then attachSettle (setPkt s k) k.queue else setPkt s k)
          h.val k.queue k b) h.val) := by
  obtain ⟨hp, hhere, hstamp⟩ := hk.passes
  show execHallAdmit h n b s = _
  unfold execHallAdmit
  rw [hp]
  dsimp only
  rw [hhere, if_neg Bool.false_ne_true, hstamp, hq]

theorem acts_hallAdmit_unmapped (h : Hall) (n : Nat) (b : Bool) {k : Pkt} (hhost : k.host = false) :
    Acts (.hallAdmit h n b)
      (fun s => pktOf s n = some k ∧ k.loc = .toHall h.val ∧ k.hold = false ∧ flag s HID.HALL_ISO h.val = false ∧
        k.expired = false ∧ queueTarget s (k.gen % 2) k.queue = none) (fun s => hallDrop s h.val 0x10 none k) :=
  fun _ ⟨hp, hloc, hhold, hiso, he, hq⟩ =>
    (hallAdmit_unmapped b ⟨hhost, hp, hloc, hhold, hiso⟩ hq).trans (congrArg _ (if_neg (Bool.eq_false_iff.1 he)))

theorem acts_hallAdmit_oldGeneration (h : Hall) (n : Nat) (b : Bool) {k : Pkt} (p : Nat) (hhost : k.host = false) :
    Acts (.hallAdmit h n b)
      (fun s => pktOf s n = some k ∧ k.loc = .toHall h.val ∧ k.hold = false ∧ flag s HID.HALL_ISO h.val = false ∧
        k.expired = false ∧ queueTarget s (k.gen % 2) k.queue = some (.port p) ∧ k.gen % 2 ≠ genNow s)
      (fun s => bankWake (admitQueue (setPkt s k) h.val k.queue k b) h.val) :=
  fun _ ⟨hp, hloc, hhold, hiso, he, hq, hg⟩ => by
    rw [hallAdmit_port b ⟨hhost, hp, hloc, hhold, hiso⟩ hq, if_neg (Bool.eq_false_iff.1 he), if_neg (mt beq_iff_eq.1 hg)]

theorem acts_hallAdmit_expired (h : Hall) (n : Nat) (b : Bool) {k : Pkt} (p : Nat) (hhost : k.host = false) :
    Acts (.hallAdmit h n b)
      (fun s => pktOf s n = some k ∧ k.loc = .toHall h.val ∧ k.hold = false ∧ flag s HID.HALL_ISO h.val = false ∧
        k.expired = true ∧ queueTarget s (k.gen % 2) k.queue = some (.port p))
      (fun s => hallDrop s h.val 0x17 (some k.queue) k) :=
  fun _ ⟨hp, hloc, hhold, hiso, he, hq⟩ =>
    (hallAdmit_port b ⟨hhost, hp, hloc, hhold, hiso⟩ hq).trans (congrArg _ (if_pos he))

theorem admitQueue_full {s : State} {q : Nat} {k : Pkt} (h : Nat) (b : Bool)
    (hred : flag s TMG_PROFILE.RED_EN (queueOf s q).profile = false)
    (hmax : rd s TMG_PROFILE.MAX_KIB (queueOf s q).profile * 1024 < depthOf s q + k.len) :
    admitQueue s h q k b = hallDrop s h 0x11 (some q) k := by
  simp [admitQueue, hred, hmax]

theorem queueSettle_of_normal {s : State} {q : Nat} (h : (queueOf s q).spilled = false) : queueSettle s q = s := by
  simp [queueSettle, h]

theorem placeOf_hopper {s : State} {h q : Nat} {k : Pkt} (b : Bool) (hsp : (queueOf s q).spilled = false)
    (hocc : 256 * (hopperCells (queuePkts s q) + cellsOf k) ≤ hopperLimit s q) (hpool : cellsOf k ≤ poolFree s h) :
    placeOf s h q k b = (false, .hopper) := by
  simp [placeOf, hsp, hocc, hpool]

theorem admitQueue_hopper {s : State} {h q : Nat} {k : Pkt} (b : Bool)
    (hred : flag s TMG_PROFILE.RED_EN (queueOf s q).profile = false) (hsp : (queueOf s q).spilled = false)
    (hmax : depthOf s q + k.len ≤ rd s TMG_PROFILE.MAX_KIB (queueOf s q).profile * 1024)
    (hocc : 256 * (hopperCells (queuePkts s q) + cellsOf k) ≤ hopperLimit s q) (hpool : cellsOf k ≤ poolFree s h) :
    admitQueue s h q k b = enqueue s h q k false := by
  simp [admitQueue, hred, Nat.not_lt.2 hmax, queueSettle_of_normal hsp, placeOf_hopper b hsp hocc hpool]

/-! ## Dequeue (R370, R376 to R378) -/

/-- Queue q of hall h, which is not isolated, keeps no former attachment, and packet k stands at its head. -/
def AtHead (s : State) (h q : Nat) (k : Pkt) : Prop :=
  hallOf q = h ∧ (queueOf s q).attach = none ∧ headOfQueue s q = some k ∧ flag s HID.HALL_ISO h = false

/-- The causes for which the head of a queue is dropped or kept, in their order. -/
theorem exec_hallDequeue {s : State} {h : Hall} {q : Fin 1048576} {k : Pkt} (u : Bool) (look : Option (Fin 256))
    (hk : AtHead s h.val q.val k) : exec (.hallDequeue h q u look) s = .next (
      let age := rd s TMG_PROFILE.AGE_MS (queueOf s q.val).profile
      if k.expired then headDrop s h.val q.val 0x17 k
      else if gateOversize s (queuePort s q.val) (queueOf s q.val).tc k.len then headDrop s h.val q.val 0x16 k
      else if schedules s h.val q.val = false then s
      else if u then faultC (0x810 + h.val) (headDrop s h.val q.val 0x19 k)
      else if age ≠ 0 ∧ age * 1000000 < residence s k then headDrop s h.val q.val 0x15 k
      else dequeueTo s h.val q.val (look.map (·.val)) k) := by
  obtain ⟨hq, ha, hhd, hiso⟩ := hk
  have hsettle : attachSettle s q.val = s := by simp [attachSettle, ha]
  show execHallDequeue h q u look s = _
  unfold execHallDequeue
  rw [hsettle]
  dsimp only
  rw [hhd]
  simp [hq, hiso]

theorem hallDequeue_expired {s : State} {h : Hall} {q : Fin 1048576} {k : Pkt} (u : Bool) (look : Option (Fin 256))
    (hk : AtHead s h.val q.val k) (he : k.expired = true) :
    exec (.hallDequeue h q u look) s = .next (headDrop s h.val q.val 0x17 k) := by
  rw [exec_hallDequeue u look hk]
  exact congrArg _ (if_pos he)

theorem hallDequeue_oversize {s : State} {h : Hall} {q : Fin 1048576} {k : Pkt} (u : Bool) (look : Option (Fin 256))
    (hk : AtHead s h.val q.val k) (he : k.expired = false)
    (hg : gateOversize s (queuePort s q.val) (queueOf s q.val).tc k.len = true) :
    exec (.hallDequeue h q u look) s = .next (headDrop s h.val q.val 0x16 k) := by
  rw [exec_hallDequeue u look hk]
  simp only [he, hg, Bool.false_eq_true, if_false, if_true]

/-- A head that is neither expired nor too long for its gate: the scheduler's choice, then errors and age. -/
theorem hallDequeue_kept {s : State} {h : Hall} {q : Fin 1048576} {k : Pkt} (u : Bool) (look : Option (Fin 256))
    (hk : AtHead s h.val q.val k) (he : k.expired = false)
    (hg : gateOversize s (queuePort s q.val) (queueOf s q.val).tc k.len = false) :
    exec (.hallDequeue h q u look) s = .next (
      let age := rd s TMG_PROFILE.AGE_MS (queueOf s q.val).profile
      if schedules s h.val q.val = false then s
      else if u then faultC (0x810 + h.val) (headDrop s h.val q.val 0x19 k)
      else if age ≠ 0 ∧ age * 1000000 < residence s k then headDrop s h.val q.val 0x15 k
      else dequeueTo s h.val q.val (look.map (·.val)) k) := by
  rw [exec_hallDequeue u look hk]
  simp only [he, hg, Bool.false_eq_true, if_false]

theorem hallDequeue_of_kept {s : State} {h : Hall} {q : Fin 1048576} {k : Pkt} (look : Option (Fin 256))
    (hk : AtHead s h.val q.val k) (he : k.expired = false)
    (hg : gateOversize s (queuePort s q.val) (queueOf s q.val).tc k.len = false) :
    (∀ u, schedules s h.val q.val = false → exec (.hallDequeue h q u look) s = .next s) ∧
    (schedules s h.val q.val = true →
      exec (.hallDequeue h q true look) s = .next (faultC (0x810 + h.val) (headDrop s h.val q.val 0x19 k)) ∧
      (rd s TMG_PROFILE.AGE_MS (queueOf s q.val).profile ≠ 0 →
        rd s TMG_PROFILE.AGE_MS (queueOf s q.val).profile * 1000000 < residence s k →
        exec (.hallDequeue h q false look) s = .next (headDrop s h.val q.val 0x15 k)) ∧
      (rd s TMG_PROFILE.AGE_MS (queueOf s q.val).profile = 0 →
        exec (.hallDequeue h q false look) s = .next (dequeueTo s h.val q.val (look.map (·.val)) k))) := by
  refine ⟨fun u hs => ?_, fun hs => ?_⟩
  · rw [hallDequeue_kept u look hk he hg]
    exact congrArg _ (if_pos hs)
  · have hs' : ¬ schedules s h.val q.val = false := by simp [hs]
    refine ⟨?_, fun h0 hr => ?_, fun h0 => ?_⟩
    · rw [hallDequeue_kept true look hk he hg]
      exact congrArg _ ((if_neg hs').trans (if_pos rfl))
    · rw [hallDequeue_kept false look hk he hg]
      exact congrArg _ ((if_neg hs').trans ((if_neg Bool.false_ne_true).trans (if_pos ⟨h0, hr⟩)))
    · rw [hallDequeue_kept false look hk he hg]
      exact congrArg _ ((if_neg hs').trans ((if_neg Bool.false_ne_true).trans (if_neg fun ha => ha.1 h0)))

/-- Settles O44: each admission and dequeue by the lemma above for its cause. -/
theorem hallsAdmitAndDequeue : Obligations.HallsAdmitAndDequeue :=
  ⟨⟨fun h n b _ hh => acts_hallAdmit_unmapped h n b hh, acts_hallAdmit_held, fun _ h _ _ b => admitQueue_full h b,
    fun _ _ _ _ b => admitQueue_hopper b, fun h n b _ p hh => acts_hallAdmit_oldGeneration h n b p hh,
    fun h n b _ p hh => acts_hallAdmit_expired h n b p hh⟩,
   fun _ _ look _ _ hq ha hk hi => ⟨fun he u => hallDequeue_expired u look ⟨hq, ha, hk, hi⟩ he,
    fun u he hg => hallDequeue_oversize u look ⟨hq, ha, hk, hi⟩ he hg,
    fun he hg => hallDequeue_of_kept look ⟨hq, ha, hk, hi⟩ he hg⟩⟩

/-! ## Paths of the scheduler tree (R377, R378) -/

theorem length_nodeChain_le (s : State) (n id : Nat) : (nodeChain s n id).length ≤ n := by
  induction n generalizing id with
  | zero => exact Nat.le_refl 0
  | succ n ih =>
    unfold nodeChain
    split
    · exact Nat.succ_le_succ (Nat.zero_le n)
    · split
      · exact Nat.succ_le_succ (ih _)
      · exact Nat.succ_le_succ (Nat.zero_le n)

/-- Paths of which one runs along the whole of the other do not part. -/
theorem partAt_eq_none {l m : List Nat} (h : l.length ≤ sharedLen l m) : partAt l m = none := by
  induction l generalizing m with
  | nil => cases m <;> rfl
  | cons a l ih =>
    cases m with
    | nil => rfl
    | cons b m =>
      by_cases hab : (a == b) = true
      · simp only [sharedLen, hab, if_true, List.length_cons] at h
        simp only [partAt, hab, if_true]
        exact ih (Nat.le_of_succ_le_succ h)
      · simp [sharedLen, hab] at h

theorem sharedLen_self (l : List Nat) : sharedLen l l = l.length := by
  induction l with
  | nil => rfl
  | cons a l ih => simp [sharedLen, ih]

/-- Two paths that part after a common stretch. -/
theorem part_append {a b : Nat} (l : List Nat) (hab : a ≠ b) :
    sharedLen (l ++ [a]) (l ++ [b]) = l.length ∧ partAt (l ++ [a]) (l ++ [b]) = some (a, b) := by
  induction l with
  | nil => simp [sharedLen, partAt, hab]
  | cons c l ih => simpa [sharedLen, partAt] using ih

theorem goesFirst_self (s : State) (q : Nat) : goesFirst s q q = true := by
  rw [goesFirst, partAt_eq_none (sharedLen_self _).ge]

/-! ## Contests (R378) -/

/-- Queue q yields to a queue of c at a depth: there the paths part, and q goes later. -/
def Yields (s : State) (c : List Nat) (depth q : Nat) : Prop :=
  ∃ e ∈ c, sharedLen (queuePath s q) (queuePath s e) = depth ∧ goesFirst s q e = false

theorem mem_contest {s : State} {c : List Nat} {depth q : Nat} :
    q ∈ contest s c depth ↔ q ∈ c ∧ ¬ Yields s c depth q := by
  simp [contest, Yields, imp_iff_not_or]

theorem mem_of_mem_contests {s : State} {q : Nat} (ds c : List Nat) (h : q ∈ ds.foldl (contest s) c) : q ∈ c := by
  induction ds generalizing c with
  | nil => exact h
  | cons d ds ih => exact (mem_contest.1 (ih _ h)).1

/-- A queue does not yield below its own parent. -/
theorem not_yields_of_deep {s : State} {depth e : Nat} (c : List Nat) (h : (queuePath s e).length ≤ depth) :
    ¬ Yields s c depth e := by
  rintro ⟨x, -, hd, hg⟩
  rw [goesFirst, partAt_eq_none (hd ▸ h)] at hg
  exact Bool.false_ne_true hg.symm

/-- A queue that goes later than another of the same parent loses, whatever the contests below that parent leave. -/
theorem not_mem_contests {s : State} {q e : Nat} (ds c : List Nat) (hds : ds.Pairwise (· > ·)) (he : e ∈ c)
    (hd : sharedLen (queuePath s q) (queuePath s e) ∈ ds)
    (hl : (queuePath s e).length = sharedLen (queuePath s q) (queuePath s e) + 1) (hg : goesFirst s q e = false) :
    q ∉ ds.foldl (contest s) c := by
  induction ds generalizing c with
  | nil => exact absurd hd List.not_mem_nil
  | cons d ds ih =>
    obtain ⟨hgt, hds⟩ := List.pairwise_cons.1 hds
    rw [List.foldl_cons]
    rcases List.mem_cons.1 hd with hd | hd
    · exact fun hq => (mem_contest.1 (mem_of_mem_contests ds _ hq)).2 ⟨e, he, hd, hg⟩
    · have hdeep : (queuePath s e).length ≤ d := hl ▸ hgt _ hd
      exact ih _ hds (mem_contest.2 ⟨he, not_yields_of_deep c hdeep⟩) hd

theorem contest_single (s : State) (q depth : Nat) : contest s [q] depth = [q] := by
  simp [contest, goesFirst_self]

/-! ## Choice of a queue (R378) -/

theorem queueNode_lt {q : Nat} (h : q < 1048576) : nodeLevel (queueNode q) = 5 ∧ nodeIndex (queueNode q) = q := by
  unfold nodeLevel nodeIndex queueNode
  omega

theorem queueNode_ne {q e : Nat} (h : q ≠ e) : queueNode q ≠ queueNode e := by
  unfold queueNode
  omega

theorem rankOf_queueNode (s : State) {q : Nat} (h : q < 1048576) :
    rankOf s (queueNode q) = 256 + (queueOf s q).prio := by
  obtain ⟨hl, hi⟩ := queueNode_lt h
  simp [rankOf, hl, hi]

/-- Of two queues of one parent, the one of higher PRIO, or of later rounds at the same PRIO, goes later. -/
theorem siblingFirst_queueNode {s : State} {q e : Nat} (lenQ lenE : Nat) (hq : q < 1048576) (he : e < 1048576)
    (h : (queueOf s e).prio < (queueOf s q).prio ∨ ((queueOf s e).prio = (queueOf s q).prio ∧
      roundsOf s (queueNode e) lenE < roundsOf s (queueNode q) lenQ)) :
    siblingFirst s (queueNode q) lenQ (queueNode e) lenE = false := by
  simp only [siblingFirst, rankOf_queueNode s hq, rankOf_queueNode s he, Bool.or_eq_false_iff, decide_eq_false_iff_not,
    Bool.and_eq_false_iff, beq_eq_false_iff_ne]
  omega

/-- Where the path of a queue and of a sibling part: the nodes above them are shared. -/
theorem queuePath_sibling {s : State} {q e : Nat} (hqe : q ≠ e) (hp : queueParent s e = queueParent s q) :
    sharedLen (queuePath s q) (queuePath s e) = (nodeChain s 5 (queueParent s q)).length ∧
    (queuePath s e).length = sharedLen (queuePath s q) (queuePath s e) + 1 ∧
    partAt (queuePath s q) (queuePath s e) = some (queueNode q, queueNode e) := by
  obtain ⟨hs, hpart⟩ := part_append (nodeChain s 5 (queueParent s q)).reverse (queueNode_ne hqe)
  unfold queuePath
  rw [hp, hs]
  simp [hpart]

theorem mem_rivals_ne {s : State} {h q e : Nat} (he : e ∈ rivals s h q) : e ≠ q := by
  obtain ⟨k, -, hk⟩ := List.mem_filterMap.1 he
  split at hk
  · split at hk
    · rename_i hc
      obtain rfl := Option.some.inj hk
      simp only [Bool.and_eq_true, bne_iff_ne] at hc
      exact hc.1.1
    · exact absurd hk (by simp)
  · exact absurd hk (by simp)

theorem schedules_sibling {s : State} {h q e : Nat} (hq : q < 1048576) (he : e < 1048576) (hr : e ∈ rivals s h q)
    (hel : eligible s h e = true) (hp : queueParent s e = queueParent s q)
    (hlt : (queueOf s e).prio < (queueOf s q).prio ∨ ((queueOf s e).prio = (queueOf s q).prio ∧
      roundsOf s (queueNode e) (headLen s e) < roundsOf s (queueNode q) (headLen s q))) : schedules s h q = false := by
  obtain ⟨hs, hl, hpart⟩ := queuePath_sibling (mem_rivals_ne hr).symm hp
  have hg : goesFirst s q e = false := by
    rw [goesFirst, hpart]
    exact siblingFirst_queueNode _ _ hq he hlt
  have hd : sharedLen (queuePath s q) (queuePath s e) ∈ [5, 4, 3, 2, 1, 0] := by
    have := length_nodeChain_le s 5 (queueParent s q)
    simp only [hs, List.mem_cons, List.not_mem_nil, or_false]
    omega
  have hmem : e ∈ (q :: rivals s h q).filter (eligible s h) :=
    List.mem_filter.2 ⟨List.mem_cons_of_mem q hr, hel⟩
  have hout : q ∉ contenders s h q := not_mem_contests _ _ (by decide) hmem hd hl hg
  simp [schedules, hout]

theorem eligible_of_schedules {s : State} {h q : Nat} (hs : schedules s h q = true) : eligible s h q = true :=
  (Bool.and_eq_true_iff.1 hs).1

theorem eligible_iff {s : State} {h q : Nat} : eligible s h q = true ↔ ∃ k, headOfQueue s q = some k ∧
    maySend s h q = true ∧ gateFits s (queuePort s q) (queueOf s q).tc k.len = true ∧
    ∀ id ∈ queuePath s q, peakOpen s id = true := by
  unfold eligible
  cases headOfQueue s q <;> simp [and_assoc]

theorem gateFits_of_no_gates {s : State} {p : Nat} (c len : Nat) (h : flag s TMG_PORT.GATE_EN p = false) :
    gateFits s p c len = true := by
  simp [gateFits, gateLeft, h]

theorem schedules_alone {s : State} {h q : Nat} {k : Pkt} (hk : headOfQueue s q = some k) (hm : maySend s h q = true)
    (hr : rivals s h q = []) (hg : flag s TMG_PORT.GATE_EN (queuePort s q) = false)
    (hp : ∀ id ∈ queuePath s q, peakOpen s id = true) : schedules s h q = true := by
  have hel : eligible s h q = true := eligible_iff.2 ⟨k, hk, hm, gateFits_of_no_gates _ _ hg, hp⟩
  have hc : contenders s h q = [q] := by simp [contenders, hr, hel, contest_single]
  simp [schedules, hel, hc]

/-! ## Buckets (R379) -/

theorem bucketAt_le (tok : Int) (rate kib d : Nat) : bucketAt tok rate kib d ≤ ((kib * 1024 * 3125 : Nat) : Int) :=
  min_le_left _ _

theorem bucketAt_of_le {tok : Int} {rate kib d : Nat}
    (h : tok + ((4 * rate * d : Nat) : Int) ≤ ((kib * 1024 * 3125 : Nat) : Int)) :
    bucketAt tok rate kib d = tok + ((4 * rate * d : Nat) : Int) :=
  min_eq_right h

/-- A frame takes its charge from the peak bucket of a node with a limit, and from the committed one of a COMMITTED node. -/
theorem nodeSent_buckets (s : State) (id len charge : Nat) :
    (nodePeak s id ≠ 0 → (nodeSent s id len charge).pTok = (nodeFilled s id).pTok - ((3125 * charge : Nat) : Int)) ∧
    (nodePeak s id = 0 → (nodeSent s id len charge).pTok = (nodeFilled s id).pTok) ∧
    ((nodeFilled s id).committed = true →
      (nodeSent s id len charge).cTok = (nodeFilled s id).cTok - ((3125 * charge : Nat) : Int)) ∧
    ((nodeFilled s id).committed = false → (nodeSent s id len charge).cTok = (nodeFilled s id).cTok) :=
  ⟨fun h => if_neg (mt beq_iff_eq.1 h), fun h => if_pos (beq_iff_eq.2 h), fun h => if_pos h,
    fun h => if_neg (Bool.eq_false_iff.1 h)⟩

/-- Settles O45: a sibling of earlier rank wins the contest at its parent; the buckets by the lemmas above. -/
theorem schedulerObeysBucketsAndPriorities : Obligations.SchedulerObeysBucketsAndPriorities := by
  refine ⟨fun s h q hs => ?_, fun _ _ _ _ => schedules_sibling, fun _ _ _ _ => schedules_alone,
    fun tok rate kib d => ⟨bucketAt_le tok rate kib d, bucketAt_of_le⟩, nodeSent_buckets⟩
  obtain ⟨_, -, hm, -, hp⟩ := eligible_iff.1 (eligible_of_schedules hs)
  exact ⟨hm, hp⟩

/-! ## Traffic events (R381, R382) -/

theorem acts_pfcRefresh_xoff (p : Port) (c : Fin 8) : Acts (.pfcRefresh p c)
    (fun s => bitOf (rd s TMG_PORT.XOFF p.val) c.val = true) (fun s => pfcSend s p.val c.val 0xFFFF) :=
  .of_next (fun _ => rfl) fun _ h => if_pos h

theorem acts_pfcRefresh_xon (p : Port) (c : Fin 8) : Acts (.pfcRefresh p c)
    (fun s => bitOf (rd s TMG_PORT.XOFF p.val) c.val = false) (fun s => s) :=
  .of_next (fun _ => rfl) fun _ h => if_neg (Bool.eq_false_iff.1 h)

theorem acts_gateEntryAdvance_next (p : Port) : Acts (.gateEntryAdvance p)
    (fun s => flag s TMG_PORT.GATE_EN p.val = true ∧ rd s TMG_PORT.ENTRY p.val + 1 < (gatesOf s p.val).active.length)
    (fun s => wrs s [(TMG_PORT.ENTRY, p.val, rd s TMG_PORT.ENTRY p.val + 1),
      (TMG_PORT.GATES, p.val, ((gatesOf s p.val).active.getD (rd s TMG_PORT.ENTRY p.val + 1) (255, 0)).1),
      (HID.GATE_AT, p.val, rd s HID.TICKS 0)]) :=
  .of_next (fun _ => rfl) fun _ ⟨hen, hlt⟩ => if_neg (by simp [hen, Nat.not_le.2 hlt])

/-- The last entry of a list holds to the end of the cycle. -/
theorem acts_gateEntryAdvance_last (p : Port) : Acts (.gateEntryAdvance p)
    (fun s => flag s TMG_PORT.GATE_EN p.val = true ∧ (gatesOf s p.val).active.length ≤ rd s TMG_PORT.ENTRY p.val + 1)
    (fun s => s) :=
  .of_next (fun _ => rfl) fun _ ⟨_, hle⟩ => if_pos (by simp [hle])

/-! ## Traffic commands (R382, R384, R387) -/

theorem completes_tmgGateSet_off : Completes .tmgGateSet opTmgGateSet (fun _ a => bitOf (opdBuf a 3 1) 0 = false)
    (fun s a => wrs { s with gates := tabDel s.gates (opdBuf a 0 2, 0) } [(TMG_PORT.GATE_EN, opdBuf a 0 2, 0),
      (TMG_PORT.SWAP_PEND, opdBuf a 0 2, 0), (TMG_PORT.ENTRY, opdBuf a 0 2, 0), (TMG_PORT.GATES, opdBuf a 0 2, 255),
      (TMG_PORT.TEV, opdBuf a 0 2, opdBuf a 2 1)]) (fun _ _ => rOk) :=
  completes_of (fun _ _ => rfl) fun _ _ _ _ h => congrArg (Ans.done · rOk) (if_pos (by simp [gsEn, h]))

theorem completes_tmgGateSet_now : Completes .tmgGateSet opTmgGateSet
    (fun _ a => bitOf (opdBuf a 3 1) 0 = true ∧ bitOf (opdBuf a 3 1) 1 = true)
    (fun s a =>
      let p := opdBuf a 0 2
      let s1 := wrs s [(TMG_PORT.GATE_EN, p, 1), (TMG_PORT.TEV, p, opdBuf a 2 1), (TMG_PORT.SWAP_PEND, p, 0)]
      gateStart { s1 with gates := tabPut s1.gates (p, 0) ⟨gsList a, none⟩ } p (gsList a)) (fun _ _ => rOk) :=
  completes_of (fun _ _ => rfl) fun _ _ a _ ⟨hen, hsw⟩ => by
    have hsw' : gsSwap a = true := hsw
    refine congrArg (Ans.done · rOk) ((if_neg (by simp [gsEn, hen])).trans ?_)
    simp only [hsw', Bool.not_true, if_true]
    rfl

theorem completes_tmgRead_queue : Completes .tmgRead opTmgRead (fun _ a => opdB a 0x1F = 0)
    (fun s a =>
      let q := opd a 0x1C 3
      let s1 := toHost s (opd a 0x10 8) (queueRecord s q)
      if (queueOf s1 q).maxRes = 0 then s1 else setQueue s1 q { queueOf s1 q with maxRes := 0 }) (fun _ _ => rOk) :=
  completes_of (fun _ _ => rfl) fun _ _ _ _ h => by
    simp only [opTmgRead, tmId, h, beq_iff_eq, if_true]

theorem completes_tmgRead_node : Completes .tmgRead opTmgRead (fun _ a => opdB a 0x1F ≠ 0)
    (fun s a => toHost s (opd a 0x10 8) (nodeRecord s (opd a 0x1C 3))) (fun _ _ => rOk) :=
  completes_of (fun _ _ => rfl) fun _ _ _ _ h => if_neg (mt beq_iff_eq.1 h)

/-- Settles O46: each event and command with cases by the lemma above for it, the others by their run. -/
theorem trafficActs : Obligations.TrafficActs :=
  ⟨⟨acts_pfcRefresh_xoff, acts_pfcRefresh_xon, acts_gateEntryAdvance_next, acts_gateEntryAdvance_last,
    fun _ => .of_next (fun _ => rfl) fun _ _ => rfl⟩,
   completes_of (fun _ _ => rfl) fun _ _ _ _ _ => rfl, completes_of (fun _ _ => rfl) fun _ _ _ _ _ => rfl,
   completes_of (fun _ _ => rfl) fun _ _ _ _ _ => rfl, completes_tmgGateSet_off, completes_tmgGateSet_now,
   completes_of (fun _ _ => rfl) fun _ _ _ _ _ => rfl, completes_tmgRead_queue, completes_tmgRead_node,
   completes_of (fun _ _ => rfl) fun _ _ _ _ _ => rfl⟩

end Sys2Proof

/-! PROOFS. The drive of the optical engines: sites, channels, heaters, laser shutdown and ceilings. -/

namespace Sys2Proof

open Sys2Proof.Machine

/-! ## Sites (R394, R395) -/

theorem completes_siteRelease_held : Completes .siteRelease opSiteRelease (fun s a => siteSt s (opdB a 0x10) = siteHELD)
    (fun s a => siteFree s (opdB a 0x10)) (fun _ _ => rOk) :=
  completes_of (fun _ _ => rfl) fun _ _ _ _ h => congrArg (Ans.done · rOk) (if_pos (beq_iff_eq.2 h))

/-- A site that drives already is left as it is. -/
theorem completes_siteRelease_released : Completes .siteRelease opSiteRelease
    (fun s a => siteSt s (opdB a 0x10) = siteRELEASED) (fun s _ => s) (fun _ _ => rOk) :=
  completes_of (fun _ _ => rfl) fun _ s a _ h => by
    have hst : siteSt s (siteArg a) = siteRELEASED := h
    exact congrArg (Ans.done · rOk) (if_neg (by rw [hst]; decide))

theorem siteHold_released {R : Raise} {s : State} {k : Nat} (h : siteSt s k = siteRELEASED) :
    siteHold R s k = siteToPads R s k siteHELD :=
  if_pos (by simp [h])

theorem completes_siteHold_released : Completes .siteHold opSiteHold (fun s a => siteSt s (opdB a 0x10) = siteRELEASED)
    (fun s a => siteToPads raise s (opdB a 0x10) siteHELD) (fun _ _ => rOk) :=
  completes_of (fun _ _ => rfl) fun _ _ _ _ h =>
    congrArg (Ans.done · rOk) ((if_pos (beq_iff_eq.2 h)).trans (siteHold_released h))

/-! ## Bias channels and heaters (R391, R392, R397, R406) -/

theorem completes_dacSet_put : Completes .dacSet opDacSet (fun _ a => opdBit a (if a.cmd.ptr then 0x1D else 0x11) 0 = false)
    (fun s a => (dacCodes a).foldl (fun t x => wr t EMG_DAC.IN_CODE (16 * dacSite a + x.1) x.2) s) (fun _ _ => rOk) :=
  completes_of (fun _ _ => rfl) fun _ _ _ _ h => congrArg (Ans.done · rOk) (if_neg (Bool.eq_false_iff.1 h))

theorem completes_dacSet_strobe : Completes .dacSet opDacSet (fun _ a => opdBit a (if a.cmd.ptr then 0x1D else 0x11) 0 = true)
    (fun s a => strobe raise false ((dacCodes a).foldl (fun t x => wr t EMG_DAC.IN_CODE (16 * dacSite a + x.1) x.2) s)
      (dacSite a)) (fun _ _ => rOk) :=
  completes_of (fun _ _ => rfl) fun _ _ _ _ h => congrArg (Ans.done · rOk) (if_pos h)

theorem completes_dacLoad_site : Completes .dacLoad opDacLoad (fun _ a => opdB a 0x10 < 64)
    (fun s a => strobe raise false s (opdB a 0x10)) (fun _ _ => rOk) :=
  completes_of (fun _ _ => rfl) fun _ _ _ _ h => congrArg (Ans.done · rOk) (if_pos h)

/-- The site number 0xFF names the sites that GLB_EN selects. -/
theorem completes_dacLoad_all : Completes .dacLoad opDacLoad (fun _ a => opdB a 0x10 = 0xFF)
    (fun s _ => forEach ((List.range 64).filter (fun k => flag s EMG_SITE_CTRL.GLB_EN k)) s (fun k t => strobe raise false t k))
    (fun _ _ => rOk) :=
  completes_of (fun _ _ => rfl) fun _ _ a _ h => by
    have hs : siteArg a = 0xFF := h
    exact congrArg (Ans.done · rOk) (if_neg (by rw [hs]; decide))

theorem completes_pwmSet_put : Completes .pwmSet opPwmSet (fun _ a => opdBit a 0x11 0 = false ∧ opdBit a 0x11 1 = false)
    (fun s a => (pwmDuties a).foldl (fun t x => wr t EMG_PWM.IN_DUTY (8 * opdB a 0x10 + x.1) x.2) s) (fun _ _ => rOk) :=
  completes_of (fun _ _ => rfl) fun _ _ _ _ ⟨hload, hper⟩ =>
    congrArg (Ans.done · rOk) ((if_neg (Bool.eq_false_iff.1 hload)).trans (if_neg (Bool.eq_false_iff.1 hper)))

theorem completes_pwmSet_strobe : Completes .pwmSet opPwmSet (fun _ a => opdBit a 0x11 0 = true)
    (fun s a => strobe raise false (pwmPut s a) (opdB a 0x10)) (fun _ _ => rOk) :=
  completes_of (fun _ _ => rfl) fun _ _ _ _ h => congrArg (Ans.done · rOk) (if_pos h)

/-! ## The ceiling store (R400, R401) -/

theorem completes_ceilWrite_sealed : CompletesThen (.ceilWrite · true) (opCeilWrite true)
    (fun s _ => flag s HID.SEAL_OK 0 = true)
    (fun s a =>
      let n := ceilUsed s + 1
      let s1 := wrs s [(HID.CEIL_CNT_A, 0, n), (HID.CEIL_CNT_B, 0, n), (EMG_GLB_CFG.CEIL_LEFT, 0, 4095 - n)]
      ((List.range (ceilCount a)).map (fun j => ceilSite (ceilBytes a j))).foldl
        (fun u k => audit u 0xB a.role a.cred a.handle 0x85 0 (bytesOf [k])) { s1 with ceilA := ceilStore s a, ceilB := ceilStore s a })
    (fun _ _ => rOk) (fun s a t => ceilTake (ceilStore s a) ((List.range (ceilCount a)).map (fun j => ceilSite (ceilBytes a j))) t) :=
  completesThen_of (fun _ _ => rfl) fun _ _ _ _ h => if_neg (by simp [h])

/-- Settles O48: each command with cases by the lemma above for it; ALS_RESTART and the failed CEIL_WRITE by their run. -/
theorem driveOpcodesComplete : Obligations.DriveOpcodesComplete :=
  ⟨completes_siteRelease_held, completes_siteRelease_released, completes_siteHold_released, completes_dacSet_put,
   completes_dacSet_strobe, completes_dacLoad_site, completes_dacLoad_all, completes_pwmSet_put, completes_pwmSet_strobe,
   completes_of (fun _ _ => rfl) fun _ _ _ _ _ => rfl, completes_ceilWrite_sealed,
   completes_of (fun _ _ => rfl) fun _ _ _ _ _ => rfl⟩

end Sys2Proof

/-! PROOFS. The monitoring of the optical engines: scans, filter chains, comparators and settings. -/

namespace Sys2Proof

open Sys2Proof.Machine

/-! ## Scans (R410, R411) -/

/-- A trigger of a group with inputs, on a converter that runs and does not scan, starts the group's scan. -/
theorem monTrigger_idle {s : State} {k g : Nat} (hr : monRuns s k = true) (hn : flag s EMG_MON_STAT.RUNNING k = false)
    (hm : groupMask s k g ≠ 0) : monTrigger s k g =
      wrs s [(EMG_MON_STAT.RUNNING, k, 1), (HID.MON_LEFT, k, groupMask s k g), (HID.MON_GROUP, k, g)] :=
  calc monTrigger s k g = scanStart s k g := by simp [monTrigger, hr, hn]
    _ = _ := if_neg (mt beq_iff_eq.1 hm)

theorem monTrigger_overrun {s : State} {k g : Nat} (hr : monRuns s k = true) (hn : flag s EMG_MON_STAT.RUNNING k = true)
    (hp : bitOf (rd s EMG_MON_STAT.PEND k) (g - 1) = true) : monTrigger s k g = bump s (groupOvr g) k := by
  simp [monTrigger, hr, hn, hp]

theorem monTrigger_pends {s : State} {k g : Nat} (hr : monRuns s k = true) (hn : flag s EMG_MON_STAT.RUNNING k = true)
    (hp : bitOf (rd s EMG_MON_STAT.PEND k) (g - 1) = false) :
    monTrigger s k g = wr s EMG_MON_STAT.PEND k (setBit (rd s EMG_MON_STAT.PEND k) (g - 1)) := by
  simp [monTrigger, hr, hn, hp]

theorem acts_monPwmTrigger_starts (k : Site) : Acts (.monPwmTrigger k)
    (fun s => flag s EMG_MON_SITE.PWM_EN k.val = true ∧ rd s EMG_PWM.OUT_DUTY (8 * k.val + rd s EMG_MON_SITE.PWM_H k.val) ≠ 0 ∧
      rd s EMG_PWM.OUT_DUTY (8 * k.val + rd s EMG_MON_SITE.PWM_H k.val) ≠ 0xFFFF ∧ monRuns s k.val = true ∧
      flag s EMG_MON_STAT.RUNNING k.val = false ∧ rd s EMG_MON_SITE.PWM_MASK k.val ≠ 0)
    (fun s => wrs s [(EMG_MON_STAT.RUNNING, k.val, 1), (HID.MON_LEFT, k.val, rd s EMG_MON_SITE.PWM_MASK k.val),
      (HID.MON_GROUP, k.val, 1)]) :=
  .of_next (fun _ => rfl) fun _ ⟨hen, hlow, hhigh, hr, hn, hm⟩ =>
    (if_pos (by simp [hen, hlow, hhigh])).trans (monTrigger_idle (g := 1) hr hn hm)

/-- An output without edges triggers nothing. -/
theorem acts_monPwmTrigger_edgeless (k : Site) : Acts (.monPwmTrigger k)
    (fun s => flag s EMG_MON_SITE.PWM_EN k.val = true ∧
      rd s EMG_PWM.OUT_DUTY (8 * k.val + rd s EMG_MON_SITE.PWM_H k.val) = 0) (fun s => s) :=
  .of_next (fun _ => rfl) fun _ ⟨_, hlow⟩ => if_neg (by simp [hlow])

/-! ## Conversions (R410, R413, R418) -/

/-- A conversion of a running scan goes to the lowest input left; the scan ends when it was the last. -/
theorem exec_monConversionDone {s : State} {k : Site} {code : BitVec 12} {n : Nat}
    (hl : (bitList (rd s HID.MON_LEFT k.val) 16).head? = some n) (hr : monRuns s k.val = true)
    (ho : flag s EMG_MON_STAT.OWCHECK k.val = false) :
    exec (.monConversionDone k code) s = .next (
      let s1 := wr (sampleIn (convCount s k.val 1) k.val n code.toNat) HID.MON_LEFT k.val (clrBit (rd s HID.MON_LEFT k.val) n)
      if clrBit (rd s HID.MON_LEFT k.val) n == 0 then scanEnd s1 k.val else s1) := by
  change execMonConversionDone k code s = _
  simp only [execMonConversionDone, hl, hr, ho, Bool.not_true, Bool.or_self, Bool.false_eq_true, if_false]

theorem acts_monConversionDone_goesOn (k : Site) (code : BitVec 12) (n : Nat) : Acts (.monConversionDone k code)
    (fun s => (bitList (rd s HID.MON_LEFT k.val) 16).head? = some n ∧ monRuns s k.val = true ∧
      flag s EMG_MON_STAT.OWCHECK k.val = false ∧ clrBit (rd s HID.MON_LEFT k.val) n ≠ 0)
    (fun s => wr (sampleIn (convCount s k.val 1) k.val n code.toNat) HID.MON_LEFT k.val (clrBit (rd s HID.MON_LEFT k.val) n)) :=
  fun _ ⟨hl, hr, ho, hc⟩ => (exec_monConversionDone hl hr ho).trans (congrArg _ (if_neg (mt beq_iff_eq.1 hc)))

theorem acts_monConversionDone_ends (k : Site) (code : BitVec 12) (n : Nat) : Acts (.monConversionDone k code)
    (fun s => (bitList (rd s HID.MON_LEFT k.val) 16).head? = some n ∧ monRuns s k.val = true ∧
      flag s EMG_MON_STAT.OWCHECK k.val = false ∧ clrBit (rd s HID.MON_LEFT k.val) n = 0)
    (fun s => scanEnd (wr (sampleIn (convCount s k.val 1) k.val n code.toNat) HID.MON_LEFT k.val 0) k.val) :=
  fun _ ⟨hl, hr, ho, hc⟩ => by
    rw [exec_monConversionDone hl hr ho, hc]
    rfl

theorem acts_monOwcheckDone (k : Site) (codes : List (BitVec 12 × BitVec 12)) (m : Nat)
    (hlen : codes.length = (bitList m 16).length) : Acts (.monOwcheckDone k codes) (fun s => owMask s k.val = some m)
      (fun s =>
        let l := owPairs m codes
        let s1 := l.foldl (fun t x => owInput k.val t x.1 x.2.1 x.2.2) (convCount s k.val (2 * l.length))
        complete (waitsOn 0x8B [k.val]) ⟨.ok, 0, some (owOpen s k.val l), false⟩ (scanEnd s1 k.val)) :=
  fun s hm => by
    change execMonOwcheckDone k codes s = _
    simp only [execMonOwcheckDone, hm, hlen, bne_self_eq_false, Bool.false_eq_true, if_false, rData]

/-! ## Monitoring commands (R410, R415, R417 to R420) -/

theorem completes_monSiteSet_now : Completes .monSiteSet opMonSiteSet
    (fun s a => flag s EMG_MON_STAT.RUNNING (opdB a 0x10) = false)
    (fun s a => monSitePut s (opdB a 0x10) (opd a 0x11 11)) (fun _ _ => rOk) :=
  completes_of (fun _ _ => rfl) fun _ _ _ _ h => congrArg (Ans.done · rOk) (if_neg (Bool.eq_false_iff.1 h))

/-- During a scan the settings wait for its end. -/
theorem completes_monSiteSet_waits : Completes .monSiteSet opMonSiteSet
    (fun s a => flag s EMG_MON_STAT.RUNNING (opdB a 0x10) = true)
    (fun s a => { s with monSite := tabPut s.monSite (opdB a 0x10, 0) (opd a 0x11 11) }) (fun _ _ => rOk) :=
  completes_of (fun _ _ => rfl) fun _ _ _ _ h => congrArg (Ans.done · rOk) (if_pos h)

theorem completes_monSet_now : Completes .monSet opMonSet
    (fun s a => atBoundary (chainOf s (opdB a 0x1C) (opdB a 0x1D)) = true)
    (fun s a => monInPut s (opdB a 0x1C) (opdB a 0x1D) (leVal a.cmd.buf)) (fun _ _ => rOk) :=
  completes_of (fun _ _ => rfl) fun _ _ _ _ h => congrArg (Ans.done · rOk) (if_pos h)

/-- Inside a fine output the settings wait for its boundary. -/
theorem completes_monSet_waits : Completes .monSet opMonSet
    (fun s a => atBoundary (chainOf s (opdB a 0x1C) (opdB a 0x1D)) = false)
    (fun s a => { s with monIn := tabPut s.monIn (opdB a 0x1C, opdB a 0x1D) (leVal a.cmd.buf) }) (fun _ _ => rOk) :=
  completes_of (fun _ _ => rfl) fun _ _ _ _ h => congrArg (Ans.done · rOk) (if_neg (Bool.eq_false_iff.1 h))

theorem completes_monConvert_site : Completes .monConvert opMonConvert (fun _ a => opdB a 0x10 < 64)
    (fun s a => monTrigger s (opdB a 0x10) 3) (fun _ _ => rOk) :=
  completes_of (fun _ _ => rfl) fun _ _ _ _ h => congrArg (Ans.done · rOk) (if_pos h)

/-- The site number 0xFF names every site. -/
theorem completes_monConvert_all : Completes .monConvert opMonConvert (fun _ a => opdB a 0x10 = 0xFF)
    (fun s _ => forEach (List.range 64) s (fun k t => monTrigger t k 3)) (fun _ _ => rOk) :=
  completes_of (fun _ _ => rfl) fun _ _ a _ h => by
    have hs : siteArg a = 0xFF := h
    exact congrArg (Ans.done · rOk) (if_neg (by rw [hs]; decide))

/-- Settles O50: each event and command with cases by the lemma above for it, the others by their run. -/
theorem monitoringActs : Obligations.MonitoringActs :=
  ⟨⟨acts_monPwmTrigger_starts, acts_monPwmTrigger_edgeless, fun _ _ _ => monTrigger_overrun, fun _ _ _ => monTrigger_pends,
    acts_monConversionDone_goesOn, acts_monConversionDone_ends, acts_monOwcheckDone⟩,
   completes_monSiteSet_now, completes_monSiteSet_waits, completes_monSet_now, completes_monSet_waits,
   completes_monConvert_site, completes_monConvert_all, startsWait_of (fun _ _ => rfl) fun _ _ _ _ _ => rfl,
   completes_of (fun _ _ => rfl) fun _ _ _ _ _ => rfl⟩

/-! ## Filter stages and comparators (R413, R414, R416) -/

theorem stageScale_pos {den : Nat} (sh : Nat) (h : 0 < den) : (0 : Int) < ((den * 2 ^ sh : Nat) : Int) :=
  Int.natCast_pos.2 (Nat.mul_pos h (Nat.two_pow_pos sh))

theorem shiftHold_inRange (num : Int) (den sh : Nat) (hd : 0 < den) (h0 : 0 ≤ num)
    (h1 : num < ((65536 * (den * 2 ^ sh) : Nat) : Int)) :
    shiftHold num den sh = ((num / ((den * 2 ^ sh : Nat) : Int)).toNat, false) := by
  have hD := stageScale_pos sh hd
  have hlo : ¬ num / ((den * 2 ^ sh : Nat) : Int) < 0 := Int.not_lt.2 (Int.ediv_nonneg h0 hD.le)
  have hhi : num / ((den * 2 ^ sh : Nat) : Int) < 65536 := Int.ediv_lt_of_lt_mul hD (by rwa [Nat.cast_mul] at h1)
  exact (if_neg hlo).trans (if_neg (by omega))

theorem shiftHold_above (num : Int) (den sh : Nat) (hd : 0 < den) (h : ((65536 * (den * 2 ^ sh) : Nat) : Int) ≤ num) :
    shiftHold num den sh = (65535, true) := by
  have hD := stageScale_pos sh hd
  have hhi : 65536 ≤ num / ((den * 2 ^ sh : Nat) : Int) := (Int.le_ediv_iff_mul_le hD).2 (by rwa [Nat.cast_mul] at h)
  exact (if_neg (by omega)).trans (if_pos (by omega))

theorem shiftHold_below (num : Int) (den sh : Nat) (hd : 0 < den) (h : num < 0) : shiftHold num den sh = (0, true) :=
  if_pos (Int.ediv_neg_of_neg_of_pos h (stageScale_pos sh hd))

section
variable {s : State} {k n : Nat} {c : Cmp} {x : Nat}

theorem cmpSee_stays_released (he : flag s c.en (16 * k + n) = true) (hd : rd s c.dir (16 * k + n) = 0)
    (hst : flag s c.st (16 * k + n) = false) (hx : x ≤ rd s c.level (16 * k + n)) : cmpSee s k n c x = s := by
  simp [cmpSee, he, hd, hst, Nat.not_lt.2 hx]

/-- Above its release level an asserted comparator stays asserted. -/
theorem cmpSee_stays_asserted (he : flag s c.en (16 * k + n) = true) (hd : rd s c.dir (16 * k + n) = 0)
    (hst : flag s c.st (16 * k + n) = true) (hx : rd s c.level (16 * k + n) ≤ x + rd s c.hyst (16 * k + n)) :
    cmpSee s k n c x = s := by
  simp [cmpSee, he, hd, hst, Nat.not_lt.2 hx]

theorem cmpSee_asserts (he : flag s c.en (16 * k + n) = true) (hd : rd s c.dir (16 * k + n) = 0)
    (hst : flag s c.st (16 * k + n) = false) (hx : rd s c.level (16 * k + n) < x) :
    cmpSee s k n c x =
      monEvent (perf (wrs s [(c.st, 16 * k + n, 1), (c.evt, 16 * k + n, 1)]) { perfE 0x92 1 with qual := k }) k n c.kind x := by
  simp [cmpSee, he, hd, hst, hx]

end

/-- Settles O51: a stage by the size of its exact sum, a comparator by its state. -/
theorem filterStagesTruncateAndHold : Obligations.FilterStagesTruncateAndHold :=
  ⟨shiftHold_inRange, shiftHold_above, shiftHold_below, fun _ _ _ _ _ _ he hd =>
    ⟨cmpSee_stays_released he hd, cmpSee_stays_asserted he hd, cmpSee_asserts he hd⟩⟩

end Sys2Proof

/-! PROOFS. Power and temperature samples, the effective limit and the throttle ladder. -/

namespace Sys2Proof

open Sys2Proof.Machine

/-! ## Samples (R434, R437 to R440) -/

theorem acts_powerSample_within (w : BitVec 11) : Acts (.powerSample w) (fun s => flag s PWR_STATUS.THROTTLE 0 = false)
    (fun s => wr s PWR_STATUS.EST_W 0 w.toNat) :=
  .of_next (fun _ => rfl) fun _ h => if_neg (Bool.eq_false_iff.1 h)

theorem acts_powerSample_throttled (w : BitVec 11) : Acts (.powerSample w) (fun s => flag s PWR_STATUS.THROTTLE 0 = true)
    (fun s => perf (wr s PWR_STATUS.EST_W 0 w.toNat) (perfE 0xA1 1)) :=
  .of_next (fun _ => rfl) fun _ h => if_pos h

theorem acts_dramTempSample (t : List (BitVec 16)) (ht : t.length = 10) :
    Acts (.dramTempSample t) (fun _ => True) (fun s =>
      wr (forEach (List.range 10) s (fun n u => wr u PWR_HBM.TEMP n (t.getD n 0).toNat)) HID.TH_DRAM 0
        (b2n (t.any (fun v => decide (((rd s PWR_POLICY.DRAM_THR 0 * 8 : Nat) : Int) < tempOf v.toNat))))) :=
  .of_next (fun _ => rfl) fun _ _ => if_neg (by simp [ht])

theorem acts_thermalSample (t : List (BitVec 16)) (ht : t.length = 212) :
    Acts (.thermalSample t) (fun _ => True) (fun s =>
      let r := t.map (fun v => tempOf v.toNat)
      let s1 := forEach (List.range 212) s (fun i u => wr u PWR_THERM.TEMP i (t.getD i 0).toNat)
      let s3 := (List.range 14).foldl thermDieStep ((List.range 212).foldl (thermSite s r) s1)
      let s4 := match hottest s3 r with
        | some x => wr s3 PWR_STATUS.HOTTEST 0 (wrapI 16 x)
        | none => s3
      let s5 := wr (if tooHot s4 (hottest s3 r) = true ∧ flag s HID.TH_HOT 0 = false then effFall s4 else s4) HID.TH_HOT 0
        (b2n (tooHot s4 (hottest s3 r)))
      if critical r = true then thermTrip s5 else s5) :=
  .of_next (fun _ => rfl) fun s _ => by
    refine (if_neg (by simp [ht])).trans ?_
    dsimp only
    generalize (List.range 14).foldl thermDieStep _ = s3
    cases hottest s3 (t.map fun v => tempOf v.toNat) <;> simp only [Bool.and_eq_true, Bool.not_eq_true']

/-! ## The effective limit (R435) -/

theorem acts_effLimitStep_hot (b : Bool) : Acts (.effLimitStep b) (fun s => flag s HID.TH_HOT 0 = true) (fun s => effFall s) :=
  .of_next (fun _ => rfl) fun _ h => if_pos h

theorem acts_effLimitStep_restores : Acts (.effLimitStep true)
    (fun s => flag s HID.TH_HOT 0 = false ∧ rd s PWR_STATUS.EFF_W 0 < rd s PWR_POLICY.LIMIT_W 0 ∧
      tempOf (rd s PWR_STATUS.HOTTEST 0) ≤ (((rd s PWR_POLICY.THR_C 0 - 5) * 8 : Nat) : Int))
    (fun s => setEff s (min (rd s PWR_POLICY.LIMIT_W 0) (rd s PWR_STATUS.EFF_W 0 + 16))) :=
  .of_next (fun _ => rfl) fun _ ⟨hcool, hlow, htemp⟩ =>
    (if_neg (Bool.eq_false_iff.1 hcool)).trans (if_pos (by simp only [hlow, htemp, decide_true, Bool.and_self]))

theorem acts_effLimitStep_stays : Acts (.effLimitStep false) (fun s => flag s HID.TH_HOT 0 = false) (fun s => s) :=
  .of_next (fun _ => rfl) fun _ h => if_neg (Bool.eq_false_iff.1 h)

/-! ## The throttle ladder (R436) -/

theorem acts_throttleStep_lowers (w n : Nat) : Acts (.throttleStep w)
    (fun s => rd s PWR_STATUS.EFF_W 0 < rd s PWR_STATUS.EST_W 0 ∧ ladderDown s = some n)
    (fun s => setThr s n (levelThr s n - 1)) :=
  .of_next (fun _ => rfl) fun _ ⟨hover, hd⟩ => (if_pos hover).trans (by rw [hd])

/-- At the foot of the ladder the limit is reported as unmet. -/
theorem acts_throttleStep_unmet (w : Nat) : Acts (.throttleStep w)
    (fun s => rd s PWR_STATUS.EFF_W 0 < rd s PWR_STATUS.EST_W 0 ∧ ladderDown s = none ∧ allPl0 s = true ∧
      flag s PWR_STATUS.LIMIT_UNMET 0 = false)
    (fun s => faultC 0xB30 (thermEvent (wr s PWR_STATUS.LIMIT_UNMET 0 1) 7 0 0)) :=
  .of_next (fun _ => rfl) fun _ ⟨hover, hd, hpl, hmet⟩ =>
    (if_pos hover).trans (by simp only [hd, hpl, hmet, Bool.not_true, Bool.or_self, Bool.false_eq_true, if_false])

theorem acts_throttleStep_raises (w n : Nat) : Acts (.throttleStep w)
    (fun s => rd s PWR_STATUS.EST_W 0 + w ≤ rd s PWR_STATUS.EFF_W 0 ∧ ladderUp (wr s PWR_STATUS.LIMIT_UNMET 0 0) = some n)
    (fun s => setThr (wr s PWR_STATUS.LIMIT_UNMET 0 0) n (levelThr (wr s PWR_STATUS.LIMIT_UNMET 0 0) n + 1)) :=
  .of_next (fun _ => rfl) fun _ ⟨hroom, hu⟩ => (if_neg (by omega)).trans (by simp only [hu, if_pos hroom])

/-- Settles O54: each event by the lemma above for its case. -/
theorem throttlingActs : Obligations.ThrottlingActs :=
  ⟨acts_powerSample_within, acts_powerSample_throttled, acts_dramTempSample, acts_thermalSample, acts_effLimitStep_hot,
   acts_effLimitStep_restores, acts_effLimitStep_stays, acts_throttleStep_lowers, acts_throttleStep_unmet,
   acts_throttleStep_raises⟩

end Sys2Proof

/-! PROOFS. Fault events: latching, escalation and the safe state. -/

namespace Sys2Proof

open Sys2Proof.Machine

/-! ## Latching (R450) -/

/-- A count changes no field but its counter's and the SAT marks. -/
theorem rd_bump_id (s : State) (f g : Fld) (i j : Nat) (hf : g.id ≠ f.id) (hs : g.id ≠ HID.SAT.id) :
    rd (bump s f i) g j = rd s g j :=
  (onlyAt_bump s f i).2 g j fun e he => by
    rcases List.mem_pair.1 he with rfl | rfl
    · exact .inl hf.symm
    · exact .inl hs.symm

section
variable (s : State) (src cls : Nat) (esc : Bool)

theorem rd_faultLatch_sticky : rd (faultLatch s src cls esc) FLT_SRC.STICKY src = 1 := by
  rw [faultLatch, rd_bump_id _ _ _ _ _ (by decide) (by decide)]
  simp only [wrs_cons, wrs_nil]
  rw [rd_wr_id _ _ _ _ _ _ (by decide), rd_wr_id _ _ _ _ _ _ (by decide)]
  exact rd_wr_same _ _ _ _

theorem rd_faultLatch_class (hc : cls ≤ 3) (hs : rd s FLT_SRC.CLASS src ≤ 3) :
    rd (faultLatch s src cls esc) FLT_SRC.CLASS src = max (rd s FLT_SRC.CLASS src) cls := by
  rw [faultLatch, rd_bump_id _ _ _ _ _ (by decide) (by decide)]
  simp only [wrs_cons, wrs_nil]
  rw [rd_wr_id _ _ _ _ _ _ (by decide), rd_wr_same]
  exact Nat.mod_eq_of_lt (Nat.lt_succ_of_le (Nat.max_le.2 ⟨hs, hc⟩))

theorem rd_faultLatch_esc : rd (faultLatch s src cls esc) FLT_SRC.ESC src = b2n esc := by
  rw [faultLatch, rd_bump_id _ _ _ _ _ (by decide) (by decide)]
  simp only [wrs_cons, wrs_nil, rd_wr_same]
  cases esc <;> rfl

theorem rd_faultLatch_count : rd (faultLatch s src cls esc) FLT_SRC.COUNT src =
    min (rd s FLT_SRC.COUNT src + 1) (2 ^ FLT_SRC.COUNT.w - 1) := by
  rw [faultLatch, rd_bump_same]
  simp only [wrs_cons, wrs_nil]
  rw [rd_wr_id _ _ _ _ _ _ (by decide), rd_wr_id _ _ _ _ _ _ (by decide), rd_wr_id _ _ _ _ _ _ (by decide)]

theorem onlyAt_faultLatch : OnlyAt [(FLT_SRC.STICKY, src), (FLT_SRC.CLASS, src), (FLT_SRC.ESC, src), (FLT_SRC.COUNT, src),
    (HID.SAT, cntPart FLT_SRC.COUNT src)] s (faultLatch s src cls esc) :=
  (onlyAt_wrs (by simp)).trans ((onlyAt_bump _ _ _).mono (by simp))

end

/-! ## Escalation (R449) -/

section
variable {s : State} {src cls r : Nat}

/-- A rule's Nth event is promoted by one class; the rule counts anew and counts the promotion. -/
theorem escalates_of_le (hr : escRule s src cls = some r) (hn : rd s FLT_ESC.N r ≤ rd s FLT_ESC.COUNT r + 1) :
    faultClass s src cls = cls + 1 ∧ rd (escCount s (some r)) FLT_ESC.COUNT r = 0 ∧
      rd (escCount s (some r)) FLT_ESC.HITS r = min (rd s FLT_ESC.HITS r + 1) (2 ^ FLT_ESC.HITS.w - 1) := by
  have hp : escPromotes s (some r) = true := decide_eq_true hn
  have hcount : escCount s (some r) = bump (wr s FLT_ESC.COUNT r 0) FLT_ESC.HITS r := if_pos hp
  refine ⟨?_, ?_, ?_⟩
  · rw [faultClass, hr, hp]
    rfl
  · rw [hcount, rd_bump_id _ _ _ _ _ (by decide) (by decide), rd_wr_same]
    rfl
  · rw [hcount, rd_bump_same, rd_wr_id _ _ _ _ _ _ (by decide)]

/-- An event before a rule's Nth keeps its class, and is counted. -/
theorem counts_of_lt (hr : escRule s src cls = some r) (hn : rd s FLT_ESC.COUNT r + 1 < rd s FLT_ESC.N r) :
    faultClass s src cls = cls ∧ escCount s (some r) = wr s FLT_ESC.COUNT r (rd s FLT_ESC.COUNT r + 1) := by
  have hp : escPromotes s (some r) = false := decide_eq_false (Nat.not_le.2 hn)
  refine ⟨?_, if_neg (Bool.eq_false_iff.1 hp)⟩
  rw [faultClass, hr, hp]
  rfl

theorem faultClass_of_escRule_none (hr : escRule s src cls = none) : faultClass s src cls = cls := by
  rw [faultClass, hr]
  rfl

/-! ## Reactions (R446, R447) -/

variable {d : List Byte}

/-- An event that no rule promotes has no reaction below the fatal class. -/
theorem raise_unpromoted (hc : faultClass s src cls ≠ 3) (hp : escPromotes s (escRule s src cls) = false) :
    raise src cls d s = recordFault s src cls d := by
  have hcls : faultClass s src cls = cls := by
    rw [faultClass, hp]
    rfl
  rw [raise_eq, if_neg (mt beq_iff_eq.1 hc), hcls]
  refine if_neg fun h => ?_
  obtain ⟨h2, h1⟩ := Bool.and_eq_true_iff.1 h
  rw [beq_iff_eq] at h1 h2
  omega

theorem raise_fatal (hc : faultClass s src cls = 3) (hs : isSafe s = false) :
    raise src cls d s = enterSafe (raiseN 3) (recordFault s src cls d) := by
  rw [raise_eq, if_pos (beq_iff_eq.2 hc), if_neg (Bool.eq_false_iff.1 hs)]

end

/-- Settles O11: the latch field by field, the reaction by the class, the escalation by the rule that counts. -/
theorem faultsLatchTheirSource : Obligations.FaultsLatchTheirSource :=
  ⟨fun s src cls esc hc hs => ⟨rd_faultLatch_sticky s src cls esc, rd_faultLatch_class s src cls esc hc hs,
      rd_faultLatch_esc s src cls esc, rd_faultLatch_count s src cls esc, onlyAt_faultLatch s src cls esc⟩,
   fun _ _ _ _ => raise_unpromoted, fun _ _ _ _ => raise_fatal, fun _ _ _ _ => escalates_of_le,
   fun _ _ _ _ => counts_of_lt, fun _ _ _ hr => ⟨faultClass_of_escRule_none hr, rfl⟩⟩

end Sys2Proof

/-! PROOFS. Escalation rules, sticky bits, memory retirement, logs, merge buffers and winnowing. -/

namespace Sys2Proof

open Sys2Proof.Machine

/-! ## Rules and sticky bits (R449 to R452) -/

theorem acts_faultStickyClear_fatal (id : BitVec 12) : Acts (.faultStickyClear id)
    (fun s => rd s FLT_SRC.CLASS id.toNat = 3) (fun s => s) :=
  .of_next (fun _ => rfl) fun _ h => if_pos (beq_iff_eq.2 h)

/-- A source outside the port layer holds no port, so nothing follows its clear but the pin. -/
theorem holdEnd_of_ne {s : State} {src : Nat} (h : src / 256 ≠ 5) : holdEnd s src = s := if_neg (mt beq_iff_eq.1 h)

theorem acts_faultStickyClear_clears (id : BitVec 12) (hid : id.toNat / 256 ≠ 5) : Acts (.faultStickyClear id)
    (fun s => rd s FLT_SRC.CLASS id.toNat ≠ 3)
    (fun s => updFaultPin (wrs s [(FLT_SRC.STICKY, id.toNat, 0), (FLT_SRC.CLASS, id.toNat, 0)])) :=
  .of_next (fun _ => rfl) fun _ h => (if_neg (mt beq_iff_eq.1 h)).trans (holdEnd_of_ne hid)

/-! ## Retirement and logs (R456, R459) -/

theorem completes_memRetire_page (x : Nat) : Completes .memRetire opMemRetire
    (fun s a => opdB a 0x10 < 8 ∧ retireFree s (opdB a 0x10) = some x)
    (fun s a => retirePut s (opdB a 0x10) x (opdB a 0x11) (opd a 0x14 4) false)
    (fun s a => ⟨.ok, rd (retirePut s (opdB a 0x10) x (opdB a 0x11) (opd a 0x14 4) false) MEM_RETIRE_LIST.PENDING
      (opdB a 0x10 * 512 + x), none, false⟩) :=
  completes_of (fun _ _ => rfl) fun _ _ _ _ ⟨hsilo, hfree⟩ => by
    simp only [opMemRetire, retStack, retAddr, hfree, hsilo, if_true]

/-- A Granary row waits for the copy of its data. -/
theorem startsWait_memRetire_row (x : Nat) : StartsWait .memRetire opMemRetire
    (fun s a => 8 ≤ opdB a 0x10 ∧ retireFree s (opdB a 0x10) = some x)
    (fun s a => retirePut s (opdB a 0x10) x (opdB a 0x11) (opd a 0x14 4) false) (fun _ a => [opdB a 0x10, opd a 0x14 4]) :=
  startsWait_of (fun _ _ => rfl) fun _ _ _ _ ⟨hgran, hfree⟩ => by
    simp only [opMemRetire, retStack, retAddr, hfree, Nat.not_lt.2 hgran, if_false]

theorem acts_retireRowCopyDone (n : Fin 2) (row x : Nat) : Acts (.retireRowCopyDone n row)
    (fun s => copyEntry s (8 + n.val) row = some x)
    (fun s => complete (waitsOn 0xA1 [8 + n.val, row]) rOk
      (wrs s [(HID.COPY, (8 + n.val) * 512 + x, 0), (MEM_RETIRE_LIST.VALID, (8 + n.val) * 512 + x, 1),
        (MEM_CTRL_STAT.RETIRED, 8 + n.val, rd s MEM_CTRL_STAT.RETIRED (8 + n.val) + 1)])) :=
  fun s h => by
    change execRetireRowCopyDone n row s = _
    simp only [execRetireRowCopyDone, h]

theorem completes_memLogClear_one : Completes .memLogClear opMemLogClear (fun _ a => opdB a 0x10 ≠ 0xFF)
    (fun s a => forEach ((List.range 32).map (fun e => 32 * opdB a 0x10 + e)) s (fun i t => logEmpty t i)) (fun _ _ => rOk) :=
  completes_of (fun _ _ => rfl) fun _ _ _ _ h => by
    simp only [opMemLogClear, beq_false_of_ne h, Bool.false_eq_true, if_false, List.flatMap_cons, List.flatMap_nil,
      List.append_nil]

theorem completes_memLogClear_all : Completes .memLogClear opMemLogClear (fun _ a => opdB a 0x10 = 0xFF)
    (fun s _ => forEach ((List.range 10).flatMap (fun n => (List.range 32).map (fun e => 32 * n + e))) s
      (fun i t => logEmpty t i)) (fun _ _ => rOk) :=
  completes_of (fun _ _ => rfl) fun _ _ _ _ h => by
    simp only [opMemLogClear, h, beq_self_eq_true, if_true]

/-! ## The merge buffer (R455) -/

theorem acts_mergeBufferExpire_whole (n : Fin 10) (b c : Nat) (hc : 64 ≤ c) : Acts (.mergeBufferExpire n b)
    (fun s => tabGet s.merge (n.val, b) = some c)
    (fun s => perf { s with merge := tabDel s.merge (n.val, b) } { perfE 0x81 1 with qual := n.val, role := 8, addr := b }) :=
  fun s h => by
    change execMergeBufferExpire n b s = _
    simp only [execMergeBufferExpire, h, if_pos hc]

theorem acts_mergeBufferExpire_part (n : Fin 10) (b c : Nat) (hc : c < 64) : Acts (.mergeBufferExpire n b)
    (fun s => tabGet s.merge (n.val, b) = some c) (fun s =>
      let ev := fun (t : State) (code : Nat) => perf t { perfE code 1 with qual := n.val, role := 8, addr := b }
      ev (ev (ev (bump { s with merge := tabDel s.merge (n.val, b) } MEM_CTRL_STAT.RMW n.val) 0x80) 0x82) 0x81) :=
  fun s h => by
    change execMergeBufferExpire n b s = _
    simp only [execMergeBufferExpire, h, if_neg (Nat.not_le.2 hc)]

/-! ## Winnowing (R460) -/

/-- The read of winnowing itself, which counts for a stack. -/
def winnowCounted (s : State) (u b : Nat) : State :=
  if u < 10 then perf s { perfE 0x85 1 with qual := u, role := 8, addr := b } else s

section
variable {s : State} {found : WinnowFound} {u : Fin 24} {b : Nat} {place : WinnowPlace} {again : Bool} {p : Fin 1001}
  (hr : winnowReads s u.val b = true)
include hr

theorem exec_winnowRead_goesOn (hp : p.val ≠ 1000) : exec (.winnowRead found u b place again p) s = .next
    (wr (winnowFinds (winnowCounted s u.val b) found u.val b place again) MEM_WINNOW.PROGRESS 0 p.val) :=
  congrArg Host.Outcome.next ((if_neg (by simp [hr])).trans (if_neg (mt beq_iff_eq.1 hp)))

/-- The last read of a pass begins the next one. -/
theorem exec_winnowRead_passes (hp : p.val = 1000) : exec (.winnowRead found u b place again p) s = .next
    (bump (wr (winnowFinds (winnowCounted s u.val b) found u.val b place again) MEM_WINNOW.PROGRESS 0 0) MEM_WINNOW.PASSES 0) :=
  congrArg Host.Outcome.next ((if_neg (by simp [hr])).trans (if_pos (beq_iff_eq.2 hp)))

end

section
variable {s : State} {u b : Nat} {place : WinnowPlace} {again : Bool} (hp : poisonRead s u b place = false)
include hp

theorem winnowFinds_clean : winnowFinds s .clean u b place again = s := if_neg (Bool.eq_false_iff.1 hp)

theorem winnowFinds_corrected_dram (hu : u < 10) : winnowFinds s .corrected u b place again =
    dramCorr (bump s MEM_WINNOW.FOUND_CORR 0) u b true :=
  (if_neg (Bool.eq_false_iff.1 hp)).trans (if_pos hu)

theorem winnowFinds_corrected_sram (hu : 10 ≤ u) : winnowFinds s .corrected u b place again =
    raise (0x940 + (u - 10)) 1 (memDetail b true) (bump (bump s MEM_WINNOW.FOUND_CORR 0) MEM_SRAM_STAT.CORR (u - 10)) :=
  (if_neg (Bool.eq_false_iff.1 hp)).trans (if_neg (Nat.not_lt.2 hu))

theorem winnowFinds_uncorrectable_dram (hu : u < 10) : winnowFinds s .uncorrectable u b place again =
    winnowDram (bump s MEM_WINNOW.FOUND_UNCORR 0) u b place again :=
  (if_neg (Bool.eq_false_iff.1 hp)).trans (if_pos hu)

theorem winnowFinds_uncorrectable_sram (hu : 10 ≤ u) : winnowFinds s .uncorrectable u b place again =
    winnowSram (bump s MEM_WINNOW.FOUND_UNCORR 0) (u - 10) b place :=
  (if_neg (Bool.eq_false_iff.1 hp)).trans (if_neg (Nat.not_lt.2 hu))

end

/-- Settles O55: each command and event with cases by the lemma above for it; a winnowing read by its effect on the pass
and by what it finds. -/
theorem faultRulesAndMemoryServiceAct : Obligations.FaultRulesAndMemoryServiceAct := by
  refine ⟨⟨completes_of (fun _ _ => rfl) fun _ _ _ _ _ => rfl, fun _ => .of_next (fun _ => rfl) fun _ _ => rfl,
      acts_faultStickyClear_fatal, acts_faultStickyClear_clears⟩,
    ⟨completes_memRetire_page, startsWait_memRetire_row, acts_retireRowCopyDone, completes_memLogClear_one,
      completes_memLogClear_all, acts_mergeBufferExpire_whole, acts_mergeBufferExpire_part⟩, ?_⟩
  intro u b place again s hr (hp : poisonRead (winnowCounted s u.val b) u.val b place = false)
  refine ⟨fun _ hn => ?_, fun _ he => ?_, fun _ hn hu => ?_, fun _ hn hu => ?_, fun _ hn hu => ?_, fun _ hn hu => ?_⟩
  · rw [exec_winnowRead_goesOn hr hn, winnowFinds_clean hp]
    rfl
  · rw [exec_winnowRead_passes hr he, winnowFinds_clean hp]
    rfl
  · rw [exec_winnowRead_goesOn hr hn, winnowFinds_corrected_dram hp hu]
    rfl
  · rw [exec_winnowRead_goesOn hr hn, winnowFinds_corrected_sram hp hu]
    rfl
  · rw [exec_winnowRead_goesOn hr hn, winnowFinds_uncorrectable_dram hp hu]
    rfl
  · rw [exec_winnowRead_goesOn hr hn, winnowFinds_uncorrectable_sram hp hu]
    rfl

end Sys2Proof

/-! PROOFS. Gleaning slices, their commands, and the commands of calibration and ageing. -/

namespace Sys2Proof

open Sys2Proof.Machine

/-! ## Turns of the scheduler (R467, R468) -/

/-- The scheduler's turn can come to a target: its class is enabled, no slice of it runs, and its test of this cycle is
neither over nor to be retried later. -/
def gleanTurn (s : State) (t : GleanTarget) : Prop :=
  powered s = true ∧ bitOf (rd s GLN_CFG.EN 0) t.cls = true ∧ tabGet s.slices (t.cls, 2 * t.idx + t.dir) = none ∧
    flag s HID.GLN_SKIP (glnMark t.cls (2 * t.idx + t.dir)) = false ∧ retryEarly s t.cls (2 * t.idx + t.dir) = false ∧
    slicesDone s t.cls (2 * t.idx + t.dir) < sliceCount t.cls t.idx

/-- At its turn a target is tested, woken or skipped. -/
theorem exec_gleanSliceStart_turn {s : State} {t : GleanTarget} (ht : targetOk t.cls t.idx t.dir = true)
    (h : gleanTurn s t) : exec (.gleanSliceStart t) s = .next (
      let k2 := 2 * t.idx + t.dir
      if !outOfService s t.cls k2 then targetMissed s t.cls k2
      else if t.cls == 0 && domSt s (galDom t.idx) != 0 then
        if !flag s GLN_CFG.WAKE 0 || rd s PWR_DOM.HELD (galDom t.idx) != 0 then targetMissed s t.cls k2
        else if domChanging s (galDom t.idx) || !sliceMay s t.cls then s
        else domMove (wr s HID.GLN_FORMER t.idx (domSt s (galDom t.idx) + 1)) (galDom t.idx) 0 3
      else if sliceMay s t.cls then sliceOn s t.cls k2 0
      else s) := by
  obtain ⟨hpow, hen, hnone, hskip, hearly, hleft⟩ := h
  exact congrArg Host.Outcome.next (if_neg (by simp [hpow, hen, ht, hnone, hskip, hearly, hleft]))

theorem acts_gleanSliceStart_tests (t : GleanTarget) (ht : targetOk t.cls t.idx t.dir = true) : Acts (.gleanSliceStart t)
    (fun s => powered s = true ∧ bitOf (rd s GLN_CFG.EN 0) t.cls = true ∧ tabGet s.slices (t.cls, 2 * t.idx + t.dir) = none ∧
      flag s HID.GLN_SKIP (glnMark t.cls (2 * t.idx + t.dir)) = false ∧ retryEarly s t.cls (2 * t.idx + t.dir) = false ∧
      slicesDone s t.cls (2 * t.idx + t.dir) < sliceCount t.cls t.idx ∧ outOfService s t.cls (2 * t.idx + t.dir) = true ∧
      sliceMay s t.cls = true ∧ (t.cls ≠ 0 ∨ domSt s (galDom t.idx) = 0)) (fun s => sliceOn s t.cls (2 * t.idx + t.dir) 0) :=
  fun s ⟨hpow, hen, hnone, hskip, hearly, hleft, hout, hmay, hawake⟩ => by
    have hsleep : ¬ (t.cls == 0 && domSt s (galDom t.idx) != 0) = true := by
      rcases hawake with h | h <;> simp [h]
    rw [exec_gleanSliceStart_turn ht ⟨hpow, hen, hnone, hskip, hearly, hleft⟩]
    exact congrArg _ ((if_neg (by simp [hout])).trans ((if_neg hsleep).trans (if_pos hmay)))

/-- A gallery that sleeps is woken before its slice. -/
theorem acts_gleanSliceStart_wakes (t : GleanTarget) (ht : targetOk t.cls t.idx t.dir = true) (hc : t.cls = 0) :
    Acts (.gleanSliceStart t)
    (fun s => powered s = true ∧ bitOf (rd s GLN_CFG.EN 0) 0 = true ∧ tabGet s.slices (0, 2 * t.idx + t.dir) = none ∧
      flag s HID.GLN_SKIP (glnMark 0 (2 * t.idx + t.dir)) = false ∧ retryEarly s 0 (2 * t.idx + t.dir) = false ∧
      slicesDone s 0 (2 * t.idx + t.dir) < sliceCount 0 t.idx ∧ outOfService s 0 (2 * t.idx + t.dir) = true ∧
      sliceMay s 0 = true ∧ domSt s (galDom t.idx) ≠ 0 ∧ flag s GLN_CFG.WAKE 0 = true ∧ rd s PWR_DOM.HELD (galDom t.idx) = 0 ∧
      domChanging s (galDom t.idx) = false)
    (fun s => domMove (wr s HID.GLN_FORMER t.idx (domSt s (galDom t.idx) + 1)) (galDom t.idx) 0 3) := by
  obtain ⟨cls, idx, dir⟩ := t
  obtain rfl : cls = 0 := hc
  intro s ⟨hpow, hen, hnone, hskip, hearly, hleft, hout, hmay, hsleep, hwake, hheld, hstill⟩
  rw [exec_gleanSliceStart_turn ht ⟨hpow, hen, hnone, hskip, hearly, hleft⟩]
  exact congrArg _ ((if_neg (by simp [hout])).trans ((if_pos (by simp [hsleep])).trans
    ((if_neg (by simp [hwake, hheld])).trans (if_neg (by simp [hstill, hmay])))))

theorem acts_gleanSliceStart_misses (t : GleanTarget) (ht : targetOk t.cls t.idx t.dir = true) : Acts (.gleanSliceStart t)
    (fun s => powered s = true ∧ bitOf (rd s GLN_CFG.EN 0) t.cls = true ∧ tabGet s.slices (t.cls, 2 * t.idx + t.dir) = none ∧
      flag s HID.GLN_SKIP (glnMark t.cls (2 * t.idx + t.dir)) = false ∧ retryEarly s t.cls (2 * t.idx + t.dir) = false ∧
      slicesDone s t.cls (2 * t.idx + t.dir) < sliceCount t.cls t.idx ∧ outOfService s t.cls (2 * t.idx + t.dir) = false)
    (fun s => targetMissed s t.cls (2 * t.idx + t.dir)) :=
  fun s ⟨hpow, hen, hnone, hskip, hearly, hleft, hout⟩ => by
    rw [exec_gleanSliceStart_turn ht ⟨hpow, hen, hnone, hskip, hearly, hleft⟩]
    exact congrArg _ (if_pos (by simp [hout]))

theorem acts_gleanSliceStart_early (t : GleanTarget) : Acts (.gleanSliceStart t)
    (fun s => retryEarly s t.cls (2 * t.idx + t.dir) = true) (fun s => s) :=
  .of_next (fun _ => rfl) fun _ h => if_pos (by simp [h])

/-! ## Ends of slices (R466, R468, R469) -/

theorem acts_gleanSliceEnd_pass (t : GleanTarget) (v : Nat) : Acts (.gleanSliceEnd t .pass)
    (fun s => tabGet s.slices (t.cls, 2 * t.idx + t.dir) = some v ∧ idleBroken s t.cls (v / 4) = false)
    (fun s => gleanPass s t.cls (2 * t.idx + t.dir) (v % 4)) :=
  fun s ⟨hv, hi⟩ => by
    change execGleanSliceEnd t .pass s = _
    simp only [execGleanSliceEnd, hv, hi, Bool.false_eq_true, if_false]

theorem acts_gleanSliceEnd_fail (t : GleanTarget) (v : Nat) : Acts (.gleanSliceEnd t .fail)
    (fun s => tabGet s.slices (t.cls, 2 * t.idx + t.dir) = some v ∧ idleBroken s t.cls (v / 4) = false)
    (fun s => gleanFail s t.cls (2 * t.idx + t.dir) (v % 4)) :=
  fun s ⟨hv, hi⟩ => by
    change execGleanSliceEnd t .fail s = _
    simp only [execGleanSliceEnd, hv, hi, Bool.false_eq_true, if_false]

theorem acts_gleanSliceEnd_aborted (t : GleanTarget) (v : Nat) : Acts (.gleanSliceEnd t .aborted)
    (fun s => tabGet s.slices (t.cls, 2 * t.idx + t.dir) = some v) (fun s => gleanAbort s t.cls (2 * t.idx + t.dir)) :=
  fun s hv => by
    change execGleanSliceEnd t .aborted s = _
    simp only [execGleanSliceEnd, hv, ite_self]

theorem acts_gleanSliceWatchdog_first (t : GleanTarget) (v : Nat) : Acts (.gleanSliceWatchdog t)
    (fun s => tabGet s.slices (t.cls, 2 * t.idx + t.dir) = some v ∧ flag s HID.GLN_WD (glnMark t.cls (2 * t.idx + t.dir)) = false)
    (fun s => wr (gleanAbort s t.cls (2 * t.idx + t.dir)) HID.GLN_WD (glnMark t.cls (2 * t.idx + t.dir)) 1) :=
  fun s ⟨hv, hw⟩ => by
    change execGleanSliceWatchdog t s = _
    simp only [execGleanSliceWatchdog, hv, hw, Bool.false_eq_true, if_false]

theorem acts_gleanSliceWatchdog_second (t : GleanTarget) (v : Nat) : Acts (.gleanSliceWatchdog t)
    (fun s => tabGet s.slices (t.cls, 2 * t.idx + t.dir) = some v ∧ flag s HID.GLN_WD (glnMark t.cls (2 * t.idx + t.dir)) = true)
    (fun s => gleanFail s t.cls (2 * t.idx + t.dir) (v % 4)) :=
  fun s ⟨hv, hw⟩ => by
    change execGleanSliceWatchdog t s = _
    simp only [execGleanSliceWatchdog, hv, hw, if_true]

/-! ## Gleaning commands (R470) -/

/-- A slice asked for by command does not count in the cycle when its class is off, or when it is not the next slice of a
test of several. -/
theorem glnRun_apart_iff {c n m : Nat} {e : Bool} :
    ([0, 4].contains c && n != m || !e) = true ↔ e = false ∨ ((c = 0 ∨ c = 4) ∧ n ≠ m) := by
  simp [or_comm]

theorem startsWait_glnRun_counts : StartsWait .glnRun opGlnRun
    (fun s a => bitOf (rd s GLN_CFG.EN 0) (runClass a) = true ∧
      ((opdB a 0x10 ≠ 0 ∧ opdB a 0x10 ≠ 4) ∨ opdB a 0x15 = slicesDone s (runClass a) (runKey a)))
    (fun s a => sliceOn s (runClass a) (runKey a) 0) (fun _ a => [runClass a, runKey a]) :=
  startsWait_of (fun _ _ => rfl) fun _ s a _ ⟨hen, hnext⟩ => by
    refine congrArg (fun k => Ans.wait (sliceOn s (runClass a) (runKey a) k) [runClass a, runKey a]) (if_neg fun h => ?_)
    rcases glnRun_apart_iff.1 h with hoff | ⟨hc, hn⟩
    · exact Bool.false_ne_true (hoff.symm.trans hen)
    · rcases hnext with ⟨h0, h4⟩ | h
      · exact hc.elim h0 h4
      · exact hn h

theorem startsWait_glnRun_apart : StartsWait .glnRun opGlnRun
    (fun s a => bitOf (rd s GLN_CFG.EN 0) (runClass a) = false ∨
      ((opdB a 0x10 = 0 ∨ opdB a 0x10 = 4) ∧ opdB a 0x15 ≠ slicesDone s (runClass a) (runKey a)))
    (fun s a => sliceOn s (runClass a) (runKey a) 2) (fun _ a => [runClass a, runKey a]) :=
  startsWait_of (fun _ _ => rfl) fun _ s a _ h =>
    congrArg (fun k => Ans.wait (sliceOn s (runClass a) (runKey a) k) [runClass a, runKey a]) (if_pos (glnRun_apart_iff.2 h))

/-! ## Calibration commands and the ageing report (R471, R474, R477) -/

theorem completes_calRun_armed : Completes .calRun opCalRun (fun _ a => opdBit a 0x13 0 = true)
    (fun s a => wrs s [(GLN_CAL.WINDOW, calTarget a, 1), (HID.CAL_TEV, calTarget a, opdB a 0x14),
      (HID.CAL_MASK, calTarget a, opdB a 0x12)]) (fun _ _ => rOk) :=
  completes_of (fun _ _ => rfl) fun _ _ _ _ h => if_pos h

theorem startsWait_calRun : StartsWait .calRun opCalRun
    (fun s a => opdBit a 0x13 0 = false ∧ rd (calStart s (calTarget a) (opdB a 0x12)) GLN_CAL.STATE (calTarget a) = 1)
    (fun s a => calStart s (calTarget a) (opdB a 0x12)) (fun _ a => [calTarget a]) :=
  startsWait_of (fun _ _ => rfl) fun _ _ _ _ ⟨hnow, hrun⟩ =>
    (if_neg (Bool.eq_false_iff.1 hnow)).trans (if_pos (beq_iff_eq.2 hrun))

/-- A pass with nothing to calibrate answers at once. -/
theorem completes_calRun_over : Completes .calRun opCalRun
    (fun s a => opdBit a 0x13 0 = false ∧ rd (calStart s (calTarget a) (opdB a 0x12)) GLN_CAL.STATE (calTarget a) ≠ 1)
    (fun s a => calStart s (calTarget a) (opdB a 0x12))
    (fun s a => rData (rd (calStart s (calTarget a) (opdB a 0x12)) HID.CAL_SKIP (calTarget a))) :=
  completes_of (fun _ _ => rfl) fun _ _ _ _ ⟨hnow, hrun⟩ =>
    (if_neg (Bool.eq_false_iff.1 hnow)).trans (if_neg (mt beq_iff_eq.1 hrun))

theorem completes_calAbort_running : Completes .calAbort opCalAbort (fun s a => rd s GLN_CAL.STATE (calTarget a) = 1)
    (fun s a =>
      let x := calTarget a
      let s2 := wrs s [(GLN_CAL.WINDOW, x, 0), (GLN_CAL.STATE, x, 0), (HID.CAL_LANES, x, 0)]
      complete (waitsOn 0xA8 [x]) ⟨.aborted, 0, none, false⟩
        (if x < 64 then forEach (sheafLanes x) s2 (fun l t => calLaneClear t l) else s2)) (fun _ _ => rOk) :=
  completes_of (fun _ _ => rfl) fun _ _ _ _ h => if_neg (by simp [h])

theorem completes_calAbort_idle : Completes .calAbort opCalAbort (fun s a => rd s GLN_CAL.STATE (calTarget a) ≠ 1)
    (fun s a => wr s GLN_CAL.WINDOW (calTarget a) 0) (fun _ _ => rOk) :=
  completes_of (fun _ _ => rfl) fun _ _ _ _ h => if_pos (bne_iff_ne.2 h)

theorem completes_ageReport : Completes .ageReport opAgeReport (fun s _ => rd s HID.WEAR_HOURS 0 ≠ 0)
    (fun s a => toHost s (opd a 0x10 8) (ageBytes s)) (fun _ _ => rOk) :=
  completes_of (fun _ _ => rfl) fun _ s a _ h =>
    congrArg (fun t => Ans.done (toHost t (opd a 0x10 8) (ageBytes s)) rOk) (if_neg (mt beq_iff_eq.1 h))

/-- Before the first hour the average is a free value. -/
theorem completes_ageReport_free : Completes .ageReport opAgeReport (fun s _ => rd s HID.WEAR_HOURS 0 = 0)
    (fun s a => toHost (took s) (opd a 0x10 8) (ageBytes s)) (fun _ _ => rOk) :=
  completes_of (fun _ _ => rfl) fun _ s a _ h =>
    congrArg (fun t => Ans.done (toHost t (opd a 0x10 8) (ageBytes s)) rOk) (if_pos (beq_iff_eq.2 h))

/-- Settles O56: each event and command with cases by the lemma above for it; GLN_RETEST by its run. -/
theorem gleaningAndSelfTestAct : Obligations.GleaningAndSelfTestAct :=
  ⟨⟨acts_gleanSliceStart_tests, acts_gleanSliceStart_wakes, acts_gleanSliceStart_misses, acts_gleanSliceStart_early,
    acts_gleanSliceEnd_pass, acts_gleanSliceEnd_fail, acts_gleanSliceEnd_aborted, acts_gleanSliceWatchdog_first,
    acts_gleanSliceWatchdog_second⟩,
   startsWait_glnRun_counts, startsWait_glnRun_apart, startsWait_of (fun _ _ => rfl) fun _ _ _ _ _ => rfl,
   completes_calRun_armed, startsWait_calRun, completes_calRun_over, completes_calAbort_running, completes_calAbort_idle,
   completes_ageReport, completes_ageReport_free⟩

end Sys2Proof

/-! PROOFS. Steps of calibration, its renewal, and the hourly wear account. -/

namespace Sys2Proof

open Sys2Proof.Machine

/-! ## Steps (R471, R472; log entry 21) -/

/-- The target of kind 0 is the sheaf itself. -/
theorem calIndex_sheaf {kind : Fin 3} (hk : kind.val = 0) (t : Fin 64) : kind.val * 64 + t.val = t.val := by omega

/-- The targets of the other kinds lie above the sheaves. -/
theorem calIndex_site {kind : Fin 3} (hk : kind.val ≠ 0) (t : Fin 64) : ¬ kind.val * 64 + t.val < 64 := by omega

theorem acts_calStepDone_inRange (kind : Fin 3) (t : Fin 64) (comp : BitVec 4) (temp mv : BitVec 16) (l j : Nat)
    (hk : kind.val = 0) : Acts (.calStepDone kind t comp true temp mv)
    (fun s => rd s GLN_CAL.STATE t.val = 1 ∧ calCurrent s t.val = some (l, j))
    (fun s => calKick (calStepOver (wr (calRecord (perf s (perfE 0xA4 1)) t.val temp.toNat mv.toNat) HID.CAL_COMP (l * 136 + j)
      (comp.toNat + 16)) l j false) t.val) :=
  fun s ⟨hrun, hcur⟩ => by
    change execCalStepDone kind t comp true temp mv s = _
    simp only [execCalStepDone, calIndex_sheaf hk, hrun, t.isLt, hcur, bne_self_eq_false, Bool.false_eq_true, if_false, if_true,
      Bool.not_true]

theorem acts_calStepDone_failed (kind : Fin 3) (t : Fin 64) (comp : BitVec 4) (temp mv : BitVec 16) (l j : Nat)
    (hk : kind.val = 0) : Acts (.calStepDone kind t comp false temp mv)
    (fun s => rd s GLN_CAL.STATE t.val = 1 ∧ calCurrent s t.val = some (l, j))
    (fun s => calKick (calStepOver (perf s (perfE 0xA4 1)) l j true) t.val) :=
  fun s ⟨hrun, hcur⟩ => by
    change execCalStepDone kind t comp false temp mv s = _
    simp only [execCalStepDone, calIndex_sheaf hk, hrun, t.isLt, hcur, bne_self_eq_false, Bool.false_eq_true, if_false, if_true,
      Bool.not_false]

/-- The calibration of a site is one step, which ends it. -/
theorem acts_calStepDone_site (kind : Fin 3) (t : Fin 64) (comp : BitVec 4) (ok : Bool) (temp mv : BitVec 16)
    (hk : kind.val ≠ 0) : Acts (.calStepDone kind t comp ok temp mv)
    (fun s => rd s GLN_CAL.STATE (kind.val * 64 + t.val) = 1)
    (fun s => calEnd (calRecord (perf s (perfE 0xA4 1)) (kind.val * 64 + t.val) temp.toNat mv.toNat) (kind.val * 64 + t.val)) :=
  .of_next (fun _ => rfl) fun _ hrun => (if_neg (by simp [hrun])).trans (if_neg (calIndex_site hk t))

theorem acts_calStepTimeout (kind : Fin 3) (t : Fin 64) (l j : Nat) (hk : kind.val = 0) : Acts (.calStepTimeout kind t)
    (fun s => rd s GLN_CAL.STATE t.val = 1 ∧ calCurrent s t.val = some (l, j))
    (fun s => calKick (calStepOver (calMissed s t.val) l j false) t.val) :=
  fun s ⟨hrun, hcur⟩ => by
    change execCalStepTimeout kind t s = _
    simp only [execCalStepTimeout, calIndex_sheaf hk, hrun, t.isLt, hcur, bne_self_eq_false, Bool.false_eq_true, if_false,
      if_true]

/-! ## Renewal (R473) -/

theorem acts_calAutoStart_marks (kind : Fin 3) (t : Fin 64) (temp : BitVec 16) : Acts (.calAutoStart kind t temp)
    (fun s => rd s GLN_CAL.STATE (kind.val * 64 + t.val) = 2 ∧ calStale s (kind.val * 64 + t.val) temp.toNat = true ∧
      flag s GLN_CFG.AUTO_RECAL 0 = false) (fun s => wr s GLN_CAL.STALE (kind.val * 64 + t.val) 1) :=
  .of_next (fun _ => rfl) fun _ ⟨hdone, hstale, hauto⟩ =>
    (if_neg (by simp [hdone, hstale])).trans (if_pos (by simp [hauto]))

theorem acts_calAutoStart_renews (kind : Fin 3) (t : Fin 64) (temp : BitVec 16) : Acts (.calAutoStart kind t temp)
    (fun s => rd s GLN_CAL.STATE (kind.val * 64 + t.val) = 2 ∧ calStale s (kind.val * 64 + t.val) temp.toNat = true ∧
      flag s GLN_CFG.AUTO_RECAL 0 = true ∧ calReady s (kind.val * 64 + t.val) = true)
    (fun s => calStart (wr s GLN_CAL.STALE (kind.val * 64 + t.val) 1) (kind.val * 64 + t.val) 0xFF) :=
  .of_next (fun _ => rfl) fun _ ⟨hdone, hstale, hauto, hready⟩ =>
    (if_neg (by simp [hdone, hstale])).trans (if_neg (by simp [hdone, hauto, hready]))

theorem acts_calAutoStart_fresh (kind : Fin 3) (t : Fin 64) (temp : BitVec 16) : Acts (.calAutoStart kind t temp)
    (fun s => calStale s (kind.val * 64 + t.val) temp.toNat = false) (fun s => s) :=
  .of_next (fun _ => rfl) fun _ h => if_pos (by simp [h])

/-- Settles O57: each event by the lemma above for its case; the wear account by its run. -/
theorem calibrationAndAgeingEventsAct : Obligations.CalibrationAndAgeingEventsAct :=
  ⟨fun kind t comp temp mv l j hk => acts_calStepDone_inRange kind t comp temp mv l j hk,
   fun kind t comp temp mv l j hk => acts_calStepDone_failed kind t comp temp mv l j hk,
   fun kind t comp ok temp mv hk => acts_calStepDone_site kind t comp ok temp mv hk, acts_calStepTimeout,
   acts_calAutoStart_marks, acts_calAutoStart_renews, acts_calAutoStart_fresh,
   fun _ _ _ => .of_next (fun _ => rfl) fun _ _ => rfl⟩

end Sys2Proof

/-! PROOFS. The performance monitor: runs, counters, trace and bandwidth windows. -/

namespace Sys2Proof

open Sys2Proof.Machine

/-! ## Commands (R482 to R487) -/

theorem startsWait_pmuRun : StartsWait .pmuRun opPmuRun (fun _ a => opd a 0x10 2 ≠ 0)
    (fun s a =>
      let x : PmuRun := ⟨opd a 0x10 2, opdBit a 0x12 0, opdBit a 0x12 1, runTime s a⟩
      pendShow { s with pmuRuns := (runGroups (opd a 0x10 2)).foldl (fun t q => tabPut t (q, 0) x) s.pmuRuns })
    (fun _ a => [opd a 0x10 2]) :=
  startsWait_of (fun _ _ => rfl) fun _ _ _ _ h => if_neg (mt beq_iff_eq.1 h)

theorem completes_pmuRun_empty : Completes .pmuRun opPmuRun (fun _ a => opd a 0x10 2 = 0) (fun s _ => s) (fun _ _ => rOk) :=
  completes_of (fun _ _ => rfl) fun _ _ _ _ h => if_pos (beq_iff_eq.2 h)

theorem completes_traceCtrl_keeps : Completes .traceCtrl opTraceCtrl (fun _ a => opdBit a 0x10 2 = false)
    (fun s a => wrs s [(PMU_TRACE_STAT.EN, 0, b2n (opdBit a 0x10 0)), (PMU_TRACE_STAT.MODE, 0, b2n (opdBit a 0x10 1))])
    (fun _ _ => rOk) :=
  completes_of (fun _ _ => rfl) fun _ _ _ _ h => congrArg (Ans.done · rOk) (if_neg (Bool.eq_false_iff.1 h))

theorem completes_traceCtrl_clears : Completes .traceCtrl opTraceCtrl (fun _ a => opdBit a 0x10 2 = true)
    (fun s a =>
      let s1 := wrs s [(PMU_TRACE_STAT.EN, 0, b2n (opdBit a 0x10 0)), (PMU_TRACE_STAT.MODE, 0, b2n (opdBit a 0x10 1))]
      wrs { s1 with regs := s1.regs.filter (fun e => !Nat.beq e.1.1 PMU_TRACE.RECORD.id) }
        [(PMU_TRACE_STAT.FILL, 0, 0), (PMU_TRACE_STAT.HEAD, 0, 0)]) (fun _ _ => rOk) :=
  completes_of (fun _ _ => rfl) fun _ _ _ _ h => congrArg (Ans.done · rOk) (if_pos h)

theorem completes_bwClear_one : Completes .bwClear opBwClear (fun _ a => opd a 0x10 2 ≠ 0xFFFF)
    (fun s a => bwClear (opd a 0x10 2) (windowEnd (opd a 0x10 2) s)) (fun _ _ => rOk) :=
  completes_of (fun _ _ => rfl) fun _ s _ _ h =>
    congrArg (fun l => Ans.done (forEach l s (fun p t => bwClear p (windowEnd p t))) rOk) (if_neg (mt beq_iff_eq.1 h))

/-- The port number 0xFFFF names every port. -/
theorem completes_bwClear_all : Completes .bwClear opBwClear (fun _ a => opd a 0x10 2 = 0xFFFF)
    (fun s _ => forEach (List.range 512) s (fun p t => bwClear p (windowEnd p t))) (fun _ _ => rOk) :=
  completes_of (fun _ _ => rfl) fun _ s _ _ h =>
    congrArg (fun l => Ans.done (forEach l s (fun p t => bwClear p (windowEnd p t))) rOk) (if_pos (beq_iff_eq.2 h))

/-! ## Runs and counters (R482, R484) -/

theorem acts_pmuRunSwitch_keeps (g : Fin 16) (x : PmuRun) (hx : x.clear = false) : Acts (.pmuRunSwitch g)
    (fun s => tabGet s.pmuRuns (g.val, 0) = some x ∧ x.time ≤ localTime s) (fun s =>
      let run := (runGroups x.mask).foldl (fun v q => if x.start = true then setBit v q else clrBit v q) (rd s PMU_STATUS.RUNNING 0)
      complete (waitsOn 0xB1 [x.mask]) rOk
        (wr (pendShow { s with pmuRuns := (runGroups x.mask).foldl (fun t q => tabDel t (q, 0)) s.pmuRuns }) PMU_STATUS.RUNNING 0 run)) :=
  fun s ⟨hrun, hdue⟩ => by
    change Host.Outcome.next (runSwitch g.val s) = _
    simp only [runSwitch, hrun, if_neg (Nat.not_lt.2 hdue), hx, Bool.false_eq_true, if_false]

theorem acts_pmuRunSwitch_clears (g : Fin 16) (x : PmuRun) (hx : x.clear = true) : Acts (.pmuRunSwitch g)
    (fun s => tabGet s.pmuRuns (g.val, 0) = some x ∧ x.time ≤ localTime s) (fun s =>
      let run := (runGroups x.mask).foldl (fun v q => if x.start = true then setBit v q else clrBit v q) (rd s PMU_STATUS.RUNNING 0)
      let s1 := pendShow { s with pmuRuns := (runGroups x.mask).foldl (fun t q => tabDel t (q, 0)) s.pmuRuns }
      complete (waitsOn 0xB1 [x.mask]) rOk (wr (groupsZero s1 x.mask) PMU_STATUS.RUNNING 0 run)) :=
  fun s ⟨hrun, hdue⟩ => by
    change Host.Outcome.next (runSwitch g.val s) = _
    simp only [runSwitch, hrun, if_neg (Nat.not_lt.2 hdue), hx, if_true]

theorem acts_pmuRunSwitch_early (g : Fin 16) (x : PmuRun) : Acts (.pmuRunSwitch g)
    (fun s => tabGet s.pmuRuns (g.val, 0) = some x ∧ localTime s < x.time) (fun s => s) :=
  fun s ⟨hrun, hearly⟩ => by
    change Host.Outcome.next (runSwitch g.val s) = _
    simp only [runSwitch, hrun, if_pos hearly]

theorem runSwitch_none {s : State} {q : Nat} (h : tabGet s.pmuRuns (q, 0) = none) : runSwitch q s = s := by
  simp only [runSwitch, h]

/-- With no increment in transit, a run that is due switches before the count is written. -/
theorem exec_pmuCounterWrite_count (n : Fin 512) (v : BitVec 48) (s : State) :
    exec (.pmuCounterWrite n (some v) none 0) s =
      .next (wr (runSwitch (rd s PMU_CFG.GROUP n.val) s) PMU_CTR.COUNT n.val v.toNat) := rfl

theorem acts_pmuCounterWrite_both (n : Fin 512) (v : BitVec 48) (o : BitVec 8) :
    Acts (.pmuCounterWrite n (some v) (some o) 0)
    (fun s => tabGet s.pmuRuns (rd s PMU_CFG.GROUP n.val, 0) = none)
    (fun s => wrs s [(PMU_CTR.COUNT, n.val, v.toNat), (PMU_CTR.OVF, n.val, o.toNat)]) :=
  fun s h => by
    have hrun : exec (.pmuCounterWrite n (some v) (some o) 0) s = .next (wrs (runSwitch (rd s PMU_CFG.GROUP n.val) s)
      [(PMU_CTR.COUNT, n.val, v.toNat), (PMU_CTR.OVF, n.val, o.toNat)]) := rfl
    rw [hrun, runSwitch_none h]

theorem acts_pmuCounterWrite_count (n : Fin 512) (v : BitVec 48) : Acts (.pmuCounterWrite n (some v) none 0)
    (fun s => tabGet s.pmuRuns (rd s PMU_CFG.GROUP n.val, 0) = none) (fun s => wr s PMU_CTR.COUNT n.val v.toNat) :=
  fun s h => by rw [exec_pmuCounterWrite_count, runSwitch_none h]

/-! ## Bandwidth windows (R487) -/

theorem windowOver_iff {s : State} {p : Nat} : windowOver s p = true ↔
    rd s PMU_BW.W_US p ≠ 0 ∧ rd s PMU_BW.W_US p * 3125 ≤ (rd s HID.TICKS 0 - rd s HID.BW_AT p) * 4 := by
  simp [windowOver]

theorem windowEnd_running {s : State} {p : Nat} (h : ¬ windowOver s p = true) : windowEnd p s = s := if_pos (by simp [h])

theorem acts_bwWindowEnd_off (p : Port) : Acts (.bwWindowEnd p) (fun s => rd s PMU_BW.W_US p.val = 0) (fun s => s) :=
  .of_next (fun _ => rfl) fun _ h => windowEnd_running fun ho => (windowOver_iff.1 ho).1 h

theorem acts_bwWindowEnd_early (p : Port) : Acts (.bwWindowEnd p)
    (fun s => (rd s HID.TICKS 0 - rd s HID.BW_AT p.val) * 4 < rd s PMU_BW.W_US p.val * 3125) (fun s => s) :=
  .of_next (fun _ => rfl) fun _ h => windowEnd_running fun ho => Nat.not_le.2 h (windowOver_iff.1 ho).2

theorem acts_bwWindowEnd_over (p : Port) : Acts (.bwWindowEnd p)
    (fun s => rd s PMU_BW.W_US p.val ≠ 0 ∧
      rd s PMU_BW.W_US p.val * 3125 ≤ (rd s HID.TICKS 0 - rd s HID.BW_AT p.val) * 4) (fun s =>
    let s1 := bwShow s p.val (rd s HID.BW_RX p.val) PMU_BW.RX_LAST PMU_BW.RX_LAST_SEQ PMU_BW.RX_MIN PMU_BW.RX_MIN_SEQ PMU_BW.RX_MAX
      PMU_BW.RX_MAX_SEQ
    let s2 := bwShow s1 p.val (rd s HID.BW_TX p.val) PMU_BW.TX_LAST PMU_BW.TX_LAST_SEQ PMU_BW.TX_MIN PMU_BW.TX_MIN_SEQ PMU_BW.TX_MAX
      PMU_BW.TX_MAX_SEQ
    wrs s2 [(HID.BW_RX, p.val, 0), (HID.BW_TX, p.val, 0), (HID.BW_SEQ, p.val, rd s HID.BW_SEQ p.val + 1),
      (HID.BW_AT, p.val, rd s HID.TICKS 0)]) :=
  .of_next (fun _ => rfl) fun _ h => if_neg (by simp [windowOver_iff.2 h])

/-- Settles O58: each command and event with cases by the lemma above for it, the others by their run. -/
theorem performanceMonitorActs : Obligations.PerformanceMonitorActs :=
  ⟨⟨completes_of (fun _ _ => rfl) fun _ _ _ _ _ => rfl, startsWait_pmuRun, completes_pmuRun_empty,
    completes_of (fun _ _ => rfl) fun _ _ _ _ _ => rfl, completes_traceCtrl_keeps, completes_traceCtrl_clears,
    completes_of (fun _ _ => rfl) fun _ _ _ _ _ => rfl, completes_bwClear_one, completes_bwClear_all⟩,
   acts_pmuRunSwitch_keeps, acts_pmuRunSwitch_clears, acts_pmuRunSwitch_early, acts_pmuCounterWrite_both,
   acts_pmuCounterWrite_count, fun n v s _ => exec_pmuCounterWrite_count n v s, acts_bwWindowEnd_off,
   acts_bwWindowEnd_early, acts_bwWindowEnd_over⟩

end Sys2Proof

/-! PROOFS. Corridors: starts, markers, packets, control messages and the replacement of lanes. -/

namespace Sys2Proof

open Sys2Proof.Machine

/-! ## Starts (R492, R493) -/

theorem attemptFail_again {s : State} {c : Nat} (h : rd s HID.DDL_TRIES c < 2) : attemptFail s c =
    wrs s [(HID.DDL_TRIES, c, rd s HID.DDL_TRIES c + 1), (DDL_STAT.STATE, 2 * c, 1), (DDL_STAT.STATE, 2 * c + 1, 1),
      (DDL_STAT.ATTEMPT, 2 * c, rd s HID.DDL_TRIES c + 2), (DDL_STAT.ATTEMPT, 2 * c + 1, rd s HID.DDL_TRIES c + 2)] :=
  if_neg (by omega)

/-- The third failed attempt holds the corridor. -/
theorem attemptFail_third {s : State} {c : Nat} (h : 2 ≤ rd s HID.DDL_TRIES c) : attemptFail s c =
    holdCorridor raise (wr s HID.DDL_TRIES c 0) c :=
  if_pos (by omega)

theorem acts_corridorStart_locks (c : Corridor) (d : Fin 2) (skew : BitVec 9) (peak : BitVec 5) (hskew : skew.toNat ≤ 256) :
    Acts (.corridorStart c d [] skew peak) (fun s => rd s DDL_STAT.STATE (2 * c.val + d.val) = 1)
    (fun s => dirStart s (2 * c.val + d.val) [] skew.toNat (min 16 peak.toNat)) :=
  .of_next (fun _ => rfl) fun s h => by
    have hlost : (startFailed s (2 * c.val + d.val) []).filter
        (fun x => rd s DDL_LANE.STATE ((2 * c.val + d.val) * 1056 + x) == 0) = [] := rfl
    exact (if_neg (by simp [h])).trans (if_neg (by simp [hlost, hskew]))

theorem acts_corridorStart_skewed (c : Corridor) (d : Fin 2) (failed : List (Fin 1056)) (skew : BitVec 9) (peak : BitVec 5)
    (hskew : 256 < skew.toNat) : Acts (.corridorStart c d failed skew peak)
    (fun s => rd s DDL_STAT.STATE (2 * c.val + d.val) = 1) (fun s => attemptFail s c.val) :=
  .of_next (fun _ => rfl) fun _ h => (if_neg (by simp [h])).trans (if_pos (by simp [hskew]))

theorem acts_corridorStartTimeout_again (c : Corridor) : Acts (.corridorStartTimeout c)
    (fun s => rd s DDL_STAT.STATE (2 * c.val) = 1 ∧ rd s HID.DDL_TRIES c.val < 2)
    (fun s => wrs s [(HID.DDL_TRIES, c.val, rd s HID.DDL_TRIES c.val + 1), (DDL_STAT.STATE, 2 * c.val, 1),
      (DDL_STAT.STATE, 2 * c.val + 1, 1), (DDL_STAT.ATTEMPT, 2 * c.val, rd s HID.DDL_TRIES c.val + 2),
      (DDL_STAT.ATTEMPT, 2 * c.val + 1, rd s HID.DDL_TRIES c.val + 2)]) :=
  .of_next (fun _ => rfl) fun _ ⟨hst, htries⟩ => (if_pos (by simp [hst])).trans (attemptFail_again htries)

theorem acts_corridorStartTimeout_third (c : Corridor) : Acts (.corridorStartTimeout c)
    (fun s => rd s DDL_STAT.STATE (2 * c.val) = 1 ∧ 2 ≤ rd s HID.DDL_TRIES c.val)
    (fun s => holdCorridor raise (wr s HID.DDL_TRIES c.val 0) c.val) :=
  .of_next (fun _ => rfl) fun _ ⟨hst, htries⟩ => (if_pos (by simp [hst])).trans (attemptFail_third htries)

/-! ## Markers (R494) -/

section
variable (c : Corridor) (d : Fin 2) (x : Fin 1056)

/-- A marker due on a DATA lane of a direction that is up is seen or missed. -/
theorem exec_corridorMarkerRx {s : State} (seen ok : Bool) (hup : dirUp s (2 * c.val + d.val) = true)
    (hdata : rd s DDL_LANE.STATE ((2 * c.val + d.val) * 1056 + x.val) = 0) :
    exec (.corridorMarkerRx c d x seen ok) s = .next (
      let dd := 2 * c.val + d.val
      let i := dd * 1056 + x.val
      if seen then
        let s1 := wr s HID.DDL_MISS i 0
        if ok then s1 else laneErr s1 dd x.val
      else if rd s HID.DDL_MISS i == 1 then laneLost (bump (wr s HID.DDL_MISS i 0) DDL_CNT.LOCK_LOSS dd) dd x.val
      else wr s HID.DDL_MISS i 1) :=
  congrArg Host.Outcome.next (if_neg (by simp [hup, hdata]))

theorem acts_corridorMarkerRx_seen : Acts (.corridorMarkerRx c d x true true)
    (fun s => dirUp s (2 * c.val + d.val) = true ∧ rd s DDL_LANE.STATE ((2 * c.val + d.val) * 1056 + x.val) = 0)
    (fun s => wr s HID.DDL_MISS ((2 * c.val + d.val) * 1056 + x.val) 0) :=
  fun _ ⟨hup, hdata⟩ => exec_corridorMarkerRx c d x true true hup hdata

theorem acts_corridorMarkerRx_errored : Acts (.corridorMarkerRx c d x true false)
    (fun s => dirUp s (2 * c.val + d.val) = true ∧ rd s DDL_LANE.STATE ((2 * c.val + d.val) * 1056 + x.val) = 0)
    (fun s => laneErr (wr s HID.DDL_MISS ((2 * c.val + d.val) * 1056 + x.val) 0) (2 * c.val + d.val) x.val) :=
  fun _ ⟨hup, hdata⟩ => exec_corridorMarkerRx c d x true false hup hdata

theorem acts_corridorMarkerRx_missed (ok : Bool) : Acts (.corridorMarkerRx c d x false ok)
    (fun s => dirUp s (2 * c.val + d.val) = true ∧ rd s DDL_LANE.STATE ((2 * c.val + d.val) * 1056 + x.val) = 0 ∧
      rd s HID.DDL_MISS ((2 * c.val + d.val) * 1056 + x.val) = 0)
    (fun s => wr s HID.DDL_MISS ((2 * c.val + d.val) * 1056 + x.val) 1) :=
  fun _ ⟨hup, hdata, hmiss⟩ =>
    (exec_corridorMarkerRx c d x false ok hup hdata).trans (congrArg _ ((if_neg Bool.false_ne_true).trans (if_neg (by simp [hmiss]))))

/-- The second marker missed in a row loses the lane. -/
theorem acts_corridorMarkerRx_lost (ok : Bool) : Acts (.corridorMarkerRx c d x false ok)
    (fun s => dirUp s (2 * c.val + d.val) = true ∧ rd s DDL_LANE.STATE ((2 * c.val + d.val) * 1056 + x.val) = 0 ∧
      rd s HID.DDL_MISS ((2 * c.val + d.val) * 1056 + x.val) = 1)
    (fun s => laneLost (bump (wr s HID.DDL_MISS ((2 * c.val + d.val) * 1056 + x.val) 0) DDL_CNT.LOCK_LOSS (2 * c.val + d.val))
      (2 * c.val + d.val) x.val) :=
  fun _ ⟨hup, hdata, hmiss⟩ =>
    (exec_corridorMarkerRx c d x false ok hup hdata).trans (congrArg _ ((if_neg Bool.false_ne_true).trans (if_pos (beq_iff_eq.2 hmiss))))

end

/-! ## Packets and control messages (R495) -/

theorem acts_corridorPacketRx_intact (c : Corridor) (n : Nat) (k : Pkt) (d : Nat) : Acts (.corridorPacketRx c n true)
    (fun s => pktOf s n = some k ∧ crosses c.val k = some d)
    (fun s => perf s { perfE 0x40 1 with kind := 4, index := c.val }) :=
  fun s ⟨hpkt, hcross⟩ => by
    change execCorridorPacketRx c n true s = _
    simp only [execCorridorPacketRx, hpkt, hcross, Option.bind_some, Option.map_some, if_true]

theorem acts_corridorPacketRx_discards (c : Corridor) (n : Nat) (k : Pkt) (d : Nat) : Acts (.corridorPacketRx c n false)
    (fun s => pktOf s n = some k ∧ crosses c.val k = some d)
    (fun s => faultC (0xA60 + c.val) (bump (losePkt (perf s { perfE 0x40 1 with kind := 4, index := c.val }) k) DDL_CNT.CRC_DROP
      (2 * c.val + d))) :=
  fun s ⟨hpkt, hcross⟩ => by
    change execCorridorPacketRx c n false s = _
    simp only [execCorridorPacketRx, hpkt, hcross, Option.bind_some, Option.map_some, Bool.false_eq_true, if_false]

theorem acts_ctrlMsgRetry_again (c : Corridor) (d : Fin 2) : Acts (.ctrlMsgRetry c d false)
    (fun s => rd s HID.DDL_RETRY (2 * c.val + d.val) < 15)
    (fun s => wr (perf (emit (bump s DDL_CNT.CTRL_RETRY (2 * c.val + d.val)) (.ctrlResend c.val d.val))
      { perfE 0x41 1 with kind := 4, index := c.val }) HID.DDL_RETRY (2 * c.val + d.val)
        (rd s HID.DDL_RETRY (2 * c.val + d.val) + 1)) :=
  .of_next (fun _ => rfl) fun _ h => (if_neg Bool.false_ne_true).trans (if_neg (by omega))

/-- The 16th failure in a row is a contained fault. -/
theorem acts_ctrlMsgRetry_fails (c : Corridor) (d : Fin 2) : Acts (.ctrlMsgRetry c d false)
    (fun s => 15 ≤ rd s HID.DDL_RETRY (2 * c.val + d.val))
    (fun s => faultK (0xA20 + c.val) (wr (perf (emit (bump s DDL_CNT.CTRL_RETRY (2 * c.val + d.val)) (.ctrlResend c.val d.val))
      { perfE 0x41 1 with kind := 4, index := c.val }) HID.DDL_RETRY (2 * c.val + d.val) 0)) :=
  .of_next (fun _ => rfl) fun _ h => (if_neg Bool.false_ne_true).trans (if_pos (by omega))

/-! ## Replacement of lanes (R496) -/

theorem acts_corridorLaneReplace_none (c : Corridor) (d : Fin 2) (x : Fin 1056) : Acts (.corridorLaneReplace c d x)
    (fun s => ddlSpare s (2 * c.val + d.val) = none) (fun s => s) :=
  .of_next (fun _ => rfl) fun _ h => if_pos (by simp [h])

theorem acts_corridorLaneReplace_spare (c : Corridor) (d : Fin 2) (x : Fin 1056) : Acts (.corridorLaneReplace c d x)
    (fun s => (ddlSpare s (2 * c.val + d.val)).isSome = true) (fun s => ddlReplace raise s (2 * c.val + d.val) x.val) :=
  .of_next (fun _ => rfl) fun _ h => if_neg (by simpa [Option.isSome_iff_ne_none] using h)

theorem acts_corridorLaneSwitch (c : Corridor) (d : Fin 2) (x y : Nat) : Acts (.corridorLaneSwitch c d)
    (fun s => rd s HID.DDL_FROM (2 * c.val + d.val) = x + 1 ∧ rd s HID.DDL_TO (2 * c.val + d.val) = y + 1) (fun s =>
      let dd := 2 * c.val + d.val
      let s1 := wrs s [(DDL_LANE.STATE, dd * 1056 + y, 0), (DDL_LANE.POS, dd * 1056 + y, rd s DDL_LANE.POS (dd * 1056 + x)),
        (DDL_LANE.STATE, dd * 1056 + x, 3), (DDL_LANE.POS, dd * 1056 + x, 0x7FF),
        (DDL_STAT.SPARES_FREE, dd, rd s DDL_STAT.SPARES_FREE dd - 1), (HID.DDL_FROM, dd, 0), (HID.DDL_TO, dd, 0)]
      ddlNext raise (faultC (0xA40 + c.val) (perf (bump s1 DDL_CNT.REPLACED dd) { perfE 0x43 1 with kind := 4, index := c.val })) dd) :=
  fun s ⟨hfrom, hto⟩ => by
    change execCorridorLaneSwitch c d s = _
    simp only [execCorridorLaneSwitch, hfrom, hto, Nat.add_sub_cancel, beq_false_of_ne (Nat.succ_ne_zero x),
      Bool.false_eq_true, if_false]

/-- Settles O59: each event by the lemma above for its case; a control message that arrives intact by its run. -/
theorem corridorsAct : Obligations.CorridorsAct :=
  ⟨⟨acts_corridorStart_locks, acts_corridorStart_skewed, acts_corridorStartTimeout_again, acts_corridorStartTimeout_third,
    acts_corridorMarkerRx_seen, acts_corridorMarkerRx_errored, acts_corridorMarkerRx_missed, acts_corridorMarkerRx_lost⟩,
   acts_corridorPacketRx_intact, acts_corridorPacketRx_discards, fun _ _ => .of_next (fun _ => rfl) fun _ _ => rfl,
   acts_ctrlMsgRetry_again, acts_ctrlMsgRetry_fails, acts_corridorLaneReplace_none, acts_corridorLaneReplace_spare,
   acts_corridorLaneSwitch⟩

end Sys2Proof
